-- ==== Sys2Proof/Word.lean ====
section
/-!
DEFINITION. Sys2Proof/Word.lean: the word types of the SK5120: bytes, and the 32-bit words of a Skenar core.
-/

namespace Sys2Proof

/-- A byte of memory or of a message. -/
abbrev Byte := BitVec 8

/-- A Skenar core register or instruction word (R242, R244). -/
abbrev W32 := BitVec 32

end Sys2Proof
end

