-- ==== Sys2Proof/Syntax.lean ====
section
/-!
DEFINITION. The commands of the block: one constructor per row of the opcode table, with the row's operands.
A command of a core (`c`) is the issue of that instruction by core `c` (0 to 511): its fields are those of the word. An
event of the outside world carries what the outside world supplies: a frame's bytes, a card's character, what a line of
memory is found to hold.
-/

namespace Sys2Proof

/-- A disturbance of a transfer on the bus (R33): the part it meets (0 the request, 1 a beat written, 2 the response or a beat
returned), the beat, the bits changed in the message and the code after it, and the agent ID of the target's side. -/
structure BusErr where
  part : Nat
  beat : Nat
  bits : List Byte
  side : Nat
  deriving DecidableEq, Repr

/-- What the device finds at power-up: whether every rail is in range, and what is broken in it, one bit each (log 43). -/
structure PowerUp where
  rails : Bool
  defects : Nat
  deriving DecidableEq, Repr

/-- What a CASE pin shows: its rest level, its fault level, or a pulse back at rest (R433). -/
inductive CasePin where
  | rest | high | pulse
  deriving DecidableEq, Repr

/-- What one firing takes: the first `events` events registered, of which the first `steps` steps of the response are executed
at once (R438, R440). -/
structure FireTurn where
  events : Nat
  steps : Nat
  deriving DecidableEq, Repr

/-- What a card sends: bytes, and the check code received with them (R530). -/
structure CardSent where
  data : List Byte
  crc : Nat
  deriving DecidableEq, Repr

/-- A command, an event or an instruction of the machine. -/
inductive Instr where
  /-- REGISTER_WRITE (R12) -/
  | registerWrite (addr : Nat) (value : Nat)
  /-- TRANSFER (R35) -/
  | transfer (agent : Nat) (who : Nat) (job : Nat) (type : Nat) (addr : Nat) (len : Nat) (data : List Byte) (cond : Nat) (bus : Option BusErr) (later : Bool)
  /-- MAIN_POWER_UP (R69) -/
  | mainPowerUp (found : PowerUp)
  /-- PWR_OK_LOW (R72) -/
  | pwrOkLow
  /-- BEDROCK_CHANGEOVER (R74) -/
  | bedrockChangeover (vbat : Bool)
  /-- BEDROCK_TRIP (R74) -/
  | bedrockTrip
  /-- CRYSTAL_FAIL (R89) -/
  | crystalFail
  /-- CRYSTAL_RECOVER (R89) -/
  | crystalRecover
  /-- TIME_PAIR_LATCH (R92) -/
  | timePairLatch
  /-- TIME_SET (R93) -/
  | timeSet (value : Nat)
  /-- TIME_ALARM_MATCH (R103) -/
  | timeAlarmMatch
  /-- DOZE_IDLE_EXPIRY (R97) -/
  | dozeIdleExpiry (p : Nat)
  /-- NAP_IDLE_EXPIRY (R97) -/
  | napIdleExpiry (p : Nat)
  /-- SPIRE_TRANSITION_END (R96) -/
  | spireTransitionEnd (p : Nat)
  /-- PWR_CEIL_WRITE (R101) -/
  | pwrCeilWrite (ceil : Nat)
  /-- PWR_CEIL_FORCE (R108) -/
  | pwrCeilForce (ceil : Nat)
  /-- PWR_BUDGET_WRITE (R101) -/
  | pwrBudgetWrite (us : Nat)
  /-- DEEP_IDLE_EXPIRY (R100) -/
  | deepIdleExpiry
  /-- HOLD_READY (R108) -/
  | holdReady
  /-- RAILS_IN_RANGE (R70) -/
  | railsInRange
  /-- NRESET_LOW (R113) -/
  | nresetLow
  /-- SWRESET (R113) -/
  | swreset
  /-- BOOT_READY (R118) -/
  | bootReady
  /-- BOOT_WATCHDOG_EXPIRY (R123) -/
  | bootWatchdogExpiry
  /-- RST_CONFIRM (R122) -/
  | rstConfirm
  /-- RST_CONFIRM_RAISE (R122) -/
  | rstConfirmRaise
  /-- LIFECYCLE_ADVANCE (R126) -/
  | lifecycleAdvance (key : Nat) (target : Nat)
  /-- FUSE_PROGRAM_END (R126) -/
  | fuseProgramEnd
  /-- MGT_READ (R128) -/
  | mgtRead (addr : Nat) (words : Nat) (complete : Bool)
  /-- MGT_WRITE (R128) -/
  | mgtWrite (addr : Nat) (words : List Nat) (crc : Nat) (complete : Bool)
  /-- MGT_QSTAT (R128) -/
  | mgtQstat
  /-- WAKE (R130) -/
  | wake
  /-- RESET_DEVICE (R130) -/
  | resetDevice
  /-- BOOT_SELECT (R130) -/
  | bootSelect (arg : Nat)
  /-- CLEAR_ALERT (R130) -/
  | clearAlert (mask : Nat)
  /-- READ_EVIDENCE (R130) -/
  | readEvidence (page : Nat)
  /-- RECOVER_COMMIT (R124) -/
  | recoverCommit (len : Nat)
  /-- CLEAR_ERR (R130) -/
  | clearErr
  /-- MGT_COMMAND_DONE (R576) -/
  | mgtCommandDone
  /-- NWAKE_LOW (R132) -/
  | nwakeLow
  /-- STB_START (R157) -/
  | stbStart (abrupt : Bool) (dome : Nat)
  /-- STB_ABORT (R157) -/
  | stbAbort
  /-- STB_NONE (R159) -/
  | stbNone
  /-- SPIRE_RELOAD (R164) -/
  | spireReload (p : Nat)
  /-- SPIRE_RELOAD_END (R164) -/
  | spireReloadEnd (p : Nat)
  /-- DOME_DRAINED (R162) -/
  | domeDrained (d : Nat)
  /-- STB_RAISE_WHOLE (R154) -/
  | stbRaiseWhole
  /-- STB_RAISE_DOMV (R154) -/
  | stbRaiseDomv (d : Nat)
  /-- STB_RAISE_DONE (R154) -/
  | stbRaiseDone
  /-- JOB_REQUEST (R169) -/
  | jobRequest
  /-- PAYLOAD_PLACED (R186) -/
  | payloadPlaced
  /-- JOB_START (R186) -/
  | jobStart (c : Nat)
  /-- PREEMPTION_END (R236) -/
  | preemptionEnd (c : Nat)
  /-- BEST_ASSIGN (R187) -/
  | bestAssign (c : Nat)
  /-- BEST_RESUME (R238) -/
  | bestResume (c : Nat)
  /-- BEST_RESUME_END (R238) -/
  | bestResumeEnd (c : Nat)
  /-- CYCLE_BUDGET_EXPIRY (R189) -/
  | cycleBudgetExpiry (c : Nat)
  /-- COMPLETION_TX (R193) -/
  | completionTx (k : Nat)
  /-- JOURNAL_OPEN (R196) -/
  | journalOpen
  /-- BLOCK_CLOSE (R199) -/
  | blockClose
  /-- JOURNAL_EXPORT (R202) -/
  | journalExport (seq : Nat)
  /-- JOURNAL_SEAL (R201) -/
  | journalSeal
  /-- SCRUB_FREEZE (R219) -/
  | scrubFreeze (p : Nat)
  /-- WAITB (R224) -/
  | waitb (c : Nat) (bit : Nat)
  /-- EXIT (R232) -/
  | exit (c : Nat) (ra : Nat) (rb : Nat)
  /-- ADD (R247) -/
  | add (c : Nat) (rd : Nat) (ra : Nat) (rb : Nat)
  /-- SUB (R247) -/
  | sub (c : Nat) (rd : Nat) (ra : Nat) (rb : Nat)
  /-- AND (R247) -/
  | and (c : Nat) (rd : Nat) (ra : Nat) (rb : Nat)
  /-- OR (R247) -/
  | or (c : Nat) (rd : Nat) (ra : Nat) (rb : Nat)
  /-- XOR (R247) -/
  | xor (c : Nat) (rd : Nat) (ra : Nat) (rb : Nat)
  /-- ANDN (R247) -/
  | andn (c : Nat) (rd : Nat) (ra : Nat) (rb : Nat)
  /-- ORN (R247) -/
  | orn (c : Nat) (rd : Nat) (ra : Nat) (rb : Nat)
  /-- NOR (R247) -/
  | nor (c : Nat) (rd : Nat) (ra : Nat) (rb : Nat)
  /-- MIN (R247) -/
  | min (c : Nat) (rd : Nat) (ra : Nat) (rb : Nat)
  /-- MAX (R247) -/
  | max (c : Nat) (rd : Nat) (ra : Nat) (rb : Nat)
  /-- MINU (R247) -/
  | minu (c : Nat) (rd : Nat) (ra : Nat) (rb : Nat)
  /-- MAXU (R247) -/
  | maxu (c : Nat) (rd : Nat) (ra : Nat) (rb : Nat)
  /-- CLZ (R247) -/
  | clz (c : Nat) (rd : Nat) (ra : Nat)
  /-- POPC (R247) -/
  | popc (c : Nat) (rd : Nat) (ra : Nat)
  /-- BSWAP (R247) -/
  | bswap (c : Nat) (rd : Nat) (ra : Nat)
  /-- SHL (R248) -/
  | shl (c : Nat) (rd : Nat) (ra : Nat) (rb : Nat)
  /-- SHR (R248) -/
  | shr (c : Nat) (rd : Nat) (ra : Nat) (rb : Nat)
  /-- SHA (R248) -/
  | sha (c : Nat) (rd : Nat) (ra : Nat) (rb : Nat)
  /-- ROR (R248) -/
  | ror (c : Nat) (rd : Nat) (ra : Nat) (rb : Nat)
  /-- SHLI (R248) -/
  | shli (c : Nat) (rd : Nat) (ra : Nat) (amount : Nat)
  /-- SHRI (R248) -/
  | shri (c : Nat) (rd : Nat) (ra : Nat) (amount : Nat)
  /-- SHAI (R248) -/
  | shai (c : Nat) (rd : Nat) (ra : Nat) (amount : Nat)
  /-- RORI (R248) -/
  | rori (c : Nat) (rd : Nat) (ra : Nat) (amount : Nat)
  /-- ADDI (R249) -/
  | addi (c : Nat) (rd : Nat) (ra : Nat) (imm16 : Nat)
  /-- ANDI (R249) -/
  | andi (c : Nat) (rd : Nat) (ra : Nat) (imm16 : Nat)
  /-- ORI (R249) -/
  | ori (c : Nat) (rd : Nat) (ra : Nat) (imm16 : Nat)
  /-- XORI (R249) -/
  | xori (c : Nat) (rd : Nat) (ra : Nat) (imm16 : Nat)
  /-- MOVHI (R249) -/
  | movhi (c : Nat) (rd : Nat) (imm16 : Nat)
  /-- EXT (R250) -/
  | ext (c : Nat) (rd : Nat) (ra : Nat) (pos : Nat) (len : Nat) (sign : Bool)
  /-- INS (R250) -/
  | ins (c : Nat) (rd : Nat) (ra : Nat) (pos : Nat) (len : Nat)
  /-- SEL (R251) -/
  | sel (c : Nat) (rd : Nat) (ra : Nat) (rb : Nat) (sbit : Nat)
  /-- MUL (R252) -/
  | mul (c : Nat) (rd : Nat) (ra : Nat) (rb : Nat)
  /-- MULH (R252) -/
  | mulh (c : Nat) (rd : Nat) (ra : Nat) (rb : Nat)
  /-- MULHU (R252) -/
  | mulhu (c : Nat) (rd : Nat) (ra : Nat) (rb : Nat)
  /-- DIV (R252) -/
  | div (c : Nat) (rd : Nat) (ra : Nat) (rb : Nat)
  /-- DIVU (R252) -/
  | divu (c : Nat) (rd : Nat) (ra : Nat) (rb : Nat)
  /-- REM (R252) -/
  | rem (c : Nat) (rd : Nat) (ra : Nat) (rb : Nat)
  /-- REMU (R252) -/
  | remu (c : Nat) (rd : Nat) (ra : Nat) (rb : Nat)
  /-- CMP (R253) -/
  | cmp (c : Nat) (cond : Nat) (bd : Nat) (ra : Nat) (rb : Nat)
  /-- CMPI (R254) -/
  | cmpi (c : Nat) (cond : Nat) (bd : Nat) (ra : Nat) (imm9 : Nat)
  /-- BSET (R255) -/
  | bset (c : Nat) (bit : Nat)
  /-- BCLR (R255) -/
  | bclr (c : Nat) (bit : Nat)
  /-- BINV (R255) -/
  | binv (c : Nat) (bit : Nat)
  /-- BAND (R256) -/
  | band (c : Nat) (bd : Nat) (bs : Nat)
  /-- BOR (R256) -/
  | bor (c : Nat) (bd : Nat) (bs : Nat)
  /-- BXOR (R256) -/
  | bxor (c : Nat) (bd : Nat) (bs : Nat)
  /-- BANDN (R256) -/
  | bandn (c : Nat) (bd : Nat) (bs : Nat)
  /-- BFR (R257) -/
  | bfr (c : Nat) (rd : Nat) (len : Nat) (bit : Nat)
  /-- TAS (R258) -/
  | tas (c : Nat) (rd : Nat) (off : Nat)
  /-- TAC (R258) -/
  | tac (c : Nat) (rd : Nat) (off : Nat)
  /-- LD_B (R259) -/
  | ldB (c : Nat) (rd : Nat) (ra : Nat) (imm16 : Nat)
  /-- LD_BU (R259) -/
  | ldBu (c : Nat) (rd : Nat) (ra : Nat) (imm16 : Nat)
  /-- LD_H (R259) -/
  | ldH (c : Nat) (rd : Nat) (ra : Nat) (imm16 : Nat)
  /-- LD_HU (R259) -/
  | ldHu (c : Nat) (rd : Nat) (ra : Nat) (imm16 : Nat)
  /-- LD_W (R259) -/
  | ldW (c : Nat) (rd : Nat) (ra : Nat) (imm16 : Nat)
  /-- LD_D (R259) -/
  | ldD (c : Nat) (rd : Nat) (ra : Nat) (imm16 : Nat)
  /-- ST_B (R259) -/
  | stB (c : Nat) (rd : Nat) (ra : Nat) (imm16 : Nat)
  /-- ST_H (R259) -/
  | stH (c : Nat) (rd : Nat) (ra : Nat) (imm16 : Nat)
  /-- ST_W (R259) -/
  | stW (c : Nat) (rd : Nat) (ra : Nat) (imm16 : Nat)
  /-- ST_D (R259) -/
  | stD (c : Nat) (rd : Nat) (ra : Nat) (imm16 : Nat)
  /-- LUT (R264) -/
  | lut (c : Nat) (rd : Nat) (ra : Nat) (rb : Nat)
  /-- LUTI (R264) -/
  | luti (c : Nat) (rd : Nat) (ra : Nat) (rb : Nat)
  /-- CTLUT (R265) -/
  | ctlut (c : Nat) (rd : Nat) (ra : Nat) (rb : Nat) (n : Nat) (w : Nat) (sign : Bool)
  /-- J (R261) -/
  | j (c : Nat) (target : Nat)
  /-- JAL (R261) -/
  | jal (c : Nat) (rd : Nat) (target : Nat)
  /-- JR (R261) -/
  | jr (c : Nat) (ra : Nat)
  /-- JALR (R261) -/
  | jalr (c : Nat) (rd : Nat) (ra : Nat)
  /-- BT (R261) -/
  | bt (c : Nat) (bs : Nat) (target : Nat)
  /-- BF (R261) -/
  | bf (c : Nat) (bs : Nat) (target : Nat)
  /-- BZ (R261) -/
  | bz (c : Nat) (ra : Nat) (target : Nat)
  /-- BNZ (R261) -/
  | bnz (c : Nat) (ra : Nat) (target : Nat)
  /-- LOOP (R262) -/
  | loop (c : Nat) (l : Nat) (le : Nat) (count : Nat)
  /-- LOOPR (R262) -/
  | loopr (c : Nat) (l : Nat) (le : Nat) (ra : Nat)
  /-- MFLB (R262) -/
  | mflb (c : Nat) (l : Nat) (rd : Nat)
  /-- MFLE (R262) -/
  | mfle (c : Nat) (l : Nat) (rd : Nat)
  /-- MFLC (R262) -/
  | mflc (c : Nat) (l : Nat) (rd : Nat)
  /-- MTLC (R262) -/
  | mtlc (c : Nat) (l : Nat) (ra : Nat)
  /-- SUBMIT (R266) -/
  | submit (c : Nat) (pool : Nat) (ticket : Nat) (ra : Nat)
  /-- NOP (R269) -/
  | nop (c : Nat)
  /-- TRAP (R269) -/
  | trap (c : Nat) (n : Nat)
  /-- CX (R271) -/
  | cx (c : Nat) (n : Nat) (rd : Nat) (ra : Nat) (rb : Nat) (imm7 : Nat)
  /-- ILLEGAL (R242) -/
  | illegal (c : Nat)
  /-- PATROL_SCRUB (R287) -/
  | patrolScrub (cond : Nat)
  /-- RECOLOUR_CLEAR (R288) -/
  | recolourClear (colour : Nat)
  /-- RECOLOUR_REENCRYPT (R288) -/
  | recolourReencrypt (colour : Nat)
  /-- SWEEP_LINE (R289) -/
  | sweepLine (cond : Nat)
  /-- MMU_TDATA_WRITE (R292) -/
  | mmuTdataWrite (value : Nat)
  /-- MOVER_GRANULE (R295) -/
  | moverGranule (p : Nat) (ch : Nat)
  /-- MMU_REQ_APPEND (R296) -/
  | mmuReqAppend
  /-- MMU_REQ_POP (R296) -/
  | mmuReqPop
  /-- DESCRIPTOR_RESUME (R297) -/
  | descriptorResume (p : Nat) (n : Nat)
  /-- REGION_ARM (R305) -/
  | regionArm
  /-- RESTORE_GO (R307) -/
  | restoreGo (d : Nat) (r : Nat)
  /-- RESTORE_END (R307) -/
  | restoreEnd (lane : Nat)
  /-- ART_COPY (R322) -/
  | artCopy
  /-- ART_COPY_END (R322) -/
  | artCopyEnd
  /-- ART_RULE_WRITE (R323) -/
  | artRuleWrite (which : Nat) (value : Nat)
  /-- ART_SWITCH (R324) -/
  | artSwitch
  /-- ART_DRAINED (R324) -/
  | artDrained
  /-- FAULT_REGISTER (R331) -/
  | faultRegister
  /-- GRACE_EXPIRY (R331) -/
  | graceExpiry (d : Nat) (k : Nat)
  /-- QUIET_EXPIRY (R331) -/
  | quietExpiry (d : Nat) (k : Nat)
  /-- FCU_ACK (R331) -/
  | fcuAck (d : Nat) (k : Nat)
  /-- FCU_RETIRE (R336) -/
  | fcuRetire (p : Nat)
  /-- ENGINE_DISPATCH (R342) -/
  | engineDispatch (pool : Nat) (e : Nat)
  /-- SYM_YIELD (R343) -/
  | symYield (e : Nat)
  /-- SYM_COMMAND_END (R345) -/
  | symCommandEnd (e : Nat)
  /-- DIG_COMMAND_END (R345) -/
  | digCommandEnd (e : Nat)
  /-- AES_ECB_ENC (R360) -/
  | aesEcbEnc (e : Nat)
  /-- AES_ECB_DEC (R360) -/
  | aesEcbDec (e : Nat)
  /-- AES_CBC_ENC (R360) -/
  | aesCbcEnc (e : Nat)
  /-- AES_CBC_DEC (R360) -/
  | aesCbcDec (e : Nat)
  /-- AES_CTR (R360) -/
  | aesCtr (e : Nat)
  /-- AES_GCM_ENC (R360) -/
  | aesGcmEnc (e : Nat)
  /-- AES_GCM_DEC (R360) -/
  | aesGcmDec (e : Nat)
  /-- AES_CMAC_GEN (R360) -/
  | aesCmacGen (e : Nat)
  /-- AES_CMAC_VER (R360) -/
  | aesCmacVer (e : Nat)
  /-- TDES_ECB_ENC (R360) -/
  | tdesEcbEnc (e : Nat)
  /-- TDES_ECB_DEC (R360) -/
  | tdesEcbDec (e : Nat)
  /-- TDES_CBC_ENC (R360) -/
  | tdesCbcEnc (e : Nat)
  /-- TDES_CBC_DEC (R360) -/
  | tdesCbcDec (e : Nat)
  /-- TDES_MAC_GEN (R360) -/
  | tdesMacGen (e : Nat)
  /-- TDES_MAC_VER (R360) -/
  | tdesMacVer (e : Nat)
  /-- FF1_ENC (R360) -/
  | ff1Enc (e : Nat)
  /-- FF1_DEC (R360) -/
  | ff1Dec (e : Nat)
  /-- PIN_TRANSLATE (R366) -/
  | pinTranslate (e : Nat)
  /-- PVF_VERIFY (R366) -/
  | pvfVerify (e : Nat)
  /-- PVF_GENERATE (R366) -/
  | pvfGenerate (e : Nat)
  /-- ARQC_VERIFY (R366) -/
  | arqcVerify (e : Nat)
  /-- ARPC_GENERATE (R366) -/
  | arpcGenerate (e : Nat)
  /-- DUKPT_PIN (R366) -/
  | dukptPin (e : Nat)
  /-- DUKPT_MAC_VER (R366) -/
  | dukptMacVer (e : Nat)
  /-- DUKPT_DEC (R366) -/
  | dukptDec (e : Nat)
  /-- KB_IMPORT (R367) -/
  | kbImport (e : Nat)
  /-- KB_EXPORT (R367) -/
  | kbExport (e : Nat)
  /-- HASH (R369) -/
  | hash (e : Nat)
  /-- HMAC (R369) -/
  | hmac (e : Nat)
  /-- HMAC_VERIFY (R369) -/
  | hmacVerify (e : Nat)
  /-- DIG_INIT (R370) -/
  | digInit (e : Nat)
  /-- DIG_UPDATE (R370) -/
  | digUpdate (e : Nat)
  /-- DIG_FINAL (R370) -/
  | digFinal (e : Nat)
  /-- INSTALL (R354) -/
  | install (index : Nat)
  /-- REPLACE (R354) -/
  | replace (index : Nat)
  /-- REMOVE (R354) -/
  | remove (index : Nat)
  /-- KEY_INST_DONE (R354) -/
  | keyInstDone
  /-- PIN (R357) -/
  | pin (index : Nat)
  /-- UNPIN (R357) -/
  | unpin (index : Nat)
  /-- KEY_FETCH (R356) -/
  | keyFetch (k : Nat)
  /-- KEY_FETCH_END (R356) -/
  | keyFetchEnd (k : Nat)
  /-- PKE_ETU_SCHEDULE (R403) -/
  | pkeEtuSchedule
  /-- PKE_COMMAND_END (R378) -/
  | pkeCommandEnd (job : Nat) (ticket : Nat) (failed : Bool)
  /-- MODPROG (R395) -/
  | modprog (job : Nat) (ticket : Nat)
  /-- KEYGEN (R386) -/
  | keygen (job : Nat) (ticket : Nat)
  /-- SIGN (R386) -/
  | sign (job : Nat) (ticket : Nat)
  /-- VERIFY (R386) -/
  | verify (job : Nat) (ticket : Nat)
  /-- AGREE (R386) -/
  | agree (job : Nat) (ticket : Nat)
  /-- PUBLIC (R386) -/
  | publicKey (job : Nat) (ticket : Nat)
  /-- CURVE_CHECK (R393) -/
  | curveCheck (job : Nat) (ticket : Nat)
  /-- RSA_SIGN (R386) -/
  | rsaSign (job : Nat) (ticket : Nat)
  /-- RSA_VERIFY (R386) -/
  | rsaVerify (job : Nat) (ticket : Nat)
  /-- RSA_DECRYPT (R386) -/
  | rsaDecrypt (job : Nat) (ticket : Nat)
  /-- RSA_ENCRYPT (R386) -/
  | rsaEncrypt (job : Nat) (ticket : Nat)
  /-- PK_IMPORT (R388) -/
  | pkImport (job : Nat) (ticket : Nat)
  /-- ENT_WINDOW_END (R415) -/
  | entWindowEnd (pair : Nat) (bits : List Byte)
  /-- ENT_ESTIMATE_BLOCK (R417) -/
  | entEstimateBlock (pair : Nat)
  /-- RESEED_DUE_TIMER (R419) -/
  | reseedDueTimer
  /-- DRBG_RESEED (R424) -/
  | drbgReseed
  /-- DRBG_SERVE (R423) -/
  | drbgServe
  /-- ENT_RESEED (R419) -/
  | entReseed
  /-- ENT_REQ (R425) -/
  | entReq (units : Nat)
  /-- ENT_REQ_DONE (R425) -/
  | entReqDone
  /-- ENT_SEED_TIMEOUT (R421) -/
  | entSeedTimeout
  /-- ENT_TEST_RAW (R427) -/
  | entTestRaw (pair : Nat)
  /-- ENT_TEST_PATTERN (R427) -/
  | entTestPattern (pair : Nat)
  /-- ENT_TEST_OFF (R427) -/
  | entTestOff (pair : Nat)
  /-- BEDROCK_RESTART (R444) -/
  | bedrockRestart
  /-- TAMPER_ACK (R443) -/
  | tamperAck
  /-- MESH_COMPARE (R432) -/
  | meshCompare (levels : Nat)
  /-- CASE_PULSE (R433) -/
  | casePulse (n : Nat) (pin : CasePin)
  /-- LIGHT_DETECT (R430) -/
  | lightDetect (diode : Nat)
  /-- VGLITCH_DETECT (R430) -/
  | vglitchDetect (rail : Nat) (high : Bool)
  /-- VRANGE_DETECT (R430) -/
  | vrangeDetect (rail : Nat) (high : Bool)
  /-- REFCLK_FAIL (R430) -/
  | refclkFail
  /-- PLL_UNLOCK (R430) -/
  | pllUnlock (which : Nat)
  /-- TEMP_READING (R430) -/
  | tempReading (tj : Nat)
  /-- TAMPER_FIRING (R438) -/
  | tamperFiring (turn : FireTurn)
  /-- TMP_UNLOCK (R449) -/
  | tmpUnlock (key : Nat) (seq : Nat)
  /-- TMP_FLAGS_CLEAR (R449) -/
  | tmpFlagsClear (flags : Nat)
  /-- EVIDENCE_CLEAR (R449) -/
  | evidenceClear
  /-- LINK_DOWN (R455) -/
  | linkDown (k : Nat)
  /-- LINK_UP (R455) -/
  | linkUp (k : Nat)
  /-- FRAME_RECEIVE (R456) -/
  | frameReceive (k : Nat) (corr : Nat) (bad : Bool) (frame : List Byte)
  /-- ARP_REQUEST (R457) -/
  | arpRequest
  /-- NEIGHBOUR_SOLICITATION (R457) -/
  | neighbourSolicitation
  /-- ECHO_REQUEST (R457) -/
  | echoRequest
  /-- NEIGHBOUR_TIMEOUT (R490) -/
  | neighbourTimeout
  /-- NEIGHBOUR_EXPIRY (R457) -/
  | neighbourExpiry
  /-- REASSEMBLY_TIMEOUT (R462) -/
  | reassemblyTimeout
  /-- CONTEXT_FETCH (R474) -/
  | contextFetch
  /-- MESSAGE_TX (R475) -/
  | messageTx (k : Nat)
  /-- HELLO_C (R467) -/
  | helloC
  /-- HELLO_D (R476) -/
  | helloD
  /-- FINISH_C (R467) -/
  | finishC
  /-- READY (R476) -/
  | ready
  /-- REJECT (R476) -/
  | reject
  /-- REKEY_ACK (R469) -/
  | rekeyAck
  /-- REKEY_REQ (R468) -/
  | rekeyReq
  /-- CLOSE (R470) -/
  | close
  /-- PING (R470) -/
  | ping
  /-- PONG (R470) -/
  | pong
  /-- QUERY (R471) -/
  | query
  /-- APP (R476) -/
  | app
  /-- HANDSHAKE_TIMEOUT (R467) -/
  | handshakeTimeout (ctx : Nat)
  /-- REKEY_TIMEOUT (R469) -/
  | rekeyTimeout (ctx : Nat)
  /-- SESSION_IDLE (R470) -/
  | sessionIdle (ctx : Nat)
  /-- SESSION_EPOCH_DRAINED (R469) -/
  | sessionEpochDrained (ctx : Nat)
  /-- KEEP_OPEN (R476) -/
  | keepOpen (addr : Nat)
  /-- KEEP_TX (R476) -/
  | keepTx (tail : Nat)
  /-- JOIN (R479) -/
  | join
  /-- WELCOME (R479) -/
  | welcome
  /-- BEAT (R480) -/
  | beat
  /-- TIME_Q (R482) -/
  | timeQ
  /-- TIME_R (R482) -/
  | timeR
  /-- KEYSET (R483) -/
  | keyset
  /-- READY_E (R484) -/
  | readyE
  /-- LEAVE (R478) -/
  | leave
  /-- BEAT_TIMER (R480) -/
  | beatTimer
  /-- TIME_Q_TIMER (R482) -/
  | timeQTimer
  /-- MEMBER_LOSS_TIMEOUT (R480) -/
  | memberLossTimeout
  /-- FED_RETRY (R480) -/
  | fedRetry
  /-- STANDBY_TAKEOVER (R481) -/
  | standbyTakeover
  /-- ANNOUNCE (R484) -/
  | announce
  /-- RECLAIM (R481) -/
  | reclaim
  /-- FED_SWITCH (R485) -/
  | fedSwitch
  /-- FED_EPOCH_DRAINED (R485) -/
  | fedEpochDrained
  /-- REKEY (R469) -/
  | rekey
  /-- EPOCH_DONE (R469) -/
  | epochDone
  /-- RECOVER_DATA (R511) -/
  | recoverData (off : Nat)
  /-- PROGRAM (R499) -/
  | program (half : Nat)
  /-- ERASE (R500) -/
  | erase
  /-- BLANK_CHECK (R500) -/
  | blankCheck
  /-- SUSPEND (R503) -/
  | suspend
  /-- RESUME (R503) -/
  | resume
  /-- SWAP (R510) -/
  | swap (twin : Nat)
  /-- FLASH_PULSE_END (R504) -/
  | flashPulseEnd (verified : Bool)
  /-- BLANK_CHECK_END (R500) -/
  | blankCheckEnd
  /-- HOLDOFF_EXPIRY (R503) -/
  | holdoffExpiry
  /-- INFO_RECORD_WRITE (R494) -/
  | infoRecordWrite
  /-- LEDGER_COMPACTION (R507) -/
  | ledgerCompaction
  /-- ICC_ACTIVATE (R517) -/
  | iccActivate (n : Nat)
  /-- ICC_EXCHANGE (R519) -/
  | iccExchange (n : Nat) (clen : Nat)
  /-- ICC_DEACTIVATE (R521) -/
  | iccDeactivate (n : Nat)
  /-- ICC_COMPONENT (R523) -/
  | iccComponent (n : Nat) (index : Nat)
  /-- ICC_CHARACTER_RECEIVE (R519) -/
  | iccCharacterReceive (n : Nat) (b : Byte) (kind : Nat)
  /-- ICC_WAIT_TIMEOUT (R518) -/
  | iccWaitTimeout (n : Nat)
  /-- ICC_CLASS_RETRY (R517) -/
  | iccClassRetry (n : Nat)
  /-- ICC_CLOCK_STOP (R520) -/
  | iccClockStop (n : Nat)
  /-- ICC_CARD_PRESENT (R516) -/
  | iccCardPresent (n : Nat)
  /-- ICC_CARD_REMOVED (R521) -/
  | iccCardRemoved (n : Nat)
  /-- CER_OPEN (R522) -/
  | cerOpen (target : Nat) (n : Nat) (dome : Nat)
  /-- CER_FINISH (R524) -/
  | cerFinish
  /-- CER_CLOSE (R526) -/
  | cerClose
  /-- CER_IMPORT (R525) -/
  | cerImport
  /-- CEREMONY_TIMEOUT (R526) -/
  | ceremonyTimeout
  /-- SDH_INIT (R529) -/
  | sdhInit
  /-- SDH_READ (R531) -/
  | sdhRead
  /-- SDH_WRITE (R531) -/
  | sdhWrite
  /-- SLEEP (R532) -/
  | sleep
  /-- AWAKE (R532) -/
  | awake
  /-- RPMB_COUNTER (R533) -/
  | rpmbCounter
  /-- RPMB_WRITE (R534) -/
  | rpmbWrite
  /-- RPMB_READ (R533) -/
  | rpmbRead
  /-- RPMB_KEY (R533) -/
  | rpmbKey
  /-- CSA_WRITE (R537) -/
  | csaWrite (area : Nat)
  /-- CSA_READ (R536) -/
  | csaRead (area : Nat)
  /-- SETTLE (R534) -/
  | settle
  /-- POWER_OFF (R532) -/
  | powerOff
  /-- SD_RESPONSE (R531) -/
  | sdResponse (kind : Nat) (sent : CardSent)
  /-- SD_WAIT_TIMEOUT (R531) -/
  | sdWaitTimeout
  /-- SD_CARD_PRESENT (R528) -/
  | sdCardPresent
  /-- SD_CARD_REMOVED (R528) -/
  | sdCardRemoved
  /-- CSA_COMMIT (R537) -/
  | csaCommit
  /-- FIELD_DETECT (R544) -/
  | fieldDetect
  /-- FIELD_LOSS (R544) -/
  | fieldLoss
  /-- FIELD_COLLAPSE (R560) -/
  | fieldCollapse
  /-- FIELD_ON (R546) -/
  | fieldOn
  /-- CARRIER_GUARD_END (R546) -/
  | carrierGuardEnd
  /-- CLF_ACTIVATE (R547) -/
  | clfActivate
  /-- CLF_EXCHANGE (R546) -/
  | clfExchange (clen : Nat)
  /-- CLF_AUTH (R550) -/
  | clfAuth
  /-- SECURE_EXCHANGE (R551) -/
  | secureExchange (clen : Nat)
  /-- CLF_DEACTIVATE (R546) -/
  | clfDeactivate
  /-- FIELD_OFF (R546) -/
  | fieldOff
  /-- CLF_FRAME_RECEIVE (R548) -/
  | clfFrameReceive (frame : List Byte) (crc : Nat) (coll : Option Nat)
  /-- CLF_FWT_EXPIRY (R548) -/
  | clfFwtExpiry
  /-- CARRIER_RESET_END (R548) -/
  | carrierResetEnd
  /-- TAG_FRAME_RECEIVE (R552) -/
  | tagFrameReceive (frame : List Byte)
  /-- AUTH_BEGIN (R554) -/
  | authBegin (cla : Nat) (p1 : Nat) (p2 : Nat) (data : List Byte) (le : Option Nat) (jitter : List Byte)
  /-- AUTH_FINISH (R550) -/
  | authFinish (cla : Nat) (p1 : Nat) (p2 : Nat) (data : List Byte)
  /-- END (R551) -/
  | endSession (cla : Nat) (p1 : Nat) (p2 : Nat) (data : List Byte)
  /-- TAG_READ (R555) -/
  | tagRead (cla : Nat) (p1 : Nat) (p2 : Nat) (data : List Byte) (le : Option Nat)
  /-- STATUS (R555) -/
  | status (cla : Nat) (p1 : Nat) (p2 : Nat) (data : List Byte)
  /-- TAG_WRITE (R555) -/
  | tagWrite (cla : Nat) (p1 : Nat) (p2 : Nat) (data : List Byte)
  /-- COMMIT (R559) -/
  | commit (cla : Nat) (p1 : Nat) (p2 : Nat) (data : List Byte)
  /-- ACK (R559) -/
  | ack (cla : Nat) (p1 : Nat) (p2 : Nat) (data : List Byte)
  /-- TAG_BACKOFF_EXPIRY (R554) -/
  | tagBackoffExpiry
  /-- TAG_KEY_LOAD (R553) -/
  | tagKeyLoad (index : Nat)
  /-- TAG_KEY_LOAD_END (R553) -/
  | tagKeyLoadEnd
  /-- TAG_KEY_CLEAR (R553) -/
  | tagKeyClear
  /-- MAILBOX_RELEASE (R559) -/
  | mailboxRelease (mask : Nat)
  /-- MAILBOX_PUBLISH (R559) -/
  | mailboxPublish (mask : Nat) (len : Nat)
  deriving DecidableEq, Repr

end Sys2Proof
end

