-- ==== Sys2Proof/Decode.lean ====
section
/-!
DEFINITION. The words of the opcode table.
-/

namespace Sys2Proof

/-- The command a word of the opcode table spells: the table gives no row any bits, so no word spells one. -/
def decodeTableWord (_nbits _w : Nat) : Option Instr := none

end Sys2Proof
end

