-- ==== Sys2Proof/Config.lean ====
section
/-!
DEFINITION. Sys2Proof/Config.lean: what one device is given and the spec leaves open: free values. None has a body, so
nothing can be proved of a value; each is named in notes/assumptions.
-/

namespace Sys2Proof.Config

/-- The n-th free value drawn: stands for a value the spec leaves open. -/
opaque freeValue : Nat → Nat

/-- The initial value of the bus integrity code (R33). -/
opaque busInit : BitVec 16

/-- The taps of the pattern register that drive the mesh traces (R432): trace k takes the k-th, and no two traces the same. -/
opaque meshTap : Equiv.Perm (Fin 16)

/-- The sectors of flash, outside the twins, where the keep firmware holds its key store (R116, R492). -/
opaque keyStoreSector : Nat → Bool

/-- How many records fit in a sector of the information area, less one (R493, R494), by the first sector of its pair. -/
opaque infoSlots : Nat → Nat

/-- How a byte of the random reserve gives a digit of PIN fill (R361). -/
opaque fillDigit : Nat → Nat

/-- The lengths of the random values that a public-key command draws from its own DRBG (R398), by OP and CURVE, in the order that
the spec leaves open. -/
opaque pkeDraws : Nat → Nat → List Nat

/-- Which of those draws gives a value of the command, by OP, CURVE and the number of the value. -/
opaque pkeTurn : Nat → Nat → Nat → Nat

/-- How the 80 bytes that personalise that DRBG (R398) make the personalisation string, which is at most 48 bytes long. -/
opaque pkePers : List Byte → List Byte

/-- The result of an operation of a modular program (R396) on its operands where a CSWAP has left the modulus slot zero:
the spec states none. -/
opaque modZero : Nat → Nat → Nat → Nat

/-- The device identity key (R116): a private key of P-384 that never leaves the root-key unit. -/
opaque identityKey : Nat

/-- The class that a session opened by the device names to its peer, by its destination address: R476 gives none. -/
opaque openClass : List Byte → Nat

/-- The die's second function-derived share of the storage root key (R116), 32 bytes once fitted. -/
opaque pufShare : List Byte

/-- The 32-bit check value of a storage root key (R116). -/
opaque srkCheck : List Byte → Nat

/-- The key of the wrapped key table (R353), from the storage root key; 32 bytes once fitted. -/
opaque tableKey : List Byte → List Byte

/-- The version of a firmware image whose signature verifies under the owner key hash in fuses (R121), from the cells of
its twin that are not erased, by offset; none where it does not verify. -/
opaque twinVersion : List (Nat × Byte) → Option Nat

/-- The owner key hash in fuses (R121, R136). -/
opaque ownerHash : List Byte

/-- The hash of Kyndiwick's key in fuses, in force in FACTORY (R136). -/
opaque factoryHash : List Byte

end Sys2Proof.Config
end

