-- ==== Sys2Proof/Machine/Bits.lean ====
section
/-!
DEFINITION. Sys2Proof/Machine/Bits.lean: byte order (R8), bit fields (R9) and small list and number helpers used by
every unit, and the sparse tables in which the state keeps registers, memory and per-index data.
-/

namespace Sys2Proof.Machine

/-! ### Byte order (R8: little-endian unless the defining text names another order) -/

/-- The number spelled by bytes, the first the least significant. -/
def ofLE : List Byte → Nat
  | [] => 0
  | b :: bs => b.toNat + 256 * ofLE bs

/-- The `n` little-endian bytes of a number. -/
def toLE : Nat → Nat → List Byte
  | 0, _ => []
  | n + 1, v => BitVec.ofNat 8 v :: toLE n (v / 256)

/-- The number spelled by bytes, the first the most significant. -/
def ofBE (bs : List Byte) : Nat := bs.foldl (fun a b => a * 256 + b.toNat) 0

/-- The `n` big-endian bytes of a number. -/
def toBE (n v : Nat) : List Byte := (toLE n v).reverse

/-- `n` zero bytes. -/
def zeros (n : Nat) : List Byte := List.replicate n 0

/-- Exactly `n` bytes: the bytes given, cut or zero-filled at the end. -/
def fitBytes (n : Nat) (bs : List Byte) : List Byte := (bs ++ zeros (n - bs.length)).take n

/-- Bytes `off` to `off + n - 1` of a byte string (shorter where the string ends). -/
def sliceB (bs : List Byte) (off n : Nat) : List Byte := (bs.drop off).take n

/-- The little-endian number in bytes `off` to `off + n - 1`. -/
def fld (bs : List Byte) (off n : Nat) : Nat := ofLE (sliceB bs off n)

/-- Every byte is zero. -/
def allZero (bs : List Byte) : Bool := bs.all (· == 0)

/-- Replace bytes from offset `off` on, within the string. -/
def patchB (bs : List Byte) (off : Nat) (new : List Byte) : List Byte :=
  bs.take off ++ new ++ bs.drop (off + new.length)

/-- Bytewise exclusive or. -/
def xorB (a b : List Byte) : List Byte := List.zipWith (· ^^^ ·) a b

/-! ### Bits of numbers (R9) -/

/-- Bits `lo + wd - 1` to `lo` of a number. -/
def bitsOf (v lo wd : Nat) : Nat := v / 2 ^ lo % 2 ^ wd

/-- Bit `i` of a number. -/
def bitOf (v i : Nat) : Bool := v.testBit i

/-- The number whose bits `lo` upwards hold `v` cut to `wd` bits. -/
def place (v lo wd : Nat) : Nat := v % 2 ^ wd * 2 ^ lo

/-- 1 or 0. -/
def b2n (b : Bool) : Nat := if b then 1 else 0

/-- The indices of the set bits of a mask of `n` bits, ascending. -/
def setBits (n m : Nat) : List Nat := (List.range n).filter (fun i => m.testBit i)

/-- `a` rounded up to a multiple of `m`. -/
def roundUp (a m : Nat) : Nat := (a + (m - 1)) / m * m

/-- A counter of `wd` bits that saturates. -/
def satInc (wd v : Nat) : Nat := if v + 1 < 2 ^ wd then v + 1 else 2 ^ wd - 1

/-- The value a two's complement number of `wd` bits stands for. -/
def asSigned (wd v : Nat) : Int := if v % 2 ^ wd < 2 ^ (wd - 1) then (v % 2 ^ wd : Nat) else (v % 2 ^ wd : Nat) - (2 ^ wd : Nat)

/-! ### Sparse tables: sorted lists of key and value, one entry a key -/

/-- The value a table holds under a key. -/
def tabFind {α : Type} : List (Nat × α) → Nat → Option α
  | [], _ => none
  | (k, v) :: t, x => if k = x then some v else tabFind t x

/-- Put a value under a key, in its sorted place. -/
def tabIns {α : Type} : List (Nat × α) → Nat → α → List (Nat × α)
  | [], x, v => [(x, v)]
  | (k, w) :: t, x, v =>
    if x < k then (x, v) :: (k, w) :: t else if x = k then (x, v) :: t else (k, w) :: tabIns t x v

/-- Take a key out. -/
def tabDel {α : Type} (t : List (Nat × α)) (x : Nat) : List (Nat × α) := t.filter (fun e => e.1 ≠ x)

/-- The value under a key, or the default of keys not listed. -/
def tabGet {α : Type} (d : α) (t : List (Nat × α)) (x : Nat) : α := (tabFind t x).getD d

/-- Write a value under a key, listing no entry equal to the default. -/
def tabSet {α : Type} [DecidableEq α] (d : α) (t : List (Nat × α)) (x : Nat) (v : α) : List (Nat × α) :=
  if v = d then tabDel t x else tabIns t x v

/-- Keys strictly rise. -/
def tabSorted {α : Type} : List (Nat × α) → Bool
  | [] => true
  | [_] => true
  | a :: b :: t => decide (a.1 < b.1) && tabSorted (b :: t)

/-- Insert a number into a rising list without repeats. -/
def insNat : List Nat → Nat → List Nat
  | [], x => [x]
  | k :: t, x => if x < k then x :: k :: t else if x = k then k :: t else k :: insNat t x

end Sys2Proof.Machine
end

