-- ==== Sys2Proof/Machine/Operands.lean ====
section
/-!
DEFINITION. Sys2Proof/Machine/Operands.lean: the Skenar instruction words (spec/08_core_instructions.md): the operand
forms of R242 to R273 as one type, and the reading of a 32-bit word. A word that R243 does not list, or that has a
field with a value the chapter does not define, reads as nothing (ILLEGAL, R242).
-/

namespace Sys2Proof.Machine

/-- The ALU operations of R247. -/
inductive AluF where
  | add | sub | band | bor | bxor | andn | orn | nor | smin | smax | umin | umax | clz | popc | bswap
  deriving DecidableEq, Repr

/-- The shifts of R248. -/
inductive ShF where
  | shl | shr | sha | ror
  deriving DecidableEq, Repr

/-- The operations of MULDIV (R252). -/
inductive MulF where
  | mul | mulh | mulhu | div | divu | rem | remu
  deriving DecidableEq, Repr

/-- The conditions of R253. -/
inductive Cond where
  | eq | ne | lt | ge | ltu | geu | gt | le | gtu | leu | tst | ntst
  deriving DecidableEq, Repr

/-- BITOP (R255). -/
inductive BitF where
  | bset | bclr | binv
  deriving DecidableEq, Repr

/-- BLOG (R256). -/
inductive BlogF where
  | band | bor | bxor | bandn
  deriving DecidableEq, Repr

/-- The loads of R259. -/
inductive LdF where
  | b | bu | h | hu | w | d
  deriving DecidableEq, Repr

/-- The stores of R259. -/
inductive StF where
  | b | h | w | d
  deriving DecidableEq, Repr

/-- An instruction word with its fields, as the layouts of chapter 8 name them. -/
inductive Op where
  | alu (f : AluF) (rd ra rb : Nat)
  | shift (f : ShF) (rd ra rb : Nat)
  | shiftI (f : ShF) (rd ra amount : Nat)
  | muldiv (f : MulF) (rd ra rb : Nat)
  | aluI (f : AluF) (rd ra imm : Nat)
  | movhi (rd imm : Nat)
  | ext (rd ra pos len : Nat) (sign : Bool)
  | ins (rd ra pos len : Nat)
  | sel (rd ra rb bit : Nat)
  | cmp (c : Cond) (bd ra rb : Nat)
  | cmpi (c : Cond) (bd ra imm9 : Nat)
  | bitop (f : BitF) (bit : Nat)
  | blog (f : BlogF) (bd bs : Nat)
  | bfr (rd w bit : Nat)
  | atom (set : Bool) (rd offset : Nat)
  | load (f : LdF) (rd ra imm : Nat)
  | store (f : StF) (rd ra imm : Nat)
  | lut (rd ra rb : Nat)
  | luti (rd ra rb : Nat)
  | ctlut (rd ra rb n w : Nat) (sign : Bool)
  | j (target : Nat)
  | jal (rd target : Nat)
  | jr (ra : Nat)
  | jalr (rd ra : Nat)
  | bt (bs target : Nat)
  | bf (bs target : Nat)
  | bz (ra target : Nat)
  | bnz (ra target : Nat)
  | loop (l le count : Nat)
  | loopr (l le ra : Nat)
  | mflb (l rd : Nat)
  | mfle (l rd : Nat)
  | mflc (l rd : Nat)
  | mtlc (l ra : Nat)
  | submit (pool ticket ra : Nat)
  | waitb (bit : Nat)
  | nop
  | exit (ra rb : Nat)
  | trap (n : Nat)
  | cx (n rd ra rb imm7 : Nat)
  deriving DecidableEq, Repr

/-- ALU FUNC of R247; CLZ, POPC and BSWAP want rb = 0. -/
def decAlu (func rd ra rb : Nat) : Option Op :=
  match func with
  | 0 => some (.alu .add rd ra rb)
  | 1 => some (.alu .sub rd ra rb)
  | 2 => some (.alu .band rd ra rb)
  | 3 => some (.alu .bor rd ra rb)
  | 4 => some (.alu .bxor rd ra rb)
  | 5 => some (.alu .andn rd ra rb)
  | 6 => some (.alu .orn rd ra rb)
  | 7 => some (.alu .nor rd ra rb)
  | 8 => some (.alu .smin rd ra rb)
  | 9 => some (.alu .smax rd ra rb)
  | 10 => some (.alu .umin rd ra rb)
  | 11 => some (.alu .umax rd ra rb)
  | 12 => if rb = 0 then some (.alu .clz rd ra 0) else none
  | 13 => if rb = 0 then some (.alu .popc rd ra 0) else none
  | 14 => if rb = 0 then some (.alu .bswap rd ra 0) else none
  | _ => none

/-- FUNC of R248. -/
def decShF : Nat → Option ShF
  | 0 => some .shl
  | 1 => some .shr
  | 2 => some .sha
  | 3 => some .ror
  | _ => none

/-- FUNC of R252. -/
def decMulF : Nat → Option MulF
  | 0 => some .mul
  | 1 => some .mulh
  | 2 => some .mulhu
  | 4 => some .div
  | 5 => some .divu
  | 6 => some .rem
  | 7 => some .remu
  | _ => none

/-- COND of R253. -/
def decCond : Nat → Option Cond
  | 0 => some .eq
  | 1 => some .ne
  | 2 => some .lt
  | 3 => some .ge
  | 4 => some .ltu
  | 5 => some .geu
  | 6 => some .gt
  | 7 => some .le
  | 8 => some .gtu
  | 9 => some .leu
  | 10 => some .tst
  | 11 => some .ntst
  | _ => none

/-- FUNC of R255. -/
def decBitF : Nat → Option BitF
  | 0 => some .bset
  | 1 => some .bclr
  | 2 => some .binv
  | _ => none

/-- FUNC of R256 (two bits, all four defined). -/
def decBlogF : Nat → BlogF
  | 0 => .band
  | 1 => .bor
  | 2 => .bxor
  | _ => .bandn

/-- The loop-register forms of R262. -/
def decLreg (l func reg : Nat) : Option Op :=
  if l = 3 then none else
  match func with
  | 0 => some (.mflb l reg)
  | 1 => some (.mfle l reg)
  | 2 => some (.mflc l reg)
  | 3 => some (.mtlc l reg)
  | _ => none

/-- The SYS forms of R269. -/
def decSys (w : Nat) : Option Op :=
  match bitsOf w 22 4 with
  | 0 => if bitsOf w 0 22 = 0 then some .nop else none
  | 1 => if bitsOf w 21 1 = 0 ∧ bitsOf w 0 11 = 0 then some (.exit (bitsOf w 16 5) (bitsOf w 11 5)) else none
  | 2 => if bitsOf w 8 14 = 0 then some (.trap (bitsOf w 0 8)) else none
  | _ => none

/-- An instruction word read by the layouts of chapter 8 (R242, R243); nothing where it is undefined. -/
def decodeCore (w : Nat) : Option Op :=
  let rd := bitsOf w 21 5
  let ra := bitsOf w 16 5
  let rb := bitsOf w 11 5
  let imm := bitsOf w 0 16
  let tgt := bitsOf w 0 14
  match bitsOf w 26 6 with
  | 0x01 => if bitsOf w 4 7 = 0 then decAlu (bitsOf w 0 4) rd ra rb else none
  | 0x02 => if bitsOf w 4 7 = 0 then (decShF (bitsOf w 0 4)).map (fun f => .shift f rd ra rb) else none
  | 0x03 => if bitsOf w 4 7 = 0 then (decMulF (bitsOf w 0 4)).map (fun f => .muldiv f rd ra rb) else none
  | 0x04 => some (.aluI .add rd ra imm)
  | 0x05 => some (.aluI .band rd ra imm)
  | 0x06 => some (.aluI .bor rd ra imm)
  | 0x07 => some (.aluI .bxor rd ra imm)
  | 0x08 => if ra = 0 then some (.movhi rd imm) else none
  | 0x09 => if bitsOf w 7 9 = 0 then (decShF (bitsOf w 5 2)).map (fun f => .shiftI f rd ra (bitsOf w 0 5)) else none
  | 0x0A => if bitsOf w 0 5 = 0 then some (.ext rd ra (bitsOf w 11 5) (bitsOf w 6 5 + 1) (bitOf w 5)) else none
  | 0x0B => if bitsOf w 0 6 = 0 then some (.ins rd ra (bitsOf w 11 5) (bitsOf w 6 5 + 1)) else none
  | 0x0C => some (.sel rd ra rb (bitsOf w 0 11))
  | 0x0D => (decCond (bitsOf w 22 4)).map (fun c => .cmp c (bitsOf w 10 12) (bitsOf w 5 5) (bitsOf w 0 5))
  | 0x10 => some (.cmpi .eq (bitsOf w 14 12) (bitsOf w 9 5) (bitsOf w 0 9))
  | 0x11 => some (.cmpi .ne (bitsOf w 14 12) (bitsOf w 9 5) (bitsOf w 0 9))
  | 0x12 => some (.cmpi .lt (bitsOf w 14 12) (bitsOf w 9 5) (bitsOf w 0 9))
  | 0x13 => some (.cmpi .ge (bitsOf w 14 12) (bitsOf w 9 5) (bitsOf w 0 9))
  | 0x14 => some (.cmpi .ltu (bitsOf w 14 12) (bitsOf w 9 5) (bitsOf w 0 9))
  | 0x15 => some (.cmpi .geu (bitsOf w 14 12) (bitsOf w 9 5) (bitsOf w 0 9))
  | 0x16 => some (.cmpi .gt (bitsOf w 14 12) (bitsOf w 9 5) (bitsOf w 0 9))
  | 0x17 => some (.cmpi .le (bitsOf w 14 12) (bitsOf w 9 5) (bitsOf w 0 9))
  | 0x18 => if bitsOf w 16 8 = 0 then (decBitF (bitsOf w 24 2)).map (fun f => .bitop f imm) else none
  | 0x19 => some (.blog (decBlogF (bitsOf w 24 2)) (bitsOf w 12 12) (bitsOf w 0 12))
  | 0x1A => some (.bfr rd (bitsOf w 16 5 + 1) imm)
  | 0x1B => if bitsOf w 15 5 = 0 ∧ bitsOf w 0 15 < 28672 then some (.atom (! bitOf w 20) rd (bitsOf w 0 15)) else none
  | 0x1C => if bitsOf w 16 10 = 0 then some (.waitb imm) else none
  | 0x20 => some (.load .b rd ra imm)
  | 0x21 => some (.load .bu rd ra imm)
  | 0x22 => some (.load .h rd ra imm)
  | 0x23 => some (.load .hu rd ra imm)
  | 0x24 => some (.load .w rd ra imm)
  | 0x25 => if rd % 2 = 0 then some (.load .d rd ra imm) else none
  | 0x28 => some (.store .b rd ra imm)
  | 0x29 => some (.store .h rd ra imm)
  | 0x2A => some (.store .w rd ra imm)
  | 0x2B => if rd % 2 = 0 then some (.store .d rd ra imm) else none
  | 0x2C => if bitsOf w 0 11 = 0 then some (.lut rd ra rb) else none
  | 0x2D => if bitsOf w 0 11 = 0 then some (.luti rd ra rb) else none
  | 0x2E => if bitsOf w 0 2 = 0 ∧ bitsOf w 3 2 ≠ 3 then
      some (.ctlut rd ra rb (bitsOf w 5 6 + 1) (bitsOf w 3 2) (bitOf w 2)) else none
  | 0x30 => if bitsOf w 14 12 = 0 then some (.j tgt) else none
  | 0x31 => if bitsOf w 14 7 = 0 then some (.jal rd tgt) else none
  | 0x32 => if bitsOf w 21 5 = 0 ∧ imm = 0 then some (.jr ra) else none
  | 0x33 => if imm = 0 then some (.jalr rd ra) else none
  | 0x34 => some (.bt (bitsOf w 14 12) tgt)
  | 0x35 => some (.bf (bitsOf w 14 12) tgt)
  | 0x36 => if bitsOf w 14 7 = 0 then some (.bz rd tgt) else none
  | 0x37 => if bitsOf w 14 7 = 0 then some (.bnz rd tgt) else none
  | 0x38 => if bitsOf w 24 2 = 3 then none else some (.loop (bitsOf w 24 2) (bitsOf w 10 14) (bitsOf w 0 10))
  | 0x39 => if bitsOf w 24 2 = 3 ∨ bitsOf w 5 5 ≠ 0 then none else
      some (.loopr (bitsOf w 24 2) (bitsOf w 10 14) (bitsOf w 0 5))
  | 0x3A => if imm ≠ 0 then none else decLreg (bitsOf w 24 2) (bitsOf w 21 3) (bitsOf w 16 5)
  | 0x3B => if bitsOf w 5 11 = 0 then some (.submit (bitsOf w 24 2) (bitsOf w 16 8) (bitsOf w 0 5)) else none
  | 0x3C => decSys w
  | 0x3E => some (.cx (bitsOf w 22 4) (bitsOf w 17 5) (bitsOf w 12 5) (bitsOf w 7 5) (bitsOf w 0 7))
  | _ => none

/-! ### Encoding (R242 to R270) -/

/-- The FUNC of an ALU operation (R247). -/
def encAlu : AluF → Nat
  | .add => 0
  | .sub => 1
  | .band => 2
  | .bor => 3
  | .bxor => 4
  | .andn => 5
  | .orn => 6
  | .nor => 7
  | .smin => 8
  | .smax => 9
  | .umin => 10
  | .umax => 11
  | .clz => 12
  | .popc => 13
  | .bswap => 14

/-- The FUNC of a shift (R248). -/
def encShF : ShF → Nat
  | .shl => 0
  | .shr => 1
  | .sha => 2
  | .ror => 3

/-- The FUNC of MULDIV (R252). -/
def encMulF : MulF → Nat
  | .mul => 0
  | .mulh => 1
  | .mulhu => 2
  | .div => 4
  | .divu => 5
  | .rem => 6
  | .remu => 7

/-- The code of a condition (R253). -/
def encCond : Cond → Nat
  | .eq => 0
  | .ne => 1
  | .lt => 2
  | .ge => 3
  | .ltu => 4
  | .geu => 5
  | .gt => 6
  | .le => 7
  | .gtu => 8
  | .leu => 9
  | .tst => 10
  | .ntst => 11

/-- The FUNC of BITOP (R255). -/
def encBitF : BitF → Nat
  | .bset => 0
  | .bclr => 1
  | .binv => 2

/-- The FUNC of BLOG (R256). -/
def encBlogF : BlogF → Nat
  | .band => 0
  | .bor => 1
  | .bxor => 2
  | .bandn => 3

/-- The opcode of an ALU operation with an immediate (R249). -/
def encAluI : AluF → Nat
  | .add => 0x04
  | .band => 0x05
  | .bor => 0x06
  | _ => 0x07

/-- The opcode of a load (R259). -/
def encLd : LdF → Nat
  | .b => 0x20
  | .bu => 0x21
  | .h => 0x22
  | .hu => 0x23
  | .w => 0x24
  | .d => 0x25

/-- The opcode of a store (R259). -/
def encSt : StF → Nat
  | .b => 0x28
  | .h => 0x29
  | .w => 0x2A
  | .d => 0x2B

/-- A word of an opcode and fields, each at its lowest bit. -/
def encFields (op : Nat) (fs : List (Nat × Nat)) : Nat := fs.foldl (fun w f => w + f.1 * 2 ^ f.2) (op * 2 ^ 26)

/-- The word of an instruction, by the layouts of chapter 8. -/
def encodeCore : Op → Nat
  | .alu f rd ra rb => encFields 0x01 [(rd, 21), (ra, 16), (rb, 11), (encAlu f, 0)]
  | .shift f rd ra rb => encFields 0x02 [(rd, 21), (ra, 16), (rb, 11), (encShF f, 0)]
  | .muldiv f rd ra rb => encFields 0x03 [(rd, 21), (ra, 16), (rb, 11), (encMulF f, 0)]
  | .aluI f rd ra imm => encFields (encAluI f) [(rd, 21), (ra, 16), (imm, 0)]
  | .movhi rd imm => encFields 0x08 [(rd, 21), (imm, 0)]
  | .shiftI f rd ra n => encFields 0x09 [(rd, 21), (ra, 16), (encShF f, 5), (n, 0)]
  | .ext rd ra pos len sign => encFields 0x0A [(rd, 21), (ra, 16), (pos, 11), (len - 1, 6), (b2n sign, 5)]
  | .ins rd ra pos len => encFields 0x0B [(rd, 21), (ra, 16), (pos, 11), (len - 1, 6)]
  | .sel rd ra rb bit => encFields 0x0C [(rd, 21), (ra, 16), (rb, 11), (bit, 0)]
  | .cmp c bd ra rb => encFields 0x0D [(encCond c, 22), (bd, 10), (ra, 5), (rb, 0)]
  | .cmpi c bd ra imm => encFields (0x10 + encCond c) [(bd, 14), (ra, 9), (imm, 0)]
  | .bitop f bit => encFields 0x18 [(encBitF f, 24), (bit, 0)]
  | .blog f bd bs => encFields 0x19 [(encBlogF f, 24), (bd, 12), (bs, 0)]
  | .bfr rd w bit => encFields 0x1A [(rd, 21), (w - 1, 16), (bit, 0)]
  | .atom set rd off => encFields 0x1B [(rd, 21), (b2n (!set), 20), (off, 0)]
  | .waitb bit => encFields 0x1C [(bit, 0)]
  | .load f rd ra imm => encFields (encLd f) [(rd, 21), (ra, 16), (imm, 0)]
  | .store f rd ra imm => encFields (encSt f) [(rd, 21), (ra, 16), (imm, 0)]
  | .lut rd ra rb => encFields 0x2C [(rd, 21), (ra, 16), (rb, 11)]
  | .luti rd ra rb => encFields 0x2D [(rd, 21), (ra, 16), (rb, 11)]
  | .ctlut rd ra rb n w sign => encFields 0x2E [(rd, 21), (ra, 16), (rb, 11), (n - 1, 5), (w, 3), (b2n sign, 2)]
  | .j t => encFields 0x30 [(t, 0)]
  | .jal rd t => encFields 0x31 [(rd, 21), (t, 0)]
  | .jr ra => encFields 0x32 [(ra, 16)]
  | .jalr rd ra => encFields 0x33 [(rd, 21), (ra, 16)]
  | .bt b t => encFields 0x34 [(b, 14), (t, 0)]
  | .bf b t => encFields 0x35 [(b, 14), (t, 0)]
  | .bz ra t => encFields 0x36 [(ra, 21), (t, 0)]
  | .bnz ra t => encFields 0x37 [(ra, 21), (t, 0)]
  | .loop l le count => encFields 0x38 [(l, 24), (le, 10), (count, 0)]
  | .loopr l le ra => encFields 0x39 [(l, 24), (le, 10), (ra, 0)]
  | .mflb l rd => encFields 0x3A [(l, 24), (0, 21), (rd, 16)]
  | .mfle l rd => encFields 0x3A [(l, 24), (1, 21), (rd, 16)]
  | .mflc l rd => encFields 0x3A [(l, 24), (2, 21), (rd, 16)]
  | .mtlc l ra => encFields 0x3A [(l, 24), (3, 21), (ra, 16)]
  | .submit pool ticket ra => encFields 0x3B [(pool, 24), (ticket, 16), (ra, 0)]
  | .nop => encFields 0x3C []
  | .exit ra rb => encFields 0x3C [(1, 22), (ra, 16), (rb, 11)]
  | .trap n => encFields 0x3C [(2, 22), (n, 0)]
  | .cx n rd ra rb imm => encFields 0x3E [(n, 22), (rd, 17), (ra, 12), (rb, 7), (imm, 0)]

/-- Every field of an instruction is within its width, and has a value the layouts define (R242 to R270). -/
def Op.wf : Op → Bool
  | .alu f rd ra rb =>
    decide (rd < 32) && decide (ra < 32) && decide (rb < 32) && (rb == 0 || (f != .clz && f != .popc && f != .bswap))
  | .shift _ rd ra rb => decide (rd < 32) && decide (ra < 32) && decide (rb < 32)
  | .shiftI _ rd ra n => decide (rd < 32) && decide (ra < 32) && decide (n < 32)
  | .muldiv _ rd ra rb => decide (rd < 32) && decide (ra < 32) && decide (rb < 32)
  | .aluI f rd ra imm =>
    decide (rd < 32) && decide (ra < 32) && decide (imm < 65536) && (f == .add || f == .band || f == .bor || f == .bxor)
  | .movhi rd imm => decide (rd < 32) && decide (imm < 65536)
  | .ext rd ra pos len _ => decide (rd < 32) && decide (ra < 32) && decide (pos < 32) && decide (0 < len) && decide (len < 33)
  | .ins rd ra pos len => decide (rd < 32) && decide (ra < 32) && decide (pos < 32) && decide (0 < len) && decide (len < 33)
  | .sel rd ra rb bit => decide (rd < 32) && decide (ra < 32) && decide (rb < 32) && decide (bit < 2048)
  | .cmp _ bd ra rb => decide (bd < 4096) && decide (ra < 32) && decide (rb < 32)
  | .cmpi c bd ra imm => decide (encCond c < 8) && decide (bd < 4096) && decide (ra < 32) && decide (imm < 512)
  | .bitop _ bit => decide (bit < 65536)
  | .blog _ bd bs => decide (bd < 4096) && decide (bs < 4096)
  | .bfr rd w bit => decide (rd < 32) && decide (0 < w) && decide (w < 33) && decide (bit < 65536)
  | .atom _ rd off => decide (rd < 32) && decide (off < 28672)
  | .load f rd ra imm => decide (rd < 32) && decide (ra < 32) && decide (imm < 65536) && (f != .d || rd % 2 == 0)
  | .store f rd ra imm => decide (rd < 32) && decide (ra < 32) && decide (imm < 65536) && (f != .d || rd % 2 == 0)
  | .lut rd ra rb => decide (rd < 32) && decide (ra < 32) && decide (rb < 32)
  | .luti rd ra rb => decide (rd < 32) && decide (ra < 32) && decide (rb < 32)
  | .ctlut rd ra rb n w _ =>
    decide (rd < 32) && decide (ra < 32) && decide (rb < 32) && decide (0 < n) && decide (n < 65) && decide (w < 3)
  | .j t => decide (t < 16384)
  | .jal rd t => decide (rd < 32) && decide (t < 16384)
  | .jr ra => decide (ra < 32)
  | .jalr rd ra => decide (rd < 32) && decide (ra < 32)
  | .bt b t => decide (b < 4096) && decide (t < 16384)
  | .bf b t => decide (b < 4096) && decide (t < 16384)
  | .bz ra t => decide (ra < 32) && decide (t < 16384)
  | .bnz ra t => decide (ra < 32) && decide (t < 16384)
  | .loop l le count => decide (l < 3) && decide (le < 16384) && decide (count < 1024)
  | .loopr l le ra => decide (l < 3) && decide (le < 16384) && decide (ra < 32)
  | .mflb l rd => decide (l < 3) && decide (rd < 32)
  | .mfle l rd => decide (l < 3) && decide (rd < 32)
  | .mflc l rd => decide (l < 3) && decide (rd < 32)
  | .mtlc l ra => decide (l < 3) && decide (ra < 32)
  | .submit pool ticket ra => decide (pool < 4) && decide (ticket < 256) && decide (ra < 32)
  | .waitb bit => decide (bit < 65536)
  | .nop => true
  | .exit ra rb => decide (ra < 32) && decide (rb < 32)
  | .trap n => decide (n < 256)
  | .cx n rd ra rb imm =>
    decide (n < 16) && decide (rd < 32) && decide (ra < 32) && decide (rb < 32) && decide (imm < 128)

/-! ### What the operations compute (R247 to R256) -/

/-- Leading zero bits of a word, 0 to 32. -/
def clz32 (v : W32) : Nat := 32 - (if v = 0 then 0 else Nat.log2 v.toNat + 1)

/-- Set bits of a word. -/
def popc32 (v : W32) : Nat := ((List.range 32).filter (fun i => v.getLsbD i)).length

/-- The four bytes of a word in reverse order. -/
def bswap32 (v : W32) : W32 :=
  (v &&& 0xFF#32) <<< 24 ||| (v >>> 8 &&& 0xFF#32) <<< 16 ||| (v >>> 16 &&& 0xFF#32) <<< 8 ||| v >>> 24

/-- The ALU (R247). -/
def aluOp (f : AluF) (a b : W32) : W32 :=
  match f with
  | .add => a + b
  | .sub => a - b
  | .band => a &&& b
  | .bor => a ||| b
  | .bxor => a ^^^ b
  | .andn => a &&& ~~~ b
  | .orn => a ||| ~~~ b
  | .nor => ~~~ (a ||| b)
  | .smin => if a.slt b then a else b
  | .smax => if a.slt b then b else a
  | .umin => if a.ult b then a else b
  | .umax => if a.ult b then b else a
  | .clz => BitVec.ofNat 32 (clz32 a)
  | .popc => BitVec.ofNat 32 (popc32 a)
  | .bswap => bswap32 a

/-- The shifts (R248); the amount is 0 to 31. -/
def shOp (f : ShF) (a : W32) (n : Nat) : W32 :=
  match f with
  | .shl => a <<< n
  | .shr => a >>> n
  | .sha => a.sshiftRight n
  | .ror => a.rotateRight n

/-- MULDIV (R252): a division by zero and the overflowing signed division have the results stated there. -/
def mulOp (f : MulF) (a b : W32) : W32 :=
  match f with
  | .mul => a * b
  | .mulh => BitVec.ofInt 32 (a.toInt * b.toInt / (4294967296 : Int))
  | .mulhu => BitVec.ofNat 32 (a.toNat * b.toNat / 4294967296)
  | .div => if b = 0 then 0xFFFFFFFF#32 else BitVec.ofInt 32 (Int.tdiv a.toInt b.toInt)
  | .divu => if b = 0 then 0xFFFFFFFF#32 else BitVec.ofNat 32 (a.toNat / b.toNat)
  | .rem => if b = 0 then a else BitVec.ofInt 32 (Int.tmod a.toInt b.toInt)
  | .remu => if b = 0 then a else BitVec.ofNat 32 (a.toNat % b.toNat)

/-- Whether a condition of R253 holds. -/
def condHolds (c : Cond) (a b : W32) : Bool :=
  match c with
  | .eq => a == b
  | .ne => a != b
  | .lt => a.slt b
  | .ge => b.sle a
  | .ltu => a.ult b
  | .geu => b.ule a
  | .gt => b.slt a
  | .le => a.sle b
  | .gtu => b.ult a
  | .leu => a.ule b
  | .tst => (a &&& b) != 0
  | .ntst => (a &&& b) == 0

/-- The immediate of CMPI: zero-extended for LTU and GEU, sign-extended for the others (R254). -/
def cmpiImm (c : Cond) (imm9 : Nat) : W32 :=
  if c = .ltu ∨ c = .geu then BitVec.ofNat 32 imm9 else (BitVec.ofNat 9 imm9).signExtend 32

/-- EXT (R250): LEN bits of ra, zero-extended to 64 bits, from bit POS up. -/
def extOp (a : W32) (pos len : Nat) (sign : Bool) : W32 :=
  let v := bitsOf a.toNat pos len
  if sign then BitVec.ofInt 32 (asSigned len v) else BitVec.ofNat 32 v

/-- INS (R250): bits POS to POS + LEN - 1 of d replaced by bits LEN - 1 to 0 of a; bits above 31 are discarded. -/
def insOp (d a : W32) (pos len : Nat) : W32 :=
  let m : W32 := BitVec.ofNat 32 ((2 ^ len - 1) * 2 ^ pos)
  (d &&& ~~~ m) ||| (BitVec.ofNat 32 (place a.toNat pos len) &&& m)

/-- BLOG (R256). -/
def blogOp (f : BlogF) (d b : Bool) : Bool :=
  match f with
  | .band => d && b
  | .bor => d || b
  | .bxor => d != b
  | .bandn => d && !b

/-- BITOP (R255). -/
def bitOp (f : BitF) (b : Bool) : Bool :=
  match f with
  | .bset => true
  | .bclr => false
  | .binv => !b

/-- Sign- or zero-extension of a loaded value (R259). -/
def ldExt (f : LdF) (v : Nat) : W32 :=
  match f with
  | .b => BitVec.ofInt 32 (asSigned 8 v)
  | .h => BitVec.ofInt 32 (asSigned 16 v)
  | .bu => BitVec.ofNat 32 (v % 256)
  | .hu => BitVec.ofNat 32 (v % 65536)
  | .w => BitVec.ofNat 32 v
  | .d => BitVec.ofNat 32 v

/-- The sizes of R259. -/
def ldSize : LdF → Nat
  | .b => 1
  | .bu => 1
  | .h => 2
  | .hu => 2
  | .w => 4
  | .d => 8

/-- The sizes of R259. -/
def stSize : StF → Nat
  | .b => 1
  | .h => 2
  | .w => 4
  | .d => 8

/-! ### Custom instructions (R270 to R273) -/

/-- The state of the custom unit while it runs one instruction: t0 to t7 and RES as codes 0 to 8 of R272, and the
latched A, B and IMM. -/
structure CxUnit where
  t : List (Nat × W32) := []
  a : W32
  b : W32
  imm : W32
  deriving DecidableEq, Repr

/-- A source of a lane (R272). -/
def cxSrc (u : CxUnit) (k : W32) (code : Nat) : W32 :=
  if code < 8 then tabGet 0 u.t code
  else if code = 8 then u.a
  else if code = 9 then u.b
  else if code = 10 then u.imm
  else if code = 11 then tabGet 0 u.t 8
  else if code = 12 then k
  else 0

/-- The micro-operation of a lane (R273): the value it writes, or nothing. ADDSH adds `b` shifted left to `a` (DESIGN CHOICE, log 18:
its words can be read as the sum shifted left). -/
def cxLaneVal (op : Nat) (a b : W32) (sh : Nat) : Option W32 :=
  match op with
  | 0x01 => some (a + b)
  | 0x02 => some (a - b)
  | 0x03 => some (a &&& b)
  | 0x04 => some (a ||| b)
  | 0x05 => some (a ^^^ b)
  | 0x06 => some (a &&& ~~~ b)
  | 0x07 => some (a + b <<< sh)
  | 0x08 => some (a <<< sh)
  | 0x09 => some (a >>> sh)
  | 0x0A => some (a.sshiftRight sh)
  | 0x0B => some (a.rotateRight sh)
  | 0x0C => some (a <<< (b.toNat % 32))
  | 0x0D => some (a >>> (b.toNat % 32))
  | 0x0E => some (a.sshiftRight (b.toNat % 32))
  | 0x0F => some (a.rotateRight (b.toNat % 32))
  | 0x10 => some (a * b)
  | 0x11 => some (mulOp .mulhu a b)
  | 0x12 => some (aluOp .smin a b)
  | 0x13 => some (aluOp .smax a b)
  | 0x14 => some (aluOp .umin a b)
  | 0x15 => some (aluOp .umax a b)
  | 0x16 => some (aluOp .clz a b)
  | 0x17 => some (aluOp .popc a b)
  | 0x18 => some (aluOp .bswap a b)
  | 0x19 => some (if a = b then 1 else 0)
  | 0x1A => some (if a.ult b then 1 else 0)
  | 0x1B => some (if a.slt b then 1 else 0)
  | 0x1C => if b.getLsbD sh then some a else none
  | _ => none

/-- The write of a 24-bit lane: destination code and value (R272). -/
def cxLane (u : CxUnit) (k : W32) (lane : Nat) : Option (Nat × W32) :=
  (cxLaneVal (bitsOf lane 18 6) (cxSrc u k (bitsOf lane 10 4)) (cxSrc u k (bitsOf lane 6 4)) (bitsOf lane 1 5)).bind
    (fun v => if bitsOf lane 14 4 ≤ 8 then some (bitsOf lane 14 4, v) else none)

/-- One microword: both lanes read before either writes, and LANE1's write stands over LANE0's (R272). -/
def cxWord (u : CxUnit) (w : Nat) : CxUnit :=
  let k : W32 := BitVec.ofNat 32 (bitsOf w 16 32)
  let put (t : List (Nat × W32)) : Option (Nat × W32) → List (Nat × W32)
    | some (d, v) => tabSet 0 t d v
    | none => t
  { u with t := put (put u.t (cxLane u k (bitsOf w 48 24))) (cxLane u k (bitsOf w 72 24)) }

/-- RES after the microwords given (R271). -/
def cxRun (a b : W32) (imm7 : Nat) (words : List Nat) : W32 :=
  tabGet 0 (words.foldl cxWord { a := a, b := b, imm := BitVec.ofNat 32 imm7 }).t 8

/-! ### Table look-up (R263 to R265) -/

/-- Entry width in bytes of the W field (R263, R265). -/
def lutWidth (w : Nat) : Nat := if w = 0 then 1 else if w = 1 then 2 else 4

/-- Entry `k` of a table's bytes, extended as SIGNED states. -/
def lutEntry (bs : List Byte) (width : Nat) (signed : Bool) (k : Nat) : Int :=
  let v := fld bs (k * width) width
  if signed then asSigned (8 * width) v else v

/-- LUT (R264): `bs` are the table's entries. -/
def lutOp (hdr : Nat) (bs : List Byte) (x : W32) : W32 :=
  let n := bitsOf hdr 0 16
  if n = 0 then 0
  else BitVec.ofInt 32 (lutEntry bs (lutWidth (bitsOf hdr 16 2)) (bitOf hdr 18) (min x.toNat (n - 1)))

/-- LUTI (R264). -/
def lutiOp (hdr : Nat) (bs : List Byte) (x : W32) : W32 :=
  let n := bitsOf hdr 0 16
  let t := lutEntry bs (lutWidth (bitsOf hdr 16 2)) (bitOf hdr 18)
  let p : Nat := 2 ^ min (bitsOf hdr 19 5) 24
  let i := x.toNat / p
  let f := x.toNat - i * p
  if n = 0 then 0
  else if n - 1 ≤ i then BitVec.ofInt 32 (t (n - 1))
  else BitVec.ofInt 32 (t i + ((t (i + 1) - t i) * (f : Int) + ((p / 2 : Nat) : Int)) / (p : Int))

/-- CTLUT (R265): the entry of the index, 0 past the table's end. -/
def ctlutOp (n w : Nat) (signed : Bool) (bs : List Byte) (x : W32) : W32 :=
  let width := lutWidth w
  if x.toNat < n * (32 / width) then BitVec.ofInt 32 (lutEntry bs width signed x.toNat) else 0

end Sys2Proof.Machine
end

