-- ==== Sys2Proof/Machine/Cipher.lean ====
section
/-!
DEFINITION. Sys2Proof/Machine/Cipher.lean: the block ciphers the spec names by standard (spec/11_symmetric_payment_digest.md
R360): AES (FIPS 197) and TDES (NIST SP 800-67). Their tables are those of the standards.
-/

namespace Sys2Proof.Machine

/-! ### AES -/

/-- Multiply by x in the field of AES. -/
def gfX (a : Nat) : Nat := if a < 128 then 2 * a else (2 * a - 256) ^^^ 0x1B

/-- Multiply in the field of AES, over the low `n` bits of the second factor. -/
def gfMul (a b : Nat) : Nat → Nat
  | 0 => 0
  | n + 1 => (if b % 2 = 1 then a else 0) ^^^ gfMul (gfX a) (b / 2) n

/-- The inverse in the field of AES, as the 254th power (0 for 0). -/
def gfInv (a : Nat) : Nat :=
  let m (x y : Nat) : Nat := gfMul x y 8
  let a2 := m a a
  let a4 := m a2 a2
  let a8 := m a4 a4
  let a16 := m a8 a8
  let a32 := m a16 a16
  let a64 := m a32 a32
  m (m (m a2 a4) (m a8 a16)) (m (m a32 a64) (m a64 a64))

/-- Rotate a byte left. -/
def rotB (a n : Nat) : Nat := a * 2 ^ n % 256 + a / 2 ^ (8 - n)

/-- One entry of the S-box. -/
def aesSubCalc (a : Nat) : Nat :=
  let b := gfInv a
  b ^^^ rotB b 1 ^^^ rotB b 2 ^^^ rotB b 3 ^^^ rotB b 4 ^^^ 0x63

/-- The S-box. -/
def aesBox : Array Byte := ((List.range 256).map (fun a => BitVec.ofNat 8 (aesSubCalc a))).toArray

/-- The inverse S-box. -/
def aesInvBox : Array Byte :=
  ((List.range 256).map (fun b => BitVec.ofNat 8 ((List.range 256).find? (fun a => aesSubCalc a == b) |>.getD 0))).toArray

/-- SubBytes of one byte. -/
def aesSub (b : Byte) : Byte := aesBox.getD b.toNat 0

/-- InvSubBytes of one byte. -/
def aesInvSub (b : Byte) : Byte := aesInvBox.getD b.toNat 0

/-- Multiply a byte by a constant. -/
def mulB (k : Nat) (b : Byte) : Byte := BitVec.ofNat 8 (gfMul b.toNat k 4)

/-- One column times a circulant matrix with first row `m`. -/
def mixCol (m : List Nat) (c : List Byte) : List Byte :=
  (List.range 4).map (fun r =>
    (List.range 4).foldl (fun acc j => acc ^^^ mulB (m.getD ((j + 4 - r) % 4) 0) (c.getD j 0)) 0)

/-- Four columns of a state. -/
def mixAll (m : List Nat) (s : List Byte) : List Byte :=
  (List.range 4).flatMap (fun c => mixCol m (sliceB s (4 * c) 4))

/-- ShiftRows by `k` columns a row (1 for encryption, 3 for decryption). -/
def shiftRows (k : Nat) (s : List Byte) : List Byte :=
  (List.range 16).map (fun i => s.getD (4 * ((i / 4 + k * (i % 4)) % 4) + i % 4) 0)

/-- The words of the key schedule, latest first: extend them by `n` words (`nk` words of key). -/
def aesExpand (nk : Nat) : Nat → List (List Byte) → Nat → Nat → List (List Byte)
  | 0, ws, _, _ => ws
  | n + 1, ws, i, rc =>
    let t := ws.headD []
    let t' :=
      if i % nk = 0 then xorB ((t.drop 1 ++ t.take 1).map aesSub) [BitVec.ofNat 8 rc, 0, 0, 0]
      else if 6 < nk ∧ i % nk = 4 then t.map aesSub else t
    aesExpand nk n (xorB (ws.getD (nk - 1) []) t' :: ws) (i + 1) (if i % nk = 0 then gfX rc else rc)

/-- The round keys, first to last. -/
def aesKeys (key : List Byte) : List (List Byte) :=
  let nk := key.length / 4
  let ws := (aesExpand nk (4 * (nk + 7) - nk)
    ((List.range nk).map (fun i => sliceB key (4 * i) 4)).reverse nk 1).reverse
  (List.range (nk + 7)).map (fun r => (ws.drop (4 * r)).take 4 |>.flatten)

/-- AES over the round keys left: the forward cipher. -/
def aesFwd (s : List Byte) : List (List Byte) → List Byte
  | [] => s
  | [k] => xorB (shiftRows 1 (s.map aesSub)) k
  | k :: ks => aesFwd (xorB (mixAll [2, 3, 1, 1] (shiftRows 1 (s.map aesSub))) k) ks

/-- AES over the round keys left, last first: the inverse cipher. -/
def aesBwd (s : List Byte) : List (List Byte) → List Byte
  | [] => s
  | [k] => xorB ((shiftRows 3 s).map aesInvSub) k
  | k :: ks => aesBwd (mixAll [14, 11, 13, 9] (xorB ((shiftRows 3 s).map aesInvSub) k)) ks

/-- AES of one block under a key of 16, 24 or 32 bytes. -/
def aesEnc (key blk : List Byte) : List Byte :=
  match aesKeys key with
  | [] => blk
  | k :: ks => aesFwd (xorB blk k) ks

/-- AES decryption of one block. -/
def aesDec (key blk : List Byte) : List Byte :=
  match (aesKeys key).reverse with
  | [] => blk
  | k :: ks => aesBwd (xorB blk k) ks

/-! ### TDES -/

/-- The bit of a number at position `p` of `n` bits, numbered from 1 at the most significant. -/
def bitAt (n v p : Nat) : Nat := v / 2 ^ (n - p) % 2

/-- Permute the bits of an `n`-bit number by a table of positions. -/
def permBits (n v : Nat) (t : List Nat) : Nat := t.foldl (fun a p => 2 * a + bitAt n v p) 0

/-- Rows of eight positions, each falling by 8: the form of the DES permutations. -/
def downBy8 (starts : List Nat) (n : Nat) : List Nat := starts.flatMap (fun s => (List.range n).map (fun i => s - 8 * i))

/-- The initial permutation. -/
def desIP : List Nat := downBy8 [58, 60, 62, 64, 57, 59, 61, 63] 8

/-- The final permutation. -/
def desFP : List Nat :=
  (List.range 8).flatMap (fun i => [40, 8, 48, 16, 56, 24, 64, 32].map (fun b => b - i))

/-- The expansion E. -/
def desE : List Nat :=
  (List.range 8).flatMap (fun i => (List.range 6).map (fun j => (4 * i + j + 31) % 32 + 1))

/-- The permutation P. -/
def desP : List Nat :=
  [16, 7, 20, 21, 29, 12, 28, 17, 1, 15, 23, 26, 5, 18, 31, 10] ++
  [2, 8, 24, 14, 32, 27, 3, 9, 19, 13, 30, 6, 22, 11, 4, 25]

/-- The permuted choice 1. -/
def desPC1 : List Nat :=
  downBy8 [57, 58, 59] 8 ++ downBy8 [60] 4 ++ downBy8 [63, 62, 61] 8 ++ downBy8 [28] 4

/-- The permuted choice 2. -/
def desPC2 : List Nat :=
  [14, 17, 11, 24, 1, 5, 3, 28, 15, 6, 21, 10, 23, 19, 12, 4, 26, 8, 16, 7, 27, 20, 13, 2] ++
  [41, 52, 31, 37, 47, 55, 30, 40, 51, 45, 33, 48, 44, 49, 39, 56, 34, 53, 46, 42, 50, 36, 29, 32]

/-- The S-boxes, two at a time: four rows of sixteen nibbles each. -/
def desS12 : List (List Nat) :=
  [[0xE4D12FB83A6C5907, 0x0F74E2D1A6CB9538, 0x41E8D62BFC973A50, 0xFC8249175B3EA06D],
   [0xF18E6B34972DC05A, 0x3D47F28EC01A69B5, 0x0E7BA4D158C6932F, 0xD8A13F42B67C05E9]]

/-- S-boxes 3 and 4. -/
def desS34 : List (List Nat) :=
  [[0xA09E63F51DC7B428, 0xD709346A285ECBF1, 0xD6498F30B12C5AE7, 0x1AD069874FE3B52C],
   [0x7DE3069A1285BC4F, 0xD8B56F03472C1AE9, 0xA690CB7DF13E5284, 0x3F06A1D8945BC72E]]

/-- S-boxes 5 and 6. -/
def desS56 : List (List Nat) :=
  [[0x2C417AB6853FD0E9, 0xEB2C47D150FA3986, 0x421BAD78F9C5630E, 0xB8C71E2D6F09A453],
   [0xC1AF92680D34E75B, 0xAF427C9561DE0B38, 0x9EF528C3704A1DB6, 0x432C95FABE17608D]]

/-- S-boxes 7 and 8. -/
def desS78 : List (List Nat) :=
  [[0x4B2EF08D3C975A61, 0xD0B7491AE35C2F86, 0x14BDC37EAF680592, 0x6BD814A7950FE23C],
   [0xD2846FB1A93E50C7, 0x1FD8A374C56B0E92, 0x7B419CE206ADF358, 0x21E74A8DFC90356B]]

/-- The S-boxes. -/
def desS : List (List Nat) := desS12 ++ desS34 ++ desS56 ++ desS78

/-- The round function of DES. -/
def desF (r k : Nat) : Nat :=
  let x := permBits 32 r desE ^^^ k
  let y := (List.range 8).foldl (fun a i =>
    let six := x / 2 ^ (42 - 6 * i) % 64
    let row := (desS.getD i []).getD (six / 32 * 2 + six % 2) 0
    a * 16 + row / 2 ^ (60 - 4 * (six / 2 % 16)) % 16) 0
  permBits 32 y desP

/-- The sixteen round keys of a DES key of 64 bits. -/
def desKeys (key : Nat) : List Nat :=
  let cd := permBits 64 key desPC1
  let rot (v n : Nat) : Nat := v * 2 ^ n % 2 ^ 28 + v / 2 ^ (28 - n)
  [1, 2, 4, 6, 8, 10, 12, 14, 15, 17, 19, 21, 23, 25, 27, 28].map (fun n =>
    permBits 56 (rot (cd / 2 ^ 28) (n % 28) * 2 ^ 28 + rot (cd % 2 ^ 28) (n % 28)) desPC2)

/-- DES of a 64-bit block over round keys in the order given. -/
def desRun (blk : Nat) (ks : List Nat) : Nat :=
  let v := permBits 64 blk desIP
  let e := ks.foldl (fun (lr : Nat × Nat) k => (lr.2, lr.1 ^^^ desF lr.2 k)) (v / 2 ^ 32, v % 2 ^ 32)
  permBits 64 (e.2 * 2 ^ 32 + e.1) desFP

/-- DES of one block. -/
def desEnc (key blk : List Byte) : List Byte := toBE 8 (desRun (ofBE blk) (desKeys (ofBE key)))

/-- DES decryption of one block. -/
def desDec (key blk : List Byte) : List Byte := toBE 8 (desRun (ofBE blk) (desKeys (ofBE key)).reverse)

/-- The third key of a TDES key: the first one again with two keys (R351). -/
def tdesK3 (key : List Byte) : List Byte := if key.length = 16 then sliceB key 0 8 else sliceB key 16 8

/-- TDES of one block under a key of 16 or 24 bytes. -/
def tdesEnc (key blk : List Byte) : List Byte :=
  desEnc (tdesK3 key) (desDec (sliceB key 8 8) (desEnc (sliceB key 0 8) blk))

/-- TDES decryption of one block. -/
def tdesDec (key blk : List Byte) : List Byte :=
  desDec (sliceB key 0 8) (desEnc (sliceB key 8 8) (desDec (tdesK3 key) blk))

end Sys2Proof.Machine
end

