-- ==== Sys2Proof/Machine/Modes.lean ====
section
/-!
DEFINITION. Sys2Proof/Machine/Modes.lean: the modes of the block ciphers the spec names by standard
(spec/11_symmetric_payment_digest.md R350, R353, R360): ECB, CBC, CTR (NIST SP 800-38A), GCM (SP 800-38D), CMAC
(SP 800-38B), KW (SP 800-38F), the counter-mode KDF (SP 800-108), ISO/IEC 9797-1 MACs, FF1 (SP 800-38G), and the
CTR_DRBG of SP 800-90A.
-/

namespace Sys2Proof.Machine

/-- A block cipher under a key, one direction. -/
abbrev BlockFn := List Byte → List Byte

/-- Split bytes into `n`-byte blocks (the last may be short); `k` bounds the blocks. -/
def blocksOf (n : Nat) : Nat → List Byte → List (List Byte)
  | 0, _ => []
  | k + 1, bs => if bs.isEmpty then [] else bs.take n :: blocksOf n k (bs.drop n)

/-- All blocks of `n` bytes. -/
def blocks (n : Nat) (bs : List Byte) : List (List Byte) := blocksOf n (bs.length / n + 1) bs

/-- ECB in one direction. -/
def ecb (f : BlockFn) (n : Nat) (bs : List Byte) : List Byte := (blocks n bs).flatMap f

/-- CBC encryption: the ciphertext blocks and the last block (the next IV). -/
def cbcEncB (f : BlockFn) (iv : List Byte) : List (List Byte) → List Byte × List Byte
  | [] => ([], iv)
  | b :: bs => let c := f (xorB b iv); let r := cbcEncB f c bs; (c ++ r.1, r.2)

/-- CBC decryption: the plaintext blocks and the last ciphertext block (the next IV). -/
def cbcDecB (f : BlockFn) (iv : List Byte) : List (List Byte) → List Byte × List Byte
  | [] => ([], iv)
  | c :: cs => let r := cbcDecB f c cs; (xorB (f c) iv ++ r.1, r.2)

/-- Add 1 to a big-endian counter block, over all its bits. -/
def incBE (c : List Byte) : List Byte := toBE c.length (ofBE c + 1)

/-- CTR over the blocks (R360: a 128-bit counter): the output and the next counter block. -/
def ctrB (f : BlockFn) (c : List Byte) : List (List Byte) → List Byte × List Byte
  | [] => ([], c)
  | b :: bs => let r := ctrB f (incBE c) bs; (xorB b (f c) ++ r.1, r.2)

/-! ### CMAC -/

/-- Double in the field of CMAC, for blocks of `n` bytes. -/
def cmacDbl (n v : Nat) : Nat :=
  let w := 2 * v
  if w < 2 ^ (8 * n) then w else (w - 2 ^ (8 * n)) ^^^ (if n = 16 then 0x87 else 0x1B)

/-- CMAC with a cipher of `n`-byte blocks. -/
def cmac (f : BlockFn) (n : Nat) (m : List Byte) : List Byte :=
  let k1 := cmacDbl n (ofBE (f (zeros n)))
  let nb := max 1 ((m.length + (n - 1)) / n)
  let last := m.drop ((nb - 1) * n)
  let last' :=
    if last.length = n then xorB last (toBE n k1)
    else xorB (fitBytes n (last ++ [0x80])) (toBE n (cmacDbl n k1))
  (cbcEncB f (zeros n) (blocks n (m.take ((nb - 1) * n)) ++ [last'])).2

/-- AES-CMAC. -/
def aesCmac (key m : List Byte) : List Byte := cmac (aesEnc key) 16 m

/-! ### GCM -/

/-- Multiply in the field of GCM (bit 0 the most significant), over the low `n` bits of `x`, taken from the top. -/
def ghMulN (x : Nat) : Nat → Nat → Nat → Nat
  | 0, _, z => z
  | n + 1, v, z =>
    ghMulN x n (if v % 2 = 1 then v / 2 ^^^ 0xE1000000000000000000000000000000 else v / 2)
      (if x.testBit n then z ^^^ v else z)

/-- Multiply in the field of GCM. -/
def ghMul (x h : Nat) : Nat := ghMulN x 128 h 0

/-- GHASH over zero-padded blocks. -/
def ghash (h : Nat) (bs : List (List Byte)) : Nat :=
  bs.foldl (fun y b => ghMul (y ^^^ ofBE (fitBytes 16 b)) h) 0

/-- The key stream blocks of GCM: CTR whose counter wraps in its last 32 bits. -/
def gctr (f : BlockFn) (iv : List Byte) : Nat → List (List Byte) → List Byte
  | _, [] => []
  | c, b :: bs => xorB b (f (iv ++ toBE 4 c)) ++ gctr f iv (c + 1) bs

/-- The full tag of GCM over associated data and ciphertext, with a 12-byte IV. -/
def gcmTag (f : BlockFn) (iv aad ct : List Byte) : List Byte :=
  let h := ofBE (f (zeros 16))
  let s := ghash h (blocks 16 aad ++ blocks 16 ct ++ [toBE 8 (8 * aad.length) ++ toBE 8 (8 * ct.length)])
  xorB (toBE 16 s) (f (iv ++ toBE 4 1))

/-- GCM encryption: the ciphertext and the 16-byte tag. -/
def gcmEnc (f : BlockFn) (iv aad pt : List Byte) : List Byte × List Byte :=
  let ct := gctr f iv 2 (blocks 16 pt)
  (ct, gcmTag f iv aad ct)

/-- GCM decryption: the plaintext and whether the tag (of its own length) matches. -/
def gcmDec (f : BlockFn) (iv aad ct tag : List Byte) : List Byte × Bool :=
  (gctr f iv 2 (blocks 16 ct), (gcmTag f iv aad ct).take tag.length == tag)

/-! ### Key wrap (KW) -/

/-- One step of the wrap: A and the registers, first to last, for step count `t`. -/
def kwStep (f : BlockFn) (t : Nat) (a : List Byte) (r : List (List Byte)) : List Byte × List (List Byte) :=
  match r with
  | [] => (a, [])
  | x :: xs =>
    let b := f (a ++ x)
    (xorB (b.take 8) (toBE 8 t), xs ++ [b.drop 8])

/-- One step of the unwrap: the inverse of `kwStep`. -/
def kwUnstep (f : BlockFn) (t : Nat) (a : List Byte) (r : List (List Byte)) : List Byte × List (List Byte) :=
  match r.getLast? with
  | none => (a, [])
  | some x =>
    let b := f (xorB a (toBE 8 t) ++ x)
    (b.take 8, b.drop 8 :: r.dropLast)

/-- AES-KW of a multiple of 8 bytes (SP 800-38F). -/
def kwWrap (key p : List Byte) : List Byte :=
  let n := p.length / 8
  let r := (List.range (6 * n)).foldl (fun (s : List Byte × List (List Byte)) i => kwStep (aesEnc key) (i + 1) s.1 s.2)
    (List.replicate 8 0xA6, blocks 8 p)
  r.1 ++ r.2.flatten

/-- AES-KW unwrapping; none where the integrity value is wrong. -/
def kwUnwrap (key c : List Byte) : Option (List Byte) :=
  let n := c.length / 8 - 1
  let r := (List.range (6 * n)).foldl
    (fun (s : List Byte × List (List Byte)) i => kwUnstep (aesDec key) (6 * n - i) s.1 s.2)
    (c.take 8, blocks 8 (c.drop 8))
  if r.1 = List.replicate 8 0xA6 then some r.2.flatten else none

/-! ### The counter-mode KDF (SP 800-108) -/

/-- `n` bytes of the counter-mode KDF with AES-256-CMAC. PRESUMED of the standard's choices: a 32-bit counter before
the fixed input, a zero byte between label and context, and the length in bits as 32 bits at the end. -/
def kdfCtr (key label ctx : List Byte) (n : Nat) : List Byte :=
  ((List.range ((n + 15) / 16)).flatMap (fun i =>
    aesCmac key (toBE 4 (i + 1) ++ label ++ [0] ++ ctx ++ toBE 4 (8 * n)))).take n

/-- The bytes of an ASCII string. -/
def ascii (s : String) : List Byte := s.toList.map (fun c => BitVec.ofNat 8 c.toNat)

/-! ### ISO/IEC 9797-1 MACs (R360) -/

/-- Padding method 1 (zeros, at least one block) or 2 (one bit, then zeros), to blocks of 8. -/
def isoPad (method : Nat) (m : List Byte) : List Byte :=
  let p := if method = 2 then m ++ [0x80] else m
  fitBytes (max 8 (roundUp p.length 8)) p

/-- MAC algorithm 1 with a block cipher. -/
def isoMac1 (f : BlockFn) (m : List Byte) : List Byte := (cbcEncB f (zeros 8) (blocks 8 m)).2

/-- MAC algorithm 3 (retail MAC) under a double-length key: single encryption, then the output transformation. -/
def isoMac3 (key m : List Byte) : List Byte :=
  let h := (cbcEncB (desEnc (sliceB key 0 8)) (zeros 8) (blocks 8 m)).2
  desEnc (tdesK3 key) (desDec (sliceB key 8 8) h)

/-! ### FF1 with radix 10 (SP 800-38G) -/

/-- The number spelled by decimal digits, the first the most significant. -/
def ofDigits10 (ds : List Nat) : Nat := ds.foldl (fun a d => 10 * a + d) 0

/-- `n` decimal digits of a number, the most significant first. -/
def digits10 (n v : Nat) : List Nat := ((List.range n).map (fun i => v / 10 ^ i % 10)).reverse

/-- The bytes that hold 10^v − 1: ceil(ceil(v log2 10) / 8). -/
def ff1B (v : Nat) : Nat := ((10 ^ v - 1).log2 + 1 + 7) / 8

/-- The round value y of FF1. -/
def ff1Y (key tweak : List Byte) (n i numB : Nat) : Nat :=
  let u := n / 2
  let v := n - u
  let b := ff1B v
  let d := 4 * ((b + 3) / 4) + 4
  let p := [1, 2, 1] ++ toBE 3 10 ++ [10, BitVec.ofNat 8 (u % 256)] ++ toBE 4 n ++ toBE 4 tweak.length
  let pad := (16 - (tweak.length + b + 1) % 16) % 16
  let q := tweak ++ zeros pad ++ [BitVec.ofNat 8 i] ++ toBE b numB
  let r := (cbcEncB (aesEnc key) (zeros 16) (blocks 16 (p ++ q))).2
  let s := r ++ (List.range ((d + 15) / 16 - 1)).flatMap (fun j => aesEnc key (xorB r (toBE 16 (j + 1))))
  ofBE (s.take d)

/-- FF1 encryption of digits. -/
def ff1Enc (key tweak : List Byte) (x : List Nat) : List Nat :=
  let n := x.length
  let u := n / 2
  let r := (List.range 10).foldl (fun (ab : List Nat × List Nat) i =>
    let m := if i % 2 = 0 then u else n - u
    (ab.2, digits10 m ((ofDigits10 ab.1 + ff1Y key tweak n i (ofDigits10 ab.2)) % 10 ^ m))) (x.take u, x.drop u)
  r.1 ++ r.2

/-- FF1 decryption of digits. -/
def ff1Dec (key tweak : List Byte) (x : List Nat) : List Nat :=
  let n := x.length
  let u := n / 2
  let r := (List.range 10).foldl (fun (ab : List Nat × List Nat) j =>
    let i := 9 - j
    let m := if i % 2 = 0 then u else n - u
    let y := ff1Y key tweak n i (ofDigits10 ab.1) % 10 ^ m
    (digits10 m ((ofDigits10 ab.2 + 10 ^ m - y) % 10 ^ m), ab.1)) (x.take u, x.drop u)
  r.1 ++ r.2

/-! ### CTR_DRBG with AES-256, no derivation function (SP 800-90A) -/

/-- The working state of a CTR_DRBG: key and V. -/
structure Drbg where
  key : List Byte := []
  v : List Byte := []
  deriving DecidableEq, Repr

/-- `n` output blocks from a state: the bytes and V after. -/
def drbgBlocks (key : List Byte) : Nat → List Byte → List Byte × List Byte
  | 0, v => ([], v)
  | n + 1, v => let w := incBE v; let r := drbgBlocks key n w; (aesEnc key w ++ r.1, r.2)

/-- Update with 48 bytes of provided data. -/
def Drbg.update (d : Drbg) (data : List Byte) : Drbg :=
  let t := xorB ((drbgBlocks d.key 3 d.v).1) (fitBytes 48 data)
  { key := t.take 32, v := t.drop 32 }

/-- Instantiate from 48 bytes of entropy input and a personalisation string. -/
def drbgNew (seed pers : List Byte) : Drbg :=
  Drbg.update { key := zeros 32, v := zeros 16 } (xorB (fitBytes 48 seed) (fitBytes 48 pers))

/-- Reseed from 48 bytes of entropy input. -/
def Drbg.reseed (d : Drbg) (seed : List Byte) : Drbg := d.update seed

/-- Generate `n` bytes, without additional input. -/
def Drbg.generate (d : Drbg) (n : Nat) : List Byte × Drbg :=
  let r := drbgBlocks d.key ((n + 15) / 16) d.v
  (r.1.take n, Drbg.update { d with v := r.2 } (zeros 48))

end Sys2Proof.Machine
end

