-- ==== Sys2Proof/Machine/Digest.lean ====
section
/-!
DEFINITION. Sys2Proof/Machine/Digest.lean: SHA-2 (FIPS 180-4) and HMAC (FIPS 198-1), which the digest pool computes
(spec/11_symmetric_payment_digest.md R368), and SHA-1, which the EMV key derivation of R364 uses. The constants are
computed as the standard defines them.
-/

namespace Sys2Proof.Machine

/-- Whether `p` is prime, by trial division. -/
def isPrimeSmall (p : Nat) : Bool := 2 ≤ p && (List.range p).all (fun d => d < 2 || p % d != 0)

/-- The first `n` primes. -/
def primesUpTo (n lim : Nat) : List Nat := ((List.range lim).filter isPrimeSmall).take n

/-- The integer cube root of `v`, bit by bit from bit `k` down. -/
def icbrtN (v : Nat) : Nat → Nat → Nat
  | 0, r => r
  | k + 1, r => if (r + 2 ^ k) ^ 3 ≤ v then icbrtN v k (r + 2 ^ k) else icbrtN v k r

/-- The integer square root of `v`, bit by bit. -/
def isqrtN (v : Nat) : Nat → Nat → Nat
  | 0, r => r
  | k + 1, r => if (r + 2 ^ k) ^ 2 ≤ v then isqrtN v k (r + 2 ^ k) else isqrtN v k r

/-- The first 64 bits of the fraction of a cube root. -/
def cbrtFrac (p : Nat) : Nat := icbrtN (p * 2 ^ 192) 72 0 % 2 ^ 64

/-- The first 64 bits of the fraction of a square root. -/
def sqrtFrac (p : Nat) : Nat := isqrtN (p * 2 ^ 128) 72 0 % 2 ^ 64

/-- The 80 constants of SHA-512, whose high halves are the 64 of SHA-256. -/
def shaK : Array Nat := ((primesUpTo 80 410).map cbrtFrac).toArray

/-- The initial chaining values of SHA-512 and, after them, of SHA-384. -/
def shaH0 : List Nat := (primesUpTo 16 54).map sqrtFrac

/-- Rotate a `w`-bit word right. -/
def rotR (w v n : Nat) : Nat := v / 2 ^ n + v % 2 ^ n * 2 ^ (w - n)

/-- The rotation amounts of SHA-256 (`big` false) and SHA-512: Σ0, Σ1, then σ0, σ1 with their shifts last. -/
def shaRot (big : Bool) : List Nat :=
  if big then [28, 34, 39, 14, 18, 41, 1, 8, 7, 19, 61, 6] else [2, 13, 22, 6, 11, 25, 7, 18, 3, 17, 19, 10]

/-- Three rotations combined. -/
def shaSig (big : Bool) (v i : Nat) : Nat :=
  let w := if big then 64 else 32
  let r := shaRot big
  rotR w v (r.getD i 0) ^^^ rotR w v (r.getD (i + 1) 0) ^^^ rotR w v (r.getD (i + 2) 0)

/-- Two rotations and a shift combined. -/
def shaSigS (big : Bool) (v i : Nat) : Nat :=
  let w := if big then 64 else 32
  let r := shaRot big
  rotR w v (r.getD i 0) ^^^ rotR w v (r.getD (i + 1) 0) ^^^ v / 2 ^ r.getD (i + 2) 0

/-- Extend the message schedule, latest word first, by `n` words. -/
def shaSched (big : Bool) : Nat → List Nat → List Nat
  | 0, w => w
  | n + 1, w =>
    shaSched big n ((shaSigS big (w.getD 1 0) 9 + w.getD 6 0 + shaSigS big (w.getD 14 0) 6 + w.getD 15 0)
      % 2 ^ (if big then 64 else 32) :: w)

/-- One round over the eight working words. -/
def shaRound (big : Bool) (h : List Nat) (k w : Nat) : List Nat :=
  let m := 2 ^ (if big then 64 else 32)
  match h with
  | [a, b, c, d, e, f, g, hh] =>
    let t1 := (hh + shaSig big e 3 + ((e &&& f) ^^^ ((m - 1 - e) &&& g)) + k + w) % m
    let t2 := (shaSig big a 0 + ((a &&& b) ^^^ (a &&& c) ^^^ (b &&& c))) % m
    [(t1 + t2) % m, a, b, c, (d + t1) % m, e, f, g]
  | _ => h

/-- The compression of one block into a chaining value of eight words. -/
def shaBlock (big : Bool) (h : List Nat) (blk : List Byte) : List Nat :=
  let wb := if big then 8 else 4
  let n := if big then 80 else 64
  let ws := (shaSched big (n - 16) ((List.range 16).map (fun i => ofBE (sliceB blk (wb * i) wb))).reverse).reverse
  let r := (List.zip ((List.range n).map (fun i => if big then shaK.getD i 0 else shaK.getD i 0 / 2 ^ 32)) ws).foldl
    (fun h kw => shaRound big h kw.1 kw.2) h
  List.zipWith (fun a b => (a + b) % 2 ^ (8 * wb)) h r

/-- Algorithms by ALG (R368): 0 SHA-224, 1 SHA-256, 2 SHA-384, 3 SHA-512. -/
def shaBig (alg : Nat) : Bool := 2 ≤ alg

/-- The initial chaining value of an algorithm. -/
def shaInit (alg : Nat) : List Nat :=
  if alg = 0 then (shaH0.drop 8).map (· % 2 ^ 32)
  else if alg = 1 then (shaH0.take 8).map (· / 2 ^ 32)
  else if alg = 2 then shaH0.drop 8
  else shaH0.take 8

/-- The block size of an algorithm in bytes. -/
def shaBs (alg : Nat) : Nat := if shaBig alg then 128 else 64

/-- The digest length of an algorithm in bytes. -/
def shaLen (alg : Nat) : Nat := if alg = 0 then 28 else if alg = 1 then 32 else if alg = 2 then 48 else 64

/-- Absorb whole blocks. -/
def shaAbsorb (alg : Nat) (h : List Nat) (bs : List Byte) : List Nat :=
  (blocks (shaBs alg) bs).foldl (shaBlock (shaBig alg)) h

/-- Finish: absorb what is left (under a block) of a message of `total` bytes, with its padding, and give the digest. -/
def shaFinish (alg : Nat) (h : List Nat) (rest : List Byte) (total : Nat) : List Byte :=
  let bs := shaBs alg
  let lf := bs / 8
  let n := roundUp (rest.length + 1 + lf) bs
  let m := fitBytes (n - lf) (rest ++ [0x80]) ++ toBE lf (8 * total)
  ((shaAbsorb alg h m).flatMap (toBE (bs / 16))).take (shaLen alg)

/-- SHA-2 of a message. -/
def sha (alg : Nat) (m : List Byte) : List Byte :=
  let n := m.length / shaBs alg * shaBs alg
  shaFinish alg (shaAbsorb alg (shaInit alg) (m.take n)) (m.drop n) m.length

/-- SHA-256, SHA-384 and SHA-512 by name. -/
def sha256 (m : List Byte) : List Byte := sha 1 m

/-- SHA-512. -/
def sha512 (m : List Byte) : List Byte := sha 3 m

/-- The key of an HMAC, padded to the block size. -/
def hmacKey (alg : Nat) (key : List Byte) : List Byte :=
  fitBytes (shaBs alg) (if shaBs alg < key.length then sha alg key else key)

/-- HMAC. -/
def hmac (alg : Nat) (key m : List Byte) : List Byte :=
  let k := hmacKey alg key
  sha alg (k.map (· ^^^ 0x5C) ++ sha alg (k.map (· ^^^ 0x36) ++ m))

/-! ### SHA-1 -/

/-- Extend the schedule of SHA-1, latest word first. -/
def sha1Sched : Nat → List Nat → List Nat
  | 0, w => w
  | n + 1, w => sha1Sched n (rotR 32 (w.getD 2 0 ^^^ w.getD 7 0 ^^^ w.getD 13 0 ^^^ w.getD 15 0) 31 :: w)

/-- One round of SHA-1. -/
def sha1Round (h : List Nat) (iw : Nat × Nat) : List Nat :=
  match h with
  | [a, b, c, d, e] =>
    let f := if iw.1 < 20 then (b &&& c) ^^^ ((2 ^ 32 - 1 - b) &&& d)
             else if 40 ≤ iw.1 ∧ iw.1 < 60 then (b &&& c) ^^^ (b &&& d) ^^^ (c &&& d) else b ^^^ c ^^^ d
    let k := [0x5A827999, 0x6ED9EBA1, 0x8F1BBCDC, 0xCA62C1D6].getD (iw.1 / 20) 0
    [(rotR 32 a 27 + f + e + k + iw.2) % 2 ^ 32, a, rotR 32 b 2, c, d]
  | _ => h

/-- SHA-1. -/
def sha1 (m : List Byte) : List Byte :=
  let n := roundUp (m.length + 9) 64
  let p := fitBytes (n - 8) (m ++ [0x80]) ++ toBE 8 (8 * m.length)
  let h := (blocks 64 p).foldl (fun h blk =>
    let ws := (sha1Sched 64 ((List.range 16).map (fun i => ofBE (sliceB blk (4 * i) 4))).reverse).reverse
    List.zipWith (fun a b => (a + b) % 2 ^ 32) h ((List.zip (List.range 80) ws).foldl sha1Round h))
    [0x67452301, 0xEFCDAB89, 0x98BADCFE, 0x10325476, 0xC3D2E1F0]
  h.flatMap (toBE 4)

end Sys2Proof.Machine
end

