-- ==== Sys2Proof/Machine/Payment.lean ====
section
/-!
DEFINITION. Sys2Proof/Machine/Payment.lean: what the payment commands compute (spec/11_symmetric_payment_digest.md R361
to R367): PIN blocks, the PIN verification value, EMV keys and cryptograms, DUKPT working keys, key blocks, and the
entries of the wrapped key table (R350 to R353).
-/

namespace Sys2Proof.Machine

/-! ### Nibbles -/

/-- The nibbles of bytes, high one first. -/
def nibbles (bs : List Byte) : List Nat := bs.flatMap (fun b => [b.toNat / 16, b.toNat % 16])

/-- Bytes from nibbles, high one first. -/
def packNib : List Nat → List Byte
  | a :: b :: t => BitVec.ofNat 8 (16 * a + b) :: packNib t
  | [a] => [BitVec.ofNat 8 (16 * a)]
  | [] => []

/-- A list cut or filled at the end to `n` entries. -/
def fitNat (n d : Nat) (l : List Nat) : List Nat := (l ++ List.replicate (n - l.length) d).take n

/-- A list cut or filled at its left to `n` entries. -/
def fitLeft (n d : Nat) (l : List Nat) : List Nat := List.replicate (n - l.length) d ++ l.drop (l.length - n)

/-! ### PIN blocks (R361) -/

/-- The digits of a PAN of `len` digits in 10 bytes of packed BCD. -/
def panDigits (bs : List Byte) (len : Nat) : List Nat := (nibbles bs).take len

/-- The PAN field of formats 0 and 3: the 12 rightmost digits without the check digit. -/
def panField03 (pan : List Nat) : List Byte := packNib (fitLeft 16 0 (fitLeft 12 0 pan.dropLast))

/-- The PAN field of format 4. -/
def panField4 (pan : List Nat) : List Byte := packNib (fitNat 32 0 ((pan.length - 12) :: pan))

/-- Decipher a PIN block of a format to its PIN field. -/
def pinOpen (fmt : Nat) (f : BlockFn) (pan : List Nat) (blk : List Byte) : List Nat :=
  nibbles (if fmt = 4 then f (xorB (f blk) (panField4 pan))
           else if fmt = 1 then f blk else xorB (f blk) (panField03 pan))

/-- Encipher a PIN field in a format. -/
def pinSeal (fmt : Nat) (f : BlockFn) (pan : List Nat) (nib : List Nat) : List Byte :=
  if fmt = 4 then f (xorB (f (packNib nib)) (panField4 pan))
  else if fmt = 1 then f (packNib nib) else f (xorB (packNib nib) (panField03 pan))

/-- The PIN in a deciphered PIN field, if it passes the checks of R361. -/
def pinParse (fmt : Nat) (nib : List Nat) : Option (List Nat) :=
  let len := nib.getD 1 0
  let pin := (nib.drop 2).take len
  let fill := (nib.take 16).drop (2 + len)
  if nib.getD 0 16 = fmt ∧ 4 ≤ len ∧ len ≤ 12 ∧ pin.all (· < 10)
      ∧ (if fmt = 0 then fill.all (· == 15) else if fmt = 3 then fill.all (10 ≤ ·)
         else if fmt = 4 then fill.all (· == 10) else true) then some pin else none

/-- The random bytes a PIN block of a format takes from the reserve: one for each digit of fill in formats 1 and 3,
the eight of the random field in format 4. -/
def pinRandom (fmt len : Nat) : Nat := if fmt = 4 then 8 else if fmt = 0 then 0 else 14 - len

/-- The PIN field of a format with random bytes for its fill. How a byte gives a digit is open (`Config.fillDigit`). -/
def pinBuild (fmt : Nat) (pin : List Nat) (rnd : List Byte) : List Nat :=
  let head := [fmt, pin.length] ++ pin
  if fmt = 0 then fitNat 16 15 head
  else if fmt = 4 then fitNat 16 10 head ++ nibbles (fitBytes 8 rnd)
  else if fmt = 1 then fitNat 16 0 (head ++ rnd.map (fun b => Config.fillDigit b.toNat % 10))
  else fitNat 16 10 (head ++ rnd.map (fun b => 10 + Config.fillDigit b.toNat % 6))

/-- A downgrade (R362). -/
def pinDowngrade (i o : Nat) : Bool := (i == 4 && o != 4) || ((i == 0 || i == 3) && o == 1)

/-- The PIN verification value (R363). -/
def pvf (key : List Byte) (pin pan : List Nat) : Nat :=
  let m := BitVec.ofNat 8 pin.length :: packNib (fitNat 12 15 pin) ++ packNib (fitLeft 18 0 pan)
  ofLE ((aesCmac key m).take 8) % 10 ^ 8

/-! ### EMV (R364) -/

/-- Odd parity for every byte of a DES key. -/
def oddParity (k : List Byte) : List Byte :=
  k.map (fun b => if (((List.range 7).filter (fun i => b.toNat.testBit (i + 1))).length) % 2 = 1 then b &&& 0xFE
                  else b ||| 1)

/-- Sixteen decimal digits from a hash: its decimal digits from the left, then its hexadecimal ones reduced by 10. -/
def decimalise (nib : List Nat) : List Nat :=
  (nib.filter (· < 10) ++ (nib.filter (10 ≤ ·)).map (· - 10)).take 16

/-- The 8-byte derivation value of a PAN and sequence number: option A up to 16 digits of PAN, else option B. -/
def emvY (pan : List Nat) (psn : Nat) : List Byte :=
  let d := pan ++ [psn / 16, psn % 16]
  if pan.length ≤ 16 then packNib (fitLeft 16 0 d)
  else packNib (decimalise (nibbles (sha1 (packNib (if d.length % 2 = 1 then 0 :: d else d)))))

/-- The ICC master key of an issuer master key. `aes`: an AES key, whose length its own has. -/
def emvMaster (aes : Bool) (imk : List Byte) (pan : List Nat) (psn : Nat) : List Byte :=
  let ff (n : Nat) : List Byte := List.replicate n 0xFF
  if aes then
    let y := packNib (fitLeft 32 0 (pan ++ [psn / 16, psn % 16]))
    (aesEnc imk y ++ aesEnc imk (xorB y (ff 16))).take imk.length
  else
    let y := emvY pan psn
    oddParity (tdesEnc imk y ++ tdesEnc imk (xorB y (ff 8)))

/-- The common session key of an ICC master key and an ATC. -/
def emvSession (aes : Bool) (mk atc : List Byte) : List Byte :=
  if aes then
    (if mk.length = 16 then aesEnc mk (fitBytes 16 atc)
     else (aesEnc mk (fitBytes 16 (atc ++ [0xF0])) ++ aesEnc mk (fitBytes 16 (atc ++ [0x0F]))).take mk.length)
  else tdesEnc mk (fitBytes 8 (atc ++ [0xF0])) ++ tdesEnc mk (fitBytes 8 (atc ++ [0x0F]))

/-- The cryptogram over transaction data. -/
def emvArqc (aes : Bool) (sk m : List Byte) : List Byte :=
  if aes then (aesCmac sk m).take 8 else isoMac3 sk (isoPad 2 m)

/-- The ARPC by method 1 or 2. -/
def emvArpc (aes : Bool) (sk arqc rc : List Byte) (method : Nat) (prop : List Byte) : List Byte :=
  if method = 1 then
    let x := xorB arqc (fitBytes 8 (rc.take 2))
    if aes then (aesEnc sk (fitBytes 16 x)).take 8 else tdesEnc sk x
  else
    let m := arqc ++ rc ++ prop
    (if aes then aesCmac sk m else isoMac3 sk (isoPad 2 m)).take 4

/-! ### AES DUKPT (R365) -/

/-- The number of set bits of a 32-bit number. -/
def onesOf (v : Nat) : Nat := ((List.range 32).filter (fun i => v.testBit i)).length

/-- A counter that R365 accepts. -/
def ksnOk (ksn : List Byte) : Bool := let c := ofBE (sliceB ksn 8 4); c != 0 && onesOf c ≤ 16

/-- The length in bytes of key type 0 AES-128, 1 AES-192, 2 AES-256. -/
def wkLen (t : Nat) : Nat := 16 + 8 * t

/-- One derivation of AES DUKPT: a key of type `t` for usage `u` from key `k`, over 8 bytes of derivation data. -/
def dukptDerive (k : List Byte) (t u : Nat) (d : List Byte) : List Byte :=
  ((List.range ((wkLen t + 15) / 16)).flatMap (fun i =>
    aesEnc k ([1, BitVec.ofNat 8 (i + 1)] ++ toBE 2 u ++ toBE 2 (2 + t) ++ toBE 2 (8 * wkLen t) ++ d))).take (wkLen t)

/-- The intermediate key for a counter: its set bits from the highest down. `t` is the type of the base key. -/
def dukptChain (t : Nat) (id : List Byte) (ctr : Nat) : Nat → Nat → List Byte → List Byte
  | 0, _, k => k
  | n + 1, acc, k =>
    if ctr.testBit n then
      let a := acc + 2 ^ n
      dukptChain t id ctr n a (dukptDerive k t 0x8000 (id.drop 4 ++ toBE 4 a))
    else dukptChain t id ctr n acc k

/-- The working key of a base key, a KSN, a key type and a usage. -/
def dukptKey (bdk ksn : List Byte) (wk usage : Nat) : List Byte :=
  let t := (bdk.length - 16) / 8
  let id := ksn.take 8
  let ctr := ofBE (sliceB ksn 8 4)
  let ik := dukptDerive bdk t 0x8001 id
  dukptDerive (dukptChain t id ctr 32 0 ik) wk usage (id.drop 4 ++ toBE 4 ctr)

/-! ### Key blocks, version ID D (R367, R388) -/

/-- The key block encryption key (`mac` false) or authentication key of an AES-256 protection key. -/
def kbKey (kek : List Byte) (mac : Bool) : List Byte :=
  aesCmac kek ([1] ++ toBE 2 (b2n mac) ++ [0, 0, 4, 1, 0]) ++ aesCmac kek ([2] ++ toBE 2 (b2n mac) ++ [0, 0, 4, 1, 0])

/-- The value of an ASCII hexadecimal digit. -/
def hexVal (c : Byte) : Option Nat :=
  let n := c.toNat
  if 48 ≤ n ∧ n ≤ 57 then some (n - 48) else if 65 ≤ n ∧ n ≤ 70 then some (n - 55)
  else if 97 ≤ n ∧ n ≤ 102 then some (n - 87) else none

/-- Bytes from ASCII hexadecimal. -/
def unhex : List Byte → Option (List Byte)
  | [] => some []
  | a :: b :: t =>
    match hexVal a, hexVal b, unhex t with
    | some x, some y, some r => some (BitVec.ofNat 8 (16 * x + y) :: r)
    | _, _, _ => none
  | _ => none

/-- ASCII hexadecimal of bytes. -/
def toHex (bs : List Byte) : List Byte :=
  (nibbles bs).map (fun n => BitVec.ofNat 8 (if n < 10 then 48 + n else 55 + n))

/-- An opened key block: its header and its key. -/
structure KeyBlock where
  head : List Byte
  key : List Byte
  deriving DecidableEq, Repr

/-- The number that ASCII hexadecimal digits write. -/
def hexNum (bs : List Byte) : Option Nat :=
  bs.foldl (fun n b => match n, hexVal b with | some n, some v => some (16 * n + v) | _, _ => none) (some 0)

/-- Where `n` optional blocks that begin at `pos` end: an identifier of two characters, and the length of the block in two
hexadecimal digits, or 00 and then the number of digits of the length, in two, and the length. -/
def kbBlocks (blk : List Byte) : Nat → Nat → Option Nat
  | pos, 0 => some pos
  | pos, n + 1 =>
    match hexNum (sliceB blk (pos + 2) 2) with
    | none => none
    | some 0 =>
      (match hexNum (sliceB blk (pos + 4) 2) with
       | none => none
       | some k => match hexNum (sliceB blk (pos + 6) k) with
         | some l => if k = 0 ∨ l < 6 + k ∨ blk.length < pos + l then none else kbBlocks blk (pos + l) n
         | none => none)
    | some l => if l < 4 ∨ blk.length < pos + l then none else kbBlocks blk (pos + l) n

/-- The length of the header with its optional blocks, which must be a multiple of the cipher's block; none are allowed where
`opt` is false (R367). -/
def kbHead (opt : Bool) (blk : List Byte) : Option Nat :=
  let d (i : Nat) : Nat := fld blk (12 + i) 1
  if d 0 < 48 ∨ 57 < d 0 ∨ d 1 < 48 ∨ 57 < d 1 then none
  else
    let n := 10 * (d 0 - 48) + (d 1 - 48)
    if n = 0 then some 16
    else if ¬ opt then none
    else (kbBlocks blk 16 n).filter (fun k => k % 16 == 0)

/-- Open a version D block: its version, its length, its optional blocks, which only `opt` allows, its MAC, and its key data. -/
def kbOpen (opt : Bool) (kek blk : List Byte) : Option KeyBlock :=
  let k := (kbHead opt blk).getD 0
  let h := blk.take k
  if 16 ≤ k ∧ h.headD 0 = 0x44
      ∧ sliceB h 1 4 = (digits10 4 blk.length).map (fun d => BitVec.ofNat 8 (48 + d)) ∧ k + 64 ≤ blk.length then
    match unhex (sliceB blk k (blk.length - 32 - k)), unhex (blk.drop (blk.length - 32)) with
    | some ct, some mac =>
      if ct.length % 16 ≠ 0 then none else
      let pt := (cbcDecB (aesDec (kbKey kek false)) mac (blocks 16 ct)).1
      let bits := ofBE (pt.take 2)
      if aesCmac (kbKey kek true) (h ++ pt) = mac ∧ bits % 8 = 0 ∧ bits / 8 + 2 ≤ pt.length then
        some { head := h, key := sliceB pt 2 (bits / 8) }
      else none
    | _, _ => none
  else none

/-- Make a version D block. `pad` are the random bytes that fill the key data to a multiple of 16. -/
def kbMake (kek usage ver key pad : List Byte) (alg mode exp : Byte) : List Byte :=
  let pt := toBE 2 (8 * key.length) ++ key ++ pad
  let n := 16 + 2 * pt.length + 32
  let h := [0x44] ++ (digits10 4 n).map (fun d => BitVec.ofNat 8 (48 + d)) ++ usage ++ [alg, mode] ++ ver ++ [exp]
    ++ [0x30, 0x30, 0x30, 0x30]
  let mac := aesCmac (kbKey kek true) (h ++ pt)
  h ++ toHex (cbcEncB (aesEnc (kbKey kek false)) mac (blocks 16 pt)).1 ++ toHex mac

/-- The random bytes a key of `n` bytes needs in a block. -/
def kbPad (n : Nat) : Nat := roundUp (n + 2) 16 - (n + 2)

/-- The USAGE bits (R352) of a key usage, algorithm letter and mode of use (the table of R367). -/
def kbUsage (usage : List Byte) (alg mode : Byte) : Option Nat :=
  let u := ofBE usage
  let aT := alg == 0x41 || alg == 0x54
  let mac := if mode = 0x43 then some 0xC else if mode = 0x47 then some 4 else if mode = 0x56 then some 8 else none
  if u = 0x4230 ∧ alg = 0x41 ∧ (mode = 0x4E ∨ mode = 0x58) then some 0x80
  else if u = 0x4430 ∧ aT then
    (if mode = 0x42 then some 3 else if mode = 0x45 then some 1 else if mode = 0x44 then some 2 else none)
  else if u = 0x4530 ∧ aT ∧ (mode = 0x4E ∨ mode = 0x58) then some 0x40
  else if u = 0x4B30 ∧ alg = 0x41 ∧ mode = 0x42 then some 0x100
  else if u = 0x4D33 ∧ alg = 0x54 then mac
  else if u = 0x4D36 ∧ alg = 0x41 then mac
  else if u = 0x4D37 ∧ alg = 0x48 ∧ mode = 0x43 then some 0x200
  else if u = 0x5030 ∧ aT ∧ mode = 0x42 then some 0x10
  else if u = 0x5630 ∧ alg = 0x41 ∧ mode = 0x4E then some 0x20
  else none

/-- The key usage, algorithm letter and mode of use that an export writes for an ALG and USAGE (R367). -/
def kbRow (alg usage : Nat) : Option (List Byte × Byte × Byte) :=
  let u := usage % 2 ^ 13
  let l : Byte := if alg ≤ 3 then 0x41 else if alg ≤ 5 then 0x54 else 0x48
  let mac : List Byte := if alg ≤ 3 then [0x4D, 0x36] else [0x4D, 0x33]
  if u = 0x80 then some ([0x42, 0x30], l, 0x4E)
  else if u = 3 then some ([0x44, 0x30], l, 0x42)
  else if u = 1 then some ([0x44, 0x30], l, 0x45)
  else if u = 2 then some ([0x44, 0x30], l, 0x44)
  else if u = 0x40 then some ([0x45, 0x30], l, 0x4E)
  else if u = 0x100 then some ([0x4B, 0x30], l, 0x42)
  else if u = 0xC then some (mac, l, 0x43)
  else if u = 4 then some (mac, l, 0x47)
  else if u = 8 then some (mac, l, 0x56)
  else if u = 0x200 then some ([0x4D, 0x37], l, 0x43)
  else if u = 0x10 then some ([0x50, 0x30], l, 0x42)
  else if u = 0x20 then some ([0x56, 0x30], l, 0x4E)
  else none

/-! ### Table entries (R350 to R353) -/

/-- The key material a slot or an engine holds, with ALG and USAGE. -/
structure KeyMat where
  alg : Nat := 0
  usage : Nat := 0
  key : List Byte := []
  deriving DecidableEq, Repr

/-- LEN suits ALG (R351). -/
def lenOk (alg len : Nat) : Bool :=
  match alg with
  | 1 => len == 16
  | 2 => len == 24
  | 3 => len == 32
  | 4 => len == 16
  | 5 => len == 24
  | 6 => 16 ≤ len && len ≤ 32
  | _ => false

/-- USAGE obeys R352 for an ALG: a subset of exactly one group, LEGACY only with PIN, and the group's algorithm. -/
def usageOk (alg usage : Nat) : Bool :=
  let g := usage % 2 ^ 12
  let aes := 1 ≤ alg && alg ≤ 3
  let aesT := 1 ≤ alg && alg ≤ 5
  usage < 2 ^ 14 && (usage.testBit 12 == false || g == 0x10)
    && ((g == 1 || g == 2 || g == 3 || g == 4 || g == 8 || g == 0xC || g == 0x40 || g == 0x10) && aesT
        || (g == 0x20 || g == 0x80 || g == 0x400) && aes
        || (g == 0x100 || g == 0x800) && alg == 3
        || g == 0x200 && alg == 6)

/-- The key check value (R350). -/
def kcv (alg : Nat) (key : List Byte) : List Byte :=
  (if alg ≤ 3 then aesCmac key (zeros 16) else if alg ≤ 5 then tdesEnc key (zeros 8) else hmac 1 key []).take 3

/-- The header of an entry (R350). -/
def entryHead (dome : Nat) (k : KeyMat) (label : List Byte) : List Byte :=
  [1, BitVec.ofNat 8 dome, BitVec.ofNat 8 k.alg, BitVec.ofNat 8 k.key.length] ++ toLE 4 k.usage ++ kcv k.alg k.key
    ++ [0] ++ fitBytes 4 label

/-- The key that wraps an entry (R353). -/
def entryKey (tkey entry : List Byte) : List Byte := kdfCtr tkey (ascii "KEYTAB") (entry.take 16) 32

/-- Make an entry. -/
def entryMake (tkey : List Byte) (dome : Nat) (k : KeyMat) (label : List Byte) : List Byte :=
  let h := entryHead dome k label
  h ++ kwWrap (entryKey tkey h) (fitBytes 32 k.key) ++ zeros 8

/-- Open an entry: FORMAT, DOME, ALG, LEN and USAGE as R350 to R352 ask, and the wrap. An empty USAGE is not a subset
of exactly one group. -/
def entryOpen (tkey entry : List Byte) : Option (Nat × KeyMat) :=
  let dome := fld entry 1 1
  let alg := fld entry 2 1
  let len := fld entry 3 1
  let usage := fld entry 4 4
  if fld entry 0 1 = 1 ∧ dome < 64 ∧ lenOk alg len ∧ usageOk alg usage ∧ fld entry 0x0B 1 = 0 ∧ fld entry 0x38 8 = 0 then
    (kwUnwrap (entryKey tkey entry) (sliceB entry 0x10 40)).map
      (fun k => (dome, { alg := alg, usage := usage, key := k.take len }))
  else none

end Sys2Proof.Machine
end

