-- ==== Sys2Proof/Machine/Regs.lean ====
section
/-!
DEFINITION. Sys2Proof/Machine/Regs.lean: every field of every register of the register blocks, at the address,
bit position, width, access type and reset value that its table in spec/ gives (R10, R11, R12, R13, R37, R40).
The value of a field is a number below 2 to the power of its width.
-/

namespace Sys2Proof.Machine

/-- The access types of R12. -/
inductive Acc where
  | ro | rw | w1c | wo | rs
  deriving DecidableEq, Repr

/-- A field of a register: the register's physical address (R37, R40), the field's lowest bit, its width, its
reset value, its access type, and whether bedrock retains it (AO, R12). -/
structure Fld where
  addr : Nat
  lo   : Nat
  wd   : Nat
  rst  : Nat
  acc  : Acc
  ao   : Bool
  deriving DecidableEq, Repr

/-- The key a field's value is kept under: no register is wider than 64 bits (R11), so no two fields share one. -/
def Fld.key (f : Fld) : Nat := f.addr * 64 + f.lo

/-- A register: its first address, the strides and counts of its array dimensions (largest stride first), whether
it is 64 bits wide (R11), and the fields of its first element. -/
structure RegD where
  base : Nat
  dims : List (Nat × Nat)
  wide : Bool
  flds : List Fld
  deriving Repr

namespace R


/-! ### RST (spec/04_boot_lifecycle_management.md) -/
def RST_CAUSE_POWER : Fld := ⟨0xFF00000000, 0, 1, 0, .w1c, true⟩
def RST_CAUSE_NRESET : Fld := ⟨0xFF00000000, 1, 1, 0, .w1c, true⟩
def RST_CAUSE_MGT : Fld := ⟨0xFF00000000, 2, 1, 0, .w1c, true⟩
def RST_CAUSE_FCU : Fld := ⟨0xFF00000000, 3, 1, 0, .w1c, true⟩
def RST_CAUSE_KEEP : Fld := ⟨0xFF00000000, 4, 1, 0, .w1c, true⟩
def RST_CAUSE_WATCHDOG : Fld := ⟨0xFF00000000, 5, 1, 0, .w1c, true⟩
def RST_CAUSE_BEDROCK : Fld := ⟨0xFF00000000, 6, 1, 0, .ro, false⟩
def RST_CTRL_SWRESET : Fld := ⟨0xFF00000004, 0, 1, 0, .wo, false⟩
def RST_BOOT_PHASE : Fld := ⟨0xFF00000008, 0, 4, 0, .ro, false⟩
def RST_BOOT_FAILSTEP : Fld := ⟨0xFF00000008, 4, 4, 0, .ro, false⟩
def RST_BOOT_TWIN : Fld := ⟨0xFF00000008, 8, 1, 0, .ro, false⟩
def RST_BOOT_FALLBACK : Fld := ⟨0xFF00000008, 9, 1, 0, .ro, false⟩
def RST_BOOT_ATTEMPTS : Fld := ⟨0xFF00000008, 10, 3, 0, .ro, true⟩
def RST_BOOT_OVERRIDE : Fld := ⟨0xFF00000008, 13, 2, 0, .ro, true⟩
def RST_CONFIRM_CONFIRM : Fld := ⟨0xFF0000000C, 0, 1, 0, .wo, false⟩
def RST_CONFIRM_RAISE : Fld := ⟨0xFF0000000C, 1, 1, 0, .wo, false⟩
def RST_FWVER_MINVER : Fld := ⟨0xFF00000010, 0, 8, 0, .ro, false⟩
def RST_FWVER_RUNVER : Fld := ⟨0xFF00000010, 8, 8, 0, .ro, false⟩
def RST_ROOT_DIK_VALID : Fld := ⟨0xFF00000014, 0, 1, 0, .ro, false⟩
def RST_ROOT_SRK_VALID : Fld := ⟨0xFF00000014, 1, 1, 0, .ro, false⟩
def RST_DEFERRED_EXEC : Fld := ⟨0xFF00000018, 0, 7, 0, .ro, false⟩
def RST_LC_STATE : Fld := ⟨0xFF0000001C, 0, 2, 0, .ro, false⟩
def RST_LC_BUSY : Fld := ⟨0xFF0000001C, 4, 1, 0, .ro, false⟩
def RST_LC_REJECT : Fld := ⟨0xFF0000001C, 5, 1, 0, .w1c, false⟩
def RST_LC_CMD_TARGET : Fld := ⟨0xFF00000020, 0, 2, 0, .wo, false⟩
def RST_LC_CMD_KEY : Fld := ⟨0xFF00000020, 16, 16, 0, .wo, false⟩

/-! ### PWR (spec/03_clocks_power.md) -/
def PWR_CEIL_CEIL : Fld := ⟨0xFF00010000, 0, 3, 0, .rw, false⟩
def PWR_CEIL_FORCE : Fld := ⟨0xFF00010000, 8, 1, 0, .wo, false⟩
def PWR_BUDGET_BUDGET_US : Fld := ⟨0xFF00010004, 0, 16, 0, .rw, false⟩
def PWR_STATE_DEV : Fld := ⟨0xFF00010008, 0, 3, 0, .ro, false⟩
def PWR_STATE_TRANS : Fld := ⟨0xFF00010008, 4, 1, 0, .ro, false⟩
def PWR_STATE_TARGET : Fld := ⟨0xFF00010008, 8, 3, 0, .ro, false⟩
def PWR_STATE_HOLD_READY : Fld := ⟨0xFF00010008, 12, 1, 0, .ro, false⟩
def PWR_SPIRE_STATE_S (s : Nat) : Fld := ⟨0xFF00010010, 2 * s, 2, 0, .ro, false⟩
def PWR_IDLE_DOZE_IDLE : Fld := ⟨0xFF00010020, 0, 12, 0, .ro, false⟩
def PWR_IDLE_NAP_IDLE : Fld := ⟨0xFF00010020, 12, 12, 0, .ro, false⟩
def PWR_IDLE_DEEP_IDLE : Fld := ⟨0xFF00010020, 24, 8, 0, .ro, false⟩
def PWR_WAKE_SRC_NWAKE : Fld := ⟨0xFF00010030, 0, 1, 0, .w1c, false⟩
def PWR_WAKE_SRC_MGT : Fld := ⟨0xFF00010030, 1, 1, 0, .w1c, false⟩
def PWR_WAKE_SRC_FIELD : Fld := ⟨0xFF00010030, 2, 1, 0, .w1c, false⟩
def PWR_WAKE_SRC_ALARM : Fld := ⟨0xFF00010030, 3, 1, 0, .w1c, false⟩
def PWR_WAKE_SRC_TAMPER : Fld := ⟨0xFF00010030, 4, 1, 0, .w1c, false⟩
def PWR_WAKE_EN_EN : Fld := ⟨0xFF00010034, 0, 5, 0x13, .rw, true⟩
def PWR_FORCED_CNT_COUNT : Fld := ⟨0xFF00010040, 0, 16, 0, .ro, true⟩

/-! ### CLK (spec/03_clocks_power.md) -/
def CLK_CORE_MULT : Fld := ⟨0xFF00020000, 0, 7, 0x40, .ro, false⟩
def CLK_CORE_SPREAD : Fld := ⟨0xFF00020000, 8, 3, 0, .ro, false⟩
def CLK_LOCK_CORE : Fld := ⟨0xFF00020004, 0, 1, 0, .ro, false⟩
def CLK_LOCK_DDR : Fld := ⟨0xFF00020004, 1, 1, 0, .ro, false⟩
def CLK_LOCK_KEEP : Fld := ⟨0xFF00020004, 2, 1, 0, .ro, false⟩
def CLK_LOCK_TBASE : Fld := ⟨0xFF00020004, 3, 1, 0, .ro, false⟩
def CLK_LOCK_SER0 : Fld := ⟨0xFF00020004, 4, 1, 0, .ro, false⟩
def CLK_LOCK_SER1 : Fld := ⟨0xFF00020004, 5, 1, 0, .ro, false⟩
def CLK_SLEW_MGT : Fld := ⟨0xFF00020008, 0, 2, 1, .rw, false⟩
def CLK_SLEW_ICC0 : Fld := ⟨0xFF00020008, 2, 2, 1, .rw, false⟩
def CLK_SLEW_ICC1 : Fld := ⟨0xFF00020008, 4, 2, 1, .rw, false⟩
def CLK_SLEW_SD : Fld := ⟨0xFF00020008, 6, 2, 1, .rw, false⟩
def CLK_SLEW_BEDROCK : Fld := ⟨0xFF00020008, 8, 2, 3, .ro, false⟩
def CLK_XTAL_FAIL : Fld := ⟨0xFF0002000C, 0, 1, 0, .rs, true⟩
def CLK_XTAL_ONRC : Fld := ⟨0xFF0002000C, 1, 1, 0, .ro, true⟩
def CLK_XTAL_RCLATCH : Fld := ⟨0xFF0002000C, 2, 1, 0, .ro, true⟩

/-! ### MGT (spec/04_boot_lifecycle_management.md) -/
def MGT_CMD_CODE : Fld := ⟨0xFF00030000, 0, 8, 0, .wo, false⟩
def MGT_ARG_ARG : Fld := ⟨0xFF00030004, 0, 32, 0, .rw, false⟩
def MGT_RESULT_STATUS : Fld := ⟨0xFF00030008, 0, 2, 0, .ro, false⟩
def MGT_RESULT_CODE : Fld := ⟨0xFF00030008, 8, 8, 0, .ro, false⟩
def MGT_ALERT_HOLD_READY : Fld := ⟨0xFF0003000C, 0, 1, 0, .w1c, false⟩
def MGT_ALERT_TAMPER : Fld := ⟨0xFF0003000C, 1, 1, 0, .w1c, false⟩
def MGT_ALERT_READY : Fld := ⟨0xFF0003000C, 2, 1, 0, .w1c, false⟩
def MGT_ALERT_BOOTFAIL : Fld := ⟨0xFF0003000C, 3, 1, 0, .w1c, false⟩
def MGT_ALERT_TEMPWARN : Fld := ⟨0xFF0003000C, 4, 1, 0, .w1c, false⟩
def MGT_ALERT_EN_EN : Fld := ⟨0xFF00030010, 0, 5, 0x1F, .rw, false⟩
def MGT_TEMP_TJ : Fld := ⟨0xFF00030014, 0, 12, 0, .ro, false⟩
def MGT_ERR_CRC : Fld := ⟨0xFF00030018, 0, 8, 0, .ro, false⟩
def MGT_ERR_FRAME : Fld := ⟨0xFF00030018, 8, 8, 0, .ro, false⟩
def MGT_ERR_OUTSIDE : Fld := ⟨0xFF00030018, 16, 8, 0, .ro, false⟩

/-! ### STB (spec/05_structure_bitstream.md) -/
def STB_CTRL_START : Fld := ⟨0xFF00040000, 0, 1, 0, .wo, false⟩
def STB_CTRL_ABORT : Fld := ⟨0xFF00040000, 1, 1, 0, .wo, false⟩
def STB_CTRL_NONE : Fld := ⟨0xFF00040000, 2, 1, 0, .wo, false⟩
def STB_CTRL_MODE : Fld := ⟨0xFF00040000, 4, 1, 0, .wo, false⟩
def STB_CTRL_DOME : Fld := ⟨0xFF00040000, 8, 6, 0, .wo, false⟩
def STB_STATUS_PHASE : Fld := ⟨0xFF00040004, 0, 4, 0, .ro, false⟩
def STB_STATUS_BUSY : Fld := ⟨0xFF00040004, 4, 1, 0, .ro, false⟩
def STB_STATUS_TAMPER_KEPT : Fld := ⟨0xFF00040004, 5, 1, 0, .ro, false⟩
def STB_STATUS_KEEPONLY : Fld := ⟨0xFF00040004, 6, 1, 0, .ro, false⟩
def STB_STATUS_AMEND : Fld := ⟨0xFF00040004, 7, 1, 0, .ro, false⟩
def STB_STATUS_DOME : Fld := ⟨0xFF00040004, 8, 6, 0, .ro, false⟩
def STB_ERR_CODE : Fld := ⟨0xFF00040008, 0, 16, 0, .ro, false⟩
def STB_ERR_DETAIL : Fld := ⟨0xFF00040008, 16, 16, 0, .ro, false⟩
def STB_SRC_ADDR : Fld := ⟨0xFF00040010, 0, 40, 0, .rw, false⟩
def STB_LEN_LEN : Fld := ⟨0xFF00040018, 0, 32, 0, .rw, false⟩
def STB_STAGE_ADDR : Fld := ⟨0xFF00040020, 0, 40, 0, .rw, false⟩
def STB_VERSION_VERSION : Fld := ⟨0xFF00040028, 0, 32, 0, .ro, false⟩
def STB_MINVER_MIN : Fld := ⟨0xFF0004002C, 0, 32, 0, .ro, false⟩
def STB_RAISE_WHOLE : Fld := ⟨0xFF00040030, 0, 1, 0, .wo, false⟩
def STB_RAISE_DOMV : Fld := ⟨0xFF00040030, 1, 1, 0, .wo, false⟩
def STB_RAISE_DOME : Fld := ⟨0xFF00040030, 8, 6, 0, .wo, false⟩
def STB_DEVID_ID : Fld := ⟨0xFF00040038, 0, 64, 0, .ro, false⟩
def STB_DOM_FENCE_DRAINED (d : Nat) : Fld := ⟨0xFF00040040, d, 1, 1, .ro, false⟩
def STB_SPIRE_LOADED_LOADED (s : Nat) : Fld := ⟨0xFF00040048, s, 1, 0, .ro, false⟩
def STB_DOM_STATE_STATE (d : Nat) : Fld := ⟨0xFF00040100 + 0x4 * d, 0, 3, 0, .ro, false⟩
def STB_DOM_STATE_WARMING (d : Nat) : Fld := ⟨0xFF00040100 + 0x4 * d, 4, 1, 0, .ro, false⟩
def STB_DOM_STATE_ALLOTTED (d : Nat) : Fld := ⟨0xFF00040100 + 0x4 * d, 5, 1, 0, .ro, false⟩
def STB_DOM_STATE_EPOCH (d : Nat) : Fld := ⟨0xFF00040100 + 0x4 * d, 16, 16, 0, .ro, false⟩
def STB_DOM_VER_VERSION (d : Nat) : Fld := ⟨0xFF00040200 + 0x4 * d, 0, 32, 0, .ro, false⟩
def STB_DOM_MIN_MIN (d : Nat) : Fld := ⟨0xFF00040300 + 0x4 * d, 0, 32, 0, .ro, false⟩

/-! ### JSC (spec/06_jobs_promises.md) -/
def JSC_STATUS_OPEN : Fld := ⟨0xFF00050000, 0, 1, 0, .ro, false⟩
def JSC_STATUS_INFLIGHT : Fld := ⟨0xFF00050000, 4, 17, 0, .ro, false⟩
def JSC_PARAM_ETU_CYCLES : Fld := ⟨0xFF00050004, 0, 8, 0x10, .ro, false⟩
def JSC_PARAM_PERIOD_NS : Fld := ⟨0xFF00050004, 8, 16, 0x3E8, .ro, false⟩
def JSC_LASTID_ID : Fld := ⟨0xFF00050008, 0, 32, 0, .ro, false⟩
def JSC_ADM_P_COUNT : Fld := ⟨0xFF00050010, 0, 64, 0, .ro, false⟩
def JSC_ADM_B_COUNT : Fld := ⟨0xFF00050018, 0, 64, 0, .ro, false⟩
def JSC_REF_COUNT (k : Nat) : Fld := ⟨0xFF00050020 + 0x8 * k, 0, 64, 0, .ro, false⟩
def JSC_BROKEN_COUNT (k : Nat) : Fld := ⟨0xFF00050060 + 0x4 * k, 0, 32, 0, .ro, false⟩
def JSC_HFAULT_COUNT : Fld := ⟨0xFF00050070, 0, 32, 0, .ro, false⟩
def JSC_MISSED_COUNT : Fld := ⟨0xFF00050074, 0, 32, 0, .ro, false⟩
def JSC_EVENTS_CAUSE : Fld := ⟨0xFF00050078, 0, 4, 0, .w1c, false⟩
def JSC_DOME_LIMIT_MAX (d : Nat) : Fld := ⟨0xFF00050100 + 0x4 * d, 0, 17, 0x10000, .rw, false⟩
def JSC_BEST_MAX_MAX (d : Nat) : Fld := ⟨0xFF00050200 + 0x4 * d, 0, 16, 0x1000, .rw, false⟩
def JSC_DOME_INFLIGHT_COUNT (d : Nat) : Fld := ⟨0xFF00050300 + 0x4 * d, 0, 17, 0, .ro, false⟩

/-! ### ART (spec/10_access_faults.md) -/
def ART_CTRL_COPY : Fld := ⟨0xFF00060000, 0, 1, 0, .wo, false⟩
def ART_CTRL_SWITCH : Fld := ⟨0xFF00060000, 1, 1, 0, .wo, false⟩
def ART_STATUS_OWNED : Fld := ⟨0xFF00060004, 0, 1, 0, .ro, false⟩
def ART_STATUS_COPYING : Fld := ⟨0xFF00060004, 1, 1, 0, .ro, false⟩
def ART_STATUS_STB_HOLD : Fld := ⟨0xFF00060004, 2, 1, 0, .ro, false⟩
def ART_STATUS_BOOTSET : Fld := ⟨0xFF00060004, 3, 1, 1, .ro, false⟩
def ART_EPOCH_CURRENT : Fld := ⟨0xFF00060008, 0, 16, 0, .ro, false⟩
def ART_EPOCH_DRAINING : Fld := ⟨0xFF00060008, 16, 16, 0, .ro, false⟩
def ART_FENCE_DRAINED : Fld := ⟨0xFF0006000C, 0, 1, 1, .ro, false⟩
def ART_RSEL_INDEX : Fld := ⟨0xFF00060010, 0, 12, 0, .rw, false⟩
def ART_RSEL_VIEW : Fld := ⟨0xFF00060010, 16, 1, 0, .rw, false⟩
def ART_EVENTS_SWITCHED : Fld := ⟨0xFF00060014, 0, 1, 0, .w1c, false⟩
def ART_EVENTS_REFUSED : Fld := ⟨0xFF00060014, 1, 1, 0, .w1c, false⟩
def ART_EVENTS_DRAINED : Fld := ⟨0xFF00060014, 2, 1, 0, .w1c, false⟩
def ART_EVENTS_LOST : Fld := ⟨0xFF00060014, 3, 1, 0, .w1c, false⟩
def ART_RBASE_BASE : Fld := ⟨0xFF00060018, 12, 28, 0, .rw, false⟩
def ART_RPAGES_PAGES : Fld := ⟨0xFF00060020, 0, 29, 0, .rw, false⟩
def ART_RCLS_CLASSES : Fld := ⟨0xFF00060024, 0, 6, 0, .rw, false⟩
def ART_RMASK_R_MASK : Fld := ⟨0xFF00060028, 0, 64, 0, .rw, false⟩
def ART_RMASK_W_MASK : Fld := ⟨0xFF00060030, 0, 64, 0, .rw, false⟩
def ART_RMASK_X_MASK : Fld := ⟨0xFF00060038, 0, 64, 0, .rw, false⟩

/-! ### FCU (spec/10_access_faults.md) -/
def FCU_EVENTS_CAUSE : Fld := ⟨0xFF00070000, 0, 6, 0, .w1c, false⟩
def FCU_GRACE_US (c : Nat) : Fld := ⟨0xFF00070010 + 0x4 * c, 0, 20, 0x3E8, .ro, false⟩
def FCU_QUIET_MS (c : Nat) : Fld := ⟨0xFF00070020 + 0x4 * c, 0, 27, 0x3E8, .ro, false⟩
def FCU_LADDER_STEPS (c : Nat) : Fld := ⟨0xFF00070030 + 0x4 * c, 0, 12, 0, .ro, false⟩
def FCU_SRC_MAP_SRC (n : Nat) : Fld := ⟨0xFF00070040, 2 * n, 2, 0xD95 / 4 ^ n % 4, .ro, false⟩
def FCU_ACK_DOME : Fld := ⟨0xFF00070044, 0, 6, 0, .wo, false⟩
def FCU_ACK_CLASS : Fld := ⟨0xFF00070044, 8, 2, 0, .wo, false⟩
def FCU_ACK_GO : Fld := ⟨0xFF00070044, 31, 1, 0, .wo, false⟩
def FCU_RETIRE_SPIRE : Fld := ⟨0xFF00070048, 0, 5, 0, .wo, false⟩
def FCU_RETIRE_GO : Fld := ⟨0xFF00070048, 31, 1, 0, .wo, false⟩
def FCU_RETIRED_RETIRED (s : Nat) : Fld := ⟨0xFF0007004C, s, 1, 0, .ro, false⟩
def FCU_RETIRED_HIST_EVER (s : Nat) : Fld := ⟨0xFF00070050, s, 1, 0, .w1c, true⟩
def FCU_FIRST_ADDR_ADDR (c : Nat) : Fld := ⟨0xFF00070100 + 0x40 * c, 0, 64, 0, .ro, false⟩
def FCU_FIRST_INFO_AGENT (c : Nat) : Fld := ⟨0xFF00070108 + 0x40 * c, 0, 10, 0, .ro, false⟩
def FCU_FIRST_INFO_DOME (c : Nat) : Fld := ⟨0xFF00070108 + 0x40 * c, 10, 6, 0, .ro, false⟩
def FCU_FIRST_INFO_TYPE (c : Nat) : Fld := ⟨0xFF00070108 + 0x40 * c, 16, 2, 0, .ro, false⟩
def FCU_FIRST_INFO_SOURCE (c : Nat) : Fld := ⟨0xFF00070108 + 0x40 * c, 18, 4, 0, .ro, false⟩
def FCU_FIRST_INFO_SPIRE (c : Nat) : Fld := ⟨0xFF00070108 + 0x40 * c, 22, 6, 0, .ro, false⟩
def FCU_FIRST_INFO_VALID (c : Nat) : Fld := ⟨0xFF00070108 + 0x40 * c, 31, 1, 0, .w1c, false⟩
def FCU_FIRST_TIME_TIME (c : Nat) : Fld := ⟨0xFF00070110 + 0x40 * c, 0, 64, 0, .ro, false⟩
def FCU_LAST_ADDR_ADDR (c : Nat) : Fld := ⟨0xFF00070120 + 0x40 * c, 0, 64, 0, .ro, false⟩
def FCU_LAST_INFO_AGENT (c : Nat) : Fld := ⟨0xFF00070128 + 0x40 * c, 0, 10, 0, .ro, false⟩
def FCU_LAST_INFO_DOME (c : Nat) : Fld := ⟨0xFF00070128 + 0x40 * c, 10, 6, 0, .ro, false⟩
def FCU_LAST_INFO_TYPE (c : Nat) : Fld := ⟨0xFF00070128 + 0x40 * c, 16, 2, 0, .ro, false⟩
def FCU_LAST_INFO_SOURCE (c : Nat) : Fld := ⟨0xFF00070128 + 0x40 * c, 18, 4, 0, .ro, false⟩
def FCU_LAST_INFO_SPIRE (c : Nat) : Fld := ⟨0xFF00070128 + 0x40 * c, 22, 6, 0, .ro, false⟩
def FCU_LAST_INFO_VALID (c : Nat) : Fld := ⟨0xFF00070128 + 0x40 * c, 31, 1, 0, .ro, false⟩
def FCU_LAST_TIME_TIME (c : Nat) : Fld := ⟨0xFF00070130 + 0x40 * c, 0, 64, 0, .ro, false⟩
def FCU_LATER_COUNT (c : Nat) : Fld := ⟨0xFF00070138 + 0x40 * c, 0, 32, 0, .ro, false⟩
def FCU_RECOV_COUNT (c : Nat) : Fld := ⟨0xFF0007013C + 0x40 * c, 0, 16, 0, .ro, false⟩
def FCU_DC_STATE_STEP (d : Nat) (c : Nat) : Fld := ⟨0xFF00071000 + 0x10 * d + 0x4 * c, 0, 3, 0, .ro, false⟩
def FCU_DC_STATE_STATE (d : Nat) (c : Nat) : Fld := ⟨0xFF00071000 + 0x10 * d + 0x4 * c, 4, 2, 0, .ro, false⟩
def FCU_DC_STATE_TRIGGER (d : Nat) (c : Nat) : Fld := ⟨0xFF00071000 + 0x10 * d + 0x4 * c, 8, 6, 0x3F, .ro, false⟩
def FCU_DC_STATE_FAULTS (d : Nat) (c : Nat) : Fld := ⟨0xFF00071000 + 0x10 * d + 0x4 * c, 16, 16, 0, .ro, false⟩

/-! ### TMP (spec/14_tamper.md) -/
def TMP_FLAGS_FLAG : Fld := ⟨0xFF00080000, 0, 17, 0, .rs, true⟩
def TMP_PENDING_RESP : Fld := ⟨0xFF00080004, 0, 7, 0, .ro, true⟩
def TMP_PENDING_HALT : Fld := ⟨0xFF00080004, 8, 1, 0, .ro, true⟩
def TMP_LEVEL_LEVEL : Fld := ⟨0xFF00080008, 0, 7, 0, .ro, false⟩
def TMP_UNLOCK_SEQ : Fld := ⟨0xFF0008000C, 0, 16, 0, .wo, false⟩
def TMP_UNLOCK_KEY : Fld := ⟨0xFF0008000C, 16, 16, 0, .wo, false⟩
def TMP_EVCLR_CLEAR : Fld := ⟨0xFF00080010, 0, 1, 0, .wo, false⟩
def TMP_EVSEQ_SEQ : Fld := ⟨0xFF00080014, 0, 32, 0, .ro, true⟩
def TMP_EVENTS_CAUSE : Fld := ⟨0xFF00080018, 0, 4, 0, .w1c, false⟩
def TMP_ARMED_ARMED : Fld := ⟨0xFF0008001C, 0, 17, 0, .ro, false⟩
def TMP_MASK_MASK (n : Nat) : Fld := ⟨0xFF00080040 + 0x4 * n, 0, 7, 7, .ro, true⟩
def TMP_COUNT_COUNT (n : Nat) : Fld := ⟨0xFF00080100 + 0x4 * n, 0, 16, 0, .ro, true⟩
def TMP_FIRST_TS_TICKS (n : Nat) : Fld := ⟨0xFF00080200 + 0x8 * n, 0, 48, 0, .ro, true⟩
def TMP_EVLOG_WORD (k : Nat) (i : Nat) : Fld := ⟨0xFF00081000 + 0x20 * k + 0x4 * i, 0, 32, 0, .ro, true⟩

/-! ### ENT (spec/13_entropy.md) -/
def ENT_STATUS_SEEDED : Fld := ⟨0xFF00090000, 0, 1, 0, .ro, false⟩
def ENT_STATUS_STARVED : Fld := ⟨0xFF00090000, 1, 1, 0, .ro, false⟩
def ENT_STATUS_HEALTHY : Fld := ⟨0xFF00090000, 2, 1, 0, .ro, false⟩
def ENT_STATUS_TEST : Fld := ⟨0xFF00090000, 3, 1, 0, .ro, false⟩
def ENT_STATUS_REQ_BUSY : Fld := ⟨0xFF00090000, 4, 1, 0, .ro, false⟩
def ENT_STATUS_PAIRS_ON : Fld := ⟨0xFF00090000, 8, 8, 0, .ro, false⟩
def ENT_STATUS_BLOCKS : Fld := ⟨0xFF00090000, 16, 5, 0, .ro, false⟩
def ENT_CTRL_RESEED : Fld := ⟨0xFF00090004, 0, 1, 0, .wo, false⟩
def ENT_EVENTS_CAUSE : Fld := ⟨0xFF00090008, 0, 5, 0, .w1c, false⟩
def ENT_REQ_ADDR_ADDR : Fld := ⟨0xFF00090010, 6, 34, 0, .rw, false⟩
def ENT_REQ_CMD_UNITS : Fld := ⟨0xFF00090018, 0, 11, 0, .wo, false⟩
def ENT_REQ_CMD_GO : Fld := ⟨0xFF00090018, 31, 1, 0, .wo, false⟩
def ENT_REQ_STATUS_CODE : Fld := ⟨0xFF0009001C, 0, 2, 0, .ro, false⟩
def ENT_RESEEDS_COUNT : Fld := ⟨0xFF00090020, 0, 64, 0, .ro, false⟩
def ENT_BYTES_COUNT : Fld := ⟨0xFF00090028, 0, 64, 0, .ro, false⟩
def ENT_PAIR_STAT_STATE (p : Nat) : Fld := ⟨0xFF00090100 + 0x4 * p, 0, 2, 0, .ro, false⟩
def ENT_PAIR_STAT_RUN (p : Nat) : Fld := ⟨0xFF00090100 + 0x4 * p, 4, 4, 0, .ro, false⟩
def ENT_RCT_FAIL_COUNT (p : Nat) : Fld := ⟨0xFF00090120 + 0x4 * p, 0, 32, 0, .ro, false⟩
def ENT_APT_FAIL_COUNT (p : Nat) : Fld := ⟨0xFF00090140 + 0x4 * p, 0, 32, 0, .ro, false⟩
def ENT_BIAS_ONES (p : Nat) : Fld := ⟨0xFF00090160 + 0x4 * p, 0, 17, 0, .ro, false⟩
def ENT_CORR_SAME (p : Nat) : Fld := ⟨0xFF00090180 + 0x4 * p, 0, 17, 0, .ro, false⟩
def ENT_TEST_MODE : Fld := ⟨0xFF00090200, 0, 2, 0, .rw, false⟩
def ENT_TEST_PAIR : Fld := ⟨0xFF00090200, 8, 3, 0, .rw, false⟩

/-! ### SYM (spec/11_symmetric_payment_digest.md) -/
def SYM_STATUS_BUSY : Fld := ⟨0xFF000A0000, 0, 6, 0, .ro, false⟩
def SYM_STATUS_SUSP : Fld := ⟨0xFF000A0000, 8, 6, 0, .ro, false⟩
def SYM_EVENTS_CAUSE : Fld := ⟨0xFF000A0004, 0, 2, 0, .w1c, false⟩
def SYM_CMDS_COUNT : Fld := ⟨0xFF000A0008, 0, 64, 0, .ro, false⟩
def SYM_REFUSED_COUNT : Fld := ⟨0xFF000A0010, 0, 32, 0, .ro, false⟩
def SYM_VFAIL_COUNT : Fld := ⟨0xFF000A0018, 0, 64, 0, .ro, false⟩
def SYM_SHARE_ETU (d : Nat) : Fld := ⟨0xFF000A0100 + 0x4 * d, 0, 16, 0, .ro, false⟩

/-! ### DIG (spec/11_symmetric_payment_digest.md) -/
def DIG_STATUS_BUSY : Fld := ⟨0xFF000B0000, 0, 6, 0, .ro, false⟩
def DIG_STATUS_SUSP : Fld := ⟨0xFF000B0000, 8, 6, 0, .ro, false⟩
def DIG_EVENTS_CAUSE : Fld := ⟨0xFF000B0004, 0, 2, 0, .w1c, false⟩
def DIG_CMDS_COUNT : Fld := ⟨0xFF000B0008, 0, 64, 0, .ro, false⟩
def DIG_REFUSED_COUNT : Fld := ⟨0xFF000B0010, 0, 32, 0, .ro, false⟩
def DIG_VFAIL_COUNT : Fld := ⟨0xFF000B0018, 0, 64, 0, .ro, false⟩
def DIG_SHARE_ETU (d : Nat) : Fld := ⟨0xFF000B0100 + 0x4 * d, 0, 16, 0, .ro, false⟩

/-! ### PKE (spec/12_public_key.md) -/
def PKE_STATUS_BUSY : Fld := ⟨0xFF000C0000, 0, 6, 0, .ro, false⟩
def PKE_STATUS_HELD : Fld := ⟨0xFF000C0000, 8, 9, 0, .ro, false⟩
def PKE_STATUS_RESERVED : Fld := ⟨0xFF000C0000, 17, 9, 0, .ro, false⟩
def PKE_STATUS_CKEY : Fld := ⟨0xFF000C0000, 26, 1, 0, .ro, false⟩
def PKE_EVENTS_CAUSE : Fld := ⟨0xFF000C0004, 0, 4, 0, .w1c, false⟩
def PKE_CMDS_COUNT : Fld := ⟨0xFF000C0008, 0, 64, 0, .ro, false⟩
def PKE_REFUSED_COUNT : Fld := ⟨0xFF000C0010, 0, 32, 0, .ro, false⟩
def PKE_WITHHELD_COUNT : Fld := ⟨0xFF000C0014, 0, 16, 0, .ro, true⟩
def PKE_INPUT_COUNT : Fld := ⟨0xFF000C0018, 0, 64, 0, .ro, false⟩
def PKE_BADSIG_COUNT : Fld := ⟨0xFF000C0020, 0, 64, 0, .ro, false⟩
def PKE_EVICT_COUNT : Fld := ⟨0xFF000C0028, 0, 32, 0, .ro, false⟩
def PKE_SHARE_ETU (d : Nat) : Fld := ⟨0xFF000C0100 + 0x4 * d, 0, 16, 0, .ro, false⟩

/-! ### KEY (spec/11_symmetric_payment_digest.md) -/
def KEY_STATUS_TKEY : Fld := ⟨0xFF000D0000, 0, 1, 0, .ro, false⟩
def KEY_STATUS_INST_BUSY : Fld := ⟨0xFF000D0000, 1, 1, 0, .ro, false⟩
def KEY_STATUS_LANES : Fld := ⟨0xFF000D0000, 8, 6, 0, .ro, false⟩
def KEY_EVENTS_CAUSE : Fld := ⟨0xFF000D0004, 0, 4, 0, .w1c, false⟩
def KEY_INST_SRC_ADDR : Fld := ⟨0xFF000D0008, 6, 34, 0, .rw, false⟩
def KEY_INST_CMD_INDEX : Fld := ⟨0xFF000D0010, 0, 24, 0, .wo, false⟩
def KEY_INST_CMD_OP : Fld := ⟨0xFF000D0010, 24, 2, 0, .wo, false⟩
def KEY_INST_CMD_GO : Fld := ⟨0xFF000D0010, 31, 1, 0, .wo, false⟩
def KEY_INST_STATUS_CODE : Fld := ⟨0xFF000D0014, 0, 16, 0, .ro, false⟩
def KEY_PIN_CMD_INDEX : Fld := ⟨0xFF000D0018, 0, 24, 0, .wo, false⟩
def KEY_PIN_CMD_OP : Fld := ⟨0xFF000D0018, 24, 1, 0, .wo, false⟩
def KEY_PIN_CMD_GO : Fld := ⟨0xFF000D0018, 31, 1, 0, .wo, false⟩
def KEY_PIN_STATUS_CODE : Fld := ⟨0xFF000D001C, 0, 16, 0, .ro, false⟩
def KEY_PIN_STATUS_BUSY : Fld := ⟨0xFF000D001C, 16, 1, 0, .ro, false⟩
def KEY_SLOT_SEL_SLOT : Fld := ⟨0xFF000D0020, 0, 13, 0, .rw, false⟩
def KEY_SLOT_INFO_INDEX : Fld := ⟨0xFF000D0028, 0, 24, 0, .ro, false⟩
def KEY_SLOT_INFO_STATE : Fld := ⟨0xFF000D0028, 24, 3, 0, .ro, false⟩
def KEY_SLOT_INFO_PINNED : Fld := ⟨0xFF000D0028, 27, 1, 0, .ro, false⟩
def KEY_SLOT_INFO_REFS : Fld := ⟨0xFF000D0028, 32, 17, 0, .ro, false⟩
def KEY_DIR_SEL_INDEX : Fld := ⟨0xFF000D0030, 0, 24, 0, .rw, false⟩
def KEY_DIR_DOME : Fld := ⟨0xFF000D0034, 0, 6, 0, .ro, false⟩
def KEY_DIR_VALID : Fld := ⟨0xFF000D0034, 7, 1, 0, .ro, false⟩
def KEY_FETCH_COUNT : Fld := ⟨0xFF000D0038, 0, 64, 0, .ro, false⟩
def KEY_HIT_COUNT : Fld := ⟨0xFF000D0040, 0, 64, 0, .ro, false⟩
def KEY_FETCH_FAIL_COUNT : Fld := ⟨0xFF000D0048, 0, 32, 0, .ro, false⟩
def KEY_PART_FIRST (d : Nat) : Fld := ⟨0xFF000D0100 + 0x4 * d, 0, 13, 0, .ro, false⟩
def KEY_PART_COUNT (d : Nat) : Fld := ⟨0xFF000D0100 + 0x4 * d, 16, 14, 0, .ro, false⟩
def KEY_PINNED_COUNT (d : Nat) : Fld := ⟨0xFF000D0200 + 0x4 * d, 0, 14, 0, .ro, false⟩

/-! ### MEMC (spec/09_memory.md) -/
def MEMC_STATUS_INIT_DONE : Fld := ⟨0xFF000E0000, 0, 1, 0, .ro, false⟩
def MEMC_STATUS_SWEEP : Fld := ⟨0xFF000E0000, 1, 1, 0, .ro, false⟩
def MEMC_CMAP_SEL_CHUNK : Fld := ⟨0xFF000E0004, 0, 16, 0, .rw, false⟩
def MEMC_CMAP_COLOUR : Fld := ⟨0xFF000E0008, 0, 6, 0, .ro, false⟩
def MEMC_RECOLOUR_COLOUR : Fld := ⟨0xFF000E0010, 0, 6, 0, .wo, false⟩
def MEMC_RECOLOUR_MODE : Fld := ⟨0xFF000E0010, 8, 1, 0, .wo, false⟩
def MEMC_RECOLOUR_GO : Fld := ⟨0xFF000E0010, 31, 1, 0, .wo, false⟩
def MEMC_RECOLOUR_STATUS_BUSY : Fld := ⟨0xFF000E0014, 0, 1, 0, .ro, false⟩
def MEMC_RECOLOUR_STATUS_COLOUR : Fld := ⟨0xFF000E0014, 8, 6, 0, .ro, false⟩
def MEMC_RECOLOUR_STATUS_ERR : Fld := ⟨0xFF000E0014, 16, 16, 0, .ro, false⟩
def MEMC_RECOLOUR_PTR_LINE : Fld := ⟨0xFF000E0018, 6, 34, 0, .ro, false⟩
def MEMC_COLOUR_FENCE_DRAINED (c : Nat) : Fld := ⟨0xFF000E0020, c, 1, 1, .ro, false⟩
def MEMC_CE_COUNT_COUNT : Fld := ⟨0xFF000E0028, 0, 64, 0, .ro, false⟩
def MEMC_UE_COUNT_COUNT : Fld := ⟨0xFF000E0030, 0, 32, 0, .ro, false⟩
def MEMC_TAG_COUNT_COUNT : Fld := ⟨0xFF000E0034, 0, 32, 0, .ro, false⟩
def MEMC_UE_ADDR_LINE : Fld := ⟨0xFF000E0038, 6, 34, 0, .ro, false⟩
def MEMC_UE_ADDR_VALID : Fld := ⟨0xFF000E0038, 63, 1, 0, .w1c, false⟩
def MEMC_SCRUB_PERIOD : Fld := ⟨0xFF000E0040, 0, 8, 0x18, .rw, false⟩
def MEMC_SCRUB_PASS_COUNT : Fld := ⟨0xFF000E0044, 0, 32, 0, .ro, false⟩
def MEMC_KEYTAB_LO_BASE : Fld := ⟨0xFF000E0048, 21, 19, 0, .rw, false⟩
def MEMC_KEYTAB_HI_COUNT : Fld := ⟨0xFF000E0050, 0, 25, 0, .rw, false⟩
def MEMC_COLOUR_GEN_GEN (c : Nat) : Fld := ⟨0xFF000E0100 + 0x4 * c, 0, 16, 0, .ro, false⟩

/-! ### MMU (spec/09_memory.md) -/
def MMU_STATUS_REQ_COUNT : Fld := ⟨0xFF000F0000, 0, 13, 0, .ro, false⟩
def MMU_STATUS_REQ_WAIT : Fld := ⟨0xFF000F0000, 13, 1, 0, .ro, false⟩
def MMU_TADDR_INDEX : Fld := ⟨0xFF000F0008, 0, 20, 0, .rw, false⟩
def MMU_TDATA_ENTRY : Fld := ⟨0xFF000F0010, 0, 64, 0, .rw, false⟩
def MMU_REQ_PAGE : Fld := ⟨0xFF000F0018, 16, 32, 0, .ro, false⟩
def MMU_REQ_DOME : Fld := ⟨0xFF000F0018, 48, 6, 0, .ro, false⟩
def MMU_REQ_VALID : Fld := ⟨0xFF000F0018, 63, 1, 0, .ro, false⟩
def MMU_ROOT_INDEX (d : Nat) : Fld := ⟨0xFF000F0100 + 0x4 * d, 0, 20, 0, .rw, false⟩
def MMU_ROOT_VALID (d : Nat) : Fld := ⟨0xFF000F0100 + 0x4 * d, 31, 1, 0, .rw, false⟩
def MMU_PAYLOAD_P_PBASE (d : Nat) : Fld := ⟨0xFF000F0400 + 0x10 * d, 16, 24, 0, .rw, false⟩
def MMU_PAYLOAD_V_VBASE (d : Nat) : Fld := ⟨0xFF000F0408 + 0x10 * d, 16, 32, 0, .rw, false⟩
def MMU_PAYLOAD_V_SLOT (d : Nat) : Fld := ⟨0xFF000F0408 + 0x10 * d, 48, 8, 0, .rw, false⟩
def MMU_RGN_SEL_REGION : Fld := ⟨0xFF000F0800, 0, 6, 0, .rw, false⟩
def MMU_RGN_SEL_DOME : Fld := ⟨0xFF000F0800, 8, 6, 0, .rw, false⟩
def MMU_RGN_STAT_ABSENT : Fld := ⟨0xFF000F0804, 0, 24, 0, .ro, false⟩
def MMU_RGN_STAT_DECLARED : Fld := ⟨0xFF000F0804, 24, 1, 0, .ro, false⟩
def MMU_RGN_STAT_ARMED : Fld := ⟨0xFF000F0804, 25, 1, 0, .ro, false⟩
def MMU_RGN_STAT_WARMING : Fld := ⟨0xFF000F0804, 26, 1, 0, .ro, false⟩
def MMU_RGN_CMD_ARM : Fld := ⟨0xFF000F0808, 0, 1, 0, .wo, false⟩
def MMU_RST_SRC_ADDR : Fld := ⟨0xFF000F0810, 6, 34, 0, .rw, false⟩
def MMU_RST_CMD_REGION : Fld := ⟨0xFF000F0818, 0, 6, 0, .wo, false⟩
def MMU_RST_CMD_DOME : Fld := ⟨0xFF000F0818, 8, 6, 0, .wo, false⟩
def MMU_RST_CMD_GO : Fld := ⟨0xFF000F0818, 31, 1, 0, .wo, false⟩
def MMU_RST_STATUS_LAST : Fld := ⟨0xFF000F081C, 0, 16, 0, .ro, false⟩
def MMU_RST_STATUS_BUSY0 : Fld := ⟨0xFF000F081C, 16, 1, 0, .ro, false⟩
def MMU_RST_STATUS_BUSY1 : Fld := ⟨0xFF000F081C, 17, 1, 0, .ro, false⟩
def MMU_RST_DONE_COUNT : Fld := ⟨0xFF000F0820, 0, 64, 0, .ro, false⟩

/-! ### NET (spec/15_network_federation.md) -/
def NET_PORT_MODE_MODE (p : Nat) : Fld := ⟨0xFF00100000, 4 * p, 3, 0, .ro, false⟩
def NET_LINK_UP : Fld := ⟨0xFF00100004, 0, 16, 0, .ro, false⟩
def NET_EVENTS_CAUSE : Fld := ⟨0xFF00100008, 0, 3, 0, .w1c, false⟩
def NET_UDP_PORT : Fld := ⟨0xFF0010000C, 0, 16, 0, .ro, false⟩
def NET_UDP_MTU : Fld := ⟨0xFF0010000C, 16, 14, 0, .ro, false⟩
def NET_RX_FRAMES_COUNT (k : Nat) : Fld := ⟨0xFF00100100 + 0x8 * k, 0, 64, 0, .ro, false⟩
def NET_TX_FRAMES_COUNT (k : Nat) : Fld := ⟨0xFF00100180 + 0x8 * k, 0, 64, 0, .ro, false⟩
def NET_DROP_COUNT (k : Nat) : Fld := ⟨0xFF00100200 + 0x4 * k, 0, 32, 0, .ro, false⟩
def NET_FEC_CORR_COUNT (k : Nat) : Fld := ⟨0xFF00100240 + 0x8 * k, 0, 64, 0, .ro, false⟩
def NET_FEC_UNCORR_COUNT (k : Nat) : Fld := ⟨0xFF001002C0 + 0x4 * k, 0, 32, 0, .ro, false⟩
def NET_DOWNS_COUNT (k : Nat) : Fld := ⟨0xFF00100300 + 0x4 * k, 0, 32, 0, .ro, false⟩

/-! ### SES (spec/15_network_federation.md) -/
def SES_STATUS_OPEN : Fld := ⟨0xFF00110000, 0, 19, 0, .ro, false⟩
def SES_STATUS_HS : Fld := ⟨0xFF00110000, 20, 9, 0, .ro, false⟩
def SES_EVENTS_CAUSE : Fld := ⟨0xFF00110004, 0, 5, 0, .w1c, false⟩
def SES_CTX_BASE : Fld := ⟨0xFF00110008, 30, 10, 0, .rw, false⟩
def SES_CTX_VALID : Fld := ⟨0xFF00110008, 63, 1, 0, .rw, false⟩
def SES_SEL_INDEX : Fld := ⟨0xFF00110010, 0, 18, 0, .rw, false⟩
def SES_INFO_STATE : Fld := ⟨0xFF00110018, 0, 2, 0, .ro, false⟩
def SES_INFO_DRAINED : Fld := ⟨0xFF00110018, 2, 1, 0, .ro, false⟩
def SES_INFO_CACHED : Fld := ⟨0xFF00110018, 3, 1, 0, .ro, false⟩
def SES_INFO_DOME : Fld := ⟨0xFF00110018, 4, 6, 0, .ro, false⟩
def SES_INFO_CLASS : Fld := ⟨0xFF00110018, 10, 16, 0, .ro, false⟩
def SES_INFO_EPOCH : Fld := ⟨0xFF00110018, 32, 16, 0, .ro, false⟩
def SES_INFO_GEN : Fld := ⟨0xFF00110018, 48, 14, 0, .ro, false⟩
def SES_TAGFAIL_COUNT : Fld := ⟨0xFF00110020, 0, 64, 0, .ro, false⟩
def SES_REPLAY_COUNT : Fld := ⟨0xFF00110028, 0, 64, 0, .ro, false⟩
def SES_HS_DROP_COUNT : Fld := ⟨0xFF00110030, 0, 32, 0, .ro, false⟩
def SES_CTX_DROP_COUNT : Fld := ⟨0xFF00110034, 0, 32, 0, .ro, false⟩
def SES_REASM_DROP_COUNT : Fld := ⟨0xFF00110038, 0, 32, 0, .ro, false⟩
def SES_HANDSHAKES_COUNT : Fld := ⟨0xFF00110040, 0, 64, 0, .ro, false⟩
def SES_CTX_MISS_COUNT : Fld := ⟨0xFF00110048, 0, 64, 0, .ro, false⟩
def SES_KOPEN_ADDR : Fld := ⟨0xFF00110080, 6, 34, 0, .wo, false⟩
def SES_KOPEN_GO : Fld := ⟨0xFF00110080, 63, 1, 0, .wo, false⟩
def SES_KOPEN_STATUS_CODE : Fld := ⟨0xFF00110088, 0, 16, 0, .ro, false⟩
def SES_KOPEN_STATUS_BUSY : Fld := ⟨0xFF00110088, 16, 1, 0, .ro, false⟩
def SES_KOPEN_STATUS_SID : Fld := ⟨0xFF00110088, 32, 32, 0, .ro, false⟩
def SES_KTX_RING_ADDR : Fld := ⟨0xFF00110090, 4, 36, 0, .rw, false⟩
def SES_KTX_RING_ENTRIES : Fld := ⟨0xFF00110090, 48, 16, 0, .rw, false⟩
def SES_KTX_IDX_TAIL : Fld := ⟨0xFF00110098, 0, 16, 0, .rw, false⟩
def SES_KTX_IDX_HEAD : Fld := ⟨0xFF00110098, 16, 16, 0, .ro, false⟩
def SES_KRX_RING_ADDR : Fld := ⟨0xFF001100A0, 4, 36, 0, .rw, false⟩
def SES_KRX_RING_ENTRIES : Fld := ⟨0xFF001100A0, 48, 16, 0, .rw, false⟩
def SES_KRX_IDX_HEAD : Fld := ⟨0xFF001100A8, 0, 16, 0, .rw, false⟩
def SES_KRX_IDX_TAIL : Fld := ⟨0xFF001100A8, 16, 16, 0, .ro, false⟩
def SES_DOME_OPEN_COUNT (d : Nat) : Fld := ⟨0xFF00110100 + 0x4 * d, 0, 19, 0, .ro, false⟩

/-! ### FED (spec/15_network_federation.md) -/
def FED_STATUS_ROLE : Fld := ⟨0xFF00120000, 0, 2, 0, .ro, false⟩
def FED_STATUS_STATE : Fld := ⟨0xFF00120000, 2, 3, 0, .ro, false⟩
def FED_STATUS_SYNC : Fld := ⟨0xFF00120000, 5, 1, 0, .ro, false⟩
def FED_STATUS_STAGED : Fld := ⟨0xFF00120000, 6, 1, 0, .ro, false⟩
def FED_STATUS_BEHIND : Fld := ⟨0xFF00120000, 7, 1, 0, .ro, false⟩
def FED_EVENTS_CAUSE : Fld := ⟨0xFF00120004, 0, 7, 0, .w1c, false⟩
def FED_EPOCH_CURRENT : Fld := ⟨0xFF00120008, 0, 32, 0, .ro, false⟩
def FED_FENCE_DRAINED : Fld := ⟨0xFF0012000C, 0, 1, 1, .ro, false⟩
def FED_TERM_TERM : Fld := ⟨0xFF00120010, 0, 32, 0, .ro, false⟩
def FED_NEXT_T_A : Fld := ⟨0xFF00120018, 0, 64, 0, .rw, false⟩
def FED_CMD_ANNOUNCE : Fld := ⟨0xFF00120020, 0, 1, 0, .wo, false⟩
def FED_CMD_RECLAIM : Fld := ⟨0xFF00120020, 1, 1, 0, .wo, false⟩
def FED_CMD_CODE : Fld := ⟨0xFF00120020, 16, 16, 0, .ro, false⟩
def FED_STAGE_BASE : Fld := ⟨0xFF00120028, 21, 19, 0, .rw, false⟩
def FED_OFFSET_OFFSET : Fld := ⟨0xFF00120030, 0, 64, 0, .ro, false⟩
def FED_DELAY_NS : Fld := ⟨0xFF00120038, 0, 32, 0, .ro, false⟩
def FED_MEMBERS_PRESENT : Fld := ⟨0xFF00120040, 0, 19, 0, .ro, false⟩
def FED_READY_COUNT : Fld := ⟨0xFF00120044, 0, 19, 0, .ro, false⟩
def FED_MISSED_COUNT : Fld := ⟨0xFF00120048, 0, 32, 0, .ro, false⟩

/-! ### FLC (spec/16_flash.md) -/
def FLC_STATUS_BUSY : Fld := ⟨0xFF00130000, 0, 1, 0, .ro, false⟩
def FLC_STATUS_SUSPENDED : Fld := ⟨0xFF00130000, 1, 1, 0, .ro, false⟩
def FLC_STATUS_AUTOSUSPENDED : Fld := ⟨0xFF00130000, 2, 1, 0, .ro, false⟩
def FLC_STATUS_SCANNED : Fld := ⟨0xFF00130000, 3, 1, 0, .ro, false⟩
def FLC_STATUS_BANK : Fld := ⟨0xFF00130000, 4, 2, 0, .ro, false⟩
def FLC_STATUS_INTERNAL : Fld := ⟨0xFF00130000, 6, 1, 0, .ro, false⟩
def FLC_STATUS_WIGNORED : Fld := ⟨0xFF00130000, 8, 8, 0, .ro, false⟩
def FLC_CTRL_AUTOSUSP : Fld := ⟨0xFF00130004, 0, 1, 1, .rw, false⟩
def FLC_CTRL_HOLDOFF_US : Fld := ⟨0xFF00130004, 8, 16, 0x64, .rw, false⟩
def FLC_CTRL_WARN_BITS : Fld := ⟨0xFF00130004, 24, 2, 2, .rw, false⟩
def FLC_CMD_OP : Fld := ⟨0xFF00130008, 0, 4, 0, .wo, false⟩
def FLC_CMD_HALF : Fld := ⟨0xFF00130008, 4, 2, 0, .wo, false⟩
def FLC_CMD_TWIN : Fld := ⟨0xFF00130008, 8, 1, 0, .wo, false⟩
def FLC_CMD_GO : Fld := ⟨0xFF00130008, 31, 1, 0, .wo, false⟩
def FLC_ADDR_OFFSET : Fld := ⟨0xFF0013000C, 0, 29, 0, .rw, false⟩
def FLC_SRC_ADDR : Fld := ⟨0xFF00130010, 6, 34, 0, .rw, false⟩
def FLC_RESULT_CODE : Fld := ⟨0xFF00130018, 0, 16, 0, .ro, false⟩
def FLC_RESULT_PULSES : Fld := ⟨0xFF00130018, 16, 8, 0, .ro, false⟩
def FLC_EVENTS_CAUSE : Fld := ⟨0xFF0013001C, 0, 5, 0, .w1c, false⟩
def FLC_TWIN_POINTER : Fld := ⟨0xFF00130020, 0, 1, 0, .ro, false⟩
def FLC_TWIN_SEQ : Fld := ⟨0xFF00130020, 32, 32, 0, .ro, false⟩
def FLC_CE_COUNT_COUNT : Fld := ⟨0xFF00130028, 0, 64, 0, .ro, false⟩
def FLC_WARN_COUNT_COUNT : Fld := ⟨0xFF00130030, 0, 32, 0, .ro, false⟩
def FLC_UE_COUNT_COUNT : Fld := ⟨0xFF00130034, 0, 32, 0, .ro, false⟩
def FLC_WARN_ADDR_LINE : Fld := ⟨0xFF00130038, 5, 24, 0, .ro, false⟩
def FLC_WARN_ADDR_VALID : Fld := ⟨0xFF00130038, 63, 1, 0, .w1c, false⟩
def FLC_UE_ADDR_LINE : Fld := ⟨0xFF00130040, 5, 24, 0, .ro, false⟩
def FLC_UE_ADDR_VALID : Fld := ⟨0xFF00130040, 63, 1, 0, .w1c, false⟩
def FLC_SUSP_COUNT_COUNT : Fld := ⟨0xFF00130048, 0, 64, 0, .ro, false⟩
def FLC_SECT_SEL_SECTOR : Fld := ⟨0xFF00130050, 0, 13, 0, .rw, false⟩
def FLC_SECT_INFO_STATE : Fld := ⟨0xFF00130058, 0, 2, 0, .ro, false⟩
def FLC_SECT_INFO_WORN : Fld := ⟨0xFF00130058, 2, 1, 0, .ro, false⟩
def FLC_SECT_INFO_ERASES : Fld := ⟨0xFF00130058, 8, 24, 0, .ro, false⟩

/-! ### ICC (spec/17_cards.md) -/
def ICC_CFG_DIV (n : Nat) : Fld := ⟨0xFF00140000 + 0x40 * n, 0, 11, 0x190, .rw, false⟩
def ICC_CFG_RETRY (n : Nat) : Fld := ⟨0xFF00140000 + 0x40 * n, 12, 3, 3, .rw, false⟩
def ICC_CFG_PPS (n : Nat) : Fld := ⟨0xFF00140000 + 0x40 * n, 16, 1, 1, .rw, false⟩
def ICC_CFG_CLASS (n : Nat) : Fld := ⟨0xFF00140000 + 0x40 * n, 17, 2, 0, .rw, false⟩
def ICC_CFG_DOME (n : Nat) : Fld := ⟨0xFF00140000 + 0x40 * n, 24, 6, 0, .rw, false⟩
def ICC_CMD_OP (n : Nat) : Fld := ⟨0xFF00140004 + 0x40 * n, 0, 3, 0, .wo, false⟩
def ICC_CMD_CLEN (n : Nat) : Fld := ⟨0xFF00140004 + 0x40 * n, 8, 9, 0, .wo, false⟩
def ICC_CMD_INDEX (n : Nat) : Fld := ⟨0xFF00140004 + 0x40 * n, 20, 4, 0, .wo, false⟩
def ICC_CMD_GO (n : Nat) : Fld := ⟨0xFF00140004 + 0x40 * n, 31, 1, 0, .wo, false⟩
def ICC_STATUS_PRESENT (n : Nat) : Fld := ⟨0xFF00140008 + 0x40 * n, 0, 1, 0, .ro, false⟩
def ICC_STATUS_ACTIVE (n : Nat) : Fld := ⟨0xFF00140008 + 0x40 * n, 1, 1, 0, .ro, false⟩
def ICC_STATUS_BUSY (n : Nat) : Fld := ⟨0xFF00140008 + 0x40 * n, 2, 1, 0, .ro, false⟩
def ICC_STATUS_PROTO (n : Nat) : Fld := ⟨0xFF00140008 + 0x40 * n, 3, 1, 0, .ro, false⟩
def ICC_STATUS_CLASS (n : Nat) : Fld := ⟨0xFF00140008 + 0x40 * n, 4, 1, 0, .ro, false⟩
def ICC_STATUS_CLKSTOP (n : Nat) : Fld := ⟨0xFF00140008 + 0x40 * n, 5, 1, 0, .ro, false⟩
def ICC_STATUS_FI (n : Nat) : Fld := ⟨0xFF00140008 + 0x40 * n, 8, 4, 0, .ro, false⟩
def ICC_STATUS_DI (n : Nat) : Fld := ⟨0xFF00140008 + 0x40 * n, 12, 4, 0, .ro, false⟩
def ICC_BUF_ADDR (n : Nat) : Fld := ⟨0xFF00140010 + 0x40 * n, 9, 31, 0, .rw, false⟩
def ICC_RESULT_CODE (n : Nat) : Fld := ⟨0xFF00140018 + 0x40 * n, 0, 16, 0, .ro, false⟩
def ICC_RESULT_RLEN (n : Nat) : Fld := ⟨0xFF00140018 + 0x40 * n, 16, 9, 0, .ro, false⟩
def ICC_REPEAT_COUNT (n : Nat) : Fld := ⟨0xFF0014001C + 0x40 * n, 0, 32, 0, .ro, false⟩
def ICC_EVENTS_CAUSE : Fld := ⟨0xFF00140100, 0, 4, 0, .w1c, false⟩
def ICC_CER_CMD_OP : Fld := ⟨0xFF00140104, 0, 3, 0, .wo, false⟩
def ICC_CER_CMD_TARGET : Fld := ⟨0xFF00140104, 4, 2, 0, .wo, false⟩
def ICC_CER_CMD_N : Fld := ⟨0xFF00140104, 8, 4, 0, .wo, false⟩
def ICC_CER_CMD_DOME : Fld := ⟨0xFF00140104, 16, 6, 0, .wo, false⟩
def ICC_CER_CMD_GO : Fld := ⟨0xFF00140104, 31, 1, 0, .wo, false⟩
def ICC_CER_STATUS_STATE : Fld := ⟨0xFF00140108, 0, 2, 0, .ro, false⟩
def ICC_CER_STATUS_GOT : Fld := ⟨0xFF00140108, 8, 8, 0, .ro, false⟩
def ICC_CER_STATUS_CODE : Fld := ⟨0xFF00140108, 16, 16, 0, .ro, false⟩
def ICC_CER_KCV_KCV : Fld := ⟨0xFF0014010C, 0, 24, 0, .rw, false⟩
def ICC_CER_KB_ADDR : Fld := ⟨0xFF00140110, 6, 34, 0, .rw, false⟩
def ICC_CER_KB_LEN : Fld := ⟨0xFF00140110, 40, 13, 0, .rw, false⟩
def ICC_CER_WRAP_INDEX : Fld := ⟨0xFF00140118, 0, 24, 0, .rw, false⟩

/-! ### SDH (spec/17_cards.md) -/
def SDH_CFG_UHS : Fld := ⟨0xFF00150000, 0, 1, 1, .rw, false⟩
def SDH_CFG_MAXMODE : Fld := ⟨0xFF00150000, 1, 3, 5, .rw, false⟩
def SDH_CFG_WIDTH : Fld := ⟨0xFF00150000, 4, 1, 1, .rw, false⟩
def SDH_CFG_RETRIES : Fld := ⟨0xFF00150000, 6, 2, 2, .rw, false⟩
def SDH_CFG_DOME : Fld := ⟨0xFF00150000, 8, 6, 0, .rw, false⟩
def SDH_STATUS_PRESENT : Fld := ⟨0xFF00150004, 0, 1, 0, .ro, false⟩
def SDH_STATUS_READY : Fld := ⟨0xFF00150004, 1, 1, 0, .ro, false⟩
def SDH_STATUS_BUSY : Fld := ⟨0xFF00150004, 2, 1, 0, .ro, false⟩
def SDH_STATUS_V18 : Fld := ⟨0xFF00150004, 3, 1, 0, .ro, false⟩
def SDH_STATUS_NO_UHS : Fld := ⟨0xFF00150004, 4, 1, 0, .ro, false⟩
def SDH_STATUS_TYPE : Fld := ⟨0xFF00150004, 5, 2, 0, .ro, false⟩
def SDH_STATUS_MODE : Fld := ⟨0xFF00150004, 8, 3, 0, .ro, false⟩
def SDH_STATUS_RPMB : Fld := ⟨0xFF00150004, 11, 1, 0, .ro, false⟩
def SDH_STATUS_SLEEP : Fld := ⟨0xFF00150004, 12, 1, 0, .ro, false⟩
def SDH_CMD_OP : Fld := ⟨0xFF00150008, 0, 4, 0, .wo, false⟩
def SDH_CMD_AREA : Fld := ⟨0xFF00150008, 8, 4, 0, .wo, false⟩
def SDH_CMD_GO : Fld := ⟨0xFF00150008, 31, 1, 0, .wo, false⟩
def SDH_ARG_BLOCK : Fld := ⟨0xFF0015000C, 0, 32, 0, .rw, false⟩
def SDH_COUNT_BLOCKS : Fld := ⟨0xFF00150010, 0, 16, 0, .rw, false⟩
def SDH_ADDR_ADDR : Fld := ⟨0xFF00150018, 9, 31, 0, .rw, false⟩
def SDH_KEY_INDEX : Fld := ⟨0xFF00150020, 0, 24, 0, .rw, false⟩
def SDH_RESULT_CODE : Fld := ⟨0xFF00150024, 0, 16, 0, .ro, false⟩
def SDH_RESULT_DONE : Fld := ⟨0xFF00150024, 16, 16, 0, .ro, false⟩
def SDH_EVENTS_CAUSE : Fld := ⟨0xFF00150028, 0, 4, 0, .w1c, false⟩
def SDH_CID_LO_CID : Fld := ⟨0xFF00150030, 0, 64, 0, .ro, false⟩
def SDH_CID_HI_CID : Fld := ⟨0xFF00150038, 0, 64, 0, .ro, false⟩
def SDH_RPMB_PEND_COUNTER : Fld := ⟨0xFF00150040, 0, 32, 0, .ro, false⟩
def SDH_RPMB_PEND_VALID : Fld := ⟨0xFF00150040, 63, 1, 0, .ro, false⟩
def SDH_CSA_SEL_AREA : Fld := ⟨0xFF00150048, 0, 4, 0, .rw, false⟩
def SDH_CSA_CNT_COUNT : Fld := ⟨0xFF00150050, 0, 64, 0, .ro, false⟩
def SDH_CRC_RETRY_COUNT : Fld := ⟨0xFF00150058, 0, 32, 0, .ro, false⟩

/-! ### CLF (spec/18_contactless.md) -/
def CLF_CTRL_TAG_EN : Fld := ⟨0xFF00160000, 4, 1, 1, .rw, true⟩
def CLF_STATUS_FIELD : Fld := ⟨0xFF00160004, 0, 1, 0, .ro, false⟩
def CLF_STATUS_CARRIER : Fld := ⟨0xFF00160004, 1, 1, 0, .ro, false⟩
def CLF_STATUS_RCARD : Fld := ⟨0xFF00160004, 2, 1, 0, .ro, false⟩
def CLF_STATUS_RSESSION : Fld := ⟨0xFF00160004, 3, 1, 0, .ro, false⟩
def CLF_STATUS_RBUSY : Fld := ⟨0xFF00160004, 4, 1, 0, .ro, false⟩
def CLF_STATUS_MULTI : Fld := ⟨0xFF00160004, 5, 1, 0, .ro, false⟩
def CLF_STATUS_TSESSION : Fld := ⟨0xFF00160004, 6, 1, 0, .ro, false⟩
def CLF_STATUS_BACKOFF : Fld := ⟨0xFF00160004, 7, 1, 0, .ro, false⟩
def CLF_EVENTS_CAUSE : Fld := ⟨0xFF00160008, 0, 6, 0, .w1c, false⟩
def CLF_RCFG_MAXRATE : Fld := ⟨0xFF0016000C, 0, 2, 3, .rw, false⟩
def CLF_RCMD_OP : Fld := ⟨0xFF00160010, 0, 3, 0, .wo, false⟩
def CLF_RCMD_CLEN : Fld := ⟨0xFF00160010, 8, 10, 0, .wo, false⟩
def CLF_RCMD_GO : Fld := ⟨0xFF00160010, 31, 1, 0, .wo, false⟩
def CLF_RBUF_ADDR : Fld := ⟨0xFF00160018, 10, 30, 0, .rw, false⟩
def CLF_RRESULT_CODE : Fld := ⟨0xFF00160020, 0, 16, 0, .ro, false⟩
def CLF_RRESULT_RLEN : Fld := ⟨0xFF00160020, 16, 10, 0, .ro, false⟩
def CLF_RKEY_INDEX : Fld := ⟨0xFF00160024, 0, 24, 0, .rw, false⟩
def CLF_UID_UID : Fld := ⟨0xFF00160028, 0, 64, 0, .ro, false⟩
def CLF_UIDX_UID : Fld := ⟨0xFF00160030, 0, 16, 0, .ro, false⟩
def CLF_UIDX_LEN : Fld := ⟨0xFF00160030, 16, 4, 0, .ro, false⟩
def CLF_UIDX_SAK : Fld := ⟨0xFF00160030, 24, 8, 0, .ro, false⟩
def CLF_BADGE_ID_ID : Fld := ⟨0xFF00160038, 0, 64, 0, .ro, false⟩
def CLF_TKEY_CMD_INDEX : Fld := ⟨0xFF00160040, 0, 24, 0, .wo, false⟩
def CLF_TKEY_CMD_CLEAR : Fld := ⟨0xFF00160040, 30, 1, 0, .wo, false⟩
def CLF_TKEY_CMD_GO : Fld := ⟨0xFF00160040, 31, 1, 0, .wo, false⟩
def CLF_TKEY_STATUS_CODE : Fld := ⟨0xFF00160044, 0, 16, 0, .ro, false⟩
def CLF_TKEY_STATUS_LOADED : Fld := ⟨0xFF00160044, 16, 1, 0, .ro, true⟩
def CLF_MBOX_IN_OWN : Fld := ⟨0xFF00160048, 0, 2, 0, .ro, true⟩
def CLF_MBOX_OUT_OWN : Fld := ⟨0xFF00160048, 2, 2, 0, .ro, true⟩
def CLF_MBOX_FILL : Fld := ⟨0xFF00160048, 4, 1, 0, .ro, true⟩
def CLF_MBOX_LATEST : Fld := ⟨0xFF00160048, 5, 1, 0, .ro, true⟩
def CLF_MBOX_REL_IN : Fld := ⟨0xFF00160048, 8, 2, 0, .wo, false⟩
def CLF_MBOX_PUB_OUT : Fld := ⟨0xFF00160048, 10, 2, 0, .wo, false⟩
def CLF_MBOX_LEN : Fld := ⟨0xFF00160048, 16, 9, 0, .wo, false⟩
def CLF_MB_SEQ_IN_SEQ : Fld := ⟨0xFF00160050, 0, 32, 0, .ro, true⟩
def CLF_MB_SEQ_OUT_SEQ : Fld := ⟨0xFF00160050, 32, 32, 0, .ro, true⟩
def CLF_AUTHFAIL_COUNT : Fld := ⟨0xFF00160058, 0, 16, 0, .ro, true⟩
def CLF_FIELDS_COUNT : Fld := ⟨0xFF0016005C, 0, 32, 0, .ro, true⟩
def CLF_TAGMEM_WORD (i : Nat) : Fld := ⟨0xFF00161000 + 0x4 * i, 0, 32, 0, .rw, true⟩

/-! ### TIME (spec/03_clocks_power.md) -/
def TIME_DTIME_NS : Fld := ⟨0xFF00170000, 0, 64, 0, .ro, false⟩
def TIME_DFRAC_FRAC : Fld := ⟨0xFF00170008, 0, 16, 0, .ro, false⟩
def TIME_TSTAMP_TICKS : Fld := ⟨0xFF00170010, 0, 48, 0, .ro, true⟩
def TIME_DISC_RATE : Fld := ⟨0xFF00170018, 0, 20, 0, .rw, false⟩
def TIME_ALARM_TICKS : Fld := ⟨0xFF00170020, 0, 48, 0, .rw, true⟩
def TIME_PAIR_DTIME_DTIME : Fld := ⟨0xFF00170028, 0, 64, 0, .ro, true⟩
def TIME_PAIR_TSTAMP_TSTAMP : Fld := ⟨0xFF00170030, 0, 48, 0, .ro, true⟩
def TIME_STATUS_UNSET : Fld := ⟨0xFF00170038, 0, 1, 1, .ro, false⟩
def TIME_STATUS_REJECT : Fld := ⟨0xFF00170038, 1, 1, 0, .w1c, false⟩
def TIME_SET_NS : Fld := ⟨0xFF00170040, 0, 64, 0, .wo, false⟩

/-! ### JRN (spec/06_jobs_promises.md) -/
def JRN_CTRL_OPEN : Fld := ⟨0xFF00180000, 0, 1, 0, .wo, false⟩
def JRN_STATUS_OPEN : Fld := ⟨0xFF00180004, 0, 1, 0, .ro, false⟩
def JRN_STATUS_SEALED : Fld := ⟨0xFF00180004, 1, 1, 0, .ro, false⟩
def JRN_STATUS_BADEXP : Fld := ⟨0xFF00180004, 2, 1, 0, .w1c, false⟩
def JRN_STATUS_FULL : Fld := ⟨0xFF00180004, 3, 1, 0, .ro, false⟩
def JRN_BASE_ADDR : Fld := ⟨0xFF00180008, 0, 40, 0, .rw, false⟩
def JRN_SIZE_UNITS : Fld := ⟨0xFF00180010, 0, 16, 0, .rw, false⟩
def JRN_NEXT_SEQ_SEQ : Fld := ⟨0xFF00180018, 0, 64, 0, .ro, false⟩
def JRN_EXPORT_SEQ : Fld := ⟨0xFF00180020, 0, 64, 0, .rw, false⟩
def JRN_FREE_POSITIONS : Fld := ⟨0xFF00180028, 0, 32, 0, .ro, false⟩
def JRN_LOW_POSITIONS : Fld := ⟨0xFF0018002C, 0, 32, 0, .rw, false⟩
def JRN_CHAIN_WORD (i : Nat) : Fld := ⟨0xFF00180040 + 0x4 * i, 0, 32, 0, .ro, false⟩
def JRN_SEAL_SEQ_SEQ : Fld := ⟨0xFF00180060, 0, 64, 0, .ro, true⟩
def JRN_SEAL_EXP_SEQ : Fld := ⟨0xFF00180068, 0, 64, 0, .ro, true⟩
def JRN_SEAL_INFO_VALID : Fld := ⟨0xFF00180070, 0, 1, 0, .ro, true⟩
def JRN_SEAL_INFO_CAUSE : Fld := ⟨0xFF00180070, 4, 4, 0, .ro, true⟩
def JRN_SEAL_CHAIN_WORD (i : Nat) : Fld := ⟨0xFF00180080 + 0x4 * i, 0, 32, 0, .ro, true⟩

/-! ### SPR (spec/08_core_instructions.md) -/
def SPR_CX_ENTRY_START (s : Nat) (n : Nat) : Fld := ⟨0xFF01000000 + 0x100000 * s + 0x4 * n, 0, 10, 0, .ro, false⟩
def SPR_CX_ENTRY_LEN (s : Nat) (n : Nat) : Fld := ⟨0xFF01000000 + 0x100000 * s + 0x4 * n, 16, 7, 0, .ro, false⟩
def SPR_CX_ENTRY_LATENCY (s : Nat) (n : Nat) : Fld := ⟨0xFF01000000 + 0x100000 * s + 0x4 * n, 24, 7, 0, .ro, false⟩
def SPR_UCODE_WORD (s : Nat) (w : Nat) (k : Nat) : Fld := ⟨0xFF01010000 + 0x100000 * s + 0x10 * w + 0x4 * k, 0, 32, 0, .ro, false⟩
def SPR_MV_STATUS_BUSY (s : Nat) : Fld := ⟨0xFF01020000 + 0x100000 * s, 0, 4, 0, .ro, false⟩
def SPR_MV_STATUS_HELD (s : Nat) : Fld := ⟨0xFF01020000 + 0x100000 * s, 4, 9, 0, .ro, false⟩
def SPR_MV_STATUS_FAULTED (s : Nat) : Fld := ⟨0xFF01020000 + 0x100000 * s, 13, 9, 0, .ro, false⟩
def SPR_MV_GRAN_COUNT (s : Nat) : Fld := ⟨0xFF01020008 + 0x100000 * s, 0, 64, 0, .ro, false⟩
def SPR_XL_CFG_LOOKUP (s : Nat) : Fld := ⟨0xFF01030000 + 0x100000 * s, 0, 8, 0x10, .ro, false⟩
def SPR_PWR_STATE (s : Nat) : Fld := ⟨0xFF01040000 + 0x100000 * s, 0, 2, 0, .ro, false⟩
def SPR_PWR_WAKES (s : Nat) : Fld := ⟨0xFF01040000 + 0x100000 * s, 16, 16, 0, .ro, false⟩

end R

/-- The registers of block RST. -/
def regsOfRst : List RegD :=
  [⟨0xFF00000000, [], false, [R.RST_CAUSE_POWER, R.RST_CAUSE_NRESET, R.RST_CAUSE_MGT, R.RST_CAUSE_FCU, R.RST_CAUSE_KEEP, R.RST_CAUSE_WATCHDOG, R.RST_CAUSE_BEDROCK]⟩,
   ⟨0xFF00000004, [], false, [R.RST_CTRL_SWRESET]⟩,
   ⟨0xFF00000008, [], false, [R.RST_BOOT_PHASE, R.RST_BOOT_FAILSTEP, R.RST_BOOT_TWIN, R.RST_BOOT_FALLBACK, R.RST_BOOT_ATTEMPTS, R.RST_BOOT_OVERRIDE]⟩,
   ⟨0xFF0000000C, [], false, [R.RST_CONFIRM_CONFIRM, R.RST_CONFIRM_RAISE]⟩,
   ⟨0xFF00000010, [], false, [R.RST_FWVER_MINVER, R.RST_FWVER_RUNVER]⟩,
   ⟨0xFF00000014, [], false, [R.RST_ROOT_DIK_VALID, R.RST_ROOT_SRK_VALID]⟩,
   ⟨0xFF00000018, [], false, [R.RST_DEFERRED_EXEC]⟩,
   ⟨0xFF0000001C, [], false, [R.RST_LC_STATE, R.RST_LC_BUSY, R.RST_LC_REJECT]⟩,
   ⟨0xFF00000020, [], false, [R.RST_LC_CMD_TARGET, R.RST_LC_CMD_KEY]⟩]

/-- The registers of block PWR. -/
def regsOfPwr : List RegD :=
  [⟨0xFF00010000, [], false, [R.PWR_CEIL_CEIL, R.PWR_CEIL_FORCE]⟩,
   ⟨0xFF00010004, [], false, [R.PWR_BUDGET_BUDGET_US]⟩,
   ⟨0xFF00010008, [], false, [R.PWR_STATE_DEV, R.PWR_STATE_TRANS, R.PWR_STATE_TARGET, R.PWR_STATE_HOLD_READY]⟩,
   ⟨0xFF00010010, [], true, (List.range 32).map (fun i => R.PWR_SPIRE_STATE_S i)⟩,
   ⟨0xFF00010020, [], false, [R.PWR_IDLE_DOZE_IDLE, R.PWR_IDLE_NAP_IDLE, R.PWR_IDLE_DEEP_IDLE]⟩,
   ⟨0xFF00010030, [], false, [R.PWR_WAKE_SRC_NWAKE, R.PWR_WAKE_SRC_MGT, R.PWR_WAKE_SRC_FIELD, R.PWR_WAKE_SRC_ALARM, R.PWR_WAKE_SRC_TAMPER]⟩,
   ⟨0xFF00010034, [], false, [R.PWR_WAKE_EN_EN]⟩,
   ⟨0xFF00010040, [], false, [R.PWR_FORCED_CNT_COUNT]⟩]

/-- The registers of block CLK. -/
def regsOfClk : List RegD :=
  [⟨0xFF00020000, [], false, [R.CLK_CORE_MULT, R.CLK_CORE_SPREAD]⟩,
   ⟨0xFF00020004, [], false, [R.CLK_LOCK_CORE, R.CLK_LOCK_DDR, R.CLK_LOCK_KEEP, R.CLK_LOCK_TBASE, R.CLK_LOCK_SER0, R.CLK_LOCK_SER1]⟩,
   ⟨0xFF00020008, [], false, [R.CLK_SLEW_MGT, R.CLK_SLEW_ICC0, R.CLK_SLEW_ICC1, R.CLK_SLEW_SD, R.CLK_SLEW_BEDROCK]⟩,
   ⟨0xFF0002000C, [], false, [R.CLK_XTAL_FAIL, R.CLK_XTAL_ONRC, R.CLK_XTAL_RCLATCH]⟩]

/-- The registers of block MGT. -/
def regsOfMgt : List RegD :=
  [⟨0xFF00030000, [], false, [R.MGT_CMD_CODE]⟩,
   ⟨0xFF00030004, [], false, [R.MGT_ARG_ARG]⟩,
   ⟨0xFF00030008, [], false, [R.MGT_RESULT_STATUS, R.MGT_RESULT_CODE]⟩,
   ⟨0xFF0003000C, [], false, [R.MGT_ALERT_HOLD_READY, R.MGT_ALERT_TAMPER, R.MGT_ALERT_READY, R.MGT_ALERT_BOOTFAIL, R.MGT_ALERT_TEMPWARN]⟩,
   ⟨0xFF00030010, [], false, [R.MGT_ALERT_EN_EN]⟩,
   ⟨0xFF00030014, [], false, [R.MGT_TEMP_TJ]⟩,
   ⟨0xFF00030018, [], false, [R.MGT_ERR_CRC, R.MGT_ERR_FRAME, R.MGT_ERR_OUTSIDE]⟩]

/-- The registers of block STB. -/
def regsOfStb : List RegD :=
  [⟨0xFF00040000, [], false, [R.STB_CTRL_START, R.STB_CTRL_ABORT, R.STB_CTRL_NONE, R.STB_CTRL_MODE, R.STB_CTRL_DOME]⟩,
   ⟨0xFF00040004, [], false, [R.STB_STATUS_PHASE, R.STB_STATUS_BUSY, R.STB_STATUS_TAMPER_KEPT, R.STB_STATUS_KEEPONLY, R.STB_STATUS_AMEND, R.STB_STATUS_DOME]⟩,
   ⟨0xFF00040008, [], false, [R.STB_ERR_CODE, R.STB_ERR_DETAIL]⟩,
   ⟨0xFF00040010, [], true, [R.STB_SRC_ADDR]⟩,
   ⟨0xFF00040018, [], false, [R.STB_LEN_LEN]⟩,
   ⟨0xFF00040020, [], true, [R.STB_STAGE_ADDR]⟩,
   ⟨0xFF00040028, [], false, [R.STB_VERSION_VERSION]⟩,
   ⟨0xFF0004002C, [], false, [R.STB_MINVER_MIN]⟩,
   ⟨0xFF00040030, [], false, [R.STB_RAISE_WHOLE, R.STB_RAISE_DOMV, R.STB_RAISE_DOME]⟩,
   ⟨0xFF00040038, [], true, [R.STB_DEVID_ID]⟩,
   ⟨0xFF00040040, [], true, (List.range 64).map (fun i => R.STB_DOM_FENCE_DRAINED i)⟩,
   ⟨0xFF00040048, [], false, (List.range 32).map (fun i => R.STB_SPIRE_LOADED_LOADED i)⟩,
   ⟨0xFF00040100, [(0x4, 64)], false, [R.STB_DOM_STATE_STATE 0, R.STB_DOM_STATE_WARMING 0, R.STB_DOM_STATE_ALLOTTED 0, R.STB_DOM_STATE_EPOCH 0]⟩,
   ⟨0xFF00040200, [(0x4, 64)], false, [R.STB_DOM_VER_VERSION 0]⟩,
   ⟨0xFF00040300, [(0x4, 64)], false, [R.STB_DOM_MIN_MIN 0]⟩]

/-- The registers of block JSC. -/
def regsOfJsc : List RegD :=
  [⟨0xFF00050000, [], false, [R.JSC_STATUS_OPEN, R.JSC_STATUS_INFLIGHT]⟩,
   ⟨0xFF00050004, [], false, [R.JSC_PARAM_ETU_CYCLES, R.JSC_PARAM_PERIOD_NS]⟩,
   ⟨0xFF00050008, [], false, [R.JSC_LASTID_ID]⟩,
   ⟨0xFF00050010, [], true, [R.JSC_ADM_P_COUNT]⟩,
   ⟨0xFF00050018, [], true, [R.JSC_ADM_B_COUNT]⟩,
   ⟨0xFF00050020, [(0x8, 7)], true, [R.JSC_REF_COUNT 0]⟩,
   ⟨0xFF00050060, [(0x4, 4)], false, [R.JSC_BROKEN_COUNT 0]⟩,
   ⟨0xFF00050070, [], false, [R.JSC_HFAULT_COUNT]⟩,
   ⟨0xFF00050074, [], false, [R.JSC_MISSED_COUNT]⟩,
   ⟨0xFF00050078, [], false, [R.JSC_EVENTS_CAUSE]⟩,
   ⟨0xFF00050100, [(0x4, 64)], false, [R.JSC_DOME_LIMIT_MAX 0]⟩,
   ⟨0xFF00050200, [(0x4, 64)], false, [R.JSC_BEST_MAX_MAX 0]⟩,
   ⟨0xFF00050300, [(0x4, 64)], false, [R.JSC_DOME_INFLIGHT_COUNT 0]⟩]

/-- The registers of block ART. -/
def regsOfArt : List RegD :=
  [⟨0xFF00060000, [], false, [R.ART_CTRL_COPY, R.ART_CTRL_SWITCH]⟩,
   ⟨0xFF00060004, [], false, [R.ART_STATUS_OWNED, R.ART_STATUS_COPYING, R.ART_STATUS_STB_HOLD, R.ART_STATUS_BOOTSET]⟩,
   ⟨0xFF00060008, [], false, [R.ART_EPOCH_CURRENT, R.ART_EPOCH_DRAINING]⟩,
   ⟨0xFF0006000C, [], false, [R.ART_FENCE_DRAINED]⟩,
   ⟨0xFF00060010, [], false, [R.ART_RSEL_INDEX, R.ART_RSEL_VIEW]⟩,
   ⟨0xFF00060014, [], false, [R.ART_EVENTS_SWITCHED, R.ART_EVENTS_REFUSED, R.ART_EVENTS_DRAINED, R.ART_EVENTS_LOST]⟩,
   ⟨0xFF00060018, [], true, [R.ART_RBASE_BASE]⟩,
   ⟨0xFF00060020, [], false, [R.ART_RPAGES_PAGES]⟩,
   ⟨0xFF00060024, [], false, [R.ART_RCLS_CLASSES]⟩,
   ⟨0xFF00060028, [], true, [R.ART_RMASK_R_MASK]⟩,
   ⟨0xFF00060030, [], true, [R.ART_RMASK_W_MASK]⟩,
   ⟨0xFF00060038, [], true, [R.ART_RMASK_X_MASK]⟩]

/-- The registers of block FCU. -/
def regsOfFcu : List RegD :=
  [⟨0xFF00070000, [], false, [R.FCU_EVENTS_CAUSE]⟩,
   ⟨0xFF00070010, [(0x4, 4)], false, [R.FCU_GRACE_US 0]⟩,
   ⟨0xFF00070020, [(0x4, 4)], false, [R.FCU_QUIET_MS 0]⟩,
   ⟨0xFF00070030, [(0x4, 4)], false, [R.FCU_LADDER_STEPS 0]⟩,
   ⟨0xFF00070040, [], false, (List.range 7).map (fun i => R.FCU_SRC_MAP_SRC i)⟩,
   ⟨0xFF00070044, [], false, [R.FCU_ACK_DOME, R.FCU_ACK_CLASS, R.FCU_ACK_GO]⟩,
   ⟨0xFF00070048, [], false, [R.FCU_RETIRE_SPIRE, R.FCU_RETIRE_GO]⟩,
   ⟨0xFF0007004C, [], false, (List.range 32).map (fun i => R.FCU_RETIRED_RETIRED i)⟩,
   ⟨0xFF00070050, [], false, (List.range 32).map (fun i => R.FCU_RETIRED_HIST_EVER i)⟩,
   ⟨0xFF00070100, [(0x40, 4)], true, [R.FCU_FIRST_ADDR_ADDR 0]⟩,
   ⟨0xFF00070108, [(0x40, 4)], false, [R.FCU_FIRST_INFO_AGENT 0, R.FCU_FIRST_INFO_DOME 0, R.FCU_FIRST_INFO_TYPE 0, R.FCU_FIRST_INFO_SOURCE 0, R.FCU_FIRST_INFO_SPIRE 0, R.FCU_FIRST_INFO_VALID 0]⟩,
   ⟨0xFF00070110, [(0x40, 4)], true, [R.FCU_FIRST_TIME_TIME 0]⟩,
   ⟨0xFF00070120, [(0x40, 4)], true, [R.FCU_LAST_ADDR_ADDR 0]⟩,
   ⟨0xFF00070128, [(0x40, 4)], false, [R.FCU_LAST_INFO_AGENT 0, R.FCU_LAST_INFO_DOME 0, R.FCU_LAST_INFO_TYPE 0, R.FCU_LAST_INFO_SOURCE 0, R.FCU_LAST_INFO_SPIRE 0, R.FCU_LAST_INFO_VALID 0]⟩,
   ⟨0xFF00070130, [(0x40, 4)], true, [R.FCU_LAST_TIME_TIME 0]⟩,
   ⟨0xFF00070138, [(0x40, 4)], false, [R.FCU_LATER_COUNT 0]⟩,
   ⟨0xFF0007013C, [(0x40, 4)], false, [R.FCU_RECOV_COUNT 0]⟩,
   ⟨0xFF00071000, [(0x10, 64), (0x4, 4)], false, [R.FCU_DC_STATE_STEP 0 0, R.FCU_DC_STATE_STATE 0 0, R.FCU_DC_STATE_TRIGGER 0 0, R.FCU_DC_STATE_FAULTS 0 0]⟩]

/-- The registers of block TMP. -/
def regsOfTmp : List RegD :=
  [⟨0xFF00080000, [], false, [R.TMP_FLAGS_FLAG]⟩,
   ⟨0xFF00080004, [], false, [R.TMP_PENDING_RESP, R.TMP_PENDING_HALT]⟩,
   ⟨0xFF00080008, [], false, [R.TMP_LEVEL_LEVEL]⟩,
   ⟨0xFF0008000C, [], false, [R.TMP_UNLOCK_SEQ, R.TMP_UNLOCK_KEY]⟩,
   ⟨0xFF00080010, [], false, [R.TMP_EVCLR_CLEAR]⟩,
   ⟨0xFF00080014, [], false, [R.TMP_EVSEQ_SEQ]⟩,
   ⟨0xFF00080018, [], false, [R.TMP_EVENTS_CAUSE]⟩,
   ⟨0xFF0008001C, [], false, [R.TMP_ARMED_ARMED]⟩,
   ⟨0xFF00080040, [(0x4, 17)], false, [R.TMP_MASK_MASK 0]⟩,
   ⟨0xFF00080100, [(0x4, 17)], false, [R.TMP_COUNT_COUNT 0]⟩,
   ⟨0xFF00080200, [(0x8, 17)], true, [R.TMP_FIRST_TS_TICKS 0]⟩,
   ⟨0xFF00081000, [(0x20, 64), (0x4, 8)], false, [R.TMP_EVLOG_WORD 0 0]⟩]

/-- The registers of block ENT. -/
def regsOfEnt : List RegD :=
  [⟨0xFF00090000, [], false, [R.ENT_STATUS_SEEDED, R.ENT_STATUS_STARVED, R.ENT_STATUS_HEALTHY, R.ENT_STATUS_TEST, R.ENT_STATUS_REQ_BUSY, R.ENT_STATUS_PAIRS_ON, R.ENT_STATUS_BLOCKS]⟩,
   ⟨0xFF00090004, [], false, [R.ENT_CTRL_RESEED]⟩,
   ⟨0xFF00090008, [], false, [R.ENT_EVENTS_CAUSE]⟩,
   ⟨0xFF00090010, [], true, [R.ENT_REQ_ADDR_ADDR]⟩,
   ⟨0xFF00090018, [], false, [R.ENT_REQ_CMD_UNITS, R.ENT_REQ_CMD_GO]⟩,
   ⟨0xFF0009001C, [], false, [R.ENT_REQ_STATUS_CODE]⟩,
   ⟨0xFF00090020, [], true, [R.ENT_RESEEDS_COUNT]⟩,
   ⟨0xFF00090028, [], true, [R.ENT_BYTES_COUNT]⟩,
   ⟨0xFF00090100, [(0x4, 8)], false, [R.ENT_PAIR_STAT_STATE 0, R.ENT_PAIR_STAT_RUN 0]⟩,
   ⟨0xFF00090120, [(0x4, 8)], false, [R.ENT_RCT_FAIL_COUNT 0]⟩,
   ⟨0xFF00090140, [(0x4, 8)], false, [R.ENT_APT_FAIL_COUNT 0]⟩,
   ⟨0xFF00090160, [(0x4, 8)], false, [R.ENT_BIAS_ONES 0]⟩,
   ⟨0xFF00090180, [(0x4, 8)], false, [R.ENT_CORR_SAME 0]⟩,
   ⟨0xFF00090200, [], false, [R.ENT_TEST_MODE, R.ENT_TEST_PAIR]⟩]

/-- The registers of block SYM. -/
def regsOfSym : List RegD :=
  [⟨0xFF000A0000, [], false, [R.SYM_STATUS_BUSY, R.SYM_STATUS_SUSP]⟩,
   ⟨0xFF000A0004, [], false, [R.SYM_EVENTS_CAUSE]⟩,
   ⟨0xFF000A0008, [], true, [R.SYM_CMDS_COUNT]⟩,
   ⟨0xFF000A0010, [], false, [R.SYM_REFUSED_COUNT]⟩,
   ⟨0xFF000A0018, [], true, [R.SYM_VFAIL_COUNT]⟩,
   ⟨0xFF000A0100, [(0x4, 64)], false, [R.SYM_SHARE_ETU 0]⟩]

/-- The registers of block DIG. -/
def regsOfDig : List RegD :=
  [⟨0xFF000B0000, [], false, [R.DIG_STATUS_BUSY, R.DIG_STATUS_SUSP]⟩,
   ⟨0xFF000B0004, [], false, [R.DIG_EVENTS_CAUSE]⟩,
   ⟨0xFF000B0008, [], true, [R.DIG_CMDS_COUNT]⟩,
   ⟨0xFF000B0010, [], false, [R.DIG_REFUSED_COUNT]⟩,
   ⟨0xFF000B0018, [], true, [R.DIG_VFAIL_COUNT]⟩,
   ⟨0xFF000B0100, [(0x4, 64)], false, [R.DIG_SHARE_ETU 0]⟩]

/-- The registers of block PKE. -/
def regsOfPke : List RegD :=
  [⟨0xFF000C0000, [], false, [R.PKE_STATUS_BUSY, R.PKE_STATUS_HELD, R.PKE_STATUS_RESERVED, R.PKE_STATUS_CKEY]⟩,
   ⟨0xFF000C0004, [], false, [R.PKE_EVENTS_CAUSE]⟩,
   ⟨0xFF000C0008, [], true, [R.PKE_CMDS_COUNT]⟩,
   ⟨0xFF000C0010, [], false, [R.PKE_REFUSED_COUNT]⟩,
   ⟨0xFF000C0014, [], false, [R.PKE_WITHHELD_COUNT]⟩,
   ⟨0xFF000C0018, [], true, [R.PKE_INPUT_COUNT]⟩,
   ⟨0xFF000C0020, [], true, [R.PKE_BADSIG_COUNT]⟩,
   ⟨0xFF000C0028, [], false, [R.PKE_EVICT_COUNT]⟩,
   ⟨0xFF000C0100, [(0x4, 64)], false, [R.PKE_SHARE_ETU 0]⟩]

/-- The registers of block KEY. -/
def regsOfKey : List RegD :=
  [⟨0xFF000D0000, [], false, [R.KEY_STATUS_TKEY, R.KEY_STATUS_INST_BUSY, R.KEY_STATUS_LANES]⟩,
   ⟨0xFF000D0004, [], false, [R.KEY_EVENTS_CAUSE]⟩,
   ⟨0xFF000D0008, [], true, [R.KEY_INST_SRC_ADDR]⟩,
   ⟨0xFF000D0010, [], false, [R.KEY_INST_CMD_INDEX, R.KEY_INST_CMD_OP, R.KEY_INST_CMD_GO]⟩,
   ⟨0xFF000D0014, [], false, [R.KEY_INST_STATUS_CODE]⟩,
   ⟨0xFF000D0018, [], false, [R.KEY_PIN_CMD_INDEX, R.KEY_PIN_CMD_OP, R.KEY_PIN_CMD_GO]⟩,
   ⟨0xFF000D001C, [], false, [R.KEY_PIN_STATUS_CODE, R.KEY_PIN_STATUS_BUSY]⟩,
   ⟨0xFF000D0020, [], false, [R.KEY_SLOT_SEL_SLOT]⟩,
   ⟨0xFF000D0028, [], true, [R.KEY_SLOT_INFO_INDEX, R.KEY_SLOT_INFO_STATE, R.KEY_SLOT_INFO_PINNED, R.KEY_SLOT_INFO_REFS]⟩,
   ⟨0xFF000D0030, [], false, [R.KEY_DIR_SEL_INDEX]⟩,
   ⟨0xFF000D0034, [], false, [R.KEY_DIR_DOME, R.KEY_DIR_VALID]⟩,
   ⟨0xFF000D0038, [], true, [R.KEY_FETCH_COUNT]⟩,
   ⟨0xFF000D0040, [], true, [R.KEY_HIT_COUNT]⟩,
   ⟨0xFF000D0048, [], false, [R.KEY_FETCH_FAIL_COUNT]⟩,
   ⟨0xFF000D0100, [(0x4, 64)], false, [R.KEY_PART_FIRST 0, R.KEY_PART_COUNT 0]⟩,
   ⟨0xFF000D0200, [(0x4, 64)], false, [R.KEY_PINNED_COUNT 0]⟩]

/-- The registers of block MEMC. -/
def regsOfMemc : List RegD :=
  [⟨0xFF000E0000, [], false, [R.MEMC_STATUS_INIT_DONE, R.MEMC_STATUS_SWEEP]⟩,
   ⟨0xFF000E0004, [], false, [R.MEMC_CMAP_SEL_CHUNK]⟩,
   ⟨0xFF000E0008, [], false, [R.MEMC_CMAP_COLOUR]⟩,
   ⟨0xFF000E0010, [], false, [R.MEMC_RECOLOUR_COLOUR, R.MEMC_RECOLOUR_MODE, R.MEMC_RECOLOUR_GO]⟩,
   ⟨0xFF000E0014, [], false, [R.MEMC_RECOLOUR_STATUS_BUSY, R.MEMC_RECOLOUR_STATUS_COLOUR, R.MEMC_RECOLOUR_STATUS_ERR]⟩,
   ⟨0xFF000E0018, [], true, [R.MEMC_RECOLOUR_PTR_LINE]⟩,
   ⟨0xFF000E0020, [], true, (List.range 64).map (fun i => R.MEMC_COLOUR_FENCE_DRAINED i)⟩,
   ⟨0xFF000E0028, [], true, [R.MEMC_CE_COUNT_COUNT]⟩,
   ⟨0xFF000E0030, [], false, [R.MEMC_UE_COUNT_COUNT]⟩,
   ⟨0xFF000E0034, [], false, [R.MEMC_TAG_COUNT_COUNT]⟩,
   ⟨0xFF000E0038, [], true, [R.MEMC_UE_ADDR_LINE, R.MEMC_UE_ADDR_VALID]⟩,
   ⟨0xFF000E0040, [], false, [R.MEMC_SCRUB_PERIOD]⟩,
   ⟨0xFF000E0044, [], false, [R.MEMC_SCRUB_PASS_COUNT]⟩,
   ⟨0xFF000E0048, [], true, [R.MEMC_KEYTAB_LO_BASE]⟩,
   ⟨0xFF000E0050, [], true, [R.MEMC_KEYTAB_HI_COUNT]⟩,
   ⟨0xFF000E0100, [(0x4, 64)], false, [R.MEMC_COLOUR_GEN_GEN 0]⟩]

/-- The registers of block MMU. -/
def regsOfMmu : List RegD :=
  [⟨0xFF000F0000, [], false, [R.MMU_STATUS_REQ_COUNT, R.MMU_STATUS_REQ_WAIT]⟩,
   ⟨0xFF000F0008, [], false, [R.MMU_TADDR_INDEX]⟩,
   ⟨0xFF000F0010, [], true, [R.MMU_TDATA_ENTRY]⟩,
   ⟨0xFF000F0018, [], true, [R.MMU_REQ_PAGE, R.MMU_REQ_DOME, R.MMU_REQ_VALID]⟩,
   ⟨0xFF000F0100, [(0x4, 64)], false, [R.MMU_ROOT_INDEX 0, R.MMU_ROOT_VALID 0]⟩,
   ⟨0xFF000F0400, [(0x10, 64)], true, [R.MMU_PAYLOAD_P_PBASE 0]⟩,
   ⟨0xFF000F0408, [(0x10, 64)], true, [R.MMU_PAYLOAD_V_VBASE 0, R.MMU_PAYLOAD_V_SLOT 0]⟩,
   ⟨0xFF000F0800, [], false, [R.MMU_RGN_SEL_REGION, R.MMU_RGN_SEL_DOME]⟩,
   ⟨0xFF000F0804, [], false, [R.MMU_RGN_STAT_ABSENT, R.MMU_RGN_STAT_DECLARED, R.MMU_RGN_STAT_ARMED, R.MMU_RGN_STAT_WARMING]⟩,
   ⟨0xFF000F0808, [], false, [R.MMU_RGN_CMD_ARM]⟩,
   ⟨0xFF000F0810, [], true, [R.MMU_RST_SRC_ADDR]⟩,
   ⟨0xFF000F0818, [], false, [R.MMU_RST_CMD_REGION, R.MMU_RST_CMD_DOME, R.MMU_RST_CMD_GO]⟩,
   ⟨0xFF000F081C, [], false, [R.MMU_RST_STATUS_LAST, R.MMU_RST_STATUS_BUSY0, R.MMU_RST_STATUS_BUSY1]⟩,
   ⟨0xFF000F0820, [], true, [R.MMU_RST_DONE_COUNT]⟩]

/-- The registers of block NET. -/
def regsOfNet : List RegD :=
  [⟨0xFF00100000, [], false, (List.range 4).map (fun i => R.NET_PORT_MODE_MODE i)⟩,
   ⟨0xFF00100004, [], false, [R.NET_LINK_UP]⟩,
   ⟨0xFF00100008, [], false, [R.NET_EVENTS_CAUSE]⟩,
   ⟨0xFF0010000C, [], false, [R.NET_UDP_PORT, R.NET_UDP_MTU]⟩,
   ⟨0xFF00100100, [(0x8, 16)], true, [R.NET_RX_FRAMES_COUNT 0]⟩,
   ⟨0xFF00100180, [(0x8, 16)], true, [R.NET_TX_FRAMES_COUNT 0]⟩,
   ⟨0xFF00100200, [(0x4, 16)], false, [R.NET_DROP_COUNT 0]⟩,
   ⟨0xFF00100240, [(0x8, 16)], true, [R.NET_FEC_CORR_COUNT 0]⟩,
   ⟨0xFF001002C0, [(0x4, 16)], false, [R.NET_FEC_UNCORR_COUNT 0]⟩,
   ⟨0xFF00100300, [(0x4, 16)], false, [R.NET_DOWNS_COUNT 0]⟩]

/-- The registers of block SES. -/
def regsOfSes : List RegD :=
  [⟨0xFF00110000, [], false, [R.SES_STATUS_OPEN, R.SES_STATUS_HS]⟩,
   ⟨0xFF00110004, [], false, [R.SES_EVENTS_CAUSE]⟩,
   ⟨0xFF00110008, [], true, [R.SES_CTX_BASE, R.SES_CTX_VALID]⟩,
   ⟨0xFF00110010, [], false, [R.SES_SEL_INDEX]⟩,
   ⟨0xFF00110018, [], true, [R.SES_INFO_STATE, R.SES_INFO_DRAINED, R.SES_INFO_CACHED, R.SES_INFO_DOME, R.SES_INFO_CLASS, R.SES_INFO_EPOCH, R.SES_INFO_GEN]⟩,
   ⟨0xFF00110020, [], true, [R.SES_TAGFAIL_COUNT]⟩,
   ⟨0xFF00110028, [], true, [R.SES_REPLAY_COUNT]⟩,
   ⟨0xFF00110030, [], false, [R.SES_HS_DROP_COUNT]⟩,
   ⟨0xFF00110034, [], false, [R.SES_CTX_DROP_COUNT]⟩,
   ⟨0xFF00110038, [], false, [R.SES_REASM_DROP_COUNT]⟩,
   ⟨0xFF00110040, [], true, [R.SES_HANDSHAKES_COUNT]⟩,
   ⟨0xFF00110048, [], true, [R.SES_CTX_MISS_COUNT]⟩,
   ⟨0xFF00110080, [], true, [R.SES_KOPEN_ADDR, R.SES_KOPEN_GO]⟩,
   ⟨0xFF00110088, [], true, [R.SES_KOPEN_STATUS_CODE, R.SES_KOPEN_STATUS_BUSY, R.SES_KOPEN_STATUS_SID]⟩,
   ⟨0xFF00110090, [], true, [R.SES_KTX_RING_ADDR, R.SES_KTX_RING_ENTRIES]⟩,
   ⟨0xFF00110098, [], false, [R.SES_KTX_IDX_TAIL, R.SES_KTX_IDX_HEAD]⟩,
   ⟨0xFF001100A0, [], true, [R.SES_KRX_RING_ADDR, R.SES_KRX_RING_ENTRIES]⟩,
   ⟨0xFF001100A8, [], false, [R.SES_KRX_IDX_HEAD, R.SES_KRX_IDX_TAIL]⟩,
   ⟨0xFF00110100, [(0x4, 64)], false, [R.SES_DOME_OPEN_COUNT 0]⟩]

/-- The registers of block FED. -/
def regsOfFed : List RegD :=
  [⟨0xFF00120000, [], false, [R.FED_STATUS_ROLE, R.FED_STATUS_STATE, R.FED_STATUS_SYNC, R.FED_STATUS_STAGED, R.FED_STATUS_BEHIND]⟩,
   ⟨0xFF00120004, [], false, [R.FED_EVENTS_CAUSE]⟩,
   ⟨0xFF00120008, [], false, [R.FED_EPOCH_CURRENT]⟩,
   ⟨0xFF0012000C, [], false, [R.FED_FENCE_DRAINED]⟩,
   ⟨0xFF00120010, [], false, [R.FED_TERM_TERM]⟩,
   ⟨0xFF00120018, [], true, [R.FED_NEXT_T_A]⟩,
   ⟨0xFF00120020, [], false, [R.FED_CMD_ANNOUNCE, R.FED_CMD_RECLAIM, R.FED_CMD_CODE]⟩,
   ⟨0xFF00120028, [], true, [R.FED_STAGE_BASE]⟩,
   ⟨0xFF00120030, [], true, [R.FED_OFFSET_OFFSET]⟩,
   ⟨0xFF00120038, [], false, [R.FED_DELAY_NS]⟩,
   ⟨0xFF00120040, [], false, [R.FED_MEMBERS_PRESENT]⟩,
   ⟨0xFF00120044, [], false, [R.FED_READY_COUNT]⟩,
   ⟨0xFF00120048, [], false, [R.FED_MISSED_COUNT]⟩]

/-- The registers of block FLC. -/
def regsOfFlc : List RegD :=
  [⟨0xFF00130000, [], false, [R.FLC_STATUS_BUSY, R.FLC_STATUS_SUSPENDED, R.FLC_STATUS_AUTOSUSPENDED, R.FLC_STATUS_SCANNED, R.FLC_STATUS_BANK, R.FLC_STATUS_INTERNAL, R.FLC_STATUS_WIGNORED]⟩,
   ⟨0xFF00130004, [], false, [R.FLC_CTRL_AUTOSUSP, R.FLC_CTRL_HOLDOFF_US, R.FLC_CTRL_WARN_BITS]⟩,
   ⟨0xFF00130008, [], false, [R.FLC_CMD_OP, R.FLC_CMD_HALF, R.FLC_CMD_TWIN, R.FLC_CMD_GO]⟩,
   ⟨0xFF0013000C, [], false, [R.FLC_ADDR_OFFSET]⟩,
   ⟨0xFF00130010, [], true, [R.FLC_SRC_ADDR]⟩,
   ⟨0xFF00130018, [], false, [R.FLC_RESULT_CODE, R.FLC_RESULT_PULSES]⟩,
   ⟨0xFF0013001C, [], false, [R.FLC_EVENTS_CAUSE]⟩,
   ⟨0xFF00130020, [], true, [R.FLC_TWIN_POINTER, R.FLC_TWIN_SEQ]⟩,
   ⟨0xFF00130028, [], true, [R.FLC_CE_COUNT_COUNT]⟩,
   ⟨0xFF00130030, [], false, [R.FLC_WARN_COUNT_COUNT]⟩,
   ⟨0xFF00130034, [], false, [R.FLC_UE_COUNT_COUNT]⟩,
   ⟨0xFF00130038, [], true, [R.FLC_WARN_ADDR_LINE, R.FLC_WARN_ADDR_VALID]⟩,
   ⟨0xFF00130040, [], true, [R.FLC_UE_ADDR_LINE, R.FLC_UE_ADDR_VALID]⟩,
   ⟨0xFF00130048, [], true, [R.FLC_SUSP_COUNT_COUNT]⟩,
   ⟨0xFF00130050, [], false, [R.FLC_SECT_SEL_SECTOR]⟩,
   ⟨0xFF00130058, [], true, [R.FLC_SECT_INFO_STATE, R.FLC_SECT_INFO_WORN, R.FLC_SECT_INFO_ERASES]⟩]

/-- The registers of block ICC. -/
def regsOfIcc : List RegD :=
  [⟨0xFF00140000, [(0x40, 2)], false, [R.ICC_CFG_DIV 0, R.ICC_CFG_RETRY 0, R.ICC_CFG_PPS 0, R.ICC_CFG_CLASS 0, R.ICC_CFG_DOME 0]⟩,
   ⟨0xFF00140004, [(0x40, 2)], false, [R.ICC_CMD_OP 0, R.ICC_CMD_CLEN 0, R.ICC_CMD_INDEX 0, R.ICC_CMD_GO 0]⟩,
   ⟨0xFF00140008, [(0x40, 2)], false, [R.ICC_STATUS_PRESENT 0, R.ICC_STATUS_ACTIVE 0, R.ICC_STATUS_BUSY 0, R.ICC_STATUS_PROTO 0, R.ICC_STATUS_CLASS 0, R.ICC_STATUS_CLKSTOP 0, R.ICC_STATUS_FI 0, R.ICC_STATUS_DI 0]⟩,
   ⟨0xFF00140010, [(0x40, 2)], true, [R.ICC_BUF_ADDR 0]⟩,
   ⟨0xFF00140018, [(0x40, 2)], false, [R.ICC_RESULT_CODE 0, R.ICC_RESULT_RLEN 0]⟩,
   ⟨0xFF0014001C, [(0x40, 2)], false, [R.ICC_REPEAT_COUNT 0]⟩,
   ⟨0xFF00140100, [], false, [R.ICC_EVENTS_CAUSE]⟩,
   ⟨0xFF00140104, [], false, [R.ICC_CER_CMD_OP, R.ICC_CER_CMD_TARGET, R.ICC_CER_CMD_N, R.ICC_CER_CMD_DOME, R.ICC_CER_CMD_GO]⟩,
   ⟨0xFF00140108, [], false, [R.ICC_CER_STATUS_STATE, R.ICC_CER_STATUS_GOT, R.ICC_CER_STATUS_CODE]⟩,
   ⟨0xFF0014010C, [], false, [R.ICC_CER_KCV_KCV]⟩,
   ⟨0xFF00140110, [], true, [R.ICC_CER_KB_ADDR, R.ICC_CER_KB_LEN]⟩,
   ⟨0xFF00140118, [], false, [R.ICC_CER_WRAP_INDEX]⟩]

/-- The registers of block SDH. -/
def regsOfSdh : List RegD :=
  [⟨0xFF00150000, [], false, [R.SDH_CFG_UHS, R.SDH_CFG_MAXMODE, R.SDH_CFG_WIDTH, R.SDH_CFG_RETRIES, R.SDH_CFG_DOME]⟩,
   ⟨0xFF00150004, [], false, [R.SDH_STATUS_PRESENT, R.SDH_STATUS_READY, R.SDH_STATUS_BUSY, R.SDH_STATUS_V18, R.SDH_STATUS_NO_UHS, R.SDH_STATUS_TYPE, R.SDH_STATUS_MODE, R.SDH_STATUS_RPMB, R.SDH_STATUS_SLEEP]⟩,
   ⟨0xFF00150008, [], false, [R.SDH_CMD_OP, R.SDH_CMD_AREA, R.SDH_CMD_GO]⟩,
   ⟨0xFF0015000C, [], false, [R.SDH_ARG_BLOCK]⟩,
   ⟨0xFF00150010, [], false, [R.SDH_COUNT_BLOCKS]⟩,
   ⟨0xFF00150018, [], true, [R.SDH_ADDR_ADDR]⟩,
   ⟨0xFF00150020, [], false, [R.SDH_KEY_INDEX]⟩,
   ⟨0xFF00150024, [], false, [R.SDH_RESULT_CODE, R.SDH_RESULT_DONE]⟩,
   ⟨0xFF00150028, [], false, [R.SDH_EVENTS_CAUSE]⟩,
   ⟨0xFF00150030, [], true, [R.SDH_CID_LO_CID]⟩,
   ⟨0xFF00150038, [], true, [R.SDH_CID_HI_CID]⟩,
   ⟨0xFF00150040, [], true, [R.SDH_RPMB_PEND_COUNTER, R.SDH_RPMB_PEND_VALID]⟩,
   ⟨0xFF00150048, [], false, [R.SDH_CSA_SEL_AREA]⟩,
   ⟨0xFF00150050, [], true, [R.SDH_CSA_CNT_COUNT]⟩,
   ⟨0xFF00150058, [], false, [R.SDH_CRC_RETRY_COUNT]⟩]

/-- The registers of block CLF. -/
def regsOfClf : List RegD :=
  [⟨0xFF00160000, [], false, [R.CLF_CTRL_TAG_EN]⟩,
   ⟨0xFF00160004, [], false, [R.CLF_STATUS_FIELD, R.CLF_STATUS_CARRIER, R.CLF_STATUS_RCARD, R.CLF_STATUS_RSESSION, R.CLF_STATUS_RBUSY, R.CLF_STATUS_MULTI, R.CLF_STATUS_TSESSION, R.CLF_STATUS_BACKOFF]⟩,
   ⟨0xFF00160008, [], false, [R.CLF_EVENTS_CAUSE]⟩,
   ⟨0xFF0016000C, [], false, [R.CLF_RCFG_MAXRATE]⟩,
   ⟨0xFF00160010, [], false, [R.CLF_RCMD_OP, R.CLF_RCMD_CLEN, R.CLF_RCMD_GO]⟩,
   ⟨0xFF00160018, [], true, [R.CLF_RBUF_ADDR]⟩,
   ⟨0xFF00160020, [], false, [R.CLF_RRESULT_CODE, R.CLF_RRESULT_RLEN]⟩,
   ⟨0xFF00160024, [], false, [R.CLF_RKEY_INDEX]⟩,
   ⟨0xFF00160028, [], true, [R.CLF_UID_UID]⟩,
   ⟨0xFF00160030, [], false, [R.CLF_UIDX_UID, R.CLF_UIDX_LEN, R.CLF_UIDX_SAK]⟩,
   ⟨0xFF00160038, [], true, [R.CLF_BADGE_ID_ID]⟩,
   ⟨0xFF00160040, [], false, [R.CLF_TKEY_CMD_INDEX, R.CLF_TKEY_CMD_CLEAR, R.CLF_TKEY_CMD_GO]⟩,
   ⟨0xFF00160044, [], false, [R.CLF_TKEY_STATUS_CODE, R.CLF_TKEY_STATUS_LOADED]⟩,
   ⟨0xFF00160048, [], false, [R.CLF_MBOX_IN_OWN, R.CLF_MBOX_OUT_OWN, R.CLF_MBOX_FILL, R.CLF_MBOX_LATEST, R.CLF_MBOX_REL_IN, R.CLF_MBOX_PUB_OUT, R.CLF_MBOX_LEN]⟩,
   ⟨0xFF00160050, [], true, [R.CLF_MB_SEQ_IN_SEQ, R.CLF_MB_SEQ_OUT_SEQ]⟩,
   ⟨0xFF00160058, [], false, [R.CLF_AUTHFAIL_COUNT]⟩,
   ⟨0xFF0016005C, [], false, [R.CLF_FIELDS_COUNT]⟩,
   ⟨0xFF00161000, [(0x4, 1024)], false, [R.CLF_TAGMEM_WORD 0]⟩]

/-- The registers of block TIME. -/
def regsOfTime : List RegD :=
  [⟨0xFF00170000, [], true, [R.TIME_DTIME_NS]⟩,
   ⟨0xFF00170008, [], false, [R.TIME_DFRAC_FRAC]⟩,
   ⟨0xFF00170010, [], true, [R.TIME_TSTAMP_TICKS]⟩,
   ⟨0xFF00170018, [], false, [R.TIME_DISC_RATE]⟩,
   ⟨0xFF00170020, [], true, [R.TIME_ALARM_TICKS]⟩,
   ⟨0xFF00170028, [], true, [R.TIME_PAIR_DTIME_DTIME]⟩,
   ⟨0xFF00170030, [], true, [R.TIME_PAIR_TSTAMP_TSTAMP]⟩,
   ⟨0xFF00170038, [], false, [R.TIME_STATUS_UNSET, R.TIME_STATUS_REJECT]⟩,
   ⟨0xFF00170040, [], true, [R.TIME_SET_NS]⟩]

/-- The registers of block JRN. -/
def regsOfJrn : List RegD :=
  [⟨0xFF00180000, [], false, [R.JRN_CTRL_OPEN]⟩,
   ⟨0xFF00180004, [], false, [R.JRN_STATUS_OPEN, R.JRN_STATUS_SEALED, R.JRN_STATUS_BADEXP, R.JRN_STATUS_FULL]⟩,
   ⟨0xFF00180008, [], true, [R.JRN_BASE_ADDR]⟩,
   ⟨0xFF00180010, [], false, [R.JRN_SIZE_UNITS]⟩,
   ⟨0xFF00180018, [], true, [R.JRN_NEXT_SEQ_SEQ]⟩,
   ⟨0xFF00180020, [], true, [R.JRN_EXPORT_SEQ]⟩,
   ⟨0xFF00180028, [], false, [R.JRN_FREE_POSITIONS]⟩,
   ⟨0xFF0018002C, [], false, [R.JRN_LOW_POSITIONS]⟩,
   ⟨0xFF00180040, [(0x4, 8)], false, [R.JRN_CHAIN_WORD 0]⟩,
   ⟨0xFF00180060, [], true, [R.JRN_SEAL_SEQ_SEQ]⟩,
   ⟨0xFF00180068, [], true, [R.JRN_SEAL_EXP_SEQ]⟩,
   ⟨0xFF00180070, [], false, [R.JRN_SEAL_INFO_VALID, R.JRN_SEAL_INFO_CAUSE]⟩,
   ⟨0xFF00180080, [(0x4, 8)], false, [R.JRN_SEAL_CHAIN_WORD 0]⟩]

/-- The registers of block SPR. -/
def regsOfSpr : List RegD :=
  [⟨0xFF01000000, [(0x100000, 32), (0x4, 16)], false, [R.SPR_CX_ENTRY_START 0 0, R.SPR_CX_ENTRY_LEN 0 0, R.SPR_CX_ENTRY_LATENCY 0 0]⟩,
   ⟨0xFF01010000, [(0x100000, 32), (0x10, 1024), (0x4, 3)], false, [R.SPR_UCODE_WORD 0 0 0]⟩,
   ⟨0xFF01020000, [(0x100000, 32)], false, [R.SPR_MV_STATUS_BUSY 0, R.SPR_MV_STATUS_HELD 0, R.SPR_MV_STATUS_FAULTED 0]⟩,
   ⟨0xFF01020008, [(0x100000, 32)], true, [R.SPR_MV_GRAN_COUNT 0]⟩,
   ⟨0xFF01030000, [(0x100000, 32)], false, [R.SPR_XL_CFG_LOOKUP 0]⟩,
   ⟨0xFF01040000, [(0x100000, 32)], false, [R.SPR_PWR_STATE 0, R.SPR_PWR_WAKES 0]⟩]

/-- The registers of the device block of an index (R40). -/
def regsOfBlock : Nat → List RegD
  | 0 => regsOfRst
  | 1 => regsOfPwr
  | 2 => regsOfClk
  | 3 => regsOfMgt
  | 4 => regsOfStb
  | 5 => regsOfJsc
  | 6 => regsOfArt
  | 7 => regsOfFcu
  | 8 => regsOfTmp
  | 9 => regsOfEnt
  | 10 => regsOfSym
  | 11 => regsOfDig
  | 12 => regsOfPke
  | 13 => regsOfKey
  | 14 => regsOfMemc
  | 15 => regsOfMmu
  | 16 => regsOfNet
  | 17 => regsOfSes
  | 18 => regsOfFed
  | 19 => regsOfFlc
  | 20 => regsOfIcc
  | 21 => regsOfSdh
  | 22 => regsOfClf
  | 23 => regsOfTime
  | 24 => regsOfJrn
  | _ => []

end Sys2Proof.Machine
end

