-- ==== Sys2Proof/Machine/State.lean ====
section
/-!
DEFINITION. Sys2Proof/Machine/State.lean: everything the spec gives the machine, as plain data, and the machine right
after reset. Registers are held field by field in `regs` (Sys2Proof/Machine/Regs.lean lists them all, with the reset
value an unlisted field has); memory is `mem`, over the whole address map of R37; the rest is what the units hold
beside their registers.
-/

namespace Sys2Proof.Machine

/-- Why a command would stop the machine. The spec gives every command of the table an effect (a forbidden or unbacked
access is the silent answer of R36, not a stop), so no meaning raises one. -/
inductive Fault where
  /-- Raised by no command: the spec stops the block on none. Safe. -/
  | noStop
  deriving DecidableEq, Repr

/-- Why a command would be turned away. -/
inductive Refusal where
  /-- Answered by an arm of `exec` whose command has no meaning yet, with the command's mnemonic. Safe. -/
  | notModelled (mnemonic : String)
  deriving DecidableEq, Repr

/-! ### Skenar cores and spires (spec/07_core_execution.md, spec/08_core_instructions.md) -/

/-- A pending register or loop-register write (R218). Destinations are numbered as R237 numbers them: 1 to 31 for
g1 to g31, then lb0, le0, lc0, lb1, le1, lc1, lb2, le2, lc2 as 32 to 40. `rem` is the remaining distance. -/
structure PendW where
  dst : Nat
  val : W32
  rem : Nat
  deriving DecidableEq, Repr

/-- A pending private-bit write (R218). -/
structure PendB where
  bit : Nat
  val : Bool
  rem : Nat
  deriving DecidableEq, Repr

/-- What a core is doing: nothing, running a job (or waiting in it), in the 160 cycles of a preemption (R236), or in
the 120 cycles of a resumption (R238). -/
inductive CorePhase where
  | idle | running | preempting | resuming
  deriving DecidableEq, Repr

/-- One Skenar core. `regs` holds g1 to g31 and the loop registers under the numbers of R237 (an unlisted one is 0);
`bits` the private bits of both tiers (key: tier × 4,096 + bit) and `events` the event views of both tiers (key:
tier × 512 + completion flag n, or 256 + n for its error flag) (R221). -/
structure Core where
  regs     : List (Nat × W32) := []
  pend     : List PendW := []
  pbits    : List PendB := []
  /-- The core's own writes to spire-shared bits that its reads do not see yet (R255): the bit, the value its reads
  still give, and the issues until they see the write. -/
  ownSh    : List PendB := []
  pc       : Nat := 0
  slots    : Nat := 0
  target   : Nat := 0
  divBusy  : Nat := 0
  cxBusy   : Nat := 0
  tblBusy  : Nat := 0
  spacing  : Nat := 0
  phase    : CorePhase := .idle
  job      : Option Nat := none
  tier     : Nat := 0
  bits     : List (Nat × Bool) := []
  events   : List (Nat × Bool) := []
  keysP    : List Nat := []
  keysB    : List Nat := []
  /-- The flight store: the 48 words of R237, empty when it holds no record. -/
  flight   : List W32 := []
  flightJob : Option Nat := none
  deriving DecidableEq, Repr

/-- Where a spire stands in a reload (R164). -/
inductive ReloadSt where
  | none | waiting | loading
  deriving DecidableEq, Repr

/-- Where a spire's power stands between two fixed-length transitions (R96). -/
inductive SpireTr where
  | none | entering (st : Nat) | leaving (st : Nat)
  deriving DecidableEq, Repr

/-- One spire: its shared bits (R222), its reload, its power transition (R96), and the idle counts already met (R97,
R101). -/
structure Spire where
  shared  : List (Nat × Bool) := []
  reload  : ReloadSt := .none
  /-- The structure epoch its memories were last loaded for (R162). -/
  loaded  : Option Nat := none
  tr      : SpireTr := .none
  /-- How many of the idle counts of R97 have been met since the spire last held a job: 0, 1 (DOZE) or 2 (NAP). -/
  idleMet : Nat := 0
  /-- Dropped from its dome's SPIRES_USED by a domain application, and so placed as R29 says (R162). -/
  placed : Bool := false
  /-- The edge on which a ladder step first set its bit of FCU_RETIRED_HIST, which a RESET_DEVICE of that edge undoes (R335). -/
  everAt : Option Rat := none
  deriving DecidableEq, Repr

/-! ### The structure bitstream (spec/05_structure_bitstream.md) -/

/-- A handler entry (R143). -/
structure Handler where
  id : Nat := 0
  classes : Nat := 0
  spires : Nat := 0
  entry : Nat := 0
  wcet : Nat := 0
  symU : Nat := 0
  digU : Nat := 0
  pkeU : Nat := 0
  moverBytes : Nat := 0
  egressBytes : Nat := 0
  payloadMax : Nat := 0
  keysMax : Nat := 0
  regions : Nat := 0
  deriving DecidableEq, Repr

/-- An ALLOT entry (R140). -/
structure Allot where
  flags : Nat := 0
  colour : Nat := 0
  spires : Nat := 0
  symShare : Nat := 0
  digShare : Nat := 0
  pkeShare : Nat := 0
  slotFirst : Nat := 0
  slotCount : Nat := 0
  ruleFirst : Nat := 0
  ruleCount : Nat := 0
  handlerQuota : Nat := 0
  memBase : Nat := 0
  memSize : Nat := 0
  lanes : Nat := 0
  sharedBw : Nat := 0
  sessions : Nat := 0
  authKey : List Byte := []
  deriving DecidableEq, Repr

/-- A dome's content (R142): header fields, handler table, region declarations and session classes. -/
structure Content where
  version : Nat := 0
  spiresUsed : Nat := 0
  symUsed : Nat := 0
  digUsed : Nat := 0
  pkeUsed : Nat := 0
  handlers : List Handler := []
  regions : List (List Byte) := []
  classes : List (List Byte) := []
  deriving DecidableEq, Repr

/-- One dome: its allotment, the content of its current structure epoch, and that of its draining epoch (R162). -/
structure Dome where
  allot : Option Allot := none
  content : Option Content := none
  old : Option Content := none
  /-- What waits for every live epoch of the dome to drain (R163, R332, R334): 0 nothing, 1 the load of a domain marl,
  2 the reload of the same content (RESET_DOMAIN), 3 the reset of a dome whose application goes on. -/
  after : Nat := 0
  /-- The time of the edge on which a ladder step last stopped it, and whether that was a RESET_DOMAIN (R335). -/
  stopAt : Option (Rat × Bool) := none
  deriving DecidableEq, Repr

/-! ### Jobs and the journal (spec/06_jobs_promises.md) -/

/-- The states of R190 that a job in flight may be in. -/
inductive JobSt where
  | admitted | running | waitEngine | waitMover | preempted | done | broken
  deriving DecidableEq, Repr

/-- A job in flight (R175): what its request asked, what its admission fixed, and what it has used. Times are exact
DTIME in ns. -/
structure Job where
  id : Nat
  cls : Nat
  handler : Nat
  jobnum : Nat
  session : Nat
  /-- The session epoch of its admission edge (R48). -/
  sepoch : Nat := 0
  /-- The link of its session on its admission edge (R179). -/
  link : Nat := 0
  /-- The federation epoch of its admission edge (R46, R483). -/
  fepoch : Nat := 0
  dome : Nat
  epoch : Nat
  artEpoch : Nat := 0
  handles : List Nat := []
  /-- The slots it references: from its admission, a BEST job's from its assignment, but for those pinned at its admission, which
  `kept` gives by handle (R181). -/
  slots : List Nat := []
  kept : List (Nat × Nat) := []
  regions : Nat := 0
  payloadLen : Nat := 0
  /-- The payload store entry (R182), zeroed when the job is DONE or BROKEN. -/
  payload : List Byte := []
  /-- The in-flight entry k of R294. -/
  entryK : Nat := 0
  placed : Bool := false
  /-- The core it is bound or assigned to (16 × spire + core). -/
  core : Option Nat := none
  st : JobSt := .admitted
  tAdm : Rat := 0
  promise : Nat := 0
  h : Handler := {}
  symUsed : Nat := 0
  digUsed : Nat := 0
  pkeUsed : Nat := 0
  moverUsed : Nat := 0
  cycles : Nat := 0
  /-- Tickets whose submission is outstanding, with its pool (R231). -/
  tickets : List (Nat × Nat) := []
  /-- The ticket a WAITB awaits. -/
  wait : Option Nat := none
  /-- The commitment of its core before its binding, and the one its binding set (R180, R195). -/
  commitWas : Rat := 0
  commitSet : Rat := 0
  status : Nat := 0
  detail : Nat := 0
  tDone : Rat := 0
  result : List Byte := []
  reqDigest : List Byte := []
  deriving DecidableEq, Repr

/-- The scheduler: the jobs in flight in order of admission, the commitments of the cores (R180), the dome whose BEST
queue is served next (R187), and whether the last request was refused with REFUSED_JOURNAL (vector 83). -/
structure Jsc where
  jobs : List Job := []
  commit : List (Nat × Rat) := []
  turn : Nat := 0
  refJrn : Bool := false
  deriving DecidableEq, Repr

/-- The journal unit: positions reserved by jobs in flight and their blocks (R196), the records of the open block,
the SEQ of its first record, when it was written, how many of them are JOB records, and the chain value the next block
extends. -/
structure Jrn where
  reserved : Nat := 0
  block : List (List Byte) := []
  first : Nat := 0
  jobRecs : Nat := 0
  prev : List Byte := []
  start : Rat := 0
  pos : Nat := 0
  /-- 1 more than the SEQ of the last BLOCK record, 0 before the first. -/
  lastBlk : Nat := 0
  deriving DecidableEq, Repr

/-! ### Access rules and fault collection (spec/10_access_faults.md) -/

/-- An access rule (R318). A rule of 0 pages matches nothing. -/
structure Rule where
  base : Nat := 0
  pages : Nat := 0
  classes : Nat := 0
  rmask : Nat := 0
  wmask : Nat := 0
  xmask : Nat := 0
  deriving DecidableEq, Repr

/-- A fault on its way to the FCU (R327): what its record will hold. -/
structure FaultMsg where
  source : Nat
  agent : Nat
  dome : Nat
  addr : Nat
  /-- 0 READ, 1 WRITE, 2 FETCH, 3 not a transfer (R329). -/
  type : Nat := 3
  spire : Nat := 63
  /-- The DTIME at which it was reported. -/
  at_ : Rat := 0
  deriving DecidableEq, Repr

/-- A write of a whole register by a unit's own transfer, on its way to the register. -/
structure RegWr where
  agent : Nat
  addr : Nat
  value : Nat
  deriving DecidableEq, Repr

/-- What an agent received for its last transfer (R36): the bytes of a read, or nothing for a write. -/
structure Reply where
  agent : Nat
  data : List Byte
  deriving DecidableEq, Repr

/-! ### Tamper (spec/14_tamper.md) -/

/-- A tamper event registered at the TMP: its source, its DETAIL (R447), TSTAMP and DTIME, and the device state. -/
structure TEvt where
  src : Nat
  detail : Nat := 0
  ts : Nat := 0
  dt : Nat := 0
  dev : Nat := 0
  deriving DecidableEq, Repr

/-- A firing under way (R438): its events, the union of their masks, and the step that is next. -/
structure Firing where
  es : List TEvt
  union : Nat
  step : Nat
  deriving DecidableEq, Repr

/-- The tamper unit beside its registers: whether handling is live (R440 to R442), the events registered at the TMP
whose firings wait (R439), the firing under way, and one registered in DEEP whose responses wait for the PLLs (R440); the
first event of each source and the count of its events while handling was deferred (R441); the mesh pattern register, the
bedrock tick within its step, the traces that do not return their bit, and whether this step's comparison was made (R432); the
levels of the pin inputs, 1 for a fault (R433, R450); the records written since the log was last cleared (R446), and whether an
unlock stands armed (R449). -/
structure Tmp where
  live : Bool := false
  queue : List TEvt := []
  run : Option Firing := none
  inDeep : Nat := 0
  deferred : List (Nat × (TEvt × Nat)) := []
  lfsr : Nat := 0
  tick : Nat := 0
  mesh : Nat := 0
  compared : Bool := false
  pins : Nat := 0
  logged : Nat := 0
  unlocked : Bool := false
  /-- The last record each source wrote, for folding (R448): the source, the log position and the tick it was
  written at. -/
  lastRec : List (Nat × (Nat × Nat)) := []
  /-- The state kept by the two-readings rule of TEMP (R430). -/
  tempBad : Bool := false
  deriving DecidableEq, Repr

/-! ### Memory, translation, movers, sealed regions (spec/09_memory.md) -/

/-- A sweep of a colour (R288, R289): CLEAR or REENCRYPT. The pointer is MEMC_RECOLOUR_PTR. -/
structure Sweep where
  colour : Nat
  reencrypt : Bool
  deriving DecidableEq, Repr

/-- The memory controller beside its registers: the colour map in effect (R279), the key sets of the colours and, in
a sweep, the old one (R281, R289), the sweep, the next line of the patrol scrub (R287), and the DDR lines whose
burst does not decode clean (R285): the burst, numbered
over the channels (R38), and its condition (1 correctable, 2 uncorrectable, 3 altered with
consistent check bytes). -/
structure Memc where
  cmap : List (Nat × Nat) := []
  keys : List (Nat × List Byte) := []
  oldKeys : List Byte := []
  sweep : Option Sweep := none
  scrub : Nat := 0
  bad : List (Nat × Nat) := []
  deriving DecidableEq, Repr

/-- A restore under way in a lane (R307): its target, the buffer, and the key the lane's register holds. -/
structure Restore where
  dome : Nat
  region : Nat
  src : Nat
  deriving DecidableEq, Repr

/-- The global translation unit beside its registers: the table memory (R290), the request queue and the requests
that wait for space (R296), the armed regions (R305; key dome × 64 + region), and the two restore lanes (R307). -/
structure Mmu where
  table : List (Nat × Nat) := []
  req : List (Nat × Nat) := []
  wait : List (Nat × Nat) := []
  armed : List Nat := []
  lanes : List (Nat × Restore) := []
  deriving DecidableEq, Repr

/-- A mover descriptor held by a spire's mover (R298 to R302). `loc` and `stat` are physical addresses (R230),
`page` is what the lookup for the page it is in found: the page's number, the leaf entry and whether it maps 2 MiB (R293);
`faulted` marks a descriptor waiting at an ABSENT page, `stop` one that ends at its next granule boundary. -/
structure MvDesc where
  job : Nat
  ticket : Nat
  spire : Nat
  core : Nat
  tier : Nat
  dome : Nat
  /-- The domain structure epoch of its job (R46, R49). -/
  epoch : Nat := 0
  artEpoch : Nat
  op : Nat
  len : Nat
  va : Nat
  loc : Nat
  stat : Nat
  statOk : Bool
  /-- 0, or the code the descriptor ends with (R311). -/
  code : Nat := 0
  done : Nat := 0
  page : Option (Nat × Nat × Bool) := none
  faulted : Bool := false
  stop : Bool := false
  deriving DecidableEq, Repr

/-! ### Engine commands (spec/11_symmetric_payment_digest.md, spec/12_public_key.md) -/

/-- Where a submitted engine command stands (R342, R343, R403): waiting, on an engine, or suspended to one. -/
inductive CmdSt where
  | waiting | running (engine : Nat) | suspended (engine : Nat)
  deriving DecidableEq, Repr

/-- An engine command held by a pool (0 SYM, 1 DIG, 2 PKE): its submission (R266), the slots of the job's key map
(R229), and, once its operation has been performed, the status, the output length and the flags it will end with. A command
that a unit submits has no job: `job` is 2^32 and the context for a handshake (R465), 2^32 + 2^18 for the ceremony (R525),
`core` names no spire, and `ins` holds its operands. -/
structure Cmd where
  pool : Nat
  job : Nat
  ticket : Nat
  core : Nat
  tier : Nat
  dome : Nat
  artEpoch : Nat
  /-- The structure epoch that the ceremony's command carries (R46); 0 for a job's, which has it, and for SES. -/
  epoch : Nat := 0
  /-- The promise of a PROMISED job's command; none for a BEST job's. -/
  promise : Option Nat := none
  desc : List Byte
  slots : List Nat := []
  st : CmdSt := .waiting
  /-- Passed its checks and may perform its operation. -/
  checked : Bool := false
  /-- The check before release of R399 finds the result wrong. -/
  wrong : Bool := false
  /-- The status the command ends with, once known. -/
  code : Option Nat := none
  outLen : Nat := 0
  /-- What its final ETU writes (R347, R378): physical addresses and bytes. -/
  writes : List (Nat × List Byte) := []
  /-- Holds a context of the PKE pool (R403), with the operands IN, PKO, PUB and AUX read in its first ETU (R379) and
  the 128 random bytes of R398. -/
  held : Bool := false
  ins : List (List Byte) := []
  seed : List Byte := []
  /-- Its private-key operation was made on good inputs, so that the check of R399 has something to check. -/
  proven : Bool := false
  deriving DecidableEq, Repr

/-! ### The key cache, the pools' own keys and reserves (spec/11_symmetric_payment_digest.md, spec/12_public_key.md) -/

/-- A key-cache slot (R349). `st`: 0 FREE, 1 FETCHING, 2 READY, 3 FAILED, 4 STALE. -/
structure KSlot where
  st : Nat := 0
  index : Nat := 0
  mat : KeyMat := {}
  pinned : Bool := false
  refs : Nat := 0
  /-- When its last reference was released, as a count; a slot that no job has released yet counts from its miss. -/
  released : Nat := 0
  /-- The physical bank of a federation key it was fetched from (R483), else 0. -/
  bank : Nat := 0
  /-- The dome of its partition. -/
  dome : Nat := 0
  /-- The end of its lane interval (R356), and what the lane has read. -/
  laneEnd : Rat := 0
  entry : Option (List Byte) := none
  /-- STALE by an update of its index's directory entry while its fetch was under way, which goes on (R356). -/
  stale : Bool := false
  /-- The ART epoch of the job whose miss it serves (R46); none for a pin, whose read carries the epoch of its own edge. -/
  art : Option Nat := none
  deriving DecidableEq, Repr

/-- The KEY unit: the slots, the key directory (R354), the table key (R353; empty when there is none), the install
command under way (OP and INDEX), the slot a pin waits for (R357), when each fetch lane frees (R356), and a count of
releases. -/
structure KeyU where
  slots : List (Nat × KSlot) := []
  dir : List (Nat × Nat) := []
  tkey : List Byte := []
  inst : Option (Nat × Nat) := none
  pinWait : Option Nat := none
  lanes : List (Nat × Rat) := []
  seq : Nat := 0
  deriving DecidableEq, Repr

/-- What the pools hold beside their commands: the 64-byte reserves of the SYM engines (R348), the DIG context key and
seal count (R371), the PKE curve key (R393) and reserve (R398). An empty key is none. -/
structure Pools where
  symRes : List (Nat × List Byte) := []
  digKey : List Byte := []
  seals : Nat := 0
  curveKey : List Byte := []
  pkeRes : List Byte := []
  deriving DecidableEq, Repr

/-! ### Entropy (spec/13_entropy.md) -/

/-- A request that waits at the DRBG (R423): row 1, a key set of a colour, the DIG context key, the PKE curve key, the context
key of SES; row 2, bytes for a handshake of SES; row 5, bytes that a slot's combiner (R523) or the contactless reader (R550)
draws, and the keep request. -/
inductive EntReq where
  | colour (c : Nat) | digKey | curveKey | ctxKey | ses (context n : Nat) | comb (slot : Nat) | badge | keep
  deriving DecidableEq, Repr

/-- What the ENT counts of a pair (R415, R417): healthy windows in a row, the last bit and how long it has run, the
estimate block under way (ones, equal neighbours, windows), and the last complete one. -/
structure Pair where
  good : Nat := 0
  last : Nat := 2
  run : Nat := 0
  ones : Nat := 0
  same : Nat := 0
  windows : Nat := 0
  ended : Option (Nat × Nat) := none
  deriving DecidableEq, Repr

/-- The entropy unit beside its registers: the pairs, the store of conditioned blocks (R418), the DRBG (R419), generate
requests since its last reseed, whether a reseed is due, the requests that wait, in order of arrival, the keep request
(address, units left), the SYM engine whose turn is next, the counter of the PATTERN mode and the raw windows captured in the RAW mode (R427). -/
structure Ent where
  pairs : List (Nat × Pair) := []
  store : List (List Byte) := []
  drbg : Drbg := {}
  gens : Nat := 0
  due : Bool := false
  /-- The reading of the time base at the last reseed (R419). -/
  last : Rat := 0
  reqs : List EntReq := []
  keep : Option (Nat × Nat) := none
  turn : Nat := 0
  pattern : Nat := 0
  ses : List (Nat × List Byte) := []
  raw : List Byte := []
  /-- Random bytes served and not yet taken: to the combiner of slots 0 and 1, and to the reader (2). -/
  cards : List (Nat × List Byte) := []
  deriving DecidableEq, Repr

/-! ### Network, sessions, federation (spec/15_network_federation.md) -/

/-- Where datagrams of a session go (R458): the link, the MAC of the next hop, the IP address (4 or 16 bytes, which also
says the version) and the UDP port. -/
structure Peer where
  link : Nat := 0
  mac : List Byte := []
  ip : List Byte := []
  port : Nat := 0
  deriving DecidableEq, Repr

/-- A message that waits for egress, or is partly sent (R475). A message of `raw` bytes is one ready frame; another is cut
into datagrams as it is sent, protected under `sec` (key and IV of a direction and epoch) where that is not empty. -/
structure TxMsg where
  peer : Peer := {}
  /-- The priority of R475, 1 to 4. -/
  prio : Nat := 4
  promise : Nat := 0
  /-- The job whose completion it is. -/
  job : Option Nat := none
  sid : Nat := 0
  kind : Nat := 0
  epoch : Nat := 0
  seq : Nat := 0
  body : List Byte := []
  sec : List Byte := []
  /-- Datagrams sent. -/
  done : Nat := 0
  raw : List Byte := []
  /-- 0, or where in the body NET writes the DTIME of its first bit (R482). -/
  stamp : Nat := 0
  /-- The context whose peer each datagram goes to as it leaves (R458); none where the message names its peer itself. -/
  ctx : Option Nat := none
  /-- Body bytes of each datagram, once the first has left. -/
  frag : Nat := 0
  deriving DecidableEq, Repr

/-- A neighbour entry (R457), and one being resolved, with the messages that wait for it. -/
structure Neigh where
  link : Nat
  ip : List Byte
  mac : List Byte := []
  ends : Rat
  wait : List TxMsg := []
  deriving DecidableEq, Repr

/-- A received frame that asks for an answer (R457): 1 ARP request, 2 neighbour solicitation, 3 echo request. -/
structure NetReq where
  link : Nat
  kind : Nat
  frame : List Byte
  deriving DecidableEq, Repr

/-- NET beside its registers: the NETWORK section in force, the neighbour entries and those being resolved, the requests
to answer, the echo answers of each link's second (its start and count), what waits for egress, and the last frame sent
on each link with the DTIME of its first bit. -/
structure Net where
  section_ : List Byte := []
  neigh : List Neigh := []
  solving : List Neigh := []
  reqs : List NetReq := []
  echo : List (Nat × (Rat × Nat)) := []
  tx : List TxMsg := []
  sent : List (Nat × (Rat × List Byte)) := []
  deriving DecidableEq, Repr

/-- A session key epoch (R465, R468): its MS, the next SEQ to send, and the replay window: the highest SEQ accepted and
the set of accepted ones counted down from it. -/
structure SesEp where
  epoch : Nat := 0
  ms : List Byte := []
  tx : Nat := 0
  hi : Option Nat := none
  seen : Nat := 0
  deriving DecidableEq, Repr

/-- What a session context waits for: nothing; random bytes, for a message it is to send; or a public-key command of a
handshake (R465): Z on the device's side, with its RANDOM; the check of SIG_C, with the peer, the last certificate's digest, the
transcript through SIG_C and FIN_C; where the device is the client, Z, with HELLO_D, and the check of SIG_D, likewise. -/
inductive SesWant where
  | none | helloD | helloC | rekey | rekeyAck (peerKey : List Byte)
  | zD (rnd : List Byte) | sigC (peer : Peer) (root trans fin : List Byte)
  | zC (peer : Peer) (sid : Nat) (body : List Byte) | sigD (peer : Peer) (sid : Nat) (root trans fin : List Byte)
  deriving DecidableEq, Repr

/-- A session context (R473): `st` 0 FREE, 1 HANDSHAKE, 2 OPEN. `client`: the device opened it. `sid` is the SID its
datagrams carry. In a handshake or rekey `priv` is the ephemeral key, `trans` the transcript, `hs` the secret HS and
`began` the DTIME its timer runs from. -/
structure Ses where
  st : Nat := 0
  gen : Nat := 0
  sid : Nat := 0
  dome : Nat := 0
  cls : Nat := 0
  client : Bool := false
  fed : Bool := false
  counted : Bool := false
  group : Nat := 1
  anchor : List Byte := []
  ownKey : Bool := false
  p384 : Bool := false
  idleMs : Nat := 0
  /-- SHA-384 of the key of the last certificate of the peer's chain. -/
  root : List Byte := []
  peer : Peer := {}
  eps : List SesEp := []
  drained : Bool := true
  lastRx : Rat := 0
  want : SesWant := .none
  rekeyAsked : Bool := false
  rekeySent : Bool := false
  priv : Nat := 0
  trans : List Byte := []
  hs : List Byte := []
  began : Rat := 0
  hist : List (List Byte) := []
  deriving DecidableEq, Repr

/-- A whole message received (R462), with the context it came in, its sender and the DTIME of its first bit. -/
structure RxMsg where
  ctx : Option Nat
  kind : Nat
  epoch : Nat := 0
  sid : Nat := 0
  peer : Peer
  body : List Byte
  at_ : Rat
  deriving DecidableEq, Repr

/-- A partial message (R462). -/
structure RxPart where
  msg : RxMsg
  first : Nat
  total : Nat
  parts : List (Nat × List Byte)
  firstAt : Rat := 0
  deriving DecidableEq, Repr

/-- SES beside its registers: the contexts, those cached on die (used earliest first), the miss queue (with the DTIME of arrival), partial and whole
messages received, the context key (R473), the context of the keep's open (R476), and results of public-key commands by
context: the status and the output. -/
structure SesU where
  ctxs : List (Nat × Ses) := []
  cache : List Nat := []
  missQ : List (Peer × List Byte × Rat) := []
  parts : List RxPart := []
  inbox : List RxMsg := []
  ctxKey : List Byte := []
  kopen : Option Nat := none
  pk : List (Nat × (Nat × List Byte)) := []
  deriving DecidableEq, Repr

/-- FED beside its registers: the FEDERATION section in force, the physical bank that is current (0 the table's own
entries, 1 the bank at FED_STAGE), the directory of bank 1, the epoch announced (NEXT), the epoch that the staging bank of a
member is filled for, the old epoch that drains, the session with the tower, the DTIME of the last BEAT, and whether one came
since the last TIME_Q, whether the standby's address is that of the session, of the acting tower, and the next to be tried,
whether JOIN was sent in the session, and on the tower the members: context, member index and the epoch they answered READY_E
for. -/
structure Fed where
  section_ : List Byte := []
  bank : Nat := 0
  dir1 : List (Nat × Nat) := []
  next : Option Nat := none
  stage : Option Nat := none
  old : Nat := 0
  tower : Option Nat := none
  lastBeat : Rat := 0
  beaten : Bool := false
  here : Bool := false
  acting : Bool := false
  alt : Bool := false
  held : Bool := false
  members : List (Nat × (Nat × Nat)) := []
  deriving DecidableEq, Repr

/-! ### Power, clocks, boot and management (spec/02_module_electrical.md to spec/04_boot_lifecycle_management.md) -/

/-- Main power: off, waiting at step 7 of R69 with PWR_OK high, on, or on behind the isolation of R111. -/
inductive MainSt where
  | off | waiting | on | isolated
  deriving DecidableEq, Repr

/-- A device-level sequence that has begun and not ended: steps 2 and 3 of R109 on the way to a device reset, to DEEP or
to isolation, with PWR_OK high or low; an entry into DEEP, with its step in progress (R104); an exit from it, with its step in
progress and the last step of the entry that had been done (R105, R106). -/
inductive PwrSeq where
  | none | toReset | toDeep | toHold | toOff | deep (step : Nat) | exit (step done : Nat)
  deriving DecidableEq, Repr

/-- The bedrock, power, reset and management units beside their registers. `bedrock`: it runs; `vbat`: from VBAT (R74);
`lost`: a bedrock reset has come since the last boot (R444); `pair`: TIME_PAIR holds a latch (R93); `hold`: an ordered
HOLD is under way (R108); `deepAt`: the DTIME at which DEEP was entered; `skipped`: what DTIME timers leave out (R91,
R337); `edges`: the time-base edges since the main domain was reset (R87); `edge`: what the last time-base edge added to
DTIME; `phase`: eighths of a time-base edge since the last bedrock tick; `setTo`: an accepted TIME_SET value that waits
for the next edge, and `setDone` whether one was accepted (R93); `share`: the bedrock share (R116), empty when there is
none; `lc` and `minver`: what the fuses hold (R126, R122); `lcNext`: a lifecycle state being programmed; `wd`: the DTIME
from which the boot watchdog runs (R123); `confirmed`: RST_CONFIRM was registered in this boot; `mgt`: the management
command that is BUSY (R576): its code, its argument and the STATUS it ends with; `seedAt`: the DTIME at which boot step 5
began (R421); `resid`: MODEL'S OWN, what RATE has added below one unit of the DTIME fraction (R91); `mgtData`: the MGT_DATA window; `mgtOut`: the bytes the device drove in the last
frame; `alertHeld`: nALERT's level at isolation; `tempWarn`: the TEMPWARN level (R150); `ddrSpread`: the spread of the
DDR clock; `devKnown`: DEVID is held in bedrock (R557); `armed`: the supervisor has armed VRANGE and VGLITCH (R71); `woken`: a
wake source was registered in the entry under way (R106); `deepForced`: that entry is a forced one (R109); `busyAt`: the time base when a spire last left or reached NAP, a job
was in flight or a frame was received (R100); `lostDue`: the first bedrock edge after a restart is to register BEDROCK_LOST
(R444, R445); `defects`: what is broken in this device, given at power-up: bit n that boot step n fails (R120), bits 16 and 17
that the known-answer test of CTR_DRBG or of SHA-256 does (R420); `blown`: how many of the three fuse copies of the next
lifecycle state are blown (R127). -/
structure Pwr where
  bedrock : Bool := true
  vbat : Bool := false
  lost : Bool := true
  pair : Bool := false
  main : MainSt := .off
  seq : PwrSeq := .none
  hold : Bool := false
  deepAt : Rat := 0
  skipped : Rat := 0
  edges : Nat := 0
  edge : Rat := 5 / 8
  phase : Nat := 0
  setTo : Option Nat := none
  setDone : Bool := false
  share : List Byte := []
  lc : Nat := 1
  minver : Nat := 0
  lcNext : Option Nat := none
  wd : Option Rat := none
  confirmed : Bool := false
  mgt : Option (Nat × Nat × Nat) := none
  seedAt : Rat := 0
  resid : Rat := 0
  mgtData : List Byte := []
  mgtOut : List Byte := []
  alertHeld : Bool := false
  tempWarn : Option Int := none
  ddrSpread : Nat := 0
  devKnown : Bool := false
  armed : Bool := false
  woken : Bool := false
  deepForced : Bool := false
  busyAt : Rat := 0
  lostDue : Bool := true
  defects : Nat := 0
  blown : Nat := 0
  deriving DecidableEq, Repr

/-- An application of a marl (R157): the fields it took on its START edge, its kind once known (0 whole, 1 domain,
2 amend), its phase as STB_STATUS.PHASE gives it, whether it staged rules (R325), and whether a STOP_DOMAIN (R334) or a
RESET_DOMAIN has met it. `sums`: the hashes computed during the copy: of the header, of the section table and of each
section. `course`: once chosen (R577), 1 load, 2 drain, 3 abrupt; 4 the commit of a whole application. `edge`: its switch
or stop edge, or its load step, has come. `amend`: it was started beside a domain application, and so must be an amend. -/
structure StbApp where
  src : Nat
  len : Nat
  stage : Nat
  abrupt : Bool
  dome : Nat
  kind : Nat := 0
  phase : Nat := 1
  rules : Bool := false
  stop : Bool := false
  reset : Bool := false
  sums : List (List Byte) := []
  course : Nat := 0
  edge : Bool := false
  amend : Bool := false
  deriving DecidableEq, Repr

/-- What a spire is loaded with (R145, R146): instruction image, data image and decode section. -/
structure Image where
  instr : List Byte := []
  data : List Byte := []
  decode : List Byte := []
  deriving DecidableEq, Repr

/-- The structure loader beside its registers: the application, an amend beside it, the minimum raises under way, in order (none
for the whole minimum, else the dome, and the value), the spires' images, and the content a domain application will
install. -/
structure Stb where
  app : Option StbApp := none
  amend : Option StbApp := none
  raise : List (Option Nat × Nat) := []
  images : List (Nat × Image) := []
  next : Option Content := none
  nextImages : List (Nat × Image) := []
  deriving DecidableEq, Repr

/-! ### Flash (spec/16_flash.md) -/

/-- A keep operation of the FLC (R501): its OP, target, size, data and completed pulses. `phase`: of an erase, 0 while its
ERASE_BEGIN entry is programmed, 1 in its pulses, 2 while its ERASE_END entry is (R500); of a SWAP, 0 while the record is
programmed and 1 while its commit word is (R494). -/
structure FlOp where
  op : Nat
  addr : Nat
  size : Nat := 0
  data : List Byte := []
  pulses : Nat := 0
  twin : Nat := 0
  phase : Nat := 0
  deriving DecidableEq, Repr

/-- A write of the information area that an owner asks for (R493, R494): the twin pointer, a minimum version (whole, or of a
dome), the colour map, the storage root key's check value, the counter of a counter-sealed area. -/
inductive InfoW where
  | twin (t : Nat) | minWhole (v : Nat) | minDome (d v : Nat) | cmap (m : List (Nat × Nat)) | srk (v : Nat)
  | csa (area v : Nat)
  deriving DecidableEq, Repr

/-- What a record of the information area holds (R493): the twin, all minimum versions, the colour map, the check value, or all
counters. -/
inductive InfoVal where
  | twin (t : Nat) | mins (whole : Nat) (domes : List (Nat × Nat)) | cmap (m : List (Nat × Nat)) | srk (v : Nat)
  | csa (l : List (Nat × Nat))
  deriving DecidableEq, Repr

/-- A record of the information area (R494, R508): its sequence number, the TSTAMP of its writing, its value, its check, and
its commit word as it decodes: 0 the pattern, 1 to 3 the pattern with that corrected count, 4 anything else. -/
structure InfoRec where
  seq : Nat
  ts : Nat
  val : InfoVal
  check : Nat
  commit : Nat
  deriving DecidableEq, Repr

/-- An entry of the sector ledger (R507): ERASE_BEGIN or ERASE_END of a sector with its erase count, and whether its CRC-8
passes. -/
structure LedgerE where
  sector : Nat
  ends : Bool
  count : Nat
  ok : Bool
  deriving DecidableEq, Repr

/-- A half of the sector ledger: its committed snapshot of one entry per sector, where it has one (state and count of the
sectors that have been seen), and the entries after it. -/
structure LedgerHalf where
  snap : Option (List (Nat × (Nat × Nat))) := none
  entries : List LedgerE := []
  deriving DecidableEq, Repr

/-- What the FLC writes for itself or an owner (R502): the oldest record asked for, before or in its commit word; or a
snapshot of the ledger. -/
inductive FlInt where
  | record (commit : Bool) | compact
  deriving DecidableEq, Repr

/-- A read of flash that waits for the operation in its bank to end (R503): the transfer, and what disturbs it on the bus. -/
structure FlWait where
  agent : Nat
  dom : Nat
  epoch : Nat
  type : Nat
  addr : Nat
  len : Nat
  err : Option BusErr
  deriving DecidableEq, Repr

/-- What a unit goes on with once the read it waits for is served (R503): an install, an IMPORT, an EXCHANGE of a contact slot, of the
reader or under a badge session, the keep's transmit ring, SES_KOPEN, a response of the removable card. -/
inductive FlUnit where
  | keyInst | cerImport | icc (n clen : Nat) | clf (clen : Nat) | secure (clen : Nat) | keepTx (tail : Nat) | keepOpen (addr : Nat)
  | sd (kind crc : Nat) (data : List Byte)
  deriving DecidableEq, Repr

/-- The flash controller beside its registers and the main array (which is memory). `op`: the keep operation; `lastRead`: the
DTIME of the last read of its bank while it is suspended by a read; `info`: the records asked for; `int`: the internal write
under way; `sects`: the records in the sectors of the information area (R493), and `ierase` the erase counts of those;
`half`, `halves`: the ledger's current half and what both hold; `twin` to `csa`: the values in effect (twin pointer and SEQ,
minimums, colour map, check value, counters); `ledger`: state and erase count of the sectors as the scan found them and
operations changed them; `bad`: the lines whose stored code words have errors (1 to 3 bits, 4 uncorrectable); `wait`: the reads that
wait; `pre`, `cache`, `last`: the prefetch buffer, the branch cache (most recently used first) and the line fetched last
(R497); `halted`: a stop cause of a reset or of main power's end has come (R505); `held`: the units whose read waits for its
bank (R503), with the address read. -/
structure Flc where
  op : Option FlOp := none
  lastRead : Rat := 0
  info : List InfoW := []
  int : Option FlInt := none
  sects : List (Nat × List InfoRec) := []
  ierase : List (Nat × Nat) := []
  half : Nat := 0
  halves : List (Nat × LedgerHalf) := []
  twin : Nat := 0
  seq : Nat := 0
  minW : Nat := 0
  minD : List (Nat × Nat) := []
  cmap : List (Nat × Nat) := []
  srk : Option Nat := none
  csa : List (Nat × Nat) := []
  ledger : List (Nat × (Nat × Nat)) := []
  bad : List (Nat × Nat) := []
  wait : List FlWait := []
  pre : List (Nat × List Byte) := []
  cache : List (Nat × List Byte) := []
  last : Option Nat := none
  halted : Bool := false
  held : List (Nat × FlUnit) := []
  deriving DecidableEq, Repr

/-! ### Cards (spec/17_cards.md) -/

/-- Where a contact slot's command stands (R517, R519): nothing; the ATR, the PPS response, the answer to the IFS
request; 10 ms before class B is tried; bytes drawn for a component; an exchange under T=0 or under T=1. -/
inductive IccPhase where
  | idle | atr | pps | ifs | retry | random | t0 | t1
  deriving DecidableEq, Repr

/-- What the card must send next under T=0 (R519): a procedure byte, `n` data bytes, or SW2 after an SW1. -/
inductive T0Wait where
  | proc | data (n : Nat) | sw2 (sw1 : Nat)
  deriving DecidableEq, Repr

/-- A contact slot beside its registers. `cmd`: the OP that runs (0 none); `one`: class B follows a failure in class C;
`ven`: the card supply is on; `rst`, `io`: the levels of RST and I/O; `clk`: CLK is low (0), high (1) or runs (2); `rx`: the characters received of the answer awaited, and whether one of them had a parity
error; `tx`: the characters last sent; `reps`: how often the present character was repeated, `repAt`: which of those sent
it is (none: a received one); `atr`; what the ATR gave: clock stop allowed, and CLK stopped high, CRC as the EDC of T=1, IFSC; the command APDU and the response so far; T=0: the header, what remains
of the data to send, of the data to receive, and what is awaited; T=1: what remains to send after the last I-block, the
numbers of the next block sent and received, the bad blocks in a row, and whether S(RESYNCH) was sent, and is awaited;
the component taken: its index, the ephemeral private key; `woke`: CLK is to run again after DEEP. -/
structure Icc where
  phase : IccPhase := .idle
  cmd : Nat := 0
  one : Bool := false
  ven : Bool := false
  rst : Bool := false
  clk : Nat := 0
  io : Bool := false
  rx : List Byte := []
  bad : Bool := false
  tx : List Byte := []
  reps : Nat := 0
  repAt : Option Nat := none
  atr : List Byte := []
  clkStop : Bool := false
  clkHigh : Bool := false
  crc : Bool := false
  ifsc : Nat := 32
  apdu : List Byte := []
  resp : List Byte := []
  hdr : List Byte := []
  left : List Byte := []
  need : Nat := 0
  wait : T0Wait := .proc
  ns : Nat := 0
  nr : Nat := 0
  tries : Nat := 0
  resynch : Bool := false
  resynching : Bool := false
  comp : Nat := 0
  eph : Nat := 0
  woke : Bool := false
  deriving DecidableEq, Repr

/-- The ceremony beside its registers (R522 to R526): the accumulator, the import key, TARGET, N, DOME, the time on
the time base of its last OPEN, COMPONENT or IMPORT, and the status and output of its command that has ended (R525), with where
the result goes; the slot of its last COMPONENT, whose domain its transfers carry (R42). -/
structure Cer where
  acc : List Byte := []
  importKey : List Byte := []
  target : Nat := 0
  n : Nat := 0
  dome : Nat := 0
  last : Rat := 0
  ended : Option (Nat × List Byte) := none
  out : Nat := 0
  slot : Nat := 0
  deriving DecidableEq, Repr

/-- Where the operation of the removable-card host stands: what the next response of the card ends. -/
inductive SdPhase where
  | idle
  /-- INIT (R529): the card off for 100 ms after a voltage switch that failed; identification, the voltage switch, address
  and select, width and mode. -/
  | off | identify | switch | select | mode
  /-- The response to the command of READ or WRITE (R531), and a block. -/
  | command | block
  /-- The response of SLEEP or AWAKE. -/
  | sleep
  /-- RPMB (R533, R534): the counter, the frames read, the result frame. -/
  | counter | frames | result
  /-- CSA (R535 to R537): a header, the data, the blocks written, the record read back, the commit. -/
  | header (p : Nat) | data (p : Nat) | csaWrite | verify | commit
  deriving DecidableEq, Repr

/-- The removable-card host beside its registers. `op`, `area`, `phase`; `s18r`: INIT asks for the voltage switch;
`cap`: the card's capacity in blocks; `tries`: repeats of the present block; `buf`: what has been read; `todo`: what
remains to write; `sent`: the block or frames last sent; `key`; `heads`: the headers read; `nonce`; `reads`: the RPMB
read count; `pendMac` and `pendCid`: what SDH_RPMB_PEND keeps beside the counter; `counter`: the last RPMB counter read, or the counter a CSA
write commits; `blk`: the card block addressed; `woke`: the card is to be awake after DEEP; `cmds`: the words on CMD that began
what is awaited, in order; `rca`: the relative address; `bytes`: the card addresses bytes (SDSC); `cmd23`: it supports CMD23;
`wide`: 4 lines are in effect; `offAt`: when a card was powered off for its voltage switch; `fell`: INIT runs again because that
switch failed; `clkOff`: the clock of a sleeping SD card is stopped. -/
structure Sdh where
  op : Nat := 0
  area : Nat := 0
  phase : SdPhase := .idle
  s18r : Bool := false
  ven : Bool := false
  cap : Nat := 0
  tries : Nat := 0
  buf : List Byte := []
  todo : List Byte := []
  sent : List Byte := []
  key : List Byte := []
  heads : List (List Byte) := []
  nonce : List Byte := []
  reads : Nat := 0
  pendMac : List Byte := []
  pendCid : Nat := 0
  counter : Nat := 0
  blk : Nat := 0
  woke : Bool := false
  cmds : List Nat := []
  rca : Nat := 0
  bytes : Bool := false
  cmd23 : Bool := false
  wide : Bool := false
  offAt : Rat := 0
  fell : Bool := false
  clkOff : Bool := false
  deriving DecidableEq, Repr

/-! ### Contactless (spec/18_contactless.md) -/

/-- A session of the custodian handshake (R551): SK, the counters of the two directions (initiator to responder first)
and bytes 0 to 7 of RND_I. -/
structure Badge where
  sk : List Byte
  ci : Nat := 0
  cr : Nat := 0
  rnd : List Byte
  deriving DecidableEq, Repr

/-- What the reader awaits (R546 to R550): the guard time; ATQA, the answers of anticollision and SELECT, ATS, the PPS
response; a block; the answer to S(DESELECT); random bytes; the end of the carrier's reset; after ATS, the SFGT. -/
inductive RdPhase where
  | idle | guard | atqa | anticoll | select | ats | sfgt | pps | block | deselect | random | reset
  deriving DecidableEq, Repr

/-- What the APDU of an exchange belongs to: EXCHANGE, the two of AUTH, SECURE_EXCHANGE. -/
inductive RdUse where
  | plain | begin | finish | secure
  deriving DecidableEq, Repr

/-- The reader beside its registers: the command that runs (0 none), what it awaits, the cascade level, the UID so far,
the bytes of the level, the card's frame size and rate, the frame and the I-block last sent, what remains to send, the response so
far, whether a chain is being received, the block number, the failures in a row, the use of the APDU, K, RND_I, the header of
a protected command, and the session; FWI and SFGI of the card, the multiplier of S(WTX) for the next response, and when on the
time base the present wait began. -/
structure Reader where
  cmd : Nat := 0
  phase : RdPhase := .idle
  level : Nat := 1
  uid : List Byte := []
  part : List Byte := []
  fsc : Nat := 32
  rate : Nat := 0
  tx : List Byte := []
  lastI : List Byte := []
  left : List Byte := []
  resp : List Byte := []
  chain : Bool := false
  bn : Nat := 0
  tries : Nat := 0
  use : RdUse := .plain
  k : List Byte := []
  rndI : List Byte := []
  head : List Byte := []
  session : Option Badge := none
  fwi : Nat := 4
  sfgi : Nat := 0
  wtx : Nat := 1
  at_ : Rat := 0
  deriving DecidableEq, Repr

/-- A hand-over of the mailbox that waits for the next bedrock edge (R559, R560): COMMIT of an IN buffer with its LEN,
CLF_MBOX.REL_IN, CLF_MBOX.PUB_OUT with LEN, ACK of an OUT buffer. -/
inductive MboxAsk where
  | commit (buf len : Nat)
  | release (mask : Nat)
  | publish (mask len : Nat)
  | ack (n : Nat)
  deriving DecidableEq, Repr

/-- The tag's side of ISO/IEC 14443-4 (R552): its block number, the frame size of the reader (RATS), the chained blocks received
so far, what remains to send, and the block last sent. -/
structure IsoDep where
  bn : Nat := 1
  fsd : Nat := 256
  rx : List Byte := []
  left : List Byte := []
  last : List Byte := []
  deriving DecidableEq, Repr

/-- Where the tag stands in ISO/IEC 14443-3: idle, halted, ready, active, or in the block protocol. -/
inductive TagPhase where
  | idle | halt | ready | active | iso
  deriving DecidableEq, Repr

/-- The tag beside its registers. All but the protocol, the handshake and the session is AO: the tag key (empty when
there is none), the counter C (R554), the tick the back-off began at, the mailbox memory (R558), the index of a load under
way (R553), and a COMMIT registered while main power was off (R559). `wasHalted`: the state an error returns to;
`uid`: the three bytes taken at the field's rise (R552); `hand`: RND_I and RND_R of a handshake; `out`: the last
answer; `iso`: the block protocol; `asked`: hand-overs latched AO for the next bedrock edge. -/
structure Tag where
  key : List Byte := []
  c : Nat := 0
  backoff : Nat := 0
  mem : List (Nat × Byte) := []
  load : Option Nat := none
  committed : Bool := false
  phase : TagPhase := .idle
  wasHalted : Bool := false
  uid : Nat := 0
  hand : Option (List Byte × List Byte) := none
  session : Option Badge := none
  out : List Byte := []
  iso : IsoDep := {}
  asked : List MboxAsk := []
  deriving DecidableEq, Repr

/-! ### The machine -/

/-- The machine. -/
structure State where
  /-- Every register field that does not hold its reset value (R11 to R15): its key and its value. -/
  regs : List (Nat × Nat) := []
  /-- Every byte of memory (R37) that does not read as an unlisted one does. -/
  mem : List Host.Cell := []
  /-- Keep-core interrupt vectors raised (R40). -/
  irq : List Nat := []
  /-- The commands that wait, first in, first out. -/
  pending : List Instr := []
  /-- MODEL'S OWN: how many free values have been drawn. -/
  free : Nat := 0
  /-- High halves latched by 64-bit registers read as two halves (R16): agent × 2^40 + address, and the value. -/
  latch : List (Nat × Nat) := []
  /-- The response the master of the last transfer received (R36). -/
  reply : Option Reply := none
  /-- Disturbances that wait for the next transfer that an agent issues by itself (R33, R34): the agent, and the disturbance. -/
  bus : List (Nat × BusErr) := []
  /-- Register writes of units' own transfers that have not reached their registers (R41). -/
  regQ : List RegWr := []
  artCur : List (Nat × Rule) := []
  artShadow : List (Nat × Rule) := []
  /-- Faults reported and not yet registered at the FCU (R327). -/
  faultQ : List FaultMsg := []
  cores : List (Nat × Core) := []
  spires : List (Nat × Spire) := []
  domes : List (Nat × Dome) := []
  tmp : Tmp := {}
  memc : Memc := {}
  mmu : Mmu := {}
  /-- Mover descriptors held (R301), in order of issue. -/
  mover : List MvDesc := []
  /-- Engine commands that have not ended, in order of submission. -/
  cmds : List Cmd := []
  key : KeyU := {}
  pools : Pools := {}
  ent : Ent := {}
  jsc : Jsc := {}
  jrn : Jrn := {}
  net : Net := {}
  ses : SesU := {}
  fed : Fed := {}
  /-- When the grace or quiet timer of a pair of dome and class started (R331; key: dome × 4 + class). -/
  fcu : List (Nat × Rat) := []
  pwr : Pwr := {}
  stb : Stb := {}
  flc : Flc := {}
  icc : List (Nat × Icc) := []
  cer : Cer := {}
  sdh : Sdh := {}
  reader : Reader := {}
  tag : Tag := {}
  deriving DecidableEq, Repr

/-- The machine right after reset: every register field at its reset value (R13), RST_LC.STATE at 1, the value taken for its fuses,
and RST_FWVER.MINVER, which fuses give too (R122), at 0 (DESIGN CHOICES, log 5); memory with nothing listed, no command waiting. -/
def State.reset : State := { regs := [(R.RST_LC_STATE.key, 1)] }

end Sys2Proof.Machine
end

