-- ==== Sys2Proof/Machine/Ops.lean ====
section
/-!
DEFINITION. Sys2Proof/Machine/Ops.lean: the named operations every unit uses: register fields, memory bytes, DTIME,
interrupt causes, faults on their way to the FCU, and the parts of the state kept per index.
-/

namespace Sys2Proof.Machine

/-! ### Register fields (R11 to R14) -/

/-- The value of a register field. -/
def State.get (s : State) (f : Fld) : Nat := (tabFind s.regs f.key).getD f.rst

/-- Set a register field, cut to its width; a field at its reset value is not listed. -/
def State.set (s : State) (f : Fld) (v : Nat) : State :=
  { s with regs := if v % 2 ^ f.wd = f.rst then tabDel s.regs f.key else tabIns s.regs f.key (v % 2 ^ f.wd) }

/-- Whether a one-bit field reads 1. -/
def State.is (s : State) (f : Fld) : Bool := s.get f == 1

/-- Set a one-bit field. -/
def State.setB (s : State) (f : Fld) (b : Bool) : State := s.set f (b2n b)

/-- Count an event in a counter field, which stays at its highest value (R203, R312, R339). -/
def State.count (s : State) (f : Fld) : State := s.set f (satInc f.wd (s.get f))

/-- Add to a counter field that stays at its highest value. -/
def State.countBy (s : State) (f : Fld) (n : Nat) : State := s.set f (min (s.get f + n) (2 ^ f.wd - 1))

/-- Add 1 to a field that wraps (R51, R175). -/
def State.next (s : State) (f : Fld) : State := s.set f (s.get f + 1)

/-! ### Interrupt causes -/

/-- Raise a keep-core interrupt vector (R40). -/
def State.raise (s : State) (v : Nat) : State := { s with irq := insNat s.irq v }

/-- Raise a vector and set its bit in the block's EVENTS register, whose bit 0 stands for vector `base`. -/
def State.cause (s : State) (f : Fld) (base v : Nat) : State :=
  (s.set f (s.get f ||| 2 ^ (v - base))).raise v

/-! ### Boot phases (R118 to R120) -/

/-- The boot's phase (RST_BOOT.PHASE). -/
def State.phaseSet (s : State) (p : Nat) : State := s.set R.RST_BOOT_PHASE p

/-- FAIL, HALT_TAMPER or RECOVERY is entered: MGT_ALERT.BOOTFAIL. -/
def State.bootStop (s : State) (p : Nat) : State := (s.phaseSet p).set R.MGT_ALERT_BOOTFAIL 1

/-- A boot step fails (R120). -/
def State.bootFail (s : State) (step : Nat) : State := (s.set R.RST_BOOT_FAILSTEP step).bootStop 14

/-- Defect `k` of this device: boot step `k` fails (R120), or a known-answer test (R420). -/
def State.defect (s : State) (k : Nat) : Bool := s.pwr.defects.testBit k

/-! ### Time (R90) -/

/-- DTIME in exact ns: the integer part and the fraction of 2^-16 ns. -/
def State.now (s : State) : Rat :=
  (s.get R.TIME_DTIME_NS : Rat) + (s.get R.TIME_DFRAC_FRAC : Rat) / 65536

/-- The clock of the timers that count DTIME (R91): DTIME without the step of TIME_SET and the time in DEEP. -/
def State.tnow (s : State) : Rat := s.now - s.pwr.skipped

/-- The time base (R87) in ns: 0.625 for each of its edges since the main domain was reset. RATE adjusts DTIME and not this clock
(R91), and it runs on in DEEP. -/
def State.tbase (s : State) : Rat := (s.pwr.edges : Rat) * (5 / 8)

/-- The edge on which a timer that counts DTIME reaches its limit has passed (R21 to R24): an event registered on that edge comes
before the expiry and wins. -/
def State.past (s : State) (limit : Rat) : Bool := decide (limit + s.pwr.edge ≤ s.tnow)

/-- The same for a timer on the time base. -/
def State.pastBase (s : State) (limit : Rat) : Bool := decide (limit + 5 / 8 ≤ s.tbase)

/-- What R100 waits for is broken off now. -/
def State.idleMark (s : State) : State := { s with pwr := { s.pwr with busyAt := s.tbase } }

/-- DTIME in ns, rounded down. -/
def State.nowNs (s : State) : Nat := s.get R.TIME_DTIME_NS

/-- An entry into DEEP has begun and not ended (R104). -/
def State.deepEntry (s : State) : Bool := match s.pwr.seq with | .deep _ => true | _ => false

/-- An exit from DEEP has begun and not ended (R105). -/
def State.deepLeave (s : State) : Bool := match s.pwr.seq with | .exit _ _ => true | _ => false

/-- The keep core is halted (R104, R105): from the end of step 2 of an entry into DEEP to the end of step 3 of the exit. -/
def State.keepHalted (s : State) : Bool :=
  match s.pwr.seq with
  | .deep k => decide (3 ≤ k)
  | .exit k done => decide (2 ≤ done) && decide (k ≤ 3)
  | _ => false

/-! ### Memory bytes -/

/-- What a byte of memory that is not listed reads as: 0xFF in flash, whose erased cells read all ones, 0 elsewhere. -/
def memDefault (a : Nat) : Byte := if 0xF000000000 ≤ a ∧ a < 0xF020000000 then 0xFF#8 else 0#8

/-- One byte of memory. -/
def State.byte (s : State) (a : Nat) : Byte := tabGet (memDefault a) s.mem a

/-- Write one byte of memory. -/
def State.putByte (s : State) (a : Nat) (b : Byte) : State := { s with mem := tabSet (memDefault a) s.mem a b }

/-- `n` bytes of memory from an address up. -/
def State.bytes (s : State) (a n : Nat) : List Byte := (List.range n).map (fun i => s.byte (a + i))

/-- Write bytes of memory from an address up. -/
def State.putBytes (s : State) (a : Nat) : List Byte → State
  | [] => s
  | b :: bs => (s.putByte a b).putBytes (a + 1) bs

/-- Drop every listed byte from `a` on, `n` in all: those bytes read as unlisted ones. -/
def State.dropBytes (s : State) (a n : Nat) : State :=
  { s with mem := s.mem.filter (fun c => c.1 < a || a + n ≤ c.1) }

/-- The canonical form of memory: addresses strictly rise, and no entry holds what an unlisted byte reads as. -/
def Memory.wf (m : List Host.Cell) : Bool := tabSorted m && m.all (fun c => c.2 != memDefault c.1)

/-! ### Free values -/

/-- Draw a free value of `n` bits. -/
def State.draw (s : State) (bits : Nat) : Nat × State :=
  (Config.freeValue s.free % 2 ^ bits, { s with free := s.free + 1 })

/-! ### Per-index parts -/

/-- Core `c` (16 × spire + core). -/
def State.core (s : State) (c : Nat) : Core := tabGet {} s.cores c

/-- Change core `c`. -/
def State.setCore (s : State) (c : Nat) (k : Core) : State := { s with cores := tabSet {} s.cores c k }

/-- Spire `p`. -/
def State.spire (s : State) (p : Nat) : Spire := tabGet {} s.spires p

/-- Change spire `p`. -/
def State.setSpire (s : State) (p : Nat) (k : Spire) : State := { s with spires := tabSet {} s.spires p k }

/-- Dome `d`. -/
def State.dome (s : State) (d : Nat) : Dome := tabGet {} s.domes d

/-- Change dome `d`. -/
def State.setDome (s : State) (d : Nat) (k : Dome) : State := { s with domes := tabSet {} s.domes d k }

/-- Change the scheduler. -/
def State.setJsc (s : State) (j : Jsc) : State := { s with jsc := j }

/-- The job in flight with an ID. -/
def State.job (s : State) (id : Nat) : Option Job := s.jsc.jobs.find? (fun j => j.id == id)

/-- The open session in which a job came: the peer opened it, and the device gave it its SID (R193). -/
def State.jobSession (s : State) (j : Job) : Option (Nat × Ses) :=
  s.ses.ctxs.find? (fun x => x.2.st == 2 && !x.2.client && x.2.sid == j.session)

/-- Change the job with an ID. -/
def State.updJob (s : State) (id : Nat) (f : Job → Job) : State :=
  { s with jsc := { s.jsc with jobs := s.jsc.jobs.map (fun j => if j.id = id then f j else j) } }

/-- The job number under which the command of the ceremony runs. -/
def cerJob : Nat := 2 ^ 32 + 2 ^ 18

/-- A job that is not DONE or BROKEN. -/
def Job.live (j : Job) : Bool := j.st != .done && j.st != .broken

/-- The current structure epoch of a dome. -/
def State.domeEpoch (s : State) (d : Nat) : Nat := s.get (R.STB_DOM_STATE_EPOCH d)

/-- The dome that owns spire `p` (R28): the one whose allotment names it. -/
def State.spireDome (s : State) (p : Nat) : Option Nat :=
  (s.domes.find? (fun e => match e.2.allot with | some a => a.spires.testBit p | none => false)).map (·.1)

/-- A fault on its way to the FCU (R327). -/
def State.report (s : State) (m : FaultMsg) : State := { s with faultQ := s.faultQ ++ [{ m with at_ := s.now }] }

/-! ### The address map (R37, R39) -/

/-- Physical address of byte `o` of spire `p`'s shared SRAM. -/
def sramAddr (p o : Nat) : Nat := 0xE000000000 + p * 0x1000000 + o

/-- Physical address of byte `o` of core `c`'s window: data memory from 0, instruction memory from 0x2_0000. -/
def coreAddr (c o : Nat) : Nat := 0xE800000000 + c * 0x40000 + o

/-- An address lies in DDR. -/
def isDdr (a : Nat) : Bool := a < 0x2000000000

/-- An address lies in the flash. -/
def isFlash (a : Nat) : Bool := 0xF000000000 ≤ a && a < 0xF020000000

/-- An address lies in the used part of a spire's SRAM window. -/
def isSram (a : Nat) : Bool :=
  0xE000000000 ≤ a && a < 0xE020000000 && (a - 0xE000000000) % 0x1000000 < 0x400000

/-- An address lies in the used part of a core-local window. -/
def isLocal (a : Nat) : Bool :=
  0xE800000000 ≤ a && a < 0xE808000000 && (a - 0xE800000000) % 0x40000 < 0x30000

/-- An address lies in a register block. -/
def isReg (a : Nat) : Bool :=
  (0xFF00000000 ≤ a && a < 0xFF00190000) || (0xFF01000000 ≤ a && a < 0xFF03000000)

/-- An address is unbacked (R39). -/
def unbacked (a : Nat) : Bool := !(isDdr a || isFlash a || isSram a || isLocal a || isReg a)

end Sys2Proof.Machine
end

