-- ==== Sys2Proof/Machine/Art.lean ====
section
/-!
DEFINITION. Sys2Proof/Machine/Art.lean: the access rule table's judgement of a transfer (spec/10_access_faults.md R317
to R321), the silent answer (spec/01_architecture.md R36), and the commands ART_COPY, ART_COPY_END, ART_RULE_WRITE,
ART_SWITCH and ART_DRAINED (R322 to R324).
-/

namespace Sys2Proof.Machine

/-- Who issues a transfer, and under which domain and access-rule epoch (R42, R46). `sp` is the spire of the submitting
core for an engine (R329), 63 for the others. -/
structure Xfer where
  agent : Nat
  dom : Nat
  epoch : Nat
  sp : Nat := 63
  deriving DecidableEq, Repr

/-- The class of an agent (R42): 0 CORE, 1 KEEP, 2 MOVER, 3 ENGINE, 4 PORT, 5 FIXED. -/
def agentClass (a : Nat) : Nat :=
  if a < 0x200 then 0
  else if a = 0x200 then 1
  else if 0x210 ≤ a ∧ a < 0x230 then 2
  else if 0x240 ≤ a ∧ a < 0x2A0 then 3
  else if a = 0x2A0 ∨ a = 0x2A1 ∨ a = 0x2B1 ∨ a = 0x2B2 ∨ a = 0x2B3 then 4
  else 5

/-- The agent IDs of R42; others are never issued (R43). -/
def agentExists (a : Nat) : Bool :=
  a < 0x201 || (0x210 ≤ a && a < 0x230) || (0x240 ≤ a && a < 0x2A5) || (0x2B0 ≤ a && a < 0x2B4) || a == 0x2C0
    || a == 0x2D0 || a == 0x3FF

/-- The mask of a rule for a type: 0 READ, 1 WRITE, 2 FETCH (R318, R319). -/
def Rule.mask (r : Rule) (type : Nat) : Nat := if type = 0 then r.rmask else if type = 1 then r.wmask else r.xmask

/-- A rule grants byte `b` to a class and domain for a type (R319). -/
def Rule.grants (r : Rule) (cls dom type b : Nat) : Bool :=
  decide (0 < r.pages) && decide (r.base * 4096 ≤ b) && decide (b < (r.base + r.pages) * 4096)
    && r.classes.testBit cls && (r.mask type).testBit dom

/-- The boot rule set (R321). `factory`: the lifecycle state is FACTORY. -/
def bootGrants (factory : Bool) (agent dom type b : Nat) : Bool :=
  if dom ≠ 0 then false
  else if agent = 0x200 ∨ (agent = 0x3FF ∧ factory) then isDdr b || (isFlash b && type != 1)
  else if agent = 0x2D0 ∨ agent = 0x2B0 ∨ agent = 0x2A3 ∨ agent = 0x2A4 ∨ agent = 0x2C0 then
    (isDdr b && type != 2) || (isFlash b && type == 0)
  else false

/-- The bank that holds an epoch's rules (R317, R319). -/
def State.bankOf (s : State) (epoch : Nat) : List (Nat × Rule) :=
  if epoch = s.get R.ART_EPOCH_CURRENT then s.artCur
  else if s.get R.ART_FENCE_DRAINED = 0 ∧ epoch = s.get R.ART_EPOCH_DRAINING then s.artShadow
  else s.artCur

/-- Whether one byte is allowed to a transfer (R319 to R321). -/
def State.allows (s : State) (x : Xfer) (type b : Nat) : Bool :=
  if unbacked b then false
  else if isReg b && (x.agent == 0x200 || x.agent == 0x2D0) then true
  else if s.is R.ART_STATUS_BOOTSET then bootGrants (s.get R.RST_LC_STATE == 0) x.agent x.dom type b
  else (s.bankOf x.epoch).any (fun e => e.2.grants (agentClass x.agent) x.dom type b)

/-- The first forbidden byte of a transfer, if it is a violation (R319). -/
def State.judge (s : State) (x : Xfer) (type addr : Nat) : Nat → Option Nat
  | 0 => none
  | n + 1 => if s.allows x type addr then s.judge x type (addr + 1) n else some addr

/-- The spire a fault of an agent records: that of the core or mover, else 63 (R329). -/
def agentSpire (a : Nat) : Nat := if a < 0x200 then a / 16 else if 0x210 ≤ a ∧ a < 0x230 then a - 0x210 else 63

/-- The ADDR of a fault at a byte (R327): for class CORE bit 39 and the core address, which for a job core's transfer is that of
its spire's SRAM (R207). -/
def faultAddr (agent a : Nat) : Nat :=
  if agent < 0x200 then 2 ^ 39 + (0x10000000 + (a - sramAddr (agent / 16) 0)) % 2 ^ 32 else a

/-- Tell the FCU of a violation (R319, R327). -/
def State.violation (s : State) (x : Xfer) (type addr : Nat) : State :=
  s.report { source := 0, agent := x.agent, dome := x.dom, addr := faultAddr x.agent addr, type := type,
             spire := if x.sp = 63 then agentSpire x.agent else x.sp }

/-! ### Changing rules (R322 to R324) -/

/-- A refused COPY or SWITCH (R322, R324). -/
def State.artRefuse (s : State) : State := (s.set R.ART_EVENTS_REFUSED 1).raise 97

/-- ART_CTRL.COPY (R322). -/
def State.artCopy (s : State) : State :=
  if s.get R.ART_FENCE_DRAINED = 0 ∨ s.is R.ART_STATUS_STB_HOLD ∨ s.is R.ART_STATUS_BOOTSET
      ∨ s.is R.ART_STATUS_COPYING then s.artRefuse
  else (s.set R.ART_STATUS_OWNED 0).set R.ART_STATUS_COPYING 1

/-- The copy ends (R322): the shadow equals the current bank and the keep owns it. -/
def State.artCopyEnd (s : State) : State :=
  if s.is R.ART_STATUS_COPYING then
    ({ s with artShadow := s.artCur }.set R.ART_STATUS_COPYING 0).set R.ART_STATUS_OWNED 1
  else s

/-- The rule the rule registers reach (R323). -/
def State.selRule (s : State) : Rule :=
  tabGet {} (if s.is R.ART_RSEL_VIEW then s.artCur else s.artShadow) (s.get R.ART_RSEL_INDEX)

/-- A write of a rule register (R323): `which` is 0 ART_RBASE, 1 ART_RPAGES, 2 ART_RCLS, 3 to 5 the masks R, W, X. -/
def State.artRuleWrite (s : State) (which value : Nat) : State :=
  if s.is R.ART_STATUS_OWNED then
    let i := s.get R.ART_RSEL_INDEX
    let r := tabGet {} s.artShadow i
    let r' : Rule :=
      if which = 0 then { r with base := bitsOf value 12 28 }
      else if which = 1 then { r with pages := min (value % 2 ^ 29) (2 ^ 28) }
      else if which = 2 then { r with classes := value % 64 }
      else if which = 3 then { r with rmask := value % 2 ^ 64 }
      else if which = 4 then { r with wmask := value % 2 ^ 64 }
      else if which = 5 then { r with xmask := value % 2 ^ 64 }
      else r
    { s with artShadow := tabSet {} s.artShadow i r' }
  else s

/-- The switch edge of the access-rule epoch (R324, R325): the shadow becomes current with the next epoch. -/
def State.artSwitchEdge (s : State) : State :=
  let e := s.get R.ART_EPOCH_CURRENT
  let s1 : State := { s with artCur := s.artShadow, artShadow := s.artCur }
  let s2 := ((s1.set R.ART_EPOCH_DRAINING e).set R.ART_EPOCH_CURRENT (e + 1)).set R.ART_FENCE_DRAINED 0
  ((s2.set R.ART_STATUS_OWNED 0).set R.ART_EVENTS_SWITCHED 1).raise 96

/-- ART_CTRL.SWITCH (R324): accepted only while OWNED is set and no copy runs; refused under STB_HOLD (R325) and
while the boot rule set is in force (R321), in both of which OWNED reads 0. -/
def State.artSwitch (s : State) : State :=
  if s.is R.ART_STATUS_OWNED ∧ ¬ s.is R.ART_STATUS_COPYING ∧ ¬ s.is R.ART_STATUS_STB_HOLD
      ∧ ¬ s.is R.ART_STATUS_BOOTSET then s.artSwitchEdge
  else s.artRefuse

/-- No operation carries an access-rule epoch (R49): no live job, no mover descriptor, no read that waits for its flash bank and no
engine command, a unit's own too. -/
def State.artEpochFree (s : State) (e : Nat) : Bool :=
  s.jsc.jobs.all (fun j => !(j.live && j.artEpoch == e)) && s.mover.all (fun m => m.artEpoch != e)
    && s.flc.wait.all (fun w => w.epoch != e) && s.cmds.all (fun c => c.artEpoch != e)

/-- The previous epoch drains (R324, R49). -/
def State.artDrained (s : State) : State :=
  if s.get R.ART_FENCE_DRAINED = 0 ∧ s.artEpochFree (s.get R.ART_EPOCH_DRAINING) then
    ((s.set R.ART_FENCE_DRAINED 1).set R.ART_EVENTS_DRAINED 1).raise 98
  else s

end Sys2Proof.Machine
end

