-- ==== Sys2Proof/Machine/Flags.lean ====
section
/-!
DEFINITION. Sys2Proof/Machine/Flags.lean: the sticky flags a tamper event sets (spec/14_tamper.md R435, R441) and the
event flags of a core's bit space (spec/07_core_execution.md R221).
-/

namespace Sys2Proof.Machine

/-- PWR_STATE.DEV as a tamper record gives it (R447): 4 while main power is off. -/
def State.devNow (s : State) : Nat := if s.pwr.main = .on then s.get R.PWR_STATE_DEV else 4

/-- The mask of a tamper source (R437): that of BEDROCK_LOST is always 0x07 (R444). -/
def State.tmpMask (s : State) (n : Nat) : Nat := if n = 16 then 7 else s.get (R.TMP_MASK_MASK n)

/-- A tamper source registers an event (R435): its sticky flag, its count and, if the flag was clear, the TSTAMP of
its first event; then it waits for its firing (R439), or is deferred (R441). -/
def State.tamper (s : State) (n : Nat) (detail : Nat := 0) : State :=
  let ts := s.get R.TIME_TSTAMP_TICKS
  let e : TEvt := { src := n, detail := detail, ts := ts, dt := s.nowNs, dev := s.devNow }
  let s1 := if (s.get R.TMP_FLAGS_FLAG).testBit n then s else s.set (R.TMP_FIRST_TS_TICKS n) ts
  let s2 := (s1.set R.TMP_FLAGS_FLAG (s1.get R.TMP_FLAGS_FLAG ||| 2 ^ n)).count (R.TMP_COUNT_COUNT n)
  if s.tmp.live then { s2 with tmp := { s2.tmp with queue := s2.tmp.queue ++ [e] } }
  else
    let d := match tabFind s.tmp.deferred n with
      | some (f, k) => (f, satInc 16 k)
      | none => (e, 1)
    ({ s2 with tmp := { s2.tmp with deferred := tabIns s2.tmp.deferred n d } } : State).set R.TMP_PENDING_RESP
      (s2.get R.TMP_PENDING_RESP ||| s2.tmpMask n)

/-- The completion flag of a ticket in a tier's event view (R221). -/
def Core.flag (k : Core) (tier ticket : Nat) : Bool := tabGet false k.events (tier * 512 + ticket)

/-- Set the completion flag of a ticket, and its error flag when the command ended with a status other than OK. -/
def Core.complete (k : Core) (tier ticket : Nat) (err : Bool) : Core :=
  { k with events :=
      let e := tabSet false k.events (tier * 512 + ticket) true
      if err then tabSet false e (tier * 512 + 256 + ticket) true else e }

/-- Clear both flags of a ticket (R221). -/
def Core.clearTicket (k : Core) (tier ticket : Nat) : Core :=
  { k with events := tabSet false (tabSet false k.events (tier * 512 + ticket) false) (tier * 512 + 256 + ticket) false }

/-- A command of a job's ticket completes (R221, R224): its flags are set in the job's tier, the ticket is no longer
outstanding, and a job that waits for it returns to RUNNING with the 4 cycles of R224; a preempted job keeps waiting
for its resumption (R238). -/
def State.completeTicket (s : State) (id ticket : Nat) (err : Bool) : State :=
  match s.job id with
  | none => s
  | some j =>
    if !j.live then s else
    match j.core with
    | none => s
    | some c =>
      let s1 := s.setCore c ((s.core c).complete j.cls ticket err)
      s1.updJob id (fun j =>
        let j' := { j with tickets := j.tickets.filter (fun t => t.1 != ticket) }
        if j.wait = some ticket ∧ (j.st = .waitEngine ∨ j.st = .waitMover) then
          { j' with st := .running, wait := none, cycles := j.cycles + 4 }
        else j')

end Sys2Proof.Machine
end

