-- ==== Sys2Proof/Machine/Ddr.lean ====
section
/-!
DEFINITION. Sys2Proof/Machine/Ddr.lean: DDR lines (spec/09_memory.md R279 to R289): colours, the outcomes of a line
read, writes of whole and partial lines, the patrol scrub, rekeying and the sweep; commands PATROL_SCRUB,
RECOLOUR_CLEAR, RECOLOUR_REENCRYPT, SWEEP_LINE.
-/

namespace Sys2Proof.Machine

/-! ### Channels (R38) -/

/-- The channel of an address. -/
def ddrChannel (a : Nat) : Nat := a / 0x1000 % 8

/-- The place of a line's burst on its channel, in bursts: the 4 KiB pieces of a channel follow one another. -/
def ddrPlace (a : Nat) : Nat := a / 0x8000 * 64 + a % 0x1000 / 64

/-- The burst in which the line of an address is stored, of the 2^28 of each channel. -/
def ddrBurst (a : Nat) : Nat := ddrChannel a * 2 ^ 28 + ddrPlace a

/-- The line that a burst stores. -/
def burstLine (b : Nat) : Nat := b % 2 ^ 28 / 64 * 0x8000 + b / 2 ^ 28 * 0x1000 + b % 64 * 64

/-! ### Lines -/

/-- The line an address lies in. -/
def lineOf (a : Nat) : Nat := a / 64 * 64

/-- The colour of a 2 MiB chunk (R279): that of the dome whose envelope holds it, else 0, as the stored map says. -/
def State.chunkColour (s : State) (chunk : Nat) : Nat := tabGet 0 s.memc.cmap chunk

/-- The colour of the chunk an address lies in. -/
def State.colourOf (s : State) (a : Nat) : Nat := s.chunkColour (a / 0x200000)

/-- The outcome of a line read (R285): 0 clean, 1 corrected, 2 uncorrectable, 3 tag failure. -/
def State.lineState (s : State) (line : Nat) : Nat := tabGet 0 s.memc.bad (ddrBurst line)

/-- Set what a line's stored burst decodes to. -/
def State.setLine (s : State) (line v : Nat) : State :=
  { s with memc := { s.memc with bad := tabSet 0 s.memc.bad (ddrBurst line) v } }

/-- Record an uncorrectable line (R285): the count, the first address, and the fault, with the domain of the transfer
that read it (0 for scrub and sweep reads), and its spire (R329). -/
def State.lineUe (s : State) (line agent dom : Nat) : State :=
  let s1 := s.count R.MEMC_UE_COUNT_COUNT
  let s2 := if s1.is R.MEMC_UE_ADDR_VALID then s1
            else ((s1.set R.MEMC_UE_ADDR_LINE (line / 64)).set R.MEMC_UE_ADDR_VALID 1).raise 224
  s2.report { source := 3, agent := agent % 1024, dome := dom, addr := line, type := 3, spire := agentSpire agent }

/-- A tag failure (R285): the count and tamper source LINETAG. -/
def State.lineTag (s : State) (line : Nat) : State := (s.count R.MEMC_TAG_COUNT_COUNT).tamper 13 (line / 64)

/-- Read a whole line (R285): the data delivered, the outcome and the state after; a corrected line is written back. -/
def State.readLine (s : State) (line agent dom : Nat) : List Byte × Nat × State :=
  match s.lineState line with
  | 0 => (s.bytes line 64, 0, s)
  | 1 => (s.bytes line 64, 1, (s.count R.MEMC_CE_COUNT_COUNT).setLine line 0)
  | 2 => (zeros 64, 2, s.lineUe line agent dom)
  | _ => (zeros 64, 3, s.lineTag line)

/-- The agent ID that a fault of the MEMC's own reads carries: R42 gives them none, so a free value, kept above every ID so
that it stands for no spire. -/
def State.memAgent (s : State) : Nat × State := let d := s.draw 10; (1024 + d.1, d.2)

/-- The read of a line by the scrub or a sweep: no transfer, of domain 0 and no spire. -/
def State.readOwn (s : State) (line : Nat) : List Byte × Nat × State := let a := s.memAgent; a.2.readLine line a.1 0

/-- Read bytes of DDR, line by line (`k` bounds the lines): the data, the first failing outcome (0 where there is
none) and the state after. -/
def State.readDdr (s : State) (agent dom : Nat) : Nat → Nat → Nat → List Byte × Nat × State
  | _, _, 0 => ([], 0, s)
  | a, n, k + 1 =>
    if n = 0 then ([], 0, s) else
    let line := lineOf a
    let m := min n (line + 64 - a)
    let r := s.readLine line agent dom
    let rest := r.2.2.readDdr agent dom (a + m) (n - m) k
    (sliceB r.1 (a - line) m ++ rest.1, (if r.2.1 = 2 ∨ r.2.1 = 3 then r.2.1 else rest.2.1), rest.2.2)

/-- Write bytes within one line (R286): a whole line is encoded directly; a part reads, merges and writes back, and
is dropped when that read is uncorrectable or fails its tag. -/
def State.writeLine (s : State) (a : Nat) (bs : List Byte) (agent dom : Nat) : State :=
  let line := lineOf a
  if bs.length = 64 ∧ a = line then (s.putBytes a bs).setLine line 0
  else
    let r := s.readLine line agent dom
    if r.2.1 = 2 ∨ r.2.1 = 3 then r.2.2 else r.2.2.putBytes a bs

/-- Write bytes of DDR, line by line (`k` bounds the lines). -/
def State.writeDdr (s : State) (agent dom : Nat) : Nat → List Byte → Nat → State
  | _, _, 0 => s
  | a, bs, k + 1 =>
    if bs.isEmpty then s else
    let m := min bs.length (lineOf a + 64 - a)
    (s.writeLine a (bs.take m) agent dom).writeDdr agent dom (a + m) (bs.drop m) k

/-! ### Patrol scrub (R287) -/

/-- The scrub reads the next line; after the last line a pass is complete (vector 226, R313). With a period of 0 it
has stopped. -/
def State.patrolScrub (s : State) : State :=
  if s.get R.MEMC_SCRUB_PERIOD = 0 then s else
  let line := s.memc.scrub * 64
  let s1 := (s.readOwn line).2.2
  if s.memc.scrub + 1 = 0x80000000 then
    ({ s1 with memc := { s1.memc with scrub := 0 } }.count R.MEMC_SCRUB_PASS_COUNT).raise 226
  else { s1 with memc := { s1.memc with scrub := s.memc.scrub + 1 } }

/-! ### Rekeying a colour (R288, R289) -/

/-- The first chunk of a colour from chunk `k` on, looking at `n` chunks: colour 0 is every chunk not mapped. -/
def State.chunkFrom (s : State) (colour k : Nat) : Nat → Option Nat
  | 0 => none
  | n + 1 => if s.chunkColour k = colour then some k else s.chunkFrom colour (k + 1) n

/-- The chunks listed with a colour, ascending (a colour other than 0 lies only in listed chunks). -/
def State.chunksOf (s : State) (colour : Nat) : List Nat :=
  (s.memc.cmap.filter (fun e => e.2 == colour)).map (·.1)

/-- The next chunk of a colour at or after chunk `k`. -/
def State.nextChunk (s : State) (colour k : Nat) : Option Nat :=
  if colour = 0 then s.chunkFrom 0 k (min (65536 - k) (s.memc.cmap.length + 1))
  else (s.chunksOf colour).find? (fun c => decide (k ≤ c))

/-- The dome that owns a colour (ALLOT COLOUR). -/
def State.colourDome (s : State) (c : Nat) : Option Nat :=
  (s.domes.find? (fun e => match e.2.allot with | some a => a.colour == c | none => false)).map (·.1)

/-- Whether CLEAR is allowed for a colour (R288): its dome is UNUSED, LOADING or STOPPED, and never colour 0. A colour
that no dome owns is treated as that of an UNUSED dome. -/
def State.clearAllowed (s : State) (c : Nat) : Bool :=
  c != 0 && (match s.colourDome c with
    | none => true
    | some d => s.get (R.STB_DOM_STATE_STATE d) == 0 || s.get (R.STB_DOM_STATE_STATE d) == 1
        || s.get (R.STB_DOM_STATE_STATE d) == 4)

/-- The end of a sweep (R289, R313): the fence reads drained and the old key set is destroyed. -/
def State.sweepEnd (s : State) (c : Nat) : State :=
  let s1 : State := { s with memc := { s.memc with sweep := none, oldKeys := [] } }
  (((s1.set R.MEMC_STATUS_SWEEP 0).set R.MEMC_RECOLOUR_STATUS_BUSY 0).set (R.MEMC_COLOUR_FENCE_DRAINED c) 1).raise 225

end Sys2Proof.Machine
end

