-- ==== Sys2Proof/Machine/PkMath.lean ====
section
/-!
DEFINITION. Sys2Proof/Machine/PkMath.lean: the arithmetic of the public-key pool by the standards the spec names
(spec/12_public_key.md R380, R387): modular arithmetic, the curves, ECDSA, ECDH, Ed25519, X25519, RSA and its paddings.
-/

namespace Sys2Proof.Machine

/-! ### Modular arithmetic -/

/-- `a` to the power `e`, over the low `k` bits of `e` from the top, mod `m`. -/
def powModN (a e m : Nat) : Nat → Nat → Nat
  | 0, r => r
  | k + 1, r => powModN a e m k (let s := r * r % m; if e.testBit k then s * a % m else s)

/-- `a ^ e mod m`. -/
def powMod (a e m : Nat) : Nat := powModN (a % m) e m (e.log2 + 1) (1 % m)

/-- The extended Euclidean algorithm: the greatest common divisor of `r0` and `r1` and the coefficient of the second. -/
def egcd (m : Nat) : Nat → Nat → Nat → Nat → Nat → Nat × Nat
  | 0, r0, _, t0, _ => (r0, t0)
  | k + 1, r0, r1, t0, t1 =>
    if r1 = 0 then (r0, t0) else egcd m k r1 (r0 % r1) t1 ((t0 + (m - r0 / r1 % m) * t1) % m)

/-- The inverse of `a` mod `m`, if there is one. -/
def modInv? (a m : Nat) : Option Nat :=
  let r := egcd m (3 * (m.log2 + 2)) m (a % m) 0 (1 % m)
  if r.1 = 1 then some (r.2 % m) else none

/-- The inverse of `a` mod `m`, or 0. -/
def modInv (a m : Nat) : Nat := (modInv? a m).getD 0

/-- `a - b` mod `m`, for `b` up to `m`. -/
def subMod (a b m : Nat) : Nat := (a + (m - b % m)) % m

/-- Write `n` as `d` times a power of two, taking out at most `k` twos. -/
def twosOut : Nat → Nat → Nat × Nat
  | 0, d => (d, 0)
  | k + 1, d => if d % 2 = 0 ∧ d ≠ 0 then ((twosOut k (d / 2)).1, (twosOut k (d / 2)).2 + 1) else (d, 0)

/-- Whether squaring `x` up to `k` times meets `n - 1`. -/
def meetsMinus1 (n : Nat) : Nat → Nat → Bool
  | 0, _ => false
  | k + 1, x => x == n - 1 || meetsMinus1 n k (x * x % n)

/-- Miller–Rabin with the first 40 primes as bases (R393). -/
def millerRabin (n : Nat) : Bool :=
  let ps := primesUpTo 40 174
  if ps.contains n then true
  else if n < 2 ∨ ps.any (fun p => n % p == 0) then false
  else
    let t := twosOut (n.log2 + 1) (n - 1)
    ps.all (fun a => let x := powMod a t.1 n; x == 1 || meetsMinus1 n t.2 x)

/-! ### Weierstrass curves -/

/-- A curve y² = x³ + ax + b: `f` field bytes, `on` order bytes, cofactor `h`. -/
structure Curve where
  f : Nat
  on : Nat
  h : Nat
  p : Nat
  a : Nat
  b : Nat
  gx : Nat
  gy : Nat
  n : Nat
  deriving DecidableEq, Repr

/-- A point: none is the point at infinity. -/
abbrev Pt := Option (Nat × Nat)

/-- The base point. -/
def Curve.g (c : Curve) : Pt := some (c.gx, c.gy)

/-- A pair lies on the curve. -/
def Curve.on? (c : Curve) (x y : Nat) : Bool := y * y % c.p == (x * x % c.p * x + c.a * x + c.b) % c.p

/-- Point addition. -/
def Curve.add (c : Curve) : Pt → Pt → Pt
  | none, q => q
  | q, none => q
  | some (x1, y1), some (x2, y2) =>
    if x1 = x2 ∧ (y1 + y2) % c.p = 0 then none
    else
      let l := if x1 = x2 then (3 * x1 * x1 + c.a) * modInv (2 * y1) c.p % c.p
               else subMod y2 y1 c.p * modInv (subMod x2 x1 c.p) c.p % c.p
      let x3 := subMod (subMod (l * l % c.p) x1 c.p) x2 c.p
      some (x3, subMod (l * subMod x1 x3 c.p % c.p) y1 c.p)

/-- Scalar multiplication over the low `k` bits of the scalar, from the top. -/
def Curve.mulN (c : Curve) (d : Nat) (q : Pt) : Nat → Pt → Pt
  | 0, r => r
  | k + 1, r => c.mulN d q k (let s := c.add r r; if d.testBit k then c.add s q else s)

/-- Scalar multiplication. -/
def Curve.mul (c : Curve) (d : Nat) (q : Pt) : Pt := c.mulN d q (d.log2 + 1) none

/-- prime256v1 (R380). -/
def curveP256 : Curve :=
  { f := 32, on := 32, h := 1
    p := 0xFFFFFFFF00000001000000000000000000000000FFFFFFFFFFFFFFFFFFFFFFFF
    a := 0xFFFFFFFF00000001000000000000000000000000FFFFFFFFFFFFFFFFFFFFFFFC
    b := 0x5AC635D8AA3A93E7B3EBBD55769886BC651D06B0CC53B0F63BCE3C3E27D2604B
    gx := 0x6B17D1F2E12C4247F8BCE6E563A440F277037D812DEB33A0F4A13945D898C296
    gy := 0x4FE342E2FE1A7F9B8EE7EB4A7C0F9E162BCE33576B315ECECBB6406837BF51F5
    n := 0xFFFFFFFF00000000FFFFFFFFFFFFFFFFBCE6FAADA7179E84F3B9CAC2FC632551 }

/-- secp384r1 (R380). -/
def curveP384 : Curve :=
  { f := 48, on := 48, h := 1
    p := 0xFFFFFFFFFFFFFFFFFFFFFFFFFFFFFFFFFFFFFFFFFFFFFFFFFFFFFFFFFFFFFFFEFFFFFFFF0000000000000000FFFFFFFF
    a := 0xFFFFFFFFFFFFFFFFFFFFFFFFFFFFFFFFFFFFFFFFFFFFFFFFFFFFFFFFFFFFFFFEFFFFFFFF0000000000000000FFFFFFFC
    b := 0xB3312FA7E23EE7E4988E056BE3F82D19181D9C6EFE8141120314088F5013875AC656398D8A2ED19D2A85C8EDD3EC2AEF
    gx := 0xAA87CA22BE8B05378EB1C71EF320AD746E1D3B628BA79B9859F741E082542A385502F25DBF55296C3A545E3872760AB7
    gy := 0x3617DE4A96262C6F5D9E98BF9292DC29F8F41DBD289A147CE9DA3113B5F0B8C00A60B1CE1D7E819D7A431D7C90EA0E5F
    n := 0xFFFFFFFFFFFFFFFFFFFFFFFFFFFFFFFFFFFFFFFFFFFFFFFFC7634D81F4372DDF581A0DB248B0A77AECEC196ACCC52973 }

/-- secp521r1 (R380). -/
def curveP521 : Curve :=
  { f := 66, on := 66, h := 1
    p := 0x1FFFFFFFFFFFFFFFFFFFFFFFFFFFFFFFFFFFFFFFFFFFFFFFFFFFFFFFFFFFFFFFFFFFFFFFFFFFFFFFFFFFFFFFFFFFFFFFFFFFFFFFFFFFFFFFFFFFFFFFFFFFFFFFFFF
    a := 0x1FFFFFFFFFFFFFFFFFFFFFFFFFFFFFFFFFFFFFFFFFFFFFFFFFFFFFFFFFFFFFFFFFFFFFFFFFFFFFFFFFFFFFFFFFFFFFFFFFFFFFFFFFFFFFFFFFFFFFFFFFFFFFFFFFC
    b := 0x51953EB9618E1C9A1F929A21A0B68540EEA2DA725B99B315F3B8B489918EF109E156193951EC7E937B1652C0BD3BB1BF073573DF883D2C34F1EF451FD46B503F00
    gx := 0xC6858E06B70404E9CD9E3ECB662395B4429C648139053FB521F828AF606B4D3DBAA14B5E77EFE75928FE1DC127A2FFA8DE3348B3C1856A429BF97E7E31C2E5BD66
    gy := 0x11839296A789A3BC0045C8A5FB42C7D1BD998F54449579B446817AFBD17273E662C97EE72995EF42640C550B9013FAD0761353C7086A272C24088BE94769FD16650
    n := 0x1FFFFFFFFFFFFFFFFFFFFFFFFFFFFFFFFFFFFFFFFFFFFFFFFFFFFFFFFFFFFFFFFFA51868783BF2F966B7FCC0148F709A5D03BB5C9B8899C47AEBB6FB71E91386409 }

/-- brainpoolP256r1 (R380). -/
def curveBp256 : Curve :=
  { f := 32, on := 32, h := 1
    p := 0xA9FB57DBA1EEA9BC3E660A909D838D726E3BF623D52620282013481D1F6E5377
    a := 0x7D5A0975FC2C3057EEF67530417AFFE7FB8055C126DC5C6CE94A4B44F330B5D9
    b := 0x26DC5C6CE94A4B44F330B5D9BBD77CBF958416295CF7E1CE6BCCDC18FF8C07B6
    gx := 0x8BD2AEB9CB7E57CB2C4B482FFC81B7AFB9DE27E1E3BD23C23A4453BD9ACE3262
    gy := 0x547EF835C3DAC4FD97F8461A14611DC9C27745132DED8E545C1D54C72F046997
    n := 0xA9FB57DBA1EEA9BC3E660A909D838D718C397AA3B561A6F7901E0E82974856A7 }

/-- brainpoolP384r1 (R380). -/
def curveBp384 : Curve :=
  { f := 48, on := 48, h := 1
    p := 0x8CB91E82A3386D280F5D6F7E50E641DF152F7109ED5456B412B1DA197FB71123ACD3A729901D1A71874700133107EC53
    a := 0x7BC382C63D8C150C3C72080ACE05AFA0C2BEA28E4FB22787139165EFBA91F90F8AA5814A503AD4EB04A8C7DD22CE2826
    b := 0x4A8C7DD22CE28268B39B55416F0447C2FB77DE107DCD2A62E880EA53EEB62D57CB4390295DBC9943AB78696FA504C11
    gx := 0x1D1C64F068CF45FFA2A63A81B7C13F6B8847A3E77EF14FE3DB7FCAFE0CBD10E8E826E03436D646AAEF87B2E247D4AF1E
    gy := 0x8ABE1D7520F9C2A45CB1EB8E95CFD55262B70B29FEEC5864E19C054FF99129280E4646217791811142820341263C5315
    n := 0x8CB91E82A3386D280F5D6F7E50E641DF152F7109ED5456B31F166E6CAC0425A7CF3AB6AF6B7FC3103B883202E9046565 }

/-- The first `k` bits of a byte string, as a number. -/
def bits2int (k : Nat) (bs : List Byte) : Nat := ofBE bs / 2 ^ (8 * bs.length - k)

/-- The bit length of a number. -/
def bitLen (n : Nat) : Nat := if n = 0 then 0 else n.log2 + 1

/-- HMAC_DRBG of RFC 6979: blocks of T of at least `n` bytes, from K and V. -/
def rfc6979T (alg : Nat) (k : List Byte) (n : Nat) : Nat → List Byte → List Byte × List Byte
  | 0, v => ([], v)
  | j + 1, v =>
    if n = 0 then ([], v) else
    let v' := hmac alg k v
    let r := rfc6979T alg k (n - v'.length) j v'
    (v' ++ r.1, r.2)

/-- The search of RFC 6979 for k in range that makes a signature: `try` answers the signature or none. -/
def rfc6979Loop {α : Type} (alg q : Nat) (use : Nat → Option α) : Nat → List Byte → List Byte → Option α
  | 0, _, _ => none
  | j + 1, k, v =>
    let t := rfc6979T alg k ((bitLen q + 7) / 8) 8 v
    let c := bits2int (bitLen q) t.1
    let again := let k' := hmac alg k (t.2 ++ [0]); rfc6979Loop alg q use j k' (hmac alg k' t.2)
    if 1 ≤ c ∧ c < q then (match use c with | some s => some s | none => again) else again

/-- The nonce generation of RFC 6979 with additional data (section 3.6). -/
def rfc6979 {α : Type} (alg q x : Nat) (h1 extra : List Byte) (use : Nat → Option α) : Option α :=
  let rl := (bitLen q + 7) / 8
  let seed := toBE rl x ++ toBE rl (bits2int (min (bitLen q) (8 * h1.length)) h1 % q) ++ extra
  let k0 := List.replicate (shaLen alg) (0 : Byte)
  let v0 := List.replicate (shaLen alg) (1 : Byte)
  let k1 := hmac alg k0 (v0 ++ [0] ++ seed)
  let v1 := hmac alg k1 v0
  let k2 := hmac alg k1 (v1 ++ [1] ++ seed)
  rfc6979Loop alg q use 64 k2 (hmac alg k2 v1)

/-- The digest as a number, truncated to the bit length of n (R387). -/
def ecdsaE (c : Curve) (dig : List Byte) : Nat := bits2int (min (bitLen c.n) (8 * dig.length)) dig

/-- The ECDSA signature with nonce `k`, if it is one. -/
def ecdsaWith (c : Curve) (d : Nat) (dig : List Byte) (k : Nat) : Option (Nat × Nat) :=
  match c.mul k c.g with
  | none => none
  | some (x, _) =>
    let r := x % c.n
    let s := modInv k c.n * ((ecdsaE c dig + r * d) % c.n) % c.n
    if r = 0 ∨ s = 0 then none else some (r, s)

/-- ECDSA signing, hedged with additional data. -/
def ecdsaSign (c : Curve) (alg d : Nat) (dig extra : List Byte) : Option (Nat × Nat) :=
  rfc6979 alg c.n d dig extra (ecdsaWith c d dig)

/-- ECDSA verification of r and s in range under a point of the curve. -/
def ecdsaVerify (c : Curve) (q : Pt) (dig : List Byte) (r s : Nat) : Bool :=
  if r = 0 ∨ c.n ≤ r ∨ s = 0 ∨ c.n ≤ s then false else
  let w := modInv s c.n
  match c.add (c.mul (ecdsaE c dig * w % c.n) c.g) (c.mul (r * w % c.n) q) with
  | none => false
  | some (x, _) => x % c.n == r

/-- A public point in SEC 1 uncompressed form (R381, R390): on the curve, and of order n for a cofactor above 1. -/
def Curve.point (c : Curve) (bs : List Byte) : Option (Nat × Nat) :=
  let x := ofBE (sliceB bs 1 c.f)
  let y := ofBE (sliceB bs (1 + c.f) c.f)
  if bs.length = 1 + 2 * c.f ∧ bs.headD 0 = 4 ∧ x < c.p ∧ y < c.p ∧ c.on? x y
      ∧ (c.h = 1 ∨ c.mul c.n (some (x, y)) = none) then some (x, y) else none

/-- A point in SEC 1 uncompressed form. -/
def Curve.enc (c : Curve) (x y : Nat) : List Byte := 4 :: (toBE c.f x ++ toBE c.f y)

/-! ### Curve25519 -/

/-- 2²⁵⁵ − 19. -/
def p25519 : Nat := 2 ^ 255 - 19
/-- The order L of the base point of Ed25519. -/
def l25519 : Nat := 2 ^ 252 + 27742317777372353535851937790883648493
/-- The constant d of Ed25519. -/
def edD : Nat := subMod 0 (121665 * modInv 121666 p25519 % p25519) p25519

/-- Addition on Ed25519. -/
def edAdd (a b : Nat × Nat) : Nat × Nat :=
  let p := p25519
  let t := edD * a.1 % p * b.1 % p * a.2 % p * b.2 % p
  ((a.1 * b.2 + a.2 * b.1) % p * modInv (1 + t) p % p, (a.2 * b.2 + a.1 * b.1) % p * modInv (subMod 1 t p) p % p)

/-- Scalar multiplication over the low `k` bits, from the top. -/
def edMulN (d : Nat) (q : Nat × Nat) : Nat → Nat × Nat → Nat × Nat
  | 0, r => r
  | k + 1, r => edMulN d q k (let s := edAdd r r; if d.testBit k then edAdd s q else s)

/-- Scalar multiplication. -/
def edMul (d : Nat) (q : Nat × Nat) : Nat × Nat := edMulN d q (d.log2 + 1) (0, 1)

/-- The x of a y with a sign bit (RFC 8032, 5.1.3); none where no x exists or x = 0 with the sign set. -/
def edX (y sign : Nat) : Option Nat :=
  let p := p25519
  let u := subMod (y * y) 1 p
  let x2 := u * modInv ((edD * (y * y % p) + 1) % p) p % p
  let x := powMod x2 ((p + 3) / 8) p
  let x' := if x * x % p = x2 then some x
            else let z := x * powMod 2 ((p - 1) / 4) p % p
                 if z * z % p = x2 then some z else none
  match x' with
  | none => none
  | some x => if x = 0 ∧ sign = 1 then none else some (if x % 2 = sign then x else (p - x) % p)

/-- Decode a point of Ed25519; y at or above p is refused. -/
def edDecode (bs : List Byte) : Option (Nat × Nat) :=
  let v := ofLE bs
  let y := v % 2 ^ 255
  if bs.length = 32 ∧ y < p25519 then (edX y (v / 2 ^ 255)).map (fun x => (x, y)) else none

/-- Encode a point of Ed25519. -/
def edEncode (q : Nat × Nat) : List Byte := toLE 32 (q.2 + q.1 % 2 * 2 ^ 255)

/-- The base point of Ed25519. -/
def edB : Nat × Nat := let y := 4 * modInv 5 p25519 % p25519; ((edX y 0).getD 0, y)

/-- Clamp a scalar of Curve25519. -/
def clamp (v : Nat) : Nat := v % 2 ^ 254 / 8 * 8 + 2 ^ 254

/-- The secret scalar and prefix of an Ed25519 seed. -/
def edSecret (seed : List Byte) : Nat × List Byte := let h := sha512 seed; (clamp (ofLE (h.take 32)), h.drop 32)

/-- The public key of an Ed25519 seed. -/
def edPublic (seed : List Byte) : List Byte := edEncode (edMul (edSecret seed).1 edB)

/-- Ed25519 signing. -/
def edSign (seed m : List Byte) : List Byte :=
  let s := edSecret seed
  let a := edPublic seed
  let r := ofLE (sha512 (s.2 ++ m)) % l25519
  let rB := edEncode (edMul r edB)
  let k := ofLE (sha512 (rB ++ a ++ m)) % l25519
  rB ++ toLE 32 ((r + k * s.1) % l25519)

/-- A point of small order: eight times it is the identity. -/
def edSmall (q : Nat × Nat) : Bool := edMul 8 q == (0, 1)

/-- Ed25519 verification by the cofactored equation, R not of small order (R387, R390). -/
def edVerify (a : Nat × Nat) (aB m sig : List Byte) : Bool :=
  let s := ofLE (sig.drop 32)
  match edDecode (sig.take 32) with
  | none => false
  | some r =>
    if edSmall r ∨ l25519 ≤ s then false else
    let k := ofLE (sha512 (sig.take 32 ++ aB ++ m)) % l25519
    edMul 8 (edMul s edB) == edMul 8 (edAdd r (edMul k a))

/-- One step of the Montgomery ladder of X25519 on (x2, z2, x3, z3). -/
def ladStep (x1 : Nat) (s : Nat × Nat × Nat × Nat) : Nat × Nat × Nat × Nat :=
  let p := p25519
  let a := (s.1 + s.2.1) % p
  let b := subMod s.1 s.2.1 p
  let aa := a * a % p
  let bb := b * b % p
  let e := subMod aa bb p
  let c := (s.2.2.1 + s.2.2.2) % p
  let d := subMod s.2.2.1 s.2.2.2 p
  let da := d * a % p
  let cb := c * b % p
  let u := (da + cb) % p
  let v := subMod da cb p
  (aa * bb % p, e * ((aa + 121665 * e) % p) % p, u * u % p, x1 * (v * v % p) % p)

/-- The ladder over the low `n` bits of the scalar, from the top. -/
def ladder (k x1 : Nat) : Nat → Nat × Nat × Nat × Nat → Nat × Nat × Nat × Nat
  | 0, s => s
  | n + 1, s =>
    let sw (s : Nat × Nat × Nat × Nat) : Nat × Nat × Nat × Nat :=
      if k.testBit n then (s.2.2.1, s.2.2.2, s.1, s.2.1) else s
    ladder k x1 n (sw (ladStep x1 (sw s)))

/-- X25519 of a scalar and a u (RFC 7748). -/
def x25519 (k u : List Byte) : List Byte :=
  let x1 := ofLE u % 2 ^ 255 % p25519
  let s := ladder (clamp (ofLE k)) x1 255 (1, 0, x1, 1)
  toLE 32 (s.1 * powMod s.2.1 (p25519 - 2) p25519 % p25519)

/-- The public u of an X25519 scalar. -/
def x25519Public (k : List Byte) : List Byte := x25519 k (toLE 32 9)

/-! ### RSA (RFC 8017) -/

/-- An RSA private key as a PKO holds it (R382). -/
structure RsaKey where
  n : Nat
  e : Nat
  p : Nat
  q : Nat
  dP : Nat
  dQ : Nat
  qInv : Nat
  deriving DecidableEq, Repr

/-- The private operation by CRT. -/
def RsaKey.priv (k : RsaKey) (c : Nat) : Nat :=
  let m1 := powMod c k.dP k.p
  let m2 := powMod c k.dQ k.q
  m2 + k.q * (k.qInv * subMod m1 m2 k.p % k.p)

/-- MGF1 with a digest. -/
def mgf1 (alg : Nat) (seed : List Byte) (n : Nat) : List Byte :=
  ((List.range (n / shaLen alg + 1)).flatMap (fun i => sha alg (seed ++ toBE 4 i))).take n

/-- The DigestInfo prefix of SHA-256, SHA-384 or SHA-512. -/
def digestInfo (alg : Nat) : List Byte :=
  let l := BitVec.ofNat 8 (shaLen alg)
  [0x30, l + 17, 0x30, 0x0D, 0x06, 0x09, 0x60, 0x86, 0x48, 0x01, 0x65, 0x03, 0x04, 0x02, BitVec.ofNat 8 alg, 0x05, 0x00,
   0x04, l]

/-- EMSA-PKCS1-v1_5 of a digest in `k` bytes. -/
def pkcs1Enc (alg k : Nat) (dig : List Byte) : List Byte :=
  let t := digestInfo alg ++ dig
  [0, 1] ++ List.replicate (k - t.length - 3) 0xFF ++ [0] ++ t

/-- EMSA-PSS of a digest with a salt, in `k` bytes of a modulus of 8k bits. -/
def pssEnc (alg k : Nat) (dig salt : List Byte) : List Byte :=
  let h := sha alg (zeros 8 ++ dig ++ salt)
  let db := zeros (k - salt.length - h.length - 2) ++ [1] ++ salt
  let m := xorB db (mgf1 alg h db.length)
  (m.headD 0 &&& 0x7F) :: m.drop 1 ++ h ++ [0xBC]

/-- EMSA-PSS verification with a salt of the digest length. -/
def pssOk (alg k : Nat) (dig em : List Byte) : Bool :=
  let hl := shaLen alg
  let md := em.take (k - hl - 1)
  let h := sliceB em (k - hl - 1) hl
  let db := xorB md (mgf1 alg h md.length)
  let db' := (db.headD 0 &&& 0x7F) :: db.drop 1
  let salt := db'.drop (db'.length - hl)
  em.drop (k - 1) == [0xBC] && (md.headD 0).toNat < 128 && allZero (db'.take (db'.length - hl - 1))
    && sliceB db' (db'.length - hl - 1) 1 == [1] && sha alg (zeros 8 ++ dig ++ salt) == h

/-- EME-OAEP of a message with a seed and an empty label. -/
def oaepEnc (alg k : Nat) (m seed : List Byte) : List Byte :=
  let hl := shaLen alg
  let db := sha alg [] ++ zeros (k - m.length - 2 * hl - 2) ++ [1] ++ m
  let mdb := xorB db (mgf1 alg seed db.length)
  0 :: xorB seed (mgf1 alg mdb hl) ++ mdb

/-- EME-OAEP decoding. -/
def oaepDec (alg : Nat) (em : List Byte) : Option (List Byte) :=
  let hl := shaLen alg
  let ms := sliceB em 1 hl
  let mdb := em.drop (1 + hl)
  let seed := xorB ms (mgf1 alg mdb hl)
  let db := xorB mdb (mgf1 alg seed mdb.length)
  let rest := (db.drop hl).dropWhile (· == 0)
  if em.headD 1 = 0 ∧ db.take hl = sha alg [] ∧ rest.headD 0 = 1 then some (rest.drop 1) else none

/-! ### DER (RFC 5958) -/

/-- One DER element: its tag, its content and what follows it. Its length takes as few bytes as it can. -/
def derTake (bs : List Byte) : Option (Nat × List Byte × List Byte) :=
  match bs with
  | t :: l :: rest =>
    if l.toNat < 128 then
      (if l.toNat ≤ rest.length then some (t.toNat, rest.take l.toNat, rest.drop l.toNat) else none)
    else
      let k := l.toNat - 128
      let n := ofBE (rest.take k)
      let body := rest.drop k
      if 1 ≤ k ∧ k ≤ 3 ∧ 128 ≤ n ∧ 256 ^ (k - 1) ≤ n ∧ n ≤ body.length then some (t.toNat, body.take n, body.drop n) else none
  | _ => none

/-- The elements of a DER content, at most `k`. -/
def derList : Nat → List Byte → Option (List (Nat × List Byte))
  | 0, bs => if bs.isEmpty then some [] else none
  | k + 1, bs =>
    if bs.isEmpty then some [] else
    match derTake bs with
    | none => none
    | some (t, c, rest) => (derList k rest).map ((t, c) :: ·)

/-- The content of a sequence as its elements. -/
def derSeq (bs : List Byte) : Option (List (Nat × List Byte)) :=
  match derTake bs with
  | some (0x30, c, []) => derList 12 c
  | _ => none

/-- The number that the content of a DER INTEGER gives, where it is not negative and takes as few bytes as it can. -/
def derUint (b : List Byte) : Option Nat :=
  match b with
  | [] => none
  | [x] => if x.toNat < 128 then some x.toNat else none
  | x :: y :: _ => if x.toNat < 128 ∧ (x ≠ 0 ∨ 128 ≤ y.toNat) then some (ofBE b) else none

/-- The object identifier of a named curve of R380. -/
def curveOid (code : Nat) : List Byte :=
  match code with
  | 1 => [0x2A, 0x86, 0x48, 0xCE, 0x3D, 0x03, 0x01, 0x07]
  | 2 => [0x2B, 0x81, 0x04, 0x00, 0x22]
  | 3 => [0x2B, 0x81, 0x04, 0x00, 0x23]
  | 4 => [0x2B, 0x24, 0x03, 0x03, 0x02, 0x08, 0x01, 0x01, 0x07]
  | 5 => [0x2B, 0x24, 0x03, 0x03, 0x02, 0x08, 0x01, 0x01, 0x0B]
  | _ => []

/-- The bytes of a DER bit string that has no unused bits. -/
def derBits (b : List Byte) : Option (List Byte) := if b.headD 1 = 0 then some (b.drop 1) else none

/-- A PrivateKeyInfo (RFC 5958): the algorithm's OID and parameters, the private key's octets, and the public key where the
second version carries one. -/
structure Pkcs8 where
  oid : List Byte
  params : List (Nat × List Byte)
  key : List Byte
  pub : Option (List Byte)

/-- What follows the private key: attributes, then the public key (its bits), which only the second version has. -/
def pkcs8Tail (ver : List Byte) : List (Nat × List Byte) → Option (Option (List Byte))
  | [] => if ver = [0] ∨ ver = [1] then some none else none
  | [(0xA0, _)] => if ver = [0] ∨ ver = [1] then some none else none
  | [(0x81, b)] => if ver = [1] then (derBits b).map some else none
  | [(0xA0, _), (0x81, b)] => if ver = [1] then (derBits b).map some else none
  | _ => none

/-- Read a PrivateKeyInfo. -/
def pkcs8 (bs : List Byte) : Option Pkcs8 :=
  match derSeq bs with
  | some ((0x02, ver) :: (0x30, alg) :: (0x04, key) :: rest) =>
    match derList 3 alg, pkcs8Tail ver rest with
    | some ((0x06, oid) :: ps), some pub => some { oid := oid, params := ps, key := key, pub := pub }
    | _, _ => none
  | _ => none

/-- What follows the scalar of an ECPrivateKey: the curve's OID and the public point, where they are there. -/
def derEcTail : List (Nat × List Byte) → Option (Option (List Byte) × Option (List Byte))
  | [] => some (none, none)
  | [(0xA0, c)] => (match derTake c with | some (0x06, o, []) => some (some o, none) | _ => none)
  | [(0xA1, c)] => (match derTake c with | some (0x03, b, []) => (derBits b).map (fun p => (none, some p)) | _ => none)
  | [(0xA0, c), (0xA1, e)] =>
    (match derTake c, derTake e with
     | some (0x06, o, []), some (0x03, b, []) => (derBits b).map (fun p => (some o, some p))
     | _, _ => none)
  | _ => none

/-- The curve's OID, the octets of the private scalar, and the public points that are carried, of an elliptic-curve PrivateKeyInfo
with a named curve. -/
def derEc (bs : List Byte) : Option (List Byte × List Byte × List (List Byte)) :=
  match pkcs8 bs with
  | none => none
  | some k =>
    match k.params, derSeq k.key with
    | [(0x06, oid)], some ((0x02, ver) :: (0x04, d) :: rest) =>
      (match derEcTail rest with
       | some (o, pub) =>
         if k.oid = [0x2A, 0x86, 0x48, 0xCE, 0x3D, 0x02, 0x01] ∧ ver = [1] ∧ o.getD oid = oid then
           some (oid, d, pub.toList ++ k.pub.toList) else none
       | none => none)
    | _, _ => none

/-- The 32-byte private key of an Ed25519 (0x70) or X25519 (0x6E) PrivateKeyInfo (RFC 8410), and its public key where that is
carried. -/
def der25519 (last : Byte) (bs : List Byte) : Option (List Byte × Option (List Byte)) :=
  match pkcs8 bs with
  | none => none
  | some k =>
    match derTake k.key with
    | some (0x04, d, []) => if k.oid = [0x2B, 0x65, last] ∧ k.params.isEmpty ∧ d.length = 32 then some (d, k.pub) else none
    | _ => none

/-- The numbers of elements that are all INTEGERs. -/
def derUints (es : List (Nat × List Byte)) : Option (List Nat) := es.mapM (fun e => if e.1 = 2 then derUint e.2 else none)

/-- The components of an RSA PrivateKeyInfo, whose algorithm has NULL parameters (RFC 8017): every CRT component must be there, and a public key that is carried must be its
own. -/
def derRsa (bs : List Byte) : Option RsaKey :=
  match pkcs8 bs with
  | none => none
  | some k =>
    match (derSeq k.key).bind derUints with
    | some [ver, n, e, _, p, q, dp, dq, qi] =>
      let own : Bool := match k.pub with
        | none => true
        | some b => (derSeq b).bind derUints == some [n, e]
      if k.oid = [0x2A, 0x86, 0x48, 0x86, 0xF7, 0x0D, 0x01, 0x01, 0x01] ∧ k.params = [(0x05, [])] ∧ ver = 0 ∧ own then
        some { n := n, e := e, p := p, q := q, dP := dp, dQ := dq, qInv := qi }
      else none
    | _ => none

end Sys2Proof.Machine
end

