-- ==== Sys2Proof/Machine/Identity.lean ====
section
/-!
DEFINITION. Sys2Proof/Machine/Identity.lean: public keys of private ones, and the identity of the device
(spec/05_structure_bitstream.md, STB_DEVID).
-/

namespace Sys2Proof.Machine

/-- The public key of a private one, uncompressed. -/
def pubOf (c : Curve) (d : Nat) : List Byte := match c.mul d c.g with | some (x, y) => c.enc x y | none => []

/-- STB_DEVID: the low 64 bits of the SHA-384 of the device identity public key, the digest read as FIPS 180-4 writes it, its
first byte the highest (DESIGN CHOICE, log 14: R136 does not say which end is low). -/
def devId : Nat := ofBE (sha 2 (pubOf curveP384 Config.identityKey)) % 2 ^ 64

end Sys2Proof.Machine
end

