-- ==== Sys2Proof/Machine/Net.lean ====
section
/-!
DEFINITION. Sys2Proof/Machine/Net.lean: NET (spec/15_network_federation.md R453 to R459): links, the filter of received
frames, the answers of ARP, ND and echo, neighbours, frames and datagrams as they leave, and the choice of the egress
scheduler (R475); commands LINK_DOWN, LINK_UP, ARP_REQUEST, NEIGHBOUR_SOLICITATION, ECHO_REQUEST, NEIGHBOUR_TIMEOUT
and NEIGHBOUR_EXPIRY.
-/

namespace Sys2Proof.Machine

/-- Change NET. -/
def State.setNet (s : State) (n : Net) : State := { s with net := n }

/-! ### The NETWORK section (R463) -/

/-- The link entries of a NETWORK section. -/
def netLinks (sec : List Byte) : List (List Byte) :=
  (List.range (fld sec 8 1)).map (fun i => sliceB sec (0x10 + 64 * i) 64)

/-- The entry of link `k`. -/
def State.linkEntry (s : State) (k : Nat) : Option (List Byte) := (netLinks s.net.section_).find? (fun e => fld e 0 1 == k)

/-- The SHA-384 anchors of the peer CAs. -/
def netPeer (sec : List Byte) (i : Nat) : List Byte := sliceB sec (0x10 + 64 * fld sec 8 1 + 48 * i) 48

/-- CHAIN_D, the device's own chain. -/
def netChain (sec : List Byte) : List Byte :=
  sliceB sec (0x10 + 64 * fld sec 8 1 + 48 * fld sec 9 1) (fld sec 0x0A 2)

/-- A link entry: IPv4 present, IPv6 present, tagged, and the parts of its identity. -/
def leV4 (e : List Byte) : Bool := bitOf (fld e 1 1) 0
/-- IPv6 present. -/
def leV6 (e : List Byte) : Bool := bitOf (fld e 1 1) 1
/-- Tagged. -/
def leTag (e : List Byte) : Bool := bitOf (fld e 1 1) 2
/-- The MAC address. -/
def leMac (e : List Byte) : List Byte := sliceB e 4 6
/-- The IPv4 address. -/
def leIp4 (e : List Byte) : List Byte := sliceB e 12 4
/-- The IPv6 address. -/
def leIp6 (e : List Byte) : List Byte := sliceB e 16 16
/-- The link-local address with the modified EUI-64 of the MAC (R457). -/
def leLocal (e : List Byte) : List Byte :=
  let m := leMac e
  [0xFE, 0x80] ++ zeros 6 ++ [(m.getD 0 0) ^^^ 2] ++ sliceB m 1 2 ++ [0xFF, 0xFE] ++ sliceB m 3 3

/-- The addresses of a link. -/
def leAddrs (e : List Byte) : List (List Byte) :=
  (if leV4 e then [leIp4 e] else []) ++ (if leV6 e then [leIp6 e, leLocal e] else [])

/-- The solicited-node group of an IPv6 address (RFC 4291), and its MAC address. -/
def solicited (ip : List Byte) : List Byte :=
  [0xFF, 0x02] ++ zeros 9 ++ [1, 0xFF] ++ sliceB ip 13 3
/-- The MAC address of an IPv6 multicast group (RFC 2464). -/
def groupMac (ip : List Byte) : List Byte := [0x33, 0x33] ++ sliceB ip 12 4

/-! ### Sums -/

/-- CRC-32 of Ethernet, bit by bit. -/
def crcByte (c : Nat) (b : Byte) : Nat :=
  (List.range 8).foldl (fun c _ => if c % 2 = 1 then (c / 2) ^^^ 0xEDB88320 else c / 2) (c ^^^ b.toNat)
/-- The FCS of a frame (IEEE 802.3). -/
def crc32 (bs : List Byte) : Nat := (bs.foldl crcByte 0xFFFFFFFF) ^^^ 0xFFFFFFFF

/-- The sum of 16-bit big-endian words, an odd byte padded. -/
def sum16 : List Byte → Nat
  | [] => 0
  | [a] => a.toNat * 256
  | a :: b :: t => a.toNat * 256 + b.toNat + sum16 t
/-- Fold the carries of a one's complement sum. -/
def fold16 (v : Nat) : Nat :=
  let a := v % 65536 + v / 65536
  let b := a % 65536 + a / 65536
  b % 65536 + b / 65536
/-- The internet checksum (RFC 1071). -/
def inetSum (bs : List Byte) : Nat := 65535 - fold16 (sum16 bs)

/-- The pseudo-header of UDP and ICMPv6: both addresses, the length and the protocol. -/
def pseudo (src dst : List Byte) (proto len : Nat) : List Byte :=
  if src.length = 4 then src ++ dst ++ [0, BitVec.ofNat 8 proto] ++ toBE 2 len
  else src ++ dst ++ toBE 4 len ++ [0, 0, 0, BitVec.ofNat 8 proto]

/-! ### Frames as they leave (R458, R459) -/

/-- An Ethernet frame: addresses, the link's tag, EtherType and payload, padded to 64 bytes with its FCS. -/
def ethFrame (e dst : List Byte) (etype : Nat) (pay : List Byte) : List Byte :=
  let h := dst ++ leMac e ++ (if leTag e then [0x81, 0x00] ++ toBE 2 (fld e 2 2) else []) ++ toBE 2 etype
  let f := h ++ pay
  let f := f ++ zeros (60 - f.length)
  f ++ toLE 4 (crc32 f)

/-- An IP packet: IPv4 with DF and TTL 64, or IPv6 with hop limit `hop` (R458). -/
def ipPacket (src dst : List Byte) (proto hop : Nat) (pay : List Byte) : List Byte :=
  if src.length = 4 then
    let h0 : List Byte := [0x45, 0] ++ toBE 2 (20 + pay.length) ++ [0, 0, 0x40, 0, BitVec.ofNat 8 hop, BitVec.ofNat 8 proto]
    let c := inetSum (h0 ++ [0, 0] ++ src ++ dst)
    h0 ++ toBE 2 c ++ src ++ dst ++ pay
  else
    [0x60, 0, 0, 0] ++ toBE 2 pay.length ++ [BitVec.ofNat 8 proto, BitVec.ofNat 8 hop] ++ src ++ dst ++ pay

/-- The address of a link from which a packet to `ip` is sent: of its version, link-local to a link-local address. -/
def leSource (e ip : List Byte) : List Byte :=
  if ip.length = 4 then leIp4 e
  else if sliceB ip 0 2 = [0xFE, 0x80] then leLocal e else leIp6 e

/-- An IP packet in its frame. -/
def ipFrame (e mac src dst : List Byte) (proto hop : Nat) (pay : List Byte) : List Byte :=
  ethFrame e mac (if src.length = 4 then 0x0800 else 0x86DD) (ipPacket src dst proto hop pay)

/-- A UDP datagram from the device's port, its checksum always computed. -/
def udpFrame (e : List Byte) (p : Peer) (port : Nat) (pay : List Byte) : List Byte :=
  let src := leSource e p.ip
  let n := 8 + pay.length
  let h := toBE 2 port ++ toBE 2 p.port ++ toBE 2 n
  let c := inetSum (pseudo src p.ip 17 n ++ h ++ [0, 0] ++ pay)
  ipFrame e p.mac src p.ip 17 64 (h ++ toBE 2 (if c = 0 then 0xFFFF else c) ++ pay)

/-- Body bytes of a datagram, F (R459). -/
def State.fragLen (s : State) (ip : List Byte) : Nat := s.get R.NET_UDP_MTU - (if ip.length = 4 then 20 else 40) - 48

/-- Wire bytes of a datagram beside its body (R459). -/
def wireOver (tagged v6 : Bool) : Nat := (if tagged then 110 else 106) + (if v6 then 20 else 0)

/-- Wire size of a Wyward link message of n bytes to a peer (R459). -/
def State.wireSize (s : State) (p : Peer) (n : Nat) : Nat :=
  let f := s.fragLen p.ip
  let tagged := match s.linkEntry p.link with | some e => leTag e | none => false
  n + max 1 ((n + (f - 1)) / f) * wireOver tagged (p.ip.length == 16)

/-- Queue a message for egress, after those created before it (R475). -/
def State.send (s : State) (m : TxMsg) : State := s.setNet { s.net with tx := s.net.tx ++ [m] }

/-- Queue one ready frame (R457). -/
def State.sendRaw (s : State) (link : Nat) (f : List Byte) : State := s.send { peer := { link := link }, prio := 4, raw := f }

/-! ### Links (R455) -/

/-- A link loses training, alignment or FEC lock: it is down at once. -/
def State.linkDown (s : State) (k : Nat) : State :=
  if k < 16 ∧ (s.get R.NET_LINK_UP).testBit k then
    ((s.set R.NET_LINK_UP (s.get R.NET_LINK_UP - 2 ^ k)).count (R.NET_DOWNS_COUNT k)).cause R.NET_EVENTS_CAUSE 256 256
  else s

/-- A port's mode gives link `k` (R453). -/
def State.linkExists (s : State) (k : Nat) : Bool :=
  let m := s.get (R.NET_PORT_MODE_MODE (k / 4))
  decide (k < 16) && (m == 3 || m == 4 || ((m == 1 || m == 2) && k % 4 == 0))

/-- The SerDes are off: from step 4 of an entry into DEEP to step 4 of the exit (R104, R105). -/
def State.linksDark (s : State) : Bool :=
  match s.pwr.seq with
  | .deep k => decide (4 < k)
  | .exit k done => decide (4 ≤ done) && decide (k < 4)
  | _ => false

/-- A link finishes training; none does while the SerDes are off. -/
def State.linkUp (s : State) (k : Nat) : State :=
  if s.linkExists k ∧ ¬ s.linksDark ∧ ¬ (s.get R.NET_LINK_UP).testBit k then
    (s.set R.NET_LINK_UP (s.get R.NET_LINK_UP + 2 ^ k)).cause R.NET_EVENTS_CAUSE 256 257
  else s

/-! ### Receiving (R456) -/

/-- An IP packet taken apart: addresses, protocol and payload; none where R456 drops it. -/
def ipOpen (etype : Nat) (p : List Byte) : Option (List Byte × List Byte × Nat × List Byte) :=
  if etype = 0x0800 then
    let n := ofBE (sliceB p 2 2)
    if fld p 0 1 = 0x45 ∧ 20 ≤ n ∧ n ≤ p.length ∧ fold16 (sum16 (p.take 20)) = 65535
        ∧ ofBE (sliceB p 6 2) % 0x4000 = 0 then
      some (sliceB p 12 4, sliceB p 16 4, fld p 9 1, sliceB p 20 (n - 20))
    else none
  else if etype = 0x86DD then
    let n := ofBE (sliceB p 4 2)
    if fld p 0 1 / 16 = 6 ∧ 40 + n ≤ p.length then some (sliceB p 8 16, sliceB p 24 16, fld p 6 1, sliceB p 40 n) else none
  else none

/-- What a frame turns out to be: dropped, a UDP datagram for SES, a request to answer, the address of a neighbour, or
a frame that is accepted and asks for nothing. -/
inductive RxFrame where
  | drop | udp (p : Peer) (pay : List Byte) | req (kind : Nat) | neighbour (ip mac : List Byte) | other

/-- The Ethernet header of a frame: destination, source, tag, EtherType and payload. -/
def ethOpen (f : List Byte) : List Byte × List Byte × Option Nat × Nat × List Byte :=
  if ofBE (sliceB f 12 2) = 0x8100 then
    (sliceB f 0 6, sliceB f 6 6, some (ofBE (sliceB f 14 2) % 4096), ofBE (sliceB f 16 2), f.drop 18)
  else (sliceB f 0 6, sliceB f 6 6, none, ofBE (sliceB f 12 2), f.drop 14)

/-- The destination is acceptable: the link's MAC, broadcast for ARP, or an ND group of the link. -/
def dstOk (e dst : List Byte) (etype : Nat) : Bool :=
  dst == leMac e || (dst == List.replicate 6 0xFF && etype == 0x0806)
    || (leV6 e && (dst == groupMac (solicited (leIp6 e)) || dst == groupMac (solicited (leLocal e))))

/-- An ARP payload: a request for the device's address, a reply that names a neighbour, or neither. -/
def arpFrame (e p : List Byte) : RxFrame :=
  if ¬ leV4 e ∨ sliceB p 0 6 ≠ [0, 1, 8, 0, 6, 4] ∨ sliceB p 24 4 ≠ leIp4 e then .drop
  else if ofBE (sliceB p 6 2) = 1 then .req 1
  else if ofBE (sliceB p 6 2) = 2 then .neighbour (sliceB p 14 4) (sliceB p 8 6)
  else .other

/-- An ICMP or ICMPv6 message. -/
def icmpFrame (src dst : List Byte) (proto : Nat) (p : List Byte) : RxFrame :=
  let sum := if proto = 1 then sum16 p else sum16 (pseudo src dst 58 p.length ++ p)
  if fold16 sum ≠ 65535 then .drop
  else if (proto = 1 ∧ fld p 0 1 = 8) ∨ (proto = 58 ∧ fld p 0 1 = 128) then .req 3
  else if proto = 58 ∧ fld p 0 1 = 135 then .req 2
  else if proto = 58 ∧ fld p 0 1 = 136 ∧ fld p 24 1 = 2 then .neighbour (sliceB p 8 16) (sliceB p 26 6)
  else .other

/-- The filter of R456 on a frame with its FCS, for a link's entry. -/
def State.filterFrame (s : State) (k : Nat) (e f : List Byte) : RxFrame :=
  let n := f.length
  let h := ethOpen f
  let pay := h.2.2.2.2.take (h.2.2.2.2.length - 4)
  let etype := h.2.2.2.1
  if n < 64 ∨ toLE 4 (crc32 (f.take (n - 4))) ≠ f.drop (n - 4) then .drop
  else if s.get R.NET_UDP_MTU + (if leTag e then 22 else 18) < n then .drop
  else if ¬ dstOk e h.1 etype then .drop
  else if h.2.2.1 ≠ (if leTag e then some (fld e 2 2) else none) then .drop
  else if etype = 0x0806 then arpFrame e pay
  else
    match ipOpen etype pay with
    | none => .drop
    | some (src, dst, proto, p) =>
      let nd := proto = 58 ∧ fld p 0 1 = 135 ∧ (dst = solicited (leIp6 e) ∨ dst = solicited (leLocal e)) ∧ leV6 e
      if ¬ (leAddrs e).contains dst ∧ ¬ nd then .drop
      else if (proto = 1 ∧ src.length = 4) ∨ (proto = 58 ∧ src.length = 16) then icmpFrame src dst proto p
      else if proto ≠ 17 then .drop
      else
        let c := ofBE (sliceB p 6 2)
        let len := ofBE (sliceB p 4 2)
        if len < 8 ∨ p.length < len then .drop
        else if c = 0 ∧ src.length = 16 then .drop
        else if c ≠ 0 ∧ fold16 (sum16 (pseudo src dst 17 len ++ p.take len)) ≠ 65535 then .drop
        else if ofBE (sliceB p 2 2) ≠ s.get R.NET_UDP_PORT then .drop
        else .udp { link := k, mac := h.2.1, ip := src, port := ofBE (sliceB p 0 2) } (sliceB p 8 (len - 8))

/-- Count a dropped frame. -/
def State.netDrop (s : State) (k : Nat) : State := s.count (R.NET_DROP_COUNT k)

/-! ### Neighbours (R457) -/

/-- The next hop to an address on a link: the address itself, or the gateway of its version. -/
def nextHop (e ip : List Byte) : List Byte :=
  let bits (bs : List Byte) (n : Nat) : Nat := ofBE bs / 2 ^ (8 * bs.length - n)
  if ip.length = 4 then
    (if bits ip (fld e 10 1) = bits (leIp4 e) (fld e 10 1) then ip else sliceB e 32 4)
  else if sliceB ip 0 2 = [0xFE, 0x80] ∨ bits ip (fld e 11 1) = bits (leIp6 e) (fld e 11 1) then ip
  else sliceB e 48 16

/-- The frame that asks for a neighbour: an ARP request or a neighbour solicitation. -/
def askFrame (e ip : List Byte) : List Byte :=
  if ip.length = 4 then
    ethFrame e (List.replicate 6 0xFF) 0x0806
      ([0, 1, 8, 0, 6, 4, 0, 1] ++ leMac e ++ leIp4 e ++ zeros 6 ++ ip)
  else
    let src := leSource e ip
    let g := solicited ip
    let m : List Byte := zeros 4 ++ ip ++ [1, 1] ++ leMac e
    let c := inetSum (pseudo src g 58 32 ++ [135, 0, 0, 0] ++ m)
    ipFrame e (groupMac g) src g 58 255 ([135, 0] ++ toBE 2 c ++ m)

/-- Send a message to a peer whose MAC is not known yet: by the neighbour table, or once the next hop is resolved. -/
def State.sendVia (s : State) (m : TxMsg) : State :=
  match s.linkEntry m.peer.link with
  | none => s
  | some e =>
    let hop := nextHop e m.peer.ip
    match s.net.neigh.find? (fun n => n.link == m.peer.link && n.ip == hop) with
    | some n => s.send { m with peer := { m.peer with mac := n.mac } }
    | none =>
      match s.net.solving.find? (fun n => n.link == m.peer.link && n.ip == hop) with
      | some _ =>
        s.setNet { s.net with solving := s.net.solving.map (fun n =>
          if n.link = m.peer.link ∧ n.ip = hop then { n with wait := n.wait ++ [m] } else n) }
      | none =>
        (s.setNet { s.net with solving := s.net.solving ++ [{ link := m.peer.link, ip := hop, ends := s.tnow + 1000000000, wait := [m] }] }).sendRaw
          m.peer.link (askFrame e hop)

/-- A neighbour's address is learnt: the entry is valid for 60 s, and what waited for it goes to egress. Of more than
256 entries of a link the one that ends first goes. -/
def State.neighbour (s : State) (k : Nat) (ip mac : List Byte) : State :=
  match s.net.solving.find? (fun n => n.link == k && n.ip == ip) with
  | none => s
  | some w =>
    let old := s.net.neigh.filter (fun n => !(n.link == k && n.ip == ip))
    let own := old.filter (fun n => n.link == k)
    let first := own.foldl (fun (b : Option Neigh) n => match b with
      | none => some n
      | some m => if n.ends < m.ends then some n else some m) none
    let old := if own.length < 256 then old else match first with | some d => old.erase d | none => old
    let s1 := s.setNet { s.net with
      neigh := old ++ [{ link := k, ip := ip, mac := mac, ends := s.tnow + 60000000000 }]
      solving := s.net.solving.erase w }
    w.wait.foldl (fun s m => s.send { m with peer := { m.peer with mac := mac } }) s1

/-- A next hop is not resolved within 1 s: vector 258, and what waited for it is given up. An answer on the edge of the expiry
wins (R23). -/
def State.neighTimeout (s : State) : State :=
  match s.net.solving.find? (fun n => s.past n.ends) with
  | none => s
  | some n => (s.setNet { s.net with solving := s.net.solving.erase n }).cause R.NET_EVENTS_CAUSE 256 258

/-- A neighbour entry expires 60 s after it was learnt. -/
def State.neighExpiry (s : State) : State :=
  match s.net.neigh.find? (fun n => decide (n.ends ≤ s.tnow)) with
  | none => s
  | some n => s.setNet { s.net with neigh := s.net.neigh.erase n }

/-! ### Answers (R457) -/

/-- The answer to an ARP request. -/
def arpReply (e f : List Byte) : List Byte :=
  let h := ethOpen f
  let p := h.2.2.2.2
  ethFrame e h.2.1 0x0806 ([0, 1, 8, 0, 6, 4, 0, 2] ++ leMac e ++ leIp4 e ++ sliceB p 8 6 ++ sliceB p 14 4)

/-- The answer to a neighbour solicitation: a solicited, overriding advertisement; none where the target is not the
device's. -/
def ndReply (e f : List Byte) : Option (List Byte) :=
  let h := ethOpen f
  match ipOpen h.2.2.2.1 h.2.2.2.2 with
  | none => none
  | some (src, _, _, p) =>
    let target := sliceB p 8 16
    if ¬ (leAddrs e).contains target then none
    else
      let m : List Byte := [0x60, 0, 0, 0] ++ target ++ [2, 1] ++ leMac e
      let c := inetSum (pseudo target src 58 32 ++ [136, 0, 0, 0] ++ m)
      some (ipFrame e h.2.1 target src 58 255 ([136, 0] ++ toBE 2 c ++ m))

/-- The answer to an echo request. -/
def echoReply (e f : List Byte) : Option (List Byte) :=
  let h := ethOpen f
  match ipOpen h.2.2.2.1 h.2.2.2.2 with
  | none => none
  | some (src, dst, proto, p) =>
    let rest := p.drop 4
    let ty : Byte := if proto = 1 then 0 else 129
    let c := if proto = 1 then inetSum ([ty, 0, 0, 0] ++ rest)
             else inetSum (pseudo dst src 58 p.length ++ [ty, 0, 0, 0] ++ rest)
    some (ipFrame e h.2.1 dst src proto 64 ([ty, 0] ++ toBE 2 c ++ rest))

/-- Take the oldest request of a kind. -/
def State.takeReq (s : State) (kind : Nat) : Option (NetReq × List Byte × State) :=
  match s.net.reqs.find? (fun r => r.kind == kind) with
  | none => none
  | some r => (s.linkEntry r.link).map (fun e => (r, e, s.setNet { s.net with reqs := s.net.reqs.erase r }))

/-- An ARP request is answered. -/
def State.arpRequest (s : State) : State :=
  match s.takeReq 1 with
  | some (r, e, s1) => s1.sendRaw r.link (arpReply e r.frame)
  | none => s

/-- A neighbour solicitation is answered. -/
def State.ndRequest (s : State) : State :=
  match s.takeReq 2 with
  | some (r, e, s1) => (match ndReply e r.frame with | some f => s1.sendRaw r.link f | none => s1)
  | none => s

/-- An echo request is answered, at most 1,000 in a second on a link. -/
def State.echoRequest (s : State) : State :=
  match s.takeReq 3 with
  | none => s
  | some (r, e, s1) =>
    let w := tabGet ((0 : Rat), 0) s.net.echo r.link
    let w := if w.2 = 0 ∨ w.1 + 1000000000 ≤ s.tnow then (s.tnow, 0) else w
    if 1000 ≤ w.2 then s1.netDrop r.link
    else
      let s2 := s1.setNet { s1.net with echo := tabIns s1.net.echo r.link (w.1, w.2 + 1) }
      match echoReply e r.frame with
      | some f => s2.sendRaw r.link f
      | none => s2

/-! ### The choice of the egress scheduler (R192, R475) -/

/-- Whether message `a` leaves before `b`, created later: by priority, and the completions of PROMISED jobs by promise. -/
def TxMsg.before (a b : TxMsg) : Bool := decide (a.prio < b.prio) || (a.prio == b.prio && (a.prio != 1 || decide (a.promise ≤ b.promise)))

/-- The message of a link whose next frame leaves first. -/
def State.txNext (s : State) (k : Nat) : Option TxMsg :=
  (s.net.tx.filter (fun m => m.peer.link == k)).foldl (fun (b : Option TxMsg) m =>
    match b with
    | none => some m
    | some x => if x.before m then some x else some m) none

end Sys2Proof.Machine
end

