-- ==== Sys2Proof/Machine/RegMap.lean ====
section
/-!
DEFINITION. Sys2Proof/Machine/RegMap.lean: from an address to the register and the fields there (spec/00_scope.md R10 to
R16, spec/01_architecture.md R37, R40), and which stored fields bedrock retains (AO, R12).
-/

namespace Sys2Proof.Machine

/-- The registers of the block an address lies in (R37, R40). -/
def regsNear (a : Nat) : List RegD :=
  if 0xFF00000000 ≤ a ∧ a < 0xFF00190000 then regsOfBlock ((a - 0xFF00000000) / 0x10000)
  else if 0xFF01000000 ≤ a ∧ a < 0xFF03000000 then regsOfSpr
  else []

/-- The element of an array at an offset from its first: the offset of the element, if there is one there. -/
def dimOff : List (Nat × Nat) → Nat → Option Nat
  | [], off => if off = 0 then some 0 else none
  | (st, n) :: ds, off => if off / st < n then (dimOff ds (off % st)).map (fun o => off / st * st + o) else none

/-- The offset of the element of a register that begins at an address, if one does. -/
def RegD.at? (r : RegD) (a : Nat) : Option Nat := if a < r.base then none else dimOff r.dims (a - r.base)

/-- A field of the first element, moved to the element at an offset. -/
def Fld.moved (f : Fld) (off : Nat) : Fld := { f with addr := f.addr + off }

/-- The register that begins at an address: whether it is 64 bits wide, and its fields. -/
def regAt (a : Nat) : Option (Bool × List Fld) :=
  (regsNear a).findSome? (fun r => (r.at? a).map (fun off => (r.wide, r.flds.map (fun f => f.moved off))))

/-- The field a key of State.regs names. -/
def fldOfKey (k : Nat) : Option Fld :=
  match regAt (k / 64) with
  | some (_, fs) => fs.find? (fun f => f.lo == k % 64)
  | none => none

/-- The field is retained in bedrock (AO, R12). -/
def isAo (k : Nat) : Bool := match fldOfKey k with | some f => f.ao | none => false

end Sys2Proof.Machine
end

