-- ==== Sys2Proof/Machine/Spire.lean ====
section
/-!
DEFINITION. Sys2Proof/Machine/Spire.lean: the power of the spires (spec/03_clocks_power.md R94 to R102): idleness, ceiling
and budget, entries and exits, the device state and the wake term; commands DOZE_IDLE_EXPIRY, NAP_IDLE_EXPIRY,
SPIRE_TRANSITION_END and PWR_BUDGET_WRITE.
-/

namespace Sys2Proof.Machine

/-- Main power is on and the device not isolated. -/
def State.mainOn (s : State) : Bool := s.pwr.main == .on

/-- The device is in DEEP. -/
def State.inDeep (s : State) : Bool := s.get R.PWR_STATE_DEV == 3

/-- The device works: main power is on, it is not in DEEP (R95), and its lifecycle state is not DECOMMISSION, in which it serves
only the management port and the evidence window (R125), from the edge on which that state is entered (DESIGN CHOICE, log 12). -/
def State.spiresRun (s : State) : Bool := s.mainOn && !s.inDeep && !(s.get R.RST_LC_STATE == 3)

/-- A spire has a job bound or assigned to it, a mover descriptor or an engine command (R97). -/
def State.spireBusy (s : State) (p : Nat) : Bool :=
  s.jsc.jobs.any (fun j => j.live && j.core.map (· / 16) == some p) || s.mover.any (fun d => d.spire == p)
    || s.cmds.any (fun c => c.core / 16 == p)

/-- A spire placed as one that no dome owns (R29): unowned, retired (R336), or dropped by a domain application (R162). -/
def State.spireUnowned (s : State) (p : Nat) : Bool :=
  (s.spireDome p).isNone || s.is (R.FCU_RETIRED_RETIRED p) || (s.spire p).placed

/-- The deepest spire state the ceiling and the budget allow (R99). -/
def State.deepest (s : State) (p : Nat) : Nat :=
  let ceil := min (s.get R.PWR_CEIL_CEIL) 2
  let us := s.get R.PWR_BUDGET_BUDGET_US
  if s.spireUnowned p then ceil else min ceil (if us < 2 then 0 else if us < 60 then 1 else 2)

/-- The state a spire is to be in now (R97, R99, R101). -/
def State.spireWant (s : State) (p : Nat) : Nat :=
  if s.spireBusy p ∨ (s.spire p).reload = .loading then 0
  else min (s.deepest p) (if s.spireUnowned p then 2 else (s.spire p).idleMet)

/-- What a spire counts as for the device state (R95): during an entry, the state it leaves. -/
def State.spireAs (s : State) (p : Nat) : Nat :=
  match (s.spire p).tr with
  | .entering st => st - 1
  | .leaving st => st
  | .none => s.get (R.PWR_SPIRE_STATE_S p)

/-- PWR_STATE.DEV from the spires (R95). -/
def State.devState (s : State) : State :=
  if ¬ s.spiresRun then s
  else s.set R.PWR_STATE_DEV (((List.range 32).map s.spireAs).foldl min 2)

/-- A spire begins the entry or the exit that is due (R96 to R101); one under way runs to its end (R98). -/
def State.settle (s : State) (p : Nat) : State :=
  if ¬ s.spiresRun ∨ (s.spire p).tr ≠ .none then s else
  let cur := s.get (R.PWR_SPIRE_STATE_S p)
  let want := s.spireWant p
  if want < cur then (s.setSpire p { s.spire p with tr := .leaving cur }).devState
  else if cur < want then
    ((s.setSpire p { s.spire p with tr := .entering (cur + 1) }).set (R.PWR_SPIRE_STATE_S p) 3).devState
  else s.devState

/-- Every spire settles. -/
def State.settleAll (s : State) : State := (List.range 32).foldl State.settle s

/-- A job is assigned to a spire: its idleness starts again, and an exit begins where one is due (R96 to R98). -/
def State.spireAssigned (s : State) (p : Nat) : State := (s.setSpire p { s.spire p with idleMet := 0 }).settle p

/-- SPIRE_TRANSITION_END (R96). -/
def State.spireTransitionEnd (s : State) (p : Nat) : State :=
  if ¬ s.spiresRun then s else
  match (s.spire p).tr with
  | .none => s
  | .entering st => ((s.idleMark.setSpire p { s.spire p with tr := .none }).set (R.PWR_SPIRE_STATE_S p) st).settle p
  | .leaving _ =>
    (((s.setSpire p { s.spire p with tr := .none, idleMet := min 1 (s.spire p).idleMet }).set (R.PWR_SPIRE_STATE_S p) 0).count
      (R.SPR_PWR_WAKES p)).settle p

/-- DOZE_IDLE_EXPIRY (R97). -/
def State.dozeIdle (s : State) (p : Nat) : State :=
  if ¬ s.spiresRun ∨ 32 ≤ p ∨ s.spireBusy p ∨ s.get R.PWR_IDLE_DOZE_IDLE = 0 then s
  else (s.setSpire p { s.spire p with idleMet := max 1 (s.spire p).idleMet }).settle p

/-- NAP_IDLE_EXPIRY (R97). -/
def State.napIdle (s : State) (p : Nat) : State :=
  if ¬ s.spiresRun ∨ 32 ≤ p ∨ s.spireBusy p ∨ s.get R.PWR_IDLE_NAP_IDLE = 0 ∨ (s.spire p).tr ≠ .none
      ∨ s.get (R.PWR_SPIRE_STATE_S p) ≠ 1 then s
  else (s.setSpire p { s.spire p with idleMet := 2 }).settle p

/-- PWR_BUDGET_WRITE (R101): the management port writes the budget. -/
def State.budgetWrite (s : State) (us : Nat) : State := (s.set R.PWR_BUDGET_BUDGET_US us).settleAll

/-- The wake term of a spire, in ns (R102). -/
def State.wakeTerm (s : State) (p : Nat) : Nat :=
  match (s.spire p).tr with
  | .entering st => if st = 1 then 2100 else 75000
  | .leaving st => if st = 1 then 2000 else 60000
  | .none => let c := s.get (R.PWR_SPIRE_STATE_S p); if c = 0 then 0 else if c = 1 then 2000 else 60000

/-- A spire is ACTIVE, in no transition. -/
def State.spireActive (s : State) (p : Nat) : Bool :=
  s.spiresRun && (s.spire p).tr == .none && s.get (R.PWR_SPIRE_STATE_S p) == 0

/-- The core clock in cycles per ns (R80, R179). -/
def State.clockF (s : State) : Rat :=
  (s.get R.CLK_CORE_MULT : Rat) * (25 / 1000) * (1 - (s.get R.CLK_CORE_SPREAD : Rat) * (25 / 10000))

end Sys2Proof.Machine
end

