-- ==== Sys2Proof/Machine/RegView.lean ====
section
/-!
DEFINITION. Sys2Proof/Machine/RegView.lean: what the registers read as (spec/00_scope.md R10 to R16): the plain ones, those
whose value a unit computes, and the two halves of a 64-bit register. Every read of a register block, by a command or by a
unit's own transfer, comes here.
-/

namespace Sys2Proof.Machine

/-! ### Registers as their fields give them (R11 to R14) -/

/-- A word of a register as its fields give it; a WO field reads 0. -/
def State.fieldWord (s : State) (fs : List Fld) : Nat :=
  fs.foldl (fun v f => if f.acc = .wo then v else v ||| (s.get f * 2 ^ f.lo)) 0

/-- The plain register at an address, 0 where there is none. -/
def State.plainReg (s : State) (a : Nat) : Nat := match regAt a with | some (_, fs) => s.fieldWord fs | none => 0

/-! ### Sessions, pools and entropy -/

/-- Change SES. -/
def State.setSes (s : State) (u : SesU) : State := { s with ses := u }

/-- Session context `i`. -/
def State.ctx (s : State) (i : Nat) : Ses := tabGet {} s.ses.ctxs i

/-- The current epoch. -/
def Ses.cur (c : Ses) : SesEp := c.eps.headD {}

/-- BUSY and SUSP of SYM_STATUS and DIG_STATUS. -/
def State.poolStatus (s : State) (pool : Nat) : Nat :=
  let run := (s.cmds.filter (fun c => c.pool == pool && (match c.st with | .running _ => true | _ => false))).length
  let sus := (s.cmds.filter (fun c => c.pool == pool && (match c.st with | .suspended _ => true | _ => false))).length
  place run 0 6 + place sus 8 6

/-- A job reserves a context (R404). -/
def Job.pkeReserved (j : Job) : Bool := j.cls == 0 && j.live && decide (0 < j.h.pkeU)

/-- Contexts reserved by PROMISED jobs. -/
def State.pkeReserved (s : State) : Nat := (s.jsc.jobs.filter Job.pkeReserved).length

/-- PKE_STATUS without CKEY: BUSY, HELD and RESERVED. -/
def State.pkeStatus (s : State) : Nat :=
  let busy := (s.cmds.filter (fun c => c.pool == 2 && (match c.st with | .running _ => true | _ => false))).length
  let held := (s.cmds.filter (fun c => c.pool == 2 && c.held)).length
  place busy 0 6 + place held 8 9 + place s.pkeReserved 17 9

/-- The pairs that are ON (R416). -/
def State.pairsOn (s : State) : List Nat := (List.range 8).filter (fun p => s.get (R.ENT_PAIR_STAT_STATE p) == 1)

/-- The source is healthy (R416). -/
def State.entHealthy (s : State) : Bool := 4 ≤ s.pairsOn.length

/-! ### Translation and sealed regions (R290 to R297, R304, R305) -/

/-- An entry of the table memory (R290). -/
def State.tentry (s : State) (i : Nat) : Nat := tabGet 0 s.mmu.table i

/-- A leaf entry that counts for a dome and region (R292): SEALED and ABSENT with their numbers. -/
def sealedOf (e d r : Nat) : Bool := e % 4 == 2 && bitOf e 4 && bitsOf e 48 6 == d && bitsOf e 54 6 == r

/-- The SEALED ABSENT count of a region (R292). -/
def State.absentCount (s : State) (d r : Nat) : Nat := (s.mmu.table.filter (fun e => sealedOf e.2 d r)).length

/-- Declaration `r` of dome `d`'s current content (R304). -/
def State.region (s : State) (d r : Nat) : Option (List Byte) := (s.dome d).content.bind (fun c => c.regions[r]?)

/-- A region is armed (R305). -/
def State.armedR (s : State) (d r : Nat) : Bool := s.mmu.armed.contains (d * 64 + r)

/-- A declared region is warming (R305): not yet armed, or with a SEALED ABSENT count above 0. -/
def State.warming (s : State) (d r : Nat) : Bool :=
  (s.region d r).isSome && (!s.armedR d r || s.absentCount d r != 0)

/-- STB_DOM_STATE.WARMING (R305): the OR of the dome's regions. -/
def State.domeWarming (s : State) (d : Nat) : Bool := (List.range 64).any (fun r => s.warming d r)

/-- Bring the counts of MMU_STATUS in step with the queue. -/
def State.reqStatus (s : State) : State :=
  (s.set R.MMU_STATUS_REQ_COUNT s.mmu.req.length).setB R.MMU_STATUS_REQ_WAIT (!s.mmu.wait.isEmpty)

/-- Reading the high half of MMU_REQ removes the head request (R296). -/
def State.reqPop (s : State) : State := { s with mmu := { s.mmu with req := s.mmu.req.tail } }.reqStatus

/-- MMU_REQ as it reads: the head request, or 0. -/
def State.reqWord (s : State) : Nat :=
  match s.mmu.req with
  | [] => 0
  | (d, page) :: _ => place (page / 65536) 16 32 + place d 48 6 + 2 ^ 63

/-- MMU_RGN_STAT as it reads. -/
def State.regionStat (s : State) : Nat :=
  let d := s.get R.MMU_RGN_SEL_DOME
  let r := s.get R.MMU_RGN_SEL_REGION
  place (s.absentCount d r) 0 24 + place (b2n (s.region d r).isSome) 24 1 + place (b2n (s.armedR d r)) 25 1
    + place (b2n (s.warming d r)) 26 1

/-- SPR_MV_STATUS as it reads: a bit for each channel that holds a descriptor, the descriptors held, and those
FAULTED. -/
def State.mvStatus (s : State) (p : Nat) : Nat :=
  let held := (s.mover.filter (fun (d : MvDesc) => d.spire == p)).length
  let f := (s.mover.filter (fun (d : MvDesc) => d.spire == p && d.faulted)).length
  (2 ^ min 4 (held - f) - 1) + place held 4 9 + place f 13 9

/-! ### Keys (R349, R354, R483) -/

/-- Change the KEY unit. -/
def State.setKey (s : State) (k : KeyU) : State := { s with key := k }

/-- A slot of the key cache. -/
def State.slot (s : State) (i : Nat) : KSlot := tabGet {} s.key.slots i

/-- The federation key range (R477): its first index and count (0 without a role). -/
def State.fedFirst (s : State) : Nat := fld s.fed.section_ 0x1C 4

/-- The count of the federation key range. -/
def State.fedCount (s : State) : Nat := if fld s.fed.section_ 0 1 = 0 then 0 else fld s.fed.section_ 0x20 4

/-- An index lies in the federation key range. -/
def State.inFed (s : State) (i : Nat) : Bool := decide (s.fedFirst ≤ i) && decide (i < s.fedFirst + s.fedCount)

/-- The physical bank in which a federation epoch resolves an index (R483): within the federation range the current bank for
the current epoch, the other one for the epoch before it. -/
def State.bankAt (s : State) (e i : Nat) : Nat :=
  if ¬ s.inFed i then 0 else if e = s.get R.FED_EPOCH_CURRENT then s.fed.bank else 1 - s.fed.bank

/-- The physical bank that now holds the key of an index. -/
def State.bankOfKey (s : State) (i : Nat) : Nat := s.bankAt (s.get R.FED_EPOCH_CURRENT) i

/-- The directory byte of a table index in a physical bank (R354): bit 7 VALID, bits 5:0 DOME. -/
def State.dirIn (s : State) (b i : Nat) : Nat := tabGet 0 (if b = 0 then s.key.dir else s.fed.dir1) i

/-- The directory byte of a table index (R354), in its current bank. -/
def State.dirByte (s : State) (i : Nat) : Nat := s.dirIn (s.bankOfKey i) i

/-- The pinned slots of a dome's partition (KEY_PINNED): pinned means READY with its flag set. -/
def State.pinnedCount (s : State) (d : Nat) : Nat :=
  (s.key.slots.filter (fun e => e.2.pinned && e.2.st == 2 && e.2.dome == d)).length

/-! ### Flash and cards -/

/-- The ledger's state and erase count of a sector (R507). -/
def State.sector (s : State) (n : Nat) : Nat × Nat := tabGet (0, 0) s.flc.ledger n

/-- FLC_SECT_INFO as it reads. -/
def State.sectInfo (s : State) : Nat :=
  let e := s.sector (s.get R.FLC_SECT_SEL_SECTOR)
  e.1 + (if 100000 ≤ e.2 then 4 else 0) + e.2 * 256

/-- FLC_TWIN as it reads. -/
def State.twinWord (s : State) : Nat := s.flc.twin + s.flc.seq * 2 ^ 32

/-- The counter of an area. -/
def State.csaCount (s : State) (area : Nat) : Nat := tabGet 0 s.flc.csa area

/-! ### Tag memory and the evidence window (R556, R557) -/

/-- Change the tag. -/
def State.setTag (s : State) (k : Tag) : State := { s with tag := k }

/-- The record at a position of the evidence log (R447). -/
def State.logRecord (s : State) (k : Nat) : List Byte :=
  (List.range 8).flatMap (fun i => toLE 4 (s.get (R.TMP_EVLOG_WORD k i)))

/-- The ring records that are not empty, in the order they were written, which is that of SEQ; where SEQ stands at its limit
several share it, and each keeps its place (R574). -/
def State.ringRecords (s : State) : List (List Byte) :=
  let first := if s.tmp.logged < 64 then 0 else (s.tmp.logged - 16) % 48
  ((List.range 48).map (fun i => s.logRecord (16 + (first + i) % 48))).filter (fun r => !allZero r)

/-- The 8-byte identity that bedrock holds: STB_DEVID from the first main power-up after a bedrock reset, 0 before. -/
def State.devIdHeld (s : State) : List Byte := toLE 8 (if s.pwr.devKnown then devId else 0)

/-- Page 0 of the window. -/
def State.evidenceHead (s : State) : List Byte :=
  let b := toLE 4 0x31575645 ++ [1, BitVec.ofNat 8 (s.get R.RST_LC_STATE), BitVec.ofNat 8 (b2n (s.pwr.main != .off)), 0]
    ++ s.devIdHeld ++ toLE 6 (s.get R.TIME_TSTAMP_TICKS) ++ [0, 0] ++ toLE 4 (s.get R.TMP_EVSEQ_SEQ)
    ++ toLE 4 (s.get R.TMP_FLAGS_FLAG) ++ toLE 2 (s.get R.TMP_PENDING_RESP + s.get R.TMP_PENDING_HALT * 256) ++ [0, 0]
    ++ (List.range 17).flatMap (fun n => toLE 2 (s.get (R.TMP_COUNT_COUNT n))) ++ zeros 54
  b ++ toLE 4 (crc32 b)

/-- A page of the evidence window. -/
def State.evidencePage (s : State) (p : Nat) : List Byte :=
  if p = 0 then s.evidenceHead
  else if p ≤ 4 then (List.range 4).flatMap (fun i => s.logRecord (4 * (p - 1) + i))
  else
    let ring := s.ringRecords
    let top := ring.drop (ring.length - 44)
    (List.range 4).flatMap (fun i => top.getD (4 * (p - 5) + i) (zeros 32))

/-- Bytes of the mailbox memory (pages 16 to 31), from an offset. -/
def State.tagBytes (s : State) (off n : Nat) : List Byte := (List.range n).map (fun i => tabGet 0 s.tag.mem (off + i))

/-- A page of tag memory. -/
def State.tagPage (s : State) (p : Nat) : List Byte :=
  if p < 16 then s.evidencePage p else s.tagBytes ((p - 16) * 128) 128

/-- CLF_TAGMEM word `i` as it reads. -/
def State.tagWord (s : State) (i : Nat) : Nat := fld (s.tagPage (i / 32)) (i % 32 * 4) 4

/-! ### What a register reads as -/

/-- KEY_SLOT_INFO of the selected slot. -/
def State.slotInfo (s : State) : Nat :=
  let k := tabGet {} s.key.slots (s.get R.KEY_SLOT_SEL_SLOT)
  place k.index 0 24 + place k.st 24 3 + place (b2n k.pinned) 27 1 + place k.refs 32 17

/-- KEY_STATUS: the lanes whose interval has not ended (R356). -/
def State.keyStatus (s : State) : Nat :=
  s.plainReg 0xFF000D0000 + place ((s.key.lanes.filter (fun l => decide (s.now < l.2))).length) 8 6

/-- ENT_STATUS (R416, R418). -/
def State.entStatus (s : State) : Nat :=
  s.plainReg 0xFF00090000 + place (b2n s.entHealthy) 2 1 + place ((s.pairsOn.map (2 ^ ·)).sum) 8 8
    + place s.ent.store.length 16 5

/-- SES_INFO of the selected context. -/
def State.sesInfo (s : State) : Nat :=
  let i := s.get R.SES_SEL_INDEX
  let c := s.ctx i
  place c.st 0 2 + place (b2n (c.st != 0 && c.drained)) 2 1 + place (b2n (s.ses.cache.contains i)) 3 1 + place c.dome 4 6
    + place c.cls 10 16 + place c.cur.epoch 32 16 + place c.gen 48 14

/-- TMP_ARMED (R430): the pin and crystal monitors and BEDROCK_LOST always, VGLITCH and VRANGE as the supervisor has armed
them (R71), the others with main power on. -/
def State.armedNow (s : State) : Nat := if ¬ s.mainOn then 0x1047F else if s.pwr.armed then 0x1FFFF else 0x1FCFF

/-- STB_DOM_STATE of a dome, with WARMING. -/
def State.domStateWord (s : State) (a d : Nat) : Nat := s.plainReg a + place (b2n (s.domeWarming d)) 4 1

/-- The jobs of a dome in flight. -/
def State.domeInflight (s : State) (d : Nat) : Nat := (s.jsc.jobs.filter (fun j => j.dome == d)).length

/-- The rule register at an offset of the ART block (R323). -/
def State.ruleWord (s : State) (off : Nat) : Nat :=
  let r := s.selRule
  if off = 0x18 then place r.base 12 28
  else if off = 0x20 then r.pages
  else if off = 0x24 then r.classes
  else if off = 0x28 then r.rmask
  else if off = 0x30 then r.wmask
  else r.xmask

/-- The value of the register at an address where the machine computes it. -/
def State.viewReg (s : State) (a : Nat) : Option Nat :=
  let o := a % 0x10000
  let b := (a - 0xFF00000000) / 0x10000
  if 0xFF01000000 ≤ a then
    let p := (a - 0xFF01000000) / 0x100000
    let q := (a - 0xFF01000000) % 0x100000
    if q = 0x20000 then some (s.mvStatus p)
    else if q = 0x40000 then some (s.plainReg a + place (s.get (R.PWR_SPIRE_STATE_S p)) 0 2)
    else none
  else if b = 4 then
    (if o = 0x38 then some devId else if 0x100 ≤ o ∧ o < 0x200 then some (s.domStateWord a ((o - 0x100) / 4)) else none)
  else if b = 5 then
    (if o = 0 then some (s.plainReg a + place s.jsc.jobs.length 4 17)
     else if 0x300 ≤ o ∧ o < 0x400 then some (place (s.domeInflight ((o - 0x300) / 4)) 0 17) else none)
  else if b = 6 then (if 0x18 ≤ o ∧ o < 0x40 then some (s.ruleWord o) else none)
  else if b = 8 then (if o = 8 then some (s.tmp.pins % 128) else if o = 0x1C then some s.armedNow else none)
  else if b = 9 then (if o = 0 then some s.entStatus else if o = 0x200 ∧ s.get R.RST_LC_STATE ≠ 0 then some 0 else none)
  else if b = 10 then (if o = 0 then some (s.poolStatus 0) else none)
  else if b = 11 then (if o = 0 then some (s.poolStatus 1) else none)
  else if b = 12 then (if o = 0 then some (s.pkeStatus + place (b2n (s.pools.curveKey != [])) 26 1) else none)
  else if b = 13 then
    (if o = 0 then some s.keyStatus else if o = 0x28 then some s.slotInfo
     else if o = 0x34 then some (s.dirByte (s.get R.KEY_DIR_SEL_INDEX) &&& 0xBF)
     else if 0x200 ≤ o ∧ o < 0x300 then some (place (s.pinnedCount ((o - 0x200) / 4)) 0 14) else none)
  else if b = 14 then (if o = 8 then some (s.chunkColour (s.get R.MEMC_CMAP_SEL_CHUNK)) else none)
  else if b = 15 then
    (if o = 0x10 then some (tabGet 0 s.mmu.table (s.get R.MMU_TADDR_INDEX)) else if o = 0x18 then some s.reqWord
     else if o = 0x804 then some s.regionStat else none)
  else if b = 17 then (if o = 0x18 then some s.sesInfo else none)
  else if b = 19 then (if o = 0x20 then some s.twinWord else if o = 0x58 then some s.sectInfo else none)
  else if b = 21 then (if o = 0x50 then some (s.csaCount (s.get R.SDH_CSA_SEL_AREA)) else none)
  else if b = 22 then (if 0x1000 ≤ o ∧ o < 0x2000 then some (s.tagWord ((o - 0x1000) / 4)) else none)
  else if b = 23 then (if o = 8 then some (tabGet 0 s.latch (1024 * 2 ^ 40 + a)) else none)
  else none

/-- The value of the register at an address. -/
def State.regValue (s : State) (a : Nat) : Nat := (s.viewReg a).getD (s.plainReg a)

/-! ### Reads (R15, R16) -/

/-- How an access of `n` bytes at an address meets the registers there: 0 no register, 1 a whole register, 2 the low half
of a 64-bit one, 3 its high half, 4 a width or an alignment that R16 forbids. -/
def regShape (a n : Nat) : Nat :=
  match regAt a with
  | some (wide, _) => if n = 8 ∧ wide then 1 else if n = 4 ∧ wide then 2 else if n = 4 then 1 else 4
  | none =>
    let high : Bool := n == 4 && a % 8 == 4 && (match regAt (a - 4) with | some (w, _) => w | none => false)
    if high then 3
    else
      let near : Bool := (List.range n).any (fun i => (regAt (a + i)).isSome || (regAt ((a + i) / 4 * 4)).isSome
        || (match regAt ((a + i) / 8 * 8) with | some (w, _) => w | none => false))
      if near then 4 else 0

/-- The effects of a read that takes the low half (`low`) or the high half of a register: the fraction of DTIME is latched
(R90), the head of MMU_REQ is removed (R296). -/
def State.readEffect (s : State) (a : Nat) (low high : Bool) : State :=
  if a = 0xFF00170000 ∧ low then { s with latch := tabIns s.latch (1024 * 2 ^ 40 + 0xFF00170008) (s.get R.TIME_DFRAC_FRAC) }
  else if a = 0xFF000F0018 ∧ high then s.reqPop
  else s

/-- A register block is read: the data, or none for a violation. -/
def State.regRead (s : State) (agent a n : Nat) : Option (Nat × State) :=
  match regShape a n with
  | 0 => some (0, s)
  | 1 => some (s.regValue a, s.readEffect a true (n == 8))
  | 2 =>
    let v := s.regValue a
    some (v % 2 ^ 32, { s with latch := tabIns s.latch (agent * 2 ^ 40 + a) (v / 2 ^ 32) }.readEffect a true false)
  | 3 =>
    let k := agent * 2 ^ 40 + (a - 4)
    let v := (tabFind s.latch k).getD (s.regValue (a - 4) / 2 ^ 32)
    some (v, { s with latch := tabDel s.latch k }.readEffect (a - 4) false true)
  | _ => none

end Sys2Proof.Machine
end

