-- ==== Sys2Proof/Machine/Xfer.lean ====
section
/-!
DEFINITION. Sys2Proof/Machine/Xfer.lean: the transfers that units issue (spec/01_architecture.md R33 to R36, R39, R41):
judged, answered silently where forbidden, carried under the bus integrity code, and served by memory, flash or a register
block.
-/

namespace Sys2Proof.Machine

/-! ### Flash reads and writes (spec/16_flash.md R495, R496, R503) -/

/-- An event of the FLC: its bit of FLC_EVENTS and its vector (R514). -/
def State.flcEvent (s : State) (v : Nat) : State := s.cause R.FLC_EVENTS_CAUSE 304 v

/-- One 32-byte line of flash is read: its data and its error count (R496). -/
def State.flashLine (s : State) (line : Nat) : List Byte × State :=
  let off := (line - 0xF000000000) / 32
  match tabGet 0 s.flc.bad line with
  | 0 => (s.bytes line 32, s)
  | 4 =>
    let s1 := s.count R.FLC_UE_COUNT_COUNT
    let s2 := if s1.is R.FLC_UE_ADDR_VALID then s1 else (s1.set R.FLC_UE_ADDR_LINE off).set R.FLC_UE_ADDR_VALID 1
    (zeros 32, s2.flcEvent 306)
  | c =>
    let s1 := s.next R.FLC_CE_COUNT_COUNT
    let w := s.get R.FLC_CTRL_WARN_BITS
    if w = 0 ∨ c < w then (s.bytes line 32, s1)
    else
      let s2 := s1.count R.FLC_WARN_COUNT_COUNT
      let s3 := if s2.is R.FLC_WARN_ADDR_VALID then s2 else (s2.set R.FLC_WARN_ADDR_LINE off).set R.FLC_WARN_ADDR_VALID 1
      (s.bytes line 32, s3.flcEvent 307)

/-- A read reaches the bank under operation (R503): with AUTOSUSP the operation is suspended, and the read is served 5 µs
later. -/
def State.flashTouch (s : State) (a : Nat) : State :=
  match s.flc.op with
  | none => s
  | some o =>
    if (a - 0xF000000000) / 0x8000000 ≠ o.addr / 0x8000000 ∨ ¬ s.is R.FLC_CTRL_AUTOSUSP then s
    else
      let at_ (t : Rat) : State := { s with flc := { s.flc with lastRead := t } }
      if s.is R.FLC_STATUS_AUTOSUSPENDED ∨ s.is R.FLC_STATUS_SUSPENDED then at_ (max s.flc.lastRead s.tnow)
      else ((at_ (s.tnow + 5000)).set R.FLC_STATUS_AUTOSUSPENDED 1).next R.FLC_SUSP_COUNT_COUNT

/-- Read bytes of flash, line by line (`k` bounds the lines). -/
def State.flashLines (s : State) : Nat → Nat → Nat → List Byte × State
  | _, _, 0 => ([], s)
  | a, n, k + 1 =>
    if n = 0 then ([], s) else
    let line := a / 32 * 32
    let m := min n (line + 32 - a)
    let r := s.flashLine line
    let rest := r.2.flashLines (a + m) (n - m) k
    (sliceB r.1 (a - line) m ++ rest.1, rest.2)

/-- A read of flash waits (R503): it names the bank under operation, which is not suspended, and AUTOSUSP is 0. -/
def State.flashWaits (s : State) (a : Nat) : Bool :=
  isFlash a && !s.is R.FLC_CTRL_AUTOSUSP && !s.is R.FLC_STATUS_SUSPENDED && !s.is R.FLC_STATUS_AUTOSUSPENDED
    && (match s.flc.op with | some o => o.addr / 0x8000000 == (a - 0xF000000000) / 0x8000000 | none => false)

/-- Read bytes of flash. -/
def State.readFlash (s : State) (a n : Nat) : List Byte × State := (s.flashTouch a).flashLines a n (n / 32 + 2)

/-! ### Instruction fetch (R497) -/

/-- A line in the prefetch buffer or the branch cache. -/
def State.fetchHit (s : State) (line : Nat) : Option (List Byte) :=
  match tabFind s.flc.pre line with | some b => some b | none => (s.flc.cache.find? (fun e => e.1 == line)).map (·.2)

/-- The lines of a bank that follow a line, up to 3. -/
def nextLines (line : Nat) : List Nat :=
  ([1, 2, 3].map (fun k => line + 32 * k)).filter (fun l => (l - 0xF000000000) / 0x8000000 == (line - 0xF000000000) / 0x8000000)

/-- A fetch misses: the line is read, and the next 3 of its bank with it into the prefetch buffer. -/
def State.fetchMiss (s : State) (line : Nat) : List Byte × State :=
  let r := (s.flashTouch line).flashLine line
  let p := (nextLines line).foldl (fun (p : List (Nat × List Byte) × State) l =>
    let q := p.2.flashLine l
    (p.1 ++ [(l, q.1)], q.2)) ([(line, r.1)], r.2)
  (r.1, { p.2 with flc := { p.2.flc with pre := p.1 } })

/-- The keep core fetches a line: from a structure that holds it, or from the array. A line that does not follow the line
fetched before it fills the branch cache, of 64 lines; a line used there is the last to be replaced. -/
def State.fetchLine (s : State) (line : Nat) : List Byte × State :=
  let r := match s.fetchHit line with | some b => (b, s) | none => s.fetchMiss line
  let f := r.2.flc
  let follows := f.last == some line || f.last == some (line - 32)
  let rest := f.cache.filter (fun e => e.1 != line)
  let cache := if follows && rest.length = f.cache.length then f.cache else ((line, r.1) :: rest).take 64
  (r.1, { r.2 with flc := { f with last := some line, cache := cache } })

/-- Fetch bytes of flash, line by line (`k` bounds the lines). -/
def State.fetchFlash (s : State) : Nat → Nat → Nat → List Byte × State
  | _, _, 0 => ([], s)
  | a, n, k + 1 =>
    if n = 0 then ([], s) else
    let line := a / 32 * 32
    let m := min n (line + 32 - a)
    let r := s.fetchLine line
    let rest := r.2.fetchFlash (a + m) (n - m) k
    (sliceB r.1 (a - line) m ++ rest.1, rest.2)

/-- Every line of a fetch is in a structure, so that it never reaches the bank. -/
def State.fetchHits (s : State) (a n : Nat) : Bool :=
  (List.range ((a + n - 1) / 32 - a / 32 + 1)).all (fun k => (s.fetchHit (a / 32 * 32 + 32 * k)).isSome)

/-! ### The bus integrity code (R33, R34) -/

/-- One bit of the code's division by the polynomial 0x1021, high bit first. -/
def busBit (c : Nat) : Nat := if c.testBit 15 then (c * 2 % 65536) ^^^ 0x1021 else c * 2 % 65536

/-- The bus integrity code of a message (R33); its initial value is the hardware's. -/
def busCode (m : List Byte) : List Byte :=
  toLE 2 (m.foldl (fun c b => Nat.repeat busBit 8 (c ^^^ (b.toNat * 256))) Config.busInit.toNat)

/-- What arrives of a message sent with its code, where `err` disturbs bits of it: the message, unless the check fails. -/
def busReceive (m err : List Byte) : Option (List Byte) :=
  let r := xorB (m ++ busCode m) (fitBytes (m.length + 2) err)
  if r.drop m.length = busCode (r.take m.length) then some (r.take m.length) else none

/-- The request of a transfer: address, length, type, agent, domain and operation epoch. -/
def reqMsg (x : Xfer) (type a n : Nat) : List Byte :=
  toLE 5 a ++ toLE 4 n ++ toLE 1 type ++ toLE 2 x.agent ++ toLE 1 x.dom ++ toLE 2 x.epoch

/-- A bus integrity check fails (R34): tamper source BUSIC with the agent ID of the side that checked. -/
def State.busFail (s : State) (side : Nat) : State := s.tamper 12 (side % 1024)

/-- A disturbance changes beat `k` (64 bytes) of data; none where a check finds it. -/
def beatReceive (data : List Byte) (k : Nat) (err : List Byte) : Option (List Byte) :=
  (busReceive (sliceB data (64 * k) (min 64 (data.length - 64 * k))) err).map
    (fun b => data.take (64 * k) ++ b ++ data.drop (64 * k + 64))

/-- A judged transfer crosses the bus and is served (R33, R34): `serve` is what its target does with the type, the address,
the length and the data it receives, and answers the data, an outcome, and the state. A disturbance meets the request, a beat
written, the response of a write, or a beat returned. -/
def State.crossed (s : State) (x : Xfer) (type a n : Nat) (data : List Byte) (e : Option BusErr)
    (serve : State → Nat → Nat → Nat → List Byte → List Byte × Nat × State) : List Byte × Nat × State :=
  match e with
  | none => serve s type a n data
  | some e =>
    let zero : List Byte := if type = 1 then [] else zeros n
    if e.part = 0 then
      match busReceive (reqMsg x type a n) e.bits with
      | none => (zero, 0, s.busFail e.side)
      | some m => let r := serve s (fld m 9 1) (fld m 0 5) (fld m 5 4) data; (fitBytes zero.length r.1, r.2)
    else if type = 1 then
      (if e.part = 1 then
        match beatReceive data e.beat e.bits with
        | none => ([], 0, s.busFail e.side)
        | some d => serve s type a n d
      else
        let r := serve s type a n data
        ([], 0, if (busReceive [0] e.bits).isSome then r.2.2 else r.2.2.busFail x.agent))
    else
      let r := serve s type a n data
      match beatReceive r.1 e.beat e.bits with
      | none => (zero, 0, r.2.2.busFail x.agent)
      | some d => (d, r.2)

/-- The disturbance that waits for the next transfer an agent issues by itself, taken. -/
def State.busTake (s : State) (agent : Nat) : Option BusErr × State :=
  match s.bus.find? (fun e => e.1 == agent) with
  | none => (none, s)
  | some e => (some e.2, { s with bus := s.bus.erase e })

/-! ### Units' own transfers -/

/-- A register block is read or written by a unit's own transfer (R15, R16, R41). What is written reaches the register at
the next tick, an unoccupied address too, where a write of the TMP block disarms its unlock (R449). -/
def State.regServe (s : State) (x : Xfer) (type a n : Nat) (data : List Byte) : List Byte × State :=
  if type = 1 then
    match regShape a data.length with
    | 0 | 1 => ([], { s with regQ := s.regQ ++ [{ agent := x.agent, addr := a, value := ofLE data }] })
    | _ => ([], s.violation x 1 a)
  else if type = 2 then (zeros n, if regShape a n = 0 then s else s.violation x 2 a)
  else
    match s.regRead x.agent a n with
    | some r => (toLE n r.1, r.2)
    | none => (zeros n, s.violation x 0 a)

/-- What a target does for a unit's transfer (R36, R285, R286, R495): the data of a read, the first failing line outcome (0
if none), and the state after. -/
def State.unitServe (s : State) (x : Xfer) (type a n : Nat) (data : List Byte) : List Byte × Nat × State :=
  if isReg a then let r := s.regServe x type a n data; (r.1, 0, r.2)
  else if type = 1 then
    ([], 0, if isDdr a then s.writeDdr x.agent x.dom a data (data.length / 64 + 2)
      else if isFlash a then s.count R.FLC_STATUS_WIGNORED else s.putBytes a data)
  else if isDdr a then s.readDdr x.agent x.dom a n (n / 64 + 2)
  else if isFlash a then let r := if type = 2 then s.fetchFlash a n (n / 32 + 2) else s.readFlash a n; (r.1, 0, r.2)
  else (s.bytes a n, 0, s)

/-- The master of a transfer receives its answer (R36). -/
def State.answer (s : State) (agent : Nat) (data : List Byte) : State := { s with reply := some { agent := agent, data := data } }

/-- A write touches the instruction memory of a core. -/
def hitsInstr (type a n : Nat) : Bool :=
  type == 1 && isLocal a && decide (0 < n) && decide (0x20000 < (a - 0xE800000000) % 0x40000 + n)

/-- A write of instruction memory that never happens (R219): one of any agent but the STB, which writes a spire under reload. -/
def State.instrClosed (s : State) (agent type a n : Nat) : Bool :=
  hitsInstr type a n && !(agent == 0x2D0 && (s.spire ((a - 0xE800000000) / 0x400000)).reload == .loading)

/-- A unit issues a transfer: it is judged (R35), a forbidden one is answered silently and told to the FCU (R36), an allowed
one crosses the bus (R33) and is served. -/
def State.issue (s : State) (x : Xfer) (type a n : Nat) (data : List Byte) : List Byte × Nat × State :=
  if s.instrClosed x.agent type a n then ([], 0, s) else
  match s.judge x type a n with
  | some b => (if type = 1 then [] else zeros n, 0, s.violation x type b)
  | none =>
    let e := s.busTake x.agent
    e.2.crossed x type a n data e.1 (fun s => s.unitServe x)

/-- A READ of `n` bytes: the data the master receives, the first failing line outcome and the state after. -/
def State.rdO (s : State) (x : Xfer) (a n : Nat) : List Byte × Nat × State := s.issue x 0 a n []

/-- A READ, without the line outcome. -/
def State.rd (s : State) (x : Xfer) (a n : Nat) : List Byte × State := ((s.rdO x a n).1, (s.rdO x a n).2.2)

/-- A WRITE. -/
def State.wr (s : State) (x : Xfer) (a : Nat) (bs : List Byte) : State := (s.issue x 1 a bs.length bs).2.2

/-- A unit goes on behind a read of `n` bytes at `a`: where that reaches the bank under operation without AUTOSUSP it waits (R503),
and `c` is taken up when it can be served. -/
def State.afterBank (s : State) (x : Xfer) (a n : Nat) (c : FlUnit) (f : State → State) : State :=
  if s.flashWaits a ∧ (s.judge x 0 a n).isNone then { s with flc := { s.flc with held := s.flc.held ++ [(a, c)] } } else f s

/-- The unit whose read is served next, taken. -/
def State.heldNext (s : State) : Option (FlUnit × State) :=
  match s.flc.held with
  | [] => none
  | (a, c) :: rest => if s.flashWaits a then none else some (c, { s with flc := { s.flc with held := rest } })

/-! ### Core addresses (R207, R209, R230) -/

/-- Regions of the core address map (R207): 0 image area, 1 scratch, 2 the hole, 3 instruction memory, 4 shared SRAM,
5 any other. -/
def coreRegion (a : Nat) : Nat :=
  if a < 0x10000 then 0 else if a < 0x18000 then 1 else if a < 0x20000 then 2 else if a < 0x30000 then 3
  else if 0x10000000 ≤ a ∧ a < 0x10400000 then 4 else 5

/-- A core address as a physical one (R230): the scratch range reaches the bank of the tier (R209). An address outside
the image area, the scratch range, the instruction memory and the SRAM has none. -/
def corePhys (c tier a : Nat) : Option Nat :=
  match coreRegion a with
  | 0 => some (coreAddr c a)
  | 1 => some (coreAddr c (a + tier * 0x8000))
  | 3 => some (coreAddr c a)
  | 4 => some (sramAddr (c / 16) (a - 0x10000000))
  | _ => none

/-- `n` bytes from core address `a` lie wholly within the image area. -/
def inImage (a n : Nat) : Bool := a + n ≤ 0x10000
/-- `n` bytes from core address `a` lie wholly within the scratch range. -/
def inScratch (a n : Nat) : Bool := 0x10000 ≤ a && a + n ≤ 0x18000
/-- `n` bytes from core address `a` lie wholly within the spire SRAM. -/
def inSram (a n : Nat) : Bool := 0x10000000 ≤ a && a + n ≤ 0x10400000

end Sys2Proof.Machine
end

