-- ==== Sys2Proof/Machine/Flash.lean ====
section
/-!
DEFINITION. Sys2Proof/Machine/Flash.lean: the flash controller (spec/16_flash.md R491 to R514): programs, erases, suspension,
stops, the information area and the ledger; commands PROGRAM, ERASE, BLANK_CHECK, SUSPEND, RESUME, SWAP, FLASH_PULSE_END,
BLANK_CHECK_END, HOLDOFF_EXPIRY, INFO_RECORD_WRITE and LEDGER_COMPACTION.
-/

namespace Sys2Proof.Machine

/-- Change the FLC. -/
def State.setFlc (s : State) (f : Flc) : State := { s with flc := f }

/-- The physical address of a flash offset. -/
def flashAddr (off : Nat) : Nat := 0xF000000000 + off

/-! ### The sector ledger (R507) -/

/-- The table after an entry: a sector with an ERASE_BEGIN and no later ERASE_END is INCOMPLETE (2), one with an ERASE_END
COMPLETE (1). An entry whose check fails is ignored. -/
def ledgerApply (l : List (Nat × (Nat × Nat))) (e : LedgerE) : List (Nat × (Nat × Nat)) :=
  if e.ok then tabSet (0, 0) l e.sector (if e.ends then 1 else 2, e.count) else l

/-- What the scan finds in a half. -/
def LedgerHalf.scan (h : LedgerHalf) : List (Nat × (Nat × Nat)) := h.entries.foldl ledgerApply (h.snap.getD [])

/-- The entries a half holds, a snapshot being one for each of the 8,192 sectors. -/
def LedgerHalf.used (h : LedgerHalf) : Nat := h.entries.length + (if h.snap.isSome then 8192 else 0)

/-- The current half. -/
def Flc.cur (f : Flc) : LedgerHalf := tabGet {} f.halves f.half

/-- The current half is full: of its 16,384 entries fewer than the two of an erase are left. -/
def Flc.ledgerFull (f : Flc) : Bool := decide (16383 ≤ f.cur.used)

/-- An entry is appended to the ledger. -/
def State.ledgerAdd (s : State) (e : LedgerE) : State :=
  let h := { s.flc.cur with entries := s.flc.cur.entries ++ [e] }
  s.setFlc { s.flc with halves := tabSet {} s.flc.halves s.flc.half h, ledger := ledgerApply s.flc.ledger e }

/-- The ERASE_BEGIN entry of a sector. -/
def State.eraseBegins (s : State) (n : Nat) (ok : Bool) : State :=
  s.ledgerAdd { sector := n, ends := false, count := (s.sector n).2, ok := ok }

/-- The ERASE_END entry of a sector, its count raised (R508). -/
def State.eraseEnds (s : State) (n : Nat) (ok : Bool) : State :=
  let c := satInc 24 (s.sector n).2
  let s1 := s.ledgerAdd { sector := n, ends := true, count := c, ok := ok }
  if ok ∧ (s.sector n).2 < 100000 ∧ 100000 ≤ c then s1.flcEvent 308 else s1

/-- The scan of a boot (R507). -/
def State.ledgerScan (s : State) : State := (s.setFlc { s.flc with ledger := s.flc.cur.scan }).set R.FLC_STATUS_SCANNED 1

/-! ### The information area (R493, R494) -/

/-- The first sector of a value's pair, or its only sector. -/
def InfoVal.base : InfoVal → Nat
  | .twin _ => 0
  | .mins _ _ => 6
  | .cmap _ => 8
  | .srk _ => 10
  | .csa _ => 11

/-- The bytes of a record that its check covers. The spec gives no layout but that of R510; the check of every record is taken
as that of R510, a CRC-32 (DESIGN CHOICE, log 33). -/
def InfoRec.bytes (r : InfoRec) : List Byte :=
  toLE 4 r.seq ++ toLE 6 r.ts ++ (match r.val with
    | .twin t => toLE 1 t
    | .mins w l => toLE 4 w ++ l.flatMap (fun e => toLE 1 e.1 ++ toLE 4 e.2)
    | .cmap m => m.flatMap (fun e => toLE 2 e.1 ++ toLE 1 e.2)
    | .srk v => toLE 4 v
    | .csa l => l.flatMap (fun e => toLE 1 e.1 ++ toLE 4 e.2))

/-- A record is valid: its check passes and its commit word decodes to the pattern. -/
def InfoRec.valid (r : InfoRec) : Bool := r.check == crc32 r.bytes && decide (r.commit ≤ 3)

/-- The sectors of a value. -/
def infoSectors (b : Nat) : List Nat := if b = 10 then [10] else [b, b + 1]

/-- The record in effect of a value: the valid one with the highest sequence number. -/
def Flc.best (f : Flc) (b : Nat) : Option InfoRec :=
  ((infoSectors b).flatMap (fun k => tabGet [] f.sects k)).foldl (fun (m : Option InfoRec) r =>
    if ¬ r.valid then m else match m with
      | some x => if x.seq ≤ r.seq then some r else m
      | none => some r) none

/-- A value takes effect. -/
def Flc.take (f : Flc) (r : InfoRec) : Flc :=
  match r.val with
  | .twin t => { f with twin := t, seq := r.seq }
  | .mins w l => { f with minW := w, minD := l }
  | .cmap m => { f with cmap := m }
  | .srk v => { f with srk := some v }
  | .csa l => { f with csa := l }

/-- The FLC reads every value of the information area. -/
def Flc.reads (f : Flc) : Flc :=
  [0, 6, 8, 10, 11].foldl (fun (f : Flc) b => match f.best b with | some r => f.take r | none => f)
    { f with twin := 0, seq := 0, minW := 0, minD := [], cmap := [], srk := none, csa := [] }

/-- A sector of the information area is erased. -/
def Flc.infoErase (f : Flc) (k : Nat) : Flc :=
  { f with sects := tabDel f.sects k, ierase := tabSet 0 f.ierase k (satInc 24 (tabGet 0 f.ierase k)) }

/-- The sector that takes the next record of a pair, erased where the other one is full. I10 alone holds its value. -/
def Flc.infoSector (f : Flc) (b : Nat) : Nat × Flc :=
  let n (k : Nat) : Nat := (tabGet [] f.sects k).length
  let cap := Config.infoSlots b + 1
  let top (k : Nat) : Nat := (tabGet [] f.sects k).foldl (fun m r => max m r.seq) 0
  if b = 10 then (10, if n 10 = 0 then f else f.infoErase 10)
  else if n b < cap ∧ (0 < n b ∨ n (b + 1) = 0 ∨ cap ≤ n (b + 1)) then (b, f)
  else if 0 < n (b + 1) ∧ n (b + 1) < cap then (b + 1, f)
  else if n (b + 1) = 0 ∨ top (b + 1) < top b then (b + 1, f.infoErase (b + 1))
  else (b, f.infoErase b)

/-- A record goes into the next free slot. -/
def Flc.place (f : Flc) (r : InfoRec) : Flc :=
  let k := f.infoSector r.val.base
  { k.2 with sects := tabIns k.2.sects k.1 (tabGet [] k.2.sects k.1 ++ [r]) }

/-- The value that an owner's write makes. -/
def Flc.change (f : Flc) : InfoW → InfoVal
  | .twin t => .twin t
  | .minWhole v => .mins v f.minD
  | .minDome d v => .mins f.minW (tabSet 0 f.minD d v)
  | .cmap m => .cmap m
  | .srk v => .srk v
  | .csa a v => .csa (tabSet 0 f.csa a v)

/-- The record that an owner's write makes, whole, at a tick of TSTAMP. -/
def Flc.record (f : Flc) (w : InfoW) (ts : Nat) : InfoRec :=
  let v := f.change w
  let r : InfoRec := { seq := (match f.best v.base with | some r => r.seq + 1 | none => 1) % 2 ^ 32, ts := ts, val := v, check := 0, commit := 0 }
  { r with check := crc32 r.bytes }

/-- The commit word of a record has been programmed: the record is valid and its value in effect. -/
def State.infoDone (s : State) (w : InfoW) : State :=
  let r := s.flc.record w (s.get R.TIME_TSTAMP_TICKS)
  s.setFlc ((s.flc.place r).take r)

/-- The write of a record is cut (R506): before its commit word it is ignored, and in it the commit word decodes in any way. -/
def State.infoCut (s : State) (w : InfoW) (commit : Bool) : State :=
  let r := s.flc.record w (s.get R.TIME_TSTAMP_TICKS)
  if commit then (let d := s.draw 8; d.2.setFlc (d.2.flc.place { r with commit := d.1 % 5 }))
  else (let d := s.draw 32; d.2.setFlc (d.2.flc.place { r with check := d.1, commit := 4 }))

/-- Ask for a record of the information area. -/
def State.infoAsk (s : State) (w : InfoW) : State := s.setFlc { s.flc with info := s.flc.info ++ [w] }

/-- Nothing internal runs any more. -/
def State.intEnd (s : State) : State := (s.setFlc { s.flc with int := none }).set R.FLC_STATUS_INTERNAL 0

/-- A record that was asked for is written whole, unless a keep operation runs or is suspended (R502). -/
def State.infoFinish (s : State) (w : InfoW) : State :=
  if s.flc.op.isSome ∨ ¬ s.flc.info.contains w then s
  else ((s.infoDone w).setFlc { (s.infoDone w).flc with info := s.flc.info.erase w }).intEnd

/-- INFO_RECORD_WRITE (R494, R502): the oldest record that waits is written. -/
def State.infoWrite (s : State) : State :=
  match s.flc.info with
  | [] => s
  | w :: _ => s.infoFinish w

/-- A committed snapshot goes into the other half of the ledger, and the full one is erased (R507). -/
def State.ledgerTurn (s : State) : State :=
  let f := s.flc
  let old := [2 + 2 * f.half, 3 + 2 * f.half]
  s.setFlc { f with halves := [(1 - f.half, { snap := some f.ledger, entries := [] })], half := 1 - f.half
                    ierase := old.foldl (fun l k => tabSet 0 l k (satInc 24 (tabGet 0 l k))) f.ierase }

/-- LEDGER_COMPACTION (R507): the current half is full. -/
def State.ledgerCompact (s : State) : State := if s.flc.op.isNone ∧ s.flc.ledgerFull then s.ledgerTurn.intEnd else s

/-- Five years of TSTAMP, of 365 days and 6 hours. -/
def fiveYears : Nat := 157788000 * 32768

/-- At a main power-up the FLC reads its values, writes a record again whose commit word had corrected bits (R494), and one
written more than five years of TSTAMP earlier anew (R508). -/
def State.infoPowerUp (s : State) : State :=
  let now := s.get R.TIME_TSTAMP_TICKS
  let s1 := s.setFlc s.flc.reads
  [0, 6, 8, 10, 11].foldl (fun (s : State) b =>
    match s.flc.best b with
    | none => s
    | some r =>
      if r.ts + fiveYears < now then
        let q := { r with seq := (r.seq + 1) % 2 ^ 32, ts := now, commit := 0 }
        let q := { q with check := crc32 q.bytes }
        s.setFlc ((s.flc.place q).take q)
      else if r.commit ≠ 0 then s.setFlc (s.flc.place { r with commit := 0 })
      else s) s1

/-! ### Cells -/

/-- Forget the line conditions of a range. -/
def State.cleanLines (s : State) (off n : Nat) : State :=
  s.setFlc { s.flc with bad := s.flc.bad.filter (fun e => e.1 < flashAddr off || flashAddr (off + n) ≤ e.1) }

/-- Every bit of a range is 1, with no error (R499). -/
def State.blank (s : State) (off n : Nat) : Bool :=
  s.mem.all (fun c => c.1 < flashAddr off || flashAddr (off + n) ≤ c.1)
    && s.flc.bad.all (fun e => e.1 < flashAddr off || flashAddr (off + n) ≤ e.1)

/-- Erased cells. -/
def State.eraseCells (s : State) (off n : Nat) : State := (s.dropBytes (flashAddr off) n).cleanLines off n

/-- Free conditions of `k` lines from a line up. -/
def State.freeLines (s : State) (line : Nat) : Nat → State
  | 0 => s
  | k + 1 =>
    let d := s.draw 8
    (d.2.setFlc { d.2.flc with bad := tabSet 0 d.2.flc.bad line (d.1 % 5) }).freeLines (line + 32) k

/-- `k` free bytes from an address up. -/
def State.freeBytes (s : State) (a : Nat) : Nat → State
  | 0 => s
  | k + 1 => let d := s.draw 8; (d.2.putByte a (BitVec.ofNat 8 d.1)).freeBytes (a + 1) k

/-- A target whose cells are indeterminate (R499, R506): free bytes and free line conditions. -/
def State.indeterminate (s : State) (off n : Nat) : State := (s.freeBytes (flashAddr off) n).freeLines (flashAddr off) (n / 32)

/-! ### Reads that wait (R503) -/

/-- A read waits for the operation in its bank. -/
def State.flashWait (s : State) (w : FlWait) : State := s.setFlc { s.flc with wait := s.flc.wait ++ [w] }

/-- A read that waited is served. -/
def State.flashServe (s : State) (w : FlWait) : State :=
  let x : Xfer := { agent := w.agent, dom := w.dom, epoch := w.epoch }
  let r := s.crossed x w.type w.addr w.len [] w.err (fun s => s.unitServe x)
  r.2.2.answer w.agent r.1

/-- The reads that no longer wait are served, in their order. -/
def State.flashServeAll (s : State) : State :=
  (s.flc.wait.filter (fun w => !s.flashWaits w.addr)).foldl State.flashServe
    (s.setFlc { s.flc with wait := s.flc.wait.filter (fun w => s.flashWaits w.addr) })

/-! ### Commands (R501) -/

/-- A command is refused with a code: vector 305. -/
def State.flcRefuse (s : State) (code : Nat) : State := (s.set R.FLC_RESULT_CODE code).flcEvent 305

/-- A keep operation ends with a code and a vector (R514). -/
def State.flcEndV (s : State) (code v : Nat) : State :=
  let s1 := s.setFlc { s.flc with op := none }
  let s2 := ((s1.set R.FLC_STATUS_BUSY 0).set R.FLC_STATUS_SUSPENDED 0).set R.FLC_STATUS_AUTOSUSPENDED 0
  ((s2.set R.FLC_RESULT_CODE code).flcEvent v).flashServeAll

/-- A keep operation ends with a code. -/
def State.flcEnd (s : State) (code : Nat) : State := s.flcEndV code (if code = 0 then 304 else 305)

/-- A keep operation begins. -/
def State.flcBegin (s : State) (o : FlOp) : State :=
  (((s.setFlc { s.flc with op := some o }).set R.FLC_STATUS_BUSY 1).set R.FLC_STATUS_BANK (o.addr / 0x8000000)).set R.FLC_RESULT_PULSES 0

/-- What the fetch structures hold of a page or sector is dropped (R497). -/
def State.fetchDrop (s : State) (off n : Nat) : State :=
  let out (e : Nat × List Byte) : Bool := e.1 < flashAddr off || flashAddr (off + n) ≤ e.1
  s.setFlc { s.flc with pre := s.flc.pre.filter out, cache := s.flc.cache.filter out }

/-- A sector is erased at once, its ledger entries with it, for which a full half first gives way (R507); the fetch structures drop
it (R497). -/
def State.erased (s : State) (off : Nat) : State :=
  let s1 := if s.flc.ledgerFull then s.ledgerTurn else s
  (((s1.eraseBegins (off / 0x10000) true).eraseCells off 0x10000).eraseEnds (off / 0x10000) true).fetchDrop off 0x10000

/-- Every command but SUSPEND and RESUME is refused while an operation runs or is suspended, before the scan has ended and
while the information area is written (R501, R502). -/
def State.flcBusy (s : State) : Bool := s.flc.op.isSome || !s.is R.FLC_STATUS_SCANNED || s.flc.int.isSome || s.flc.ledgerFull

/-- A target lies in the twin that runs. -/
def State.inTwin (s : State) (off : Nat) : Bool := off < 0x800000 && off / 0x400000 == s.get R.RST_BOOT_TWIN

/-- PROGRAM (R498, R499): HALF 0 a page, 1 or 2 the lower or upper half of the page of FLC_ADDR. -/
def State.flcProgram (s : State) (half : Nat) : State :=
  let a := s.get R.FLC_ADDR_OFFSET
  let n := if half = 0 then 512 else 256
  let off := if half = 0 then a else a / 512 * 512 + (half - 1) * 256
  let src := s.get R.FLC_SRC_ADDR * 64
  if s.flcBusy then s.flcRefuse 0x0601
  else if 2 < half ∨ a % n ≠ 0 ∨ ¬ isDdr (src + n - 1) then s.flcRefuse 0x0603
  else if s.inTwin off then s.flcRefuse 0x0604
  else if (s.sector (off / 0x10000)).1 = 2 then s.flcRefuse 0x0607
  else if ¬ s.blank off n then s.flcRefuse 0x0602
  else
    let r := s.rd { agent := 0x2B0, dom := 0, epoch := s.get R.ART_EPOCH_CURRENT } src n
    (r.2.fetchDrop (off / 512 * 512) 512).flcBegin { op := 1, addr := off, size := n, data := r.1, phase := 1 }

/-- ERASE (R500). -/
def State.flcErase (s : State) : State :=
  let a := s.get R.FLC_ADDR_OFFSET
  if s.flcBusy then s.flcRefuse 0x0601
  else if a % 0x10000 ≠ 0 then s.flcRefuse 0x0603
  else if s.inTwin a then s.flcRefuse 0x0604
  else (s.fetchDrop a 0x10000).flcBegin { op := 2, addr := a, size := 0x10000 }

/-- BLANK_CHECK (R500). -/
def State.flcBlankCheck (s : State) : State :=
  let a := s.get R.FLC_ADDR_OFFSET
  if s.flcBusy then s.flcRefuse 0x0601
  else if a % 0x10000 ≠ 0 then s.flcRefuse 0x0603
  else s.flcBegin { op := 3, addr := a, size := 0x10000 }

/-- SUSPEND (R503): the reads that wait are served. -/
def State.flcSuspend (s : State) : State :=
  if ¬ s.is R.FLC_STATUS_SCANNED then s.flcRefuse 0x0601
  else if s.flc.op.isNone ∨ s.is R.FLC_STATUS_SUSPENDED ∨ s.is R.FLC_STATUS_AUTOSUSPENDED then s.flcRefuse 0x0608
  else (((s.set R.FLC_STATUS_SUSPENDED 1).next R.FLC_SUSP_COUNT_COUNT).set R.FLC_RESULT_CODE 0).flashServeAll

/-- RESUME (R503). -/
def State.flcResume (s : State) : State :=
  if ¬ s.is R.FLC_STATUS_SCANNED ∨ s.flc.int.isSome then s.flcRefuse 0x0601
  else if s.is R.FLC_STATUS_SUSPENDED then (s.set R.FLC_STATUS_SUSPENDED 0).set R.FLC_RESULT_CODE 0
  else s.flcRefuse 0x0609

/-- SWAP (R510). -/
def State.flcSwap (s : State) (twin : Nat) : State :=
  if s.flcBusy then s.flcRefuse 0x0601 else s.flcBegin { op := 6, addr := 0, twin := twin % 2 }

/-! ### Progress -/

/-- The operation is suspended, or a stop cause of a reset or of main power's end keeps it from any further pulse. -/
def State.flcStill (s : State) : Bool :=
  s.is R.FLC_STATUS_SUSPENDED || s.is R.FLC_STATUS_AUTOSUSPENDED || s.flc.halted

/-- The ledger entry or the record that an operation has in hand is programmed: an erase goes on to its pulses, or ends; a SWAP
goes on to the commit word. -/
def State.flcEntry (s : State) (o : FlOp) : State :=
  let on : State := s.setFlc { s.flc with op := some { o with phase := 1 } }
  if o.op = 6 then on
  else if o.phase = 0 then on.eraseBegins (o.addr / 0x10000) true
  else (s.eraseEnds (o.addr / 0x10000) true).flcEnd 0

/-- FLASH_PULSE_END (R499, R500, R504): a pulse and its verify end. -/
def State.flcPulse (s : State) (verified : Bool) : State :=
  match s.flc.op with
  | none => s
  | some o =>
    if s.flcStill ∨ o.op = 3 then s
    else if o.phase ≠ 1 then (if verified then s.flcEntry o else s)
    else
      let n := o.pulses + 1
      let o1 := { o with pulses := n }
      let s1 := (s.setFlc { s.flc with op := some o1 }).set R.FLC_RESULT_PULSES (min n 255)
      if verified then
        (if o.op = 1 then ((s1.putBytes (flashAddr o.addr) o.data).cleanLines o.addr o.size).flcEnd 0
         else if o.op = 2 then (s1.eraseCells o.addr 0x10000).setFlc { (s1.eraseCells o.addr 0x10000).flc with op := some { o1 with phase := 2 } }
         else (s1.infoDone (.twin o.twin)).flcEnd 0)
      else if o.op = 6 then s1
      else
        let s2 := s1.indeterminate o.addr o.size
        if o.op = 1 ∧ 40 ≤ n then s2.flcEnd 0x0605
        else if o.op = 2 ∧ 200 ≤ n then s2.flcEnd 0x0606
        else s2

/-- BLANK_CHECK_END (R500). -/
def State.flcBlankEnd (s : State) : State :=
  match s.flc.op with
  | some o => if o.op = 3 ∧ ¬ s.flcStill then s.flcEnd (if s.blank o.addr o.size then 0 else 0x0602) else s
  | none => s

/-- HOLDOFF_EXPIRY (R503): a read of the bank on the expiry edge wins (R23). -/
def State.flcHoldoff (s : State) : State :=
  if s.is R.FLC_STATUS_AUTOSUSPENDED ∧ s.past (s.flc.lastRead + (1000 * max 1 (s.get R.FLC_CTRL_HOLDOFF_US) : Nat)) then
    s.set R.FLC_STATUS_AUTOSUSPENDED 0
  else s

/-- What the FLC does by itself: the entry or record an operation has in hand is programmed, and reads that need not wait any
more are served; with no keep operation a full ledger is compacted and the oldest record asked for begun, and goes on to its
commit word. -/
def State.flcTick (s : State) : State :=
  let s := s.flashServeAll
  let int (s : State) (k : FlInt) : State := (s.setFlc { s.flc with int := some k }).set R.FLC_STATUS_INTERNAL 1
  if s.flc.halted then s
  else match s.flc.op, s.flc.int with
    | some o, _ => if (o.op = 2 ∨ o.op = 6) ∧ o.phase ≠ 1 ∧ ¬ s.flcStill then s.flcEntry o else s
    | none, some (.record false) => int s (.record true)
    | none, some _ => s
    | none, none =>
      if s.flc.ledgerFull then int s .compact else if s.flc.info.isEmpty then s else int s (.record false)

/-! ### Stops (R505, R506) -/

/-- What a stop leaves of an operation whose pulse, or entry, is in progress. -/
def State.flcCut (s : State) (o : FlOp) : State :=
  if o.op = 1 then s.indeterminate o.addr o.size
  else if o.op = 2 then
    (if o.phase = 0 then s.eraseBegins (o.addr / 0x10000) false
     else if o.phase = 1 then s.indeterminate o.addr o.size
     else s.eraseEnds (o.addr / 0x10000) false)
  else if o.op = 6 then s.infoCut (.twin o.twin) (o.phase == 1)
  else s

/-- A stop cause (R505, R506): the pulse in progress ends where it stands, and the operation with it; a suspended one ends in
the state of its last completed pulse, a SWAP's record without its commit word with it. The operation's code is a free value:
R512 gives none. A record being written for an owner is cut too, and asked for again. `halt`: no pulse is applied any more. -/
def State.flcStop (s : State) (halt : Bool) : State :=
  let s1 := match s.flc.int, s.flc.info with
    | some (.record c), w :: _ => (s.infoCut w c).intEnd
    | some _, _ => s.intEnd
    | none, _ => s
  let s2 := s1.setFlc { s1.flc with halted := s1.flc.halted || halt }
  match s2.flc.op with
  | none => s2
  | some o =>
    let s3 := if ¬ s.flcStill then s2.flcCut o else if o.op = 6 ∧ o.phase = 1 then s2.infoCut (.twin o.twin) false else s2
    let d := s3.draw 16
    d.2.flcEndV d.1 305

/-! ### Twins (R121, R496, R511) -/

/-- The lines of a twin with errors, ascending. -/
def State.twinBad (s : State) (t : Nat) : List (Nat × Nat) :=
  s.flc.bad.filter (fun e => flashAddr (t * 0x400000) ≤ e.1 && e.1 < flashAddr (t * 0x400000) + 0x400000)

/-- The boot ROM reads a twin line by line: errors are recorded as in any read (R496). -/
def State.twinRead (s : State) (t : Nat) : State := (s.twinBad t).foldl (fun (s : State) e => (s.flashLine e.1).2) s

/-- The version of the image in a twin, where it verifies: a twin with an uncorrectable line does not (R496). -/
def State.twinVersion (s : State) (t : Nat) : Option Nat :=
  let lo := flashAddr (t * 0x400000)
  if (s.twinBad t).any (fun e => e.2 == 4) then none
  else Config.twinVersion ((s.mem.filter (fun c => lo ≤ c.1 && c.1 < lo + 0x400000)).map (fun c => (c.1 - lo, c.2)))

/-- The flash offset that 256 bytes of a recovery image go to: in the twin the pointer does not name. -/
def State.recoverAt (s : State) (off : Nat) : Nat := (1 - s.flc.twin) * 0x400000 + off

/-- The boot ROM programs 256 bytes of a recovery image, erasing the sector at its start (R511); none where the half is not
blank. -/
def State.recoverHalf (s : State) (off : Nat) (data : List Byte) : Option State :=
  let a := s.recoverAt off
  let s1 := if off % 0x10000 = 0 then s.erased a else s
  if s1.blank a 256 then some (s1.putBytes (flashAddr a) (fitBytes 256 data)) else none

/-- A stop while the boot ROM programs a recovery half (R506): the half is indeterminate; where its sector was first to be
erased, the sector is INCOMPLETE. -/
def State.recoverCut (s : State) (off : Nat) : State :=
  let a := s.recoverAt off
  if off % 0x10000 = 0 then (s.eraseBegins (a / 0x10000) true).indeterminate a 0x10000 else s.indeterminate a 256

/-- The boot ROM erases a recovery image (R124). -/
def State.recoverErase (s : State) : State :=
  (List.range 64).foldl (fun s k => s.erased ((1 - s.flc.twin) * 0x400000 + 0x10000 * k)) s

/-- The pointer names a twin from now on (R124, R510). -/
def State.pointTwin (s : State) (t : Nat) : State := s.infoDone (.twin t)

end Sys2Proof.Machine
end

