-- ==== Sys2Proof/Machine/Jrn.lean ====
section
/-!
DEFINITION. Sys2Proof/Machine/Jrn.lean: the journal (spec/06_jobs_promises.md R196 to R202): positions, records, blocks,
opening, export and sealing; commands JOURNAL_OPEN, BLOCK_CLOSE, JOURNAL_EXPORT and JOURNAL_SEAL.
-/

namespace Sys2Proof.Machine

/-- Change the journal unit. -/
def State.setJrn (s : State) (j : Jrn) : State := { s with jrn := j }

/-- The positions of the ring (R196). -/
def State.jrnSize (s : State) : Nat := s.get R.JRN_SIZE_UNITS * 16384

/-- Records written and not exported (R202). -/
def State.jrnHeld (s : State) : Nat :=
  (s.get R.JRN_NEXT_SEQ_SEQ + 2 ^ 64 - (s.get R.JRN_EXPORT_SEQ + 1) % 2 ^ 64) % 2 ^ 64

/-- Positions held back for a SEAL record and its block (R196): two, until they are used as the journal is sealed. -/
def State.jrnHoldBack (s : State) : Nat :=
  if ¬ s.is R.JRN_STATUS_SEALED then 2 else if s.jrn.block.isEmpty then 0 else 1

/-- JRN_FREE and what follows from it (R196, R206): vectors 384 and 385 as it falls below JRN_LOW and below two. -/
def State.jrnFree (s : State) : State :=
  let was := s.get R.JRN_FREE_POSITIONS
  let now := s.jrnSize - s.jrnHoldBack - s.jrn.reserved - s.jrnHeld
  let s1 := (s.set R.JRN_FREE_POSITIONS now).setB R.JRN_STATUS_FULL (decide (now < 2))
  let low := s.get R.JRN_LOW_POSITIONS
  let s2 := if now < low ∧ low ≤ was then s1.raise 384 else s1
  if now < 2 ∧ 2 ≤ was then s2.raise 385 else s2

/-- The JRN agent's transfers: class FIXED, domain 0. -/
def State.jrnX (s : State) : Xfer := { agent := 0x2A3, dom := 0, epoch := s.get R.ART_EPOCH_CURRENT }

/-- Write a record at the next position (R197). -/
def State.jrnWrite (s : State) (rec_ : List Byte) : State :=
  let s1 := (s.wr s.jrnX (s.get R.JRN_BASE_ADDR + 128 * s.jrn.pos) rec_).next R.JRN_NEXT_SEQ_SEQ
  s1.setJrn { s1.jrn with pos := (s.jrn.pos + 1) % max 1 s.jrnSize }

/-- Bytes of eight 32-bit registers. -/
def State.words8 (s : State) (f : Nat → Fld) : List Byte := (List.range 8).flatMap (fun i => toLE 4 (s.get (f i)))

/-- Set eight 32-bit registers from 32 bytes. -/
def State.setWords8 (s : State) (f : Nat → Fld) (bs : List Byte) : State :=
  (List.range 8).foldl (fun s i => s.set (f i) (fld bs (4 * i) 4)) s

/-- The open block closes (R199): its BLOCK record is written and the chain extended. -/
def State.jrnClose (s : State) : State :=
  if s.jrn.block.isEmpty then s else
  let seq := s.get R.JRN_NEXT_SEQ_SEQ
  let root := sha256 s.jrn.block.flatten
  let chain := sha256 (s.jrn.prev ++ root ++ toLE 8 seq)
  let b := [2, BitVec.ofNat 8 s.jrn.block.length] ++ zeros 6 ++ toLE 8 seq ++ toLE 8 s.jrn.first ++ toLE 8 s.nowNs ++ root ++ chain
    ++ zeros 32
  let s1 := (s.jrnWrite b).setWords8 R.JRN_CHAIN_WORD chain
  (s1.setJrn { s1.jrn with block := [], jobRecs := 0, prev := chain, lastBlk := seq + 1, reserved := s1.jrn.reserved - s.jrn.jobRecs }).jrnFree

/-- A record joins the open block, which closes at 64 records. -/
def State.jrnAdd (s : State) (rec_ : List Byte) (isJob : Bool) : State :=
  let first := s.jrn.block.isEmpty
  let seq := s.get R.JRN_NEXT_SEQ_SEQ
  let s1 := s.jrnWrite rec_
  let j := s1.jrn
  let s2 := s1.setJrn { j with
    block := j.block ++ [rec_]
    first := if first then seq else j.first
    start := if first then s.tnow else j.start
    jobRecs := j.jobRecs + (if isJob then 1 else 0)
    reserved := j.reserved - (if isJob then 1 else 0) }
  if s2.jrn.block.length = 64 then s2.jrnClose else s2.jrnFree

/-- BLOCK_CLOSE (R199): 1 µs has passed since the block's first record. -/
def State.blockClose (s : State) : State :=
  if ¬ s.jrn.block.isEmpty ∧ s.jrn.start + 1000 ≤ s.tnow then s.jrnClose else s

/-- RST_CAUSE as one word. -/
def State.rstCause (s : State) : Nat :=
  s.get R.RST_CAUSE_POWER + 2 * s.get R.RST_CAUSE_NRESET + 4 * s.get R.RST_CAUSE_MGT + 8 * s.get R.RST_CAUSE_FCU
    + 16 * s.get R.RST_CAUSE_KEEP + 32 * s.get R.RST_CAUSE_WATCHDOG + 64 * s.get R.RST_CAUSE_BEDROCK

/-- JOURNAL_OPEN (R196, R200). -/
def State.jrnOpen (s : State) : State :=
  let u := s.get R.JRN_SIZE_UNITS
  if s.is R.JRN_STATUS_OPEN ∨ s.is R.JRN_STATUS_SEALED ∨ u < 1 ∨ 32768 < u then s else
  let v := s.is R.JRN_SEAL_INFO_VALID
  let seq := if v then s.get R.JRN_SEAL_SEQ_SEQ + 1 else 0
  let prev := if v then s.words8 R.JRN_SEAL_CHAIN_WORD else zeros 32
  let flags := b2n v + 2 * b2n (s.is R.RST_CAUSE_BEDROCK)
  let s1 := ((s.set R.JRN_STATUS_OPEN 1).set R.JRN_NEXT_SEQ_SEQ seq).set R.JRN_EXPORT_SEQ (if seq = 0 then 2 ^ 64 - 1 else seq - 1)
  let s2 := s1.setJrn { reserved := 0, prev := prev }
  let g := [3, BitVec.ofNat 8 flags] ++ zeros 6 ++ toLE 8 seq ++ toLE 8 (if v then s.get R.JRN_SEAL_SEQ_SEQ else 0)
    ++ toLE 8 (if v then s.get R.JRN_SEAL_EXP_SEQ else 0) ++ toLE 8 s.nowNs ++ toLE 4 s.rstCause ++ zeros 20 ++ prev ++ zeros 32
  ((s2.jrnFree).jrnAdd g false).set R.JRN_SEAL_INFO_VALID 0

/-- JOURNAL_EXPORT (R202): a write of JRN_EXPORT. -/
def State.jrnExport (s : State) (seq : Nat) : State :=
  let cur := s.get R.JRN_EXPORT_SEQ
  if seq < s.jrn.lastBlk ∧ (cur = 2 ^ 64 - 1 ∨ cur ≤ seq) then (s.set R.JRN_EXPORT_SEQ seq).jrnFree
  else (s.set R.JRN_STATUS_BADEXP 1).raise 387

/-- The journal is sealed (R201) with a cause: 1 ordered HOLD, 2 forced transition, 3 device reset. -/
def State.jrnSeal (s : State) (cause : Nat) : State :=
  if ¬ s.is R.JRN_STATUS_OPEN then s else
  let r := [4, BitVec.ofNat 8 cause] ++ zeros 6 ++ toLE 8 (s.get R.JRN_NEXT_SEQ_SEQ) ++ toLE 8 (s.get R.JRN_EXPORT_SEQ)
    ++ toLE 8 s.nowNs ++ zeros 96
  let s1 := ((s.set R.JRN_STATUS_SEALED 1).jrnAdd r false).jrnClose
  let s2 := ((s1.set R.JRN_SEAL_SEQ_SEQ (s1.get R.JRN_NEXT_SEQ_SEQ - 1)).set R.JRN_SEAL_EXP_SEQ (s1.get R.JRN_EXPORT_SEQ)).setWords8
    R.JRN_SEAL_CHAIN_WORD s1.jrn.prev
  let s3 := (s2.set R.JRN_SEAL_INFO_VALID 1).set R.JRN_SEAL_INFO_CAUSE cause
  (s3.set R.JRN_STATUS_OPEN 0).raise 386

end Sys2Proof.Machine
end

