-- ==== Sys2Proof/Machine/Keys.lean ====
section
/-!
DEFINITION. Sys2Proof/Machine/Keys.lean: the KEY unit (spec/11_symmetric_payment_digest.md R349 to R358): the key
directory, the slots of the key cache, hits and misses, fetch lanes, pins and clearing; commands INSTALL, REPLACE,
REMOVE, KEY_INST_DONE, PIN, UNPIN, KEY_FETCH and KEY_FETCH_END.
-/

namespace Sys2Proof.Machine

/-- Change a slot; a slot equal to a FREE one is not listed. -/
def State.setSlot (s : State) (i : Nat) (k : KSlot) : State := s.setKey { s.key with slots := tabSet {} s.key.slots i k }

/-- Write the directory byte of an index in a physical bank. -/
def State.setDir (s : State) (b i v : Nat) : State :=
  if b = 0 then s.setKey { s.key with dir := tabSet 0 s.key.dir i v }
  else { s with fed := { s.fed with dir1 := tabSet 0 s.fed.dir1 i v } }

/-- The directory says that an index is installed for a dome (condition 6 of R177); a member that is BEHIND counts
the federation range as naming no key (R485). -/
def State.dirHas (s : State) (i d : Nat) : Bool :=
  s.dirByte i == 128 + d && !(s.is R.FED_STATUS_BEHIND && s.inFed i)

/-- The DDR address of entry `i`: in the wrapped key table (R310), or in the bank at FED_STAGE (R483). -/
def State.entryAddr (s : State) (b i : Nat) : Nat :=
  if b = 0 then s.get R.MEMC_KEYTAB_LO_BASE * 0x200000 + 64 * i
  else s.get R.FED_STAGE_BASE * 0x200000 + 64 * (i - s.fedFirst)

/-- The slots of a dome's partition (R349). -/
def State.partition (s : State) (d : Nat) : List Nat :=
  (List.range (s.get (R.KEY_PART_COUNT d))).map (fun i => s.get (R.KEY_PART_FIRST d) + i)

/-- A slot of the partition holds an index of a bank READY or FETCHING (R355, R483). -/
def State.slotOf (s : State) (d b i : Nat) : Option Nat :=
  (s.partition d).find? (fun k => let t := s.slot k; t.index == i && t.bank == b && (t.st == 1 || t.st == 2))

/-- The slot a miss takes (R355): a FREE one (the lowest), else the unreferenced, unpinned READY one released first. -/
def State.victim (s : State) (d : Nat) : Option Nat :=
  match (s.partition d).find? (fun k => (s.slot k).st == 0) with
  | some k => some k
  | none =>
    (s.partition d).foldl (fun best k =>
      let t := s.slot k
      if t.st = 2 ∧ t.refs = 0 ∧ ¬ t.pinned then
        (match best with
         | none => some k
         | some b => if t.released < (s.slot b).released then some k else some b)
      else best) none

/-- The lane that frees first, and when (R356); a lane never used is free. -/
def State.freeLane (s : State) : Nat × Rat :=
  (List.range 32).foldl (fun (b : Nat × Rat) l =>
    let t := tabGet 0 s.key.lanes l
    if t < b.2 then (l, t) else b) (0, tabGet 0 s.key.lanes 0)

/-- Start a miss for an index of a bank in a slot (R355, R356): the slot is zeroed and FETCHING, and a lane gives it 400 ns
from when the lane frees. Answers the interval's start too. `art` is the ART epoch of the job it is for. -/
def State.miss (s : State) (d b i k refs : Nat) (pin : Bool) (art : Option Nat) : Rat × State :=
  let l := s.freeLane
  let start := max s.now l.2
  let s1 := s.setSlot k { st := 1, index := i, refs := refs, pinned := pin, bank := b, dome := d,
                          released := s.key.seq, laneEnd := start + 400, art := art }
  (start, s1.setKey { s1.key with lanes := tabIns s1.key.lanes l.1 (start + 400) })

/-- What acquiring a handle gave: its slot, and whether its key can be READY in time for a PROMISED job admitted now
(R355). -/
structure Acq where
  slot : Nat
  inTime : Bool
  st : State

/-- Acquire a handle for a job of a dome that carries an ART epoch and a federation epoch (R46, R355): a hit references the
slot, a miss starts a fetch; none where the partition has no slot to give. -/
def State.acquire (s : State) (d art fe i : Nat) : Option Acq :=
  match s.slotOf d (s.bankAt fe i) i with
  | some k =>
    let t := s.slot k
    some { slot := k, inTime := t.st == 2 || decide (t.laneEnd ≤ s.now + 800),
           st := (s.setSlot k { t with refs := t.refs + 1 }).next R.KEY_HIT_COUNT }
  | none =>
    match s.victim d with
    | none => none
    | some k =>
      let r := s.miss d (s.bankAt fe i) i k 1 false (some art)
      some { slot := k, inTime := decide (r.1 ≤ s.now + 400), st := r.2 }

/-- Acquire the handles of a job in order; a repeated handle uses one slot. Answers the slots by position, whether all
are in time, and the state; none where some handle gets no slot. -/
def State.acquireAll (s : State) (d art fe : Nat) : List (Nat × Nat) → List Nat → Option (List Nat × Bool × State)
  | _, [] => some ([], true, s)
  | seen, h :: hs =>
    match tabFind seen h with
    | some k => (s.acquireAll d art fe seen hs).map (fun r => (k :: r.1, r.2.1, r.2.2))
    | none =>
      match s.acquire d art fe h with
      | none => none
      | some a => (a.st.acquireAll d art fe (tabIns seen h a.slot) hs).map (fun r => (a.slot :: r.1, a.inTime && r.2.1, r.2.2))

/-- Take one reference off a slot (R354 to R356): a STALE or FAILED slot without references is zeroed and freed. -/
def State.releaseSlot (s : State) (k : Nat) : State :=
  let t := s.slot k
  if t.refs = 0 then s
  else if t.refs = 1 ∧ (t.st = 3 ∨ t.st = 4) then s.setSlot k {}
  else
    let s1 := s.setSlot k { t with refs := t.refs - 1, released := s.key.seq }
    s1.setKey { s1.key with seq := s.key.seq + 1 }

/-- Release the references of a job's slots, one for each distinct slot (R355). -/
def State.releaseAll (s : State) (slots : List Nat) : State := slots.dedup.foldl State.releaseSlot s

/-! ### Installing (R354) -/

/-- KEY_INST_CMD with GO: an OP (1 INSTALL, 2 REPLACE, 3 REMOVE) on an index; ignored while INST_BUSY. -/
def State.keyInst (s : State) (op i : Nat) : State :=
  if s.is R.KEY_STATUS_INST_BUSY then s
  else (s.setKey { s.key with inst := some (op, i) }).set R.KEY_STATUS_INST_BUSY 1

/-- The KEY unit's own transfers (R354): class FIXED, domain 0. -/
def State.keyX (s : State) : Xfer := { agent := 0x2A4, dom := 0, epoch := s.get R.ART_EPOCH_CURRENT }

/-- The directory changes on an index of a bank (R354, R356): slots with the old key become STALE, those being fetched too,
whose fetch goes on. -/
def State.dirUpdate (s : State) (b i v : Nat) : State :=
  let slots := (s.key.slots.filter (fun e => e.2.index == i && e.2.bank == b && (e.2.st == 1 || e.2.st == 2))).map (·.1)
  let s1 := slots.foldl (fun s k =>
    let t := s.slot k
    if t.st = 1 then s.setSlot k { t with st := 4, stale := true }
    else if t.refs = 0 then s.setSlot k {} else s.setSlot k { t with st := 4 }) s
  s1.setDir b i v

/-- The device serves the federation as its tower (R483): the tower, or the acting tower. -/
def State.fedServes (s : State) : Bool := s.get R.FED_STATUS_STATE == 5 || s.get R.FED_STATUS_STATE == 4

/-- The bank an install command acts on (R483): on the tower, INSTALL and REPLACE within the federation range write the
staging bank. -/
def State.instBank (s : State) (op i : Nat) : Nat :=
  if s.inFed i ∧ op ≠ 3 then 1 - s.fed.bank else s.bankOfKey i

/-- Every index of the federation range has been staged (R483): STAGED, and vector 292. -/
def State.stagedCheck (s : State) : State :=
  let b := 1 - s.fed.bank
  if ¬ s.is R.FED_STATUS_STAGED
      ∧ (List.range s.fedCount).all (fun k => s.dirIn b (s.fedFirst + k) / 128 % 2 == 1) then
    (s.set R.FED_STATUS_STAGED 1).cause R.FED_EVENTS_CAUSE 288 292
  else s

/-- The end of an install command with a code (R354, R376). -/
def State.instEnd (s : State) (code : Nat) : State :=
  let s1 := ((s.setKey { s.key with inst := none }).set R.KEY_STATUS_INST_BUSY 0).set R.KEY_INST_STATUS_CODE code
  s1.cause R.KEY_EVENTS_CAUSE 208 (if code = 0 then 208 else 209)

/-- An install command runs its checks in order and ends (R354, R483). -/
def State.instDone (s : State) : State :=
  match s.key.inst with
  | none => s
  | some (op, i) =>
    let b := s.instBank op i
    let valid := s.dirIn b i / 128 % 2 == 1
    let pinned := s.key.slots.any (fun e => e.2.index == i && e.2.pinned && e.2.st != 0)
    if ¬ s.is R.RST_ROOT_SRK_VALID ∨ s.get R.MEMC_KEYTAB_HI_COUNT ≤ i ∨ (s.inFed i ∧ ¬ s.fedServes) then s.instEnd 0x0453
    else if (op = 1 ∧ valid) ∨ (op ≠ 1 ∧ ¬ valid) then s.instEnd 0x0451
    else if op ≠ 1 ∧ pinned then s.instEnd 0x0452
    else if op = 3 then ((s.wr s.keyX (s.entryAddr b i) (zeros 64)).dirUpdate b i 0).instEnd 0
    else s.afterBank s.keyX (s.get R.KEY_INST_SRC_ADDR * 64) 64 .keyInst fun s =>
      let r := s.rd s.keyX (s.get R.KEY_INST_SRC_ADDR * 64) 64
      match entryOpen r.2.key.tkey r.1 with
      | none => r.2.instEnd 0x0450
      | some (d, _) =>
        let s1 := ((r.2.wr s.keyX (r.2.entryAddr b i) r.1).dirUpdate b i (128 + d)).instEnd 0
        if b ≠ s.bankOfKey i then s1.stagedCheck else s1

/-! ### Pins (R357) -/

/-- The end of a pin command with a code: vector 210. -/
def State.pinEnd (s : State) (code : Nat) : State :=
  (((s.setKey { s.key with pinWait := none }).set R.KEY_PIN_STATUS_BUSY 0).set R.KEY_PIN_STATUS_CODE code).cause
    R.KEY_EVENTS_CAUSE 208 210

/-- KEY_PIN_CMD with OP PIN; ignored while KEY_PIN_STATUS.BUSY. While SRK_VALID reads 0 it ends with INSTALL_RANGE (R572), as UNPIN
does. -/
def State.pin (s : State) (i : Nat) : State :=
  if s.is R.KEY_PIN_STATUS_BUSY then s
  else if ¬ s.is R.RST_ROOT_SRK_VALID then s.pinEnd 0x0453
  else if s.dirByte i / 128 % 2 = 0 then s.pinEnd 0x0455
  else
    let d := s.dirByte i % 64
    let wait (s : State) (k : Nat) : State := (s.setKey { s.key with pinWait := some k }).set R.KEY_PIN_STATUS_BUSY 1
    match s.slotOf d (s.bankOfKey i) i with
    | some k =>
      let s1 := s.setSlot k { s.slot k with pinned := true }
      if (s.slot k).st = 2 then s1.pinEnd 0 else wait s1 k
    | none =>
      match s.victim d with
      | none => s.pinEnd 0x0454
      | some k => wait (s.miss d (s.bankOfKey i) i k 0 true none).2 k

/-- KEY_PIN_CMD with OP UNPIN: the flag is cleared on its edge; ignored while BUSY. -/
def State.unpin (s : State) (i : Nat) : State :=
  if s.is R.KEY_PIN_STATUS_BUSY then s
  else if ¬ s.is R.RST_ROOT_SRK_VALID then s.pinEnd 0x0453
  else
    match s.key.slots.find? (fun e => e.2.index == i && e.2.pinned && e.2.st != 0) with
    | some e => (s.setSlot e.1 { e.2 with pinned := false }).pinEnd 0
    | none => s.pinEnd 0

/-! ### Fetch lanes (R356) -/

/-- A lane is fetching into a slot. -/
def KSlot.fetching (t : KSlot) : Bool := t.st == 1 || (t.st == 4 && t.stale)

/-- A lane starts its interval on a FETCHING slot: it reads the entry with the partition's dome, under the ART
epoch of its job (R46). -/
def State.keyFetch (s : State) (k : Nat) : State :=
  let t := s.slot k
  if t.fetching ∧ t.entry = none then
    let r := s.rd { agent := 0x2A4, dom := t.dome, epoch := t.art.getD (s.get R.ART_EPOCH_CURRENT) } (s.entryAddr t.bank t.index) 64
    (r.2.setSlot k { t with entry := some r.1 }).next R.KEY_FETCH_COUNT
  else s

/-- A pin that waits for slot `k` ends with it. -/
def State.pinAwaits (s : State) (k code : Nat) : State := if s.key.pinWait = some k then s.pinEnd code else s

/-- A fetch fails (R356): the slot is FAILED, counted, and vector 211; one without references is freed. -/
def State.fetchFail (s : State) (k : Nat) (t : KSlot) : State :=
  let s1 := if t.refs = 0 then s.setSlot k {}
            else s.setSlot k { t with st := 3, entry := none, pinned := false, stale := false, mat := {} }
  ((s1.count R.KEY_FETCH_FAIL_COUNT).cause R.KEY_EVENTS_CAUSE 208 211).pinAwaits k 0x0403

/-- A fetch ends (R356): READY with the key, STALE where its directory entry was updated since, or FAILED. -/
def State.keyFetchEnd (s : State) (k : Nat) : State :=
  let t := s.slot k
  match t.fetching, t.entry with
  | true, some e =>
    match entryOpen s.key.tkey e with
    | some (d, m) =>
      if d = t.dome then
        let st := if t.stale then 4 else 2
        let t' := { t with st := st, mat := m, entry := none, stale := false }
        let s1 := if st = 4 ∧ t.refs = 0 then s.setSlot k {} else s.setSlot k t'
        s1.pinAwaits k 0
      else s.fetchFail k t
    | none => s.fetchFail k t
  | _, _ => s

/-! ### Clearing (R358) -/

/-- Clear the slots a test picks; a pin that waits for one fails. -/
def State.clearSlots (s : State) (p : Nat → Bool) : State :=
  let w := match s.key.pinWait with | some k => p k | none => false
  let s1 := s.setKey { s.key with slots := s.key.slots.filter (fun e => !p e.1) }
  if w then s1.pinEnd 0x0403 else s1

/-- The key cache is cleared: every slot and pin. -/
def State.clearCache (s : State) : State := s.clearSlots (fun _ => true)

/-- A dome's partition is cleared. -/
def State.clearPartition (s : State) (d : Nat) : State :=
  s.clearSlots (fun k => decide (s.get (R.KEY_PART_FIRST d) ≤ k)
    && decide (k < s.get (R.KEY_PART_FIRST d) + s.get (R.KEY_PART_COUNT d)))

/-- The table key and the directory are cleared (KEYSTORE). -/
def State.clearTable (s : State) : State :=
  ({ s with fed := { s.fed with dir1 := [] } }.setKey { s.key with tkey := [], dir := [] }).set R.KEY_STATUS_TKEY 0

/-! ### Views -/

/-- The slot in which a handle's key is pinned for a dome, in the bank in which the handle resolves now (R179, R357, R483). -/
def State.pinnedSlot (s : State) (d i : Nat) : Option Nat :=
  (s.key.slots.find? (fun e => e.2.index == i && e.2.pinned && e.2.st == 2 && e.2.dome == d && e.2.bank == s.bankOfKey i)).map (·.1)

/-- A handle's key is pinned for a dome. -/
def State.isPinned (s : State) (d i : Nat) : Bool := (s.pinnedSlot d i).isSome

/-- The slots in which handles are pinned for a dome are referenced, once each, by the BEST job that is admitted (R181). Answers them
by handle, and the state. -/
def State.keepPinned (s : State) (d : Nat) (hs : List Nat) : List (Nat × Nat) × State :=
  let ks := hs.dedup.filterMap (fun h => (s.pinnedSlot d h).map (fun k => (h, k)))
  (ks.foldl (fun t e => tabIns t e.1 e.2) [], ks.foldl (fun (s : State) e => s.setSlot e.2 { s.slot e.2 with refs := (s.slot e.2).refs + 1 }) s)

end Sys2Proof.Machine
end

