-- ==== Sys2Proof/Machine/SesSend.lean ====
section
/-!
DEFINITION. Sys2Proof/Machine/SesSend.lean: session contexts and their cache, the traffic keys, and how SES sends a message
in a session (spec/15_network_federation.md R460, R461, R465, R468, R473, R474).
-/

namespace Sys2Proof.Machine

/-! ### Contexts (R460, R473, R474) -/

/-- Change a context, which is on die. -/
def State.setCtx (s : State) (i : Nat) (c : Ses) : State := s.setSes { s.ses with ctxs := tabSet {} s.ses.ctxs i c }

/-- The SID of context `i` for a session that a client opens: index and generation. -/
def sidOf (i gen : Nat) : Nat := i % 2 ^ 18 + gen % 2 ^ 14 * 2 ^ 18

/-- The context a SID names on a link (check 2 of R462): of a session a client opened, by index and generation; of one
the device opened, by the SID its peer gave. -/
def State.findCtx (s : State) (sid link : Nat) : Option Nat :=
  let c := s.ctx (sid % 2 ^ 18)
  if c.st ≠ 0 ∧ ¬ c.client ∧ c.gen = sid / 2 ^ 18 ∧ c.peer.link = link then some (sid % 2 ^ 18)
  else (s.ses.ctxs.find? (fun e => e.2.client && e.2.st != 0 && e.2.sid == sid && e.2.peer.link == link)).map (·.1)

/-- A context is held: a job of its session is in flight, or a message of it is being processed (R474): one received, one that the
DRBG or the PKE pool is at, or one that waits to leave. -/
def State.ctxHeld (s : State) (i : Nat) : Bool :=
  let c := s.ctx i
  s.jsc.jobs.any (fun j => !c.client && j.session == c.sid) || c.want != .none || s.net.tx.any (fun m => m.ctx == some i)
    || s.ses.inbox.any (fun m => m.ctx == some i)
    || s.ses.parts.any (fun p => p.msg.ctx == some i)

/-- The address of context `i` in colour-0 DDR (R473). -/
def State.ctxAddr (s : State) (i : Nat) : Nat := s.get R.SES_CTX_BASE * 2 ^ 30 + 4096 * i

/-- SES's transfers for a context: class FIXED, of the session's dome. -/
def State.ctxX (s : State) (i : Nat) : Xfer := { agent := 0x2A2, dom := (s.ctx i).dome, epoch := s.get R.ART_EPOCH_CURRENT }

/-- The 512 bytes of state of a context, its keys wrapped under the context key (R473). The spec gives the two parts of a
context, not their bytes (DESIGN CHOICE, log 31). -/
def Ses.stateBytes (key : List Byte) (c : Ses) : List Byte :=
  let flags := b2n c.client + 2 * b2n c.fed + 4 * b2n c.counted + 8 * b2n c.ownKey + 16 * b2n c.p384 + 32 * b2n c.drained
    + 64 * b2n c.rekeyAsked + 128 * b2n c.rekeySent
  let ep (x : SesEp) : List Byte := toLE 2 x.epoch ++ kwWrap key x.ms ++ toLE 6 x.tx
    ++ toLE 7 (match x.hi with | some h => h + 1 | none => 0) ++ toLE 128 x.seen
  let b := toLE 1 c.st ++ toLE 1 flags ++ toLE 2 c.gen ++ toLE 4 c.sid ++ toLE 1 c.dome ++ toLE 1 c.group ++ toLE 2 c.cls
    ++ toLE 4 c.idleMs ++ toLE 1 c.peer.link ++ toLE 1 c.peer.ip.length ++ c.peer.mac ++ toLE 2 c.peer.port ++ c.peer.ip
    ++ zeros (16 - c.peer.ip.length) ++ c.root ++ c.eps.flatMap ep
  (b ++ zeros (512 - b.length)).take 512

/-- A context as it lies in DDR: state, and the history of its last 112 jobs (R471, R473). -/
def State.ctxImage (s : State) (i : Nat) : List Byte :=
  let h := (s.ctx i).hist.flatten
  (s.ctx i).stateBytes s.ses.ctxKey ++ (h ++ zeros (3584 - h.length)).take 3584

/-- A cached context goes back to DDR. -/
def State.ctxEvict (s : State) (i : Nat) : State :=
  let s1 := s.wr (s.ctxX i) (s.ctxAddr i) (s.ctxImage i)
  s1.setSes { s1.ses with cache := s1.ses.cache.filter (· != i) }

/-- Room for one more context: of 4,096 the unheld one used earliest is evicted. -/
def State.ctxRoom (s : State) : State :=
  if s.ses.cache.length < 4096 then s
  else match s.ses.cache.find? (fun k => !s.ctxHeld k) with | some k => s.ctxEvict k | none => s

/-- A context is fetched from DDR. One that does not read as SES left it gives no keys: no epoch of the session is live any
more (DESIGN CHOICE, log 31: the spec does not say what a context is that the ART or its memory keeps from SES). -/
def State.ctxFetch (s : State) (i : Nat) : State :=
  let s1 := s.ctxRoom
  let r := s1.rd (s1.ctxX i) (s1.ctxAddr i) 4096
  let s2 := r.2.setSes { r.2.ses with cache := r.2.ses.cache ++ [i] }
  if r.1 = s1.ctxImage i then s2 else s2.setCtx i { s2.ctx i with eps := [] }

/-- A context is used, from its place on die or fetched. -/
def State.ctxUse (s : State) (i : Nat) : State :=
  if s.ses.cache.contains i then s.setSes { s.ses with cache := s.ses.cache.filter (· != i) ++ [i] } else s.ctxFetch i

/-- A context begins: it is made on die. -/
def State.ctxNew (s : State) (i : Nat) (c : Ses) : State :=
  let s1 := (s.ctxRoom).setCtx i c
  s1.setSes { s1.ses with cache := s1.ses.cache.filter (· != i) ++ [i] }

/-- No context can be fetched: every cached one is held. -/
def State.cacheFull (s : State) : Bool := decide (4096 ≤ s.ses.cache.length) && s.ses.cache.all s.ctxHeld

/-- The lowest FREE context. -/
def freeIdx (l : List (Nat × Ses)) (i : Nat) : Nat → Option Nat
  | 0 => none
  | n + 1 => if (tabGet {} l i).st = 0 then some i else freeIdx l (i + 1) n

/-- A FREE context for a new session, of the 262,144. -/
def State.freeCtx (s : State) : Option Nat :=
  match freeIdx s.ses.ctxs 0 (min (2 ^ 18) (s.ses.ctxs.length + 1)) with
  | some i => some i
  | none => none

/-! ### Keys (R465) -/

/-- HKDF-Extract with SHA-384. -/
def hkdfExtract (salt ikm : List Byte) : List Byte := hmac 2 salt ikm
/-- HKDF-Expand with SHA-384, up to 48 bytes. -/
def hkdfExpand (prk info : List Byte) (n : Nat) : List Byte := (hmac 2 prk (info ++ [1])).take n

/-- The traffic key and IV of a direction in an epoch. -/
def trafficSec (ms : List Byte) (x : String) (epoch : Nat) : List Byte :=
  hkdfExpand ms (ascii "wl ap " ++ ascii x ++ toLE 2 epoch) 44

/-- The device sends as d in a session a client opened, and as c in one it opened. -/
def Ses.txDir (c : Ses) : String := if c.client then "c" else "d"
/-- The peer's direction. -/
def Ses.rxDir (c : Ses) : String := if c.client then "d" else "c"

/-- The epoch of a context with a number. -/
def Ses.ep (c : Ses) (e : Nat) : Option SesEp := c.eps.find? (fun x => x.epoch == e)

/-- Change an epoch. -/
def Ses.setEp (c : Ses) (x : SesEp) : Ses := { c with eps := c.eps.map (fun y => if y.epoch = x.epoch then x else y) }

/-- The nonce of a datagram: IV XOR SEQ. -/
def dgNonce (sec : List Byte) (seq : Nat) : List Byte := xorB (sliceB sec 32 12) (toBE 12 seq)

/-- The 24-byte header of a datagram (R460). -/
def dgHead (kind epoch sid seq frag len total : Nat) : List Byte :=
  [1, BitVec.ofNat 8 kind] ++ toLE 2 epoch ++ toLE 4 sid ++ toLE 6 seq ++ toLE 2 frag ++ toLE 4 len ++ toLE 4 total

/-- The UDP payload of datagram `i` of a message cut every `f` bytes (R460, R461). -/
def TxMsg.datagram (m : TxMsg) (f i : Nat) : List Byte :=
  let part := sliceB m.body (i * f) f
  let h := dgHead m.kind m.epoch m.sid (m.seq + i) i part.length m.body.length
  if m.sec.isEmpty then h ++ part
  else
    let r := gcmEnc (aesEnc (m.sec.take 32)) (dgNonce m.sec (m.seq + i)) h part
    h ++ r.1 ++ r.2

/-! ### Sending -/

/-- Datagrams a message of n bytes takes, cut every `f` bytes (R459). -/
def dgCount (f n : Nat) : Nat := max 1 ((n + (f - 1)) / f)

/-- A message that a session sends under a live epoch, queued now. Its peer and its SEQs are those of the edge on which its
first datagram leaves (R458). -/
def Ses.msg (c : Ses) (i kind prio : Nat) (body : List Byte) (x : SesEp) : TxMsg :=
  { peer := c.peer, prio := prio, sid := c.sid, kind := kind, epoch := x.epoch, seq := x.tx, body := body,
    sec := trafficSec x.ms c.txDir x.epoch, ctx := some i }

/-- Send a message in a session under a live epoch. `job` and `promise` for a completion, `stamp` for the times of R482. -/
def State.sesSend (s : State) (i epoch kind prio : Nat) (body : List Byte) (job : Option Nat := none)
    (promise : Nat := 0) (stamp : Nat := 0) : State :=
  let s1 := s.ctxUse i
  match (s1.ctx i).ep epoch with
  | none => s1
  | some x => s1.send { (s1.ctx i).msg i kind prio body x with job := job, promise := promise, stamp := stamp }

/-- Send under the current epoch. -/
def State.sesSendCur (s : State) (i kind prio : Nat) (body : List Byte) : State :=
  s.sesSend i (s.ctx i).cur.epoch kind prio body

/-- Send the last message of a session, which is freed at once: one datagram, to the peer as it now is. -/
def State.sesSendLast (s : State) (i kind prio : Nat) (body : List Byte) : State :=
  let s1 := s.ctxUse i
  match (s1.ctx i).eps with
  | [] => s1
  | x :: _ => s1.send { (s1.ctx i).msg i kind prio body x with ctx := none }

/-- A message as its next datagram leaves (R458): of a session that stands, to its present peer; the first takes the next
SEQs of its epoch and settles where the message is cut. -/
def State.txReady (s : State) (m : TxMsg) : TxMsg × State :=
  let cut (p : Peer) : Nat := if m.done = 0 then s.fragLen p.ip else m.frag
  match m.ctx with
  | none => ({ m with frag := cut m.peer }, s)
  | some i =>
    let c := s.ctx i
    if c.st = 0 ∨ c.sid ≠ m.sid then ({ m with frag := cut m.peer }, s)
    else
      let m1 := { m with peer := c.peer, frag := cut c.peer }
      if m.done ≠ 0 then (m1, s)
      else match c.ep m.epoch with
        | none => (m1, s)
        | some x => ({ m1 with seq := x.tx }, s.setCtx i (c.setEp { x with tx := x.tx + dgCount m1.frag m.body.length }))

end Sys2Proof.Machine
end

