-- ==== Sys2Proof/Machine/JobOps.lean ====
section
/-!
DEFINITION. Sys2Proof/Machine/JobOps.lean: how a job ends (spec/06_jobs_promises.md R182, R189 to R195,
spec/07_core_execution.md R234): DONE by exit, DONE with HANDLER_FAULT, or BROKEN.
-/

namespace Sys2Proof.Machine

/-- A core without a job: nothing pending, every unit idle; the private bits, the event views, the key maps, the
flight store and the registers stay as they are until the next entry (R228, R234). -/
def Core.freed (k : Core) : Core :=
  { k with job := none, phase := .idle, pend := [], pbits := [], ownSh := [], slots := 0, divBusy := 0, cxBusy := 0,
           tblBusy := 0, spacing := 0 }

/-- Take a job off its core: the core that runs it is freed, and a flight record that holds it is dropped (R195). -/
def State.leaveCore (s : State) (j : Job) : State :=
  match j.core with
  | none => s
  | some c =>
    let k := s.core c
    let k1 := if k.job = some j.id then k.freed else k
    let k2 := if k1.flightJob = some j.id then
        { k1 with flight := [], flightJob := none, phase := (if k1.phase = .resuming then .idle else k1.phase) } else k1
    s.setCore c k2

/-- The plaintext JOB_COMPLETE of a job that has ended (R173). -/
def Job.complete (j : Job) : List Byte :=
  [0x13, BitVec.ofNat 8 j.cls] ++ toLE 2 j.status ++ toLE 4 j.jobnum ++ toLE 4 j.id ++ toLE 4 j.detail
    ++ toLE 8 j.tDone.floor.toNat ++ toLE 4 j.result.length ++ zeros 4 ++ j.result ++ zeros (roundUp j.result.length 8 - j.result.length)

/-- The JOB record of a job that leaves flight (R198). SPIRE and CORE of a BEST job that ended before it had a core are 0
(DESIGN CHOICE, log 15: the spec states none). -/
def State.jobRecord (s : State) (j : Job) (tTx : Nat) : List Byte :=
  let c := j.core.getD 0
  [1, BitVec.ofNat 8 j.cls] ++ toLE 2 j.status ++ toLE 4 j.id ++ toLE 8 (s.get R.JRN_NEXT_SEQ_SEQ) ++ toLE 8 j.tAdm.floor.toNat
    ++ toLE 8 j.promise ++ toLE 8 j.tDone.floor.toNat ++ toLE 8 tTx ++ toLE 2 j.handler ++ toLE 1 j.dome ++ toLE 1 (c / 16)
    ++ toLE 1 (c % 16) ++ [0] ++ toLE 2 j.epoch ++ toLE 4 (j.session % 2 ^ 18) ++ toLE 4 j.jobnum ++ j.reqDigest ++ sha256 j.complete

/-- A job leaves flight (R190): its session's history (R471), and its journal record. `tTx`: 0 where the completion was
discarded. -/
def State.leaveFlight (s : State) (j : Job) (tTx : Nat) : State :=
  let s1 := { s with jsc := { s.jsc with jobs := s.jsc.jobs.filter (fun k => k.id != j.id) } }
  let e := toLE 4 j.jobnum ++ toLE 4 j.id ++ toLE 2 j.status ++ toLE 1 j.cls ++ [if tTx = 0 then 0 else 1]
    ++ toLE 8 j.tDone.floor.toNat ++ toLE 8 tTx ++ zeros 4
  let s2 := match s1.jobSession j with
    | some (i, c) => s1.setCtx i { c with hist := (c.hist ++ [e]).drop (c.hist.length + 1 - 112) }
    | none => s1
  (s2.jrnAdd (s2.jobRecord j tTx) true).idleMark

/-- The completion of a job that has ended is queued for egress under its session epoch (R48, R192), or discarded where
its session is closed. -/
def State.completion (s : State) (id : Nat) : State :=
  match s.job id with
  | none => s
  | some j =>
    match s.jobSession j with
    | some (i, _) => s.sesSend i j.sepoch 0x10 (if j.cls = 0 then 1 else 4) j.complete (some id) j.promise
    | none => s.leaveFlight j 0

/-- What ends with any job (R182, R183, R234, R302): its core is freed, its payload store entry zeroed, its engine
commands abandoned, its mover descriptors stopped at their next granule boundary, and its outcome recorded. Its spire settles:
after its last job of an old epoch it may be one to be placed by R29 (R162). -/
def State.endJob (s : State) (j : Job) (st : JobSt) (status detail : Nat) (result : List Byte) : State :=
  let s1 := s.leaveCore j
  let s2 := { s1 with
    cmds := s1.cmds.filter (fun (c : Cmd) => c.job != j.id)
    mover := s1.mover.map (fun (d : MvDesc) => if d.job = j.id then { d with stop := true, faulted := false } else d) }
  let s3 := ((s2.releaseAll j.slots).updJob j.id (fun k =>
    { k with st := st, status := status, detail := detail, result := result, tDone := s.now, payload := [],
             tickets := [], wait := none })).completion j.id
  match j.core with | some c => s3.settle (c / 16) | none => s3

/-- The spire of a job's core, or 63. -/
def Job.spire (j : Job) : Nat := match j.core with | some c => c / 16 | none => 63

/-- A job ends DONE with HANDLER_FAULT (R189): counted, vector 80 (R205), and reported to the FCU as a fault of its
dome (R327). `detail` is DETAIL of the completion. -/
def State.handlerFault (s : State) (id detail : Nat) : State :=
  match s.job id with
  | none => s
  | some j =>
    if !j.live then s else
    let s1 := s.endJob j .done 0x0120 detail []
    let s2 := (s1.count R.JSC_HFAULT_COUNT).cause R.JSC_EVENTS_CAUSE 80 80
    s2.report { source := 1, agent := j.core.getD 0, dome := j.dome, addr := detail, spire := j.spire }

/-- A job ends BROKEN with a code 0x0110 + k (R194, R195): its reservations are released, and its core's commitment
returns to what it was before the job's binding if no later binding has raised it. -/
def State.breakJob (s : State) (id k : Nat) : State :=
  match s.job id with
  | none => s
  | some j =>
    if !j.live then s else
    let s1 := s.endJob j .broken (0x0110 + k) 0 []
    let s2 := (s1.count (R.JSC_BROKEN_COUNT k)).cause R.JSC_EVENTS_CAUSE 80 81
    match j.core with
    | some c =>
      if j.cls = 0 ∧ tabGet 0 s2.jsc.commit c = j.commitSet then
        { s2 with jsc := { s2.jsc with commit := tabSet 0 s2.jsc.commit c j.commitWas } }
      else s2
    | none => s2

/-- End every live job that a test picks (R194). -/
def State.breakJobs (s : State) (p : Job → Bool) (k : Nat) : State :=
  ((s.jsc.jobs.filter (fun j => j.live && p j)).map (·.id)).foldl (fun s id => s.breakJob id k) s

end Sys2Proof.Machine
end

