-- ==== Sys2Proof/Machine/Recolour.lean ====
section
/-!
DEFINITION. Sys2Proof/Machine/Recolour.lean: how a DDR line is stored (spec/09_memory.md R281 to R284), rekeying a colour
(R288) and its sweep (R289); commands RECOLOUR_CLEAR, RECOLOUR_REENCRYPT and SWEEP_LINE.
-/

namespace Sys2Proof.Machine

/-! ### The stored burst (R282 to R284) -/

/-- Multiply by α in the field of XTS, on a little-endian number of 128 bits. -/
def xtsDbl (t : Nat) : Nat := if 2 * t < 2 ^ 128 then 2 * t else (2 * t - 2 ^ 128) ^^^ 0x87

/-- XTS-AES-256 encryption of blocks, from a tweak value. -/
def xtsEncB (k1 : List Byte) : Nat → List (List Byte) → List Byte
  | _, [] => []
  | t, b :: bs => xorB (aesEnc k1 (xorB b (toLE 16 t))) (toLE 16 t) ++ xtsEncB k1 (xtsDbl t) bs

/-- The ciphertext of a line at an address under a key set (R283). -/
def lineCipher (keys : List Byte) (line : Nat) (data : List Byte) : List Byte :=
  xtsEncB (keys.take 32) (ofLE (aesEnc (sliceB keys 32 32) (toLE 16 line))) (blocks 16 data)

/-- The tag of a line (R284). -/
def lineTagBytes (keys : List Byte) (line colour gen : Nat) (ct : List Byte) : List Byte :=
  (aesCmac (sliceB keys 64 32) (ct ++ toLE 8 line ++ toLE 1 colour ++ toLE 2 gen)).take 4

/-- Multiply by α in the field of the code: polynomial 0x11D. -/
def rsX (a : Nat) : Nat := if a < 128 then 2 * a else (2 * a) ^^^ 0x11D

/-- Multiply in the field of the code, over the low `n` bits of `b`. -/
def rsMul (a b : Nat) : Nat → Nat
  | 0 => 0
  | n + 1 => (if b % 2 = 1 then a else 0) ^^^ rsMul (rsX a) (b / 2) n

/-- The four Reed–Solomon check bytes of 68 bytes: the remainder by the polynomial with roots α⁰ to α³, highest power
first. -/
def rsCheck (data : List Byte) : List Byte :=
  let g : List Nat := [1, 2, 4, 8].foldl (fun g r =>
    List.zipWith (· ^^^ ·) (g ++ [0]) (0 :: g.map (fun c => rsMul c r 8))) [1]
  let rem := data.foldl (fun (r : List Nat) d =>
    let f := d.toNat ^^^ r.headD 0
    List.zipWith (· ^^^ ·) (r.drop 1 ++ [0]) ((g.drop 1).map (fun c => rsMul c f 8))) [0, 0, 0, 0]
  rem.map (BitVec.ofNat 8)

/-- The key set and generation that serve a line of a colour (R289): at or above the pointer of a sweep, the old ones. -/
def State.lineKeys (s : State) (line : Nat) : List Byte × Nat :=
  let c := s.colourOf line
  let g := s.get (R.MEMC_COLOUR_GEN_GEN c)
  match s.memc.sweep with
  | some w =>
    if w.colour = c ∧ s.is R.MEMC_STATUS_SWEEP ∧ s.get R.MEMC_RECOLOUR_PTR_LINE * 64 ≤ line then
      (s.memc.oldKeys, (g + 0xFFFF) % 0x10000)
    else (tabGet [] s.memc.keys c, g)
  | none => (tabGet [] s.memc.keys c, g)

/-- The burst in which a clean line is stored (R282): its channel, its place there, and its 72 bytes. -/
def State.burst (s : State) (line : Nat) : Nat × Nat × List Byte :=
  let kg := s.lineKeys line
  let ct := lineCipher kg.1 line (s.bytes line 64)
  let body := ct ++ lineTagBytes kg.1 line (s.colourOf line) kg.2 ct
  (ddrChannel line, ddrPlace line, body ++ rsCheck body)

/-! ### Rekeying (R288, R289) -/

/-- A refused rekey: the reason in MEMC_RECOLOUR_STATUS.ERR, and vector 227 (R313). -/
def State.recolourRefuse (s : State) (err : Nat) : State := (s.set R.MEMC_RECOLOUR_STATUS_ERR err).raise 227

/-- MEMC_RECOLOUR with GO (R288): on acceptance a key set is drawn, and the sweep begins when it arrives (R424). -/
def State.recolour (s : State) (c : Nat) (reencrypt : Bool) : State :=
  if s.memc.sweep.isSome ∨ s.get (R.MEMC_COLOUR_FENCE_DRAINED c) = 0 then s.recolourRefuse 0x0521
  else if ¬ reencrypt ∧ ¬ s.clearAllowed c then s.recolourRefuse 0x0520
  else
    let s1 : State := { s with
      memc := { s.memc with sweep := some { colour := c, reencrypt := reencrypt } }
      ent := { s.ent with reqs := s.ent.reqs ++ [.colour c] } }
    (((s1.set R.MEMC_RECOLOUR_STATUS_ERR 0).set R.MEMC_RECOLOUR_STATUS_BUSY 1).set R.MEMC_RECOLOUR_STATUS_COLOUR c).set
      (R.MEMC_COLOUR_FENCE_DRAINED c) 0

/-- The key set of a colour arrives (R281, R288): the old one is kept for the lines the sweep has not reached, the
generation advances, and the sweep begins at the colour's first line. -/
def State.recolourKeys (s : State) (c : Nat) (keys : List Byte) : State :=
  let m := { s.memc with oldKeys := tabGet [] s.memc.keys c, keys := tabIns s.memc.keys c keys }
  let s1 := ({ s with memc := m }.next (R.MEMC_COLOUR_GEN_GEN c)).set R.MEMC_STATUS_SWEEP 1
  match s1.nextChunk c 0 with
  | some k => s1.set R.MEMC_RECOLOUR_PTR_LINE (k * 0x8000)
  | none => s1.sweepEnd c

/-- The sweep rewrites the line under its pointer and passes on (R289). -/
def State.sweepLine (s : State) : State :=
  match s.memc.sweep with
  | none => s
  | some w =>
    if ¬ s.is R.MEMC_STATUS_SWEEP then s else
    let p := s.get R.MEMC_RECOLOUR_PTR_LINE
    let line := p * 64
    let s1 :=
      if w.reencrypt then
        let r := s.readOwn line
        (r.2.2.putBytes line r.1).setLine line 0
      else (s.dropBytes line 64).setLine line 0
    let next := if (p + 1) % 0x8000 = 0 then (s1.nextChunk w.colour ((p + 1) / 0x8000)).map (· * 0x8000) else some (p + 1)
    match next with
    | some q => s1.set R.MEMC_RECOLOUR_PTR_LINE q
    | none => s1.sweepEnd w.colour

end Sys2Proof.Machine
end

