-- ==== Sys2Proof/Machine/Entropy.lean ====
section
/-!
DEFINITION. Sys2Proof/Machine/Entropy.lean: the entropy unit (spec/13_entropy.md R412 to R429): health tests, conditioning,
the DRBG, its consumers in order, keep requests and the factory modes; commands ENT_WINDOW_END, ENT_ESTIMATE_BLOCK,
RESEED_DUE_TIMER, DRBG_RESEED, DRBG_SERVE, ENT_RESEED, ENT_REQ, ENT_REQ_DONE, ENT_TEST_RAW, ENT_TEST_PATTERN and
ENT_TEST_OFF.
-/

namespace Sys2Proof.Machine

/-- Change the entropy unit. -/
def State.setEnt (s : State) (e : Ent) : State := { s with ent := e }

/-- A pair. -/
def State.pair (s : State) (p : Nat) : Pair := tabGet {} s.ent.pairs p

/-- Change a pair. -/
def State.setPair (s : State) (p : Nat) (k : Pair) : State := s.setEnt { s.ent with pairs := tabSet {} s.ent.pairs p k }

/-! ### Health tests and conditioning (R415, R418) -/

/-- The bits of a window, the first in the least significant bit of byte 0 (R418). -/
def windowBits (bs : List Byte) : List Nat := bs.flatMap (fun b => (List.range 8).map (fun i => b.toNat / 2 ^ i % 2))

/-- Run lengths over a window: the last bit, the run it ends, the longest run met, the ones, and the bits equal to the
one before. -/
structure Scan where
  last : Nat
  run : Nat
  best : Nat
  ones : Nat
  same : Nat
  deriving DecidableEq, Repr

/-- Take one bit into a scan; runs count on across the window's start (R415). -/
def Scan.step (c : Scan) (b : Nat) : Scan :=
  let r := if b = c.last then c.run + 1 else 1
  { last := b, run := r, best := max c.best r, ones := c.ones + b, same := c.same + (if b = c.last then 1 else 0) }

/-- The conditioned block a healthy window gives (R418), or that of the PATTERN mode (R427). -/
def State.conditioned (s : State) (bs : List Byte) : List Byte :=
  if s.get R.ENT_TEST_MODE = 2 then sha256 (toLE 4 s.ent.pattern) else sha256 bs

/-- Store a conditioned block; a full store discards the window (R418). -/
def State.storeBlock (s : State) (bs : List Byte) : State :=
  if s.ent.store.length < 16 then
    s.setEnt { s.ent with store := s.ent.store ++ [s.conditioned bs], pattern := (s.ent.pattern + 1) % 2 ^ 32 }
  else s

/-! ### The DRBG (R419, R424) -/

/-- Make a reseed due (R419, R423). -/
def State.reseedDue (s : State) : State := s.setEnt { s.ent with due := true }

/-- RESEED_DUE_TIMER: 100 ms of the time base since the last reseed make a reseed due (R419). -/
def State.reseedTimer (s : State) : State :=
  if s.is R.ENT_STATUS_SEEDED ∧ s.ent.last + 100000000 ≤ s.tbase then s.reseedDue else s

/-- The personalisation string of instantiation (R419). -/
def State.entPers (s : State) : List Byte :=
  toLE 8 devId ++ toLE 8 (s.get R.TIME_DTIME_NS) ++ toLE 8 (s.get R.TIME_TSTAMP_TICKS) ++ zeros 24

/-- Take two conditioned blocks as seed material. -/
def State.takeSeed (s : State) : Option (List Byte × State) :=
  match s.ent.store with
  | a :: b :: rest => some ((a ++ b).take 48, s.setEnt { s.ent with store := rest })
  | _ => none

/-- The DRBG is starved (R424): vector 147. -/
def State.starve (s : State) : State :=
  if s.is R.ENT_STATUS_STARVED then s else (s.set R.ENT_STATUS_STARVED 1).cause R.ENT_EVENTS_CAUSE 144 147

/-- A starvation ends (R424): vector 148. -/
def State.unstarve (s : State) : State :=
  if s.is R.ENT_STATUS_STARVED then (s.set R.ENT_STATUS_STARVED 0).cause R.ENT_EVENTS_CAUSE 144 148 else s

/-- The known-answer tests of CTR_DRBG and SHA-256 on their internal vectors pass (R420): in a device without that defect. -/
def State.katPass (s : State) : Bool := !s.defect 16 && !s.defect 17

/-- The DRBG may be instantiated: boot step 5 has begun, and its known-answer tests have passed (R420, R421). -/
def State.mayInstantiate (s : State) : Bool :=
  decide (5 ≤ s.get R.RST_BOOT_PHASE) && decide (s.get R.RST_BOOT_PHASE ≤ 12) && s.katPass

/-- The DRBG instantiates (step 4 of R421, with at least 4 pairs ON) or reseeds when one is due (R424), if two blocks
are held; a starvation ends. Without two blocks, a DRBG whose reseed is due is starved. -/
def State.reseed (s : State) : State :=
  if s.is R.ENT_STATUS_SEEDED then
    if ¬ s.ent.due then s else
    match s.takeSeed with
    | none => s.starve
    | some (m, s1) =>
      ((s1.setEnt { s1.ent with drbg := s1.ent.drbg.reseed m, gens := 0, due := false, last := s.tbase }).next R.ENT_RESEEDS_COUNT).unstarve
  else if s.entHealthy ∧ s.mayInstantiate then
    match s.takeSeed with
    | none => s
    | some (m, s1) =>
      (((s1.setEnt { s1.ent with drbg := drbgNew m s.entPers, gens := 0, due := false, last := s.tbase }).next
        R.ENT_RESEEDS_COUNT).set R.ENT_STATUS_SEEDED 1).unstarve
  else s

/-! ### Windows (R415 to R418) -/

/-- A pair's window of 1,024 raw bits ends (R415 to R418). -/
def State.windowEnd (s : State) (p : Nat) (bs : List Byte) : State :=
  let k := s.pair p
  let c := (windowBits bs).foldl Scan.step { last := k.last, run := k.run, best := 0, ones := 0, same := 0 }
  let rct : Bool := 41 ≤ c.best
  let apt : Bool := 795 ≤ c.ones || 795 ≤ 1024 - c.ones
  let est := (k.ones + c.ones, k.same + c.same)
  let full := k.windows + 1 == 64
  let bad := rct || apt
  let good := if bad then 0 else k.good + 1
  let k' := { k with
    good := good, last := c.last, run := c.run
    ones := if full then 0 else est.1
    same := if full then 0 else est.2
    windows := if full then 0 else k.windows + 1
    ended := if full then some est else k.ended }
  let s1 := s.setPair p k'
  let s2 := if s.get R.ENT_TEST_MODE = 1 ∧ s.get R.ENT_TEST_PAIR = p ∧ s.ent.keep.isSome then
      s1.setEnt { s1.ent with raw := s1.ent.raw ++ bs } else s1
  let st := s.get (R.ENT_PAIR_STAT_STATE p)
  if bad then
    let s3 := if rct then s2.count (R.ENT_RCT_FAIL_COUNT p) else s2
    let s4 := if apt then s3.count (R.ENT_APT_FAIL_COUNT p) else s3
    let s5 := s4.cause R.ENT_EVENTS_CAUSE 144 145
    let run := min 8 (s.get (R.ENT_PAIR_STAT_RUN p) + 1)
    let s6 := s5.set (R.ENT_PAIR_STAT_RUN p) run
    if run = 8 ∧ st ≠ 2 then (s6.set (R.ENT_PAIR_STAT_STATE p) 2).cause R.ENT_EVENTS_CAUSE 144 146 else s6
  else
    let s3 := s2.set (R.ENT_PAIR_STAT_RUN p) 0
    if st = 1 then
      let s4 := s3.storeBlock bs
      if s4.is R.ENT_STATUS_STARVED then s4.reseed else s4
    else if st = 0 ∧ 4 ≤ good then s3.set (R.ENT_PAIR_STAT_STATE p) 1
    else s3

/-- An estimate block of a pair ends (R417). -/
def State.estimateEnd (s : State) (p : Nat) : State :=
  match (s.pair p).ended with
  | none => s
  | some (ones, same) =>
    ((s.setPair p { s.pair p with ended := none }).set (R.ENT_BIAS_ONES p) ones).set (R.ENT_CORR_SAME p) same

/-! ### Requests (R423) -/

/-- One generate request of `n` bytes (R419). -/
def State.gen (s : State) (n : Nat) : List Byte × State :=
  let r := s.ent.drbg.generate n
  let g := s.ent.gens + 1
  let s1 := s.setEnt { s.ent with drbg := r.2, gens := g, due := s.ent.due || g == 2 ^ 20 }
  (r.1, s1.set R.ENT_BYTES_COUNT (s.get R.ENT_BYTES_COUNT + n))

/-- The row of R423 a request waits in. -/
def EntReq.row : EntReq → Nat
  | .ses _ _ => 2
  | .comb _ => 5
  | .badge => 5
  | .keep => 5
  | _ => 1

/-- The first request of a row. -/
def firstReq (row : Nat) (l : List EntReq) : Option EntReq := l.find? (fun r => r.row == row)

/-- Take a request off the list. -/
def State.dropReq (s : State) (r : EntReq) : State := s.setEnt { s.ent with reqs := s.ent.reqs.erase r }

/-- The random bytes of a handshake of SES arrive. -/
def State.sesRandom (s : State) (ctx : Nat) (bs : List Byte) : State :=
  s.setEnt { s.ent with ses := tabIns s.ent.ses ctx (tabGet [] s.ent.ses ctx ++ bs) }

/-- Random bytes for a card unit arrive. -/
def State.cardRandom (s : State) (unit : Nat) (bs : List Byte) : State :=
  s.setEnt { s.ent with cards := tabIns s.ent.cards unit bs }

/-- Write `n` lines of a keep request (R425). -/
def State.keepLines (s : State) (a : Nat) : List (List Byte) → State
  | [] => s
  | l :: ls =>
    (s.wr { agent := 0x2C0, dom := 0, epoch := s.get R.ART_EPOCH_CURRENT } a l).keepLines (a + 64) ls

/-- Lines of the keep request have been served: it leaves the list with its last. -/
def State.keptUnits (s : State) (a left : Nat) : State :=
  s.setEnt { s.ent with keep := some (a, left), reqs := if left = 0 then s.ent.reqs.erase .keep else s.ent.reqs }

/-- Serve up to 8 lines of the keep request, from the DRBG or, in the RAW mode, from the bits captured. -/
def State.serveKeep (s : State) : State :=
  match s.ent.keep with
  | none => s
  | some (a, units) =>
  let n := min units 8
  if s.get R.ENT_TEST_MODE = 1 then
    if s.ent.raw.length < 64 * n then s else
    let s1 := (s.setEnt { s.ent with raw := s.ent.raw.drop (64 * n) }).keptUnits (a + 64 * n) (units - n)
    s1.keepLines a (blocks 64 (s.ent.raw.take (64 * n)))
  else
    let g := s.gen (64 * n)
    (g.2.keptUnits (a + 64 * n) (units - n)).keepLines a (blocks 64 g.1)

/-- Serve a request that waits in the list; the keep request stays there until its last unit. -/
def State.serveReq (s : State) (r : EntReq) : State :=
  let s0 := s.dropReq r
  match r with
  | .keep => s.serveKeep
  | .colour c =>
    let g := s0.gen 96
    (match g.2.memc.sweep with
     | some _ => g.2.recolourKeys c g.1
     | none => { g.2 with memc := { g.2.memc with keys := tabIns g.2.memc.keys c g.1 } })
  | .digKey => let g := s0.gen 32; { g.2 with pools := { g.2.pools with digKey := g.1 } }
  | .curveKey => let g := s0.gen 32; { g.2 with pools := { g.2.pools with curveKey := g.1 } }.set R.PKE_STATUS_CKEY 1
  | .ctxKey => let g := s0.gen 32; { g.2 with ses := { g.2.ses with ctxKey := g.1 } }
  | .ses ctx n => let g := s0.gen (min n 512); g.2.sesRandom ctx g.1
  | .comb slot => let g := s0.gen 32; g.2.cardRandom slot g.1
  | .badge => let g := s0.gen 16; g.2.cardRandom 2 g.1

/-- A key draw is asked for (R423, row 1), once. -/
def State.askKey (s : State) (r : EntReq) : State :=
  if s.ent.reqs.contains r then s else s.setEnt { s.ent with reqs := s.ent.reqs ++ [r] }

/-- The key draw that has waited longest is served where the DRBG can (R424, R427): a reseed that is due comes first, and without
its two blocks the DRBG is starved and nothing is drawn. -/
def State.keyServe (s : State) : State :=
  match firstReq 1 s.ent.reqs with
  | none => s
  | some r =>
    if s.is R.ENT_STATUS_TEST ∨ ¬ s.is R.ENT_STATUS_SEEDED then s
    else
      let s1 := if s.ent.due then s.reseed else s
      if s1.ent.due then s1 else s1.serveReq r

/-- The key draws that wait are served in their order, as far as the DRBG serves. -/
def State.keyServeAll (s : State) : State := (List.range s.ent.reqs.length).foldl (fun (s : State) _ => s.keyServe) s

/-- The SYM engine whose reserve is refilled next (R423): in turn from the one after that refilled last, one that is between
commands (R348) and short. -/
def State.symShort (s : State) : Option Nat :=
  ((List.range 32).map (fun k => (s.ent.turn + k) % 32)).find? (fun e =>
    decide ((tabGet [] s.pools.symRes e).length < 64) && !s.cmds.any (fun (c : Cmd) => c.pool == 0 && c.st == .running e))

/-- Serve the first waiting request in the order of R423; rows 1 to 4 are not served in a factory mode (R427). -/
def State.serveFirst (s : State) : State :=
  let test := s.is R.ENT_STATUS_TEST
  let keep := match firstReq 5 s.ent.reqs with | some r => s.serveReq r | none => s
  if test then keep else
  match firstReq 1 s.ent.reqs with
  | some r => s.serveReq r
  | none =>
    match firstReq 2 s.ent.reqs with
    | some r => s.serveReq r
    | none =>
      if s.pools.pkeRes.length + 512 ≤ 4096 then
        let g := s.gen 512
        { g.2 with pools := { g.2.pools with pkeRes := g.2.pools.pkeRes ++ g.1 } }
      else
        match s.symShort with
        | some e =>
          let g := s.gen 64
          { g.2 with
            pools := { g.2.pools with symRes := tabIns g.2.pools.symRes e ((tabGet [] g.2.pools.symRes e ++ g.1).take 64) }
            ent := { g.2.ent with turn := (e + 1) % 32 } }
        | none => keep

/-- Some request waits (R423). -/
def State.entWaits (s : State) : Bool :=
  (firstReq 5 s.ent.reqs).isSome
    || (!s.is R.ENT_STATUS_TEST
        && (!s.ent.reqs.isEmpty || s.pools.pkeRes.length + 512 ≤ 4096 || s.symShort.isSome))

/-- The DRBG serves the next request (R422 to R424): a reseed that is due comes first, and without two blocks the DRBG
is starved. The raw bits of the RAW mode need no DRBG (R427). -/
def State.drbgServe (s : State) : State :=
  if ¬ s.is R.ENT_STATUS_SEEDED then s
  else if s.get R.ENT_TEST_MODE = 1 ∧ firstReq 5 s.ent.reqs = some .keep then s.serveFirst
  else if s.ent.due ∧ s.ent.store.length < 2 then s.starve
  else if s.entWaits then s.reseed.serveFirst
  else s

/-! ### Keep requests (R425) -/

/-- The end of a keep request with a code: vector 144. -/
def State.entReqEnd (s : State) (code : Nat) : State :=
  (((s.setEnt { s.ent with keep := none, reqs := s.ent.reqs.filter (· != .keep) }).set R.ENT_STATUS_REQ_BUSY 0).set R.ENT_REQ_STATUS_CODE code).cause
    R.ENT_EVENTS_CAUSE 144 144

/-- ENT_REQ_CMD with GO (R422, R425); ignored while a request runs. -/
def State.entReq (s : State) (units : Nat) : State :=
  if s.is R.ENT_STATUS_REQ_BUSY then s
  else if units = 0 ∨ 1024 < units then s.entReqEnd 2
  else if ¬ s.is R.ENT_STATUS_SEEDED then s.entReqEnd 1
  else (s.setEnt { s.ent with keep := some (s.get R.ENT_REQ_ADDR_ADDR * 64, units), reqs := s.ent.reqs ++ [.keep], raw := [] }).set
    R.ENT_STATUS_REQ_BUSY 1

/-- The last line of a keep request is answered (R425). -/
def State.entReqDone (s : State) : State :=
  match s.ent.keep with
  | some (_, 0) => s.entReqEnd 0
  | _ => s

/-! ### Factory modes (R427), power and reset -/

/-- ENT_TEST written with MODE RAW or PATTERN, in FACTORY only. -/
def State.entTest (s : State) (mode pair : Nat) : State :=
  if s.get R.RST_LC_STATE ≠ 0 then s
  else
    let s1 := ((s.set R.ENT_TEST_MODE mode).set R.ENT_TEST_PAIR pair).set R.ENT_STATUS_TEST 1
    if mode = 2 then
      let n := s.ent.store.length
      s1.setEnt { s1.ent with store := (List.range n).map (fun i => sha256 (toLE 4 i)), pattern := n }
    else s1

/-- ENT_TEST written with MODE 0, in FACTORY only: SEEDED is cleared. -/
def State.entTestOff (s : State) (pair : Nat) : State :=
  if s.get R.RST_LC_STATE ≠ 0 then s
  else (((s.set R.ENT_TEST_MODE 0).set R.ENT_TEST_PAIR pair).set R.ENT_STATUS_TEST 0).set R.ENT_STATUS_SEEDED 0

/-- Every pair that is not OFF starts up again (R416, R426). -/
def State.entRestart (s : State) : State :=
  (List.range 8).foldl (fun s p =>
    if s.get (R.ENT_PAIR_STAT_STATE p) = 2 then s
    else ((s.set (R.ENT_PAIR_STAT_STATE p) 0).set (R.ENT_PAIR_STAT_RUN p) 0).setPair p {}) s

/-- Step 4 of a forced HOLD (R426): the DRBG state, the store and every reserve are cleared. -/
def State.entClear (s : State) : State :=
  { s.setEnt { s.ent with store := [], drbg := {}, reqs := [], ses := [], cards := [] } with
    pools := { s.pools with symRes := [], pkeRes := [] } }

end Sys2Proof.Machine
end

