-- ==== Sys2Proof/Machine/Icc.lean ====
section
/-!
DEFINITION. Sys2Proof/Machine/Icc.lean: the contact card slots (spec/17_cards.md R515 to R521): answers to reset, PPS,
T=0 and T=1, deactivation; commands ICC_ACTIVATE, ICC_EXCHANGE, ICC_DEACTIVATE, ICC_CHARACTER_RECEIVE,
ICC_WAIT_TIMEOUT, ICC_CLASS_RETRY, ICC_CLOCK_STOP, ICC_CARD_PRESENT and ICC_CARD_REMOVED.
-/

namespace Sys2Proof.Machine

/-! ### Answers to reset (R515, R517, R518) -/

/-- What an answer to reset gives: the interface bytes as (level, kind 0 TA to 3 TD, protocol of their group, value), the
protocols named, and how many bytes it has. -/
structure Atr where
  items : List (Nat × Nat × Nat × Nat)
  ts : List Nat
  len : Nat
  deriving DecidableEq, Repr

/-- The bytes of one level that `y` announces (TA, TB, TC, TD from bit 0), from position `pos`; none where the answer is
not that long yet. -/
def atrGroup (bs : List Byte) (i t y pos : Nat) : Option (List (Nat × Nat × Nat × Nat)) :=
  let ks := (List.range 4).filter (fun k => y.testBit k)
  if bs.length < pos + ks.length then none
  else some ((List.range ks.length).map (fun j => (i, ks.getD j 0, t, fld bs (pos + j) 1)))

/-- The levels of an answer from level `i` on (`k` bounds them). -/
def atrLevels (bs : List Byte) (i t y pos : Nat) : Nat → Option Atr
  | 0 => none
  | k + 1 =>
    match atrGroup bs i t y pos with
    | none => none
    | some its =>
      let pos' := pos + its.length
      if y.testBit 3 then
        let td := fld bs (pos' - 1) 1
        (atrLevels bs (i + 1) (td % 16) (td / 16) pos' k).map
          (fun a => { a with items := its ++ a.items, ts := td % 16 :: a.ts })
      else some { items := its, ts := [], len := pos' }

/-- An answer that is complete: TS direct or inverse, T0 with K historical bytes, and TCK where a protocol other than
T=0 is named. None where it is not complete yet, or TCK is wrong. -/
def atrParse (bs : List Byte) : Option Atr :=
  let t0 := fld bs 1 1
  if bs.length < 2 ∨ ¬ (fld bs 0 1 = 0x3B ∨ fld bs 0 1 = 0x3F) then none
  else
    match atrLevels bs 1 0 (t0 / 16) 2 16 with
    | none => none
    | some a =>
      let tck := a.ts.any (fun t => t != 0)
      let n := a.len + t0 % 16 + b2n tck
      if bs.length < n then none
      else if tck ∧ (bs.drop 1).foldl (· ^^^ ·) 0 ≠ (0 : Byte) then none
      else some { a with len := n }

/-- The first interface byte a test picks. -/
def Atr.byte (a : Atr) (p : Nat → Nat → Nat → Bool) : Option Nat :=
  (a.items.find? (fun x => p x.1 x.2.1 x.2.2.1)).map (fun x => x.2.2.2)

/-- TA1, which names Fi and Di. -/
def Atr.ta1 (a : Atr) : Option Nat := a.byte (fun i k _ => i == 1 && k == 0)
/-- TA2, which names a specific mode. -/
def Atr.ta2 (a : Atr) : Option Nat := a.byte (fun i k _ => i == 2 && k == 0)
/-- The first TA for T=15: class indicator and clock stop. -/
def Atr.ta15 (a : Atr) : Option Nat := a.byte (fun i k t => 2 < i && k == 0 && t == 15)
/-- IFSC, from the first TA for T=1, 32 by default. -/
def Atr.ifsc (a : Atr) : Nat := (a.byte (fun i k t => 2 < i && k == 0 && t == 1)).getD 32
/-- The first TC for T=1 asks for CRC. -/
def Atr.crc (a : Atr) : Bool := ((a.byte (fun i k t => 2 < i && k == 2 && t == 1)).getD 0).testBit 0
/-- The protocol: that of the specific mode, else the first one named, else T=0. -/
def Atr.proto (a : Atr) : Nat := match a.ta2 with | some v => v % 16 | none => a.ts.headD 0

/-- A pair of codes of Fi and Di that the slot supports (R515). -/
def iccPair (ta1 : Nat) : Bool := [0, 1, 9].contains (ta1 / 16) && [1, 2, 3, 4, 5, 8].contains (ta1 % 16)

/-- A code pair is that of Fd = 372 and Dd = 1. -/
def iccDefault (ta1 : Nat) : Bool := ta1 / 16 ≤ 1 && ta1 % 16 == 1

/-- A card the slot does not support (R515): a protocol other than T=0 and T=1, a specific mode that needs factors
without PPS, an IFSC outside 1 to 254. -/
def Atr.unsupported (a : Atr) : Bool :=
  decide (1 < a.proto) || (match a.ta2 with
    | some v => v.testBit 4 || !(iccDefault (a.ta1.getD 0x11))
    | none => false) || a.ifsc == 0 || a.ifsc == 255

/-- The class indicator excludes a class (0 C, 1 B). -/
def Atr.excludes (a : Atr) (cls : Nat) : Bool :=
  match a.ta15 with
  | some v => !(v.testBit (if cls = 0 then 2 else 1))
  | none => false

/-! ### The slot -/

/-- A slot of the ICC. -/
def State.iccSlot (s : State) (n : Nat) : Icc := tabGet {} s.icc n

/-- Change a slot. -/
def State.setIcc (s : State) (n : Nat) (k : Icc) : State := { s with icc := tabSet {} s.icc n k }

/-- The transfers of a slot (agent 0x2B1, with the domain of its DOME field). -/
def State.iccX (s : State) (n : Nat) : Xfer :=
  { agent := 0x2B1, dom := s.get (R.ICC_CFG_DOME n), epoch := s.get R.ART_EPOCH_CURRENT }

/-- An event of the ICC (R541). -/
def State.iccEvent (s : State) (v : Nat) : State := s.cause R.ICC_EVENTS_CAUSE 320 v

/-- The slot deactivates its card (R521): RST, CLK, I/O and VEN low. -/
def State.iccOff (s : State) (n : Nat) : State :=
  ((((s.setIcc n { s.iccSlot n with ven := false, rst := false, clk := 0, io := false, clkStop := false, woke := false }).set (R.ICC_STATUS_ACTIVE n) 0).set
    (R.ICC_STATUS_CLKSTOP n) 0).set (R.ICC_STATUS_FI n) 0).set (R.ICC_STATUS_DI n) 0

/-- The code of a command, with the event that its OP raises when it ends (R541). -/
def State.iccCode (s : State) (n op code rlen : Nat) : State :=
  ((s.set (R.ICC_RESULT_CODE n) code).set (R.ICC_RESULT_RLEN n) rlen).iccEvent (if op = 1 then 320 else 321)

/-- The running command ends with a code. -/
def State.iccEnd (s : State) (n code rlen : Nat) : State :=
  let k := s.iccSlot n
  ((s.setIcc n { k with cmd := 0, phase := .idle, rx := [], bad := false, reps := 0, eph := 0 }).set
    (R.ICC_STATUS_BUSY n) 0).iccCode n k.cmd code rlen

/-- The length of the ATR that an ACTIVATE has written by now (R517). -/
def Icc.written (k : Icc) : Nat := if k.phase = .pps ∨ k.phase = .ifs then k.atr.length else 0

/-- The running command fails and the card is deactivated. -/
def State.iccFail (s : State) (n code : Nat) : State := (s.iccEnd n code (s.iccSlot n).written).iccOff n

/-- The slot sends characters. -/
def State.iccSend (s : State) (n : Nat) (bs : List Byte) : State :=
  let k := s.iccSlot n
  s.setIcc n { k with tx := bs, reps := 0, rx := [], bad := false }

/-- Change a slot with a function. -/
def State.updIcc (s : State) (n : Nat) (f : Icc → Icc) : State := s.setIcc n (f (s.iccSlot n))

/-! ### T=1 (R519) -/

/-- The CRC of ISO/IEC 13239 over a block, low byte first. -/
def crc16 (bs : List Byte) : List Byte :=
  let step (c : Nat) (_ : Nat) : Nat := if c % 2 = 1 then (c / 2) ^^^ 0x8408 else c / 2
  let c := bs.foldl (fun c b => (List.range 8).foldl step (c ^^^ b.toNat)) 0xFFFF
  toLE 2 (c ^^^ 0xFFFF)

/-- The EDC of a block. -/
def t1Edc (crc : Bool) (bs : List Byte) : List Byte := if crc then crc16 bs else [bs.foldl (· ^^^ ·) 0]

/-- A block with its EDC: NAD 0, PCB, LEN, INF. -/
def t1Block (crc : Bool) (pcb : Nat) (inf : List Byte) : List Byte :=
  let b := [0, BitVec.ofNat 8 pcb, BitVec.ofNat 8 inf.length] ++ inf
  b ++ t1Edc crc b

/-- Send a block under T=1. -/
def State.t1Send (s : State) (n pcb : Nat) (inf : List Byte) : State := s.iccSend n (t1Block (s.iccSlot n).crc pcb inf)

/-- Send the next I-block of the command, at most IFSC bytes, with the M bit while more remains. -/
def State.t1Next (s : State) (n : Nat) : State :=
  let k := s.iccSlot n
  let inf := k.left.take k.ifsc
  let rest := k.left.drop k.ifsc
  (s.setIcc n { k with left := rest, ns := 1 - k.ns }).t1Send n (k.ns * 0x40 + b2n (!rest.isEmpty) * 0x20) inf

/-- A block with a bad EDC or a bad format (R519): an R-block, at most 3 times; then S(RESYNCH) once; then the exchange
fails. -/
def State.t1Bad (s : State) (n err : Nat) : State :=
  let k := s.iccSlot n
  if ¬ k.resynching ∧ k.tries < 3 then (s.setIcc n { k with tries := k.tries + 1 }).t1Send n (0x80 + k.nr * 0x10 + err) []
  else if ¬ k.resynch then (s.setIcc n { k with resynch := true, resynching := true }).t1Send n 0xC0 []
  else s.iccFail n 0x0706

/-! ### Exchanges -/

/-- The length of a short APDU's data field that T=0 sends: what follows P3 when more than Le does. -/
def t0Data (apdu : List Byte) : List Byte := if apdu.length ≤ 5 then [] else (apdu.drop 5).take (fld apdu 4 1)

/-- Send a header under T=0 (R519): `data` follows its procedure bytes, or P3 bytes are received. -/
def State.t0Header (s : State) (n : Nat) (hdr data : List Byte) : State :=
  let p3 := fld hdr 4 1
  let need := if ¬ data.isEmpty then 0 else if (s.iccSlot n).apdu.length = 4 then 0 else if p3 = 0 then 256 else p3
  (s.updIcc n (fun k => { k with hdr := hdr, left := data, need := need, wait := .proc })).iccSend n hdr

/-- Begin to send a command APDU under the protocol in use. -/
def State.iccApdu (s : State) (n : Nat) (apdu : List Byte) : State :=
  let s1 := (s.updIcc n (fun k => { k with apdu := apdu, resp := [], tries := 0, resynch := false, resynching := false, clk := 2 })).set
    (R.ICC_STATUS_CLKSTOP n) 0
  if s.is (R.ICC_STATUS_PROTO n) then (s1.updIcc n (fun k => { k with phase := .t1, left := apdu })).t1Next n
  else (s1.updIcc n (fun k => { k with phase := .t0 })).t0Header n (fitBytes 5 apdu) (t0Data apdu)

/-! ### Activation (R517) -/

/-- Power, clock and reset of a class (steps 1 to 3): the ATR is awaited with the default factors. -/
def State.iccReset (s : State) (n cls : Nat) : State :=
  let k := s.iccSlot n
  let k1 := { k with phase := .atr, ven := true, rst := true, clk := 2, io := true, rx := [], bad := false, reps := 0 }
  (((((s.setIcc n k1).set (R.ICC_STATUS_CLASS n) cls).set (R.ICC_STATUS_CLKSTOP n) 0).set
    (R.ICC_STATUS_PROTO n) 0).set (R.ICC_STATUS_FI n) 1).set (R.ICC_STATUS_DI n) 1

/-- The activation is complete. -/
def State.iccActive (s : State) (n : Nat) : State :=
  let len := (s.iccSlot n).atr.length
  (s.set (R.ICC_STATUS_ACTIVE n) 1).iccEnd n 0 len

/-- The IFS exchange under T=1, or the end. -/
def State.iccIfs (s : State) (n : Nat) : State :=
  if s.is (R.ICC_STATUS_PROTO n) then (s.updIcc n (fun k => { k with phase := .ifs })).t1Send n 0xC1 [0xFE] else s.iccActive n

/-- A failure in class C that class B may follow: the slot deactivates and waits 10 ms; otherwise ICC_NO_ATR. -/
def State.iccNoAtr (s : State) (n : Nat) : State :=
  if (s.iccSlot n).one ∧ s.get (R.ICC_STATUS_CLASS n) = 0 then
    (s.iccOff n).updIcc n (fun k => { k with phase := .retry, rx := [] })
  else s.iccFail n 0x0703

/-- The PPS request for TA1. -/
def ppsRequest (a : Atr) : List Byte :=
  let b : List Byte := [0xFF, BitVec.ofNat 8 (0x10 + a.proto), BitVec.ofNat 8 (a.ta1.getD 0x11)]
  b ++ [b.foldl (· ^^^ ·) 0]

/-- A complete ATR: written at BUF + 0x100; then PPS, IFS or the end. -/
def State.iccAtrDone (s : State) (n : Nat) (a : Atr) : State :=
  let k := s.iccSlot n
  if a.unsupported then s.iccFail n 0x0703
  else if a.excludes (s.get (R.ICC_STATUS_CLASS n)) then s.iccNoAtr n
  else
    let s1 := (s.wr (s.iccX n) (s.get (R.ICC_BUF_ADDR n) * 512 + 0x100) k.rx).set (R.ICC_STATUS_PROTO n) a.proto
    let s2 := s1.setIcc n { k with atr := k.rx, rx := [], clkStop := decide (64 ≤ a.ta15.getD 0)
                                   clkHigh := a.ta15.getD 0 / 64 == 2, crc := a.crc, ifsc := a.ifsc
                                   ns := 0, nr := 0, tries := 0, resynch := false, resynching := false }
    if s.is (R.ICC_CFG_PPS n) ∧ a.ta2 = none ∧ a.ta1.any iccPair then
      (s2.updIcc n (fun k => { k with phase := .pps })).iccSend n (ppsRequest a)
    else s2.iccIfs n

/-! ### Commands -/

/-- A command is refused: no card (ICC_NO_CARD), or the slot is busy (ICC_BUSY). -/
def State.iccRefusal (s : State) (n : Nat) : Option Nat :=
  if ¬ s.is (R.ICC_STATUS_PRESENT n) then some 0x0701 else if s.is (R.ICC_STATUS_BUSY n) then some 0x0708 else none

/-- A command runs. -/
def State.iccBusy (s : State) (n op : Nat) : State :=
  (s.updIcc n (fun k => { k with cmd := op })).set (R.ICC_STATUS_BUSY n) 1

/-- ACTIVATE (R517). -/
def State.iccActivate (s : State) (n : Nat) : State :=
  match s.iccRefusal n with
  | some c => s.iccCode n 1 c 0
  | none =>
    let cls := s.get (R.ICC_CFG_CLASS n)
    (((s.set (R.ICC_STATUS_ACTIVE n) 0).iccBusy n 1).updIcc n (fun k => { k with one := cls == 0 || cls == 3 })).iccReset n
      (if cls = 2 then 1 else 0)

/-- The length of a command APDU as CLEN gives it; one outside `lo` to `hi` is a free length within. -/
def State.clen (s : State) (clen lo hi : Nat) : Nat × State :=
  if lo ≤ clen ∧ clen ≤ hi then (clen, s) else let d := s.draw 16; (lo + d.1 % (hi + 1 - lo), d.2)

/-- EXCHANGE (R519): the command APDU is read at BUF + 0. -/
def State.iccExchange (s : State) (n clen : Nat) : State :=
  match s.iccRefusal n with
  | some c => s.iccCode n 2 c 0
  | none =>
    s.afterBank (s.iccX n) (s.get (R.ICC_BUF_ADDR n) * 512) 1 (.icc n clen) fun s =>
    let l := s.clen clen 4 261
    let r := l.2.rd (l.2.iccX n) (l.2.get (R.ICC_BUF_ADDR n) * 512) l.1
    (r.2.iccBusy n 2).iccApdu n r.1

/-- DEACTIVATE (R521): it ends a running command with ICC_REMOVED. -/
def State.iccDeactivate (s : State) (n : Nat) : State :=
  if ¬ s.is (R.ICC_STATUS_PRESENT n) then (s.set (R.ICC_RESULT_CODE n) 0x0701).set (R.ICC_RESULT_RLEN n) 0
  else if s.is (R.ICC_STATUS_BUSY n) then s.iccFail n 0x0702
  else ((s.set (R.ICC_RESULT_CODE n) 0).set (R.ICC_RESULT_RLEN n) 0).iccOff n

/-- A stop cause or the end of main power deactivates the card (R521, R532). -/
def State.iccStop (s : State) (n : Nat) : State :=
  if s.is (R.ICC_STATUS_BUSY n) then s.iccFail n 0x0702 else s.iccOff n

/-- The card is registered present (R516). -/
def State.iccPresent (s : State) (n : Nat) : State :=
  if s.is (R.ICC_STATUS_PRESENT n) then s else (s.set (R.ICC_STATUS_PRESENT n) 1).iccEvent 322

/-- The card is registered removed (R516, R521). -/
def State.iccRemoved (s : State) (n : Nat) : State :=
  if s.is (R.ICC_STATUS_PRESENT n) then ((s.iccStop n).set (R.ICC_STATUS_PRESENT n) 0).iccEvent 322 else s

/-- The slot stops CLK (R520), at the level the card asks for, or low, on an active card that allows it, with no command under way. -/
def State.iccClockStop (s : State) (n : Nat) : State :=
  if s.is (R.ICC_STATUS_ACTIVE n) ∧ (s.iccSlot n).clkStop ∧ ¬ s.is (R.ICC_STATUS_BUSY n) then
    (s.updIcc n (fun k => { k with clk := b2n k.clkHigh })).set (R.ICC_STATUS_CLKSTOP n) 1
  else s

/-- DEEP stops a running CLK of an active card that allows it, and deactivates another card (R532). -/
def State.iccDeep (s : State) (n : Nat) : State :=
  if ¬ (s.iccSlot n).clkStop then s.iccStop n
  else if (s.iccSlot n).clk = 2 then (s.iccClockStop n).updIcc n (fun k => { k with woke := true })
  else s

/-- The exit from DEEP lets a CLK run again that ran before (R532). -/
def State.iccWake (s : State) (n : Nat) : State :=
  if (s.iccSlot n).woke then (s.updIcc n (fun k => { k with clk := 2, woke := false })).set (R.ICC_STATUS_CLKSTOP n) 0 else s

/-- 10 ms after the failure in class C, class B is tried (R517). -/
def State.iccRetryB (s : State) (n : Nat) : State := if (s.iccSlot n).phase = .retry then s.iccReset n 1 else s

/-- A waiting time expires (R517, R518). -/
def State.iccTimeout (s : State) (n : Nat) : State :=
  match (s.iccSlot n).phase with
  | .atr => s.iccNoAtr n
  | .pps => s.iccFail n 0x0704
  | .ifs => s.iccFail n 0x0704
  | .t0 => s.iccFail n 0x0704
  | .t1 => s.iccFail n 0x0704
  | _ => s

/-! ### Characters from the card -/

/-- A procedure byte under T=0 (R519). -/
def State.t0Proc (s : State) (n : Nat) (b : Nat) : State :=
  let k := s.iccSlot n
  let ins := fld k.hdr 1 1
  let move (m : Nat) : State :=
    if k.left.isEmpty then
      (if k.need = 0 then s else s.setIcc n { k with wait := .data (min m k.need), need := k.need - min m k.need })
    else (s.setIcc n { k with left := k.left.drop m }).iccSend n (k.left.take m)
  if b = 0x60 then s
  else if b / 16 = 6 ∨ b / 16 = 9 then s.setIcc n { k with wait := .sw2 b }
  else if b = ins then move 256
  else if b = 255 - ins then move 1
  else s

/-- The end of an exchange with a response. -/
def State.iccResp (s : State) (n : Nat) (resp : List Byte) : State :=
  (s.wr (s.iccX n) (s.get (R.ICC_BUF_ADDR n) * 512 + 0x100) resp).iccEnd n 0 resp.length

/-- What a command does with a complete response: the exchange writes it; a component takes it (`f`). -/
def State.iccDone (s : State) (n : Nat) (f : State → Nat → List Byte → State) (resp : List Byte) : State :=
  if (s.iccSlot n).cmd = 4 then f s n resp else s.iccResp n resp

/-- SW1 and SW2 under T=0 (R519): GET RESPONSE on 61xx, the command again on 6Cxx, else the end. -/
def State.t0Status (s : State) (n : Nat) (f : State → Nat → List Byte → State) (sw1 sw2 : Nat) : State :=
  let k := s.iccSlot n
  let le (s : State) : State :=
    s.updIcc n (fun k => { k with need := if ¬ k.left.isEmpty then 0 else if sw2 = 0 then 256 else sw2 })
  if sw1 = 0x61 then le (s.t0Header n [k.hdr.headD 0, 0xC0, 0, 0, BitVec.ofNat 8 sw2] [])
  else if sw1 = 0x6C then
    le (s.t0Header n (k.hdr.take 4 ++ [BitVec.ofNat 8 sw2]) (if fld k.hdr 1 1 = 0xC0 then [] else t0Data k.apdu))
  else s.iccDone n f (k.resp.take 256 ++ [BitVec.ofNat 8 sw1, BitVec.ofNat 8 sw2])

/-- A character under T=0. -/
def State.t0Char (s : State) (n : Nat) (f : State → Nat → List Byte → State) (b : Byte) : State :=
  let k := s.iccSlot n
  match k.wait with
  | .proc => s.t0Proc n b.toNat
  | .data m => s.setIcc n { k with resp := k.resp ++ [b], wait := if m ≤ 1 then .proc else .data (m - 1) }
  | .sw2 sw1 => s.t0Status n f sw1 b.toNat

/-- A correct block under T=1 in an exchange (R519). -/
def State.t1Good (s : State) (n : Nat) (f : State → Nat → List Byte → State) (pcb : Nat) (inf : List Byte) : State :=
  let k := s.iccSlot n
  let s0 := s.setIcc n { k with rx := [] }
  if pcb < 0x80 then
    if ¬ k.left.isEmpty ∨ pcb / 64 ≠ k.nr ∨ pcb % 32 ≠ 0 ∨ k.resynching then s0.t1Bad n 2
    else
      let k' := { k with rx := [], resp := k.resp ++ inf, nr := 1 - k.nr, tries := 0 }
      if pcb.testBit 5 then (s0.setIcc n k').t1Send n (0x80 + k'.nr * 0x10) []
      else (s0.setIcc n k').iccDone n f (k'.resp.take 258)
  else if pcb < 0xC0 then
    if ¬ inf.isEmpty ∨ pcb % 16 > 2 ∨ pcb.testBit 5 ∨ k.resynching then s0.t1Bad n 2
    else if pcb / 16 % 2 = k.ns ∧ ¬ k.left.isEmpty then (s0.setIcc n { k with rx := [], tries := 0 }).t1Next n
    else s0.iccSend n k.tx
  else
    match pcb % 64 with
    | 0x01 => (s0.setIcc n { k with rx := [], ifsc := min 254 (max 1 (fld inf 0 1)) }).t1Send n 0xE1 inf
    | 0x02 => s0.t1Send n 0xE2 []
    | 0x03 => s0.t1Send n 0xE3 inf
    | 0x20 =>
      if k.resynching then
        (s0.setIcc n { k with rx := [], resynching := false, tries := 0, ns := 0, nr := 0, resp := [], left := k.apdu }).t1Next n
      else s0.t1Bad n 2
    | _ => s0.t1Bad n 2

/-- A block under T=1 is complete: its check, then what it is. -/
def State.t1Block (s : State) (n : Nat) (f : State → Nat → List Byte → State) : State :=
  let k := s.iccSlot n
  let len := fld k.rx 2 1
  let body := k.rx.take (3 + len)
  let pcb := fld k.rx 1 1
  if k.bad ∨ k.rx ≠ body ++ t1Edc k.crc body then (s.setIcc n { k with rx := [], bad := false }).t1Bad n 1
  else if fld k.rx 0 1 ≠ 0 ∨ len = 255 then (s.setIcc n { k with rx := [] }).t1Bad n 2
  else if k.phase = .ifs then
    (if pcb = 0xE1 ∧ body.drop 3 = [0xFE] then (s.setIcc n { k with rx := [], tries := 0 }).iccActive n
     else if pcb = 0xE0 ∧ k.resynching then
       (s.setIcc n { k with rx := [], resynching := false, tries := 0 }).t1Send n 0xC1 [0xFE]
     else if pcb / 64 = 2 ∧ ¬ k.resynching then s.iccSend n k.tx
     else (s.setIcc n { k with rx := [] }).t1Bad n 2)
  else s.t1Good n f pcb (body.drop 3)

/-- A character under T=1. -/
def State.t1Char (s : State) (n : Nat) (f : State → Nat → List Byte → State) (b : Byte) (bad : Bool) : State :=
  let k := s.iccSlot n
  let rx := k.rx ++ [b]
  let s1 := s.setIcc n { k with rx := rx, bad := k.bad || bad }
  if 3 ≤ rx.length ∧ rx.length = 3 + fld rx 2 1 + (if k.crc then 2 else 1) then s1.t1Block n f else s1

/-- A character of the ATR: the answer is too long, with more than 33, complete, or goes on. -/
def State.atrChar (s : State) (n : Nat) (b : Byte) : State :=
  let k := s.iccSlot n
  let s1 := s.setIcc n { k with rx := k.rx ++ [b] }
  if 33 ≤ k.rx.length then s1.iccFail n 0x0703
  else match atrParse (k.rx ++ [b]) with
    | some a => s1.iccAtrDone n a
    | none => s1

/-- A character of the PPS response (R517). -/
def State.ppsChar (s : State) (n : Nat) (b : Byte) : State :=
  let k := s.iccSlot n
  let rx := k.rx ++ [b]
  if rx = k.tx then
    ((s.setIcc n { k with rx := [] }).set (R.ICC_STATUS_FI n) (fld rx 2 1 / 16)).set (R.ICC_STATUS_DI n) (fld rx 2 1 % 16)
      |>.iccIfs n
  else if rx.isPrefixOf k.tx then s.setIcc n { k with rx := rx }
  else s.iccFail n 0x0707

/-- A parity error under T=0, in the ATR or in PPS (R519), of a received character, or of that sent at a position: it is repeated,
up to RETRY times. One more ends an exchange with ICC_PARITY. A parity error in the ATR or PPS that outlasts RETRY leaves no
usable ATR. -/
def State.iccParity (s : State) (n : Nat) (at_ : Option Nat) : State :=
  let k := s.iccSlot n
  let r := if k.repAt = at_ then k.reps else 0
  if r < s.get (R.ICC_CFG_RETRY n) then (s.setIcc n { k with reps := r + 1, repAt := at_ }).count (R.ICC_REPEAT_COUNT n)
  else if k.phase = .t0 then s.iccEnd n 0x0705 0
  else s.iccFail n 0x0703

/-- ICC_CHARACTER_RECEIVE: a character (kind 0), one with a parity error (1), or the card's signal on the character it was
sent at position `b` of those last sent (2). `f` takes the response to COMPONENT. -/
def State.iccChar (s : State) (n : Nat) (f : State → Nat → List Byte → State) (b : Byte) (kind : Nat) : State :=
  let k := s.iccSlot n
  let good := s.setIcc n { k with reps := 0, repAt := none }
  let bad : State :=
    if kind = 1 then s.iccParity n none else if b.toNat < k.tx.length then s.iccParity n (some b.toNat) else s
  match k.phase with
  | .atr => if kind = 0 then good.atrChar n b else if kind = 1 then bad else s
  | .pps => if kind = 0 then good.ppsChar n b else bad
  | .t0 => if kind = 0 then good.t0Char n f b else bad
  | .ifs => if kind = 2 then s else s.t1Char n f b (kind == 1)
  | .t1 => if kind = 2 then s else s.t1Char n f b (kind == 1)
  | _ => s

end Sys2Proof.Machine
end

