-- ==== Sys2Proof/Machine/Charges.lean ====
section
/-!
DEFINITION. Sys2Proof/Machine/Charges.lean: the SYM and DIG descriptors (spec/11_symmetric_payment_digest.md R359, R360,
R366, R368, R369): the key fields a command uses, its limits (order 1 of R346), and its charge in engine time units
(R344).
-/

namespace Sys2Proof.Machine

/-- `a` ÷ `b` rounded up. -/
def ceilDiv (a b : Nat) : Nat := (a + (b - 1)) / b

/-! ### SYM (R359) -/

/-- The operations of the SYM pool by OP (R360, R366). -/
inductive SymOp where
  | ecb (dec : Bool) | cbc (dec : Bool) | ctr | gcm (dec : Bool) | cmac (ver : Bool)
  | tecb (dec : Bool) | tcbc (dec : Bool) | tmac (ver : Bool) | ff1 (dec : Bool)
  | pinTranslate | pvfVerify | pvfGenerate | arqcVerify | arpcGenerate
  | dukptPin | dukptMac | dukptDec | kbImport | kbExport
  deriving DecidableEq, Repr

/-- OP of a SYM descriptor. -/
def symOp (op : Nat) : Option SymOp :=
  match op with
  | 0x01 => some (.ecb false)
  | 0x02 => some (.ecb true)
  | 0x03 => some (.cbc false)
  | 0x04 => some (.cbc true)
  | 0x05 => some .ctr
  | 0x06 => some (.gcm false)
  | 0x07 => some (.gcm true)
  | 0x08 => some (.cmac false)
  | 0x09 => some (.cmac true)
  | 0x10 => some (.tecb false)
  | 0x11 => some (.tecb true)
  | 0x12 => some (.tcbc false)
  | 0x13 => some (.tcbc true)
  | 0x14 => some (.tmac false)
  | 0x15 => some (.tmac true)
  | 0x18 => some (.ff1 false)
  | 0x19 => some (.ff1 true)
  | 0x20 => some .pinTranslate
  | 0x21 => some .pvfVerify
  | 0x22 => some .pvfGenerate
  | 0x28 => some .arqcVerify
  | 0x29 => some .arpcGenerate
  | 0x30 => some .dukptPin
  | 0x31 => some .dukptMac
  | 0x32 => some .dukptDec
  | 0x38 => some .kbImport
  | 0x39 => some .kbExport
  | _ => none

/-- The fields of a SYM descriptor (R359). -/
structure SymD where
  op : SymOp
  ivOut : Bool
  flags : Nat
  key0 : Nat
  key1 : Nat
  status : Nat
  inA : Nat
  inLen : Nat
  out : Nat
  aux : Nat
  auxLen : Nat
  zero : Nat
  param : List Byte
  deriving DecidableEq, Repr

/-- Read a SYM descriptor (R359). -/
def symDesc (d : List Byte) : Option SymD :=
  (symOp (fld d 0 1)).map (fun op =>
    { op := op, ivOut := bitOf (fld d 1 1) 0, flags := fld d 1 1, key0 := fld d 2 1, key1 := fld d 3 1,
      status := fld d 4 4, inA := fld d 8 4, inLen := fld d 12 4, out := fld d 16 4, aux := fld d 20 4,
      auxLen := fld d 24 4, zero := fld d 28 4, param := sliceB d 32 32 })

/-- A command uses KEY1 (R366). -/
def SymOp.twoKeys : SymOp → Bool
  | .pinTranslate => true
  | .pvfVerify => true
  | .pvfGenerate => true
  | .dukptPin => true
  | .kbExport => true
  | _ => false

/-- A command has an OUT (the verifications of R360 and R366 that give a verdict alone have none). -/
def SymD.usesOut (d : SymD) : Bool :=
  match d.op with
  | .cmac ver => !ver
  | .tmac ver => !ver
  | .pvfVerify => false
  | .dukptMac => false
  | _ => true

/-- A command takes IN: ARPC_GENERATE and KB_EXPORT do not. -/
def SymD.usesIn (d : SymD) : Bool :=
  match d.op with
  | .arpcGenerate => false
  | .kbExport => false
  | _ => true

/-- The bytes of AUX a command reads (R360, R366): AAD, an expected MAC, an FF1 tweak, proprietary data, or an IV. -/
def SymD.auxRead (d : SymD) : Nat :=
  match d.op with
  | .gcm _ => d.auxLen
  | .cmac ver => if ver then fld d.param 0 1 else 0
  | .tmac ver => if ver then fld d.param 2 1 else 0
  | .ff1 _ => d.auxLen
  | .arqcVerify => d.auxLen
  | .arpcGenerate => d.auxLen
  | .dukptMac => fld d.param 0x0D 1
  | .dukptDec => 16
  | _ => 0

/-- The bytes of AUX a command writes: the next IV or counter block with IV_OUT (R359). -/
def SymD.auxWrite (d : SymD) : Nat :=
  match d.op with
  | .cbc _ => if d.ivOut then 16 else 0
  | .ctr => if d.ivOut then 16 else 0
  | .tcbc _ => if d.ivOut then 8 else 0
  | _ => 0

/-- AUX and AUX_LEN are fields the command uses (R360, R366; the next IV of R359). -/
def SymD.usesAux (d : SymD) : Bool :=
  match d.op with
  | .gcm _ => true
  | .cmac ver => ver
  | .tmac ver => ver
  | .ff1 _ => true
  | .arqcVerify => true
  | .arpcGenerate => true
  | .dukptMac => true
  | .dukptDec => true
  | _ => d.auxWrite != 0

/-- The bytes a command writes at OUT; `keyLen` is the length of the first key, which fixes that of an exported block
(R367). -/
def SymD.outLen (d : SymD) (keyLen : Nat) : Nat :=
  match d.op with
  | .ecb _ => d.inLen
  | .cbc _ => d.inLen
  | .ctr => d.inLen
  | .gcm dec => if dec then d.inLen else d.inLen + fld d.param 0x0C 1
  | .cmac ver => if ver then 0 else fld d.param 0 1
  | .tecb _ => d.inLen
  | .tcbc _ => d.inLen
  | .tmac ver => if ver then 0 else fld d.param 2 1
  | .ff1 _ => d.inLen
  | .pinTranslate => if fld d.param 1 1 = 4 then 16 else 8
  | .pvfGenerate => 8
  | .arqcVerify => if fld d.param 0x1B 1 % 2 = 0 then 0 else if fld d.param 0x1A 1 = 1 then 8 else 4
  | .arpcGenerate => if fld d.param 0x1A 1 = 1 then 8 else 4
  | .dukptPin => if fld d.param 0x0D 1 = 4 then 16 else 8
  | .dukptDec => d.inLen
  | .kbImport => 64
  | .kbExport => if 30 < keyLen then 144 else 112
  | _ => 0

/-- The bytes a command reads at IN. -/
def SymD.inRead (d : SymD) : Nat :=
  match d.op with
  | .gcm dec => if dec then d.inLen + fld d.param 0x0C 1 else d.inLen
  | _ => if d.usesIn then d.inLen else 0

/-- A command uses PARAM (R360, R366). -/
def SymD.usesParam (d : SymD) : Bool :=
  match d.op with
  | .ecb _ => false
  | .tecb _ => false
  | .ff1 _ => false
  | _ => true

/-- A PIN format the device has (R361). -/
def pinFmt (f : Nat) : Bool := f == 0 || f == 1 || f == 3 || f == 4

/-- PANLEN within 12 to 19 (R361). -/
def panLenOk (n : Nat) : Bool := 12 ≤ n && n ≤ 19

/-- The lengths, formats and parameters of R360 to R366 within their limits. -/
def SymD.limits (d : SymD) : Bool :=
  let p (i : Nat) : Nat := fld d.param i 1
  match d.op with
  | .ecb _ => d.inLen % 16 == 0
  | .cbc _ => d.inLen % 16 == 0
  | .ctr => true
  | .gcm _ => 12 ≤ p 12 && p 12 ≤ 16
  | .cmac _ => 4 ≤ p 0 && p 0 ≤ 16
  | .tecb _ => d.inLen % 8 == 0
  | .tcbc _ => d.inLen % 8 == 0
  | .tmac _ => (p 0 == 1 || p 0 == 3) && (p 1 == 1 || p 1 == 2) && 4 ≤ p 2 && p 2 ≤ 8
  | .ff1 _ => 6 ≤ d.inLen && d.inLen ≤ 56 && d.auxLen ≤ 32
  | .pinTranslate => pinFmt (p 0) && pinFmt (p 1) && panLenOk (p 2) && d.inLen == (if p 0 = 4 then 16 else 8)
  | .pvfVerify => pinFmt (p 0) && panLenOk (p 2) && d.inLen == (if p 0 = 4 then 16 else 8)
  | .pvfGenerate => pinFmt (p 0) && panLenOk (p 2) && d.inLen == (if p 0 = 4 then 16 else 8)
  | .arqcVerify => panLenOk (p 0) && (p 0x1A == 1 || p 0x1A == 2) && p 0x1C < 2 && d.inLen ≤ 256
      && d.auxLen ≤ 8
  | .arpcGenerate => panLenOk (p 0) && (p 0x1A == 1 || p 0x1A == 2) && p 0x1C < 2 && d.inLen == 0
      && d.auxLen ≤ 8
  | .dukptPin => p 12 < 3 && pinFmt (p 13) && panLenOk (p 14) && d.inLen == 16
  | .dukptMac => p 12 < 3 && 4 ≤ p 13 && p 13 ≤ 16
  | .dukptDec => p 12 < 3 && d.inLen % 16 == 0
  | .kbImport => d.inLen ≤ 160
  | .kbExport => d.inLen == 0

/-- Order 1 of R346: the zero fields, the unused fields and the limits. -/
def SymD.descOk (d : SymD) : Bool :=
  let ivOk := match d.op with
    | .cbc _ => d.flags < 2
    | .ctr => d.flags < 2
    | .tcbc _ => d.flags < 2
    | _ => d.flags == 0
  ivOk && d.zero == 0 && (d.op.twoKeys || d.key1 == 0) && d.inLen ≤ 65536 && d.auxLen ≤ 4096
    && (d.usesIn || d.inA == 0) && (d.usesOut || d.out == 0) && (d.usesAux || (d.aux == 0 && d.auxLen == 0))
    && (d.usesParam || allZero d.param) && d.limits

/-- p(f) of R366. -/
def pinUnits (f : Nat) : Nat := if f = 4 then 20 else 12

/-- The charge of a SYM command (R344, R360, R366): 1 where a field it depends on lies outside its limits. -/
def SymD.units (d : SymD) : Nat :=
  let p (i : Nat) : Nat := fld d.param i 1
  let l := d.inLen
  let n (k : Nat) : Nat := ceilDiv l k
  let lok := decide (l ≤ 65536)
  let orOne (ok : Bool) (u : Nat) : Nat := if ok then u else 1
  match d.op with
  | .ecb _ => orOne (lok && l % 16 == 0) (4 + n 64)
  | .cbc dec => orOne (lok && l % 16 == 0) (4 + (if dec then n 64 else n 16))
  | .ctr => orOne lok (4 + n 64)
  | .gcm dec => orOne (lok && d.auxLen ≤ 4096) (6 + (if dec then 2 else 1) * n 64 + ceilDiv d.auxLen 64)
  | .cmac _ => orOne lok (4 + max 1 (n 16))
  | .tecb _ => orOne (lok && l % 8 == 0) (4 + n 8)
  | .tcbc _ => orOne (lok && l % 8 == 0) (4 + n 8)
  | .tmac _ => orOne lok (5 + n 8)
  | .ff1 _ => orOne (6 ≤ l && l ≤ 56) (20 + 10 * n 19)
  | .pinTranslate => orOne (pinFmt (p 0) && pinFmt (p 1)) (pinUnits (p 0) + pinUnits (p 1))
  | .pvfVerify => orOne (pinFmt (p 0)) (pinUnits (p 0) + 12)
  | .pvfGenerate => orOne (pinFmt (p 0)) (pinUnits (p 0) + 12)
  | .arqcVerify => orOne (l ≤ 256 && p 0x1C < 2) (if p 0x1C = 0 then 28 + n 16 else 36 + n 8)
  | .arpcGenerate => orOne (p 0x1C < 2) (if p 0x1C = 0 then 24 else 28)
  | .dukptPin => orOne (pinFmt (p 13)) (60 + pinUnits (p 13))
  | .dukptMac => orOne lok (44 + max 1 (n 16))
  | .dukptDec => orOne (lok && l % 16 == 0) (44 + n 64)
  | .kbImport => 64
  | .kbExport => 64

/-! ### DIG (R368) -/

/-- The fields of a DIG descriptor (R368). -/
structure DigD where
  op : Nat
  alg : Nat
  key : Nat
  b3 : Nat
  status : Nat
  inA : Nat
  inLen : Nat
  out : Nat
  ctx : Nat
  zero : Nat
  deriving DecidableEq, Repr

/-- Read a DIG descriptor. -/
def digDesc (d : List Byte) : DigD :=
  { op := fld d 0 1, alg := fld d 1 1, key := fld d 2 1, b3 := fld d 3 1, status := fld d 4 4, inA := fld d 8 4,
    inLen := fld d 12 4, out := fld d 16 4, ctx := fld d 20 4, zero := fld d 24 8 }

/-- The digest lengths of ALG 0 to 3. -/
def digLen (alg : Nat) : Nat := if alg = 0 then 28 else if alg = 1 then 32 else if alg = 2 then 48 else 64

/-- INIT, UPDATE or FINAL with KEYED set. -/
def DigD.keyed (d : DigD) : Bool := (d.op == 4 || d.op == 5 || d.op == 6) && d.b3 % 2 == 1

/-- A command uses KEY (R368). -/
def DigD.usesKey (d : DigD) : Bool := d.op == 2 || d.op == 3 || d.keyed

/-- Order 1 of R346 for a DIG descriptor. -/
def DigD.descOk (d : DigD) : Bool :=
  1 ≤ d.op && d.op ≤ 6 && d.alg < 4 && d.inLen ≤ 0x100000 && d.zero == 0 && (d.usesKey || d.key == 0)
    && (if d.op = 3 then 4 ≤ d.b3 && d.b3 ≤ digLen d.alg else if 4 ≤ d.op then d.b3 < 2 else d.b3 == 0)
    && ((d.op != 4 && d.op != 5) || d.out == 0) && (d.op < 4 || d.ctx % 64 == 0)

/-- The charge of a DIG command (R344, R369): 1 where a field it depends on lies outside its limits, among which INIT has no
IN_LEN and, unkeyed, no ALG. -/
def DigD.units (d : DigD) : Nat :=
  let used : Bool := match d.op with
    | 1 | 2 | 3 => decide (d.alg ≤ 3) && decide (d.inLen ≤ 0x100000)
    | 4 => decide (d.b3 < 2) && (!d.keyed || decide (d.alg ≤ 3))
    | 5 | 6 => decide (d.alg ≤ 3) && decide (d.inLen ≤ 0x100000) && decide (d.b3 < 2)
    | _ => false
  if ¬ used then 1 else
  let big := decide (2 ≤ d.alg)
  let bs := if big then 128 else 64
  let c := if big then 5 else 4
  let lf := if big then 16 else 8
  let b := (d.inLen + lf) / bs + 1
  let nb := ceilDiv d.inLen bs
  match d.op with
  | 1 => 2 + b * c
  | 2 => 2 + (b + 3) * c
  | 3 => 2 + (b + 3) * c
  | 4 => if d.keyed then 10 + c else 6
  | 5 => 6 + (nb + 1) * c + (if d.keyed then 4 else 0)
  | _ => 6 + (nb + 2) * c + (if d.keyed then 4 + 2 * c else 0)

end Sys2Proof.Machine
end

