-- ==== Sys2Proof/Machine/PkCharges.lean ====
section
/-!
DEFINITION. Sys2Proof/Machine/PkCharges.lean: the PKE descriptor (spec/12_public_key.md R377), the groups (R380), which
fields each command uses (R386), order 1 of R389, and the charges (R396, R401, R402).
-/

namespace Sys2Proof.Machine

/-- The fields of a PKE descriptor (R377). -/
structure PkD where
  op : Nat
  curve : Nat
  key : Nat
  hash : Nat
  status : Nat
  inA : Nat
  inLen : Nat
  out : Nat
  pko : Nat
  pkoLen : Nat
  pub : Nat
  pubLen : Nat
  aux : Nat
  auxLen : Nat
  zero : Nat
  param : List Byte
  deriving DecidableEq, Repr

/-- Read a PKE descriptor. -/
def pkDesc (d : List Byte) : PkD :=
  { op := fld d 0 1, curve := fld d 1 1, key := fld d 2 1, hash := fld d 3 1, status := fld d 4 4, inA := fld d 8 4,
    inLen := fld d 12 4, out := fld d 16 4, pko := fld d 20 4, pkoLen := fld d 24 4, pub := fld d 28 4,
    pubLen := fld d 32 4, aux := fld d 36 4, auxLen := fld d 40 4, zero := fld d 44 4, param := sliceB d 48 16 }

/-- A named Weierstrass curve (R380). -/
def isWei (c : Nat) : Bool := 1 ≤ c && c ≤ 5
/-- A loadable class (R392). -/
def isLoad (c : Nat) : Bool := c == 0x81 || c == 0x82 || c == 0x83
/-- An RSA modulus. -/
def isRsa (c : Nat) : Bool := c == 0x20 || c == 0x30 || c == 0x40
/-- The modulus length k in bytes. -/
def rsaK (c : Nat) : Nat := c * 8
/-- The field bytes f of a named curve. -/
def curveF (c : Nat) : Nat := if c = 2 ∨ c = 5 then 48 else if c = 3 then 66 else 32
/-- The order bytes of a named curve. -/
def curveOn (c : Nat) : Nat := curveF c
/-- The least and greatest field bytes of a loadable class (R380). -/
def loadF (c : Nat) : Nat × Nat := if c = 0x81 then (24, 32) else if c = 0x82 then (33, 48) else (49, 66)
/-- The digest length of HASH 1 to 3. -/
def hashLen (h : Nat) : Nat := if h = 1 then 32 else if h = 2 then 48 else if h = 3 then 64 else 0

/-- The groups each command takes (R386). -/
def pkGroupOk (op c : Nat) : Bool :=
  let curve := isWei c || isLoad c || c == 8 || c == 9
  match op with
  | 0x01 => c == 0
  | 0x10 => curve
  | 0x11 => isWei c || isLoad c || c == 8
  | 0x12 => isWei c || isLoad c || c == 8
  | 0x13 => isWei c || isLoad c || c == 9
  | 0x14 => curve || isRsa c
  | 0x18 => isLoad c
  | 0x20 => isRsa c
  | 0x21 => isRsa c
  | 0x22 => isRsa c
  | 0x23 => isRsa c
  | 0x30 => isWei c || c == 8 || c == 9 || isRsa c
  | _ => false

/-- A command uses PKO and KEY; KEYGEN and PK_IMPORT use KEY alone. -/
def pkUsesPko (op : Nat) : Bool := op == 0x11 || op == 0x13 || op == 0x14 || op == 0x20 || op == 0x22
/-- A command uses KEY. -/
def pkUsesKey (op : Nat) : Bool := pkUsesPko op || op == 0x10 || op == 0x30
/-- A command uses IN. -/
def pkUsesIn (op : Nat) : Bool :=
  op == 1 || op == 0x11 || op == 0x12 || op == 0x20 || op == 0x21 || op == 0x22 || op == 0x23 || op == 0x30
/-- A command uses PUB. -/
def pkUsesPub (op : Nat) : Bool := op == 0x12 || op == 0x13 || op == 0x21 || op == 0x23
/-- A command uses AUX: the program, the signature, the curve record, or the sealed record of a loadable curve. -/
def pkUsesAux (op c : Nat) : Bool := op == 1 || op == 0x12 || op == 0x18 || op == 0x21 || isLoad c
/-- A command uses HASH. -/
def pkUsesHash (op : Nat) : Bool :=
  op == 0x11 || op == 0x12 || op == 0x20 || op == 0x21 || op == 0x22 || op == 0x23
/-- A command uses OUT. -/
def pkUsesOut (op : Nat) : Bool := op != 0x12 && op != 0x21
/-- A command takes 128 bytes of the reserve (R398). -/
def pkUsesRandom (op : Nat) : Bool :=
  op == 0x10 || op == 0x11 || op == 0x13 || op == 0x20 || op == 0x22 || op == 0x23 || op == 0x30

/-- The units of one modular instruction (R396); none for an undefined OP. -/
def modUnits (w op : Nat) : Option Nat :=
  let u := (w * w + 1) / 2
  match op with
  | 1 => some w
  | 2 => some w
  | 3 => some u
  | 4 => some u
  | 5 => some (40 * w * w + 24)
  | 6 => some (320 * w * u)
  | 7 => some w
  | 8 => some w
  | 9 => some w
  | 10 => some w
  | _ => none

/-- One instruction word is well formed (R396): slots below 32, d not MSLOT, and b zero where it must be. SETI takes
its value from a and b. -/
def modInsOk (mslot word : Nat) : Bool :=
  let op := word / 2 ^ 24
  let d := word / 2 ^ 16 % 256
  let a := word / 2 ^ 8 % 256
  let b := word % 256
  1 ≤ op && op ≤ 10 && d < 32 && d != mslot
    && (op == 9 || (a < 32 && (if op == 4 || op == 5 || op == 7 || op == 10 then b == 0 else b < 32)))

/-- The words of a modular program. -/
def modWords (aux : List Byte) (n : Nat) : List Nat := (List.range n).map (fun i => fld aux (4 * i) 4)

/-- The recomputed charge of a modular program (R396), if every instruction is well formed. -/
def modCharge (w nin nout mslot : Nat) (words : List Nat) : Option Nat :=
  if words.all (modInsOk mslot) then
    words.foldl (fun acc x => match acc, modUnits w (x / 2 ^ 24) with
      | some a, some u => some (a + u)
      | _, _ => none) (some (4 + 4 * w * w + (nin + nout) * w))
  else none

/-- The columns of R401: KEYGEN and PK_IMPORT, SIGN, VERIFY, AGREE, PUBLIC. -/
def ecRow (c : Nat) : List Nat :=
  match c with
  | 1 => [15300, 11420, 7616, 9140, 40]
  | 2 => [34400, 25700, 17140, 20560, 40]
  | 3 => [65800, 49100, 32750, 39300, 40]
  | 4 => [20650, 15420, 10280, 12340, 40]
  | 5 => [46400, 34700, 23140, 27760, 40]
  | 0x81 => [20670, 15440, 10300, 12360, 60]
  | 0x82 => [46420, 34720, 23160, 27780, 60]
  | 0x83 => [88820, 66320, 44220, 53020, 60]
  | 8 => [11520, 7990, 6100, 0, 40]
  | 9 => [4500, 0, 0, 8600, 40]
  | _ => []

/-- The columns of R402: RSA_SIGN, RSA_DECRYPT, the public operations with a small and a large e, PK_IMPORT, PUBLIC. -/
def rsaRow (c : Nat) : List Nat :=
  match c with
  | 0x20 => [21330, 21400, 420, 3200, 21800, 40]
  | 0x30 => [68500, 68570, 900, 7000, 69200, 60]
  | _ => [157600, 157670, 1560, 12300, 158800, 80]

/-- EBYTES (R387). -/
def PkD.ebytes (d : PkD) : Nat := fld d.param 1 1

/-- The charge of a PKE command (R344, R397, R401, R402): 1 where it cannot be computed from the descriptor. -/
def PkD.units (d : PkD) : Nat :=
  let b := (d.inLen + 81 + 127) / 128
  let col (i : Nat) : Nat := (ecRow d.curve).getD i 1
  let rsa (i : Nat) : Nat := (rsaRow d.curve).getD i 1
  let pubCol := if 3 ≤ d.ebytes ∧ d.ebytes ≤ 4 then rsa 2 else if 5 ≤ d.ebytes ∧ d.ebytes ≤ 32 then rsa 3 else 1
  if ¬ pkGroupOk d.op d.curve then 1
  else match d.op with
  | 0x01 => fld d.param 8 4
  | 0x10 => col 0
  | 0x11 => if d.curve = 8 then (if d.inLen ≤ 16384 then col 1 + 10 * b else 1) else col 1
  | 0x12 => if d.curve = 8 then (if d.inLen ≤ 16384 then col 2 + 5 * b else 1) else col 2
  | 0x13 => col 3
  | 0x14 => if isRsa d.curve then rsa 5 else col 4
  | 0x18 => if d.curve = 0x81 then 60000 else if d.curve = 0x82 then 140000 else 280000
  | 0x20 => rsa 0
  | 0x22 => rsa 1
  | 0x21 => pubCol
  | 0x23 => pubCol
  | _ => if isRsa d.curve then rsa 4 else col 0

/-- AUX_LEN holds a sealed record of the class, 32 + 6f bytes, followed by `lo` to `hi` bytes. -/
def recLenOk (c len lo hi : Nat) : Bool :=
  let f := loadF c
  32 + 6 * f.1 + lo ≤ len && len ≤ 32 + 6 * f.2 + hi

/-- The lengths, HASH and PARAM of a command within its limits (R381, R387, R388, R392, R395); what depends on the
content of AUX (a program, a curve record) is checked beside it. -/
def PkD.limits (d : PkD) : Bool :=
  let c := d.curve
  let f := curveF c
  let hl := hashLen d.hash
  let noParam := allZero d.param
  let load (lo hi : Nat) : Bool := if isLoad c then recLenOk c d.auxLen lo hi else true
  let digOk := 1 ≤ d.hash && d.hash ≤ 3 && d.inLen == hl
  let rsaPub := d.pubLen == rsaK c + d.ebytes && 3 ≤ d.ebytes && d.ebytes ≤ 32
  match d.op with
  | 0x01 =>
    let p (i : Nat) : Nat := fld d.param i 1
    let nins := fld d.param 6 2
    1 ≤ p 0 && p 0 ≤ 16 && 1 ≤ p 1 && p 1 ≤ 32 && 1 ≤ p 3 && p 3 ≤ 32 && p 2 + p 3 ≤ 32 && p 4 < p 1 && p 5 == 0
      && 1 ≤ nins && nins ≤ 256 && d.auxLen == 4 * nins && fld d.param 12 4 == 0 && d.inLen == p 1 * (32 * p 0)
  | 0x10 => noParam && load 0 0
  | 0x11 => noParam && load 0 0 && (if c = 8 then d.hash == 0 && d.inLen ≤ 16384 else digOk)
  | 0x12 =>
    noParam && (if c = 8 then d.hash == 0 && d.inLen ≤ 16384 && d.pubLen == 32 && d.auxLen == 64
      else if isLoad c then digOk && recLenOk c d.auxLen 2 (2 * (loadF c).2)
        && 1 + 2 * (loadF c).1 ≤ d.pubLen && d.pubLen ≤ 1 + 2 * (loadF c).2
      else digOk && d.pubLen == 1 + 2 * f && d.auxLen == 2 * curveOn c)
  | 0x13 =>
    noParam && load 0 0 && (if c = 9 then d.pubLen == 32
      else if isLoad c then 1 + 2 * (loadF c).1 ≤ d.pubLen && d.pubLen ≤ 1 + 2 * (loadF c).2
      else d.pubLen == 1 + 2 * f)
  | 0x14 => noParam && load 0 0
  | 0x18 => noParam
  | 0x20 => digOk && fld d.param 0 1 < 2 && allZero (d.param.drop 1)
  | 0x21 => digOk && fld d.param 0 1 < 2 && allZero (d.param.drop 2) && rsaPub && d.auxLen == rsaK c
  | 0x22 => noParam && 1 ≤ d.hash && d.hash ≤ 3 && d.inLen == rsaK c
  | 0x23 => fld d.param 0 1 == 0 && allZero (d.param.drop 2) && rsaPub && 1 ≤ d.hash && d.hash ≤ 3
      && d.inLen + 2 * hl + 2 ≤ rsaK c
  | 0x30 => noParam && d.inLen ≤ 4096
  | _ => false

/-- Order 1 of R389 as far as the descriptor shows: OP and CURVE, the zero and unused fields, and the limits. -/
def PkD.descOk (d : PkD) : Bool :=
  pkGroupOk d.op d.curve && d.zero == 0
    && (pkUsesKey d.op || d.key == 0) && (pkUsesHash d.op || d.hash == 0)
    && (pkUsesIn d.op || (d.inA == 0 && d.inLen == 0)) && (pkUsesPko d.op || (d.pko == 0 && d.pkoLen == 0))
    && (pkUsesPub d.op || (d.pub == 0 && d.pubLen == 0)) && (pkUsesAux d.op d.curve || (d.aux == 0 && d.auxLen == 0))
    && (pkUsesOut d.op || d.out == 0) && d.limits

/-- The greatest number of bytes a command writes to OUT. -/
def PkD.outMax (d : PkD) : Nat :=
  let c := d.curve
  let f := if isLoad c then (if d.op = 0x12 then 0 else (d.auxLen - 32) / 6) else curveF c
  let pub := if c = 8 ∨ c = 9 then 32 else if isRsa c then rsaK c + 32 else 1 + 2 * f
  let pko := if c = 8 ∨ c = 9 then 112 else if isRsa c then 7 * rsaK c / 2 + 80 else 48 + 3 * f
  match d.op with
  | 0x01 => fld d.param 3 1 * (32 * fld d.param 0 1)
  | 0x10 => pko + pub
  | 0x11 => if c = 8 then 64 else 2 * f
  | 0x13 => f
  | 0x14 => pub
  | 0x18 => d.auxLen + 16
  | 0x20 => rsaK c
  | 0x22 => rsaK c - 2 * hashLen d.hash - 2
  | 0x23 => rsaK c
  | 0x30 => pko + pub
  | _ => 0

end Sys2Proof.Machine
end

