-- ==== Sys2Proof/Machine/Engine.lean ====
section
/-!
DEFINITION. Sys2Proof/Machine/Engine.lean: what the engine pools share (spec/11_symmetric_payment_digest.md R342 to R348):
the order of waiting commands, dispatch, operands and their placement, refusals, yields, status words and the end of a
command.
-/

namespace Sys2Proof.Machine

/-- The first engine agent of a pool (R42): 0 SYM, 1 DIG, 2 PKE. -/
def poolBase (pool : Nat) : Nat := 0x240 + 0x20 * pool

/-- A command runs on engine `e` of its pool. -/
def Cmd.on (c : Cmd) (pool e : Nat) : Bool := c.pool == pool && c.st == .running e

/-- A command is suspended to engine `e` of its pool. -/
def Cmd.bank (c : Cmd) (pool e : Nat) : Bool := c.pool == pool && c.st == .suspended e

/-- The same submission. -/
def Cmd.same (a b : Cmd) : Bool := a.job == b.job && a.ticket == b.ticket

/-- Replace a command. -/
def State.putCmd (s : State) (c : Cmd) : State := { s with cmds := s.cmds.map (fun (d : Cmd) => if d.same c then c else d) }

/-- Take a command out. -/
def State.dropCmd (s : State) (c : Cmd) : State := { s with cmds := s.cmds.filter (fun (d : Cmd) => !d.same c) }

/-- The command on engine `e` of a pool. -/
def State.onEngine (s : State) (pool e : Nat) : Option Cmd := s.cmds.find? (fun c => c.on pool e)

/-- The command in the suspension bank of engine `e`. -/
def State.inBank (s : State) (pool e : Nat) : Option Cmd := s.cmds.find? (fun c => c.bank pool e)

/-- The transfers of a command on engine `e` (R347). -/
def Cmd.xfer (c : Cmd) (e : Nat) : Xfer :=
  { agent := poolBase c.pool + e, dom := c.dome, epoch := c.artEpoch, sp := c.core / 16 }

/-! ### Keys of a command -/

/-- The key positions a descriptor of a pool uses (R229, R359, R368, R377). -/
def keyPositions (pool : Nat) (desc : List Byte) : List Nat :=
  if pool = 0 then
    match symDesc desc with
    | some d => if d.op.twoKeys then [d.key0, d.key1] else [d.key0]
    | none => []
  else if pool = 1 then (let d := digDesc desc; if d.usesKey then [d.key] else [])
  else (let d := pkDesc desc; if pkUsesKey d.op then [d.key] else [])

/-- The bytes of a descriptor (R266). -/
def descLen (pool : Nat) : Nat := if pool = 0 ∨ pool = 2 then 64 else 32

/-- The charge of a descriptor in its pool (R344). -/
def cmdUnits (pool : Nat) (desc : List Byte) : Nat :=
  if pool = 0 then (match symDesc desc with | some d => d.units | none => 1)
  else if pool = 1 then (digDesc desc).units else (pkDesc desc).units

/-- The slot a key position names (R229). -/
def Cmd.slotAt (c : Cmd) (pos : Nat) : Nat := c.slots.getD pos 8192

/-- The key a position names. -/
def State.keyAt (s : State) (c : Cmd) (pos : Nat) : KSlot := s.slot (c.slotAt pos)

/-- A command waits for a key that is FETCHING (R343, R356). -/
def State.fetching (s : State) (c : Cmd) : Bool := (keyPositions c.pool c.desc).any (fun p => (s.keyAt c p).fetching)

/-- Some key a command names has FAILED (R346). -/
def State.keyFailed (s : State) (c : Cmd) : Bool := (keyPositions c.pool c.desc).any (fun p => (s.keyAt c p).st == 3)

/-! ### Order and dispatch (R342, R343) -/

/-- The key of a command: its job's promise, or later than any promise for a BEST job. -/
def Cmd.rank (c : Cmd) : Nat := match c.promise with | some p => p | none => 2 ^ 64

/-- The earliest command of a list, earlier submissions first among equals. -/
def earliest : List Cmd → Option Cmd
  | [] => none
  | c :: cs => match earliest cs with
    | none => some c
    | some d => if d.rank < c.rank then some d else some c

/-- The commands of a pool that wait for an engine: not those waiting for a key. -/
def State.waiting (s : State) (pool : Nat) : List Cmd :=
  s.cmds.filter (fun c => c.pool == pool && c.st == .waiting && !s.fetching c)

/-- A PROMISED command waits for an engine. -/
def State.promisedWaits (s : State) (pool : Nat) : Bool := (s.waiting pool).any (fun c => c.promise.isSome)

/-! ### Operands (R346, R347) -/

/-- An operand that is read lies where it may. -/
def readOk (a n : Nat) : Bool := n == 0 || inImage a n || inScratch a n || inSram a n

/-- An operand that is written lies where it may. -/
def writeOk (a n : Nat) : Bool := n == 0 || inScratch a n || inSram a n

/-- Two regions overlap. -/
def overlap (a n b m : Nat) : Bool := n != 0 && m != 0 && a < b + m && b < a + n

/-- The operand that breaks the placement rule, if one does: reads, IN first, then writes, OUT first; a written region overlaps
no other operand, but OUT may equal IN exactly where `same` allows. -/
def misplaced (same : Bool) (reads writes : List (Nat × Nat)) : Option Nat :=
  match reads.find? (fun r => !readOk r.1 r.2) with
  | some r => some r.1
  | none =>
    match writes.find? (fun w => !writeOk w.1 w.2) with
    | some w => some w.1
    | none =>
      let hits (w : Nat × Nat) (rs : List (Nat × Nat)) : Bool := rs.any (fun r => overlap w.1 w.2 r.1 r.2)
      (match writes with
       | [] => none
       | o :: ws =>
         if hits o (if same && reads.head? == some o then reads.drop 1 else reads) then some o.1
         else (ws.find? (fun w => hits w reads || overlap o.1 o.2 w.1 w.2)).map (·.1))

/-- Read an operand of a command. -/
def State.opnd (s : State) (c : Cmd) (e a n : Nat) : List Byte × State :=
  if n = 0 then ([], s) else
  match corePhys c.core c.tier a with
  | some pa => s.rd (c.xfer e) pa n
  | none => (zeros n, s)

/-- A core address an engine writes to, as a physical one. -/
def Cmd.phys (c : Cmd) (a : Nat) : Nat := (corePhys c.core c.tier a).getD 0

/-- Perform writes of a command, in order. -/
def State.cmdWrites (s : State) (c : Cmd) (e : Nat) : List (Nat × List Byte) → State
  | [] => s
  | w :: ws => ((if w.2.isEmpty then s else s.wr (c.xfer e) w.1 w.2)).cmdWrites c e ws

/-! ### Refusal and end (R345, R346, R376) -/

/-- The STATUS field of any descriptor. -/
def Cmd.statusA (c : Cmd) : Nat := fld c.desc 4 4

/-- STATUS obeys R345. -/
def Cmd.statusOk (c : Cmd) : Bool := c.statusA % 8 == 0 && (inScratch c.statusA 8 || inSram c.statusA 8)

/-- The REFUSED counter of a pool. -/
def refusedFld (pool : Nat) : Fld :=
  if pool = 0 then R.SYM_REFUSED_COUNT else if pool = 1 then R.DIG_REFUSED_COUNT else R.PKE_REFUSED_COUNT

/-- Raise a vector of a pool, with its EVENTS bit. -/
def State.poolEvent (s : State) (pool k : Nat) : State :=
  if pool = 0 then s.cause R.SYM_EVENTS_CAUSE 160 (160 + k)
  else if pool = 1 then s.cause R.DIG_EVENTS_CAUSE 176 (176 + k) else s.cause R.PKE_EVENTS_CAUSE 192 (192 + k)

/-- Tell the FCU of a refusal (R346). -/
def State.engineFault (s : State) (c : Cmd) (e addr : Nat) : State :=
  s.report { source := 4, agent := poolBase c.pool + e, dome := c.dome, addr := addr, spire := c.core / 16 }

/-- Refuse a command with a code reported to the FCU: it ends with that code. -/
def State.refuse (s : State) (c : Cmd) (e code addr : Nat) : State :=
  (((s.putCmd { c with checked := true, code := some code }).count (refusedFld c.pool)).engineFault c e addr).poolEvent c.pool 0

/-- The CMDS counter of a pool. -/
def cmdsFld (pool : Nat) : Fld :=
  if pool = 0 then R.SYM_CMDS_COUNT else if pool = 1 then R.DIG_CMDS_COUNT else R.PKE_CMDS_COUNT

/-- A command that a unit submitted: SES (R465), or the ceremony (R525). -/
def Cmd.unit (c : Cmd) : Bool := decide (2 ^ 32 ≤ c.job)

/-- The end of a unit's command: the unit takes its status and output. -/
def State.unitEnd (s : State) (c : Cmd) (code : Nat) : State :=
  let r := (code, (c.writes.map (·.2)).headD [])
  let s1 := (s.dropCmd c).next (cmdsFld c.pool)
  if c.job = cerJob then { s1 with cer := { s1.cer with ended := some r } }
  else { s1 with ses := { s1.ses with pk := tabIns s1.ses.pk (c.job - 2 ^ 32) r } }

/-- A command that knows its code ends on engine `e` (R345): OUT, then the status word, then the flags. A bad STATUS
sets both flags and writes no status word. -/
def State.endCmd (s : State) (c : Cmd) (e code : Nat) : State :=
  if c.unit then s.unitEnd c code else
  let s1 := (s.dropCmd c).cmdWrites c e c.writes
  if c.statusOk then
    let s2 := s1.wr (c.xfer e) (c.phys c.statusA) (toLE 2 code ++ zeros 2 ++ toLE 4 c.outLen)
    (s2.next (cmdsFld c.pool)).completeTicket c.job c.ticket (code != 0)
  else s1.completeTicket c.job c.ticket true

/-- A command whose operation is done: its code, the length of its output and what its final ETU writes. -/
def State.doneCmd (s : State) (c : Cmd) (code outLen : Nat) (writes : List (Nat × List Byte)) : State :=
  s.putCmd { c with code := some code, outLen := outLen, writes := writes }

/-! ### Algorithms and usages (R346, R351, R352) -/

/-- ALG is an AES one. -/
def algAes (a : Nat) : Bool := 1 ≤ a && a ≤ 3
/-- ALG is a TDES one. -/
def algTdes (a : Nat) : Bool := a == 4 || a == 5

/-- The block cipher of a key, forward. -/
def KeyMat.enc (k : KeyMat) : BlockFn := if algTdes k.alg then tdesEnc k.key else aesEnc k.key
/-- The block cipher of a key, backward. -/
def KeyMat.dec (k : KeyMat) : BlockFn := if algTdes k.alg then tdesDec k.key else aesDec k.key

end Sys2Proof.Machine
end

