-- ==== Sys2Proof/Machine/Dig.lean ====
section
/-!
DEFINITION. Sys2Proof/Machine/Dig.lean: the DIG engines (spec/11_symmetric_payment_digest.md R368 to R372): checks, digests,
HMAC and context records; the commands HASH, HMAC, HMAC_VERIFY, DIG_INIT, DIG_UPDATE and DIG_FINAL.
-/

namespace Sys2Proof.Machine

/-- The regions a DIG command reads: IN, and CTX as an expected MAC or a record. -/
def DigD.reads (d : DigD) : List (Nat × Nat) :=
  (if d.op = 4 then [] else [(d.inA, d.inLen)]) ++ (if d.op = 3 then [(d.ctx, d.b3)] else [])

/-- The regions a DIG command writes: OUT, and CTX as a record. -/
def DigD.writes (d : DigD) : List (Nat × Nat) :=
  (if d.op = 1 ∨ d.op = 2 ∨ d.op = 6 then [(d.out, digLen d.alg)] else []) ++ (if 4 ≤ d.op then [(d.ctx, 256)] else [])

/-- The first check of R346 that a DIG command fails. -/
def State.digCheck (s : State) (c : Cmd) : Option (Nat × Nat) :=
  let d := digDesc c.desc
  if ¬ d.descOk ∨ ¬ c.statusOk then some (0x0401, 0) else
  match misplaced false d.reads d.writes with
  | some a => some (0x0402, a)
  | none =>
    if s.keyFailed c then some (0x0403, 0)
    else if d.usesKey ∧ (s.keyAt c d.key).mat.alg ≠ 6 then some (0x0404, 0)
    else if d.usesKey ∧ ¬ (s.keyAt c d.key).mat.usage.testBit 9 then some (0x0405, 0)
    else none

/-- A DIG command about to perform its operation. -/
structure DigRun where
  c : Cmd
  e : Nat
  d : DigD
  key : List Byte

/-- Finish with a code and writes. -/
def State.digDone (s : State) (r : DigRun) (code outLen : Nat) (ws : List (Nat × List Byte)) : State :=
  s.doneCmd r.c code outLen ws

/-- Finish with a digest at OUT. -/
def State.digOut (s : State) (r : DigRun) (out : List Byte) : State :=
  s.digDone r 0 out.length [(r.c.phys r.d.out, out)]

/-- HASH. -/
def State.digHash (s : State) (r : DigRun) : State :=
  let i := s.opnd r.c r.e r.d.inA r.d.inLen
  i.2.digOut r (sha r.d.alg i.1)

/-- HMAC. -/
def State.digHmac (s : State) (r : DigRun) : State :=
  let i := s.opnd r.c r.e r.d.inA r.d.inLen
  i.2.digOut r (hmac r.d.alg r.key i.1)

/-- HMAC_VERIFY: TAGLEN bytes against the expected MAC at CTX. -/
def State.digHmacVerify (s : State) (r : DigRun) : State :=
  let i := s.opnd r.c r.e r.d.inA r.d.inLen
  let m := i.2.opnd r.c r.e r.d.ctx r.d.b3
  m.2.digDone r (if (hmac r.d.alg r.key i.1).take r.d.b3 = m.1 then 0 else 0x0420) 0 []

/-! ### Context records (R370 to R372) -/

/-- The clear content of an ACTIVE context: message bytes hashed so far, chaining state, and the partial block. -/
structure DigCtx where
  len : Nat
  h : List Nat
  buf : List Byte
  deriving DecidableEq, Repr

/-- A fresh context: with a key, the inner padded key block is absorbed. -/
def digFresh (alg : Nat) (keyed : Bool) (key : List Byte) : DigCtx :=
  { len := 0, buf := [], h := if keyed then shaAbsorb alg (shaInit alg) ((hmacKey alg key).map (· ^^^ 0x36)) else shaInit alg }

/-- Bytes 0x08 to 0xDF of a record. -/
def DigCtx.body (x : DigCtx) (alg : Nat) : List Byte :=
  toLE 16 x.len ++ zeros 8 ++ fitBytes 64 (x.h.flatMap (toBE (shaBs alg / 16))) ++ fitBytes 128 x.buf

/-- The context of a record's header and body. -/
def digRead (alg bufLen : Nat) (body : List Byte) : DigCtx :=
  let w := shaBs alg / 16
  { len := fld body 0 16, h := (List.range 8).map (fun i => ofBE (sliceB body (24 + w * i) w)),
    buf := (sliceB body 88 128).take bufLen }

/-- Add input to a context. -/
def DigCtx.add (x : DigCtx) (alg : Nat) (m : List Byte) : DigCtx :=
  let all := x.buf ++ m
  let n := all.length / shaBs alg * shaBs alg
  { len := x.len + m.length, h := shaAbsorb alg x.h (all.take n), buf := all.drop n }

/-- The digest of a context; keyed, the outer pass too. -/
def DigCtx.digest (x : DigCtx) (alg : Nat) (keyed : Bool) (key : List Byte) : List Byte :=
  let inner := shaFinish alg x.h x.buf (x.len + if keyed then shaBs alg else 0)
  if keyed then sha alg ((hmacKey alg key).map (· ^^^ 0x5C) ++ inner) else inner

/-- The additional data of a seal (R371): bytes 0x00 to 0x07, the dome, the job ID and the slot of KEY. -/
def DigRun.aad (r : DigRun) (head : List Byte) : List Byte :=
  head ++ toLE 1 r.c.dome ++ toLE 4 r.c.job ++ toLE 2 (r.c.slotAt r.d.key)

/-- A record with a header and body: keyed, sealed under the pool's context key with the job ID and the seal count as
nonce (R371). -/
def State.digSeal (s : State) (r : DigRun) (head body : List Byte) : List Byte × State :=
  if r.d.keyed then
    let nonce := toLE 4 r.c.job ++ toLE 8 s.pools.seals
    let g := gcmEnc (aesEnc s.pools.digKey) nonce (r.aad head) body
    (head ++ g.1 ++ g.2 ++ nonce ++ zeros 4, { s with pools := { s.pools with seals := s.pools.seals + 1 } })
  else (head ++ body ++ zeros 32, s)

/-- Open a record's body (R371): none where a keyed one does not open. -/
def State.digOpen (s : State) (r : DigRun) (rec : List Byte) : Option (List Byte) :=
  if fld rec 2 1 = 1 then
    let o := gcmDec (aesEnc s.pools.digKey) (sliceB rec 0xF0 12) (r.aad (rec.take 8)) (sliceB rec 8 216) (sliceB rec 0xE0 16)
    if o.2 then some o.1 else none
  else some (sliceB rec 8 216)

/-- The context that an UPDATE or FINAL works on (R370, R372): none is CONTEXT. -/
def State.digContext (s : State) (r : DigRun) (rec : List Byte) : Option DigCtx :=
  let st := fld rec 0 1
  let kb := fld rec 2 1
  let fresh := digFresh r.d.alg r.d.keyed r.key
  if st = 1 then
    (if fld rec 1 1 ≠ r.d.alg ∨ kb ≠ b2n r.d.keyed then none
     else (s.digOpen r rec).map (digRead r.d.alg (fld rec 3 1)))
  else if st = 2 then
    (if kb = 1 then (if r.d.keyed then (s.digOpen r rec).map (fun _ => fresh) else none) else some fresh)
  else none

/-- The header of a record. -/
def DigRun.head (r : DigRun) (st : Nat) (x : DigCtx) : List Byte :=
  toLE 1 st ++ toLE 1 r.d.alg ++ toLE 1 (b2n r.d.keyed) ++ toLE 1 x.buf.length ++ zeros 4

/-- A command ends with CONTEXT: reported as source ENGINE, vector 177 (R370, R376). -/
def State.digBad (s : State) (r : DigRun) : State :=
  ((s.digDone r 0x0440 0 []).engineFault r.c r.e 0).poolEvent 1 1

/-- No context key while its replacement is awaited (R424): every keyed command ends with CONTEXT. -/
def State.digNoKey (s : State) (r : DigRun) : Bool := r.d.keyed && s.pools.digKey.isEmpty

/-- DIG_INIT. -/
def State.digInit (s : State) (r : DigRun) : State :=
  if s.digNoKey r then s.digBad r else
  let x := digFresh r.d.alg r.d.keyed r.key
  let w := s.digSeal r (r.head 1 x) (x.body r.d.alg)
  w.2.digDone r 0 0 [(r.c.phys r.d.ctx, w.1)]

/-- DIG_UPDATE and DIG_FINAL: add IN; FINAL gives the digest and leaves the record FINISHED, zeroed. -/
def State.digMore (s : State) (r : DigRun) (final : Bool) : State :=
  let k := s.opnd r.c r.e r.d.ctx 256
  let i := k.2.opnd r.c r.e r.d.inA r.d.inLen
  if i.2.digNoKey r then i.2.digBad r else
  match i.2.digContext r k.1 with
  | none => i.2.digBad r
  | some x0 =>
    let x := x0.add r.d.alg i.1
    if final then
      let z : DigCtx := { len := 0, h := [], buf := [] }
      let w := i.2.digSeal r (r.head 2 z) (z.body r.d.alg)
      let out := x.digest r.d.alg r.d.keyed r.key
      w.2.digDone r 0 out.length [(r.c.phys r.d.out, out), (r.c.phys r.d.ctx, w.1)]
    else
      let w := i.2.digSeal r (r.head 1 x) (x.body r.d.alg)
      w.2.digDone r 0 0 [(r.c.phys r.d.ctx, w.1)]

/-- Perform the operation of the command on DIG engine `e`, if it is `op` and passed its checks. -/
def State.digDo (s : State) (e op : Nat) (f : State → DigRun → State) : State :=
  match s.onEngine 1 e with
  | none => s
  | some c =>
    let d := digDesc c.desc
    if d.op = op ∧ c.checked ∧ c.code = none then
      f s { c := c, e := e, d := d, key := (s.keyAt c d.key).mat.key }
    else s

/-- The end of the command on DIG engine `e`. -/
def State.digEnd (s : State) (e : Nat) : State :=
  match s.onEngine 1 e with
  | none => s
  | some c =>
    match c.code with
    | none => s
    | some code =>
      let s1 := s.endCmd c e code
      if code = 0x0420 then s1.next R.DIG_VFAIL_COUNT else s1

end Sys2Proof.Machine
end

