-- ==== Sys2Proof/Machine/Sym.lean ====
section
/-!
DEFINITION. Sys2Proof/Machine/Sym.lean: the SYM engines (spec/11_symmetric_payment_digest.md R346, R348, R359 to R367): the
checks at dispatch and what each command computes; the commands AES_ECB_ENC to KB_EXPORT.
-/

namespace Sys2Proof.Machine

/-! ### Checks (R346) -/

/-- OUT may equal IN exactly (R346). -/
def SymOp.inPlace : SymOp → Bool
  | .ecb _ => true
  | .cbc _ => true
  | .ctr => true
  | .tecb _ => true
  | .tcbc _ => true
  | .ff1 _ => true
  | _ => false

/-- ALG suits a PIN format (R352). -/
def pinAlg (fmt alg : Nat) : Bool := if fmt = 4 then algAes alg else algTdes alg

/-- The algorithms of the keys suit the command (order 4). -/
def SymD.algOk (d : SymD) (a b : KeyMat) : Bool :=
  let p (i : Nat) : Nat := fld d.param i 1
  match d.op with
  | .tecb _ => algTdes a.alg
  | .tcbc _ => algTdes a.alg
  | .tmac _ => algTdes a.alg
  | .pinTranslate => pinAlg (p 0) a.alg && pinAlg (p 1) b.alg
  | .pvfVerify => pinAlg (p 0) a.alg && algAes b.alg
  | .pvfGenerate => pinAlg (p 0) a.alg && algAes b.alg
  | .arqcVerify => if p 0x1C = 0 then algAes a.alg else algTdes a.alg
  | .arpcGenerate => if p 0x1C = 0 then algAes a.alg else algTdes a.alg
  | .dukptPin => algAes a.alg && p 12 < a.alg && pinAlg (p 13) b.alg
  | .dukptMac => algAes a.alg && p 12 < a.alg
  | .dukptDec => algAes a.alg && p 12 < a.alg
  | .kbImport => a.alg == 3
  | .kbExport => b.alg == 3
  | _ => algAes a.alg

/-- The USAGE bits the first key needs (R360, R366). -/
def SymOp.use0 : SymOp → Nat
  | .ecb dec => if dec then 2 else 1
  | .cbc dec => if dec then 2 else 1
  | .ctr => 1
  | .gcm _ => 3
  | .cmac ver => if ver then 8 else 4
  | .tecb dec => if dec then 2 else 1
  | .tcbc dec => if dec then 2 else 1
  | .tmac ver => if ver then 8 else 4
  | .ff1 _ => 0x400
  | .pinTranslate => 0x10
  | .pvfVerify => 0x10
  | .pvfGenerate => 0x10
  | .arqcVerify => 0x40
  | .arpcGenerate => 0x40
  | .dukptPin => 0x80
  | .dukptMac => 0x80
  | .dukptDec => 0x80
  | .kbImport => 0x100
  | .kbExport => 0

/-- The USAGE bits the second key needs. -/
def SymOp.use1 : SymOp → Nat
  | .pinTranslate => 0x10
  | .pvfVerify => 0x20
  | .pvfGenerate => 0x20
  | .dukptPin => 0x10
  | .kbExport => 0x100
  | _ => 0

/-- A USAGE has every bit asked. -/
def hasUse (usage bits : Nat) : Bool := usage &&& bits == bits

/-- The policy rules (order 6, R362, R367): 0, PIN_DOWNGRADE or NOT_EXPORTABLE. -/
def SymD.policy (d : SymD) (a b : KeyMat) : Nat :=
  let p (i : Nat) : Nat := fld d.param i 1
  let down (i o : Nat) : Nat := if pinDowngrade i o ∧ ¬ b.usage.testBit 12 then 0x0406 else 0
  match d.op with
  | .pinTranslate => down (p 0) (p 1)
  | .dukptPin => down 4 (p 13)
  | .kbExport => if ¬ a.usage.testBit 13 ∨ kbRow a.alg a.usage = none then 0x0407 else 0
  | _ => 0

/-- The first check of R346 that a SYM command fails: its code and the address to report. -/
def State.symCheck (s : State) (c : Cmd) : Option (Nat × Nat) :=
  if c.unit then (if 160 < (c.ins.headD []).length then some (0x0401, 0) else none) else
  match symDesc c.desc with
  | none => some (0x0401, 0)
  | some d =>
    if ¬ d.descOk ∨ ¬ c.statusOk then some (0x0401, 0) else
    let a := (s.keyAt c d.key0).mat
    match misplaced d.op.inPlace [(d.inA, d.inRead), (d.aux, d.auxRead)] [(d.out, d.outLen a.key.length), (d.aux, d.auxWrite)] with
    | some a => some (0x0402, a)
    | none =>
      if s.keyFailed c then some (0x0403, 0) else
      let b := (s.keyAt c d.key1).mat
      if ¬ d.algOk a b then some (0x0404, 0)
      else if ¬ hasUse a.usage d.op.use0 ∨ (d.op.twoKeys ∧ ¬ hasUse b.usage d.op.use1) then some (0x0405, 0)
      else if d.policy a b ≠ 0 then some (d.policy a b, 0) else none

/-! ### Operations -/

/-- A SYM command about to perform its operation: the command, its engine, its descriptor and its keys. -/
structure SymRun where
  c : Cmd
  e : Nat
  d : SymD
  a : KeyMat
  b : KeyMat

/-- Finish with output at OUT. -/
def State.symOut (s : State) (r : SymRun) (out : List Byte) : State :=
  s.doneCmd r.c 0 out.length [(r.c.phys r.d.out, out)]

/-- Finish with a code and no output. -/
def State.symFail (s : State) (r : SymRun) (code : Nat) : State := s.doneCmd r.c code 0 []

/-- OK, or VERIFY_FAIL. -/
def State.symVerdict (s : State) (r : SymRun) (ok : Bool) : State := s.symFail r (if ok then 0 else 0x0420)

/-- IN of a command. -/
def State.symIn (s : State) (r : SymRun) : List Byte × State := s.opnd r.c r.e r.d.inA r.d.inRead

/-- AUX of a command. -/
def State.symAux (s : State) (r : SymRun) : List Byte × State := s.opnd r.c r.e r.d.aux r.d.auxRead

/-- Output written as the command runs (R347): ECB, CBC, CTR and GCM encryption do not wait for the final ETU. -/
def State.symStream (s : State) (r : SymRun) (out iv : List Byte) : State :=
  let ws := [(r.c.phys r.d.out, out)] ++ (if r.d.ivOut then [(r.c.phys r.d.aux, iv)] else [])
  (s.cmdWrites r.c r.e ws).doneCmd r.c 0 out.length []

/-- PARAM byte `i`. -/
def SymRun.p (r : SymRun) (i : Nat) : Nat := fld r.d.param i 1

/-- The PAN digits at an offset of PARAM, with their number. -/
def SymRun.pan (r : SymRun) (off len : Nat) : List Nat := panDigits (sliceB r.d.param off 10) len

/-- ECB with the key's cipher (R360). -/
def State.symEcb (s : State) (r : SymRun) (dec : Bool) : State :=
  let n := if algTdes r.a.alg then 8 else 16
  let i := s.symIn r
  i.2.symStream r (ecb (if dec then r.a.dec else r.a.enc) n i.1) []

/-- CBC with the key's cipher. -/
def State.symCbc (s : State) (r : SymRun) (dec : Bool) : State :=
  let n := if algTdes r.a.alg then 8 else 16
  let iv := r.d.param.take n
  let i := s.symIn r
  let o := if dec then cbcDecB r.a.dec iv (blocks n i.1) else cbcEncB r.a.enc iv (blocks n i.1)
  i.2.symStream r o.1 o.2

/-- AES_CTR. -/
def State.symCtr (s : State) (r : SymRun) : State :=
  let i := s.symIn r
  let o := ctrB r.a.enc (r.d.param.take 16) (blocks 16 i.1)
  i.2.symStream r o.1 o.2

/-- AES_GCM_ENC: the ciphertext, then the tag. -/
def State.symGcmEnc (s : State) (r : SymRun) : State :=
  let i := s.symIn r
  let x := i.2.symAux r
  let o := gcmEnc r.a.enc (r.d.param.take 12) x.1 i.1
  x.2.symStream r (o.1 ++ o.2.take (r.p 12)) []

/-- AES_GCM_DEC: on a mismatch OUT is overwritten with zeros. -/
def State.symGcmDec (s : State) (r : SymRun) : State :=
  let i := s.symIn r
  let x := i.2.symAux r
  let o := gcmDec r.a.enc (r.d.param.take 12) x.1 (i.1.take r.d.inLen) (i.1.drop r.d.inLen)
  let out := if o.2 then o.1 else zeros r.d.inLen
  x.2.doneCmd r.c (if o.2 then 0 else 0x0420) out.length [(r.c.phys r.d.out, out)]

/-- AES_CMAC_GEN and AES_CMAC_VER. -/
def State.symCmac (s : State) (r : SymRun) (ver : Bool) : State :=
  let i := s.symIn r
  let m := (aesCmac r.a.key i.1).take (r.p 0)
  if ver then (let x := i.2.symAux r; x.2.symVerdict r (m == x.1)) else i.2.symOut r m

/-- TDES_MAC_GEN and TDES_MAC_VER. -/
def State.symTmac (s : State) (r : SymRun) (ver : Bool) : State :=
  let i := s.symIn r
  let m := isoPad (r.p 1) i.1
  let mac := (if r.p 0 = 1 then isoMac1 r.a.enc m else isoMac3 r.a.key m).take (r.p 2)
  if ver then (let x := i.2.symAux r; x.2.symVerdict r (mac == x.1)) else i.2.symOut r mac

/-- FF1_ENC and FF1_DEC: one digit a byte. A byte above 9 is no digit of the radix, and the spec states no result for
it: the output is then a free value of each digit. -/
def State.symFf1 (s : State) (r : SymRun) (dec : Bool) : State :=
  let i := s.symIn r
  let x := i.2.symAux r
  let ds := i.1.map (·.toNat)
  if ds.all (· < 10) then
    let o := if dec then ff1Dec r.a.key x.1 ds else ff1Enc r.a.key x.1 ds
    x.2.symOut r (o.map (BitVec.ofNat 8))
  else
    let f := x.2.draw (8 * ds.length)
    f.2.symOut r (toLE ds.length f.1)

/-! ### PIN (R361 to R363) -/

/-- Take `n` bytes of the engine's reserve (R348): none where it is short. -/
def State.symRandom (s : State) (e n : Nat) : Option (List Byte × State) :=
  let res := tabGet [] s.pools.symRes e
  if res.length < n then none
  else some (res.take n, { s with pools := { s.pools with symRes := tabSet [] s.pools.symRes e (res.drop n) } })

/-- A command that finds its reserve short (R348): RANDOM_UNAVAILABLE, vector 161. -/
def State.symShortEnd (s : State) (r : SymRun) : State := (s.symFail r 0x0408).poolEvent 0 1

/-- Write a PIN in a format under a key. -/
def State.symPinOut (s : State) (r : SymRun) (fmt : Nat) (k : KeyMat) (pan pin : List Nat) : State :=
  match s.symRandom r.e (pinRandom fmt pin.length) with
  | none => s.symShortEnd r
  | some (rnd, s1) => s1.symOut r (pinSeal fmt k.enc pan (pinBuild fmt pin rnd))

/-- PIN_TRANSLATE. -/
def State.symPinTranslate (s : State) (r : SymRun) : State :=
  let i := s.symIn r
  let pan := r.pan 4 (r.p 2)
  match pinParse (r.p 0) (pinOpen (r.p 0) r.a.dec pan i.1) with
  | none => i.2.symFail r 0x0410
  | some pin => i.2.symPinOut r (r.p 1) r.b pan pin

/-- PVF_VERIFY and PVF_GENERATE. -/
def State.symPvf (s : State) (r : SymRun) (ver : Bool) : State :=
  let i := s.symIn r
  let pan := r.pan 4 (r.p 2)
  match pinParse (r.p 0) (pinOpen (r.p 0) r.a.dec pan i.1) with
  | none => i.2.symFail r 0x0410
  | some pin =>
    let v := pvf r.b.key pin pan
    if ver then i.2.symVerdict r (v == fld r.d.param 16 8) else i.2.symOut r (toLE 8 v)

/-! ### EMV (R364) -/

/-- The session key of an EMV command. -/
def SymRun.emvKey (r : SymRun) : List Byte :=
  let aes := r.p 0x1C == 0
  emvSession aes (emvMaster aes r.a.key (r.pan 2 (r.p 0)) (r.p 1)) (sliceB r.d.param 0x0C 2)

/-- The ARPC of an EMV command over its ARQC. -/
def SymRun.arpc (r : SymRun) (prop : List Byte) : List Byte :=
  emvArpc (r.p 0x1C == 0) r.emvKey (sliceB r.d.param 0x0E 8) (sliceB r.d.param 0x16 4) (r.p 0x1A) prop

/-- ARQC_VERIFY: a mismatch writes no ARPC. -/
def State.symArqc (s : State) (r : SymRun) : State :=
  let i := s.symIn r
  let x := i.2.symAux r
  if emvArqc (r.p 0x1C == 0) r.emvKey i.1 = sliceB r.d.param 0x0E 8 then
    (if r.p 0x1B % 2 = 1 then x.2.symOut r (r.arpc x.1) else x.2.symFail r 0)
  else x.2.symFail r 0x0420

/-- ARPC_GENERATE. -/
def State.symArpc (s : State) (r : SymRun) : State := let x := s.symAux r; x.2.symOut r (r.arpc x.1)

/-! ### DUKPT (R365) -/

/-- The working key of a command for a usage. -/
def SymRun.wk (r : SymRun) (usage : Nat) : List Byte := dukptKey r.a.key (r.d.param.take 12) (r.p 12) usage

/-- DUKPT_PIN. -/
def State.symDukptPin (s : State) (r : SymRun) : State :=
  let i := s.symIn r
  if ¬ ksnOk (r.d.param.take 12) then i.2.symFail r 0x0411 else
  let pan := r.pan 16 (r.p 14)
  match pinParse 4 (pinOpen 4 (aesDec (r.wk 0x1000)) pan i.1) with
  | none => i.2.symFail r 0x0410
  | some pin => i.2.symPinOut r (r.p 13) r.b pan pin

/-- DUKPT_MAC_VER: the MAC the terminal generated. -/
def State.symDukptMac (s : State) (r : SymRun) : State :=
  let i := s.symIn r
  let x := i.2.symAux r
  if ¬ ksnOk (r.d.param.take 12) then x.2.symFail r 0x0411
  else x.2.symVerdict r ((aesCmac (r.wk 0x2000) i.1).take (r.p 13) == x.1)

/-- DUKPT_DEC: data the terminal encrypted. -/
def State.symDukptDec (s : State) (r : SymRun) : State :=
  let i := s.symIn r
  let x := i.2.symAux r
  if ¬ ksnOk (r.d.param.take 12) then x.2.symFail r 0x0411
  else x.2.symOut r (cbcDecB (aesDec (r.wk 0x3000)) x.1 (blocks 16 i.1)).1

/-! ### Key blocks (R367) -/

/-- ALG of a key block's algorithm letter and key length. -/
def kbAlg (letter : Byte) (len : Nat) : Nat :=
  if letter = 0x41 then (if len = 16 then 1 else if len = 24 then 2 else if len = 32 then 3 else 0)
  else if letter = 0x54 then (if len = 16 then 4 else if len = 24 then 5 else 0)
  else if letter = 0x48 ∧ 16 ≤ len ∧ len ≤ 32 then 6 else 0

/-- The key of a block as a table entry holds it, where the tables of R351, R352 and R367 allow it. -/
def kbMat (b : KeyBlock) : Option KeyMat :=
  let letter := b.head.getD 7 0
  let alg := kbAlg letter b.key.length
  match kbUsage (sliceB b.head 5 2) letter (b.head.getD 8 0) with
  | none => none
  | some u =>
    let usage := u + (if b.head.getD 11 0 = 0x45 then 0x2000 else 0)
    if lenOk alg b.key.length ∧ usageOk alg usage then some { alg := alg, usage := usage, key := b.key } else none

/-- The command of the ceremony (R525): the block and the import key are the combiner's; what LABEL the entry has is a free value
(DESIGN CHOICE, log 35). -/
def State.symCer (s : State) (r : SymRun) : State :=
  match (kbOpen false s.cer.importKey (r.c.ins.headD [])).bind kbMat with
  | none => s.symFail r 0x0430
  | some m => let l := s.draw 32; l.2.symOut r (entryMake s.key.tkey r.c.dome m (toLE 4 l.1))

/-- KB_IMPORT. -/
def State.symKbImport (s : State) (r : SymRun) : State :=
  if r.c.unit then s.symCer r else
  let i := s.symIn r
  match (kbOpen false r.a.key i.1).bind kbMat with
  | none => i.2.symFail r 0x0430
  | some m => i.2.symOut r (entryMake i.2.key.tkey r.c.dome m (r.d.param.take 4))

/-- KB_EXPORT. -/
def State.symKbExport (s : State) (r : SymRun) : State :=
  match kbRow r.a.alg r.a.usage with
  | none => s.symFail r 0x0407
  | some (u, l, m) =>
    match s.symRandom r.e (kbPad r.a.key.length) with
    | none => s.symShortEnd r
    | some (rnd, s1) => s1.symOut r (kbMake r.b.key u (r.d.param.take 2) r.a.key rnd l m 0x45)

/-! ### The commands -/

/-- Perform the operation of the command on SYM engine `e`, if it is `op` and passed its checks. -/
def State.symDo (s : State) (e : Nat) (op : SymOp) (f : State → SymRun → State) : State :=
  match s.onEngine 0 e with
  | none => s
  | some c =>
    match symDesc c.desc with
    | none => s
    | some d =>
      if d.op = op ∧ c.checked ∧ c.code = none then
        f s { c := c, e := e, d := d, a := (s.keyAt c d.key0).mat, b := (s.keyAt c d.key1).mat }
      else s

/-- The end of the command on SYM engine `e` (R345, R375): VERIFY_FAIL is counted. -/
def State.symEnd (s : State) (e : Nat) : State :=
  match s.onEngine 0 e with
  | none => s
  | some c =>
    match c.code with
    | none => s
    | some code =>
      let s1 := s.endCmd c e code
      if code = 0x0420 then s1.next R.SYM_VFAIL_COUNT else s1

end Sys2Proof.Machine
end

