-- ==== Sys2Proof/Machine/Pool.lean ====
section
/-!
DEFINITION. Sys2Proof/Machine/Pool.lean: the scheduling of the SYM and DIG pools (spec/11_symmetric_payment_digest.md
R342, R343, R346): commands ENGINE_DISPATCH and SYM_YIELD.
-/

namespace Sys2Proof.Machine

/-- The checks a command passes when it reaches an engine (R346). -/
def State.poolCheck (s : State) (c : Cmd) : Option (Nat × Nat) := if c.pool = 0 then s.symCheck c else s.digCheck c

/-- A command reaches engine `e`: it runs there, and its checks pass or refuse it. -/
def State.reach (s : State) (c : Cmd) (e : Nat) : State :=
  let c' := { c with st := .running e }
  match s.poolCheck c with
  | some (code, addr) => (s.putCmd c').refuse c' e code addr
  | none => s.putCmd { c' with checked := true }

/-- Engine `e` of a pool (0 SYM, 1 DIG) is free and takes the earliest waiting command (R342); a suspended command
resumes on it first where no PROMISED one waits (R343). -/
def State.dispatch (s : State) (pool e : Nat) : State :=
  if (s.onEngine pool e).isSome ∨ 1 < pool ∨ 32 ≤ e then s else
  match s.inBank pool e with
  | some b =>
    if s.promisedWaits pool then (match earliest (s.waiting pool) with | some c => s.reach c e | none => s)
    else s.putCmd { b with st := .running e }
  | none => match earliest (s.waiting pool) with
    | some c => s.reach c e
    | none => s

/-- The engine that must yield (R343): no engine is free, a PROMISED command waits, and among the engines that run a
BEST command with an empty bank, the one whose BEST command was submitted last. -/
def State.yielder (s : State) (pool : Nat) : Option Nat :=
  if ¬ s.promisedWaits pool ∨ (List.range 32).any (fun e => (s.onEngine pool e).isNone) then none else
  let best := s.cmds.filter (fun c => c.pool == pool && c.promise.isNone &&
    (match c.st with | .running e => (s.inBank pool e).isNone | _ => false))
  match best.getLast? with
  | some c => (match c.st with | .running e => some e | _ => none)
  | none => none

/-- Engine `e` yields its BEST command to the earliest waiting PROMISED one (R343). -/
def State.yield (s : State) (pool e : Nat) : State :=
  if s.yielder pool = some e then
    match s.onEngine pool e, earliest (s.waiting pool) with
    | some b, some c => (s.putCmd { b with st := .suspended e }).reach c e
    | _, _ => s
  else s

end Sys2Proof.Machine
end

