-- ==== Sys2Proof/Machine/PkeKeys.lean ====
section
/-!
DEFINITION. Sys2Proof/Machine/PkeKeys.lean: private-key objects (spec/12_public_key.md R382 to R385), curve records (R392,
R393) and key blocks for import (R388).
-/

namespace Sys2Proof.Machine

/-! ### Curves -/

/-- The named Weierstrass curves (R380). -/
def namedCurve (code : Nat) : Option Curve :=
  match code with
  | 1 => some curveP256
  | 2 => some curveP384
  | 3 => some curveP521
  | 4 => some curveBp256
  | 5 => some curveBp384
  | _ => none

/-- The curve of a record of R392: six integers after a header of 16 bytes. -/
def recCurve (rc : List Byte) : Curve :=
  let f := fld rc 5 1
  let v (i : Nat) : Nat := ofBE (sliceB rc (16 + i * f) f)
  { f := f, h := fld rc 6 1, p := v 0, a := v 1, b := v 2, gx := v 3, gy := v 4, n := v 5, on := (bitLen (v 5) + 7) / 8 }

/-- The header rules of a record given to CURVE_CHECK (R392). -/
def recHeadOk (code : Nat) (rc : List Byte) : Bool :=
  let f := fld rc 5 1
  let r := loadF code
  fld rc 0 4 == 0x45565243 && fld rc 4 1 == code - 0x80 && r.1 ≤ f && f ≤ r.2 && 1 ≤ fld rc 6 1 && fld rc 6 1 ≤ 4
    && fld rc 7 9 == 0 && rc.length == 16 + 6 * f

/-- `v` lies within p + 1 ± 2√p. -/
def hasse (v p : Nat) : Bool :=
  let d := if v ≥ p + 1 then v - (p + 1) else p + 1 - v
  d * d ≤ 4 * p

/-- The conditions of R393. -/
def curveSafe (c : Curve) : Bool :=
  let d := (4 * (c.a * c.a % c.p * c.a) + 27 * c.b * c.b) % c.p
  2 ^ (8 * (c.f - 1)) ≤ c.p && c.p % 2 == 1 && millerRabin c.p && c.a < c.p && c.b < c.p && d != 0
    && c.gx < c.p && c.gy < c.p && c.on? c.gx c.gy && millerRabin c.n && 2 ^ 160 ≤ c.n && hasse (c.h * c.n) c.p
    && (c.mul c.n c.g == none) && c.n != c.p && (List.range 20).all (fun k => powMod c.p (k + 1) c.n != 1)

/-- A sealed record: byte 15 of the header holds the dome, and a tag under the pool's curve key follows (R393). -/
def recSeal (key rc : List Byte) (dome : Nat) : List Byte :=
  let r := patchB rc 15 [BitVec.ofNat 8 dome]
  r ++ aesCmac key r

/-- The curve of a sealed record, checked by R390, and the bytes that follow the record. -/
def recOpen (key : List Byte) (code dome : Nat) (aux : List Byte) : Option (Curve × List Byte) :=
  let f := fld aux 5 1
  let n := 16 + 6 * f
  let rc := aux.take n
  if fld aux 4 1 = code - 0x80 ∧ fld aux 15 1 = dome ∧ n + 16 ≤ aux.length ∧ sliceB aux n 16 = aesCmac key rc
      ∧ key ≠ [] then some (recCurve rc, aux.drop (n + 16)) else none

/-! ### Private-key objects (R382 to R384) -/

/-- A private key in clear, by KIND. -/
inductive PrivKey where
  | wei (d x y : Nat)
  | ed (seed pub : List Byte)
  | mont (scalar pub : List Byte)
  | rsa (k : RsaKey)
  deriving DecidableEq, Repr

/-- KIND of a private key. -/
def PrivKey.kind : PrivKey → Nat
  | .wei _ _ _ => 1
  | .ed _ _ => 2
  | .mont _ _ => 3
  | .rsa _ => 4

/-- The clear content of a PKO: `f` field bytes, `k` modulus bytes. -/
def PrivKey.content (p : PrivKey) (f k : Nat) : List Byte :=
  match p with
  | .wei d x y => toBE f d ++ toBE f x ++ toBE f y
  | .ed s a => fitBytes 32 s ++ fitBytes 32 a
  | .mont s u => fitBytes 32 s ++ fitBytes 32 u
  | .rsa r => toBE k r.n ++ toBE 32 r.e ++ toBE (k / 2) r.p ++ toBE (k / 2) r.q ++ toBE (k / 2) r.dP ++ toBE (k / 2) r.dQ
      ++ toBE (k / 2) r.qInv

/-- Read the clear content of a PKO. -/
def privRead (kind f k : Nat) (bs : List Byte) : PrivKey :=
  let v (off n : Nat) : Nat := ofBE (sliceB bs off n)
  if kind = 1 then .wei (v 0 f) (v f f) (v (2 * f) f)
  else if kind = 2 then .ed (bs.take 32) (sliceB bs 32 32)
  else if kind = 3 then .mont (bs.take 32) (sliceB bs 32 32)
  else
    let h := k / 2
    let o := k + 32
    .rsa { n := v 0 k, e := v k 32, p := v o h, q := v (o + h) h, dP := v (o + 2 * h) h, dQ := v (o + 3 * h) h,
           qInv := v (o + 4 * h) h }

/-- The key a PKO is encrypted with (R383). -/
def pkoKey (kek head : List Byte) : List Byte := kdfCtr kek (ascii "PKOBJ") head 32

/-- Make a PKO. -/
def pkoMake (kek nonce : List Byte) (code usage dome f k : Nat) (p : PrivKey) : List Byte :=
  let ct := p.content f k
  let head := toLE 4 0x424F4B50 ++ toLE 1 p.kind ++ toLE 1 code ++ toLE 1 usage ++ toLE 1 dome ++ toLE 4 ct.length
    ++ zeros 4 ++ fitBytes 12 nonce ++ zeros 4
  let g := gcmEnc (aesEnc (pkoKey kek head)) (fitBytes 12 nonce) head ct
  head ++ g.1 ++ g.2

/-- KIND that belongs to a CURVE (R382). -/
def curveKind (code : Nat) : Nat := if code = 8 then 2 else if code = 9 then 3 else if isRsa code then 4 else 1

/-- LEN for a CURVE (R382). -/
def pkoLen (code f : Nat) : Nat :=
  if code = 8 ∨ code = 9 then 64 else if isRsa code then 7 * rsaK code / 2 + 32 else 3 * f

/-- Open a PKO (R384): the rules of its fields, the dome, the USAGE bits needed, its length and its tag. -/
def pkoOpen (kek : List Byte) (code dome need f : Nat) (bs : List Byte) : Option PrivKey :=
  let head := bs.take 32
  let n := pkoLen code f
  if fld bs 0 4 = 0x424F4B50 ∧ fld bs 4 1 = curveKind code ∧ fld bs 5 1 = code ∧ fld bs 7 1 = dome
      ∧ fld bs 6 1 &&& need = need ∧ fld bs 6 1 < 8 ∧ fld bs 8 4 = n ∧ fld bs 12 4 = 0 ∧ fld bs 28 4 = 0
      ∧ bs.length = n + 48 then
    let o := gcmDec (aesEnc (pkoKey kek head)) (sliceB bs 16 12) head (sliceB bs 32 n) (bs.drop (32 + n))
    if o.2 then some (privRead (curveKind code) f (rsaK code) o.1) else none
  else none

/-! ### Import (R388, R399) -/

/-- The USAGE of a key block's key usage (R388). -/
def importUsage (u : List Byte) : Option Nat :=
  if u = [0x53, 0x30] then some 1 else if u = [0x4B, 0x33] then some 2 else if u = [0x44, 0x31] then some 4 else none

/-- An imported RSA key is consistent (R399): the modulus is the product of its primes and of its length, e as R387, the CRT
components fit their places, and CRT inverts the public operation on a random value. -/
def rsaConsistent (k : RsaKey) (bytes m : Nat) : Bool :=
  k.n == k.p * k.q && bitLen k.n == 8 * bytes && k.n % 2 == 1 && k.e % 2 == 1 && 65537 ≤ k.e && k.e < 2 ^ 256
    && [k.p, k.q, k.dP, k.dQ, k.qInv].all (fun v => decide (v < 2 ^ (4 * bytes))) && powMod (k.priv (m % k.n)) k.e k.n == m % k.n

/-- The private key of an opened key block's DER, for a CURVE, where it is consistent: a public key that it carries is the one
derived. `m` is the random value of R399. -/
def importKey (code m : Nat) (der : List Byte) : Option PrivKey :=
  if code = 8 then (der25519 0x70 der).bind (fun s => if s.2.all (· == edPublic s.1) then some (.ed s.1 (edPublic s.1)) else none)
  else if code = 9 then
    (der25519 0x6E der).bind (fun s => if s.2.all (· == x25519Public s.1) then some (.mont s.1 (x25519Public s.1)) else none)
  else if isRsa code then
    match derRsa der with
    | some k => if rsaConsistent k (rsaK code) m then some (.rsa k) else none
    | none => none
  else
    match namedCurve code, derEc der with
    | some c, some (oid, ds, pub) =>
      let d := ofBE ds
      (match c.mul d c.g with
       | some (x, y) =>
         if oid = curveOid code ∧ ds.length = (bitLen c.n + 7) / 8 ∧ 1 ≤ d ∧ d < c.n ∧ pub.all (· == c.enc x y) then some (.wei d x y) else none
       | none => none)
    | _, _ => none

/-- Open a key block for import (R388), with any optional blocks: the USAGE and the private key. -/
def importBlock (kek : List Byte) (code m : Nat) (blk : List Byte) : Option (Nat × PrivKey) :=
  match kbOpen true kek blk with
  | none => none
  | some b =>
    let letter : Byte := if isRsa code then 0x52 else 0x45
    match importUsage (sliceB b.head 5 2), importKey code m b.key with
    | some u, some k => if b.head.getD 7 0 = letter then some (u, k) else none
    | _, _ => none

/-- The public key of a private key (R386, R402): a point, 32 bytes, or n and e. -/
def PrivKey.pub (p : PrivKey) (f k : Nat) : List Byte :=
  match p with
  | .wei _ x y => 4 :: (toBE f x ++ toBE f y)
  | .ed _ a => a
  | .mont _ u => u
  | .rsa r => toBE k r.n ++ toBE 32 r.e

end Sys2Proof.Machine
end

