-- ==== Sys2Proof/Machine/Pke.lean ====
section
/-!
DEFINITION. Sys2Proof/Machine/Pke.lean: the PKE pool (spec/12_public_key.md R378, R379, R386 to R391, R395 to R407): held
contexts, dispatch, what each command computes, and its end; commands PKE_ETU_SCHEDULE, PKE_COMMAND_END and MODPROG to
PK_IMPORT.
-/

namespace Sys2Proof.Machine

/-! ### Contexts (R403 to R405) -/

/-- BEST commands that hold a context. -/
def State.pkeBestHeld (s : State) : List Cmd := s.cmds.filter (fun c => c.pool == 2 && c.held && c.promise.isNone)

/-- A context is available to a PROMISED admission: free, or held by a BEST command (R404). -/
def State.pkeAvailable (s : State) : Bool := s.pkeReserved < 384

/-- Evict the BEST command with the latest key (R405): its progress is discarded and it starts again. -/
def State.pkeEvict (s : State) : State :=
  if s.pkeReserved + s.pkeBestHeld.length ≤ 384 then s else
  match s.pkeBestHeld.getLast? with
  | none => s
  | some c =>
    ((s.putCmd { c with held := false, st := .waiting, checked := false, code := none, outLen := 0, writes := []
                        ins := if c.unit then c.ins else [], seed := [] }).count R.PKE_EVICT_COUNT).poolEvent 2 3

/-- A PROMISED command is the first of its job's outstanding ones (R404). -/
def State.pkeFirst (s : State) (c : Cmd) : Bool :=
  match s.cmds.find? (fun d => d.pool == 2 && d.job == c.job) with
  | some d => d.ticket == c.ticket
  | none => false

/-- Give contexts: to the first command of each PROMISED job, and to BEST commands in order while one is free. -/
def State.pkeGive (s : State) : State :=
  let free := 384 - (s.pkeReserved + s.pkeBestHeld.length)
  let best := (s.cmds.filter (fun c => c.pool == 2 && !c.held && c.promise.isNone)).take free
  { s with cmds := s.cmds.map (fun (c : Cmd) =>
      if c.pool = 2 ∧ ¬ c.held ∧ ((c.promise.isSome ∧ s.pkeFirst c) ∨ best.any (fun b => b.same c)) then
        { c with held := true } else c) }

/-! ### Dispatch (R379, R389) -/

/-- The operands of a descriptor: IN, PKO, PUB and AUX. -/
def PkD.operands (d : PkD) : List (Nat × Nat) := [(d.inA, d.inLen), (d.pko, d.pkoLen), (d.pub, d.pubLen), (d.aux, d.auxLen)]

/-- Read operands in their order. -/
def State.opnds (s : State) (c : Cmd) (e : Nat) : List (Nat × Nat) → List (List Byte) × State
  | [] => ([], s)
  | o :: os =>
    let r := s.opnd c e o.1 o.2
    let t := r.2.opnds c e os
    (r.1 :: t.1, t.2)

/-- The part of order 1 that depends on AUX: a modular program and its charge (R396), or the header of a curve record
(R392). -/
def PkD.auxOk (d : PkD) (aux : List Byte) : Bool :=
  if d.op = 1 then
    let p (i : Nat) : Nat := fld d.param i 1
    modCharge (p 0) (p 1) (p 3) (p 4) (modWords aux (fld d.param 6 2)) == some (fld d.param 8 4)
  else if d.op = 0x18 then recHeadOk d.curve aux
  else true

/-- The key checks of R383: the slot's key is AES-256 with usage KEK. -/
def State.pkeKeyCheck (s : State) (c : Cmd) (d : PkD) : Nat :=
  if ¬ pkUsesKey d.op then 0
  else if s.keyFailed c then 0x0403
  else if (s.keyAt c d.key).mat.alg ≠ 3 then 0x0404
  else if ¬ (s.keyAt c d.key).mat.usage.testBit 8 then 0x0405 else 0

/-- A command that passed its checks takes 128 random bytes where it uses them (R398). -/
def State.pkeSeed (s : State) (c : Cmd) : State :=
  if ¬ pkUsesRandom (pkDesc c.desc).op then s.putCmd { c with checked := true }
  else if s.pools.pkeRes.length < 128 then s.putCmd { c with checked := true, code := some 0x0306 }
  else
    { s with pools := { s.pools with pkeRes := s.pools.pkeRes.drop 128 } }.putCmd
      { c with checked := true, seed := s.pools.pkeRes.take 128 }

/-- A unit's command reaches an engine: it has its operands. That of the ceremony (R525) is refused for a block over its limit,
and by the key checks of R383 on the wrapping key, whose result comes with it. -/
def State.pkeReachUnit (s : State) (c : Cmd) (e : Nat) : State :=
  let key := fld (c.ins.getD 1 []) 0 2
  if c.job ≠ cerJob then s.pkeSeed c
  else if 4096 < (c.ins.headD []).length then s.refuse c e 0x0303 0
  else if key ≠ 0 then s.refuse c e key 0
  else s.pkeSeed c

/-- A command reaches an engine for the first time: what order 1 asks of AUX is checked where AUX lies in reach, it reads its operands, passes the checks of R389 in order or is
refused, and takes 128 random bytes where it uses them (R398). -/
def State.pkeReach (s : State) (c : Cmd) (e : Nat) : State :=
  if c.unit then s.pkeReachUnit c e else
  let d := pkDesc c.desc
  if ¬ d.descOk ∨ ¬ c.statusOk then s.refuse c e 0x0303 0 else
  let a := if (d.op = 1 ∨ d.op = 0x18) ∧ readOk d.aux d.auxLen then s.opnd c e d.aux d.auxLen else ([], s)
  if (d.op = 1 ∨ d.op = 0x18) ∧ readOk d.aux d.auxLen ∧ ¬ d.auxOk a.1 then a.2.refuse c e 0x0303 0 else
  match misplaced false d.operands [(d.out, d.outMax)] with
  | some a => s.refuse c e 0x0304 a
  | none =>
    let r := s.opnds c e d.operands
    let c1 := { c with ins := r.1 }
    let s1 := r.2
    if s1.pkeKeyCheck c d ≠ 0 then s1.refuse c1 e (s1.pkeKeyCheck c d) 0
    else s1.pkeSeed c1

/-- Insert a command behind those that come before it (R403). -/
def rankInsert (c : Cmd) : List Cmd → List Cmd
  | [] => [c]
  | d :: ds => if c.rank < d.rank then c :: d :: ds else d :: rankInsert c ds

/-- The held commands that can run, in the order of R403. -/
def State.pkeOrder (s : State) : List Cmd :=
  (s.cmds.filter (fun c => c.pool == 2 && c.held && !s.fetching c)).foldl (fun l c => rankInsert c l) []

/-- Put the n-th of the commands given on engine n, checking those that run for the first time. -/
def State.pkeAssign (s : State) : Nat → List Cmd → State
  | _, [] => s
  | e, c :: cs =>
    let c1 := { c with st := .running e }
    let s1 := s.putCmd c1
    (if c.checked then s1 else s1.pkeReach c1 e).pkeAssign (e + 1) cs

/-- An ETU boundary (R403): contexts are given, and the 32 engines go to the earliest held commands. -/
def State.pkeSchedule (s : State) : State :=
  let s1 := s.pkeGive
  let s2 : State := { s1 with cmds := s1.cmds.map (fun (c : Cmd) => if c.pool = 2 then { c with st := .waiting } else c) }
  s2.pkeAssign 0 (s2.pkeOrder.take 32)

/-! ### Operations -/

/-- A PKE command about to perform its operation: the key its PKOs are wrapped under, and that of a block it imports. -/
structure PkRun where
  c : Cmd
  d : PkD
  kek : List Byte
  prot : List Byte
  curveKey : List Byte

/-- IN, PKO, PUB and AUX as read. -/
def PkRun.inB (r : PkRun) : List Byte := r.c.ins.getD 0 []
/-- PKO as read. -/
def PkRun.pkoB (r : PkRun) : List Byte := r.c.ins.getD 1 []
/-- PUB as read. -/
def PkRun.pubB (r : PkRun) : List Byte := r.c.ins.getD 2 []
/-- AUX as read. -/
def PkRun.auxB (r : PkRun) : List Byte := r.c.ins.getD 3 []

/-- Random value number `item` of the command, in `n` bytes (R398): of the instance that the first 48 of its 128 bytes seed and
the others personalise, after the draws that come before it. Which these are, and how 80 bytes personalise an instance that SP
800-90A gives 48, the spec leaves open (log 7). -/
def PkRun.rnd (r : PkRun) (item n : Nat) : List Byte :=
  let new := drbgNew (r.c.seed.take 48) (fitBytes 48 (Config.pkePers (r.c.seed.drop 48)))
  let before := (Config.pkeDraws r.d.op r.d.curve).take (Config.pkeTurn r.d.op r.d.curve item)
  ((before.foldl (fun (d : Drbg) k => (d.generate k).2) new).generate n).1

/-- What a command computes: its status and its output. -/
abbrev PkRes := Nat × List Byte

/-- PK_INPUT. -/
def pkInput : PkRes := (0x0301, [])
/-- OK or PK_BADSIG. -/
def pkVerdict (ok : Bool) : PkRes := (if ok then 0 else 0x0305, [])

/-- The Weierstrass curve of a command and the bytes of AUX after its record: named, or from a sealed record. -/
def PkRun.curve (r : PkRun) : Option (Curve × List Byte) :=
  if isLoad r.d.curve then
    (recOpen r.curveKey r.d.curve r.c.dome r.auxB).filter (fun x => r.d.op == 0x12 || x.2.isEmpty)
  else (namedCurve r.d.curve).map (fun c => (c, r.auxB))

/-- The private key of the command's PKO (R384), with the USAGE bit it needs. SES gives its own key as it is. -/
def PkRun.priv (r : PkRun) (need f : Nat) : Option PrivKey :=
  if r.c.unit then some (.wei (ofBE r.pkoB) 0 0) else pkoOpen r.kek r.d.curve r.c.dome need f r.pkoB

/-- A new PKO and its public key. -/
def PkRun.make (r : PkRun) (usage f : Nat) (p : PrivKey) : PkRes :=
  let k := rsaK r.d.curve
  (0, pkoMake r.kek (r.rnd 200 12) r.d.curve usage r.c.dome f k p ++ p.pub f k)

/-- KEYGEN (R386, R398): the first of 128 candidates in range, or PK_RANDOM. -/
def pkKeygen (r : PkRun) : PkRes :=
  if r.d.curve = 8 then (let s := r.rnd 0 32; r.make 1 32 (.ed s (edPublic s)))
  else if r.d.curve = 9 then (let k := r.rnd 0 32; r.make 2 32 (.mont k (x25519Public k)))
  else match r.curve with
  | none => pkInput
  | some (c, _) =>
    let cands := (List.range 128).map (fun i => ofBE (r.rnd i ((bitLen c.n + 7) / 8)) % 2 ^ bitLen c.n)
    match cands.find? (fun d => decide (1 ≤ d) && decide (d < c.n)) with
    | none => (0x0306, [])
    | some d =>
      match c.mul d c.g with
      | some (x, y) => r.make 3 c.f (.wei d x y)
      | none => pkInput

/-- SIGN (R386, R387). -/
def pkSign (r : PkRun) : PkRes :=
  if r.d.curve = 8 then
    match r.priv 1 32 with
    | some (.ed s _) => (0, edSign s r.inB)
    | _ => pkInput
  else match r.curve with
  | none => pkInput
  | some (c, _) =>
    match r.priv 1 c.f with
    | some (.wei d _ _) =>
      (match ecdsaSign c r.d.hash d r.inB (r.rnd 0 32) with
       | some (a, b) => (0, toBE c.on a ++ toBE c.on b)
       | none => pkInput)
    | _ => pkInput

/-- VERIFY (R386, R387, R390). -/
def pkVerify (r : PkRun) : PkRes :=
  if r.d.curve = 8 then
    match edDecode r.pubB with
    | some a => if edSmall a then pkInput else pkVerdict (edVerify a r.pubB r.inB r.auxB)
    | none => pkInput
  else match r.curve with
  | none => pkInput
  | some (c, sig) =>
    match c.point r.pubB with
    | none => pkInput
    | some q =>
      if sig.length ≠ 2 * c.on then pkInput
      else pkVerdict (ecdsaVerify c (some q) r.inB (ofBE (sig.take c.on)) (ofBE (sig.drop c.on)))

/-- AGREE (R386, R387, R390). -/
def pkAgree (r : PkRun) : PkRes :=
  if r.d.curve = 9 then
    match r.priv 2 32 with
    | some (.mont k _) => let z := x25519 k r.pubB; if allZero z then pkInput else (0, z)
    | _ => pkInput
  else match r.curve with
  | none => pkInput
  | some (c, _) =>
    match r.priv 2 c.f, c.point r.pubB with
    | some (.wei d _ _), some q =>
      (match c.mul (c.h * d) (some q) with
       | some (x, _) => (0, toBE c.f x)
       | none => pkInput)
    | _, _ => pkInput

/-- PUBLIC (R386). -/
def pkPublic (r : PkRun) : PkRes :=
  let go (f : Nat) : PkRes := match r.priv 0 f with
    | some p => (0, p.pub f (rsaK r.d.curve))
    | none => pkInput
  if curveKind r.d.curve = 1 then (match r.curve with | some (c, _) => go c.f | none => pkInput) else go 32

/-- CURVE_CHECK (R393). -/
def pkCurveCheck (r : PkRun) : PkRes :=
  if curveSafe (recCurve r.auxB) then (0, recSeal r.curveKey r.auxB r.c.dome) else pkInput

/-- The encoded message of an RSA signature. -/
def PkRun.rsaEm (r : PkRun) : List Byte :=
  let k := rsaK r.d.curve
  if fld r.d.param 0 1 = 0 then pkcs1Enc r.d.hash k r.inB else pssEnc r.d.hash k r.inB (r.rnd 0 (shaLen r.d.hash))

/-- RSA_SIGN. -/
def pkRsaSign (r : PkRun) : PkRes :=
  match r.priv 1 0 with
  | some (.rsa k) => (0, toBE (rsaK r.d.curve) (k.priv (ofBE r.rsaEm % k.n)))
  | _ => pkInput

/-- An RSA public key in PUB (R381, R387, R390): n and e. -/
def PkRun.rsaPub (r : PkRun) : Option (Nat × Nat) :=
  let k := rsaK r.d.curve
  let n := ofBE (r.pubB.take k)
  let e := ofBE (r.pubB.drop k)
  if n % 2 = 1 ∧ bitLen n = 8 * k ∧ e % 2 = 1 ∧ 65537 ≤ e ∧ e < 2 ^ 256 then some (n, e) else none

/-- RSA_VERIFY. -/
def pkRsaVerify (r : PkRun) : PkRes :=
  match r.rsaPub with
  | none => pkInput
  | some (n, e) =>
    let k := rsaK r.d.curve
    let sg := ofBE r.auxB
    if n ≤ sg then pkVerdict false else
    let em := toBE k (powMod sg e n)
    pkVerdict (if fld r.d.param 0 1 = 0 then em == pkcs1Enc r.d.hash k r.inB else pssOk r.d.hash k r.inB em)

/-- RSA_DECRYPT. -/
def pkRsaDecrypt (r : PkRun) : PkRes :=
  match r.priv 4 0 with
  | some (.rsa k) =>
    let c := ofBE r.inB
    if k.n ≤ c then pkInput else
    (match oaepDec r.d.hash (toBE (rsaK r.d.curve) (k.priv c)) with
     | some m => (0, m)
     | none => pkInput)
  | _ => pkInput

/-- RSA_ENCRYPT. -/
def pkRsaEncrypt (r : PkRun) : PkRes :=
  match r.rsaPub with
  | none => pkInput
  | some (n, e) =>
    let k := rsaK r.d.curve
    (0, toBE k (powMod (ofBE (oaepEnc r.d.hash k r.inB (r.rnd 0 (shaLen r.d.hash)))) e n))

/-- The ciphertext of an RSA_DECRYPT is below the modulus of a good PKO: the private operation is made (R399). -/
def pkRsaRan (r : PkRun) : Bool :=
  match r.priv 4 0 with
  | some (.rsa k) => decide (ofBE r.inB < k.n)
  | _ => false

/-- The operands of an AGREE are good: the multiplication is made, and repeated (R399). -/
def pkAgreeRan (r : PkRun) : Bool :=
  if r.d.curve = 9 then (match r.priv 2 32 with | some (.mont _ _) => true | _ => false)
  else match r.curve with
  | none => false
  | some (c, _) => (match r.priv 2 c.f, c.point r.pubB with | some (.wei _ _ _), some _ => true | _, _ => false)

/-- The check of R399 on an output, where it is more than a repetition: a signature verifies under the public key of the PKO, and a
decryption encrypts to the ciphertext. -/
def pkCheck (r : PkRun) (out : List Byte) : Bool :=
  if r.d.op = 0x11 then
    if r.d.curve = 8 then
      match r.priv 1 32 with
      | some (.ed _ a) => (match edDecode a with | some p => edVerify p a r.inB out | none => false)
      | _ => true
    else match r.curve with
    | none => true
    | some (c, _) =>
      (match r.priv 1 c.f with
       | some (.wei _ x y) => ecdsaVerify c (some (x, y)) r.inB (ofBE (out.take c.on)) (ofBE (out.drop c.on))
       | _ => true)
  else match r.priv (if r.d.op = 0x20 then 1 else 4) 0 with
  | some (.rsa k) =>
    if r.d.op = 0x20 then powMod (ofBE out) k.e k.n == ofBE r.rsaEm % k.n
    else if r.d.op = 0x22 then powMod (k.priv (ofBE r.inB)) k.e k.n == ofBE r.inB
    else true
  | _ => true

/-- The groups that a private-key block may be of. -/
def importCodes : List Nat := [1, 2, 3, 4, 5, 8, 9, 0x20, 0x30, 0x40]

/-- PK_IMPORT; the ceremony's takes any group (R525). -/
def pkImport (r : PkRun) : PkRes :=
  let codes := if r.c.unit then importCodes else [r.d.curve]
  (codes.findSome? (fun k =>
    let q := { r with d := { r.d with curve := k } }
    (importBlock r.prot k (ofBE (q.rnd 0 64)) r.inB).map (fun x => q.make x.1 (curveF k) x.2))).getD pkInput

/-! ### Modular programs (R395, R396) -/

/-- The slots of a program, and whether some MINV met an operand without an inverse. -/
structure ModSt where
  slots : List Nat
  bad : Bool
  deriving DecidableEq, Repr

/-- One instruction of a program over slots of `bits` bits. The modulus slot can change only by a CSWAP that names it as
a; operations modulo 0 have a free result. -/
def modStep (bits mslot : Nat) (t : ModSt) (word : Nat) : ModSt :=
  let op := word / 2 ^ 24
  let d := word / 2 ^ 16 % 256
  let ai := word / 2 ^ 8 % 256
  let bi := word % 256
  let m := t.slots.getD mslot 0
  let a := t.slots.getD ai 0
  let b := t.slots.getD bi 0
  let put (v : Nat) : ModSt := { t with slots := t.slots.set d v }
  let putM (v : Nat) : ModSt := put (if m = 0 then Config.modZero op a b % 2 ^ bits else v)
  match op with
  | 1 => putM ((a + b) % m)
  | 2 => putM (subMod a b m % m)
  | 3 => putM (a * b % m)
  | 4 => putM (a * a % m)
  | 5 => (match (if m = 0 then none else modInv? a m) with
    | some v => put v
    | none => { t with bad := true })
  | 6 => putM (powModN (a % m) b m bits (1 % m))
  | 7 => put a
  | 8 => if b % 2 = 1 then { t with slots := (t.slots.set d a).set ai (t.slots.getD d 0) } else t
  | 9 => put (ai * 256 + bi)
  | _ => putM (subMod 0 a m % m)

/-- MODPROG. -/
def pkModprog (r : PkRun) : PkRes :=
  let p (i : Nat) : Nat := fld r.d.param i 1
  let sl := 32 * p 0
  let ins := (List.range (p 1)).map (fun i => ofBE (sliceB r.inB (sl * i) sl))
  let m := ins.getD (p 4) 0
  let others := (List.range (p 1)).filter (fun i => i != p 4)
  if m % 2 = 0 ∨ m ≤ 1 ∨ ¬ others.all (fun i => ins.getD i 0 < m) then pkInput
  else
    let t := (modWords r.auxB (fld r.d.param 6 2)).foldl (modStep (8 * sl) (p 4))
      { slots := ins ++ List.replicate (32 - p 1) 0, bad := false }
    if t.bad then pkInput else (0, ((t.slots.drop (p 2)).take (p 3)).flatMap (toBE sl))

/-! ### The commands -/

/-- The command a job submitted under a ticket. -/
def State.cmdOf (s : State) (job ticket : Nat) : Option Cmd := s.cmds.find? (fun c => c.job == job && c.ticket == ticket)

/-- What a PKE command computes with: its operands, its descriptor, its key and the pool's curve key; a command of a unit
brings its key with it (R525, R465). -/
def State.pkRun (s : State) (c : Cmd) : PkRun :=
  let d := pkDesc c.desc
  let key := (s.keyAt c d.key).mat.key
  { c := c, d := d, kek := if c.unit then c.ins.getD 3 [] else key, prot := if c.unit then s.cer.importKey else key,
    curveKey := s.pools.curveKey }

/-- A command whose result is checked before its release (R399). -/
def pkChecked (op : Nat) : Bool :=
  op == 0x10 || op == 0x11 || op == 0x13 || op == 0x20 || op == 0x22 || op == 0x30

/-- Perform the operation of a PKE command that runs, if it is `op` and passed its checks. -/
def State.pkeDo (s : State) (job ticket op : Nat) (f : PkRun → PkRes) : State :=
  match s.cmdOf job ticket with
  | none => s
  | some c =>
    let d := pkDesc c.desc
    let run : Bool := match c.st with | .running _ => true | _ => false
    if c.pool = 2 ∧ run ∧ c.checked ∧ c.code = none ∧ d.op = op then
      let run := s.pkRun c
      let r := f run
      let proven := r.1 == 0 || (op == 0x22 && pkRsaRan run) || (op == 0x13 && pkAgreeRan run)
      s.doneCmd { c with proven := proven, wrong := proven && pkChecked op && !pkCheck run r.2 } r.1 r.2.length (if r.1 = 0 ∧ r.2 ≠ [] then [(c.phys d.out, r.2)] else [])
    else s

/-- A PKE command ends in its final ETU (R378, R391, R400). A check before release of R399 that fails, by
what it computes or, with `failed`, in the engine, withholds the result and fires PKVERIFY; that of RSA_DECRYPT and of AGREE comes
before the decoding and the checks of the result. -/
def State.pkeEnd (s : State) (job ticket : Nat) (failed : Bool) : State :=
  match s.cmdOf job ticket with
  | none => s
  | some c =>
    match c.st, c.code with
    | .running e, some code =>
      if c.pool ≠ 2 then s
      else if (failed ∨ c.wrong) ∧ c.proven ∧ pkChecked (pkDesc c.desc).op then
        (((s.endCmd { c with writes := [], outLen := 0 } e 0x0302).tamper 14 (0x280 + e + (pkDesc c.desc).op * 65536)).count R.PKE_WITHHELD_COUNT).poolEvent 2 1
      else
        let s1 := s.endCmd c e code
        if code = 0x0301 then s1.next R.PKE_INPUT_COUNT
        else if code = 0x0305 then s1.next R.PKE_BADSIG_COUNT
        else if code = 0x0306 then s1.poolEvent 2 2 else s1
    | _, _ => s

end Sys2Proof.Machine
end

