-- ==== Sys2Proof/Machine/Mmu.lean ====
section
/-!
DEFINITION. Sys2Proof/Machine/Mmu.lean: translation and sealed regions (spec/09_memory.md R290 to R297, R304, R305,
R308): the table walk, restore requests, region states; commands MMU_TDATA_WRITE, MMU_REQ_APPEND, MMU_REQ_POP and
REGION_ARM.
-/

namespace Sys2Proof.Machine

/-- An entry with no reserved bit set for its state (R290, R291): the fields its state does not use are zero, and
bits 20:16 of PA are zero for a 2 MiB page. -/
def entryClean (e : Nat) (big : Bool) : Bool :=
  match e % 4 with
  | 0 => true
  | 1 => bitsOf e 3 13 == 0 && bitsOf e 40 24 == 0 && !(big && bitsOf e 16 5 != 0)
  | 2 => bitsOf e 5 11 == 0 && (if bitOf e 4 then bitsOf e 60 4 == 0 else bitsOf e 16 48 == 0)
  | _ => bitsOf e 2 14 == 0 && bitsOf e 36 28 == 0

/-- What a lookup finds: nothing (INVALID), or a leaf with its index, its entry, and whether it maps 2 MiB. -/
structure Leaf where
  idx : Nat
  entry : Nat
  big : Bool
  deriving DecidableEq, Repr

/-- The walk (R290), from the table at `base`, over the levels given: shift of the address, entries of the table, and
alignment of the next level's table index. -/
def State.walk (s : State) (va : Nat) : Nat → List (Nat × Nat × Nat) → Option Leaf
  | _, [] => none
  | base, (shift, n, al) :: rest =>
    let i := base + va / 2 ^ shift % n
    let e := s.tentry i
    if !entryClean e (shift == 21) then none
    else if e % 4 = 3 then
      (if al = 0 ∨ bitsOf e 16 20 % al ≠ 0 then none else s.walk va (bitsOf e 16 20) rest)
    else if e % 4 = 0 ∨ shift ≥ 30 then none
    else some { idx := i, entry := e, big := shift == 21 }

/-- A lookup for a dome (R290). -/
def State.lookup (s : State) (d va : Nat) : Option Leaf :=
  let root := s.get (R.MMU_ROOT_INDEX d)
  if s.get (R.MMU_ROOT_VALID d) = 0 ∨ root % 512 ≠ 0 then none
  else s.walk va root [(39, 512, 512), (30, 512, 512), (21, 512, 32), (16, 32, 0)]

/-- Raise vector 243 if a region that was warming is warm now (R305, R314). -/
def State.warmEvent (s : State) (was : Bool) (d r : Nat) : State :=
  if was && (s.region d r).isSome && !s.warming d r then s.raise 243 else s

/-- Write an entry of the table memory (R292), which may make the region of the old entry warm. -/
def State.putEntry (s : State) (i v : Nat) : State :=
  let old := s.tentry i
  let d := bitsOf old 48 6
  let r := bitsOf old 54 6
  let s1 := { s with mmu := { s.mmu with table := tabSet 0 s.mmu.table i v } }
  if old % 4 = 2 ∧ bitOf old 4 then s1.warmEvent (s.warming d r) d r else s1

/-- MMU_TDATA written (R292). -/
def State.tdataWrite (s : State) (v : Nat) : State := s.putEntry (s.get R.MMU_TADDR_INDEX) (v % 2 ^ 64)

/-! ### Restore requests (R296) -/

/-- Post a restore request for a leaf met ABSENT whose REQ bit is clear (R296). -/
def State.postReq (s : State) (d va : Nat) (l : Leaf) : State :=
  if bitOf l.entry 3 then s else
  let page := va / (if l.big then 0x200000 else 0x10000) * (if l.big then 0x200000 else 0x10000)
  let s1 := { s with mmu := { s.mmu with table := tabSet 0 s.mmu.table l.idx (l.entry + 8) } }
  if s.mmu.wait.isEmpty ∧ s.mmu.req.length < 4096 then
    let s2 := { s1 with mmu := { s1.mmu with req := s1.mmu.req ++ [(d, page)] } }
    (if s.mmu.req.isEmpty then s2.raise 240 else s2).reqStatus
  else { s1 with mmu := { s1.mmu with wait := s1.mmu.wait ++ [(d, page)] } }.reqStatus

/-- A waiting request is appended as space frees (R296). -/
def State.reqAppend (s : State) : State :=
  match s.mmu.wait with
  | [] => s
  | q :: qs =>
    if s.mmu.req.length < 4096 then
      let s1 := { s with mmu := { s.mmu with req := s.mmu.req ++ [q], wait := qs } }
      (if s.mmu.req.isEmpty then s1.raise 240 else s1).reqStatus
    else s

/-! ### Regions (R305, R308) -/

/-- MMU_RGN_CMD.ARM (R305): the selected region is armed; ignored if it is not declared. A region armed with a count
of 0 is warm from that edge. -/
def State.regionArm (s : State) : State :=
  let d := s.get R.MMU_RGN_SEL_DOME
  let r := s.get R.MMU_RGN_SEL_REGION
  if (s.region d r).isSome then
    { s with mmu := { s.mmu with armed := insNat s.mmu.armed (d * 64 + r) } }.warmEvent (s.warming d r) d r
  else s

/-- A region is carried over to new content (R308). -/
def carriedOver (old new : List Byte) : Bool :=
  bitOf (fld new 4 1) 2 && fld old 0 4 == fld new 0 4 && fld old 4 1 % 4 == fld new 4 1 % 4
    && sliceB old 8 28 == sliceB new 8 28

/-- The regions of a dome that stay armed when new content is installed (R308). -/
def State.rearm (s : State) (d : Nat) (old new : Option Content) : State :=
  let keep (r : Nat) : Bool :=
    match old.bind (fun c => c.regions[r]?), new.bind (fun c => c.regions[r]?) with
    | some a, some b => carriedOver a b
    | _, _ => false
  { s with mmu := { s.mmu with armed := s.mmu.armed.filter (fun k => k / 64 != d || keep (k % 64)) } }

end Sys2Proof.Machine
end

