-- ==== Sys2Proof/Machine/Restore.lean ====
section
/-!
DEFINITION. Sys2Proof/Machine/Restore.lean: restoring sealed pages (spec/09_memory.md R304, R306, R307, R311, R314):
commands RESTORE_GO and RESTORE_END.
-/

namespace Sys2Proof.Machine

/-- A restore ends or is refused with a code (R307, R311): MMU_RST_STATUS.LAST, and vector 241 or 242 (R314). -/
def State.restoreCode (s : State) (code : Nat) : State :=
  (s.set R.MMU_RST_STATUS_LAST code).raise (if code = 0 then 241 else 242)

/-- Bring MMU_RST_STATUS.BUSY in step with the lanes. -/
def State.restoreBusy (s : State) : State :=
  (s.setB R.MMU_RST_STATUS_BUSY0 (tabFind s.mmu.lanes 0).isSome).setB R.MMU_RST_STATUS_BUSY1 (tabFind s.mmu.lanes 1).isSome

/-- MMU_RST_CMD.GO (R307): a free lane takes the restore of the buffer at MMU_RST_SRC, lane 0 first; with none, or once an
entry to DEEP has begun (R572), it is refused with RESTORE_BUSY. -/
def State.restoreGo (s : State) (d r : Nat) : State :=
  let x : Restore := { dome := d, region := r, src := s.get R.MMU_RST_SRC_ADDR * 64 }
  let put (l : Nat) : State := { s with mmu := { s.mmu with lanes := tabIns s.mmu.lanes l x } }.restoreBusy
  if s.deepEntry then s.restoreCode 0x0514
  else if (tabFind s.mmu.lanes 0).isNone then put 0
  else if (tabFind s.mmu.lanes 1).isNone then put 1
  else s.restoreCode 0x0514

/-- The size of a page of a declared region (R304). -/
def regionPage (decl : List Byte) : Nat := if bitOf (fld decl 4 1) 0 then 0x200000 else 0x10000

/-- The buffer of `n` bytes from `a` lies in DDR and outside every envelope (R140), that of dome 0 with them. -/
def State.openDdr (s : State) (a n : Nat) : Bool :=
  decide (a + n ≤ 0x2000000000)
    && s.domes.all (fun e => match e.2.allot with
      | some t => decide (a + n ≤ t.memBase) || decide (t.memBase + t.memSize ≤ a)
      | none => true)

/-- A chunk's header is right for its declaration (R306, R307). -/
def chunkFormat (decl head : List Byte) : Bool :=
  fld head 0 4 == 0x48434C53 && fld head 4 4 == fld decl 0 4 && fld head 8 4 == fld decl 0x20 4
    && fld head 0x10 8 == fld decl 0x18 8 && sliceB head 0x18 12 == sliceB head 8 8 ++ sliceB head 4 4
    && sliceB head 0x24 28 == zeros 28 && decide (fld head 0x0C 4 < fld decl 0x18 8 / 65536)

/-- A key as KEY fetch gives it to a unit (R307): that of an installed index of a dome, while the storage root key is
valid; the fetch reads the entry with the domain of the dome (R310). -/
def State.keyRead (s : State) (d i : Nat) : Option KeyMat × State :=
  if ¬ s.is R.RST_ROOT_SRK_VALID ∨ ¬ s.dirHas i d then (none, s)
  else
    let r := s.rd { agent := 0x2A4, dom := d, epoch := s.get R.ART_EPOCH_CURRENT } (s.entryAddr (s.bankOfKey i) i) 64
    match entryOpen r.2.key.tkey r.1 with
    | some (e, m) => (if e = d then some m else none, r.2)
    | none => (none, r.2)

/-- The image key of a declaration (R307): usage IMAGE. -/
def State.imageKey (s : State) (d i : Nat) : Option (List Byte) × State :=
  let r := s.keyRead d i
  (r.1.bind (fun m => if m.usage.testBit 11 then some m.key else none), r.2)

/-- The leaf of a chunk, with the number of its CHUNKS bit, if the chunk may be restored there (R307): SEALED ABSENT
with the DOME and REGION, of the declaration's page size, and with the bit clear. -/
def State.restoreLeaf (s : State) (d r : Nat) (decl : List Byte) (va : Nat) : Option (Leaf × Nat) :=
  match s.lookup d va with
  | none => none
  | some l =>
    let bit := if l.big then va / 65536 % 32 else 0
    if sealedOf l.entry d r ∧ l.big = (regionPage decl == 0x200000) ∧ ¬ bitOf l.entry (16 + bit) then some (l, bit) else none

/-- The leaf entry after a chunk is restored (R290, R307): its CHUNKS bit set, or RESIDENT with the page's PA and the
declaration's W once every chunk is there. -/
def restoredEntry (decl : List Byte) (l : Leaf) (bit pa : Nat) : Nat :=
  let e := l.entry + 2 ^ (16 + bit)
  let page := regionPage decl
  if bitsOf e 16 (page / 65536) + 1 = 2 ^ (page / 65536) then
    1 + place (b2n (bitOf (fld decl 4 1) 1)) 2 1 + place (pa / page * page / 65536) 16 24
  else e

/-- The chunk in a lane's buffer: read within the MEMC (R307). -/
def State.restoreChunk (s : State) (x : Restore) : List Byte × State :=
  let r := s.memAgent.2.readDdr s.memAgent.1 0 x.src 65616 1030
  (r.1, r.2.2)

/-- A chunk's data, and whether its tag verifies (R306). -/
def chunkPlain (key chunk : List Byte) : List Byte × Bool :=
  gcmDec (aesEnc key) (sliceB chunk 0x18 12) (chunk.take 64) (sliceB chunk 64 65536) (sliceB chunk 0x10040 16)

/-- The checks of a lane and, when all pass, the writes (R307). While SRK_VALID reads 0 every restore ends with RESTORE_KEY
(R572). -/
def State.restoreRun (s : State) (x : Restore) : State :=
  if ¬ s.is R.RST_ROOT_SRK_VALID then s.restoreCode 0x0511 else
  match s.region x.dome x.region with
  | none => s.restoreCode 0x0510
  | some decl =>
    if ¬ s.openDdr x.src 65616 then s.restoreCode 0x0510 else
    let r := s.restoreChunk x
    let j := fld r.1 0x0C 4
    if ¬ chunkFormat decl (r.1.take 64) then r.2.restoreCode 0x0510 else
    let k := r.2.imageKey x.dome (fld decl 0x24 4)
    match k.1 with
    | none => k.2.restoreCode 0x0511
    | some key =>
      match k.2.restoreLeaf x.dome x.region decl (fld decl 8 8 + 65536 * j) with
      | none => k.2.restoreCode 0x0512
      | some (l, bit) =>
        let p := chunkPlain key r.1
        if ¬ p.2 then k.2.restoreCode 0x0513
        else
          let pa := fld decl 0x10 8 + 65536 * j
          let s2 := (k.2.writeDdr s.memAgent.1 0 pa p.1 1025).putEntry l.idx (restoredEntry decl l bit pa)
          (s2.next R.MMU_RST_DONE_COUNT).restoreCode 0

/-- A lane is free again. -/
def State.restoreFree (s : State) (lane : Nat) : State := { s with mmu := { s.mmu with lanes := tabDel s.mmu.lanes lane } }.restoreBusy

/-- A restore lane ends (R307): its lane frees, and the chunk is written or a code reported. -/
def State.restoreEnd (s : State) (lane : Nat) : State :=
  match tabFind s.mmu.lanes lane with
  | none => s
  | some x => (s.restoreFree lane).restoreRun x

/-- A lane ends at a KEYCACHE or KEYSTORE response (R572): one whose tag has verified writes its chunk, another ends with
RESTORE_KEY. How far a lane has come the spec does not say: a free choice (log 44). -/
def State.restoreStop (s : State) (x : Restore) : State :=
  let d := s.draw 1
  let t := d.2.restoreRun x
  if d.1 = 1 ∧ t.get R.MMU_RST_STATUS_LAST = 0 then t else d.2.restoreCode 0x0511

/-- The lanes that run end at a KEYCACHE or KEYSTORE response (R572), before a key is gone. -/
def State.restoreKill (s : State) : State :=
  (s.mmu.lanes.foldl (fun (s : State) l => s.restoreStop l.2) { s with mmu := { s.mmu with lanes := [] } }).restoreBusy

end Sys2Proof.Machine
end

