-- ==== Sys2Proof/Machine/Ses.lean ====
section
/-!
DEFINITION. Sys2Proof/Machine/Ses.lean: SES (spec/15_network_federation.md R460 to R462, R468 to R474, R476): session
contexts and their cache, datagrams in and out, reassembly, rekeying as far as keys change, closing, job history and
the keep's rings; commands FRAME_RECEIVE, REASSEMBLY_TIMEOUT, CONTEXT_FETCH, MESSAGE_TX, CLOSE, PING, PONG, QUERY, APP,
SESSION_IDLE, SESSION_EPOCH_DRAINED and KEEP_TX.
-/

namespace Sys2Proof.Machine

/-! ### Closing (R470) -/

/-- The keep's open ends with a code (R476): vector 275. -/
def State.kopenEnd (s : State) (i code sid : Nat) : State :=
  if s.ses.kopen = some i then
    ((((s.setSes { s.ses with kopen := none }).set R.SES_KOPEN_STATUS_BUSY 0).set R.SES_KOPEN_STATUS_CODE code).set
      R.SES_KOPEN_STATUS_SID sid).cause R.SES_EVENTS_CAUSE 272 275
  else s

/-- The job number under which the public-key commands of context `i` run. -/
def sesJob (i : Nat) : Nat := 2 ^ 32 + i

/-- A context is freed: its generation rises, its counts fall, what it has asked of the DRBG and of the PKE pool is dropped, and
an open of the keep that it was for has failed with a code. -/
def State.sesFree (s : State) (i : Nat) (code : Nat := 0x020E) : State :=
  let c := s.ctx i
  let s := s.kopenEnd i code 0
  let s1 := if c.st = 2 then (s.set R.SES_STATUS_OPEN (s.get R.SES_STATUS_OPEN - 1)).cause R.SES_EVENTS_CAUSE 272 273
            else if c.st = 1 then s.set R.SES_STATUS_HS (s.get R.SES_STATUS_HS - 1) else s
  let s2 := if c.counted then s1.set (R.SES_DOME_OPEN_COUNT c.dome) (s1.get (R.SES_DOME_OPEN_COUNT c.dome) - 1) else s1
  let s3 := (s2.setSes { s2.ses with
      cache := s2.ses.cache.filter (· != i)
      inbox := s2.ses.inbox.filter (fun m => m.ctx != some i)
      parts := s2.ses.parts.filter (fun p => p.msg.ctx != some i)
      pk := tabDel s2.ses.pk i }).setCtx i { gen := (c.gen + 1) % 2 ^ 14 }
  let s4 := { s3 with
    cmds := s3.cmds.filter (fun (c : Cmd) => c.job != sesJob i)
    ent := { s3.ent with
      reqs := s3.ent.reqs.filter (fun r => match r with | .ses k _ => k != i | _ => true), ses := tabDel s3.ent.ses i } }
  let s5 : State := { s4 with fed := { s4.fed with
    members := s4.fed.members.filter (fun m => m.1 != i), tower := if s4.fed.tower = some i then none else s4.fed.tower } }
  s5.set R.FED_MEMBERS_PRESENT s5.fed.members.length

/-- What a session has queued and not begun to send is discarded; jobs whose completions go leave flight (R190). -/
def State.dropQueued (s : State) (c : Ses) : State :=
  let mine (m : TxMsg) : Bool := m.raw.isEmpty && m.sid == c.sid && m.peer.link == c.peer.link && m.done == 0
  let ids := (s.net.tx.filter mine).filterMap (·.job)
  let s1 := s.setNet { s.net with tx := s.net.tx.filter (fun m => !mine m) }
  ids.foldl (fun s id => match s.job id with | some j => s.leaveFlight j 0 | none => s) s1

/-- Close a session, with a CLOSE message that carries a code where one is given. -/
def State.sesClose (s : State) (i : Nat) (code : Option Nat) : State :=
  let c := s.ctx i
  if c.st = 0 then s else
  let s1 := s.dropQueued c
  let s2 := match code with
    | some k => if c.st = 2 then s1.sesSendLast i 0x09 2 (toLE 2 k ++ [0, 0]) else s1
    | none => s1
  s2.sesFree i (code.getD 0x020E)

/-- Close every open session that a test picks. -/
def State.sesCloseAll (s : State) (p : Ses → Bool) (code : Option Nat) : State :=
  ((s.ses.ctxs.filter (fun e => e.2.st != 0 && p e.2)).map (·.1)).foldl (fun s i => s.sesClose i code) s

/-! ### Rekeying (R468, R469) -/

/-- Ask the DRBG for the random bytes of a handshake step: for a key of the group, and a RANDOM where one is sent. -/
def State.sesAsk (s : State) (i group rnd : Nat) : State :=
  { s with ent := { s.ent with reqs := s.ent.reqs ++ [.ses i (rnd + (if group = 1 then 40 else 56))] } }

/-- The device starts a rekey where one is due and may start: a session a client opened, none under way, E - 1 drained. -/
def State.rekeyStart (s : State) (i : Nat) : State :=
  let c := s.ctx i
  if c.st = 2 ∧ ¬ c.client ∧ c.rekeyAsked ∧ ¬ c.rekeySent ∧ c.drained ∧ c.want = .none then
    (s.setCtx i { c with want := .rekey, rekeyAsked := false }).sesAsk i c.group 0
  else s

/-- The limits of SEQ (R468): close at 2^47, rekey at 2^32. -/
def State.seqCheck (s : State) (i : Nat) : State :=
  let c := s.ctx i
  let x := c.cur
  let top := max x.tx (match x.hi with | some h => h + 1 | none => 0)
  if c.st ≠ 2 then s
  else if 2 ^ 47 ≤ top then s.sesClose i (some 0x0206)
  else if 2 ^ 32 ≤ top ∧ ¬ c.client ∧ ¬ c.rekeySent ∧ c.want = .none then
    (s.setCtx i { c with rekeyAsked := true }).rekeyStart i
  else s

/-- No operation carries a session's old epoch (R469, R49): no job in flight does, and no message that waits for its first
datagram is to be encrypted under it. -/
def State.sesOldFree (s : State) (i : Nat) : Bool :=
  let c := s.ctx i
  match c.eps with
  | _ :: old :: _ => s.jsc.jobs.all (fun j => !(j.session == c.sid && j.sepoch == old.epoch))
      && s.net.tx.all (fun m => !(m.ctx == some i && m.sid == c.sid && m.epoch == old.epoch && !m.sec.isEmpty))
  | _ => true

/-- A session's old epoch drains: its keys are destroyed, EPOCH_DONE goes out under the new one, and a rekey that waits
starts. -/
def State.sesDrained (s : State) (i : Nat) : State :=
  let c := s.ctx i
  if c.st = 2 ∧ ¬ c.client ∧ ¬ c.drained ∧ s.sesOldFree i then
    let s1 := s.ctxUse i
    ((s1.setCtx i { s1.ctx i with eps := (s1.ctx i).eps.take 1, drained := true }).sesSendCur i 0x08 2 []).rekeyStart i
  else s

/-! ### Receiving datagrams (R462) -/

/-- Drop a datagram, counted for its link. -/
def State.dgDrop (s : State) (p : Peer) : State := s.netDrop p.link

/-- A whole message has been received. -/
def State.deliver (s : State) (m : RxMsg) : State := s.setSes { s.ses with inbox := s.ses.inbox ++ [m] }

/-- The same message: context, kind, epoch, first SEQ and, without a context, the sender. -/
def RxPart.same (a b : RxPart) : Bool :=
  a.msg.ctx == b.msg.ctx && a.msg.kind == b.msg.kind && a.msg.epoch == b.msg.epoch && a.first == b.first
    && a.total == b.total && (a.msg.ctx.isSome || a.msg.peer == b.msg.peer)

/-- A message is complete: datagrams 0 to n - 1 are there and give its bytes. -/
def RxPart.whole (p : RxPart) : Option (List Byte) :=
  let n := p.parts.length
  let body := (List.range n).flatMap (fun i => tabGet [] p.parts i)
  if (List.range n).all (fun i => (tabFind p.parts i).isSome) ∧ body.length = p.total then some body else none

/-- A datagram has passed: its message is complete, or waits for the rest, at most 1,024 at once and 1 ms. -/
def State.reassemble (s : State) (m : RxMsg) (first frag total : Nat) : State :=
  if frag = 0 ∧ m.body.length = total then s.deliver m
  else
    let new : RxPart := { msg := { m with body := [] }, first := first, total := total, parts := [(frag, m.body)],
                          firstAt := s.tnow }
    match s.ses.parts.find? (fun p => p.same new) with
    | some p =>
      let rest := s.ses.parts.erase p
      if s.past (p.firstAt + 1000000) then
        (s.setSes { s.ses with parts := rest ++ [new] }).count R.SES_REASM_DROP_COUNT
      else
        let q := { p with parts := tabIns p.parts frag m.body }
        match q.whole with
        | some body => (s.setSes { s.ses with parts := rest }).deliver { p.msg with body := body, peer := m.peer }
        | none => s.setSes { s.ses with parts := rest ++ [q] }
    | none =>
      if 1024 ≤ s.ses.parts.length then s.count R.SES_REASM_DROP_COUNT
      else s.setSes { s.ses with parts := s.ses.parts ++ [new] }

/-- The oldest partial message is discarded 1 ms after its first datagram, once the edge of expiry has passed (R23). -/
def State.reassemblyTimeout (s : State) : State :=
  match s.ses.parts.find? (fun p => s.past (p.firstAt + 1000000)) with
  | none => s
  | some p => (s.setSes { s.ses with parts := s.ses.parts.erase p }).count R.SES_REASM_DROP_COUNT

/-- SEQ lies within the replay window and has not been seen (check 4). -/
def SesEp.fresh (x : SesEp) (seq : Nat) : Bool :=
  match x.hi with
  | none => true
  | some h => decide (h < seq) || (decide (h ≤ seq + 1023) && !x.seen.testBit (h - seq))

/-- The window moves once the tag has verified. -/
def SesEp.accept (x : SesEp) (seq : Nat) : SesEp :=
  match x.hi with
  | none => { x with hi := some seq, seen := 1 }
  | some h =>
    if h < seq then { x with hi := some seq, seen := (x.seen * 2 ^ min (seq - h) 1024 + 1) % 2 ^ 1024 }
    else { x with seen := x.seen ||| 2 ^ (h - seq) }

/-- A datagram of a cached context, which arrived at DTIME `arr`: the rest of R462. -/
def State.rxCtx (s : State) (i : Nat) (p : Peer) (b : List Byte) (arr : Rat) : State :=
  let s := s.ctxUse i
  let c := s.ctx i
  let kind := fld b 1 1
  let epoch := fld b 2 2
  let seq := fld b 8 6
  let frag := fld b 0x0E 2
  let len := fld b 0x10 4
  let total := fld b 0x14 4
  let m (body : List Byte) : RxMsg := { ctx := some i, kind := kind, epoch := epoch, sid := fld b 4 4, peer := p, body := body, at_ := arr }
  if kind = 0x02 ∨ kind = 0x03 ∨ kind = 0x11 then
    (if c.st = 1 then s.reassemble (m (sliceB b 24 len)) (seq - frag) frag total else s.dgDrop p)
  else
    match c.ep epoch with
    | none => s.dgDrop p
    | some x =>
      if ¬ x.fresh seq then s.next R.SES_REPLAY_COUNT
      else
        let sec := trafficSec x.ms c.rxDir epoch
        let r := gcmDec (aesEnc (sec.take 32)) (dgNonce sec seq) (b.take 24) (sliceB b 24 len) (sliceB b (24 + len) 16)
        if ¬ r.2 then s.next R.SES_TAGFAIL_COUNT
        else
          let s1 := s.setCtx i { c.setEp (x.accept seq) with peer := p, lastRx := s.tnow }
          (s1.reassemble (m r.1) (seq - frag) frag total).seqCheck i

/-- The kinds of R461. -/
def kindKnown (k : Nat) : Bool := (1 ≤ k && k ≤ 0x0D) || k == 0x10 || k == 0x11

/-- Handshake messages carry no tag of their own. -/
def kindClear (k : Nat) : Bool := k == 1 || k == 2 || k == 3 || k == 0x11

/-- The context of the device's own open that a HELLO_D or REJECT of a peer answers. -/
def State.openCtx (s : State) (p : Peer) : Option Nat :=
  (s.ses.ctxs.find? (fun e => e.2.client && e.2.st == 1 && e.2.sid == 0 && e.2.peer.link == p.link && e.2.peer.ip == p.ip
    && e.2.peer.port == p.port)).map (·.1)

/-- A datagram for SES (R462): its form, its context, and the miss queue where that is not cached (R474). -/
def State.rxDatagram (s : State) (p : Peer) (b : List Byte) : State :=
  let kind := fld b 1 1
  let len := fld b 0x10 4
  if b.length < 24 ∨ fld b 0 1 ≠ 1 ∨ ¬ kindKnown kind ∨ b.length ≠ 24 + len + (if kindClear kind then 0 else 16)
      ∨ 1048608 < fld b 0x14 4 then s.dgDrop p
  else if kind = 1 then
    (if fld b 4 4 ≠ 0 then s.dgDrop p
     else s.reassemble { ctx := none, kind := 1, peer := p, body := b.drop 24, at_ := s.now } (fld b 8 6 - fld b 0x0E 2)
      (fld b 0x0E 2) (fld b 0x14 4))
  else
    match (if kind = 2 ∨ kind = 0x11 then s.openCtx p else s.findCtx (fld b 4 4) p.link) with
    | none => s.dgDrop p
    | some i =>
      if s.ses.cache.contains i then s.rxCtx i p b s.now
      else
        let s1 := s.next R.SES_CTX_MISS_COUNT
        if 256 ≤ s.ses.missQ.length ∨ s.cacheFull then (s1.count R.SES_CTX_DROP_COUNT).netDrop p.link
        else s1.setSes { s1.ses with missQ := s1.ses.missQ ++ [(p, b, s1.now)] }

/-- SES has fetched the context of the first waiting datagram, and serves it. -/
def State.contextFetch (s : State) : State :=
  match s.ses.missQ with
  | [] => s
  | (p, b, arr) :: rest =>
    let s1 := s.setSes { s.ses with missQ := rest }
    let kind := fld b 1 1
    match (if kind = 2 ∨ kind = 0x11 then s1.openCtx p else s1.findCtx (fld b 4 4) p.link) with
    | none => s1.dgDrop p
    | some i => if s1.cacheFull ∧ ¬ s1.ses.cache.contains i then (s1.count R.SES_CTX_DROP_COUNT).netDrop p.link else s1.rxCtx i p b arr

/-! ### Frames in and out -/

/-- Bytes that wait in the receive buffer of link `k` (R474): datagrams in the miss queue, requests that NET has not answered,
and messages that have not been processed. -/
def State.rxHeld (s : State) (k : Nat) : Nat :=
  ((s.ses.missQ.filter (fun e => e.1.link == k)).map (fun e => e.2.1.length)).sum
    + ((s.net.reqs.filter (fun r => r.link == k)).map (fun r => r.frame.length)).sum
    + ((s.ses.inbox.filter (fun m => m.peer.link == k)).map (fun m => m.body.length)).sum

/-- NET receives a frame on a link that is up (R456): codewords corrected are counted, and one that cannot be corrected
discards the frame (R455). A frame that the link's 2 MiB cannot take is dropped (R474). -/
def State.frameReceive (s : State) (k corr : Nat) (bad : Bool) (f : List Byte) : State :=
  if ¬ (s.get R.NET_LINK_UP).testBit k then s else
  let s0 := s.idleMark.set (R.NET_FEC_CORR_COUNT k) (s.get (R.NET_FEC_CORR_COUNT k) + corr)
  if bad then s0.count (R.NET_FEC_UNCORR_COUNT k) else
  if 2 ^ 21 < s.rxHeld k + f.length then s0.netDrop k else
  match s0.linkEntry k with
  | none => s0.netDrop k
  | some e =>
    let ok := s0.next (R.NET_RX_FRAMES_COUNT k)
    match s0.filterFrame k e f with
    | .drop => s0.netDrop k
    | .udp p pay => ok.rxDatagram p pay
    | .req kind => ok.setNet { ok.net with reqs := ok.net.reqs ++ [{ link := k, kind := kind, frame := f }] }
    | .neighbour ip mac => ok.neighbour k ip mac
    | .other => ok

/-- Times that NET writes into TIME_Q and TIME_R as their first bit leaves (R482). -/
def TxMsg.stamped (m : TxMsg) (t : Nat) : TxMsg :=
  if m.stamp = 0 then m else { m with body := patchB m.body m.stamp (toLE 8 t), stamp := 0 }

/-- The scheduler sends the next frame of a message. -/
def State.txFrame (s : State) (k : Nat) (m : TxMsg) : State :=
  match s.linkEntry k with
  | none => s.setNet { s.net with tx := s.net.tx.erase m }
  | some e =>
    let r := s.txReady m
    let m1 := r.1.stamped s.nowNs
    let n := if m.raw.isEmpty then dgCount m1.frag m.body.length else 1
    let frame := if m.raw.isEmpty then udpFrame e m1.peer (s.get R.NET_UDP_PORT) (m1.datagram m1.frag m.done) else m.raw
    let tx := if m.done + 1 < n then s.net.tx.map (fun x => if x = m then { m1 with done := m.done + 1 } else x)
              else s.net.tx.erase m
    (r.2.setNet { r.2.net with tx := tx, sent := tabIns s.net.sent k (s.now, frame) }).next (R.NET_TX_FRAMES_COUNT k)

/-- A link's MAC sends frames: main power is on, the link is configured, and its SerDes runs (R107). A MAC whose
link is down sends into its physical layer, which discards the frame (R193). -/
def State.linkSends (s : State) (k : Nat) : Bool :=
  s.pwr.main == .on && s.get R.PWR_STATE_DEV != 3 && !s.linksDark && (s.linkEntry k).isSome

/-- MESSAGE_TX (R475). The first frame of a completion leaves by COMPLETION_TX, which records T_TX (R193). -/
def State.messageTx (s : State) (k : Nat) : State :=
  if ¬ s.linkSends k then s else
  match s.txNext k with
  | some m =>
    if m.job.isSome ∧ m.done = 0 then s
    else
      let s1 := s.txFrame k m
      match (if m.raw.isEmpty then s1.findCtx m.sid k else none) with
      | some i => s1.seqCheck i
      | none => s1
  | none => s

/-! ### Messages of a session -/

/-- Take the oldest received message of a kind that a test picks. -/
def State.takeMsg (s : State) (p : RxMsg → Bool) : Option (RxMsg × State) :=
  match s.ses.inbox.find? p with
  | none => none
  | some m => some (m, s.setSes { s.ses with inbox := s.ses.inbox.erase m })

/-- Do something with the oldest message of a kind in a session. -/
def State.onMsg (s : State) (kind : Nat) (f : State → RxMsg → Nat → State) : State :=
  match s.takeMsg (fun m => m.kind == kind) with
  | some (m, s1) => (match m.ctx with | some i => f s1 m i | none => s1)
  | none => s

/-- CLOSE from the peer (R470): none is sent in reply. -/
def State.rxClose (s : State) : State := s.onMsg 0x09 (fun s _ i => s.sesClose i none)

/-- PING is answered with PONG. -/
def State.rxPing (s : State) : State := s.onMsg 0x0A (fun s _ i => s.sesSendCur i 0x0B 4 [])

/-- PONG: its datagram has already kept the session from idling. -/
def State.rxPong (s : State) : State := s.onMsg 0x0B (fun s _ _ => s)

/-- The answer to a QUERY (R471): in flight, in the history, or not found. -/
def State.queryReply (s : State) (i n : Nat) : List Byte :=
  let c := s.ctx i
  match s.jsc.jobs.find? (fun j => j.session == c.sid && j.jobnum == n) with
  | some j => toLE 4 n ++ [1, 0, 0, 0] ++ toLE 8 (if j.cls = 0 then j.promise else 0) ++ zeros 32
  | none =>
    match c.hist.reverse.find? (fun h => fld h 0 4 == n) with
    | some h => toLE 4 n ++ [2, 0, 0, 0] ++ zeros 8 ++ h
    | none => toLE 4 n ++ [0, 0, 0, 0] ++ zeros 8 ++ zeros 32

/-- QUERY (R471). -/
def State.rxQuery (s : State) : State :=
  s.onMsg 0x0C (fun s m i => s.sesSendCur i 0x0D 4 (s.queryReply i (fld m.body 0 4)))

/-- REKEY_REQ: the client asks for a rekey (R468). -/
def State.rxRekeyReq (s : State) : State :=
  s.onMsg 0x07 (fun s _ i =>
    let c := s.ctx i
    if c.client ∨ c.rekeySent ∨ c.want ≠ .none then s else (s.setCtx i { c with rekeyAsked := true }).rekeyStart i)

/-- EPOCH_DONE on a session the device opened: the old receive keys are destroyed. -/
def State.rxEpochDone (s : State) : State :=
  s.onMsg 0x08 (fun s _ i =>
    let c := s.ctx i
    if c.client then s.setCtx i { c with eps := c.eps.take 1, drained := true } else s)

/-- No datagram has passed for IDLE_MS: the session closes with WL_IDLE (R470). -/
def State.sessionIdle (s : State) (i : Nat) : State :=
  let c := s.ctx i
  if c.st = 2 ∧ c.idleMs ≠ 0 ∧ s.past (c.lastRx + (c.idleMs : Rat) * 1000000) then s.sesClose i (some 0x0205) else s

/-! ### The keep's rings (R476) -/

/-- Transfers of SES for dome 0. -/
def State.sesX (s : State) : Xfer := { agent := 0x2A2, dom := 0, epoch := s.get R.ART_EPOCH_CURRENT }

/-- A federation session: one that the FED opened, or a member's. -/
def State.fedSes (s : State) (i : Nat) : Bool :=
  (s.ctx i).fed || s.fed.tower == some i || s.fed.members.any (fun e => e.1 == i)

/-- APP messages that the FED takes (R478): of a federation type, on a session of dome 0 that is a federation session, or on a
serving tower where it is a JOIN. -/
def State.fedMsg (s : State) (m : RxMsg) : Bool :=
  match m.ctx with
  | none => false
  | some i =>
    let t := fld m.body 0 1
    m.kind == 0x10 && (s.ctx i).dome == 0 && decide (0x40 ≤ t) && decide (t ≤ 0x47)
      && (s.fedSes i || (s.fedServes && t == 0x40))

/-- An APP message on a session of dome 0 goes to the keep's receive ring, or is dropped where that is full. One of no
federation type on a federation session, which does not use the rings, is dropped. -/
def State.rxApp (s : State) : State :=
  match s.takeMsg (fun m => m.kind == 0x10 && (match m.ctx with | some i => (s.ctx i).dome == 0 | none => false) && !s.fedMsg m) with
  | none => s
  | some (m, s1) =>
    let n := s.get R.SES_KRX_RING_ENTRIES
    let t := s.get R.SES_KRX_IDX_TAIL
    if (match m.ctx with | some i => s.fedSes i | none => false) then s1
    else if n = 0 ∨ (t + 1) % n = s.get R.SES_KRX_IDX_HEAD then s1.count R.SES_CTX_DROP_COUNT
    else
      let a := s.get R.SES_KRX_RING_ADDR * 16 + 16 * t
      let r := s1.rd s.sesX (a + 8) 8
      let s2 := r.2.wr s.sesX (ofLE r.1) m.body
      let s3 := s2.wr s.sesX a (toLE 4 m.sid ++ toLE 4 m.body.length)
      (s3.set R.SES_KRX_IDX_TAIL ((t + 1) % n)).cause R.SES_EVENTS_CAUSE 272 276

/-- Send the entries of the keep's transmit ring from HEAD on, up to the TAIL written (`k` bounds them). -/
def State.keepSend (s : State) : Nat → State
  | 0 => s
  | k + 1 =>
    let h := s.get R.SES_KTX_IDX_HEAD
    let n := s.get R.SES_KTX_RING_ENTRIES
    if n = 0 ∨ h = s.get R.SES_KTX_IDX_TAIL then s else
    let a := s.get R.SES_KTX_RING_ADDR * 16 + 16 * h
    s.afterBank s.sesX a 16 (.keepTx (s.get R.SES_KTX_IDX_TAIL)) fun s =>
    let r := s.rd s.sesX a 16
    s.afterBank s.sesX (fld r.1 8 8) (fld r.1 4 4) (.keepTx (s.get R.SES_KTX_IDX_TAIL)) fun s =>
    let s1 := r.2.set R.SES_KTX_IDX_HEAD ((h + 1) % n)
    let sid := fld r.1 0 4
    let len := fld r.1 4 4
    let s2 := match s.ses.ctxs.find? (fun e => e.2.st == 2 && e.2.dome == 0 && e.2.sid == sid && !s.fedSes e.1) with
      | some (i, _) =>
        if len ≤ 2 ^ 20 then (let d := s1.rd s.sesX (fld r.1 8 8) len; (d.2.sesSendCur i 0x10 4 d.1).seqCheck i) else s1
      | none => s1
    s2.keepSend k

/-- KEEP_TX: a write of SES_KTX_IDX.TAIL. -/
def State.keepTx (s : State) (tail : Nat) : State :=
  (s.set R.SES_KTX_IDX_TAIL tail).keepSend (s.get R.SES_KTX_RING_ENTRIES)

end Sys2Proof.Machine
end

