-- ==== Sys2Proof/Machine/X509.lean ====
section
/-!
DEFINITION. Sys2Proof/Machine/X509.lean: the certificate chains of Wyward link (spec/15_network_federation.md R466), as
RFC 5280 encodes them.
-/

namespace Sys2Proof.Machine

/-- An elliptic-curve public key of a certificate: the curve and the point. -/
structure CertKey where
  curve : Curve
  point : Nat × Nat

/-- What R466 looks at in one certificate. -/
structure Cert where
  /-- The bytes that the signature covers. -/
  tbs : List Byte
  sigOid : List Byte
  sig : List Byte
  spki : List Byte
  key : CertKey
  ca : Bool
  digSig : Bool
  unknownCritical : Bool

/-- One DER element with its header, and what follows. -/
def derRaw (bs : List Byte) : Option (List Byte × List Byte) :=
  (derTake bs).map (fun r => (bs.take (bs.length - r.2.2.length), r.2.2))

/-- The key of a SubjectPublicKeyInfo on P-256 or P-384. -/
def spkiKey (spki : List Byte) : Option CertKey :=
  match derSeq spki with
  | some [(0x30, alg), (0x03, bits)] =>
    match derList 3 alg with
    | some [(0x06, oid), (0x06, crv)] =>
      if oid ≠ [0x2A, 0x86, 0x48, 0xCE, 0x3D, 0x02, 0x01] then none
      else
        let c := if crv = curveOid 1 then some curveP256 else if crv = curveOid 2 then some curveP384 else none
        c.bind (fun c => (c.point (bits.drop 1)).map (fun p => { curve := c, point := p }))
    | _ => none
  | _ => none

/-- One extension: its OID, whether it is critical, and its value. -/
def certExt (e : Nat × List Byte) : Option (List Byte × Bool × List Byte) :=
  match e.1, derList 3 e.2 with
  | 0x30, some [(0x06, oid), (0x04, v)] => some (oid, false, v)
  | 0x30, some [(0x06, oid), (0x01, b), (0x04, v)] => some (oid, b != [0], v)
  | _, _ => none

/-- The extensions of a certificate's last fields. -/
def certExts (fields : List (Nat × List Byte)) : List (List Byte × Bool × List Byte) :=
  match fields.find? (fun e => e.1 == 0xA3) with
  | some (_, c) =>
    (match derTake c with
     | some (0x30, l, _) => ((derList l.length l).getD []).filterMap certExt
     | _ => [])
  | none => []

/-- basicConstraints, keyUsage (RFC 5280). -/
def oidBasic : List Byte := [0x55, 0x1D, 0x13]
/-- The OID of keyUsage. -/
def oidUsage : List Byte := [0x55, 0x1D, 0x0F]

/-- A version 3 certificate with an elliptic-curve key. -/
def certOf (der : List Byte) : Option Cert := do
  let (t, c, rest) ← derTake der
  if t ≠ 0x30 ∨ rest ≠ [] then none else
  let (tbs, r1) ← derRaw c
  let (_, alg, r2) ← derTake r1
  let (_, sig, _) ← derTake r2
  let (_, tbsC, _) ← derTake tbs
  let fields ← derList 12 tbsC
  let oid ← (← derList 3 alg).head?
  match fields with
  | (0xA0, ver) :: (0x02, _) :: (0x30, _) :: (0x30, _) :: (0x30, _) :: (0x30, _) :: (0x30, _) :: more =>
    let spki ← certSpki 6 tbsC
    let key ← spkiKey spki
    let exts := certExts more
    if ver ≠ [0x02, 0x01, 0x02] then none else
    some { tbs := tbs, sigOid := oid.2, sig := sig.drop 1, spki := spki, key := key
           ca := exts.any (fun e => e.1 == oidBasic && (match derSeq e.2.2 with
             | some ((0x01, b) :: _) => b != [0]
             | _ => false))
           digSig := exts.any (fun e => e.1 == oidUsage && (match derTake e.2.2 with
             | some (0x03, b, _) => (b.getD 1 0).getLsbD 7
             | _ => false))
           unknownCritical := exts.any (fun e => e.2.1 && e.1 != oidBasic && e.1 != oidUsage) }
  | _ => none
where
  /-- The SubjectPublicKeyInfo with its header: the element after `n` others. -/
  certSpki : Nat → List Byte → Option (List Byte)
    | 0, bs => (derRaw bs).map (·.1)
    | n + 1, bs => (derTake bs).bind (fun r => certSpki n r.2.2)

/-- A certificate's signature verifies under a key: ECDSA P-256 with SHA-256 or P-384 with SHA-384. -/
def certSigned (c : Cert) (k : CertKey) : Bool :=
  let alg := if k.curve.f = 32 then 1 else 2
  let oid : List Byte := [0x2A, 0x86, 0x48, 0xCE, 0x3D, 0x04, 0x03, if alg = 1 then 0x02 else 0x03]
  c.sigOid == oid && (match derSeq c.sig with
    | some [(0x02, r), (0x02, s)] => ecdsaVerify k.curve (some k.point) (sha alg c.tbs) (ofBE r) (ofBE s)
    | _ => false)

/-- The certificates of a chain: 1 to 3, each of at most 1,024 bytes. -/
def chainCerts : Nat → List Byte → Option (List Cert)
  | 0, bs => if bs.isEmpty then some [] else none
  | n + 1, bs =>
    if bs.isEmpty then some [] else
    match derRaw bs with
    | none => none
    | some (c, rest) =>
      if 1024 < c.length then none else
      match certOf c, chainCerts n rest with
      | some x, some xs => some (x :: xs)
      | _, _ => none

/-- Each certificate is signed by the next one, which is a CA. -/
def chainLinked : List Cert → Bool
  | a :: b :: t => certSigned a b.key && b.ca && chainLinked (b :: t)
  | _ => true

/-- A chain accepted under R466: the end-entity certificate, and SHA-384 of the key of the last one. `own`: ANCHOR names
the end-entity's own key. -/
def chainAccept (chain anchor : List Byte) (own : Bool) : Option (Cert × List Byte) :=
  match chainCerts 3 chain with
  | some (e :: t) =>
    let last := (e :: t).getLastD e
    let hash := sha 2 (if own then e.spki else last.spki)
    if chainLinked (e :: t) ∧ hash = anchor ∧ e.digSig ∧ ¬ (e :: t).any (·.unknownCritical) then
      some (e, sha 2 last.spki)
    else none
  | _ => none

end Sys2Proof.Machine
end

