-- ==== Sys2Proof/Machine/SesHs.lean ====
section
/-!
DEFINITION. Sys2Proof/Machine/SesHs.lean: Wyward link handshakes and rekeys (spec/15_network_federation.md R463 to R469,
R476): commands HELLO_C, HELLO_D, FINISH_C, READY, REJECT, REKEY, REKEY_ACK, HANDSHAKE_TIMEOUT, REKEY_TIMEOUT and
KEEP_OPEN, and what SES sends once the DRBG has served its random bytes.
-/

namespace Sys2Proof.Machine

/-! ### Parts of a handshake (R465) -/

/-- The curve of a group. -/
def groupCurve (g : Nat) : Curve := if g = 1 then curveP256 else curveP384

/-- An ephemeral private key from random bytes with 64 bits to spare. -/
def scalarOf (c : Curve) (bs : List Byte) : Nat := 1 + ofBE bs % (c.n - 1)

/-- Z: the shared secret with a peer's ephemeral key; none where that is no point of the curve. -/
def ecdhZ (c : Curve) (d : Nat) (epk : List Byte) : Option (List Byte) :=
  (c.point epk).bind (fun p => (c.mul d (some p)).map (fun q => toBE c.f q.1))

/-- The descriptor of a public-key command that a unit submits: OP and CURVE; its operands come with it. -/
def unitDesc (op curve : Nat) : List Byte := [BitVec.ofNat 8 op, BitVec.ofNat 8 curve] ++ zeros 62

/-- SES submits a BEST command of dome 0 to the PKE pool for context `i` (R465): AGREE or VERIFY, with its operands. -/
def State.sesPk (s : State) (i op curve : Nat) (ins : List (List Byte)) : State :=
  { s with cmds := s.cmds ++ [{ pool := 2, job := sesJob i, ticket := 0, core := 1008, tier := 1, dome := 0
                                artEpoch := s.get R.ART_EPOCH_CURRENT, desc := unitDesc op curve, ins := ins }] }

/-- SES asks for Z of the private key `d` and a peer's ephemeral key. -/
def State.sesAgree (s : State) (i g d : Nat) (epk : List Byte) : State :=
  s.sesPk i 0x13 g [[], toBE (groupCurve g).f d, epk, []]

/-- The handshake key and IV of a direction. -/
def hsSec (hs : List Byte) (x : String) : List Byte := hkdfExpand hs (ascii "wl hs " ++ ascii x) 44
/-- The finished key of a direction. -/
def finKey (hs : List Byte) (x : String) : List Byte := hkdfExpand hs (ascii "wl fin " ++ ascii x) 48

/-- The digest that SIG of a direction signs, over a transcript. -/
def sigDigest (x : String) (trans : List Byte) : List Byte := sha 2 (ascii "wl sig " ++ ascii x ++ sha 2 trans)

/-- A signature by the device identity key (R116), made by the root-key unit. -/
def identitySign (dig : List Byte) : List Byte :=
  match ecdsaSign curveP384 2 Config.identityKey dig [] with
  | some (r, t) => toBE 48 r ++ toBE 48 t
  | none => zeros 96

/-- SES asks whether a signature verifies under the key of a certificate. -/
def State.sesVerify (s : State) (i : Nat) (k : CertKey) (dig sig : List Byte) : State :=
  s.sesPk i 0x12 (if k.curve.f = 32 then 1 else 2)
    [dig, [], 0x04#8 :: (toBE k.curve.f k.point.1 ++ toBE k.curve.f k.point.2), sig]

/-- The chain part of a protected message: CHAIN_LEN, 2 zero bytes and the chain. -/
def chainPart (chain : List Byte) : List Byte := toLE 2 chain.length ++ [0, 0] ++ chain

/-- A protected part under the handshake keys of a direction, with the clear part as additional data. -/
def hsSeal (hs : List Byte) (x : String) (clear prot : List Byte) : List Byte :=
  let k := hsSec hs x
  let r := gcmEnc (aesEnc (k.take 32)) (sliceB k 32 12) clear prot
  r.1 ++ r.2

/-- Open a protected part; none where the tag fails. -/
def hsOpen (hs : List Byte) (x : String) (clear ct : List Byte) : Option (List Byte) :=
  let k := hsSec hs x
  if ct.length < 16 then none else
  let r := gcmDec (aesEnc (k.take 32)) (sliceB k 32 12) clear (ct.take (ct.length - 16)) (ct.drop (ct.length - 16))
  if r.2 then some r.1 else none

/-- A protected message taken apart: chain, signature and finish. -/
def protParts (p : List Byte) : List Byte × List Byte × List Byte :=
  let n := fld p 0 2
  let rest := p.drop (4 + n)
  (sliceB p 4 n, rest.take (rest.length - 48), rest.drop (rest.length - 48))

/-- MS (R465). -/
def msOf (hs trans : List Byte) : List Byte := hkdfExpand hs (ascii "wl ms" ++ sha 2 trans) 48

/-- A handshake message, or a REJECT: without traffic protection, in epoch 0. -/
def State.sendClear (s : State) (p : Peer) (sid kind : Nat) (body : List Byte) : State :=
  s.send { peer := p, prio := 2, sid := sid, kind := kind, body := body }

/-- A REJECT with a STATUS (R467): vector 274. -/
def State.reject (s : State) (p : Peer) (code : Nat) : State :=
  (s.sendClear p 0 0x11 (toLE 2 code ++ [0, 0])).cause R.SES_EVENTS_CAUSE 272 274

/-! ### HELLO_C (R467) -/

/-- A session class of a dome's content by its CLASS_ID (R464). -/
def Content.cls (c : Content) (id : Nat) : Option (List Byte) := c.classes.find? (fun e => fld e 0 2 == id)

/-- Sessions that count against a class of a dome: from the edge on which HELLO_D is sent (R467). -/
def State.classUse (s : State) (d id : Nat) : Nat :=
  (s.ses.ctxs.filter (fun e => e.2.counted && e.2.dome == d && e.2.cls == id && !e.2.client)).length
/-- Sessions that count against a dome. -/
def State.domeUse (s : State) (d : Nat) : Nat := (s.ses.ctxs.filter (fun e => e.2.counted && e.2.dome == d)).length

/-- The most contexts of a dome (ALLOT SESSIONS, R140). -/
def State.domeSessions (s : State) (d : Nat) : Nat := match (s.dome d).allot with | some a => a.sessions | none => 0

/-- The checks of R467 on a client hello: a code, or the class it opens. -/
def State.helloCheck (s : State) (m : RxMsg) : Nat ⊕ List Byte :=
  let g := fld m.body 0 1
  let d := fld m.body 4 1
  let st := s.get (R.STB_DOM_STATE_STATE d)
  if g ≠ 1 ∧ g ≠ 2 then .inl 0x020C
  else if st = 4 ∧ d < 64 then .inl 0x020D
  else if 64 ≤ d ∨ (st ≠ 2 ∧ st ≠ 3) then .inl 0x0202
  else
    match (s.dome d).content.bind (fun c => c.cls (fld m.body 2 2)) with
    | none => .inl 0x0202
    | some e =>
      if ¬ (fld e 4 2).testBit m.peer.link then .inl 0x0202
      else if bitOf (fld e 2 1) 1 ∧ g ≠ 2 then .inl 0x020C
      else if fld e 8 4 ≤ s.classUse d (fld e 0 2) ∨ s.domeSessions d ≤ s.domeUse d ∨ s.freeCtx = none then .inl 0x0203
      else .inr e

/-- A client hello: dropped without a context area or a free handshake, rejected, or opening a handshake, whose HELLO_D
waits for random bytes. -/
def State.helloC (s : State) : State :=
  match s.takeMsg (fun m => m.kind == 1) with
  | none => s
  | some (m, s1) =>
    if ¬ s.is R.SES_CTX_VALID then s1
    else if 256 ≤ s.get R.SES_STATUS_HS then s1.count R.SES_HS_DROP_COUNT
    else if m.body.length < 40 then s1
    else
      match s1.helloCheck m with
      | .inl code => s1.reject m.peer code
      | .inr e =>
        let g := fld m.body 0 1
        if m.body.length ≠ 41 + 2 * (groupCurve g).f then s1 else
        match s1.freeCtx with
        | none => s1
        | some i =>
          if s1.cacheFull then s1.count R.SES_CTX_DROP_COUNT else
          let gen := (s1.ctx i).gen
          let c : Ses := { st := 1, gen := gen, sid := sidOf i gen, dome := fld m.body 4 1, cls := fld e 0 2, group := g
                           anchor := sliceB e 16 48, ownKey := bitOf (fld e 2 1) 0, p384 := bitOf (fld e 2 1) 1
                           idleMs := fld e 0x0C 4, peer := m.peer, want := .helloD, trans := m.body, began := s.tnow }
          ((s1.ctxNew i c).set R.SES_STATUS_HS (s.get R.SES_STATUS_HS + 1)).sesAsk i g 32

/-- A handshake ends with a code: a REJECT, and the context is free. -/
def State.hsEnd (s : State) (i code : Nat) : State := (s.sesFree i).reject (s.ctx i).peer code

/-- The class or the dome of a session has no room for one more (R467). -/
def State.sesLimit (s : State) (c : Ses) : Bool :=
  decide (s.domeSessions c.dome ≤ s.domeUse c.dome) || (match (s.dome c.dome).content.bind (fun k => k.cls c.cls) with
    | some e => decide (fld e 8 4 ≤ s.classUse c.dome c.cls)
    | none => false)

/-- The random bytes of HELLO_D are there: its RANDOM, and the ephemeral key, whose Z the PKE pool is to compute. -/
def State.beginHelloD (s : State) (i : Nat) (bs : List Byte) : State :=
  let c := s.ctx i
  let d := scalarOf (groupCurve c.group) (bs.drop 32)
  (s.setCtx i { c with want := .zD (bs.take 32), priv := d }).sesAgree i c.group d (c.trans.drop 40)

/-- HELLO_D is sent once Z is there; from that edge the session counts against its class and dome. Where these have been
filled meanwhile, the answer is a REJECT. A HELLO_C whose key is no point, or that the pool gives no Z, has no answer (DESIGN
CHOICE, log 31). -/
def State.sendHelloD (s : State) (i : Nat) (rnd : List Byte) (r : Nat × List Byte) : State :=
  let c := s.ctx i
  let crv := groupCurve c.group
  if r.1 ≠ 0 then s.sesFree i
  else if s.sesLimit c then s.hsEnd i 0x0203
  else
    let clear := rnd ++ pubOf crv c.priv
    let hs := hkdfExtract (sliceB c.trans 8 32 ++ rnd) r.2
    let chain := netChain s.net.section_
    let sig := identitySign (sigDigest "d" (c.trans ++ clear ++ chain))
    let t1 := c.trans ++ clear ++ chainPart chain ++ sig
    let prot := chainPart chain ++ sig ++ hmac 2 (finKey hs "d") (sha 2 t1)
    let s1 := s.setCtx i { c with want := .none, hs := hs, trans := c.trans ++ clear ++ prot, counted := true, began := s.tnow }
    (s1.set (R.SES_DOME_OPEN_COUNT c.dome) (s.get (R.SES_DOME_OPEN_COUNT c.dome) + 1)).sendClear c.peer c.sid 0x02
      (clear ++ hsSeal hs "d" clear prot)

/-! ### FINISH_C (R466, R467) -/

/-- A session opens (R490): vector 272. -/
def State.sesOpened (s : State) (i : Nat) (c : Ses) : State :=
  let s1 := s.setCtx i { c with st := 2, want := .none, trans := [], hs := [], priv := 0, lastRx := s.tnow }
  (((s1.set R.SES_STATUS_HS (s.get R.SES_STATUS_HS - 1)).set R.SES_STATUS_OPEN (s.get R.SES_STATUS_OPEN + 1)).next
    R.SES_HANDSHAKES_COUNT).cause R.SES_EVENTS_CAUSE 272 272

/-- The client's finish: its chain is checked, and the PKE pool is to check SIG_C. A protected part whose tag fails is
dropped and counted as check 5 of R462 is. -/
def State.finishC (s : State) : State :=
  s.onMsg 0x03 (fun s m i =>
    let c := s.ctx i
    if c.st ≠ 1 ∨ c.client ∨ c.hs = [] ∨ c.want ≠ .none then s else
    match hsOpen c.hs "c" [] m.body with
    | none => s.next R.SES_TAGFAIL_COUNT
    | some prot =>
      let q := protParts prot
      match chainAccept q.1 c.anchor c.ownKey with
      | none => s.hsEnd i 0x0201
      | some (cert, root) =>
        let t1 := c.trans ++ chainPart q.1
        (s.setCtx i { c with want := .sigC m.peer root (t1 ++ q.2.1) q.2.2 }).sesVerify i cert.key (sigDigest "c" t1) q.2.1)

/-- SIG_C has been checked: with FIN_C right too, READY opens the session; else a REJECT is sent. -/
def State.endFinishC (s : State) (i : Nat) (p : Peer) (root t fin : List Byte) (r : Nat × List Byte) : State :=
  let c := s.ctx i
  if r.1 ≠ 0 ∨ hmac 2 (finKey c.hs "c") (sha 2 t) ≠ fin then s.hsEnd i 0x020B
  else
    (s.sesOpened i { c with eps := [{ ms := msOf c.hs (t ++ fin) }], root := root, peer := p }).sesSendCur i 0x04 2
      (toLE 4 c.sid ++ zeros 4 ++ toLE 8 s.nowNs)

/-- A handshake that the device opened fails with a code. -/
def State.openFail (s : State) (i code : Nat) : State := s.sesFree i code

/-- HANDSHAKE_TIMEOUT (R467): no FINISH_C within 1 s of HELLO_D, or, where the device opens, no end of the handshake within 1 s
of HELLO_C (DESIGN CHOICE, log 31), once the edge of expiry has passed (R23). -/
def State.hsTimeout (s : State) (i : Nat) : State :=
  let c := s.ctx i
  if c.st = 1 ∧ (c.want = .none ∨ (c.client ∧ c.want ≠ .helloC)) ∧ s.past (c.began + 1000000000) then
    (if c.client then s.openFail i 0x0204 else s.hsEnd i 0x0204)
  else s

/-! ### The device opens a session (R476, R479) -/

/-- Start a handshake in the client role: for the keep (`fed` false) or the FED. -/
def State.openTo (s : State) (p : Peer) (group : Nat) (anchor : List Byte) (fed : Bool) : Option (Nat × State) :=
  if 256 ≤ s.get R.SES_STATUS_HS ∨ s.domeSessions 0 ≤ s.domeUse 0 ∨ s.cacheFull then none else
  match s.freeCtx with
  | none => none
  | some i =>
    let c : Ses := { st := 1, gen := (s.ctx i).gen, client := true, fed := fed, group := group, anchor := anchor, peer := p
                     want := .helloC, began := s.tnow }
    some (i, ((s.ctxNew i c).set R.SES_STATUS_HS (s.get R.SES_STATUS_HS + 1)).sesAsk i group 32)

/-- An address of 16 bytes as the version it stands for: IPv4 where it is IPv4-mapped. -/
def unmapped (ip : List Byte) : List Byte :=
  if ip.take 12 = zeros 10 ++ [0xFF, 0xFF] then ip.drop 12 else ip

/-- KEEP_OPEN: SES_KOPEN with GO, ignored while BUSY. -/
def State.keepOpen (s : State) (addr : Nat) : State :=
  if s.is R.SES_KOPEN_STATUS_BUSY then s else
  s.afterBank s.sesX addr 64 (.keepOpen addr) fun s =>
  let r := s.rd s.sesX addr 64
  let q := r.1
  let s1 := ((r.2.set R.SES_KOPEN_STATUS_CODE 0).set R.SES_KOPEN_STATUS_SID 0).set R.SES_KOPEN_STATUS_BUSY 1
  let fail (code : Nat) : State :=
    ((s1.set R.SES_KOPEN_STATUS_BUSY 0).set R.SES_KOPEN_STATUS_CODE code).cause R.SES_EVENTS_CAUSE 272 275
  let g := fld q 20 1
  if g ≠ 1 ∧ g ≠ 2 then fail 0x020C
  else
    match s1.openTo { link := fld q 18 1, ip := unmapped (sliceB q 0 16), port := fld q 16 2 } g
        (netPeer s.net.section_ (fld q 19 1)) false with
    | none => fail 0x0203
    | some (i, s2) => s2.setSes { s2.ses with kopen := some i }

/-- HELLO_C is sent, once its random bytes are there. -/
def State.sendHelloC (s : State) (i : Nat) (bs : List Byte) : State :=
  let c := s.ctx i
  let crv := groupCurve c.group
  let d := scalarOf crv (bs.drop 32)
  let body := [BitVec.ofNat 8 c.group, 0] ++ toLE 2 (Config.openClass c.peer.ip) ++ zeros 4 ++ bs.take 32 ++ pubOf crv d
  (s.setCtx i { c with want := .none, priv := d, trans := body, began := s.tnow }).sendVia
    { peer := c.peer, prio := 2, kind := 0x01, body := body }

/-- HELLO_D of the peer: the PKE pool is to compute Z. -/
def State.helloD (s : State) : State :=
  s.onMsg 0x02 (fun s m i =>
    let c := s.ctx i
    if c.st ≠ 1 ∨ ¬ c.client ∨ c.sid ≠ 0 ∨ c.want ≠ .none then s else
    (s.setCtx i { c with want := .zC m.peer m.sid m.body }).sesAgree i c.group c.priv
      ((m.body.take (33 + 2 * (groupCurve c.group).f)).drop 32))

/-- Z of HELLO_D is there: its chain is checked, and the PKE pool is to check SIG_D. A failure ends the open with WL_PEER. -/
def State.openHelloD (s : State) (i : Nat) (p : Peer) (sid : Nat) (body : List Byte) (r : Nat × List Byte) : State :=
  let c := s.ctx i
  let n := 33 + 2 * (groupCurve c.group).f
  let clear := body.take n
  let hs := hkdfExtract (sliceB c.trans 8 32 ++ clear.take 32) r.2
  if r.1 ≠ 0 then s.openFail i 0x020E else
  match hsOpen hs "d" clear (body.drop n) with
  | none => s.openFail i 0x020E
  | some prot =>
    let q := protParts prot
    match chainAccept q.1 c.anchor false with
    | none => s.openFail i 0x020E
    | some (cert, root) =>
      let t := c.trans ++ clear ++ chainPart q.1 ++ q.2.1
      (s.setCtx i { c with hs := hs, want := .sigD p sid root t q.2.2 }).sesVerify i cert.key
        (sigDigest "d" (c.trans ++ clear ++ q.1)) q.2.1

/-- SIG_D has been checked: with FIN_D right too, FINISH_C goes out. -/
def State.sendFinishC (s : State) (i : Nat) (p : Peer) (sid : Nat) (root t fin : List Byte) (r : Nat × List Byte) : State :=
  let c := s.ctx i
  if r.1 ≠ 0 ∨ hmac 2 (finKey c.hs "d") (sha 2 t) ≠ fin then s.openFail i 0x020E
  else
    let chain := netChain s.net.section_
    let t2 := t ++ fin ++ chainPart chain
    let sig := identitySign (sigDigest "c" t2)
    let finC := hmac 2 (finKey c.hs "c") (sha 2 (t2 ++ sig))
    let c1 := { c with sid := sid, root := root, peer := p, hs := [], trans := [], priv := 0, want := .none
                       eps := [{ ms := msOf c.hs (t2 ++ sig ++ finC) }] }
    (s.setCtx i c1).sendClear p sid 0x03 (hsSeal c.hs "c" [] (chainPart chain ++ sig ++ finC))

/-- READY of the peer opens a session that the device opened: it counts against dome 0 (R476). -/
def State.ready (s : State) : State :=
  s.onMsg 0x04 (fun s _ i =>
    let c := s.ctx i
    if c.st ≠ 1 ∨ ¬ c.client then s else
    let s1 := s.sesOpened i { c with counted := true }
    (s1.set (R.SES_DOME_OPEN_COUNT 0) (s1.get (R.SES_DOME_OPEN_COUNT 0) + 1)).kopenEnd i 0 c.sid)

/-- A REJECT of the peer ends the open with WL_PEER. -/
def State.rxReject (s : State) : State :=
  s.onMsg 0x11 (fun s _ i =>
    let c := s.ctx i
    if c.st = 1 ∧ c.client then s.openFail i 0x020E else s)

/-! ### Rekeys (R469) -/

/-- The keys of the next epoch: MS extracted from the old one and Z'. -/
def Ses.advance (c : Ses) (z : List Byte) : Ses :=
  let x := c.cur
  { c with eps := [{ epoch := (x.epoch + 1) % 65536, ms := hkdfExtract x.ms z }, x], drained := false, want := .none
           rekeySent := false, priv := 0 }

/-- REKEY is sent, once its random bytes are there. -/
def State.sendRekey (s : State) (i : Nat) (bs : List Byte) : State :=
  let c := s.ctx i
  let crv := groupCurve c.group
  let d := scalarOf crv bs
  (s.setCtx i { c with want := .none, rekeySent := true, priv := d, began := s.tnow }).sesSendCur i 0x05 2
    ([BitVec.ofNat 8 c.group, 0, 0, 0] ++ pubOf crv d)

/-- REKEY_ACK: the switch edge of the session's key epoch. The new MS is there on that edge, so that Z' is computed at once
(DESIGN CHOICE, log 31). -/
def State.rekeyAck (s : State) : State :=
  s.onMsg 0x06 (fun s m i =>
    let c := s.ctx i
    if c.client ∨ ¬ c.rekeySent ∨ m.epoch ≠ c.cur.epoch then s else
    match ecdhZ (groupCurve c.group) c.priv m.body with
    | none => s
    | some z => s.setCtx i (c.advance z))

/-- No REKEY_ACK within 1 s of REKEY, once the edge of expiry has passed (R23). -/
def State.rekeyTimeout (s : State) (i : Nat) : State :=
  let c := s.ctx i
  if c.rekeySent ∧ s.past (c.began + 1000000000) then s.sesClose i (some 0x020A) else s

/-- REKEY of the peer, on a session the device opened: REKEY_ACK waits for random bytes. -/
def State.rxRekey (s : State) : State :=
  s.onMsg 0x05 (fun s m i =>
    let c := s.ctx i
    if c.st ≠ 2 ∨ ¬ c.client ∨ c.want ≠ .none ∨ ¬ c.drained then s
    else (s.setCtx i { c with want := .rekeyAck m.body }).sesAsk i (fld m.body 0 1) 0)

/-- REKEY_ACK is sent under E, and everything after it under E + 1. -/
def State.sendRekeyAck (s : State) (i : Nat) (peer bs : List Byte) : State :=
  let c := s.ctx i
  let crv := groupCurve (fld peer 0 1)
  let d := scalarOf crv bs
  match ecdhZ crv d (peer.drop 4) with
  | none => s.setCtx i { c with want := .none }
  | some z =>
    let s1 := s.sesSendCur i 0x06 2 (pubOf crv d)
    s1.setCtx i ((s1.ctx i).advance z)

/-! ### Once random bytes have been served (R423), or a public-key command has ended (R465) -/

/-- Go on with the step of a context that waits for random bytes. -/
def State.sesStep (s : State) (i : Nat) : State :=
  match tabFind s.ent.ses i with
  | none => s
  | some bs =>
    let s1 : State := { s with ent := { s.ent with ses := tabDel s.ent.ses i } }
    match (s.ctx i).want with
    | .helloD => s1.beginHelloD i bs
    | .helloC => s1.sendHelloC i bs
    | .rekey => s1.sendRekey i bs
    | .rekeyAck peer => s1.sendRekeyAck i peer bs
    | _ => s1

/-- Go on with the step of a context that waits for a public-key command. -/
def State.sesPkStep (s : State) (i : Nat) : State :=
  match tabFind s.ses.pk i with
  | none => s
  | some r =>
    let s1 := s.setSes { s.ses with pk := tabDel s.ses.pk i }
    match (s.ctx i).want with
    | .zD rnd => s1.sendHelloD i rnd r
    | .sigC p root t fin => s1.endFinishC i p root t fin r
    | .zC p sid body => s1.openHelloD i p sid body r
    | .sigD p sid root t fin => s1.sendFinishC i p sid root t fin r
    | _ => s1

/-- SES goes on with every step whose random bytes are there. -/
def State.sesServed (s : State) : State := (s.ent.ses.map (·.1)).foldl State.sesStep s

/-- SES goes on with every step whose public-key command has ended. -/
def State.sesPkServed (s : State) : State := (s.ses.pk.map (·.1)).foldl State.sesPkStep s

/-! ### Responses of other units -/

/-- The SESSIONS response (R437, R473): every context is FREE without a message, and a new context key is drawn; where the DRBG
withholds bytes (R424), the draw waits, with no key meanwhile. -/
def State.sesKill (s : State) : State :=
  let s1 := s.sesCloseAll (fun _ => true) none
  let s2 := s1.setSes { s1.ses with missQ := [], parts := [], inbox := [], ctxKey := [] }
  (s2.askKey .ctxKey).keyServeAll

/-- Sessions whose class is absent from a dome's new structure epoch close on the drain edge (R162, R470). -/
def State.sesClassGone (s : State) (d : Nat) : State :=
  s.sesCloseAll (fun c => !c.client && c.dome == d && (match (s.dome d).content with
    | some k => (k.cls c.cls).isNone
    | none => true)) (some 0x0207)

end Sys2Proof.Machine
end

