-- ==== Sys2Proof/Machine/Cer.lean ====
section
/-!
DEFINITION. Sys2Proof/Machine/Cer.lean: the custodian ceremony and the storage root key (spec/17_cards.md R522 to R526,
spec/04_boot_lifecycle_management.md R116): commands ICC_COMPONENT, CER_OPEN, CER_FINISH, CER_CLOSE, CER_IMPORT and
CEREMONY_TIMEOUT.
-/

namespace Sys2Proof.Machine

/-! ### The storage root key (R116, R353) -/

/-- The storage root key that a bedrock share gives. -/
def rootKey (share : List Byte) : List Byte := xorB (fitBytes 32 share) (fitBytes 32 Config.pufShare)

/-- The 32-bit check value of a storage root key. -/
def rootCheck (share : List Byte) : Nat := Config.srkCheck (rootKey share) % 2 ^ 32

/-- The storage root key becomes valid: the KEY unit derives the table key (R353). -/
def State.rootValid (s : State) (share : List Byte) : State :=
  ((s.setKey { s.key with tkey := fitBytes 32 (Config.tableKey (rootKey share)) }).set R.KEY_STATUS_TKEY 1).set
    R.RST_ROOT_SRK_VALID 1

/-! ### Status -/

/-- STATE of the ceremony. -/
def State.cerState (s : State) : Nat := s.get R.ICC_CER_STATUS_STATE

/-- A ceremony command ends with a code: vector 323 (R541). -/
def State.cerCode (s : State) (code : Nat) : State := (s.set R.ICC_CER_STATUS_CODE code).iccEvent 323

/-- The accumulator and the import key are zeroed, and the ceremony returns to IDLE (R526); its command is abandoned. -/
def State.cerClear (s : State) : State :=
  ({ s with cer := {}, cmds := s.cmds.filter (fun (c : Cmd) => c.job != cerJob) }.set R.ICC_CER_STATUS_STATE 0).set R.ICC_CER_STATUS_GOT 0

/-- A COMPONENT or IMPORT command is registered: the 600 s of R526 begin again. -/
def State.cerTouch (s : State) : State := { s with cer := { s.cer with last := s.tbase } }

/-! ### OPEN, CLOSE, timeout (R522, R526) -/

/-- OPEN with a TARGET (1 SHARE, 2 IMPORT), N and DOME. -/
def State.cerOpen (s : State) (target n dome : Nat) : State :=
  let lc := s.get R.RST_LC_STATE
  let ok : Bool := s.cerState == 0 && decide (2 ≤ n) && decide (n ≤ 8)
    && (target == 1 && !s.is R.RST_ROOT_SRK_VALID && (lc == 1 || lc == 2)
        || target == 2 && lc != 3 && decide (1 ≤ dome) && decide (dome ≤ 63))
  if ok then
    (({ s with cer := { acc := zeros 32, target := target, n := n, dome := dome, last := s.tbase } }.set
      R.ICC_CER_STATUS_STATE 1).set R.ICC_CER_STATUS_GOT 0).cerCode 0
  else s.cerCode 0x0710

/-- CLOSE. -/
def State.cerClose (s : State) : State := s.cerClear.cerCode 0

/-- 600 s have passed since the last COMPONENT or IMPORT (since OPEN where there was none), and the edge of expiry (R23). -/
def State.cerTimeout (s : State) : State :=
  if s.cerState ≠ 0 ∧ s.pastBase (s.cer.last + 600000000000) then s.cerClear else s

/-! ### Components (R523) -/

/-- A COMPONENT command runs in a slot. -/
def State.cerRuns (s : State) (n : Nat) : Bool := (s.iccSlot n).cmd == 4

/-- Component `i` has been taken. -/
def State.cerGot (s : State) (i : Nat) : Bool := (s.get R.ICC_CER_STATUS_GOT).testBit i

/-- COMPONENT: the combiner asks for 32 random bytes. -/
def State.iccComponent (s : State) (n i : Nat) : State :=
  let code : Option Nat :=
    if ¬ s.is (R.ICC_STATUS_PRESENT n) then some 0x0701
    else if s.is (R.ICC_STATUS_BUSY n) ∨ s.cerRuns (1 - n) then some 0x0708
    else if s.cerState ≠ 1 then some 0x0710
    else if 7 < i ∨ s.cerGot i then some 0x0711 else none
  let s1 := s.cerTouch
  match code with
  | some c => s1.iccCode n 4 c 0
  | none =>
    (({ s1 with ent := { s1.ent with reqs := s1.ent.reqs ++ [EntReq.comb n] }, cer := { s1.cer with slot := n } }.iccBusy n 4).updIcc n
      (fun k => { k with phase := .random, comp := i }))

/-- The random bytes of a COMPONENT command arrive: the ephemeral key pair, and the command APDU. -/
def State.iccRandom (s : State) (n : Nat) : State :=
  let k := s.iccSlot n
  match k.phase, tabFind s.ent.cards n with
  | .random, some bs =>
    let d := scalarOf curveP256 bs
    (({ s with ent := { s.ent with cards := tabDel s.ent.cards n } }).setIcc n { k with eph := d }).iccApdu n
      ([0x80, 0x3C, BitVec.ofNat 8 k.comp, 0x00, 0x41] ++ pubOf curveP256 d ++ [0x00])
  | _, _ => s

/-- HKDF with SHA-256 (RFC 5869), empty salt, up to 64 bytes. -/
def hkdf256 (ikm info : List Byte) (n : Nat) : List Byte :=
  let prk := hmac 1 (zeros 32) ikm
  let t1 := hmac 1 prk (info ++ [1])
  (t1 ++ hmac 1 prk (t1 ++ info ++ [2])).take n

/-- The component in a response, where it has the right form, its point lies on the curve and its tag verifies. -/
def component (eph i : Nat) (resp : List Byte) : Option (List Byte) :=
  if resp.length = 115 ∧ resp.drop 113 = [0x90, 0x00] then
    match ecdhZ curveP256 eph (resp.take 65) with
    | none => none
    | some z =>
      let km := hkdf256 z (ascii "cuermar comp" ++ [BitVec.ofNat 8 i]) 44
      let p := gcmDec (aesEnc (km.take 32)) (km.drop 32) (pubOf curveP256 eph ++ resp.take 65) (sliceB resp 65 32)
        (sliceB resp 97 16)
      if p.2 then some p.1 else none
  else none

/-- The response to a COMPONENT command: SW1 and SW2 are written, and the component is XORed into the accumulator. -/
def State.componentResp (s : State) (n : Nat) (resp : List Byte) : State :=
  let k := s.iccSlot n
  let sw := resp.drop (resp.length - 2)
  let s1 := s.wr (s.iccX n) (s.get (R.ICC_BUF_ADDR n) * 512 + 0x100) sw
  match component k.eph k.comp resp with
  | none => s1.iccEnd n 0x0711 sw.length
  | some x =>
    if s.cerState ≠ 1 ∨ s.cerGot k.comp then s1.iccEnd n 0x0711 sw.length
    else
      (({ s1 with cer := { s1.cer with acc := xorB s1.cer.acc x } }).set R.ICC_CER_STATUS_GOT
        (s1.get R.ICC_CER_STATUS_GOT + 2 ^ k.comp)).iccEnd n 0 sw.length

/-- ICC_CHARACTER_RECEIVE in slot `n`. -/
def State.iccCharacter (s : State) (n : Nat) (b : Byte) (kind : Nat) : State := s.iccChar n State.componentResp b kind

/-! ### FINISH (R524) -/

/-- FINISH: the KCV of the accumulator, then the share or the import key. -/
def State.cerFinish (s : State) : State :=
  if s.cerState ≠ 1 ∨ (setBits 8 (s.get R.ICC_CER_STATUS_GOT)).length ≠ s.cer.n then s.cerCode 0x0710
  else if ofLE (kcv 3 s.cer.acc) ≠ s.get R.ICC_CER_KCV_KCV then s.cerClear.cerCode 0x0712
  else if s.cer.target = 2 then
    ({ s with cer := { s.cer with acc := [], importKey := s.cer.acc } }.set R.ICC_CER_STATUS_STATE 2).cerCode 0
  else
    let share := s.cer.acc
    match s.flc.srk with
    | some v =>
      if rootCheck share = v then ({ s.cerClear with pwr := { s.pwr with share := share } }.rootValid share).cerCode 0
      else s.cerClear.cerCode 0x0713
    | none =>
      (({ s.cerClear with pwr := { s.pwr with share := share } }.infoAsk (.srk (rootCheck share))).rootValid share).cerCode 0

/-! ### IMPORT (R525) -/

/-- A key block holds a private key: its usage is one of R388. -/
def isPrivateBlock (blk : List Byte) : Bool := (importUsage (sliceB blk 5 2)).isSome

/-- The key that wraps the PKO of an imported private key (R525): the code of the check of R383 that it fails, and its bytes. -/
def State.cerWrap (s : State) : Nat × List Byte × State :=
  let k := s.keyRead s.cer.dome (s.get R.ICC_CER_WRAP_INDEX)
  match k.1 with
  | none => (0x0403, [], k.2)
  | some m => (if m.alg ≠ 3 then 0x0404 else if ¬ m.usage.testBit 8 then 0x0405 else 0, m.key, k.2)

/-- The ceremony submits a BEST command of its dome (R525), with its operands. -/
def State.cerSubmit (s : State) (pool op : Nat) (ins : List (List Byte)) : State :=
  { s with cmds := s.cmds ++ [{ pool := pool, job := cerJob, ticket := 0, core := 1008, tier := 1, dome := s.cer.dome
                                artEpoch := s.get R.ART_EPOCH_CURRENT, epoch := s.domeEpoch s.cer.dome
                                desc := unitDesc op 0, ins := ins }] }

/-- The ceremony's transfers carry the domain of a slot (R42, R43): that of its last COMPONENT (DESIGN CHOICE, log 35: IMPORT
itself names no slot). -/
def State.cerX (s : State) : Xfer := { agent := 0x2B1, dom := s.get (R.ICC_CFG_DOME (s.cer.slot % 2)), epoch := s.get R.ART_EPOCH_CURRENT }

/-- IMPORT: a key block under the import key is read, and runs as a command of the SYM or the PKE pool. While one runs another is
out of state (DESIGN CHOICE, log 35). -/
def State.cerImport (s : State) : State :=
  let s0 := s.cerTouch
  if s.cerState ≠ 2 ∨ s.cmds.any (fun (c : Cmd) => c.job == cerJob) then s0.cerCode 0x0710
  else
    let a := s.get R.ICC_CER_KB_ADDR * 64
    s0.afterBank s0.cerX a (s.get R.ICC_CER_KB_LEN) .cerImport fun s0 =>
    let r := s0.rd s0.cerX a (s.get R.ICC_CER_KB_LEN)
    let s1 : State := { r.2 with cer := { r.2.cer with out := a + 0x1000 } }
    if isPrivateBlock r.1 then (let k := s1.cerWrap; k.2.2.cerSubmit 2 0x30 [r.1, toLE 2 k.1, [], k.2.1])
    else s1.cerSubmit 0 0x38 [r.1]

/-- The ceremony's command has ended: the result is written, and CODE is its status. -/
def State.cerProgress (s : State) : State :=
  match s.cer.ended with
  | none => s
  | some (code, out) =>
    let s1 : State := { s with cer := { s.cer with ended := none } }
    (if code = 0 then s1.wr s1.cerX s.cer.out out else s1).cerCode code

end Sys2Proof.Machine
end

