-- ==== Sys2Proof/Machine/Fed.lean ====
section
/-!
DEFINITION. Sys2Proof/Machine/Fed.lean: the federation unit (spec/15_network_federation.md R477 to R485): joining, the
heartbeat, time, terms, and the two banks of the federation keys; commands JOIN, WELCOME, BEAT, TIME_Q, TIME_R, KEYSET,
READY_E, LEAVE, BEAT_TIMER, TIME_Q_TIMER, MEMBER_LOSS_TIMEOUT, FED_RETRY, STANDBY_TAKEOVER, ANNOUNCE, RECLAIM,
FED_SWITCH and FED_EPOCH_DRAINED.
-/

namespace Sys2Proof.Machine

/-- Change the FED. -/
def State.setFed (s : State) (f : Fed) : State := { s with fed := f }

/-- HB_MS in ns. -/
def State.hbNs (s : State) : Nat := fld s.fed.section_ 2 2 * 1000000
/-- LOSS_COUNT × HB_MS in ns. -/
def State.lossNs (s : State) : Nat := fld s.fed.section_ 1 1 * s.hbNs
/-- The federation CA's anchor. -/
def State.fedAnchor (s : State) : List Byte := sliceB s.fed.section_ 0x50 48
/-- FED_ID. -/
def State.fedId (s : State) : Nat := fld s.fed.section_ 4 4

/-- A federation message: TYPE, 3 zero bytes and its body (R478). -/
def fedBody (ty : Nat) (b : List Byte) : List Byte := [BitVec.ofNat 8 ty, 0, 0, 0] ++ b

/-- Send a federation message in a session (R475 gives it priority 2). -/
def State.fedSend (s : State) (i ty : Nat) (b : List Byte) : State := s.sesSendCur i 0x10 2 (fedBody ty b)

/-- A TERM higher than any seen (R481): vector 294. -/
def State.setTerm (s : State) (t : Nat) : State :=
  if t = s.get R.FED_TERM_TERM then s else (s.set R.FED_TERM_TERM t).cause R.FED_EVENTS_CAUSE 288 294

/-! ### Opening the session with the tower (R479 to R481) -/

/-- Whether the standby's address is meant, where the role leaves a choice: a standby has the tower's alone, a tower the
standby's. -/
def State.fedAlt (s : State) (alt : Bool) : Bool :=
  let role := s.get R.FED_STATUS_ROLE
  if role = 3 then false else if role = 2 then true else alt

/-- Open a session to the tower's address, or (`alt`) to the standby's; the other one is tried next. -/
def State.fedOpen (s : State) (alt : Bool) : State :=
  let alt := s.fedAlt alt
  let sec := s.fed.section_
  let ip := if alt then sliceB sec 0x30 16 else sliceB sec 8 16
  let p : Peer := { link := fld sec 0x1A 1, ip := unmapped ip, port := if alt then fld sec 0x40 2 else fld sec 0x18 2 }
  if alt ∧ allZero ip then s.setFed { s.fed with alt := !alt }
  else
    match s.openTo p 2 s.fedAnchor true with
    | none => s.setFed { s.fed with alt := !alt }
    | some (i, s1) => s1.setFed { s1.fed with tower := some i, held := false, here := alt, alt := !alt }

/-- Boot step 10 (R479): a worker or standby opens its session, a tower serves. -/
def State.fedStart (s : State) : State :=
  let role := fld s.fed.section_ 0 1
  let s1 := (s.set R.FED_STATUS_ROLE role).setFed { s.fed with lastBeat := s.tnow }
  if role = 2 then s1.set R.FED_STATUS_STATE 5
  else if role = 1 ∨ role = 3 then (s1.set R.FED_STATUS_STATE 1).fedOpen false
  else s1

/-- JOIN is sent in the session with the tower (R479; at once on leaving DEEP, R480). -/
def State.fedJoin (s : State) : State :=
  match s.fed.tower with
  | none => s
  | some i =>
    if (s.ctx i).st ≠ 2 then s else
    (s.setFed { s.fed with held := true }).fedSend i 0x40
      (toLE 4 s.fedId ++ [BitVec.ofNat 8 (fld s.fed.section_ 0 1), 0, 0, 0] ++ toLE 8 devId
        ++ toLE 4 (s.get R.FED_EPOCH_CURRENT) ++ toLE 4 (s.get R.FED_TERM_TERM))

/-- READY may have opened the FED's session: it sends JOIN. -/
def State.fedReady (s : State) : State := if s.fed.held then s else s.fedJoin

/-- A member that leaves DEEP sends JOIN at once (R480), a deposed tower too. -/
def State.fedRejoin (s : State) : State := if s.fedServes then s else s.fedJoin

/-- The tower becomes a member of the device with the higher TERM (R481): of the standby, or, an acting tower, of the
tower. -/
def State.fedYield (s : State) (term : Nat) : State :=
  let s1 := (s.setTerm term).set R.FED_STATUS_STATE 1
  ((s1.setFed { s1.fed with members := [], lastBeat := s1.tnow }).set R.FED_MEMBERS_PRESENT 0).fedOpen false

/-! ### Key banks (R483) -/

/-- Chunks of KEYSET entries: FIRST and count. -/
def ksChunks (first n per : Nat) : Nat → List (Nat × Nat)
  | 0 => []
  | k + 1 => if n = 0 then [] else (first, min n per) :: ksChunks (first + min n per) (n - min n per) per k

/-- The KEYSET entry of a table entry's bytes: the key, unwrapped by the KEY unit. -/
def ksEntry (tkey bs : List Byte) : List Byte :=
  match entryOpen tkey bs with
  | some (d, m) =>
    [BitVec.ofNat 8 d, BitVec.ofNat 8 m.alg, BitVec.ofNat 8 m.key.length, 0] ++ toLE 4 m.usage ++ kcv m.alg m.key
      ++ zeros 5 ++ fitBytes 32 m.key
  | none => zeros 48

/-- The KEYSET entries of `n` indexes of a bank from `i` on: the KEY unit reads each by a transfer. -/
def State.ksEntries (s : State) (b i : Nat) : Nat → List Byte × State
  | 0 => ([], s)
  | n + 1 =>
    let r := s.rd s.keyX (s.entryAddr b i) 64
    let t := r.2.ksEntries b (i + 1) n
    (ksEntry s.key.tkey r.1 ++ t.1, t.2)

/-- Send a bank to a member in KEYSETs of one datagram each. -/
def State.sendBank (s : State) (i b epoch : Nat) : State :=
  let per := max 1 ((s.fragLen (s.ctx i).peer.ip - 16) / 48)
  (ksChunks s.fedFirst s.fedCount per (s.fedCount / per + 1)).foldl (fun s c =>
    let r := s.ksEntries b c.1 c.2
    r.2.fedSend i 0x45 (toLE 4 epoch ++ toLE 4 c.1 ++ toLE 4 c.2 ++ r.1)) s

/-- The announcement a WELCOME or BEAT carries: NEXT and T_A, or zeros. -/
def State.announced (s : State) : List Byte :=
  match s.fed.next with
  | some e => toLE 4 e ++ toLE 8 (s.get R.FED_NEXT_T_A)
  | none => zeros 12

/-- Every index of the range is in a bank. -/
def State.bankFull (s : State) (b : Nat) : Bool :=
  (List.range s.fedCount).all (fun k => s.dirIn b (s.fedFirst + k) / 128 % 2 == 1)

/-- The staging bank of a member is filled for an epoch: for another one than before, it begins empty. -/
def State.stageBegin (s : State) (e : Nat) : State :=
  if s.fed.stage = some e then s
  else
    let s1 := (List.range s.fedCount).foldl (fun s k => s.setDir (1 - s.fed.bank) (s.fedFirst + k) 0) s
    (s1.setFed { s1.fed with stage := some e }).set R.FED_STATUS_STAGED 0

/-- Once every index has been staged for NEXT, a member sets STAGED and sends READY_E (R483). -/
def State.stageReady (s : State) : State :=
  match s.fed.next, s.fed.tower with
  | some e, some i =>
    if s.fed.stage = some e ∧ ¬ s.is R.FED_STATUS_STAGED ∧ s.bankFull (1 - s.fed.bank) then s.stagedCheck.fedSend i 0x46 (toLE 4 e)
    else s
  | _, _ => s

/-- The staging bank is begun for the announced epoch: at the announcement, or, where the old bank still drains in it, when
that has ended. -/
def State.stageNext (s : State) : State :=
  match s.fed.next with
  | some e => if s.is R.FED_FENCE_DRAINED then (s.stageBegin e).stageReady else s
  | none => s

/-- A member takes an announced epoch with its T_A, the last one announced of it. -/
def State.stageFor (s : State) (e ta : Nat) : State :=
  ((s.setFed { s.fed with next := some e }).set R.FED_NEXT_T_A ta).stageNext

/-- What a member takes from WELCOME and BEAT (R480, R485): the tower's epoch where it has missed it, at once; else an
announcement. An announcement of the epoch that the member has switched to already says nothing new. -/
def State.takeAnnounce (s : State) (epoch next ta : Nat) : State :=
  if ¬ (next = 0 ∧ ta = 0) ∧ next = s.get R.FED_EPOCH_CURRENT then s
  else if epoch ≠ s.get R.FED_EPOCH_CURRENT then s.stageFor epoch 0
  else if next = 0 ∧ ta = 0 then s
  else s.stageFor next ta

/-! ### Messages -/

/-- Take the oldest federation message of a type, with its context. -/
def State.onFed (s : State) (ty : Nat) (f : State → RxMsg → Nat → State) : State :=
  match s.takeMsg (fun m => s.fedMsg m && fld m.body 0 1 == ty) with
  | some (m, s1) => (match m.ctx with | some i => f s1 m i | none => s1)
  | none => s

/-- The lowest member index that no member has. -/
def lowestFree (used : List Nat) (i : Nat) : Nat → Nat
  | 0 => i
  | n + 1 => if used.contains i then lowestFree used (i + 1) n else i

/-- JOIN (R479, R481). -/
def State.rxJoin (s : State) : State :=
  s.onFed 0x40 (fun s m i =>
    let term := fld m.body 24 4
    if ¬ s.fedServes then s
    else if (s.ctx i).root ≠ s.fedAnchor ∨ fld m.body 4 4 ≠ s.fedId then s.fedSend i 0x47 (toLE 2 0x0A01 ++ [0, 0])
    else if s.get R.FED_TERM_TERM < term then s.fedYield term
    else
      let others := s.fed.members.filter (fun e => e.1 != i)
      let entry := (tabFind s.fed.members i).getD (lowestFree (others.map (fun e => e.2.1)) 0 others.length, 0)
      let idx := entry.1
      let s1 := s.setFed { s.fed with members := tabIns others i entry }
      let s2 := s1.set R.FED_MEMBERS_PRESENT s1.fed.members.length
      let epoch := s.get R.FED_EPOCH_CURRENT
      let s3 := s2.fedSend i 0x41 (toLE 4 (s.get R.FED_TERM_TERM) ++ toLE 4 epoch ++ s.announced ++ toLE 4 idx)
      let s4 := s3.sendBank i s.fed.bank epoch
      match s.fed.next with
      | some e => s4.sendBank i (1 - s.fed.bank) e
      | none => s4)

/-- A message of the tower whose TERM is not below the highest seen (R481). -/
def State.fromTower (s : State) (i term : Nat) : Bool := s.fed.tower == some i && decide (s.get R.FED_TERM_TERM ≤ term)

/-- WELCOME (R479): the device is a member; vector 289. A tower that learns of a higher TERM by it becomes a member (R481). -/
def State.rxWelcome (s : State) : State :=
  s.onFed 0x41 (fun s m i =>
    let term := fld m.body 4 4
    if s.fedServes then (if s.get R.FED_TERM_TERM < term then s.fedYield term else s)
    else if ¬ s.fromTower i term then s else
    let s1 := ((s.setTerm term).set R.FED_STATUS_STATE 2).cause R.FED_EVENTS_CAUSE 288 289
    (s1.setFed { s1.fed with lastBeat := s.tnow, beaten := true, acting := s1.fed.here }).takeAnnounce (fld m.body 8 4) (fld m.body 12 4) (fld m.body 16 8))

/-- BEAT (R480): the loss timer starts again; a LOST member that hears its tower is a member again. -/
def State.rxBeat (s : State) : State :=
  s.onFed 0x42 (fun s m i =>
    let term := fld m.body 4 4
    if s.fedServes ∨ ¬ s.fromTower i term then s else
    let s1 := s.setTerm term
    let s2 := if s.get R.FED_STATUS_STATE = 3 then (s1.set R.FED_STATUS_STATE 2).cause R.FED_EVENTS_CAUSE 288 289 else s1
    (s2.setFed { s2.fed with lastBeat := s.tnow, beaten := true }).takeAnnounce (fld m.body 8 4) (fld m.body 12 4) (fld m.body 16 8))

/-- TIME_Q at the tower (R482): t1 as sent, t2 as received, and t3 as TIME_R leaves. -/
def State.rxTimeQ (s : State) : State :=
  s.onFed 0x43 (fun s m i =>
    if ¬ s.fedServes then s else
    s.sesSend i (s.ctx i).cur.epoch 0x10 2 (fedBody 0x44 (sliceB m.body 4 8 ++ toLE 8 m.at_.floor.toNat ++ zeros 8)) none 0 20)

/-- TIME_R at a member (R482): offset, delay and SYNC. -/
def State.rxTimeR (s : State) : State :=
  s.onFed 0x44 (fun s m i =>
    if s.fed.tower ≠ some i then s else
    let t1 : Int := fld m.body 4 8
    let t2 : Int := fld m.body 12 8
    let t3 : Int := fld m.body 20 8
    let t4 : Int := m.at_.floor.toNat
    let twice := (t1 - t2) + (t4 - t3)
    let off := (twice * 32768) % (2 ^ 64 : Int)
    let delay := ((t4 - t1) - (t3 - t2)) % (2 ^ 32 : Int)
    ((s.set R.FED_OFFSET_OFFSET off.toNat).set R.FED_DELAY_NS delay.toNat).setB R.FED_STATUS_SYNC (decide (twice.natAbs ≤ 20000)))

/-- The entries of a KEYSET: index, dome and key. -/
def ksParse (b : List Byte) : List (Nat × Nat × KeyMat × List Byte) :=
  (List.range (fld b 12 4)).map (fun k =>
    let e := sliceB b (16 + 48 * k) 48
    (fld b 8 4 + k, fld e 0 1, { alg := fld e 1 1, usage := fld e 4 4, key := sliceB e 16 (fld e 2 1) }, sliceB e 8 3))

/-- A KEYSET entry may be wrapped: its index is in the range, its form is that of R350 to R352, and its KCV holds. -/
def State.ksOk (s : State) (e : Nat × Nat × KeyMat × List Byte) : Bool :=
  s.inFed e.1 && decide (e.2.1 < 64) && lenOk e.2.2.1.alg e.2.2.1.key.length && usageOk e.2.2.1.alg e.2.2.1.usage
    && e.2.2.2 == kcv e.2.2.1.alg e.2.2.1.key

/-- A member takes KEYSETs of an epoch: of the announced one, or with none announced of any it has no full bank of (DEDUCED,
log 32). -/
def State.ksWanted (s : State) (e : Nat) : Bool :=
  match s.fed.next with
  | some n => n == e
  | none => e != s.get R.FED_EPOCH_CURRENT || !s.bankFull s.fed.bank

/-- A bank of the tower's current epoch that is whole is switched to directly (R485). -/
def State.stageDirect (s : State) (e : Nat) : State :=
  if s.fed.next = none ∧ e = s.get R.FED_EPOCH_CURRENT ∧ s.bankFull (1 - s.fed.bank) then s.stageFor e 0 else s

/-- KEYSET (R483): the whole set is discarded where an entry fails its KCV (FED_KCV, R487; DEDUCED that
FED_CMD.CODE shows it, log entry 32); else it is wrapped into the staging bank, and
READY_E is sent once every index is staged. It waits while the old bank still drains there, whose entries that epoch's jobs
resolve their handles in (DEDUCED, log 32). -/
def State.rxKeyset (s : State) : State :=
  if ¬ s.is R.FED_FENCE_DRAINED then s else
  s.onFed 0x45 (fun s m i =>
    let es := ksParse m.body
    let ep := fld m.body 4 4
    if s.fed.tower ≠ some i ∨ s.fedServes ∨ ¬ s.ksWanted ep then s
    else if ¬ es.all s.ksOk then s.set R.FED_CMD_CODE 0x0A05
    else
      let b := 1 - s.fed.bank
      let s1 := es.foldl (fun s e =>
        (s.wr s.keyX (s.entryAddr b e.1) (entryMake s.key.tkey e.2.1 e.2.2.1 [])).dirUpdate b e.1 (128 + e.2.1)) (s.stageBegin ep)
      (s1.stageDirect ep).stageReady)

/-- READY_E at the tower (R484): each member counts once for NEXT. -/
def State.rxReadyE (s : State) : State :=
  s.onFed 0x46 (fun s m i =>
    match tabFind s.fed.members i with
    | none => s
    | some (idx, done) =>
      let e := fld m.body 4 4
      if s.fed.next ≠ some e ∨ done = e + 1 then s
      else (s.setFed { s.fed with members := tabIns s.fed.members i (idx, e + 1) }).set R.FED_READY_COUNT (s.get R.FED_READY_COUNT + 1))

/-- LEAVE ends a federation session (R478); a member without its tower is LOST, and retries. -/
def State.rxLeave (s : State) : State :=
  s.onFed 0x47 (fun s _ i =>
    let s1 := if s.fed.tower = some i then (s.set R.FED_STATUS_STATE 3).setFed { s.fed with alt := s.fed.acting } else s
    s1.sesClose i none)

/-! ### Timers -/

/-- BEAT_TIMER (R480): the tower sends BEAT to every member. -/
def State.beatTimer (s : State) : State :=
  if ¬ s.fedServes then s else
  s.fed.members.foldl (fun t m => t.fedSend m.1 0x42 (toLE 4 (s.get R.FED_TERM_TERM) ++ toLE 4 (s.get R.FED_EPOCH_CURRENT)
    ++ s.announced ++ toLE 8 s.nowNs)) s

/-- TIME_Q_TIMER (R482): a member sends TIME_Q, t1 written as it leaves; a period without a BEAT is counted. -/
def State.timeQTimer (s : State) : State :=
  let st := s.get R.FED_STATUS_STATE
  if st ≠ 2 ∧ st ≠ 3 then s else
  let s1 := (if s.fed.beaten then s else s.count R.FED_MISSED_COUNT)
  let s2 := s1.setFed { s1.fed with beaten := false }
  match s.fed.tower with
  | some i => s2.sesSend i (s.ctx i).cur.epoch 0x10 2 (fedBody 0x43 (zeros 8)) none 0 4
  | none => s2

/-- MEMBER_LOSS_TIMEOUT (R480): LOST, vector 288, once the edge of expiry has passed (R23). The acting tower's address is
tried first. -/
def State.memberLoss (s : State) : State :=
  if s.get R.FED_STATUS_STATE = 2 ∧ s.past (s.fed.lastBeat + s.lossNs) then
    ((s.set R.FED_STATUS_STATE 3).setFed { s.fed with alt := s.fed.acting }).cause R.FED_EVENTS_CAUSE 288 288
  else s

/-- FED_RETRY (R480): the session is tried again, first at the acting tower's address and then at the other one. -/
def State.fedRetry (s : State) : State :=
  let st := s.get R.FED_STATUS_STATE
  let busy : Bool := match s.fed.tower with | some i => (s.ctx i).st == 1 | none => false
  if (st ≠ 3 ∧ st ≠ 1) ∨ busy = true then s
  else
    let s1 := match s.fed.tower with | some i => s.sesClose i none | none => s
    s1.fedOpen s.fed.alt

/-- STANDBY_TAKEOVER (R481): a standby that serves not and has registered no BEAT for that long, since it began where none came;
once the edge of expiry has passed (R23). -/
def State.takeover (s : State) : State :=
  let st := s.get R.FED_STATUS_STATE
  if s.get R.FED_STATUS_ROLE = 3 ∧ (st = 1 ∨ st = 2 ∨ st = 3) ∧ s.past (s.fed.lastBeat + 2 * s.lossNs) then
    (s.set R.FED_STATUS_STATE 4).setTerm (s.get R.FED_TERM_TERM + 1)
  else s

/-! ### The tower's commands and the switch (R481, R484, R485) -/

/-- How many members have answered READY_E for an epoch (R484). -/
def State.fedReadyFor (s : State) (e : Nat) : Nat := s.fed.members.countP (fun m => m.2.2 == e + 1)

/-- ANNOUNCE (R484). A member that has answered for the epoch already counts on under a second ANNOUNCE of it. -/
def State.announce (s : State) : State :=
  if ¬ s.fedServes then s
  else if ¬ s.is R.FED_FENCE_DRAINED then s.set R.FED_CMD_CODE 0x0A02
  else if ¬ s.is R.FED_STATUS_STAGED ∧ s.fedCount ≠ 0 then s.set R.FED_CMD_CODE 0x0A03
  else if (s.get R.FED_NEXT_T_A : Rat) < s.now + 4 * s.hbNs then s.set R.FED_CMD_CODE 0x0A04
  else
    let e := (s.get R.FED_EPOCH_CURRENT + 1) % 2 ^ 32
    let s1 := ((s.stagedCheck.setFed { s.fed with next := some e }).set R.FED_CMD_CODE 0).set R.FED_READY_COUNT (s.fedReadyFor e)
    s1.fed.members.foldl (fun t m => t.sendBank m.1 (1 - s.fed.bank) e) s1

/-- RECLAIM (R481): the tower's TERM rises above the standby's, and it serves again. -/
def State.reclaim (s : State) : State :=
  if s.get R.FED_STATUS_ROLE = 2 ∧ ¬ s.fedServes then
    let s1 := match s.fed.tower with | some i => s.sesClose i none | none => s
    (s1.set R.FED_STATUS_STATE 5).setTerm (s.get R.FED_TERM_TERM + 1)
  else s

/-- FED_SWITCH (R485): at T_A the banks exchange roles where STAGED is set, else the member is BEHIND. -/
def State.fedSwitch (s : State) : State :=
  match s.fed.next with
  | none => s
  | some e =>
    if s.now < s.get R.FED_NEXT_T_A then s
    else if s.is R.FED_STATUS_STAGED ∧ s.is R.FED_FENCE_DRAINED then
      let s1 := s.setFed { s.fed with bank := 1 - s.fed.bank, old := s.get R.FED_EPOCH_CURRENT, next := none, stage := none }
      ((((s1.set R.FED_EPOCH_CURRENT e).set R.FED_FENCE_DRAINED 0).set R.FED_STATUS_STAGED 0).set R.FED_STATUS_BEHIND 0).cause
        R.FED_EVENTS_CAUSE 288 290
    else if s.is R.FED_STATUS_BEHIND then s
    else (s.set R.FED_STATUS_BEHIND 1).cause R.FED_EVENTS_CAUSE 288 293

/-- FED_EPOCH_DRAINED (R485): the old bank is zeroed and its slots are freed as STALE slots are; vector 291. An epoch announced
meanwhile is staged from here. -/
def State.fedDrained (s : State) : State :=
  if s.is R.FED_FENCE_DRAINED ∨ (s.fed.old ≠ s.get R.FED_EPOCH_CURRENT ∧ s.jsc.jobs.any (fun j => j.live && j.fepoch == s.fed.old))
  then s
  else
    let b := 1 - s.fed.bank
    let s1 := (List.range s.fedCount).foldl (fun s k =>
      let i := s.fedFirst + k
      (s.wr s.keyX (s.entryAddr b i) (zeros 64)).dirUpdate b i 0) s
    ((s1.set R.FED_FENCE_DRAINED 1).cause R.FED_EVENTS_CAUSE 288 291).stageNext

end Sys2Proof.Machine
end

