-- ==== Sys2Proof/Machine/Marl.lean ====
section
/-!
DEFINITION. Sys2Proof/Machine/Marl.lean: the structure bitstream as bytes (spec/05_structure_bitstream.md R136 to R151,
R326, R338, R463, R464, R477) and the checks of its sections (item 8 of R152). A check answers none, or a code of R166
and the index it concerns.
-/

namespace Sys2Proof.Machine

/-- An outcome of a check: none, or the code of R166 and DETAIL. -/
abbrev MarlErr := Option (Nat × Nat)

/-- The first failure of a list of checks. -/
def firstErr (l : List MarlErr) : MarlErr := l.findSome? id

/-- A condition that must hold, or a failure. -/
def needs (ok : Bool) (code detail : Nat) : MarlErr := if ok then none else some (code, detail)

/-! ### Container (R136 to R138) -/

/-- A section table entry (R137). -/
structure Sect where
  idx : Nat
  type : Nat
  off : Nat
  len : Nat
  deriving DecidableEq, Repr

/-- The section table of an image. -/
def marlSects (img : List Byte) : List Sect :=
  (List.range (fld img 0x10 2)).map (fun i =>
    let e := sliceB img (0x80 + 64 * i) 16
    { idx := i, type := fld e 0 2, off := fld e 4 4, len := fld e 8 4 })

/-- The bytes of a section. -/
def Sect.bytes (x : Sect) (img : List Byte) : List Byte := sliceB img x.off x.len

/-- The signature block: the last 256 bytes. -/
def marlSig (img : List Byte) : List Byte := img.drop (img.length - 256)

/-- The sections lie in table order without overlap from `at_` on, 64-byte aligned, before `stop`, and every byte between
them is zero (R137). -/
def sectsLie (img : List Byte) (stop : Nat) : Nat → List Sect → Bool
  | at_, [] => decide (at_ ≤ stop) && allZero (sliceB img at_ (stop - at_))
  | at_, x :: xs =>
    decide (at_ ≤ x.off) && x.off % 64 == 0 && decide (x.off + x.len ≤ stop) && allZero (sliceB img at_ (x.off - at_))
      && sectsLie img stop (x.off + x.len) xs

/-- Item 2 of R152: MAGIC, FORMAT, KIND, the zero fields, VERSION of an amend marl, and where the sections lie. -/
def marlFormat (img : List Byte) : Bool :=
  let n := fld img 0x10 2
  let sig := marlSig img
  fld img 0 4 == 0x4C52414D && fld img 4 2 == 1 && decide (fld img 6 1 ≤ 2) && (fld img 6 1 == 1 || fld img 7 1 == 0)
    && decide (384 ≤ img.length) && img.length % 64 == 0 && decide (1 ≤ n) && decide (n ≤ 512)
    && allZero (sliceB img 0x13 5) && allZero (sliceB img 0x50 48)
    && (fld img 6 1 != 2 || fld img 8 4 == 0)
    && (List.range n).all (fun i => fld img (0x82 + 64 * i) 2 == 0 && fld img (0x8C + 64 * i) 4 == 0)
    && allZero (sliceB sig 1 15) && allZero (sliceB sig 0x71 47)
    && sectsLie img (img.length - 256) (0x80 + 64 * n) (marlSects img)

/-- The hashes that the copy computes (R155, R158): of the header, of the section table, and of each section. -/
def marlSums (img : List Byte) : List (List Byte) :=
  [sha 2 (img.take 128), sha 2 (sliceB img 0x80 (64 * fld img 0x10 2))]
    ++ (marlSects img).map (fun x => sha 2 (x.bytes img))

/-- Item 3 of R152: TABLEHASH and every section hash match; a failure names the section's table index. -/
def marlHashes (img : List Byte) (sums : List (List Byte)) : MarlErr :=
  firstErr (needs (sums.getD 1 [] == sliceB img 0x20 48) 0x0901 0
    :: (marlSects img).map (fun x => needs (sums.getD (x.idx + 2) [] == sliceB img (0x90 + 64 * x.idx) 48) 0x0901 x.idx))

/-- The signature verifies: ECDSA P-384 over the SHA-384 of the header (R138). The fields SIG_R and SIG_S are little-endian, as
every field of a marl is; PUBKEY is a string of bytes, the uncompressed point. -/
def marlSigned (img : List Byte) (sums : List (List Byte)) : Bool :=
  let sig := marlSig img
  (match curveP384.point (sliceB sig 0x10 97) with
  | some p => ecdsaVerify curveP384 (some p) (sums.getD 0 []) (ofLE (sliceB sig 0xA0 48)) (ofLE (sliceB sig 0xD0 48))
  | none => false)

/-! ### What the sections hold -/

/-- The sections of a type, with their bytes. -/
def sectsOf (img : List Byte) (t : Nat) : List (Sect × List Byte) :=
  ((marlSects img).filter (fun x => x.type == t)).map (fun x => (x, x.bytes img))

/-- The bytes of the first section of a type. -/
def sectOf (img : List Byte) (t : Nat) : Option (List Byte) := ((sectsOf img t).head?).map (·.2)

/-- An ALLOT entry (R140). -/
def allotOf (e : List Byte) : Nat × Allot :=
  (fld e 0 1,
    { flags := fld e 1 1, colour := fld e 2 1, spires := fld e 4 4, symShare := fld e 8 4, digShare := fld e 12 4
      pkeShare := fld e 16 4, slotFirst := fld e 0x14 2, slotCount := fld e 0x16 2, ruleFirst := fld e 0x18 2
      ruleCount := fld e 0x1A 2, handlerQuota := fld e 0x1C 2, memBase := fld e 0x20 8, memSize := fld e 0x28 8
      lanes := fld e 0x30 4 % 65536, sharedBw := fld e 0x34 4, sessions := fld e 0x38 4, authKey := sliceB e 0x40 48 })

/-- The entries of an ALLOT section. -/
def allotEntries (b : List Byte) : List (List Byte) := (List.range (fld b 0 4)).map (fun i => sliceB b (4 + 128 * i) 128)

/-- The allotments of an image. -/
def marlAllots (img : List Byte) : List (Nat × Allot) :=
  match sectOf img 1 with | some b => (allotEntries b).map allotOf | none => []

/-- A handler entry (R143). -/
def handlerOf (e : List Byte) : Handler :=
  { id := fld e 0 2, classes := fld e 2 1, spires := fld e 4 4, entry := fld e 8 2, wcet := fld e 12 4, symU := fld e 16 4
    digU := fld e 20 4, pkeU := fld e 24 4, moverBytes := fld e 28 4, egressBytes := fld e 32 4, payloadMax := fld e 36 4
    keysMax := fld e 40 1, regions := fld e 44 8 }

/-- The parts of a CONTENT section after its header: handlers, regions, classes, 64 bytes each (R142). -/
def contentParts (b : List Byte) : List (List Byte) × List (List Byte) × List (List Byte) :=
  let part (first n : Nat) : List (List Byte) := (List.range n).map (fun i => sliceB b (64 * (1 + first + i)) 64)
  (part 0 (fld b 0x18 2), part (fld b 0x18 2) (fld b 0x1A 1), part (fld b 0x18 2 + fld b 0x1A 1) (fld b 0x1C 2))

/-- A CONTENT section (R142). -/
def contentOf (b : List Byte) : Nat × Content :=
  let p := contentParts b
  (fld b 0 1,
    { version := fld b 4 4, spiresUsed := fld b 8 4, symUsed := fld b 12 4, digUsed := fld b 16 4, pkeUsed := fld b 20 4
      handlers := p.1.map handlerOf, regions := p.2.1, classes := p.2.2 })

/-- The contents of an image, by dome. -/
def marlContents (img : List Byte) : List (Nat × Content) := (sectsOf img 2).map (fun x => contentOf x.2)

/-- The images of spire `p` in an image: a spire without SPIMAGE or DECODE has them empty (R145, R146, R164). -/
def marlImage (img : List Byte) (p : Nat) : Image :=
  let sp := (sectsOf img 3).find? (fun x => fld x.2 0 1 == p)
  let de := (sectsOf img 4).find? (fun x => fld x.2 0 1 == p)
  { instr := (match sp with | some x => sliceB x.2 12 (fld x.2 4 4) | none => [])
    data := (match sp with | some x => sliceB x.2 (12 + fld x.2 4 4) (fld x.2 8 4) | none => [])
    decode := (match de with | some x => x.2.drop 4 | none => []) }

/-- The entries of a RULES section (R326). -/
def ruleEntries (b : List Byte) : List (List Byte) := (List.range (fld b 0 4)).map (fun i => sliceB b (4 + 48 * i) 48)

/-- A RULES entry. -/
def ruleOf (e : List Byte) : Nat × Rule :=
  (fld e 0 2, { base := fld e 8 8 / 4096, pages := fld e 4 4, classes := fld e 2 1, rmask := fld e 0x10 8, wmask := fld e 0x18 8
                xmask := fld e 0x20 8 })

/-- The rules of an image, if it carries a RULES section. -/
def marlRules (img : List Byte) : Option (List (Nat × Rule)) := (sectOf img 5).map (fun b => (ruleEntries b).map ruleOf)

/-! ### R139 -/

/-- No number twice. -/
def distinct : List Nat → Bool
  | [] => true
  | x :: xs => !xs.contains x && distinct xs

/-- How often sections may appear (R139), in table order: a section its kind may not carry, or one that repeats. `own`:
the spires of the target dome of a domain marl, where it is allotted. -/
def sectCounts (img : List Byte) (own : Option Nat) : MarlErr :=
  let kind := fld img 6 1
  let xs := marlSects img
  let may (t : Nat) : Bool :=
    if kind = 0 then decide (1 ≤ t) && decide (t ≤ 10)
    else if kind = 1 then t == 2 || t == 3 || t == 4 || t == 5 else t == 7
  let key (x : Sect) : Nat := if x.type = 2 ∨ x.type = 3 ∨ x.type = 4 then 256 * x.type + fld img x.off 1 else 256 * x.type
  let must : List Nat := if kind = 0 then [1, 5, 6, 7, 8, 9, 10] else if kind = 1 then [2] else [7]
  firstErr ((xs.map (fun x =>
      needs (may x.type && !((xs.take x.idx).map key).contains (key x)
        && (kind != 1 || (x.type != 3 && x.type != 4)
            || (match own with | some m => m.testBit (fld img x.off 1) | none => true))
        && (kind != 1 || x.type != 2 || (xs.take x.idx).all (fun y => y.type != 2))) 0x0906 x.idx))
    ++ must.map (fun t => needs (xs.any (fun x => x.type == t)) 0x0906 0))

/-! ### ALLOT (R140, R141, R279) -/

/-- Ranges of (first, count), the empty ones apart, are disjoint. -/
def rangesApart : List (Nat × Nat) → Bool
  | [] => true
  | a :: xs => xs.all (fun b => a.2 == 0 || b.2 == 0 || decide (a.1 + a.2 ≤ b.1) || decide (b.1 + b.2 ≤ a.1)) && rangesApart xs

/-- Masks share no bit. -/
def masksApart : List Nat → Bool
  | [] => true
  | a :: xs => xs.all (fun b => a &&& b == 0) && masksApart xs

/-- A pool's capacity per scheduling period (R179) at the core clock of a POWER section. -/
def poolCapacity (power : List Byte) : Nat :=
  let f : Rat := (fld power 0 1 : Rat) * (25 / 1000) * (1 - (fld power 1 1 : Rat) * (25 / 10000))
  32 * (1000 * f / 16).floor.toNat

/-- The checks of an ALLOT section. Bits 7:1 of FLAGS and 31:16 of LANES, which R140 neither names nor lets be zero, are ignored
(DESIGN CHOICE, log 14). -/
def checkAllot (b power : List Byte) : MarlErr :=
  let es := allotEntries b
  let as := es.map allotOf
  let cap := poolCapacity power
  let sum (f : Allot → Nat) : Nat := (as.map (fun a => f a.2)).sum
  firstErr [
    needs (b.length == 4 + 128 * fld b 0 4) 0x0906 0,
    firstErr (es.map (fun e => needs (decide (fld e 0 1 < 64) && decide (fld e 2 1 < 64) && fld e 3 1 == 0 && fld e 0x1E 2 == 0
      && fld e 0x20 8 % 0x200000 == 0 && fld e 0x28 8 % 0x200000 == 0 && fld e 0x3C 4 == 0 && allZero (sliceB e 0x70 16))
      0x0906 (fld e 0 1))),
    needs (distinct (as.map (·.1))) 0x0906 0,
    needs (as.any (fun a => a.1 == 0 && a.2.spires == 0 && a.2.colour == 0)) 0x0907 0,
    needs (masksApart (as.map (·.2.spires)) && masksApart (as.map (·.2.lanes)) && distinct (as.map (·.2.colour))) 0x0907 0,
    needs (decide (sum (·.symShare) ≤ cap) && decide (sum (·.digShare) ≤ cap) && decide (sum (·.pkeShare) ≤ cap)) 0x0907 0,
    needs (rangesApart (as.map (fun a => (a.2.slotFirst, a.2.slotCount)))
      && as.all (fun a => decide (a.2.slotFirst + a.2.slotCount ≤ 8192))) 0x0907 0,
    needs (rangesApart (as.map (fun a => (a.2.ruleFirst, a.2.ruleCount)))
      && as.all (fun a => decide (a.2.ruleFirst + a.2.ruleCount ≤ 4096))) 0x0907 0,
    needs (decide (sum (·.handlerQuota) ≤ 4096) && decide (sum (·.sessions) ≤ 262144)) 0x0907 0,
    needs (rangesApart (as.map (fun a => (a.2.memBase, a.2.memSize)))
      && as.all (fun a => decide (a.2.memBase + a.2.memSize ≤ 0x2000000000))) 0x0907 0]

/-! ### CONTENT (R142, R143, R304, R464) -/

/-- A region declaration (R304) is well formed and lies in the dome's envelope. -/
def regionDeclOk (a : Allot) (r : List Byte) : Bool :=
  let page := if bitOf (fld r 4 1) 0 then 0x200000 else 0x10000
  decide (fld r 4 1 < 8) && allZero (sliceB r 5 3) && fld r 8 8 % page == 0 && fld r 0x10 8 % page == 0
    && fld r 0x18 8 % page == 0 && fld r 0x18 8 != 0 && decide (fld r 0x24 4 < 2 ^ 24) && allZero (sliceB r 0x28 24)
    && decide (a.memBase ≤ fld r 0x10 8) && decide (fld r 0x10 8 + fld r 0x18 8 ≤ a.memBase + a.memSize)

/-- A session class (R464) is within its limits. -/
def classOk (e : List Byte) : Bool :=
  fld e 0 2 != 0 && decide (fld e 2 1 < 4) && fld e 3 1 == 0 && fld e 6 2 == 0 && decide (100 ≤ fld e 12 4)
    && decide (fld e 12 4 ≤ 3600000)

/-- The lanes that link `k` runs over, in the bits of LANES, under the port modes (R453). -/
def linkLanes (modes : List Nat) (k : Nat) : Nat :=
  let m := modes.getD (k / 4) 0
  if m = 3 ∨ m = 4 then 2 ^ k else if m = 1 ∨ m = 2 then 15 * 2 ^ (4 * (k / 4)) else 0

/-- A class names only links on which the dome owns a lane or has shared bandwidth (R464). -/
def classLinksOk (a : Allot) (modes : List Nat) (e : List Byte) : Bool :=
  (setBits 16 (fld e 4 2)).all (fun k => (linkLanes modes k &&& a.lanes) != 0 || a.sharedBw != 0)

/-- A handler entry (R143) as bytes is within its limits. -/
def handlerOk (used : Nat) (e : List Byte) : Bool :=
  decide (fld e 2 1 < 4) && fld e 3 1 == 0 && (fld e 4 4 &&& used) == fld e 4 4 && fld e 10 2 == 0 && allZero (sliceB e 0x29 3)
    && allZero (sliceB e 0x34 12)

/-- The checks of a CONTENT section. `a`: the dome's allotment; none for a domain marl whose target has none, which R577
answers after item 8. `taken`: the handler IDs in use elsewhere. -/
def checkContent (img b : List Byte) (a : Option Allot) (modes taken : List Nat) : MarlErr :=
  let kind := fld img 6 1
  let d := fld b 0 1
  let p := contentParts b
  let ids := p.1.map (fun e => fld e 0 2)
  firstErr [
    needs (b.length == 64 * (1 + p.1.length + p.2.1.length + p.2.2.length)) 0x0906 d,
    needs (allZero (sliceB b 1 3) && fld b 0x1B 1 == 0 && allZero (sliceB b 0x1E 34) && decide (fld b 0x1A 1 ≤ 64)) 0x0906 d,
    needs (kind != 1 || (d == fld img 7 1 && fld b 4 4 == fld img 8 4)) 0x0906 d,
    (match a with
    | none => needs (kind == 1) 0x0906 d
    | some a => firstErr [
      needs ((fld b 8 4 &&& a.spires) == fld b 8 4 && decide (fld b 12 4 ≤ a.symShare) && decide (fld b 16 4 ≤ a.digShare)
        && decide (fld b 20 4 ≤ a.pkeShare)) 0x0906 d,
      needs (decide (p.1.length ≤ a.handlerQuota)) 0x0909 d,
      needs (p.1.all (handlerOk (fld b 8 4))) 0x0909 d,
      needs (distinct ids && ids.all (fun i => !taken.contains i)) 0x0907 d,
      needs (p.2.1.all (regionDeclOk a) && rangesApart (p.2.1.map (fun r => (fld r 8 8, fld r 0x18 8)))
        && rangesApart (p.2.1.map (fun r => (fld r 0x10 8, fld r 0x18 8)))) 0x0908 d,
      needs (p.2.2.all classOk && distinct (p.2.2.map (fun e => fld e 0 2))) 0x0906 d,
      needs (p.2.2.all (classLinksOk a modes)) 0x0908 d])]

/-- The checks of the CONTENT sections in table order; `taken` grows with the handlers of those before. -/
def checkContents (img : List Byte) (allot : Nat → Option Allot) (modes : List Nat) : List Nat → List (List Byte) → MarlErr
  | _, [] => none
  | taken, b :: bs =>
    match checkContent img b (allot (fld b 0 1)) modes taken with
    | some e => some e
    | none => checkContents img allot modes (taken ++ (contentOf b).2.handlers.map (·.id)) bs

/-! ### The other sections -/

/-- SPIMAGE (R145): within its limits, and every handler that names the spire enters below ILEN ÷ 4. -/
def checkImage (img b : List Byte) : MarlErr :=
  let p := fld b 0 1
  let ilen := fld b 4 4
  needs (decide (p < 32) && allZero (sliceB b 1 3) && ilen % 4 == 0 && decide (ilen ≤ 65536) && decide (fld b 8 4 ≤ 131072)
    && b.length == 12 + ilen + fld b 8 4
    && (marlContents img).all (fun c => c.2.handlers.all (fun h => !h.spires.testBit p || decide (h.entry < ilen / 4)))) 0x0909 p

/-- The decode entry of CX`n` in a DECODE section without its first 4 bytes: START, LEN, LATENCY. -/
def decodeEntry (b : List Byte) (n : Nat) : Nat × Nat × Nat := (fld b (4 * n) 2, fld b (4 * n + 2) 1, fld b (4 * n + 3) 1)

/-- DECODE (R146). -/
def checkDecode (b : List Byte) : MarlErr :=
  let p := fld b 0 1
  let n := fld b 68 4
  needs (decide (p < 32) && allZero (sliceB b 1 3) && b.length == 72 + 12 * n && decide (n ≤ 1024)
    && (List.range 16).all (fun i =>
      let e := decodeEntry (b.drop 4) i
      e.2.1 == 0 || (decide (e.2.1 ≤ 64) && decide (e.1 + e.2.1 ≤ 1024) && decide (1 ≤ e.2.2) && decide (e.2.2 ≤ 64)))) 0x090A p

/-- A region lies in a dome's envelope or in the SRAM windows of its spires, of 16 MiB each (R147, R37). -/
def ruleInside (a : Allot) (lo hi : Nat) : Bool :=
  (decide (a.memBase ≤ lo) && decide (hi ≤ a.memBase + a.memSize))
    || (decide (0xE000000000 ≤ lo) && decide (hi ≤ 0xE020000000)
        && (List.range 32).all (fun p => a.spires.testBit p
          || decide (hi ≤ 0xE000000000 + p * 0x1000000) || decide (0xE000000000 + (p + 1) * 0x1000000 ≤ lo)))

/-- One RULES entry (R326), and for a domain marl its place in the dome's allotment (R147). -/
def checkRule (target : Option (Nat × Allot)) (e : List Byte) : MarlErr :=
  let r := ruleOf e
  let lo := fld e 8 8
  let hi := lo + fld e 4 4 * 4096
  firstErr [
    needs (decide (r.1 < 4096) && decide (fld e 2 1 < 64) && fld e 3 1 == 0 && decide (fld e 4 4 ≤ 2 ^ 28) && lo % 4096 == 0
      && decide (hi ≤ 2 ^ 40) && decide (lo < 2 ^ 40) && allZero (sliceB e 0x28 8)) 0x0906 r.1,
    (match target with
    | some (d, a) => needs (decide (a.ruleFirst ≤ r.1) && decide (r.1 < a.ruleFirst + a.ruleCount)
        && (r.2.rmask ||| r.2.wmask ||| r.2.xmask ||| 2 ^ d) == 2 ^ d && (r.2.pages == 0 || ruleInside a lo hi)) 0x0908 r.1
    | none => none)]

/-- RULES (R147, R326). -/
def checkRules (b : List Byte) (target : Option (Nat × Allot)) : MarlErr :=
  firstErr (needs (b.length == 4 + 48 * fld b 0 4) 0x0906 0
    :: needs (distinct ((ruleEntries b).map (fun e => fld e 0 2))) 0x0906 0
    :: (ruleEntries b).map (checkRule target))

/-- The ladder steps of a class: codes up to 5, none after a 0 (R338). -/
def ladderOk (v : Nat) : Bool :=
  let c (i : Nat) : Nat := bitsOf v (3 * i) 3
  decide (v < 4096) && (List.range 4).all (fun i => decide (c i ≤ 5) && (i == 0 || c i == 0 || c (i - 1) != 0))

/-- FAULTS (R338). -/
def checkFaults (b : List Byte) : MarlErr :=
  firstErr (needs (b.length == 80) 0x0906 0
    :: (List.range 4).map (fun c => needs (decide (1 ≤ fld b (16 * c) 4) && decide (fld b (16 * c) 4 ≤ 1000000)
      && decide (1 ≤ fld b (16 * c + 4) 4) && decide (fld b (16 * c + 4) 4 ≤ 86400000) && ladderOk (fld b (16 * c + 8) 2)
      && allZero (sliceB b (16 * c + 10) 6)) 0x0906 c)
    ++ [needs (bitsOf (fld b 0x40 4) 10 2 == 3 && bitsOf (fld b 0x40 4) 14 18 == 0 && allZero (sliceB b 0x44 12)) 0x0906 0])

/-- TAMPER (R149). -/
def checkTamper (b : List Byte) : MarlErr := needs (b.length == 17 && b.all (fun v => decide (v.toNat < 128))) 0x0906 0

/-- POWER (R150). -/
def checkPower (b : List Byte) : MarlErr :=
  needs (b.length == 16 && decide (8 ≤ fld b 0 1) && decide (fld b 0 1 ≤ 64) && decide (fld b 1 1 ≤ 4) && decide (fld b 2 1 ≤ 4)
    && decide (fld b 4 2 < 4096) && decide (fld b 6 2 < 4096) && allZero (sliceB b 10 6)) 0x0906 0

/-- The port modes of a NETWORK section. -/
def netModes (b : List Byte) : List Nat := (List.range 4).map (fun p => fld b p 1)

/-- A port's links (R453). -/
def portLinks (m p : Nat) : List Nat :=
  if m = 3 ∨ m = 4 then [4 * p, 4 * p + 1, 4 * p + 2, 4 * p + 3] else if m = 1 ∨ m = 2 then [4 * p] else []

/-- The bandwidth reserved on a port's shared lanes fits them (R463). -/
def bandwidthOk (img : List Byte) (modes : List Nat) (p : Nat) : Bool :=
  let as := marlAllots img
  let owned := as.foldl (fun m a => m ||| a.2.lanes) 0
  let free := ((List.range 4).filter (fun l => !owned.testBit (4 * p + l))).length
  let ls := portLinks (modes.getD p 0) p
  let uses (d : Nat) : Bool := (marlContents img).any (fun c => c.1 == d
    && c.2.classes.any (fun e => ls.any (fun k => (fld e 4 2).testBit k)))
  decide ((((as.filter (fun a => uses a.1)).map (·.2.sharedBw)).sum) ≤ 25000 * free)

/-- NETWORK (R463). -/
def checkNetwork (img b : List Byte) : MarlErr :=
  let ls := netLinks b
  let modes := netModes b
  let chain := netChain b
  firstErr [
    needs (modes.all (fun m => decide (m ≤ 4)) && fld b 4 2 != 0 && decide (1280 ≤ fld b 6 2) && decide (fld b 6 2 ≤ 9000)
      && decide (1 ≤ fld b 8 1) && decide (fld b 8 1 ≤ 16) && decide (fld b 9 1 ≤ 16) && decide (fld b 10 2 ≤ 3072)
      && fld b 12 4 == 0 && b.length == 16 + 64 * fld b 8 1 + 48 * fld b 9 1 + fld b 10 2) 0x0906 0,
    firstErr (ls.map (fun e => needs (decide (fld e 0 1 < 16) && decide (fld e 1 1 < 8)
      && (if leTag e then decide (1 ≤ fld e 2 2) && decide (fld e 2 2 ≤ 4094) else fld e 2 2 == 0)
      && decide (fld e 10 1 ≤ 32) && decide (fld e 11 1 ≤ 128) && allZero (sliceB e 36 12)) 0x0906 (fld e 0 1))),
    needs ((List.range 4).all (fun p => (portLinks (modes.getD p 0) p).all (fun k =>
      (ls.filter (fun e => fld e 0 1 == k)).length == 1))) 0x0906 0,
    needs (match chainCerts 8 chain with
      | some (c :: _) => c.key.curve == curveP384 && curveP384.mul Config.identityKey curveP384.g == some c.key.point
      | _ => false) 0x0906 0,
    firstErr ((List.range 4).map (fun p => needs (bandwidthOk img modes p) 0x0906 p))]

/-- FEDERATION (R477). `count`: MEMC_KEYTAB.COUNT. -/
def checkFederation (b : List Byte) (count : Nat) : MarlErr :=
  if fld b 0 1 = 0 then needs (b.length == 128 && allZero b) 0x0906 0
  else needs (b.length == 128 && decide (fld b 0 1 ≤ 3) && decide (2 ≤ fld b 1 1) && decide (fld b 1 1 ≤ 16)
    && decide (1 ≤ fld b 2 2) && decide (fld b 2 2 ≤ 1000) && fld b 0x1B 1 == 0 && decide (fld b 0x1C 4 < 2 ^ 24)
    && decide (fld b 0x20 4 ≤ 65536) && decide (fld b 0x1C 4 + fld b 0x20 4 ≤ count) && allZero (sliceB b 0x24 12)
    && allZero (sliceB b 0x42 14)) 0x0906 0

/-- What the checks of the sections need of the device: the allotments in effect, the port modes in effect, the handler
IDs in use by other domes, and MEMC_KEYTAB.COUNT. -/
structure MarlEnv where
  allots : List (Nat × Allot)
  modes : List Nat
  taken : List Nat
  keys : Nat
  deriving DecidableEq, Repr

/-- Item 8 of R152: R139 first, then the sections by type in the order of its table. -/
def marlSections (img : List Byte) (env : MarlEnv) : MarlErr :=
  let whole := fld img 6 1 == 0
  let d := fld img 7 1
  let power := (sectOf img 8).getD []
  let net := (sectOf img 9).getD []
  let allots := if whole then marlAllots img else env.allots
  let target := if whole then none else (tabFind allots d).map (fun a => (d, a))
  let each (t : Nat) (f : List Byte → MarlErr) : MarlErr := firstErr ((sectsOf img t).map (fun x => f x.2))
  firstErr [
    sectCounts img (target.map (fun t => t.2.spires)),
    each 1 (fun b => checkAllot b power),
    checkContents img (tabFind allots) (if whole then netModes net else env.modes) (if whole then [] else env.taken)
      ((sectsOf img 2).map (·.2)),
    each 3 (checkImage img), each 4 checkDecode, each 5 (fun b => checkRules b target), each 6 checkFaults,
    each 7 checkTamper, each 8 checkPower, each 9 (checkNetwork img), each 10 (fun b => checkFederation b env.keys)]

end Sys2Proof.Machine
end

