-- ==== Sys2Proof/Machine/Stb.lean ====
section
/-!
DEFINITION. Sys2Proof/Machine/Stb.lean: the structure loader (spec/05_structure_bitstream.md R152 to R167, R577): commands
STB_START, STB_ABORT, STB_NONE, SPIRE_RELOAD, SPIRE_RELOAD_END, DOME_DRAINED, STB_RAISE_WHOLE, STB_RAISE_DOMV and
STB_RAISE_DONE. STB_START begins an application; its steps go on one at a time at the ticks of the block.
-/

namespace Sys2Proof.Machine

/-- Change the structure loader. -/
def State.setStb (s : State) (k : Stb) : State := { s with stb := k }

/-- STB_STATUS.BUSY as the applications and raises under way give it (R154, R157). -/
def State.stbBusy (s : State) : State := s.setB R.STB_STATUS_BUSY (s.stb.app.isSome || !s.stb.raise.isEmpty)

/-- The STB's transfers under a domain (R156). -/
def State.stbX (s : State) (dom : Nat) : Xfer := { agent := 0x2D0, dom := dom, epoch := s.get R.ART_EPOCH_CURRENT }

/-- The state of a dome (R30): 0 UNUSED, 1 LOADING, 2 RUNNING, 3 DRAINING, 4 STOPPED. -/
def State.domeSt (s : State) (d : Nat) : Nat := s.get (R.STB_DOM_STATE_STATE d)

/-- Set the state of a dome. -/
def State.setDomeSt (s : State) (d v : Nat) : State := s.set (R.STB_DOM_STATE_STATE d) v

/-- The spires of a content that are not retired (R162, R164, R336). -/
def State.usedSpires (s : State) (c : Content) : List Nat :=
  (setBits 32 c.spiresUsed).filter (fun p => !s.is (R.FCU_RETIRED_RETIRED p))

/-! ### The start, the end and the ABORT of an application (R157) -/

/-- The domain of an application's transfers (R156): the target dome where the marl is a domain marl, else 0. -/
def StbApp.dom (a : StbApp) : Nat := if a.kind = 1 then a.dome else 0

/-- STB_ERR reports BUSY (R154, R157). -/
def State.stbBusyErr (s : State) : State := (s.set R.STB_ERR_CODE 0x090B).set R.STB_ERR_DETAIL 0

/-- STB_CTRL.START (R157). -/
def State.stbStart (s : State) (abrupt : Bool) (dome : Nat) : State :=
  let a : StbApp := { src := s.get R.STB_SRC_ADDR, len := s.get R.STB_LEN_LEN, stage := s.get R.STB_STAGE_ADDR
                      abrupt := abrupt, dome := dome % 64 }
  let clr : State := (s.set R.STB_ERR_CODE 0).set R.STB_ERR_DETAIL 0
  match s.stb.app with
  | some b =>
    if b.kind = 1 ∧ b.edge ∧ s.stb.amend.isNone then
      (clr.setStb { s.stb with amend := some { a with amend := true } }).set R.STB_STATUS_AMEND 1
    else s.stbBusyErr
  | none =>
    if s.is R.STB_STATUS_BUSY then s.stbBusyErr
    else
      let s1 := (List.range 32).foldl (fun (s : State) p => s.set (R.STB_SPIRE_LOADED_LOADED p) 0) clr
      ((s1.setStb { s.stb with app := some a }).set R.STB_STATUS_PHASE 1).stbBusy

/-- An application ends (R157, R167): `phase` is 7 DONE, 8 FAILED or 9 ABORTED. The shadow of the ART is released
(R325). An amend that ran beside it goes on alone, and must still be an amend (R157). -/
def State.stbEnd (s : State) (beside : Bool) (phase code detail : Nat) : State :=
  let v := if phase = 7 then 64 else 65
  let s0 := if code = 0 then s else (s.set R.STB_ERR_CODE code).set R.STB_ERR_DETAIL detail
  if beside then ((s0.setStb { s.stb with amend := none }).set R.STB_STATUS_AMEND 0).raise v
  else
    let held := match s.stb.app with | some a => a.rules && !a.edge | none => false
    let s1 := if held then s0.set R.ART_STATUS_STB_HOLD 0 else s0
    let s2 := s1.setStb { s1.stb with app := s1.stb.amend, amend := none, next := none, nextImages := [] }
    (((s2.set R.STB_STATUS_AMEND 0).set R.STB_STATUS_PHASE
      (match s2.stb.app with | some a => a.phase | none => phase)).stbBusy).raise v

/-- An application fails with a code of R166. -/
def State.stbFail (s : State) (beside : Bool) (e : Nat × Nat) : State := s.stbEnd beside 8 e.1 (e.2 % 65536)

/-- STB_CTRL.ABORT (R157): before the switch edge, or the load step or edge. -/
def State.stbAbort (s : State) : State :=
  match s.stb.app with
  | some a => if a.edge ∨ (a.kind = 0 ∧ a.phase = 4) then s else s.stbEnd false 9 0 0
  | none => s

/-- An application with its phase changed. -/
def State.putApp (s : State) (beside : Bool) (a : StbApp) : State :=
  if beside then s.setStb { s.stb with amend := some a }
  else (s.setStb { s.stb with app := some a }).set R.STB_STATUS_PHASE a.phase

/-! ### Step 1: the copy (R155, R156) -/

/-- Copy `n` bytes line by line from the source to the staging region; the bytes as they were read. -/
def State.stbCopy (s : State) (x : Xfer) : Nat → Nat → Nat → List Byte → Nat → List Byte × State
  | _, _, 0, acc, _ => (acc, s)
  | _, _, _, acc, 0 => (acc, s)
  | src, dst, n, acc, k + 1 =>
    let m := min 64 n
    let r := s.rd x src m
    (r.2.wr x dst r.1).stbCopy x (src + m) (dst + m) (n - m) (acc ++ r.1) k

/-- The staged copy as the STB reads it. -/
def State.staged (s : State) (x : Xfer) : Nat → Nat → List Byte → Nat → List Byte × State
  | _, 0, acc, _ => (acc, s)
  | _, _, acc, 0 => (acc, s)
  | a, n, acc, k + 1 =>
    let m := min 64 n
    let r := s.rd x a m
    r.2.staged x (a + m) (n - m) (acc ++ r.1) k

/-- The staged copy of an application, and the state after it has been read. -/
def State.stagedOf (s : State) (a : StbApp) : List Byte × State := s.staged (s.stbX a.dom) a.stage a.len [] (a.len / 64 + 1)

/-- Step 1 of R158: the marl is read once and staged, and its hashes are computed. An amend beside a domain application
that is none fails with BUSY (R157). A read of flash waits for the operation in its bank (R503). -/
def State.stbCopyStep (s : State) (beside : Bool) (a : StbApp) : State :=
  if s.flashWaits a.src ∨ s.flashWaits (a.src + (a.len - 1)) then s else
  let k := (s.byte (a.src + 6)).toNat
  let a1 := { a with kind := k }
  let r := s.stbCopy (s.stbX (if a.amend then 0 else a1.dom)) a.src a.stage a.len [] (a.len / 64 + 1)
  let img := r.1
  if a.amend ∧ fld img 6 1 ≠ 2 then r.2.stbFail beside (0x090B, 0) else
  let s1 := r.2.putApp beside { a1 with kind := fld img 6 1, phase := 2, sums := marlSums img }
  if fld img 6 1 = 1 ∧ ¬ beside then s1.set R.STB_STATUS_DOME a.dome else s1

/-! ### Step 2: items 1 to 7 of R152 -/

/-- Whether the signer is permitted (R153). FLAGS bit 0 of the allotment binds the dome's own authority: the owner's domain marl is
accepted without it (DESIGN CHOICE, log 14: R140 names no signer beside the bit). -/
def State.signerOk (s : State) (img : List Byte) : Bool :=
  let sig := marlSig img
  let h := sha 2 (sliceB sig 0x10 97)
  let signer := fld sig 0 1
  if signer = 0 then h == Config.ownerHash
  else if signer = 1 then
    fld img 6 1 == 1 && (match (s.dome (fld img 7 1)).allot with
      | some a => !allZero a.authKey && a.authKey == h && bitOf a.flags 0
      | none => false)
  else signer == 2 && s.get R.RST_LC_STATE == 0 && h == Config.factoryHash

/-- Items 1 to 7 of R152, in order, on the staged copy. The hashes of item 3 are those computed during the copy and those of what
is staged (R155, R156). -/
def State.acceptance (s : State) (a : StbApp) (img : List Byte) : MarlErr :=
  let kind := fld img 6 1
  let lc := s.get R.RST_LC_STATE
  let boot := s.get R.RST_BOOT_PHASE == 8
  firstErr [
    needs (fld img 0x0C 4 == a.len && decide (a.len ≤ 0x8000000)) 0x090E 0,
    needs (marlFormat img) 0x0901 0,
    marlHashes img a.sums,
    marlHashes img (marlSums img),
    needs (lc != 3 && bitOf (fld img 0x12 1) lc) 0x0905 0,
    needs ((kind == 0) == boot) 0x090D 0,
    needs (fld img 0x18 8 == 0 || fld img 0x18 8 == devId) 0x0904 0,
    needs (s.signerOk img) 0x090F 0,
    needs (marlSigned img (marlSums img)) 0x0902 0,
    needs (if kind = 0 then decide (s.get R.STB_MINVER_MIN ≤ fld img 8 4)
      else kind == 2 || decide (s.get (R.STB_DOM_MIN_MIN (fld img 7 1)) ≤ fld img 8 4)) 0x0903 0]

/-- Step 2 of R158. -/
def State.stbSignStep (s : State) (beside : Bool) (a : StbApp) : State :=
  let r := s.stagedOf a
  match r.2.acceptance a r.1 with
  | some e => r.2.stbFail beside e
  | none => r.2.putApp beside { a with phase := 3 }

/-! ### Step 3: the sections, the dome and the staging of its rules (R325, R577) -/

/-- What the checks of the sections need of the device. -/
def State.marlEnv (s : State) (d : Nat) : MarlEnv :=
  let ids (o : Option Content) : List Nat := match o with | some c => c.handlers.map (·.id) | none => []
  { allots := s.domes.filterMap (fun e => e.2.allot.map (fun a => (e.1, a)))
    modes := (List.range 4).map (fun p => s.get (R.NET_PORT_MODE_MODE p))
    taken := (s.domes.filter (fun e => e.1 != d)).flatMap (fun e => ids e.2.content ++ ids e.2.old)
    keys := s.get R.MEMC_KEYTAB_HI_COUNT }

/-- The STB takes the shadow and stages the rules of a dome's range (R325); edits of the keep are lost. -/
def State.stageRules (s : State) (a : Allot) (rules : List (Nat × Rule)) : State :=
  let lost := s.is R.ART_STATUS_OWNED || s.is R.ART_STATUS_COPYING
  let s1 := ((s.set R.ART_STATUS_OWNED 0).set R.ART_STATUS_COPYING 0).set R.ART_STATUS_STB_HOLD 1
  let s2 := if lost then (s1.set R.ART_EVENTS_LOST 1).raise 99 else s1
  let kept := s.artCur.filter (fun e => !(decide (a.ruleFirst ≤ e.1) && decide (e.1 < a.ruleFirst + a.ruleCount)))
  { s2 with artShadow := rules.foldl (fun t r => tabSet {} t r.1 r.2) kept }

/-- The course of a domain application from its dome's state (R577): a failure, or 1 load, 2 drain, 3 abrupt. -/
def State.courseOf (s : State) (a : StbApp) : Sum (Nat × Nat) Nat :=
  let st := s.domeSt a.dome
  if st = 4 then .inr 1
  else if st = 2 then .inr (if a.abrupt then 3 else 2)
  else if st = 3 then (if a.abrupt then .inr 3 else .inl (0x0910, a.dome))
  else .inl (0x090C, a.dome)

/-- The spire images of a content in an image. -/
def marlImages (img : List Byte) (c : Content) : List (Nat × Image) := (setBits 32 c.spiresUsed).map (fun p => (p, marlImage img p))

/-- Step 3 of R158. -/
def State.stbCheckStep (s : State) (beside : Bool) (a : StbApp) : State :=
  let r := s.stagedOf a
  let img := r.1
  let s := r.2
  match marlSections img (s.marlEnv (fld img 7 1)) with
  | some e => s.stbFail beside e
  | none =>
    if a.kind ≠ 1 then s.putApp beside { a with phase := 4 }
    else
      match (s.dome a.dome).allot, marlContents img with
      | some al, (_, c) :: _ =>
        if a.dome ≠ fld img 7 1 ∨ a.dome = 0 then s.stbFail beside (0x090C, fld img 7 1) else
        let rules := marlRules img
        if rules.isSome ∧ ¬ s.is R.ART_FENCE_DRAINED then s.stbFail beside (0x0910, 0) else
        let s1 := match rules with | some rs => s.stageRules al rs | none => s
        let a1 := { a with rules := rules.isSome }
        (match s.courseOf a with
        | .inl e => (s1.putApp beside a1).stbFail beside e
        | .inr k =>
          (s1.setStb { s1.stb with next := some c, nextImages := marlImages img c }).putApp beside { a1 with course := k })
      | _, _ => s.stbFail beside (0x090C, fld img 7 1)

/-! ### Amend (R149, R165) -/

/-- Load a TAMPER section (R149): in PROVISION, or while no storage root key is held, the masks are the section's;
otherwise they only gain bits, and TAMPER_KEPT says whether one was kept. -/
def State.loadMasks (s : State) (b : List Byte) : State :=
  let free := s.get R.RST_LC_STATE == 1 || !s.is R.RST_ROOT_SRK_VALID
  let m (n : Nat) : Nat := fld b n 1
  let kept := !free && (List.range 17).any (fun n => (s.get (R.TMP_MASK_MASK n) ||| m n) != m n)
  let s1 := (List.range 17).foldl (fun (t : State) n =>
    t.set (R.TMP_MASK_MASK n) (if free then m n else s.get (R.TMP_MASK_MASK n) ||| m n)) s
  s1.setB R.STB_STATUS_TAMPER_KEPT kept

/-- An amend application's load edge. -/
def State.stbAmendStep (s : State) (beside : Bool) (a : StbApp) : State :=
  let r := s.stagedOf a
  ((r.2.loadMasks ((sectOf r.1 7).getD [])).putApp beside { a with edge := true }).stbEnd beside 7 0 0

/-! ### Reload of a spire (R145, R146, R164) -/

/-- The decode entries and microwords of a spire, from a DECODE section without its first 4 bytes; none is left of the
earlier ones. An entry of LEN 0 is loaded with START and LATENCY 0 too (DESIGN CHOICE, log 14: R274 says only that its
instruction is undefined). -/
def State.loadDecode (s : State) (p : Nat) (b : List Byte) : State :=
  let lo := 0xFF01000000 + 0x100000 * p
  let s1 : State := { s with regs := s.regs.filter (fun e =>
    !((decide (lo * 64 ≤ e.1) && decide (e.1 < (lo + 0x40) * 64))
      || (decide ((lo + 0x10000) * 64 ≤ e.1) && decide (e.1 < (lo + 0x14000) * 64)))) }
  let s2 := (List.range 16).foldl (fun (s : State) n =>
    let e := decodeEntry b n
    if e.2.1 = 0 then s else
    ((s.set (R.SPR_CX_ENTRY_START p n) e.1).set (R.SPR_CX_ENTRY_LEN p n) e.2.1).set (R.SPR_CX_ENTRY_LATENCY p n) e.2.2) s1
  (List.range (fld b 64 4)).foldl (fun (s : State) w =>
    (List.range 3).foldl (fun (s : State) k => s.set (R.SPR_UCODE_WORD p w k) (fld b (68 + 12 * w + 4 * k) 4)) s) s2

/-- The memories of one core: the instruction image and the data image, zeros after them (R145). -/
def State.loadCore (s : State) (c : Nat) (i : Image) : State :=
  ((s.dropBytes (coreAddr c 0) 0x30000).putBytes (coreAddr c 0x20000) i.instr).putBytes (coreAddr c 0) i.data

/-- Steps 2 to 5 of R164: core memories, decode table, shared SRAM with the shared bits (R221), the LOADED bit. What the STB loads
into the memories of a spire is no transfer that the ART judges (DESIGN CHOICE, log 14: R156 names source and staging alone). -/
def State.loadSpire (s : State) (p : Nat) (i : Image) : State :=
  let s1 := ((List.range 16).map (fun k => 16 * p + k)).foldl (fun (s : State) c => s.loadCore c i) s
  let s2 := s1.loadDecode p i.decode
  ((s2.setSpire p { s2.spire p with shared := [] }).dropBytes (sramAddr p 0) 0x400000).set (R.STB_SPIRE_LOADED_LOADED p) 1

/-! ### Domes (R161 to R163, R332) -/

/-- No operation of a dome remains, or none of an old structure epoch (R49): no live job, no mover descriptor and no command of the
ceremony for the dome (R525). -/
def State.domeIdle (s : State) (d : Nat) (old : Bool) : Bool :=
  let e := s.domeEpoch d
  s.jsc.jobs.all (fun j => !(j.live && j.dome == d && (!old || j.epoch != e)))
    && s.mover.all (fun m => !(m.dome == d && (!old || m.epoch != e)))
    && s.cmds.all (fun c => !(c.job == cerJob && c.dome == d && (!old || c.epoch != e)))

/-- A reload is due or under way on a spire the dome uses. -/
def State.domeReloads (s : State) (d : Nat) : Bool :=
  match (s.dome d).content with
  | some c => (s.usedSpires c).any (fun p => (s.spire p).reload != .none)
  | none => false

/-- A CLEAR sweep runs over the dome's colour (R288). -/
def State.domeSwept (s : State) (d : Nat) : Bool :=
  match s.memc.sweep, (s.dome d).allot with
  | some w, some a => !w.reencrypt && w.colour == a.colour && a.colour != 0
  | _, _ => false

/-- The application of a dome that has passed its switch or stop edge. -/
def State.domeApp (s : State) (d : Nat) : Option StbApp := s.stb.app.filter (fun a => a.kind == 1 && a.edge && a.dome == d)

/-- A dome enters RUNNING once its fence reads drained and every reload has ended (R161, R162), or STOPPED where a
STOP_DOMAIN met its application (R334); that application ends in DONE (R157). That a LOADING dome too waits for its fence is the
model's (DESIGN CHOICE, log 14: R161 names the reloads alone). -/
def State.domeCheck (s : State) (d : Nat) : State :=
  if (s.domeSt d ≠ 1 ∧ s.domeSt d ≠ 3) ∨ ¬ s.is (R.STB_DOM_FENCE_DRAINED d) ∨ (s.dome d).after ≠ 0 ∨ s.domeReloads d
      ∨ (s.domeSt d = 1 ∧ s.domeSwept d) then s
  else
    match s.domeApp d with
    | some a => (s.setDomeSt d (if a.stop then 4 else 2)).stbEnd false 7 0 0
    | none => s.setDomeSt d 2

/-- Install a content (R161, R162): its spires wait for their reload, a spire it no longer uses is placed by R29. -/
def State.markReloads (s : State) (d : Nat) (c : Content) : State :=
  let own := match (s.dome d).allot with | some a => a.spires | none => 0
  let s1 := (List.range 32).foldl (fun (s : State) p =>
    if s.is (R.FCU_RETIRED_RETIRED p) then s
    else if c.spiresUsed.testBit p then s.setSpire p { s.spire p with reload := .waiting, placed := false }
    else if own.testBit p ∧ (s.spire p).loaded.isSome then s.setSpire p { s.spire p with placed := true }
    else s) s
  s1.settleAll

/-- The content of a domain application takes effect (R308): table, version, regions and images. -/
def State.installNext (s : State) (d : Nat) (keepOld : Bool) : State :=
  match s.stb.next with
  | none => s
  | some c =>
    let m := s.dome d
    let s1 := (s.rearm d m.content (some c)).setDome d { m with content := some c, old := (if keepOld then m.content else none) }
    let own := match m.allot with | some a => a.spires | none => 0
    let imgs := s1.stb.images.filter (fun e => !own.testBit e.1) ++ s1.stb.nextImages
    ((s1.setStb { s1.stb with images := imgs, next := none, nextImages := [] }).set (R.STB_DOM_VER_VERSION d) c.version).markReloads d c

/-- The rules staged by the application take effect (R160, R161, R325). -/
def State.rulesEdge (s : State) (rules : Bool) : State :=
  if rules then s.artSwitchEdge.set R.ART_STATUS_STB_HOLD 0 else s

/-- The part of RESET_DOMAIN once every live epoch has drained (R332): the key partition is cleared and the sessions are
closed. -/
def State.domeReset (s : State) (d : Nat) : State :=
  (s.clearPartition d).sesCloseAll (fun c => c.dome == d && !c.client) (some 0x0208)

/-- The application of a domain with a phase and its edge passed. -/
def State.appEdge (s : State) (phase : Nat) : State :=
  match s.stb.app with
  | some a => s.putApp false { a with phase := phase, edge := true }
  | none => s

/-- The load edge (R161): the epoch advances, but not where a RESET_DOMAIN has just advanced it (R334), the dome enters LOADING and
its spires are reloaded. An operation of the old epoch that remains is fenced (R49). -/
def State.loadEdge (s : State) (a : StbApp) : State :=
  let s0 := if s.domeSt a.dome = 1 then s else s.next (R.STB_DOM_STATE_EPOCH a.dome)
  let s1 := ((if s.domeIdle a.dome false then s0 else s0.set (R.STB_DOM_FENCE_DRAINED a.dome) 0).setDomeSt a.dome 1).rulesEdge a.rules
  let s2 := if a.reset then s1.domeReset a.dome else s1
  ((s2.installNext a.dome false).appEdge 6).domeCheck a.dome

/-- The switch edge of a drain (R162). -/
def State.drainEdge (s : State) (a : StbApp) : State :=
  let d := a.dome
  let s1 := (((s.next (R.STB_DOM_STATE_EPOCH d)).setDomeSt d 3).set (R.STB_DOM_FENCE_DRAINED d) 0).rulesEdge a.rules
  ((s1.installNext d true).appEdge 5).raise 66

/-- The mover channels of a dome stop at their next granule boundary (R163). -/
def State.stopMovers (s : State) (p : MvDesc → Bool) : State :=
  { s with mover := s.mover.map (fun (m : MvDesc) => if p m then { m with stop := true, faulted := false } else m) }

/-- Every job of a dome ends BROKEN_RESTRUCTURE (R163, R332), its movers stop and its engine commands are abandoned, the
ceremony's for the dome with them (R525). -/
def State.haltDome (s : State) (d : Nat) : State :=
  let s1 := (s.breakJobs (fun j => j.dome == d) 1).stopMovers (fun m => m.dome == d)
  { s1 with cmds := s1.cmds.filter (fun (c : Cmd) => !(c.job == cerJob && c.dome == d)) }

/-- The stop edge of an ABRUPT restructure (R163). -/
def State.stopEdge (s : State) (a : StbApp) : State :=
  let s1 := (s.haltDome a.dome).setDomeSt a.dome 4
  ((s1.setDome a.dome { s1.dome a.dome with after := 1 }).appEdge 5).raise 66

/-- The edge of a domain application after its step 3 (R161 to R163, R334): a dome that a ladder step has stopped by then, or
reset, is loaded. A RESET_DOMAIN that still waits for the drain clears keys and sessions when that has come. -/
def State.stbEdge (s : State) (a : StbApp) : State :=
  let d := a.dome
  let st := s.domeSt d
  if st = 4 ∨ st = 1 then
    let due := (s.dome d).after == 2
    let idle := s.domeIdle d false
    let a1 := { a with reset := due && idle, phase := 5, edge := true }
    let s1 := (s.putApp false a1).raise 66
    (s1.setDome d { s1.dome d with after := if due && !idle then 3 else 0 }).loadEdge a1
  else if a.course = 2 ∧ st = 2 then s.drainEdge a
  else s.stopEdge a

/-- RESET_DOMAIN once every live epoch has drained (R332): the epoch advances, the dome is LOADING, its keys and sessions
go, and its spires are reloaded from the content in effect. -/
def State.resetEdge (s : State) (d : Nat) : State :=
  let s1 := (((s.next (R.STB_DOM_STATE_EPOCH d)).setDomeSt d 1).domeReset d)
  (match (s1.dome d).content with | some c => s1.markReloads d c | none => s1).domeCheck d

/-- The old structure epoch of a dome has drained (R49, R162): the fence reads drained, and sessions whose class is gone
close. -/
def State.fenceDrained (s : State) (d : Nat) : State :=
  let s1 := ((s.set (R.STB_DOM_FENCE_DRAINED d) 1).raise 67).setDome d { s.dome d with old := none }
  if s.domeSt d = 3 then
    let s2 := s1.sesClassGone d
    if (s2.domeApp d).isSome then s2.appEdge 6 else s2
  else s1

/-- What waited for every live epoch of a dome to drain (R163, R332, R334). -/
def State.domeAfter (s : State) (d : Nat) : State :=
  let k := (s.dome d).after
  let s1 := s.setDome d { s.dome d with after := 0 }
  if k = 1 then (match s1.stb.app with | some a => s1.loadEdge a | none => s1)
  else if k = 2 then s1.resetEdge d
  else if k = 3 then (s1.domeReset d).setDomeSt d 1
  else s1

/-- DOME_DRAINED (R49, R162). -/
def State.domeDrained (s : State) (d : Nat) : State :=
  let s1 := if ¬ s.is (R.STB_DOM_FENCE_DRAINED d) ∧ s.domeIdle d true then s.fenceDrained d else s
  let s2 := if (s1.dome d).after ≠ 0 ∧ s1.domeIdle d false then s1.domeAfter d else s1
  s2.domeCheck d

/-- A spire waits for its reload and no job of an older epoch is assigned to it (R162, R164). -/
def State.reloadReady (s : State) (p : Nat) : Bool :=
  (s.spire p).reload == .waiting
    && s.jsc.jobs.all (fun j => !(j.live && j.core.map (· / 16) == some p && j.epoch != s.domeEpoch j.dome))

/-- SPIRE_RELOAD (R164): up to four at once, the others in order of spire number. -/
def State.spireReload (s : State) (p : Nat) : State :=
  let busy := ((List.range 32).filter (fun q => (s.spire q).reload == .loading)).length
  if s.spiresRun ∧ p < 32 ∧ s.reloadReady p ∧ busy < 4 ∧ (List.range p).all (fun q => !s.reloadReady q) then
    (s.setSpire p { s.spire p with reload := .loading, loaded := none }).settle p
  else s

/-- SPIRE_RELOAD_END (R164). -/
def State.spireReloadEnd (s : State) (p : Nat) : State :=
  if (s.spire p).reload ≠ .loading ∨ ¬ s.spireActive p then s else
  match s.spireDome p with
  | none => s
  | some d =>
    let s1 := s.loadSpire p (tabGet {} s.stb.images p)
    ((s1.setSpire p { s1.spire p with reload := .none, loaded := some (s1.domeEpoch d) }).settle p).domeCheck d

/-! ### Whole application: steps 4 and 5 (R158, R135, R280) -/

/-- Load a FAULTS section (R338). -/
def State.loadFaults (s : State) (b : List Byte) : State :=
  let s1 := (List.range 4).foldl (fun (s : State) c =>
    ((s.set (R.FCU_GRACE_US c) (fld b (16 * c) 4)).set (R.FCU_QUIET_MS c) (fld b (16 * c + 4) 4)).set
      (R.FCU_LADDER_STEPS c) (fld b (16 * c + 8) 2)) s
  (List.range 16).foldl (fun (s : State) n => s.set (R.FCU_SRC_MAP_SRC n) (bitsOf (fld b 0x40 4) (2 * n) 2)) s1

/-- Load a POWER section (R150): the clock and spreads take effect by the relock of step 4. -/
def State.loadPower (s : State) (b : List Byte) : State :=
  let s1 := (s.set R.CLK_CORE_MULT (fld b 0 1)).set R.CLK_CORE_SPREAD (fld b 1 1)
  let s2 := ((s1.set R.PWR_IDLE_DEEP_IDLE (fld b 3 1)).set R.PWR_IDLE_DOZE_IDLE (fld b 4 2)).set R.PWR_IDLE_NAP_IDLE (fld b 6 2)
  { s2 with pwr := { s2.pwr with ddrSpread := fld b 2 1, tempWarn := some (asSigned 16 (fld b 8 2)) } }

/-- Load a NETWORK and a FEDERATION section (R463, R477). -/
def State.loadNetwork (s : State) (net fed : List Byte) : State :=
  let s1 := (List.range 4).foldl (fun (s : State) p => s.set (R.NET_PORT_MODE_MODE p) (fld net p 1)) s
  let s2 := (s1.set R.NET_UDP_PORT (fld net 4 2)).set R.NET_UDP_MTU (fld net 6 2)
  { s2 with net := { s2.net with section_ := net }, fed := { s2.fed with section_ := fed } }

/-- What the registers of the pools and of the key cache take from the allotments (R140). -/
def State.loadShares (s : State) (as : List (Nat × Allot)) : State :=
  as.foldl (fun (s : State) e =>
    let s1 := (s.set (R.KEY_PART_FIRST e.1) e.2.slotFirst).set (R.KEY_PART_COUNT e.1) e.2.slotCount
    ((s1.set (R.SYM_SHARE_ETU e.1) e.2.symShare).set (R.DIG_SHARE_ETU e.1) e.2.digShare).set (R.PKE_SHARE_ETU e.1) e.2.pkeShare) s

/-- The colour map that allotments give (R279). -/
def colourMap (as : List (Nat × Allot)) : List (Nat × Nat) :=
  as.foldl (fun t a =>
    (List.range (a.2.memSize / 0x200000)).foldl (fun t k => tabSet 0 t (a.2.memBase / 0x200000 + k) a.2.colour) t) []

/-- Every chunk whose colour changes is written with zeros under its new colour (R280). -/
def State.recolourMap (s : State) (m : List (Nat × Nat)) : State :=
  let old := s.memc.cmap
  let chunks := (old.map (·.1) ++ m.map (·.1)).filter (fun k => tabGet 0 old k != tabGet 0 m k)
  let s1 := chunks.foldl (fun (s : State) k => s.dropBytes (k * 0x200000) 0x200000) s
  { s1 with memc := { s1.memc with cmap := m, bad := s1.memc.bad.filter (fun e => !chunks.contains (burstLine e.1 / 0x200000)) } }

/-- Step 4 of R158, in its order. -/
def State.wholeLoad (s : State) (a : StbApp) : State :=
  let r := s.stagedOf a
  let img := r.1
  let sec (t : Nat) : List Byte := (sectOf img t).getD []
  let as := marlAllots img
  let cs := marlContents img
  let s1 := (r.2.loadMasks (sec 7)).loadFaults (sec 6)
  let rules := ((marlRules img).getD []).foldl (fun t e => tabSet {} t e.1 e.2) []
  let s2 := (({ s1 with artCur := rules } : State).set R.ART_EPOCH_CURRENT 0).set R.ART_STATUS_BOOTSET 0
  let s3 := s2.loadPower (sec 8)
  let s4 := as.foldl (fun (s : State) e => s.setDome e.1 { allot := some e.2, content := (cs.find? (fun c => c.1 == e.1)).map (·.2) })
    ({ s3 with domes := [] } : State)
  let s5 := (s4.loadShares as).setStb { s4.stb with images := cs.flatMap (fun c => marlImages img c.2) }
  let s6 := cs.foldl (fun (s : State) c => (s.usedSpires c.2).foldl (fun (s : State) p =>
    (s.loadSpire p (marlImage img p)).setSpire p { s.spire p with loaded := some 0 }) s) s5
  let s7 := (s6.loadNetwork (sec 9) (sec 10)).set R.STB_VERSION_VERSION (fld img 8 4)
  let m := colourMap as
  let s8 := s7.recolourMap m
  let s9 := if m = s.flc.cmap then s8 else s8.infoAsk (.cmap m)
  s9.putApp false { a with course := 4, edge := true }

/-- Boot step 8 ends (R118): step 9 begins, and ends at once where RST_CONFIRM was registered earlier (R122). -/
def State.step8Done (s : State) : State := s.set R.RST_BOOT_PHASE (if s.pwr.confirmed then 10 else 9)

/-- Step 5 of R158, once the colour map is stored: dome states by R135, every structure epoch 0. -/
def State.wholeCommit (s : State) : State :=
  if s.flc.info.any (fun w => match w with | .cmap _ => true | _ => false) then s else
  let s1 := (List.range 64).foldl (fun (s : State) d =>
    let m := s.dome d
    let st := if m.allot.isNone then 0 else if m.content.isSome then 2 else 4
    ((((s.setDomeSt d st).setB (R.STB_DOM_STATE_ALLOTTED d) m.allot.isSome).set (R.STB_DOM_STATE_EPOCH d) 0).set
      (R.STB_DOM_VER_VERSION d) (match m.content with | some c => c.version | none => 0))) s
  (s1.settleAll.stbEnd false 7 0 0).step8Done

/-- STB_CTRL.NONE (R159): at boot step 8, with no application under way, the boot goes on with the keep as the only
dome. Dome 0's state, which R159 excepts from UNUSED without naming another, stays as it is; NONE written while an application is
under way is ignored (DESIGN CHOICES, log 14). -/
def State.stbNone (s : State) : State :=
  if s.get R.RST_BOOT_PHASE = 8 ∧ s.stb.app.isNone then (s.set R.STB_STATUS_KEEPONLY 1).step8Done else s

/-! ### The steps of the applications under way, one at each tick -/

/-- The next step of an application. -/
def State.stbStep (s : State) (beside : Bool) (a : StbApp) : State :=
  if a.phase = 1 then s.stbCopyStep beside a
  else if a.phase = 2 then s.stbSignStep beside a
  else if a.kind = 1 then
    if a.edge then s
    else if a.course = 0 then s.stbCheckStep beside a
    else s.stbEdge a
  else if a.phase = 3 then s.stbCheckStep beside a
  else if a.kind = 2 then s.stbAmendStep beside a
  else if a.course = 4 then s.wholeCommit
  else s.wholeLoad a

/-- A tick of the STB: the application and the amend beside it each take a step. -/
def State.stbTick (s : State) : State :=
  let s1 := match s.stb.app with | some a => s.stbStep false a | none => s
  match s.stb.amend, s1.stb.amend with
  | some a, some _ => s1.stbStep true a
  | _, _ => s1

/-! ### Minimum versions (R154) -/

/-- A raise is asked of the flash: ignored with BUSY while BUSY is set. -/
def State.stbRaise (s : State) (asks : List (Option Nat × Nat)) : State :=
  if s.is R.STB_STATUS_BUSY then s.stbBusyErr
  else
    let ws : List InfoW := asks.map (fun a => match a.1 with | none => InfoW.minWhole a.2 | some d => InfoW.minDome d a.2)
    let s1 := ws.foldl (fun (s : State) w => s.infoAsk w) s
    (s1.setStb { s1.stb with raise := asks }).stbBusy

/-- STB_RAISE.WHOLE. -/
def State.raiseWhole (s : State) : State := s.stbRaise [(none, max (s.get R.STB_MINVER_MIN) (s.get R.STB_VERSION_VERSION))]

/-- STB_RAISE.DOMV. -/
def State.raiseDome (s : State) (d : Nat) : State :=
  s.stbRaise [(some (d % 64), max (s.get (R.STB_DOM_MIN_MIN (d % 64))) (s.get (R.STB_DOM_VER_VERSION (d % 64))))]

/-- STB_RAISE with both bits. -/
def State.raiseBoth (s : State) (d : Nat) : State :=
  s.stbRaise [(none, max (s.get R.STB_MINVER_MIN) (s.get R.STB_VERSION_VERSION)),
    (some (d % 64), max (s.get (R.STB_DOM_MIN_MIN (d % 64))) (s.get (R.STB_DOM_VER_VERSION (d % 64))))]

/-- STB_RAISE_DONE (R154): the oldest raise is programmed, and BUSY clears with the last. Behind a keep operation of the flash it
waits (R502, R504). -/
def State.raiseDone (s : State) : State :=
  match s.stb.raise with
  | [] => s
  | (o, v) :: rs =>
    let w := match o with | none => InfoW.minWhole v | some d => InfoW.minDome d v
    let s1 := s.infoFinish w
    if s1.flc.info.contains w then s1 else
    let s2 := match o with | none => s1.set R.STB_MINVER_MIN v | some d => s1.set (R.STB_DOM_MIN_MIN d) v
    (s2.setStb { s2.stb with raise := rs }).stbBusy

end Sys2Proof.Machine
end

