-- ==== Sys2Proof/Machine/Sdh.lean ====
section
/-!
DEFINITION. Sys2Proof/Machine/Sdh.lean: the removable-card host (spec/17_cards.md R527 to R538): identification, block
transfers, the replay-protected memory block and the counter-sealed areas; commands SDH_INIT to POWER_OFF, SD_RESPONSE,
SD_WAIT_TIMEOUT, SD_CARD_PRESENT, SD_CARD_REMOVED and CSA_COMMIT.
-/

namespace Sys2Proof.Machine

/-- Change the host. -/
def State.setSdh (s : State) (k : Sdh) : State := { s with sdh := k }

/-- The transfers of the host (agent 0x2B2, with the domain of its DOME field). -/
def State.sdhX (s : State) : Xfer := { agent := 0x2B2, dom := s.get R.SDH_CFG_DOME, epoch := s.get R.ART_EPOCH_CURRENT }

/-- The DDR buffer. -/
def State.sdhBuf (s : State) : Nat := s.get R.SDH_ADDR_ADDR * 512

/-- An event of the SDH (R542). -/
def State.sdhEvent (s : State) (v : Nat) : State := s.cause R.SDH_EVENTS_CAUSE 336 v

/-- A command's code (R539, R542): vector 336 for OK, 337 otherwise. -/
def State.sdhCode (s : State) (code : Nat) : State :=
  (s.set R.SDH_RESULT_CODE code).sdhEvent (if code = 0 then 336 else 337)

/-! ### The bus (R530) -/

/-- One bit into CRC7 (x^7 + x^3 + 1), as the card standards have it (PRESUMED, log 36). -/
def sdCrc7Bit (c : Nat) (b : Bool) : Nat := if c.testBit 6 == b then c * 2 % 128 else (c * 2 % 128) ^^^ 0x09

/-- One bit into CRC16 (x^16 + x^12 + x^5 + 1, from 0). -/
def sdCrc16Bit (c : Nat) (b : Bool) : Nat := if c.testBit 15 == b then c * 2 % 65536 else (c * 2 % 65536) ^^^ 0x1021

/-- Bits of a byte, the highest first. -/
def bitsMsb (b : Byte) : List Bool := (List.range 8).map (fun i => b.toNat.testBit (7 - i))

/-- The CRC7 of bytes. -/
def sdCrc7 (bs : List Byte) : Nat := bs.foldl (fun c b => (bitsMsb b).foldl sdCrc7Bit c) 0

/-- The word of a command on CMD: start and direction, index, argument, CRC7, end bit. -/
def sdCommand (idx arg : Nat) : Nat :=
  let h := 0x4000000000 + idx % 64 * 2 ^ 32 + arg % 2 ^ 32
  h * 256 + sdCrc7 (toBE 5 h) * 2 + 1

/-- The bits that line `l` carries of bytes: every bit on one line, or bits 4 + l and l of each byte on four. -/
def sdLine (wide : Bool) (l : Nat) (bs : List Byte) : List Bool :=
  bs.flatMap (fun b => if wide then [b.toNat.testBit (4 + l), b.toNat.testBit l] else bitsMsb b)

/-- Every other byte, from the first. -/
def everyOther : List Byte → List Byte
  | [] => []
  | [b] => [b]
  | b :: _ :: r => b :: everyOther r

/-- The CRC16s of a block, 16 bits each, DAT0 first; in DDR50 two a line: over the bytes sent on rising edges (the first, the
third, …), then over those on falling edges. -/
def sdBlockCrc (wide ddr : Bool) (bs : List Byte) : List Nat :=
  (List.range (if wide then 4 else 1)).flatMap (fun l =>
    if ddr then [(sdLine wide l (everyOther bs)).foldl sdCrc16Bit 0, (sdLine wide l (everyOther (bs.drop 1))).foldl sdCrc16Bit 0]
    else [(sdLine wide l bs).foldl sdCrc16Bit 0])

/-- What a phase receives: a response with CRC7, blocks with CRC16s, or nothing that a CRC covers (R530): the OCR of an MMC card's
identification, a card's busy. -/
inductive SdIn where
  | none | response | blocks
  deriving DecidableEq, Repr

/-- What the phase that runs receives. CMD8 and CMD55 of an SD card's identification are answered with a CRC7. -/
def State.sdIn (s : State) (data : List Byte) : SdIn :=
  match s.sdh.phase with
  | .identify => if fld data 0 1 = 1 then .response else .none
  | .switch => .response
  | .select => .response
  | .mode => .response
  | .command => .response
  | .sleep => .response
  | .block => if s.sdh.op = 2 then .blocks else .none
  | .counter => .blocks
  | .frames => .blocks
  | .result => .blocks
  | .header _ => .blocks
  | .data _ => .blocks
  | .verify => .blocks
  | _ => .none

/-- The code that what the card sends must carry: the CRC7 of a response; the CRC16s of its blocks of 512 bytes, the first in
the lowest bits. -/
def State.sdCheck (s : State) (data : List Byte) : Nat :=
  match s.sdIn data with
  | .none => 0
  | .response => sdCrc7 data
  | .blocks => ((blocks 512 data).flatMap (sdBlockCrc s.sdh.wide (s.get R.SDH_STATUS_MODE == 5))).foldr (fun c n => c + 65536 * n) 0

/-- What the card sends passes its check. -/
def State.sdPasses (s : State) (crc : Nat) (data : List Byte) : Bool := s.sdIn data == .none || crc == s.sdCheck data

/-- The command words that begin a phase. -/
def State.sdSend (s : State) (ws : List (Nat × Nat)) : State :=
  s.setSdh { s.sdh with cmds := ws.map (fun w => sdCommand w.1 w.2) }

/-- The argument that addresses card block `b`: a byte address on SDSC (R531). -/
def State.sdArg (s : State) (b : Nat) : Nat := if s.sdh.bytes then 512 * b else b

/-- The commands of a transfer of `n` blocks at `b` (R531): CMD18 or CMD25, with CMD23 before it where the card supports it
and CMD12 after it otherwise; CMD17 or CMD24 for one block (PRESUMED, log 36). -/
def State.sdMoves (s : State) (read : Bool) (b n : Nat) : State :=
  let many := if read then 18 else 25
  s.sdSend (if n = 1 then [(if read then 17 else 24, s.sdArg b)]
    else if s.sdh.cmd23 then [(23, n), (many, s.sdArg b)] else [(many, s.sdArg b), (12, 0)])

/-- The commands of RPMB frames: `w` frames written, then `r` read, each behind CMD23. A frame that programs or writes is
written reliably. -/
def State.sdRpmbMoves (s : State) (reliable : Bool) (w r : Nat) : State :=
  s.sdSend ([(23, w + if reliable then 2 ^ 31 else 0), (25, 0)] ++ (if reliable then [(23, 1), (25, 0)] else []) ++ [(23, r), (18, 0)])

/-- The commands of identification (R529), SD's and then MMC's: S18R is bit 24 of the argument of ACMD41. The other bits, the
high-capacity bits and the voltage window, are the card standards' (PRESUMED, log 36). -/
def State.sdIdentify (s : State) : State :=
  s.sdSend [(0, 0), (8, 0x1AA), (55, 0), (41, 0x40FF8000 + if s.sdh.s18r then 2 ^ 24 else 0), (0, 0), (1, 0x40FF8000)]

/-- The running operation ends; an RPMB_WRITE or SETTLE that leaves SDH_RPMB_PEND.VALID set raises vector 339 (R534, R542). -/
def State.sdhEnd (s : State) (code : Nat) : State :=
  let k := s.sdh
  let s1 := ((s.setSdh { k with op := 0, phase := .idle, tries := 0, buf := [], todo := [], key := [], heads := [], cmds := [], fell := false }).set
    R.SDH_STATUS_BUSY 0).sdhCode code
  if (k.op = 7 ∨ k.op = 12) ∧ s.is R.SDH_RPMB_PEND_VALID then s1.sdhEvent 339 else s1

/-- What refuses a command (R529, R531): a busy host; no card, or one that is not identified where it must be. -/
def State.sdhRefusal (s : State) (ready : Bool) : Option Nat :=
  if s.is R.SDH_STATUS_BUSY then some 0x072B
  else if ¬ s.is R.SDH_STATUS_PRESENT ∨ (ready ∧ ¬ s.is R.SDH_STATUS_READY) then some 0x0720 else none

/-- An operation begins, waiting for the card. -/
def State.sdhBegin (s : State) (op : Nat) (ph : SdPhase) : State :=
  ((s.setSdh { s.sdh with op := op, phase := ph, tries := 0, buf := [], todo := [], key := [], heads := [], cmds := [], clkOff := false }).set
    R.SDH_STATUS_BUSY 1).set R.SDH_RESULT_DONE 0

/-- The card is powered off and forgotten (R528, R532). -/
def State.sdhOff (s : State) : State :=
  ((((((s.setSdh { s.sdh with ven := false, cap := 0, woke := false, rca := 0, bytes := false, cmd23 := false, wide := false, clkOff := false }).set R.SDH_STATUS_READY 0).set R.SDH_STATUS_V18 0).set
    R.SDH_STATUS_TYPE 0).set R.SDH_STATUS_MODE 0).set R.SDH_STATUS_RPMB 0).set R.SDH_STATUS_SLEEP 0

/-! ### INIT (R529) -/

/-- INIT: the card is powered and identified. -/
def State.sdhInit (s : State) : State :=
  match s.sdhRefusal false with
  | some c => s.sdhCode c
  | none =>
    let s1 := s.sdhOff.sdhBegin 1 .identify
    (s1.setSdh { s1.sdh with ven := true, s18r := s.is R.SDH_CFG_UHS && !s.is R.SDH_STATUS_NO_UHS }).sdIdentify

/-- The card reports itself high-capacity or not, and its address is got or given: CMD2, CMD3, CMD9 and CMD7. -/
def State.sdAddress (s : State) : State :=
  (s.setSdh { s.sdh with phase := .select, rca := 1 }).sdSend
    [(2, 0), (3, if s.get R.SDH_STATUS_TYPE = 2 then 2 ^ 16 else 0), (9, 2 ^ 16), (7, 2 ^ 16)]

/-- The card answers identification: its type (1 SD, 2 MMC), and whether it reports S18A. -/
def State.sdIdentified (s : State) (type : Nat) (s18a : Bool) : State :=
  if type = 0 ∨ 2 < type then s.sdhEnd 0x0726
  else
    let s1 := s.set R.SDH_STATUS_TYPE type
    if type = 1 ∧ s18a ∧ s.sdh.s18r then (s1.setSdh { s1.sdh with phase := .switch }).sdSend [(11, 0)] else s1.sdAddress

/-- The voltage switch fails: the card is powered off for 100 ms, and the steps repeat with S18R = 0. -/
def State.sdSwitchFail (s : State) : State :=
  s.sdhOff.setSdh { s.sdhOff.sdh with phase := .off, s18r := false, offAt := s.tbase, cmds := [], fell := true }

/-- The 100 ms are over: identification begins again. -/
def State.sdAgain (s : State) : State :=
  if s.sdh.phase = .off ∧ s.pastBase (s.sdh.offAt + 100000000) then
    (s.setSdh { s.sdh with phase := .identify, ven := true }).sdIdentify
  else s

/-- The fastest mode a card (its modes as a mask) and MAXMODE allow at the voltage in use. -/
def sdMode (mask maxMode : Nat) (v18 : Bool) : Nat :=
  (List.range 6).foldl (fun b m => if mask.testBit m && decide (m ≤ maxMode) && (decide (2 ≤ m) == v18) then m else b)
    (if v18 then 2 else 0)

/-- The card's CID, capacity in blocks, flags (an RPMB; byte addresses; CMD23), modes and, of an SD card, its address. The bus
goes to the width of SDH_CFG (CMD55 and ACMD6, or CMD6), and the mode is selected (CMD6). -/
def State.sdSelected (s : State) (data : List Byte) : State :=
  let cid := ofBE (fitBytes 16 data)
  let s1 := ((s.set R.SDH_CID_LO_CID cid).set R.SDH_CID_HI_CID (cid / 2 ^ 64)).setB R.SDH_STATUS_RPMB
    (s.get R.SDH_STATUS_TYPE == 2 && bitOf (fld data 20 1) 0)
  let sd := s.get R.SDH_STATUS_TYPE == 1
  let rca := if sd then fld data 22 2 else 1
  let mode := sdMode (fld data 21 1) (s.get R.SDH_CFG_MAXMODE) (s.is R.SDH_STATUS_V18)
  let w := s.is R.SDH_CFG_WIDTH
  (s1.setSdh { s1.sdh with
    phase := .mode, cap := fld data 16 4, buf := [BitVec.ofNat 8 (fld data 21 1)], rca := rca, wide := w
    bytes := bitOf (fld data 20 1) 1, cmd23 := bitOf (fld data 20 1) 2 }).sdSend
    (if sd then [(55, rca * 2 ^ 16), (6, if w then 2 else 0), (6, 0x80FFFFF0 + [0, 1, 0, 1, 2, 4].getD mode 0)]
     else [(6, 0x03B70000 + if w then 0x100 else 0), (6, 0x03B90000 + if mode = 1 then 0x100 else 0)])

/-- The mode is in effect: the card is identified, and one whose voltage switch failed keeps to 3.3 V (NO_UHS). -/
def State.sdReady (s : State) : State :=
  let s := if s.sdh.fell then s.set R.SDH_STATUS_NO_UHS 1 else s
  ((s.set R.SDH_STATUS_MODE (sdMode (fld s.sdh.buf 0 1) (s.get R.SDH_CFG_MAXMODE) (s.is R.SDH_STATUS_V18))).set
    R.SDH_STATUS_READY 1).sdhEnd 0

/-! ### READ, WRITE, SLEEP, AWAKE, POWER_OFF (R531, R532) -/

/-- The block that a write sends next is read from DDR. -/
def State.sdFetch (s : State) : State :=
  let r := s.rd s.sdhX (s.sdhBuf + 512 * s.get R.SDH_RESULT_DONE) 512
  r.2.setSdh { r.2.sdh with sent := r.1 }

/-- READ (2) or WRITE (3). -/
def State.sdhMove (s : State) (op : Nat) : State :=
  match s.sdhRefusal true with
  | some c => s.sdhCode c
  | none =>
    let s1 := s.sdhBegin op .command
    if s.get R.SDH_COUNT_BLOCKS = 0 ∨ s.sdh.cap < s.get R.SDH_ARG_BLOCK + s.get R.SDH_COUNT_BLOCKS then s1.sdhEnd 0x0725
    else (s1.setSdh { s1.sdh with blk := s.get R.SDH_ARG_BLOCK }).sdMoves (op == 2) (s.get R.SDH_ARG_BLOCK) (s.get R.SDH_COUNT_BLOCKS)

/-- A block of READ or WRITE is complete. -/
def State.sdBlock (s : State) (data : List Byte) : State :=
  let n := s.get R.SDH_RESULT_DONE
  let s1 := if s.sdh.op = 2 then s.wr s.sdhX (s.sdhBuf + 512 * n) (fitBytes 512 data) else s
  let s2 := (s1.setSdh { s1.sdh with tries := 0, blk := s1.sdh.blk + 1 }).set R.SDH_RESULT_DONE (n + 1)
  if n + 1 = s.get R.SDH_COUNT_BLOCKS then s2.sdhEnd 0 else if s.sdh.op = 3 then s2.sdFetch else s2

/-- The command that puts a card to sleep, or wakes it (R532): CMD5 on an MMC card, CMD7 on an SD card, which is deselected by an
address that is not its own, and without a response. -/
def State.sdSleepCmd (s : State) (sleep : Bool) : State :=
  s.sdSend (if s.get R.SDH_STATUS_TYPE = 1 then [(7, if sleep then 0 else s.sdh.rca * 2 ^ 16)]
    else [(5, s.sdh.rca * 2 ^ 16 + if sleep then 2 ^ 15 else 0)])

/-- An SD card sleeps: it is deselected, and its clock stops. -/
def State.sdRest (s : State) : State :=
  let s1 := s.sdSleepCmd true
  (s1.setSdh { s1.sdh with clkOff := s.get R.SDH_STATUS_TYPE == 1 }).set R.SDH_STATUS_SLEEP 1

/-- SLEEP (4) or AWAKE (5). -/
def State.sdhSleep (s : State) (op : Nat) : State :=
  match s.sdhRefusal true with
  | some c => s.sdhCode c
  | none =>
    let s1 := s.sdhBegin op .sleep
    if op = 4 ∧ s.get R.SDH_STATUS_TYPE = 1 then (s1.sdhEnd 0).sdRest else s1.sdSleepCmd (op == 4)

/-- POWER_OFF. -/
def State.sdhPowerOff (s : State) : State :=
  match s.sdhRefusal false with
  | some c => s.sdhCode c
  | none => (s.sdhOff.set R.SDH_RESULT_DONE 0).sdhCode 0

/-! ### RPMB (R533, R534) -/

/-- A frame: key or MAC, data, nonce, write counter, address, block count, result and type. -/
def rpmbFrame (mac data nonce : List Byte) (counter addr count type : Nat) : List Byte :=
  zeros 196 ++ fitBytes 32 mac ++ fitBytes 256 data ++ fitBytes 16 nonce ++ toBE 4 counter ++ toBE 2 addr ++ toBE 2 count
    ++ toBE 2 0 ++ toBE 2 type

/-- The MAC over frames: bytes 228 to 511 of each. -/
def rpmbMac (key : List Byte) (frames : List (List Byte)) : List Byte := hmac 1 key (frames.flatMap (fun f => f.drop 228))

/-- The frames of a data transfer. -/
def rpmbSplit (data : List Byte) : List (List Byte) := blocks 512 data

/-- Frames received verify: each whole, of the type, with result 0; the nonce where one was sent; the MAC in the last. -/
def rpmbOk (key nonce : List Byte) (frames : List (List Byte)) (type : Nat) : Bool :=
  !frames.isEmpty && frames.all (fun f => f.length == 512 && ofBE (sliceB f 508 2) == 0 && ofBE (sliceB f 510 2) == type
      && (nonce.isEmpty || sliceB f 484 16 == nonce))
    && sliceB (frames.getLastD []) 196 32 == rpmbMac key frames

/-- The key of RPMB operations: dome 0, ALG 6, LEN 32, usage HMAC. -/
def State.rpmbKey (s : State) : Option (List Byte) × State :=
  let r := s.keyRead 0 (s.get R.SDH_KEY_INDEX)
  (r.1.bind (fun m => if m.alg = 6 ∧ m.key.length = 32 ∧ m.usage.testBit 9 then some m.key else none), r.2)

/-- The nonce of the next read, which is counted: DTIME and the read count, little-endian (R8). -/
def State.rpmbNonce (s : State) : State :=
  s.setSdh { s.sdh with nonce := toLE 8 s.nowNs ++ toLE 8 (s.sdh.reads % 2 ^ 64), reads := (s.sdh.reads + 1) % 2 ^ 64 }

/-- Ask for the write counter. -/
def State.rpmbAskCounter (s : State) : State :=
  let s1 := s.rpmbNonce
  (s1.setSdh { s1.sdh with phase := .counter, tries := 0, sent := rpmbFrame [] [] s1.sdh.nonce 0 0 0 2 }).sdRpmbMoves false 1 1

/-- Ask for COUNT blocks of data at SDH_ARG. -/
def State.rpmbAskData (s : State) : State :=
  let s1 := s.rpmbNonce
  (s1.setSdh { s1.sdh with
    phase := .frames, tries := 0, sent := rpmbFrame [] [] s1.sdh.nonce 0 (s.get R.SDH_ARG_BLOCK) (s.get R.SDH_COUNT_BLOCKS) 4 }).sdRpmbMoves
      false 1 (s.get R.SDH_COUNT_BLOCKS)

/-- The area of an RPMB transfer is out of range. -/
def State.rpmbRange (s : State) : Bool :=
  s.get R.SDH_COUNT_BLOCKS == 0 || decide (65536 < s.get R.SDH_ARG_BLOCK + s.get R.SDH_COUNT_BLOCKS)

/-- An RPMB operation (6 RPMB_COUNTER, 7 RPMB_WRITE, 8 RPMB_READ, 9 RPMB_KEY, 12 SETTLE): its checks, then its first
frames. A SETTLE with no write pending ends with a free code: the spec gives it none. -/
def State.sdhRpmb (s : State) (op : Nat) : State :=
  match s.sdhRefusal true with
  | some c => s.sdhCode c
  | none =>
    let s1 := s.sdhBegin op .counter
    let valid := s.is R.SDH_RPMB_PEND_VALID
    let cid := s.get R.SDH_CID_HI_CID * 2 ^ 64 + s.get R.SDH_CID_LO_CID
    if op = 12 ∧ valid ∧ cid ≠ s.sdh.pendCid then s1.sdhEnd 0x072A
    else if ¬ s.is R.SDH_STATUS_RPMB then s1.sdhEnd 0x0726
    else if op ≠ 12 ∧ valid then s1.sdhEnd 0x0729
    else if op = 12 ∧ ¬ valid then (let d := s1.draw 16; d.2.sdhEnd d.1)
    else if op ≠ 6 ∧ op ≠ 9 ∧ s.rpmbRange then s1.sdhEnd 0x0725
    else
      let k := s1.rpmbKey
      match k.1 with
      | none => k.2.sdhEnd 0x0727
      | some key =>
        let s2 := k.2.setSdh { k.2.sdh with key := key }
        if op = 8 then s2.rpmbAskData
        else if op = 9 then (s2.setSdh { s2.sdh with phase := .result, sent := rpmbFrame key [] [] 0 0 0 1 }).sdRpmbMoves true 1 1
        else s2.rpmbAskCounter

/-- The frames of a write at counter `c`: the last carries the MAC. -/
def rpmbWriteFrames (key data : List Byte) (c addr count : Nat) : List (List Byte) :=
  let fs := (blocks 256 data).map (fun d => rpmbFrame [] d [] c addr count 3)
  let mac := rpmbMac key fs
  fs.dropLast ++ (fs.drop (fs.length - 1)).map (fun f => patchB f 196 mac)

/-- The write counter is read: RPMB_COUNTER ends; RPMB_WRITE records what is pending and sends its frames; SETTLE
decides. -/
def State.rpmbCounter (s : State) (data : List Byte) : State :=
  let k := s.sdh
  if ¬ rpmbOk k.key k.nonce [data] 0x0200 then s.sdhEnd 0x0728
  else
    let c := ofBE (sliceB data 500 4)
    let s1 := s.setSdh { k with counter := c }
    if k.op = 6 then s1.sdhEnd 0
    else if k.op = 7 then
      let n := s.get R.SDH_COUNT_BLOCKS
      let r := s1.rd s.sdhX s.sdhBuf (256 * n)
      let fs := rpmbWriteFrames k.key r.1 c (s.get R.SDH_ARG_BLOCK) n
      let s2 := (r.2.set R.SDH_RPMB_PEND_COUNTER (c + 1)).set R.SDH_RPMB_PEND_VALID 1
      (s2.setSdh { s2.sdh with
        phase := .result, tries := 0, sent := fs.flatten, pendMac := sliceB (fs.getLastD []) 196 32
        pendCid := s.get R.SDH_CID_HI_CID * 2 ^ 64 + s.get R.SDH_CID_LO_CID }).sdRpmbMoves true n 1
    else
      let p := s.get R.SDH_RPMB_PEND_COUNTER
      if c = p then s1.rpmbAskData
      else if (c + 1) % 2 ^ 32 = p then (s1.set R.SDH_RPMB_PEND_VALID 0).sdhEnd 0x0729
      else let d := s1.draw 16; d.2.sdhEnd d.1

/-- The frames of a read: RPMB_READ writes them to DDR; SETTLE compares them with the data at SDH_ADDR, and a block that
differs, for which the spec names no code, ends with a free one and leaves VALID set. -/
def State.rpmbFrames (s : State) (data : List Byte) : State :=
  let k := s.sdh
  let fs := rpmbSplit data
  if ¬ rpmbOk k.key k.nonce fs 0x0400 ∨ fs.length ≠ s.get R.SDH_COUNT_BLOCKS then s.sdhEnd 0x0728
  else
    let bs := fs.flatMap (fun f => sliceB f 228 256)
    if k.op = 8 then ((s.wr s.sdhX s.sdhBuf bs).set R.SDH_RESULT_DONE fs.length).sdhEnd 0
    else
      let r := s.rd s.sdhX s.sdhBuf bs.length
      if r.1 = bs then (r.2.set R.SDH_RPMB_PEND_VALID 0).sdhEnd 0
      else let d := r.2.draw 16; d.2.sdhEnd d.1

/-- The result frame of RPMB_WRITE or RPMB_KEY. -/
def State.rpmbResult (s : State) (data : List Byte) : State :=
  let k := s.sdh
  if k.op = 9 then
    s.sdhEnd (if data.length = 512 ∧ ofBE (sliceB data 508 2) = 0 ∧ ofBE (sliceB data 510 2) = 0x0100 then 0 else 0x0728)
  else if rpmbOk k.key [] [data] 0x0300 ∧ ofBE (sliceB data 500 4) = s.get R.SDH_RPMB_PEND_COUNTER then
    ((s.set R.SDH_RPMB_PEND_VALID 0).set R.SDH_RESULT_DONE (s.get R.SDH_COUNT_BLOCKS)).sdhEnd 0
  else s.sdhEnd 0x0728

/-! ### Counter-sealed areas (R535 to R537) -/

/-- Bytes 0x00 to 0x3F of a record's header. -/
def csaHead (area c nblk : Nat) : List Byte :=
  toLE 4 0x41534353 ++ toLE 4 area ++ toLE 8 c ++ toLE 4 nblk ++ toLE 8 devId ++ zeros 36

/-- A header read is that of the record of a counter. -/
def csaMatch (head : List Byte) (area c nblk : Nat) : Bool :=
  head.take 64 == csaHead area c nblk && head.length == 512 && allZero (head.drop 0x50)

/-- The IV of a record. -/
def csaIv (area c : Nat) : List Byte := toLE 4 area ++ toLE 8 c

/-- The data of a record whose tag verifies. -/
def csaOpen (key head data : List Byte) (area c : Nat) : Option (List Byte) :=
  let p := gcmDec (aesEnc key) (csaIv area c) (head.take 64) data (sliceB head 0x40 16)
  if p.2 then some p.1 else none

/-- The key of CSA operations: an AES-256 key of dome 0 with usage KEK. -/
def State.csaKey (s : State) : Option (List Byte) × State :=
  let r := s.keyRead 0 (s.get R.SDH_KEY_INDEX)
  (r.1.bind (fun m => if m.alg = 3 ∧ m.usage.testBit 8 then some m.key else none), r.2)

/-- CSA_WRITE (10) or CSA_READ (11) of an area: its checks, then the first header. -/
def State.sdhCsa (s : State) (op area : Nat) : State :=
  match s.sdhRefusal true with
  | some c => s.sdhCode c
  | none =>
    let n := s.get R.SDH_COUNT_BLOCKS
    let s1 := s.sdhBegin op (.header 0)
    if n = 0 ∨ 2048 < n ∨ s.sdh.cap < s.get R.SDH_ARG_BLOCK + 2 * (n + 1) then s1.sdhEnd 0x0725
    else
      let k := s1.csaKey
      match k.1 with
      | none => k.2.sdhEnd 0x0727
      | some key =>
        (k.2.setSdh { k.2.sdh with key := key, area := area, blk := s.get R.SDH_ARG_BLOCK }).sdMoves true (s.get R.SDH_ARG_BLOCK) 1

/-- The card block of position `p`. -/
def State.csaBase (s : State) (p : Nat) : Nat := s.get R.SDH_ARG_BLOCK + p * (s.get R.SDH_COUNT_BLOCKS + 1)

/-- Position `p` holds the header of the record in force. -/
def State.csaAt (s : State) (p : Nat) : Bool :=
  csaMatch (s.sdh.heads.getD p []) s.sdh.area (s.csaCount s.sdh.area) (s.get R.SDH_COUNT_BLOCKS)

/-- CSA_WRITE sends the record of the next counter to a position: data blocks, then the header. -/
def State.csaSend (s : State) (p : Nat) : State :=
  let n := s.get R.SDH_COUNT_BLOCKS
  let c := (s.csaCount s.sdh.area + 1) % 2 ^ 64
  let r := s.rd s.sdhX s.sdhBuf (512 * n)
  let head := csaHead s.sdh.area c n
  let g := gcmEnc (aesEnc s.sdh.key) (csaIv s.sdh.area c) head r.1
  let all := g.1 ++ fitBytes 512 (head ++ g.2)
  (r.2.setSdh { r.2.sdh with phase := .csaWrite, counter := c, todo := all, sent := all.take 512, blk := s.csaBase p + 1 }).sdMoves
    false (s.csaBase p + 1) n

/-- CSA_READ reads the data of position `p`. -/
def State.csaFetch (s : State) (p : Nat) : State :=
  (s.setSdh { s.sdh with phase := .data p, buf := [], blk := s.csaBase p + 1 }).sdMoves true (s.csaBase p + 1)
    (s.get R.SDH_COUNT_BLOCKS)

/-- Both headers are read: CSA_READ reads the record accepted, or ends; CSA_WRITE takes the position that does not hold
it. -/
def State.csaLocated (s : State) : State :=
  if s.sdh.op = 11 then
    (if s.csaAt 0 then s.csaFetch 0
     else if s.csaAt 1 then s.csaFetch 1
     else s.sdhEnd 0x0729)
  else s.csaSend (if s.csaAt 0 then 1 else 0)

/-- A header is read. -/
def State.csaHeader (s : State) (p : Nat) (data : List Byte) : State :=
  let s1 := s.setSdh { s.sdh with heads := s.sdh.heads ++ [data], tries := 0 }
  if p = 0 then (s1.setSdh { s1.sdh with phase := .header 1, blk := s.csaBase 1 }).sdMoves true (s.csaBase 1) 1 else s1.csaLocated

/-- A data block of CSA_READ is read; after the last, the record is accepted, or the other position is tried. -/
def State.csaData (s : State) (p : Nat) (data : List Byte) : State :=
  let k := s.sdh
  let buf := k.buf ++ fitBytes 512 data
  let s1 := (s.setSdh { k with buf := buf, tries := 0, blk := k.blk + 1 }).set R.SDH_RESULT_DONE (s.get R.SDH_RESULT_DONE + 1)
  if buf.length < 512 * s.get R.SDH_COUNT_BLOCKS then s1
  else
    match csaOpen k.key (k.heads.getD p []) buf k.area (s.csaCount k.area) with
    | some pt => (s1.wr s.sdhX s.sdhBuf pt).sdhEnd 0
    | none =>
      if p = 0 ∧ s.csaAt 1 then (s1.csaFetch 1).set R.SDH_RESULT_DONE 0
      else s1.sdhEnd 0x0729

/-- A block of CSA_WRITE is on the card; after the header, the record is read back. -/
def State.csaWrote (s : State) : State :=
  let k := s.sdh
  let rest := k.todo.drop 512
  let base := s.csaBase (if s.csaAt 0 then 1 else 0)
  let s1 := s.set R.SDH_RESULT_DONE (s.get R.SDH_RESULT_DONE + 1)
  if rest.isEmpty then
    (s1.setSdh { k with phase := .verify, todo := [], buf := [], tries := 0, blk := base }).sdMoves true base (s.get R.SDH_COUNT_BLOCKS + 1)
  else if rest.length ≤ 512 then
    (s1.setSdh { k with todo := rest, sent := rest, tries := 0, blk := base }).sdMoves false base 1
  else s1.setSdh { k with todo := rest, sent := rest.take 512, tries := 0, blk := k.blk + 1 }

/-- A block of the record read back, the header first; after the last, the tag is verified and the counter's record is
asked for. -/
def State.csaVerify (s : State) (data : List Byte) : State :=
  let k := s.sdh
  let buf := k.buf ++ fitBytes 512 data
  let s1 := s.setSdh { k with buf := buf, tries := 0, blk := k.blk + 1 }
  let n := s.get R.SDH_COUNT_BLOCKS
  if buf.length < 512 * (n + 1) then s1
  else
    let head := buf.take 512
    if csaMatch head k.area k.counter n ∧ (csaOpen k.key head (buf.drop 512) k.area k.counter).isSome then
      (s1.setSdh { s1.sdh with phase := .commit, buf := [] }).infoAsk (.csa k.area k.counter)
    else s1.sdhEnd 0x0728

/-- CSA_COMMIT: the counter's record is committed while no keep flash operation runs or is suspended (R502, R537), or has been
already. -/
def State.csaCommit (s : State) : State :=
  let w : InfoW := .csa s.sdh.area s.sdh.counter
  if s.sdh.phase = .commit ∧ (s.flc.op.isNone ∨ ¬ s.flc.info.contains w) then (s.infoFinish w).sdhEnd 0 else s

/-! ### Events of the card -/

/-- The card answers well. -/
def State.sdGood (s : State) (data : List Byte) : State :=
  match s.sdh.phase with
  | .idle => s
  | .identify => s.sdIdentified (fld data 0 1) (fld data 1 1 == 1)
  | .off => s
  | .switch => (s.set R.SDH_STATUS_V18 1).sdAddress
  | .select => s.sdSelected data
  | .mode => s.sdReady
  | .command =>
    let s1 := s.setSdh { s.sdh with phase := .block }
    if s.sdh.op = 3 then s1.sdFetch else s1
  | .block => s.sdBlock data
  | .sleep => (s.setB R.SDH_STATUS_SLEEP (s.sdh.op == 4)).sdhEnd 0
  | .counter => s.rpmbCounter data
  | .frames => s.rpmbFrames data
  | .result => s.rpmbResult data
  | .header p => s.csaHeader p data
  | .data p => s.csaData p data
  | .csaWrite => s.csaWrote
  | .verify => s.csaVerify data
  | .commit => s

/-- A phase that moves a block, which is repeated after a CRC failure (R530). -/
def SdPhase.moves : SdPhase → Bool
  | .block => true
  | .counter => true
  | .frames => true
  | .result => true
  | .header _ => true
  | .data _ => true
  | .csaWrite => true
  | .verify => true
  | _ => false

/-- A CRC failure (R530): the block is repeated up to SDH_CFG.RETRIES times; beyond that, and for a response, SD_CRC. -/
def State.sdCrc (s : State) : State :=
  if s.sdh.phase.moves ∧ s.sdh.tries < s.get R.SDH_CFG_RETRIES then
    let s1 := (s.setSdh { s.sdh with tries := s.sdh.tries + 1 }).count R.SDH_CRC_RETRY_COUNT
    if s.sdh.phase = .block ∨ s.sdh.phase = .csaWrite then s1.sdMoves (s.sdh.op == 2) s.sdh.blk 1 else s1
  else s.sdhEnd 0x0723

/-- The phase that runs sends a block or RPMB frames, whose CRC the card checks. -/
def State.sdWrites (s : State) : Bool :=
  match s.sdh.phase with
  | .block => s.sdh.op == 3
  | .csaWrite | .counter | .frames | .result => true
  | _ => false

/-- The operation that runs reads the DDR buffer: WRITE, RPMB_WRITE, CSA_WRITE or SETTLE. -/
def State.sdReads (s : State) : Bool := s.sdh.op == 3 || s.sdh.op == 7 || s.sdh.op == 10 || s.sdh.op == 12

/-- SD_RESPONSE: 0 a response, a block with its CRC code, or the end of busy; 1 the CRC status token 0b101 of a written block;
2 a card status with an error bit, with its CRC7; 3 neither CMD8 and ACMD41 nor CMD1 answered. The code received is checked
against the bytes received (R530). -/
def State.sdResponse (s : State) (kind crc : Nat) (data : List Byte) : State :=
  match s.sdh.phase with
  | .idle => s
  | .commit => s
  | .off => s
  | .switch => if kind = 0 ∧ s.sdPasses crc data then s.sdGood data else s.sdSwitchFail
  | ph =>
    if kind = 1 then (if s.sdWrites then s.sdCrc else s)
    else if kind = 2 then (if crc = sdCrc7 data then s.sdhEnd 0x0724 else s.sdhEnd 0x0723)
    else if kind = 3 then (if ph = .identify then s.sdhEnd 0x0726 else s)
    else if ¬ s.sdPasses crc data then s.sdCrc
    else if s.sdReads then s.afterBank s.sdhX s.sdhBuf 1 (.sd kind crc data) fun s => s.sdGood data
    else s.sdGood data

/-- SD_WAIT_TIMEOUT (R529, R531): the voltage switch fails; any other wait ends the operation with SD_TIMEOUT. -/
def State.sdTimeout (s : State) : State :=
  match s.sdh.phase with
  | .idle => s
  | .commit => s
  | .off => s
  | .switch => s.sdSwitchFail
  | _ => s.sdhEnd 0x0722

/-- SD_CARD_PRESENT (R528). -/
def State.sdPresent (s : State) : State :=
  if s.is R.SDH_STATUS_PRESENT then s else (s.set R.SDH_STATUS_PRESENT 1).sdhEvent 338

/-- SD_CARD_REMOVED (R528, R538): the operation ends with SD_REMOVED, but for a commit, which completes. -/
def State.sdRemoved (s : State) : State :=
  if s.is R.SDH_STATUS_PRESENT then
    let s1 := if s.sdh.phase = .idle ∨ s.sdh.phase = .commit then s else s.sdhEnd 0x0721
    ((s1.sdhOff.set R.SDH_STATUS_PRESENT 0).set R.SDH_STATUS_NO_UHS 0).sdhEvent 338
  else s

/-- A stop cause of R505, or the end of main power, meets the card (R532, R538). A record that commits stands by the rules of
the commit word, where the FLC was writing it (R506), and is not written where it only waited. -/
def State.sdStop (s : State) : State :=
  match s.sdh.phase with
  | .idle => s.sdhOff
  | .commit =>
    let s1 := s.setFlc { s.flc with info := s.flc.info.erase (.csa s.sdh.area s.sdh.counter) }
    (s1.sdhEnd 0x0721).sdhOff
  | _ => (s.sdhEnd 0x0721).sdhOff

/-- DEEP puts the card to SLEEP, and its exit restores it (R532). -/
def State.sdDeep (s : State) : State :=
  if s.is R.SDH_STATUS_READY ∧ ¬ s.is R.SDH_STATUS_SLEEP then
    (s.setSdh { s.sdh with woke := true }).sdRest
  else s

/-- The exit from DEEP wakes a card that DEEP put to SLEEP. -/
def State.sdWake (s : State) : State :=
  if s.sdh.woke then ((s.setSdh { s.sdh with woke := false, clkOff := false }).sdSleepCmd false).set R.SDH_STATUS_SLEEP 0 else s

end Sys2Proof.Machine
end

