-- ==== Sys2Proof/Machine/Clf.lean ====
section
/-!
DEFINITION. Sys2Proof/Machine/Clf.lean: the contactless reader (spec/18_contactless.md R543 to R551): commands FIELD_ON,
CARRIER_GUARD_END, CLF_ACTIVATE, CLF_EXCHANGE, CLF_AUTH, SECURE_EXCHANGE, CLF_DEACTIVATE, FIELD_OFF, CLF_FRAME_RECEIVE,
CLF_FWT_EXPIRY and CARRIER_RESET_END.
-/

namespace Sys2Proof.Machine

/-! ### AES-CCM (NIST SP 800-38C) with a nonce of 13 bytes and a tag of 8 (R551) -/

/-- The key stream block of a counter. -/
def ccmBlock (k nonce : List Byte) (i : Nat) : List Byte := aesEnc k ([1] ++ nonce ++ toBE 2 i)

/-- Encrypt or decrypt. -/
def ccmXor (k nonce m : List Byte) : List Byte :=
  ((blocks 16 m).zip (List.range (blocks 16 m).length)).flatMap (fun b => xorB b.1 (ccmBlock k nonce (b.2 + 1)))

/-- Pad to whole blocks. -/
def pad16 (bs : List Byte) : List Byte := fitBytes (roundUp bs.length 16) bs

/-- The tag over the additional data and the plain text. -/
def ccmTag (k nonce aad m : List Byte) : List Byte :=
  let b0 := [0x59] ++ nonce ++ toBE 2 m.length
  let mac := (blocks 16 (b0 ++ pad16 (toBE 2 aad.length ++ aad) ++ pad16 m)).foldl (fun x b => aesEnc k (xorB x b)) (zeros 16)
  xorB (mac.take 8) (ccmBlock k nonce 0)

/-- Protect: cipher text and tag. -/
def ccmSeal (k nonce aad m : List Byte) : List Byte := ccmXor k nonce m ++ ccmTag k nonce aad m

/-- Open: the plain text, where the tag verifies. -/
def ccmOpen (k nonce aad c : List Byte) : Option (List Byte) :=
  if c.length < 8 then none
  else
    let m := ccmXor k nonce (c.take (c.length - 8))
    if ccmTag k nonce aad m = c.drop (c.length - 8) then some m else none

/-- The nonce of a direction (1 initiator to responder, 2 the reverse). -/
def badgeNonce (dir : Byte) (n : Nat) (rnd : List Byte) : List Byte := [dir] ++ toBE 4 n ++ fitBytes 8 rnd

/-! ### The reader's registers -/

/-- Change the reader. -/
def State.setReader (s : State) (k : Reader) : State := { s with reader := k }

/-- An event of the CLF (R565); with main power off there is nothing to raise it. -/
def State.clfEvent (s : State) (v : Nat) : State := if s.pwr.main = .on then s.cause R.CLF_EVENTS_CAUSE 352 v else s

/-- The reader's transfers (agent 0x2B3, domain 0). -/
def State.clfX (s : State) : Xfer := { agent := 0x2B3, dom := 0, epoch := s.get R.ART_EPOCH_CURRENT }

/-- The DDR buffer. -/
def State.clfBuf (s : State) : Nat := s.get R.CLF_RBUF_ADDR * 1024

/-- The code of a reader command: vector 352. -/
def State.rdCode (s : State) (code rlen : Nat) : State :=
  ((s.set R.CLF_RRESULT_CODE code).set R.CLF_RRESULT_RLEN rlen).clfEvent 352

/-- The running command ends. -/
def State.rdEnd (s : State) (code rlen : Nat) : State :=
  ((s.setReader { s.reader with cmd := 0, phase := .idle, tries := 0, k := [], rndI := [], resp := [], left := [] }).set
    R.CLF_STATUS_RBUSY 0).rdCode code rlen

/-- The reader's session ends: SK and the counters are destroyed (R551). -/
def State.rdNoSession (s : State) : State := (s.setReader { s.reader with session := none }).set R.CLF_STATUS_RSESSION 0

/-- No card is active, and no session. -/
def State.rdNoCard (s : State) : State := s.rdNoSession.set R.CLF_STATUS_RCARD 0

/-- The UID of the card that was active and the identity of its badge are gone. -/
def State.rdForget (s : State) : State :=
  ((((s.set R.CLF_UID_UID 0).set R.CLF_UIDX_UID 0).set R.CLF_UIDX_LEN 0).set R.CLF_UIDX_SAK 0).set R.CLF_BADGE_ID_ID 0

/-- The carrier goes off with every card and session state (R546, R549). -/
def State.carrierOff (s : State) : State :=
  ((({ s with reader := {} }.rdNoCard.rdForget).set R.CLF_STATUS_CARRIER 0).set R.CLF_STATUS_RBUSY 0).set R.CLF_STATUS_MULTI 0

/-- A command ends with CL_TIMEOUT or CL_PROTOCOL, and the carrier goes off for 6 ms (R548). -/
def State.rdFail (s : State) (code : Nat) : State :=
  let s1 := s.rdEnd code 0
  let s2 := s1.carrierOff
  s2.setReader { s2.reader with phase := .reset, at_ := s.tbase }

/-- What refuses a reader command: a command that runs, or a state in which it is not allowed. -/
def State.rdRefusal (s : State) (allowed : Bool) : Option Nat :=
  if s.reader.cmd ≠ 0 then some 0x0809 else if ¬ allowed then some 0x080A else none

/-- The present wait begins now. -/
def State.rdStamp (s : State) : State := s.setReader { s.reader with at_ := s.tbase }

/-- A command runs, waiting in a phase, after a frame is sent. -/
def State.rdRun (s : State) (cmd : Nat) (ph : RdPhase) (tx : List Byte) : State :=
  (s.setReader { s.reader with cmd := cmd, phase := ph, tx := tx, tries := 0, wtx := 1, at_ := s.tbase }).set R.CLF_STATUS_RBUSY 1

/-- The reader sends a frame and waits in a phase. -/
def State.rdSend (s : State) (ph : RdPhase) (tx : List Byte) : State := s.setReader { s.reader with phase := ph, tx := tx }

/-! ### Field commands (R546) -/

/-- FIELD_ON. -/
def State.fieldOn (s : State) : State :=
  match s.rdRefusal (!s.is R.CLF_STATUS_CARRIER) with
  | some c => s.rdCode c 0
  | none =>
    if s.is R.CLF_STATUS_FIELD then s.rdCode 0x0801 0
    else ({ s with reader := {} }.set R.CLF_STATUS_CARRIER 1).rdRun 1 .guard []

/-- The guard time of 5.1 ms ends. -/
def State.guardEnd (s : State) : State :=
  if s.reader.phase = .guard ∧ s.pastBase (s.reader.at_ + 5100000) then s.rdEnd 0 0 else s

/-- FIELD_OFF. -/
def State.fieldOff (s : State) : State :=
  match s.rdRefusal true with
  | some c => s.rdCode c 0
  | none => s.carrierOff.rdCode 0 0

/-- The tag's session and handshake end, and its protocol begins anew (R551, R560). -/
def State.tagLost (s : State) : State :=
  ({ s with tag := { s.tag with phase := .idle, hand := none, session := none } } : State).set R.CLF_STATUS_TSESSION 0

/-- FDET falls (R544): the tag has lost the field. -/
def State.fdetFall (s : State) : State :=
  if s.is R.CLF_STATUS_FIELD then (s.tagLost.set R.CLF_STATUS_FIELD 0).clfEvent 353 else s

/-- The carrier's reset of 6 ms ends, and the carrier returns. While it is on, FDET reads low (R544). -/
def State.carrierReset (s : State) : State :=
  if s.reader.phase = .reset ∧ s.pastBase (s.reader.at_ + 6000000) then
    (s.setReader { s.reader with phase := .idle }).fdetFall.set R.CLF_STATUS_CARRIER 1
  else s

/-! ### ACTIVATE (R545, R547) -/

/-- ACTIVATE: WUPA. -/
def State.clfActivate (s : State) : State :=
  match s.rdRefusal (s.is R.CLF_STATUS_CARRIER && !s.is R.CLF_STATUS_RCARD) with
  | some c => s.rdCode c 0
  | none =>
    let s1 := (s.set R.CLF_STATUS_MULTI 0).rdRun 2 .atqa [0x52]
    s1.setReader { s1.reader with level := 1, uid := [], part := [], fwi := 4, sfgi := 0 }

/-- SEL of a cascade level. -/
def selCode (level : Nat) : Byte := if level = 1 then 0x93 else if level = 2 then 0x95 else 0x97

/-- Ask for the rest of the UID of the level, `bits` of which are known. -/
def State.rdAnticoll (s : State) (part : List Byte) (bits : Nat) : State :=
  let nvb := 0x20 + bits / 8 * 16 + bits % 8
  (s.setReader { s.reader with part := part }).rdSend .anticoll
    ([selCode s.reader.level, BitVec.ofNat 8 nvb] ++ part.take (roundUp bits 8 / 8))

/-- The UID of the level with bit `c` chosen as 1, and the bits after it clear. -/
def resolve (bs : List Byte) (c : Nat) : List Byte :=
  let v := ofLE (fitBytes 5 bs)
  toLE 5 (v % 2 ^ c + 2 ^ c)

/-- The five bytes of a level arrive, or meet a collision at a bit. -/
def State.rdUid (s : State) (bs : List Byte) (coll : Option Nat) : State :=
  match coll with
  | some c =>
    if 32 ≤ c then s.rdFail 0x0804
    else (s.set R.CLF_STATUS_MULTI 1).rdAnticoll (resolve bs c) (c + 1)
  | none =>
    if bs.length = 5 ∧ bs.foldl (· ^^^ ·) 0 = (0 : Byte) then
      (s.setReader { s.reader with part := bs }).rdSend .select ([selCode s.reader.level, 0x70] ++ bs)
    else s.rdFail 0x0804

/-- SAK of a level: another level follows, or the card is selected. -/
def State.rdSak (s : State) (bs : List Byte) : State :=
  let k := s.reader
  let sak := fld bs 0 1
  if bs.length ≠ 1 then s.rdFail 0x0804
  else if sak.testBit 2 then
    (if 3 ≤ k.level ∨ k.part.headD 0 ≠ 0x88 then s.rdFail 0x0804
     else (s.setReader { k with level := k.level + 1, uid := k.uid ++ sliceB k.part 1 3 }).rdAnticoll [] 0)
  else
    let uid := k.uid ++ k.part.take 4
    let s1 := (((s.set R.CLF_UID_UID (ofLE (uid.take 8))).set R.CLF_UIDX_UID (ofLE (uid.drop 8))).set R.CLF_UIDX_LEN
      uid.length).set R.CLF_UIDX_SAK sak
    let s2 := s1.setReader { k with uid := uid }
    if sak.testBit 5 then s2.rdSend .ats [0xE0, 0x80]
    else (s2.setReader { s2.reader with tx := [0x50, 0x00] }).rdEnd 0x0805 0

/-- The card is active. -/
def State.rdActive (s : State) : State :=
  ((s.setReader { s.reader with bn := 0, session := none }).set R.CLF_STATUS_RCARD 1).rdEnd 0 0

/-- The frame size that FSCI names. -/
def fscOf (fsci : Nat) : Nat := [16, 24, 32, 40, 48, 64, 96, 128].getD fsci 256

/-- The highest rate that TA1 allows in both directions and MAXRATE allows (0 is 106 kbit/s). -/
def bestRate (ta1 maxRate : Nat) : Nat :=
  (List.range 4).foldl (fun b r => if 1 ≤ r ∧ r ≤ maxRate ∧ ta1.testBit (r - 1) ∧ ta1.testBit (r + 3) then r else b) 0

/-- A time of 256 × 16 × 2^i ÷ fc on the carrier (R548), in ns. -/
def fcTime (i : Nat) : Rat := 4096 * 2 ^ i * 100000 / 1356

/-- The ATS has been checked, and its SFGT is over (R547): PPS where a rate above 106 kbit/s is allowed, or the card is
active. -/
def State.rdRated (s : State) : State :=
  if s.reader.rate = 0 then s.rdActive else (s.rdSend .pps [0xD0, 0x11, BitVec.ofNat 8 (s.reader.rate * 5)]).rdStamp

/-- The SFGT ends. -/
def State.rdSfgt (s : State) : State :=
  if s.reader.phase = .sfgt ∧ s.pastBase (s.reader.at_ + fcTime s.reader.sfgi) then s.rdRated else s

/-- ATS: checked; its FWI and SFGI are taken from TB1, where a value of 15 counts as the default (PRESUMED, log 37). -/
def State.rdAts (s : State) (bs : List Byte) : State :=
  let t0 := fld bs 1 1
  let n := 2 + b2n (t0.testBit 4) + b2n (t0.testBit 5) + b2n (t0.testBit 6)
  if bs.isEmpty ∨ fld bs 0 1 ≠ bs.length ∨ (1 < bs.length ∧ bs.length < n) then s.rdFail 0x0804
  else
    let fsc := if bs.length = 1 then 32 else fscOf (t0 % 16)
    let r := if 1 < bs.length ∧ t0.testBit 4 then bestRate (fld bs 2 1) (s.get R.CLF_RCFG_MAXRATE) else 0
    let tb := if 1 < bs.length ∧ t0.testBit 5 then fld bs (2 + b2n (t0.testBit 4)) 1 else 0x40
    let s1 := s.setReader { s.reader with
      fsc := fsc, rate := r, fwi := if tb / 16 = 15 then 4 else tb / 16, sfgi := if tb % 16 = 15 then 0 else tb % 16 }
    if s1.reader.sfgi = 0 then s1.rdRated else (s1.setReader { s1.reader with phase := .sfgt }).rdStamp

/-- The PPS response. -/
def State.rdPps (s : State) (bs : List Byte) : State := if bs = [0xD0] then s.rdActive else s.rdFail 0x0804

/-! ### Exchanges over ISO/IEC 14443-4 (R548) -/

/-- Send the next I-block. -/
def State.rdBlock (s : State) : State :=
  let k := s.reader
  let inf := k.left.take (k.fsc - 3)
  let rest := k.left.drop (k.fsc - 3)
  let tx := BitVec.ofNat 8 (2 + k.bn + b2n (!rest.isEmpty) * 0x10) :: inf
  s.setReader { k with phase := .block, tx := tx, lastI := tx, left := rest, at_ := s.tbase }

/-- Begin an exchange of an APDU. -/
def State.rdApdu (s : State) (use : RdUse) (apdu : List Byte) : State :=
  (s.setReader { s.reader with use := use, left := apdu, resp := [], chain := false, tries := 0 }).rdBlock

/-- EXCHANGE: the command APDU lies at RBUF + 0. -/
def State.clfExchange (s : State) (clen : Nat) : State :=
  match s.rdRefusal (s.is R.CLF_STATUS_RCARD) with
  | some c => s.rdCode c 0
  | none =>
    s.afterBank s.clfX s.clfBuf 1 (.clf clen) fun s =>
    let l := s.clen clen 4 512
    let r := l.2.rd l.2.clfX l.2.clfBuf l.1
    (r.2.rdRun 3 .block []).rdApdu .plain r.1

/-- The data field of a plain APDU with a short or an extended Lc. -/
def apduData (a : List Byte) : List Byte :=
  if a.length ≤ 5 then []
  else if fld a 4 1 ≠ 0 then sliceB a 5 (fld a 4 1)
  else if a.length ≤ 7 then [] else sliceB a 7 (ofBE (sliceB a 5 2))

/-- A protected APDU: CLA 0x84, the header, Lc, the protected data, Le. -/
def secureApdu (head data : List Byte) : List Byte :=
  head ++ (if data.length < 256 then toLE 1 data.length ++ data ++ [0] else [0] ++ toBE 2 data.length ++ data ++ [0, 0])

/-- SECURE_EXCHANGE (R551). -/
def State.clfSecure (s : State) (clen : Nat) : State :=
  match s.rdRefusal (s.is R.CLF_STATUS_RSESSION), s.reader.session with
  | some c, _ => s.rdCode c 0
  | none, none => s.rdCode 0x080A 0
  | none, some b =>
    s.afterBank s.clfX s.clfBuf 1 (.secure clen) fun s =>
    let l := s.clen clen 4 512
    let r := l.2.rd l.2.clfX l.2.clfBuf l.1
    let head := [0x84] ++ sliceB r.1 1 3
    let s1 := r.2.rdRun 5 .block []
    (s1.setReader { s1.reader with head := head, session := some { b with ci := b.ci + 1 } }).rdApdu .secure
      (secureApdu head (ccmSeal b.sk (badgeNonce 1 b.ci b.rnd) head (apduData r.1)))

/-- AUTH (R550): the key at CLF_RKEY, then 16 random bytes. -/
def State.clfAuth (s : State) : State :=
  match s.rdRefusal (s.is R.CLF_STATUS_RCARD) with
  | some c => s.rdCode c 0
  | none =>
    let k := s.keyRead 0 (s.get R.CLF_RKEY_INDEX)
    match k.1 with
    | none => k.2.rdCode 0x0807 0
    | some m =>
      if m.alg = 1 ∧ m.usage = 3 then
        let s1 := { k.2 with ent := { k.2.ent with reqs := k.2.ent.reqs ++ [EntReq.badge] } }.rdRun 4 .random []
        s1.setReader { s1.reader with k := m.key }
      else k.2.rdCode 0x0807 0

/-- RND_I arrives: AUTH_BEGIN. -/
def State.clfRandom (s : State) : State :=
  match s.reader.phase, tabFind s.ent.cards 2 with
  | .random, some bs =>
    let s1 := { s with ent := { s.ent with cards := tabDel s.ent.cards 2 } }
    (s1.setReader { s1.reader with rndI := bs }).rdApdu .begin ([0x80, 0xA1, 0, 0, 0x10] ++ bs ++ [0x28])
  | _, _ => s

/-- DEACTIVATE: S(DESELECT); the session keys are cleared. -/
def State.clfDeactivate (s : State) : State :=
  match s.rdRefusal (s.is R.CLF_STATUS_RCARD) with
  | some c => s.rdCode c 0
  | none => s.rdNoSession.rdRun 6 .deselect [0xC2]

/-- A response of at most 512 bytes is written at RBUF + 0x200, and the command ends. -/
def State.rdResp (s : State) (resp : List Byte) : State :=
  let bs := resp.take 512
  (s.wr s.clfX (s.clfBuf + 0x200) bs).rdEnd 0 bs.length

/-- The MACs of the handshake, by their first byte. -/
def badgeMac (k : List Byte) (t : Byte) (a b c : List Byte) : List Byte := aesCmac k ([t] ++ a ++ b ++ c)

/-- The response to AUTH_BEGIN: MAC_R is checked, and MAC_I sent. -/
def State.rdBegin (s : State) (resp : List Byte) : State :=
  let k := s.reader
  let r := resp.take 16
  let id := sliceB resp 16 8
  if resp.length = 42 ∧ resp.drop 40 = [0x90, 0x00] ∧ sliceB resp 24 16 = badgeMac k.k 1 k.rndI r id then
    (s.setReader { k with head := r ++ id }).rdApdu .finish ([0x80, 0xA2, 0, 0, 0x10] ++ badgeMac k.k 2 r k.rndI id)
  else ((s.setReader { k with tx := [0xC2] }).rdNoCard).rdEnd 0x0806 0

/-- The response to AUTH_FINISH: the session opens. -/
def State.rdFinish (s : State) (resp : List Byte) : State :=
  let k := s.reader
  if resp = [0x90, 0x00] then
    let b : Badge := { sk := badgeMac k.k 3 k.rndI (k.head.take 16) [], rnd := k.rndI.take 8 }
    (((s.setReader { k with session := some b }).set R.CLF_STATUS_RSESSION 1).set R.CLF_BADGE_ID_ID
      (ofLE (k.head.drop 16))).rdEnd 0 0
  else s.rdEnd 0x0806 0

/-- A counter of a session has reached its end, or the session was ended by END. -/
def Badge.over? (b : Badge) : Bool := b.ci == 0xFFFFFFFF || b.cr == 0xFFFFFFFF

/-- The response to a protected APDU (R551). -/
def State.rdSecure (s : State) (resp : List Byte) : State :=
  let k := s.reader
  match k.session with
  | none => s.rdEnd 0x0808 0
  | some b =>
    let n := resp.length - 2
    match (if resp.drop n = [0x90, 0x00] then ccmOpen b.sk (badgeNonce 2 b.cr b.rnd) k.head (resp.take n) else none) with
    | none => s.rdNoSession.rdEnd 0x0808 0
    | some pt =>
      let b' := { b with cr := b.cr + 1 }
      let s1 := s.setReader { k with session := some b' }
      (if b'.over? ∨ k.head.getD 1 0 = 0xA3 then s1.rdNoSession else s1).rdResp pt

/-- A whole response. -/
def State.rdWhole (s : State) (resp : List Byte) : State :=
  match s.reader.use with
  | .plain => s.rdResp resp
  | .begin => s.rdBegin resp
  | .finish => s.rdFinish resp
  | .secure => s.rdSecure resp

/-- A bad block, or none within the FWT (R548): R(NAK), or R(ACK) within a chain, at most twice. -/
def State.rdBad (s : State) (code : Nat) : State :=
  let k := s.reader
  if k.tries < 2 then
    s.setReader { k with tries := k.tries + 1, tx := [BitVec.ofNat 8 ((if k.chain then 0xA2 else 0xB2) + k.bn)] }
  else s.rdFail code

/-- A block with a correct CRC. -/
def State.rdGood (s : State) (bs : List Byte) : State :=
  let k := s.reader
  let pcb := fld bs 0 1
  let inf := bs.drop 1
  if pcb &&& 0xEE = 0x02 then
    (if pcb % 2 ≠ k.bn ∨ ¬ k.left.isEmpty then s.rdBad 0x0804
     else
       let k' := { k with resp := k.resp ++ inf, bn := 1 - k.bn, tries := 0 }
       if pcb.testBit 4 then s.setReader { k' with chain := true, tx := [BitVec.ofNat 8 (0xA2 + k'.bn)] }
       else (s.setReader { k' with chain := false }).rdWhole k'.resp)
  else if pcb / 2 = 0x51 ∧ inf.isEmpty then
    (if pcb % 2 = k.bn ∧ ¬ k.left.isEmpty then (s.setReader { k with bn := 1 - k.bn, tries := 0 }).rdBlock
     else s.setReader { k with tx := k.lastI })
  else if pcb = 0xF2 ∧ inf.length = 1 ∧ 1 ≤ fld inf 0 1 % 64 ∧ fld inf 0 1 % 64 ≤ 59 then
    s.setReader { k with tx := [0xF2, BitVec.ofNat 8 (fld inf 0 1 % 64)], wtx := fld inf 0 1 % 64 }
  else s.rdBad 0x0804

/-- How long the present wait lasts (R547, R548): 5 ms for ATQA; otherwise the FWT, which an S(WTX) multiplies for the next
response, up to that of FWI 14. -/
def State.rdWait (s : State) : Rat :=
  let k := s.reader
  if k.phase = .atqa then 5000000
  else if fcTime 14 ≤ k.wtx * fcTime k.fwi then fcTime 14 else k.wtx * fcTime k.fwi

/-- CRC_A of ISO/IEC 14443-3. -/
def crcA (bs : List Byte) : Nat :=
  let step (c : Nat) (_ : Nat) : Nat := if c % 2 = 1 then (c / 2) ^^^ 0x8408 else c / 2
  bs.foldl (fun c b => (List.range 8).foldl step (c ^^^ b.toNat)) 0x6363

/-- What a frame from the card does. `ok`: its CRC_A, where it has one, is correct. -/
def State.rdFrame (s : State) (bs : List Byte) (ok : Bool) (coll : Option Nat) : State :=
  match s.reader.phase with
  | .atqa => s.rdAnticoll [] 0
  | .anticoll => s.rdUid bs coll
  | .select => if ok then s.rdSak bs else s.rdFail 0x0804
  | .ats => if ok then s.rdAts bs else s.rdFail 0x0804
  | .pps => if ok then s.rdPps bs else s.rdFail 0x0804
  | .block => if ok then s.rdGood bs else s.rdBad 0x0804
  | .deselect => if ok ∧ bs = [0xC2] then s.rdNoCard.rdEnd 0 0 else s.rdBad 0x0804
  | _ => s

/-- The reader awaits a frame of the card. -/
def RdPhase.awaits : RdPhase → Bool
  | .idle => false
  | .guard => false
  | .random => false
  | .reset => false
  | .sfgt => false
  | _ => true

/-- CLF_FRAME_RECEIVE: a frame from the card without its CRC_A, the CRC_A received after it, and the first bit in collision.
The wait for the next begins. -/
def State.clfFrame (s : State) (bs : List Byte) (crc : Nat) (coll : Option Nat) : State :=
  if s.reader.phase.awaits then
    ((s.setReader { s.reader with wtx := 1 }).rdFrame bs (crc == crcA bs) coll).rdStamp
  else s

/-- No frame within its time (R547, R548). -/
def State.rdSilence (s : State) : State :=
  match s.reader.phase with
  | .atqa => s.rdEnd 0x0802 0
  | .block => s.rdBad 0x0803
  | .deselect => s.rdBad 0x0803
  | _ => s.rdFail 0x0803

/-- CLF_FWT_EXPIRY: the wait for a frame is over. -/
def State.clfExpiry (s : State) : State :=
  if s.reader.phase.awaits ∧ s.pastBase (s.reader.at_ + s.rdWait) then
    (s.setReader { s.reader with wtx := 1 }).rdSilence.rdStamp
  else s

end Sys2Proof.Machine
end

