-- ==== Sys2Proof/Machine/Tag.lean ====
section
/-!
DEFINITION. Sys2Proof/Machine/Tag.lean: the contactless tag, its memory, the evidence window and the mailbox
(spec/18_contactless.md R544, R552 to R562): commands FIELD_LOSS, FIELD_COLLAPSE, TAG_FRAME_RECEIVE, AUTH_BEGIN,
AUTH_FINISH, END, TAG_READ, STATUS, TAG_WRITE, COMMIT, ACK, TAG_BACKOFF_EXPIRY, TAG_KEY_LOAD, TAG_KEY_LOAD_END,
TAG_KEY_CLEAR, MAILBOX_RELEASE and MAILBOX_PUBLISH.
-/

namespace Sys2Proof.Machine

/-! ### Tag memory and the evidence window (R556, R557) -/

/-- Write bytes of the mailbox memory. -/
def State.tagPut (s : State) (off : Nat) (bs : List Byte) : State :=
  s.setTag { s.tag with mem := ((List.range bs.length).zip bs).foldl (fun t e => tabSet 0 t (off + e.1) e.2) s.tag.mem }

/-- A write of CLF_TAGMEM word `i`: only in OUT buffers that the keep owns (R558). -/
def State.tagWordWrite (s : State) (i v : Nat) : State :=
  let buf := (i - 512) / 128
  if 512 ≤ i ∧ i < 1024 ∧ 2 ≤ buf ∧ ¬ (s.get R.CLF_MBOX_OUT_OWN).testBit (buf - 2) then s.tagPut ((i - 512) * 4) (toLE 4 v) else s

/-! ### The mailbox (R558, R559) -/

/-- The field's fill buffer: FILL, if the field owns that buffer. -/
def State.fillBuf (s : State) : Option Nat :=
  let f := s.get R.CLF_MBOX_FILL
  if (s.get R.CLF_MBOX_IN_OWN).testBit f then none else some f

/-- The header of a buffer (0, 1 IN; 2, 3 OUT). -/
def State.mboxHead (s : State) (buf seq len : Nat) : State :=
  s.tagPut (buf * 512) (toLE 4 seq ++ toLE 2 len ++ [0, 0] ++ toLE 6 (s.get R.TIME_TSTAMP_TICKS) ++ [0, 0])

/-- COMMIT of the fill buffer. -/
def State.mboxCommit (s : State) (buf len : Nat) : State :=
  let seq := (s.get R.CLF_MB_SEQ_IN_SEQ + 1) % 2 ^ 32
  let s1 := ((s.mboxHead buf seq len).set R.CLF_MB_SEQ_IN_SEQ seq).set R.CLF_MBOX_IN_OWN
    (s.get R.CLF_MBOX_IN_OWN ||| 2 ^ buf)
  let other := 1 - buf
  let s2 := if (s1.get R.CLF_MBOX_IN_OWN).testBit other then s1 else s1.set R.CLF_MBOX_FILL other
  if s.pwr.main = .on then s2.clfEvent 354 else s2.setTag { s2.tag with committed := true }

/-- Release of an IN buffer that the keep owns. -/
def State.mboxRelease1 (s : State) (n : Nat) : State :=
  let own := s.get R.CLF_MBOX_IN_OWN
  if own.testBit n then
    let s1 := s.set R.CLF_MBOX_IN_OWN (own - 2 ^ n)
    if s.fillBuf = none then s1.set R.CLF_MBOX_FILL n else s1
  else s

/-- CLF_MBOX.REL_IN, buffer 0 first. -/
def State.mboxReleaseAll (s : State) (mask : Nat) : State :=
  let s1 := if mask.testBit 0 then s.mboxRelease1 0 else s
  if mask.testBit 1 then s1.mboxRelease1 1 else s1

/-- Publication of an OUT buffer that the keep owns, with a payload of at most 496 bytes. -/
def State.mboxPublish1 (s : State) (n len : Nat) : State :=
  let own := s.get R.CLF_MBOX_OUT_OWN
  if own.testBit n ∨ 496 < len then s
  else
    let seq := (s.get R.CLF_MB_SEQ_OUT_SEQ + 1) % 2 ^ 32
    (((s.mboxHead (2 + n) seq len).set R.CLF_MB_SEQ_OUT_SEQ seq).set R.CLF_MBOX_OUT_OWN (own + 2 ^ n)).set R.CLF_MBOX_LATEST n

/-- CLF_MBOX.PUB_OUT with LEN, buffer 0 first. -/
def State.mboxPublishAll (s : State) (mask len : Nat) : State :=
  let s1 := if mask.testBit 0 then s.mboxPublish1 0 len else s
  if mask.testBit 1 then s1.mboxPublish1 1 len else s1

/-- ACK of an OUT buffer that the field owns. -/
def State.mboxAck (s : State) (n : Nat) : State :=
  let own := s.get R.CLF_MBOX_OUT_OWN
  if own.testBit n then (s.set R.CLF_MBOX_OUT_OWN (own - 2 ^ n)).clfEvent 355 else s

/-- The place of a hand-over in the order of R559. -/
def MboxAsk.rank : MboxAsk → Nat
  | .commit _ _ => 0
  | .release _ => 1
  | .publish _ _ => 2
  | .ack _ => 3

/-- A hand-over takes effect. -/
def State.mboxRun (s : State) : MboxAsk → State
  | .commit buf len => s.mboxCommit buf len
  | .release mask => s.mboxReleaseAll mask
  | .publish mask len => s.mboxPublishAll mask len
  | .ack n => s.mboxAck n

/-- Latch a hand-over for the next bedrock edge. -/
def State.mboxAsk (s : State) (a : MboxAsk) : State := s.setTag { s.tag with asked := s.tag.asked ++ [a] }

/-- The bedrock edge: every hand-over that waits is registered, in the order of R559's table (R559, R560). -/
def State.mboxEdge (s : State) : State :=
  ((List.range 4).flatMap (fun k => s.tag.asked.filter (·.rank == k))).foldl State.mboxRun (s.setTag { s.tag with asked := [] })

/-- The mailbox as the field has left it: its own hand-overs that wait for the edge included (DEDUCED, log 38). -/
def State.fieldSide (s : State) : State :=
  (s.tag.asked.filter (fun a => a.rank == 0 || a.rank == 3)).foldl State.mboxRun s

/-- MAILBOX_RELEASE: CLF_MBOX.REL_IN. -/
def State.mboxRelease (s : State) (mask : Nat) : State := s.mboxAsk (.release mask)

/-- MAILBOX_PUBLISH: CLF_MBOX.PUB_OUT with LEN. -/
def State.mboxPublish (s : State) (mask len : Nat) : State := s.mboxAsk (.publish mask len)

/-! ### Field and protocol (R543, R544, R552, R560) -/

/-- The tag answers: bedrock runs, the carrier is off, TAG_EN reads 1, and there is an outside field. -/
def State.tagOn (s : State) : Bool :=
  s.pwr.bedrock && s.is R.CLF_CTRL_TAG_EN && !s.is R.CLF_STATUS_CARRIER && s.is R.CLF_STATUS_FIELD

/-- Open or end the tag's session. -/
def State.tagSession (s : State) (b : Option Badge) : State :=
  (s.setTag { s.tag with session := b }).setB R.CLF_STATUS_TSESSION b.isSome

/-- FDET rises (R544): the UID's three bytes are taken from the pattern register (R552). -/
def State.fieldRise (s : State) : State :=
  if s.is R.CLF_STATUS_FIELD ∨ s.is R.CLF_STATUS_CARRIER ∨ ¬ s.pwr.bedrock then s
  else
    (((s.setTag { s.tag with uid := s.tmp.lfsr % 2 ^ 24, phase := .idle }).set R.CLF_STATUS_FIELD 1).count
      R.CLF_FIELDS_COUNT).clfEvent 353

/-- FIELD_COLLAPSE: a carrier absent for 8 µs ends the session and the protocol (R560). -/
def State.fieldCollapse (s : State) : State := s.tagLost

/-- FIELD_LOSS: 64 edges without a field drive FDET low (R544). -/
def State.fieldLoss (s : State) : State := s.fdetFall

/-- The tag answers with bytes, in a phase of the protocol. -/
def State.tagSay (s : State) (ph : TagPhase) (out : List Byte) : State := s.setTag { s.tag with phase := ph, out := out }

/-- An answer of an APDU. -/
def State.tagAnswer (s : State) (data : List Byte) (sw : Nat) : State := s.setTag { s.tag with out := data ++ toBE 2 sw }

/-- UID and BCC. -/
def State.tagUid (s : State) : List Byte :=
  let u := [0x08] ++ toLE 3 s.tag.uid
  u ++ [u.foldl (· ^^^ ·) 0]

/-- SELECT or ANTICOLLISION of level 1: NVB and the bits that follow must match the UID. -/
def State.tagSelect (s : State) (nvb : Nat) (bs : List Byte) : State :=
  let uid := s.tagUid
  let back : TagPhase := if s.tag.wasHalted then .halt else .idle
  let bits := (nvb / 16 - 2) * 8 + nvb % 16
  if nvb = 0x70 ∧ bs = uid then s.tagSay .active [0x20]
  else if 0x20 ≤ nvb ∧ nvb < 0x70 ∧ nvb % 16 < 8 ∧ bs.length = roundUp bits 8 / 8
      ∧ ofLE bs % 2 ^ bits = ofLE uid % 2 ^ bits then
    s.tagSay .ready (toLE (5 - bits / 8) (ofLE uid / 2 ^ bits * 2 ^ (bits % 8)))
  else s.tagSay back []

/-! ### APDUs (R551, R555) -/

/-- What a command answers: its data, its status word, and the state after. -/
structure TagRes where
  data : List Byte
  sw : Nat
  st : State

/-- A tag command received in clear (CLA 0x80) or protected (0x84): `f` runs it on its plain data, knowing whether it
came in the session. `needs`: the command needs a session. -/
def State.tagApdu (s : State) (ins cla p1 p2 : Nat) (data : List Byte) (needs : Bool)
    (f : State → Bool → List Byte → TagRes) : State :=
  if ¬ (s.tagOn ∧ s.tag.phase = .iso) then s
  else if cla = 0x80 then
    (if needs then s.tagAnswer [] 0x6982 else let r := f s false data; r.st.tagAnswer r.data r.sw)
  else if cla = 0x84 then
    (match s.tag.session with
     | none => s.tagAnswer [] 0x6982
     | some b =>
       let aad : List Byte := [0x84, BitVec.ofNat 8 ins, BitVec.ofNat 8 p1, BitVec.ofNat 8 p2]
       match ccmOpen b.sk (badgeNonce 1 b.ci b.rnd) aad data with
       | none => (s.tagSession none).tagAnswer [] 0x6988
       | some pt =>
         let r := f s true pt
         let b' := { b with ci := b.ci + 1, cr := b.cr + 1 }
         let s1 := if r.st.tag.session.isSome ∧ ¬ b'.over? then r.st.tagSession (some b') else r.st.tagSession none
         s1.tagAnswer (ccmSeal b.sk (badgeNonce 2 b.cr b.rnd) aad (r.data ++ toBE 2 r.sw)) 0x9000)
  else s.tagAnswer [] 0x6E00

/-- The back-off runs (R554): its expiry edge no longer counts. -/
def State.tagBackoff (s : State) : Bool :=
  s.is R.CLF_STATUS_BACKOFF && decide (s.get R.TIME_TSTAMP_TICKS < s.tag.backoff + 32768)

/-- AUTH_BEGIN (R550, R554), in clear only; `jitter` are the 16 bytes J of the front end's oscillator. -/
def State.tagAuthBegin (s : State) (cla p1 p2 : Nat) (data : List Byte) (le : Option Nat) (jitter : List Byte) : State :=
  if ¬ (s.tagOn ∧ s.tag.phase = .iso) then s
  else if cla ≠ 0x80 then s.tagAnswer [] 0x6E00
  else if data.length ≠ 16 ∨ le ≠ some 0x28 then s.tagAnswer [] 0x6700
  else if p1 ≠ 0 ∨ p2 ≠ 0 then s.tagAnswer [] 0x6A86
  else if s.tag.key = [] ∨ (s.get R.TMP_PENDING_RESP).testBit 5 ∨ s.tagBackoff then s.tagAnswer [] 0x6983
  else
    let c := (s.tag.c + 1) % 2 ^ 64
    let r := badgeMac s.tag.key 4 (toLE 8 c) (fitBytes 16 jitter) []
    let id := s.devIdHeld
    (s.setTag { s.tag with c := c, hand := some (data, r) }).tagAnswer (r ++ id ++ badgeMac s.tag.key 1 data r id) 0x9000

/-- AUTH_FINISH (R550, R554), in clear only. -/
def State.tagAuthFinish (s : State) (cla p1 p2 : Nat) (data : List Byte) : State :=
  if ¬ (s.tagOn ∧ s.tag.phase = .iso) then s
  else if cla ≠ 0x80 then s.tagAnswer [] 0x6E00
  else if data.length ≠ 16 then s.tagAnswer [] 0x6700
  else if p1 ≠ 0 ∨ p2 ≠ 0 then s.tagAnswer [] 0x6A86
  else
    match s.tag.hand with
    | none => s.tagAnswer [] 0x6985
    | some (i, r) =>
      let s1 := s.setTag { s.tag with hand := none }
      if s.tag.key ≠ [] ∧ data = badgeMac s.tag.key 2 r i s.devIdHeld then
        (s1.tagSession (some { sk := badgeMac s.tag.key 3 i r [], rnd := i.take 8 })).tagAnswer [] 0x9000
      else
        ((((s1.setTag { s1.tag with backoff := s.get R.TIME_TSTAMP_TICKS }).set R.CLF_STATUS_BACKOFF 1).count
          R.CLF_AUTHFAIL_COUNT).clfEvent 356).tagAnswer [] 0x6982

/-- A status word with no effect. -/
def tagNo (s : State) (sw : Nat) : TagRes := { data := [], sw := sw, st := s }

/-- END. -/
def State.tagEnd (s : State) (cla p1 p2 : Nat) (data : List Byte) : State :=
  s.tagApdu 0xA3 cla p1 p2 data true (fun s _ pt =>
    if pt ≠ [] then tagNo s 0x6700
    else if p1 ≠ 0 ∨ p2 ≠ 0 then tagNo s 0x6A86 else tagNo (s.tagSession none) 0x9000)

/-- READ of a page: 16 to 31 within a session only. -/
def State.tagRead (s : State) (cla p1 p2 : Nat) (data : List Byte) (le : Option Nat) : State :=
  s.tagApdu 0xB0 cla p1 p2 data false (fun s sess pt =>
    if pt ≠ [] ∨ (¬ sess ∧ le ≠ some 0x80) then tagNo s 0x6700
    else if 31 < p1 ∨ p2 ≠ 0 then tagNo s 0x6A86
    else if 16 ≤ p1 ∧ ¬ sess then tagNo s 0x6982
    else { data := s.tagPage p1, sw := 0x9000, st := s })

/-- STATUS. -/
def State.tagStatus (s : State) (cla p1 p2 : Nat) (data : List Byte) : State :=
  s.tagApdu 0xC0 cla p1 p2 data true (fun s _ pt =>
    if pt ≠ [] then tagNo s 0x6700
    else if p1 ≠ 0 ∨ p2 ≠ 0 then tagNo s 0x6A86
    else
      { data := toLE 1 (s.get R.CLF_MBOX_IN_OWN + s.get R.CLF_MBOX_OUT_OWN * 4) ++ toLE 1 (s.get R.CLF_MBOX_FILL)
          ++ toLE 1 (s.get R.CLF_MBOX_LATEST) ++ [0] ++ toLE 4 (s.get R.CLF_MB_SEQ_IN_SEQ)
          ++ toLE 4 (s.get R.CLF_MB_SEQ_OUT_SEQ) ++ toLE 2 (s.get R.CLF_AUTHFAIL_COUNT) ++ [0, 0]
        sw := 0x9000, st := s })

/-- WRITE of 1 to 128 bytes into the fill buffer. -/
def State.tagWrite (s : State) (cla p1 p2 : Nat) (data : List Byte) : State :=
  s.tagApdu 0xD6 cla p1 p2 data true (fun s _ pt =>
    let off := p1 * 256 + p2
    if pt.length = 0 ∨ 128 < pt.length then tagNo s 0x6700
    else if off < 16 ∨ 511 < off then tagNo s 0x6A86
    else
      match s.fieldSide.fillBuf with
      | none => tagNo s 0x6985
      | some f => if 512 < off + pt.length then tagNo s 0x6985 else tagNo (s.tagPut (f * 512 + off) pt) 0x9000)

/-- COMMIT of the fill buffer with a LEN of 0 to 496: latched for the next bedrock edge (R560). -/
def State.tagCommit (s : State) (cla p1 p2 : Nat) (data : List Byte) : State :=
  s.tagApdu 0xD8 cla p1 p2 data true (fun s _ pt =>
    if pt.length ≠ 2 then tagNo s 0x6700
    else if p1 ≠ 0 ∨ p2 ≠ 0 then tagNo s 0x6A86
    else
      match s.fieldSide.fillBuf with
      | none => tagNo s 0x6985
      | some f => if 496 < ofLE pt then tagNo s 0x6985 else tagNo (s.mboxAsk (.commit f (ofLE pt))) 0x9000)

/-- ACK of an OUT buffer that the field owns: latched for the next bedrock edge (R560). -/
def State.tagAck (s : State) (cla p1 p2 : Nat) (data : List Byte) : State :=
  s.tagApdu 0xDA cla p1 p2 data true (fun s _ pt =>
    if pt ≠ [] then tagNo s 0x6700
    else if 1 < p1 ∨ p2 ≠ 0 then tagNo s 0x6A86
    else if (s.fieldSide.get R.CLF_MBOX_OUT_OWN).testBit p1 then tagNo (s.mboxAsk (.ack p1)) 0x9000
    else tagNo s 0x6985)

/-- The back-off of 32,768 ticks ends (R554). -/
def State.tagBackoffEnd (s : State) : State :=
  if s.get R.TIME_TSTAMP_TICKS < s.tag.backoff + 32768 then s else s.set R.CLF_STATUS_BACKOFF 0

/-! ### The frames and blocks beneath the APDUs (R552) -/

/-- The tag's frame sizes by FSDI; a reserved one counts as 8 (PRESUMED from ISO/IEC 14443-4, log 38). -/
def fsdSize (fsdi : Nat) : Nat := [16, 24, 32, 40, 48, 64, 96, 128].getD fsdi 256

/-- The data and Le of a command APDU after its header (short form); none where Lc does not fit. -/
def apduBody (body : List Byte) : Option (List Byte × Option Nat) :=
  let leOf (b : Nat) : Nat := if b = 0 then 256 else b
  let lc := fld body 0 1
  if body.isEmpty then some ([], none)
  else if body.length = 1 then some ([], some (leOf lc))
  else if lc ≠ 0 ∧ body.length = lc + 1 then some (body.drop 1, none)
  else if lc ≠ 0 ∧ body.length = lc + 2 then some (sliceB body 1 lc, some (leOf (fld body (lc + 1) 1)))
  else none

/-- Run a command APDU that came in blocks; its answer is in `out`. The oscillator's 16 bytes J of AUTH_BEGIN are a free value
(log 44). -/
def State.tagRun (s : State) (apdu : List Byte) : State :=
  let cla := fld apdu 0 1
  let ins := fld apdu 1 1
  let p1 := fld apdu 2 1
  let p2 := fld apdu 3 1
  if cla ≠ 0x80 ∧ cla ≠ 0x84 then s.tagAnswer [] 0x6E00
  else if ¬ [0xA1, 0xA2, 0xA3, 0xB0, 0xC0, 0xD6, 0xD8, 0xDA].contains ins then s.tagAnswer [] 0x6D00
  else
    match (if apdu.length < 4 then none else apduBody (apdu.drop 4)) with
    | none => s.tagAnswer [] 0x6700
    | some (data, le) =>
      if ins = 0xA1 then (let d := s.draw 128; d.2.tagAuthBegin cla p1 p2 data le (toLE 16 d.1))
      else if ins = 0xA2 then s.tagAuthFinish cla p1 p2 data
      else if ins = 0xA3 then s.tagEnd cla p1 p2 data
      else if ins = 0xB0 then s.tagRead cla p1 p2 data le
      else if ins = 0xC0 then s.tagStatus cla p1 p2 data
      else if ins = 0xD6 then s.tagWrite cla p1 p2 data
      else if ins = 0xD8 then s.tagCommit cla p1 p2 data
      else s.tagAck cla p1 p2 data

/-- The tag sends a block. -/
def State.isoSay (s : State) (k : IsoDep) (block : List Byte) : State :=
  s.setTag { s.tag with iso := { k with last := block }, out := block }

/-- The tag sends the next I-block of what remains, chained where more follows. -/
def State.isoBlock (s : State) (k : IsoDep) : State :=
  let rest := k.left.drop (k.fsd - 3)
  s.isoSay { k with left := rest }
    (BitVec.ofNat 8 (2 + k.bn + b2n (!rest.isEmpty) * 0x10) :: k.left.take (k.fsd - 3))

/-- A frame in the block protocol (PRESUMED from ISO/IEC 14443-4, log 38): an I-block turns the block number and is acknowledged
by R(ACK) while it is chained, else by the answer of its APDU; R(ACK) or R(NAK) with the present number gets the last block once
more; R(ACK) with the other one the next block of a chain, R(NAK) with it R(ACK); S(DESELECT) halts the tag. A block with a CID
or a NAD, and any other frame, gets no answer. -/
def State.isoFrame (s : State) (bs : List Byte) : State :=
  let k := s.tag.iso
  let pcb := fld bs 0 1
  let flip : IsoDep := { k with bn := 1 - k.bn }
  if bs = [0xC2] then (s.tagSession none).tagSay .halt [0xC2]
  else if bs.length ≠ 0 ∧ bs.length ≤ 254 ∧ pcb &&& 0xEE = 0x02 then
    (let got := k.rx ++ bs.drop 1
     if pcb.testBit 4 then s.isoSay { flip with rx := got, left := [] } [BitVec.ofNat 8 (0xA2 + flip.bn)]
     else
       let s1 := s.tagRun got
       s1.isoBlock { flip with rx := [], left := s1.tag.out })
  else if bs.length = 1 ∧ pcb &&& 0xEE = 0xA2 then
    (if pcb % 2 = k.bn then s.setTag { s.tag with out := k.last }
     else if pcb.testBit 4 then s.isoSay k [BitVec.ofNat 8 (0xA2 + k.bn)]
     else if k.left.isEmpty then s.setTag { s.tag with out := [] }
     else s.isoBlock flip)
  else s.setTag { s.tag with out := [] }

/-- TAG_FRAME_RECEIVE: the tag answers REQA, WUPA, anticollision, SELECT, RATS and HLTA, and the frames of the block
protocol. -/
def State.tagFrame (s : State) (bs : List Byte) : State :=
  let b (i : Nat) : Nat := fld bs i 1
  let back : TagPhase := if s.tag.wasHalted then .halt else .idle
  let wake (h : Bool) : State := s.setTag { s.tag with phase := .ready, wasHalted := h, out := [0x04, 0x00] }
  if ¬ s.tagOn then s
  else
    match s.tag.phase with
    | .idle => if bs = [0x26] ∨ bs = [0x52] then wake false else s.tagSay .idle []
    | .halt => if bs = [0x52] then wake true else s.tagSay .halt []
    | .ready => if b 0 = 0x93 then s.tagSelect (b 1) (bs.drop 2) else s.tagSay back []
    | .active =>
      if b 0 = 0xE0 ∧ b 1 % 16 = 0 ∧ bs.length = 2 then
        s.setTag { s.tag with phase := .iso, iso := { fsd := fsdSize (b 1 / 16) }, out := [0x05, 0x78, 0x00, 0x80, 0x00] }
      else if bs = [0x50, 0x00] then s.tagSay .halt [] else s.tagSay back []
    | .iso => s.isoFrame bs

/-! ### The tag key (R553) -/

/-- CLF_TKEY_CMD.GO. -/
def State.tagKeyLoad (s : State) (i : Nat) : State := s.setTag { s.tag with load := some i }

/-- A load ends: the key of dome 0, ALG 1, USAGE exactly ENC and DEC, or CL_KEY. -/
def State.tagKeyLoadEnd (s : State) : State :=
  match s.tag.load with
  | none => s
  | some i =>
    let r := (s.setTag { s.tag with load := none }).keyRead 0 i
    match r.1 with
    | none => (r.2.set R.CLF_TKEY_STATUS_CODE 0x0807).clfEvent 357
    | some m =>
      if m.alg = 1 ∧ m.usage = 3 then
        (((r.2.setTag { r.2.tag with key := m.key }).set R.CLF_TKEY_STATUS_LOADED 1).set R.CLF_TKEY_STATUS_CODE 0).clfEvent 357
      else (r.2.set R.CLF_TKEY_STATUS_CODE 0x0807).clfEvent 357

/-- CLF_TKEY_CMD.CLEAR; also a bedrock reset and a KEYSTORE response. -/
def State.tagKeyClear (s : State) : State := (s.setTag { s.tag with key := [] }).set R.CLF_TKEY_STATUS_LOADED 0

end Sys2Proof.Machine
end

