-- ==== Sys2Proof/Machine/Tmp.lean ====
section
/-!
DEFINITION. Sys2Proof/Machine/Tmp.lean: tamper monitors, firings and their responses, deferral, the evidence log and its
clearing (spec/14_tamper.md R430 to R449); commands MESH_COMPARE, CASE_PULSE, LIGHT_DETECT, VGLITCH_DETECT,
VRANGE_DETECT, REFCLK_FAIL, PLL_UNLOCK, TEMP_READING, TMP_UNLOCK, TMP_FLAGS_CLEAR and EVIDENCE_CLEAR.
-/

namespace Sys2Proof.Machine

/-- Change the tamper unit. -/
def State.setTmp (s : State) (k : Tmp) : State := { s with tmp := k }

/-- An event of the TMP (R452). -/
def State.tmpEvent (s : State) (v : Nat) : State := s.cause R.TMP_EVENTS_CAUSE 128 v

/-- Main power is on and the device runs. -/
def State.mainRuns (s : State) : Bool := s.pwr.main == .on

/-! ### The evidence log (R446 to R448) -/

/-- A record (R447), without its CHECK. -/
def logBytes (seq kind source mask state ts count dt detail : Nat) : List Byte :=
  toLE 4 seq ++ [BitVec.ofNat 8 kind, BitVec.ofNat 8 source, BitVec.ofNat 8 mask, BitVec.ofNat 8 state] ++ toLE 6 ts
    ++ toLE 2 count ++ toLE 8 dt ++ toLE 4 detail

/-- Store a record with its CHECK at a position. -/
def State.logPut (s : State) (k : Nat) (r : List Byte) : State :=
  let bs := r ++ toLE 4 (crc32 r)
  (List.range 8).foldl (fun s i => s.set (R.TMP_EVLOG_WORD k i) (fld bs (4 * i) 4)) s

/-- Write a record at the next position, with the SEQ in TMP_EVSEQ. Answers the position too. -/
def State.logWrite (s : State) (kind source mask state ts count dt detail : Nat) : Nat × State :=
  let n := s.tmp.logged
  let k := if n < 16 then n else 16 + (n - 16) % 48
  let s1 := s.logPut k (logBytes (s.get R.TMP_EVSEQ_SEQ) kind source mask state ts count dt detail)
  let s2 := ((s1.setTmp { s1.tmp with logged := n + 1 }).count R.TMP_EVSEQ_SEQ).tmpEvent 129
  (k, if k = 15 then s2.tmpEvent 131 else s2)

/-- STATE of a record for a device state. -/
def State.logState (s : State) (dev : Nat) : Nat := dev % 8 + s.get R.RST_LC_STATE * 16

/-- Write the record of a source's event, and remember where and when. -/
def State.logEvent (s : State) (e : TEvt) (kind mask count dt : Nat) : State :=
  let r := s.logWrite kind e.src mask (s.logState e.dev) e.ts count dt e.detail
  r.2.setTmp { r.2.tmp with lastRec := tabIns r.2.tmp.lastRec e.src (r.1, s.get R.TIME_TSTAMP_TICKS) }

/-- LOG for one source of a firing (R448): folded into a record of the source written less than 32,768 ticks earlier. -/
def State.logLive (s : State) (e : TEvt) (mask : Nat) : State :=
  let write : State := if e.src = 16 then s.logEvent e 3 mask 1 0 else s.logEvent e 1 mask 1 e.dt
  match tabFind s.tmp.lastRec e.src with
  | some (k, tick) =>
    if s.get R.TIME_TSTAMP_TICKS < tick + 32768 then
      let r := (s.logRecord k).take 28
      s.logPut k (patchB r 14 (toLE 2 (satInc 16 (fld r 14 2))))
    else write
  | none => write

/-- The first event of each source, in source order. -/
def firstEvents (es : List TEvt) : List TEvt :=
  (List.range 17).filterMap (fun n => es.find? (fun e => e.src == n))

/-! ### Responses (R437) -/

/-- Everything of the KEYCACHE row of R358, and what R437 and R526 add: the key cache with its pins, the DIG context key
(replaced from the DRBG), the ceremony and the restores under way (R572); a reseed becomes due. Every context of the PKE pool is
zeroed (R407): those of jobs end with them, and a command that SES has in the pool never answers (DESIGN CHOICE, log 31), so that
its handshake ends by its timeout. -/
def State.respKeycache (s : State) : State :=
  let s1 := s.restoreKill.clearCache.cerClear.reseedDue
  { s1 with pools := { s1.pools with digKey := [] }
            cmds := s1.cmds.filter (fun (c : Cmd) => c.pool != 2) }.askKey .digKey

/-- The KEYSTORE row of R358: as KEYCACHE, and the table key and the key directory. -/
def State.clearKeys (s : State) : State := s.clearTable.respKeycache

/-- KEYSTORE (R437): the bedrock share, SRK_VALID, the tag key (R553) and the keys. -/
def State.respKeystore (s : State) : State :=
  let s1 := s.restoreKill
  ({ s1 with pwr := { s1.pwr with share := [] } }.set R.RST_ROOT_SRK_VALID 0).tagKeyClear.clearKeys

/-- Every card is deactivated (R521, R532). -/
def State.stopCards (s : State) : State := ((s.iccStop 0).iccStop 1).sdStop

/-- The boot ROM's program of a recovery half is stopped with its command (R505, R506), which leaves BUSY with a STATUS that the
spec does not give: a free choice (log 44). -/
def State.recoverStop (s : State) : State :=
  match s.pwr.mgt with
  | some (7, arg, 0) =>
    let d := s.draw 2
    (({ d.2 with pwr := { s.pwr with mgt := none } } : State).set R.MGT_RESULT_STATUS (if d.1 = 1 then 2 else d.1)).recoverCut
      (arg * 256)
  | _ => s

/-- A stop cause (R505, R521): the FLC's operation ends, for good until a reset with `halt`, and every card is deactivated. -/
def State.stopCause (s : State) (halt : Bool) : State := (s.recoverStop.flcStop halt).stopCards

/-- HOLD: the JSC closes, HALT is set; the FLC and the cards meet a stop cause (R505, R521). -/
def State.respHold (s : State) : State :=
  ((s.set R.JSC_STATUS_OPEN 0).set R.TMP_PENDING_HALT 1).stopCause false

/-- FCU: one fault of source TAMPER for a tamper source (R327). -/
def State.respFcu (s : State) (n : Nat) : State := s.report { source := 6, agent := 0, dome := 0, addr := n }

/-- ALERT. -/
def State.respAlert (s : State) : State := s.set R.MGT_ALERT_TAMPER 1

/-- Response `b` of R437, by its bit in a mask, for the sources of a firing; LOG apart. -/
def State.response (s : State) (b : Nat) (srcs : List Nat) : State :=
  if b = 5 then s.respKeystore
  else if b = 4 then s.respKeycache
  else if b = 3 then s.sesKill
  else if b = 6 then s.respHold
  else if b = 2 then srcs.foldl State.respFcu s
  else if b = 1 then s.respAlert
  else s

/-- The responses of a union but LOG, in their fixed order (R438), for the sources given. -/
def State.responses (s : State) (u : Nat) (srcs : List Nat) : State :=
  [5, 4, 3, 6, 2, 1].foldl (fun (s : State) b => if u.testBit b then s.response b srcs else s) s

/-! ### Live handling (R438 to R442) -/

/-- The union of the masks of events. -/
def State.unionMask (s : State) (es : List TEvt) : Nat := es.foldl (fun u e => u ||| s.tmpMask e.src) 0

/-- The response that step `i` of R438 executes, by its bit. -/
def stepBit (i : Nat) : Nat := [0, 0, 5, 4, 3, 6, 2, 1, 0].getD i 0

/-- The union closes admission and breaks the jobs in flight. -/
def breaks (u : Nat) : Bool := u &&& 0x78 != 0

/-- Nothing but a firing keeps admission closed: the boot reached READY, no sequence, DEEP or HOLD is under way, jobs exist in the
lifecycle state (R125), and no response with HOLD has executed. -/
def State.jscReady (s : State) : Bool :=
  s.get R.RST_BOOT_PHASE == 12 && s.pwr.seq == .none && !s.inDeep && !s.pwr.hold && s.get R.RST_LC_STATE != 0
    && s.get R.RST_LC_STATE != 3 && !s.is R.TMP_PENDING_HALT

/-- A firing under way keeps admission closed (R438): to the end of its step 4, and to its end with HOLD. -/
def Firing.closes (f : Firing) : Bool := breaks f.union && (decide (f.step ≤ 4) || f.union.testBit 6)

/-- Admission opens where nothing keeps it closed. -/
def State.jscOpen (s : State) : State :=
  if s.jscReady ∧ (s.tmp.run.all (fun f => !f.closes)) = true then s.set R.JSC_STATUS_OPEN 1 else s

/-- Steps 1 to 8 of R438, where the union has the step's response. Step 1 closes admission; it opens again after step 4
without HOLD, unless another cause holds it closed. -/
def State.firingStep (s : State) (f : Firing) (i : Nat) : State :=
  if i = 1 then (if breaks f.union then (s.set R.JSC_STATUS_OPEN 0).breakJobs (fun _ => true) 0 else s)
  else if i = 8 then (if f.union.testBit 0 then f.es.foldl (fun s e => s.logLive e f.union) s else s)
  else
    let s1 := if f.union.testBit (stepBit i) then s.response (stepBit i) (f.es.map (·.src)) else s
    if i = 4 ∧ breaks f.union ∧ ¬ f.union.testBit 6 ∧ s1.jscReady = true then s1.set R.JSC_STATUS_OPEN 1
    else s1

/-- Steps `i` to `k` (at most 8) of a firing. -/
def State.firingSteps (s : State) (f : Firing) (i k : Nat) : State :=
  ((List.range 9).filter (fun n => decide (i ≤ n ∧ n ≤ k))).foldl (fun (s : State) n => s.firingStep f n) s

/-- The responses of a firing that its steps after `i` would execute. -/
def Firing.after (f : Firing) (i : Nat) : Nat :=
  (((List.range 9).filter (fun n => decide (i < n ∧ 1 < n) && f.union.testBit (stepBit n))).map (fun n => 2 ^ stepBit n)).sum

/-- Live handling ends (R440): the step in progress is finished, and every response not reported complete, of the firing under
way and of those that wait, is added to TMP_PENDING. -/
def State.liveEnd (s : State) : State :=
  let s1 := match s.tmp.run with | some f => s.firingStep f f.step | none => s
  let rest := match s.tmp.run with | some f => f.after f.step | none => 0
  (s1.setTmp { s1.tmp with live := false, queue := [], run := none, inDeep := 0 }).set R.TMP_PENDING_RESP
    (s1.get R.TMP_PENDING_RESP ||| rest ||| s1.unionMask s1.tmp.queue)

/-- nALERT is driven low (R133). -/
def State.nalert (s : State) : Bool :=
  if s.pwr.main = .on then
    (s.get R.MGT_ALERT_HOLD_READY + 2 * s.get R.MGT_ALERT_TAMPER + 4 * s.get R.MGT_ALERT_READY
      + 8 * s.get R.MGT_ALERT_BOOTFAIL + 16 * s.get R.MGT_ALERT_TEMPWARN) &&& s.get R.MGT_ALERT_EN_EN != 0
  else s.pwr.alertHeld

/-- Step 5 of R109: the device is isolated, bedrock alone runs, every card is deactivated (R532), and nALERT keeps its level. -/
def State.isolate (s : State) : State :=
  let s1 := s.carrierOff.stopCards.liveEnd
  let s2 := { s1 with pwr := { s1.pwr with main := .isolated, alertHeld := s.nalert, seq := .none, hold := false } }
  ((s2.set R.PWR_STATE_DEV 4).set R.PWR_STATE_TRANS 0).set R.JSC_STATUS_OPEN 0

/-- A firing goes on from its next step up to step `k`: step 9 isolates the device after a HOLD. -/
def State.firingTo (s : State) (f : Firing) (k : Nat) : State :=
  let s1 := s.firingSteps f f.step (min k 8)
  if k < 9 then s1.setTmp { s1.tmp with run := some { f with step := max f.step (k + 1) } }
  else
    let s2 := s1.setTmp { s1.tmp with run := none }
    if f.union.testBit 6 then s2.isolate else s2

/-- TAMPER_FIRING (R438, R439): the first `n` events registered form one firing, of which steps 1 to `k` execute; the rest
follows at the next tick. A firing waits while another executes. -/
def State.tamperFiring (s : State) (n k : Nat) : State :=
  let es := firstEvents (s.tmp.queue.take n)
  if ¬ s.tmp.live ∨ es = [] ∨ s.tmp.run.isSome then s
  else
    let s1 := (s.setTmp { s.tmp with queue := s.tmp.queue.drop n }).tmpEvent 128
    s1.firingTo { es := es, union := s.unionMask es, step := 1 } k

/-- A firing under way goes on to its end. -/
def State.firingGo (s : State) : State := match s.tmp.run with | some f => s.firingTo f 9 | none => s

/-- Boot step 2 (R119, R443): the pending union is executed, with one DEFERRED record for each source that fired while
handling was deferred; RESP clears, and handling is live from here. The FCU response reports
the sources that fired while handling was deferred: of a firing that left it pending when live handling ended in the midst of it,
none (DESIGN CHOICE, log 29: R119 and R440 do not say which sources it reports there). -/
def State.deferredResponses (s : State) : State :=
  let u := s.get R.TMP_PENDING_RESP
  let ds := s.tmp.deferred
  let s1 := s.responses (u % 0x40) (ds.map (·.1))
  let s2 := if u.testBit 6 then s1.set R.TMP_PENDING_HALT 1 else s1
  let s3 := if u.testBit 0 then
      ds.foldl (fun s d => s.logEvent d.2.1 (if d.1 = 16 then 3 else 2) u d.2.2 0) s2
    else s2
  ((s3.setTmp { s3.tmp with live := true, queue := [], deferred := [] }).set R.RST_DEFERRED_EXEC u).set R.TMP_PENDING_RESP 0

/-! ### Monitors (R430 to R434) -/

/-- One step of the pattern register, x^16 + x^14 + x^13 + x^11 + 1. -/
def lfsrStep (v : Nat) : Nat :=
  let b := (b2n (v.testBit 0) + b2n (v.testBit 2) + b2n (v.testBit 3) + b2n (v.testBit 5)) % 2
  v / 2 + b * 2 ^ 15

/-- The filtered level of pin monitor `n`, 1 for a fault (R450). -/
def State.pinLevel (s : State) (n : Nat) (fault : Bool) : State :=
  let v := s.tmp.pins
  s.setTmp { s.tmp with pins := if v.testBit n = fault then v else if fault then v + 2 ^ n else v - 2 ^ n }

/-- A source fires if a condition holds. -/
def State.tamperIf (s : State) (c : Bool) (n detail : Nat) : State := if c then s.tamper n detail else s

/-- The traces whose returning level is not the bit driven on them: 0 to 3 the lid mesh, 4 MESH0, 5 MESH1. Each trace is driven
with its own tap of the pattern register. -/
def State.meshDiff (s : State) (levels : Nat) : Nat :=
  (((List.range 6).filter (fun k => levels.testBit k != s.tmp.lfsr.testBit (Config.meshTap (Fin.ofNat 16 k)).val)).map (2 ^ ·)).sum

/-- A comparison finds the traces `mism` mismatched: their levels, and an event of each source. -/
def State.meshFires (s : State) (mism : Nat) : State :=
  let lid := mism % 16
  let s1 := s.setTmp { s.tmp with mesh := mism, compared := true }
  let s2 := ((s1.pinLevel 0 (lid != 0)).pinLevel 1 (mism.testBit 4)).pinLevel 2 (mism.testBit 5)
  ((s2.tamperIf (lid != 0) 0 lid).tamperIf (mism.testBit 4) 1 0).tamperIf (mism.testBit 5) 2 0

/-- MESH_COMPARE: the levels that return at this step's comparison. -/
def State.meshCompare (s : State) (levels : Nat) : State :=
  if ¬ s.pwr.bedrock ∨ s.tmp.compared then s else s.meshFires (s.meshDiff levels)

/-- The mesh's part of a bedrock tick: at the third tick of a step a comparison that no MESH_COMPARE has made finds what the
last one found, and the fourth steps the register. -/
def State.meshTick (s : State) : State :=
  let t := s.tmp.tick + 1
  let s1 := s.setTmp { s.tmp with tick := t % 4 }
  if t = 3 then (if s.tmp.compared then s1 else s1.meshFires s1.tmp.mesh)
  else if 4 ≤ t then s1.setTmp { s1.tmp with lfsr := lfsrStep s1.tmp.lfsr, compared := false }
  else s1

/-- A case switch that stays open fires on every tick. -/
def State.caseTick (s : State) : State :=
  (List.range 4).foldl (fun (s : State) n => s.tamperIf (s.tmp.pins.testBit (3 + n)) (3 + n) 0) s

/-- CASE_PULSE on CASEn: the level now, and the latch that a pulse or a level gone high has set is registered. -/
def State.casePulse (s : State) (n : Nat) (pin : CasePin) : State :=
  if ¬ s.pwr.bedrock ∨ 3 < n then s else (s.pinLevel (3 + n) (pin == .high)).tamperIf (pin != .rest) (3 + n) 0

/-- LIGHT_DETECT with the first diode over threshold. -/
def State.lightDetect (s : State) (diode : Nat) : State := s.tamperIf s.mainRuns 7 (diode % 256)

/-- VGLITCH or VRANGE (source `n`) on a rail, high or low, while the supervisor has armed them (R71): also a stop cause (R505,
R521). -/
def State.railEvent (s : State) (n rail : Nat) (high : Bool) : State :=
  if s.mainRuns ∧ s.pwr.armed ∧ rail < 7 then
    (s.tamper n (rail + b2n high * 256)).stopCause false
  else s

/-- CLKMON from REFCLK (1) or a PLL (2 core, 3 DDR, 4 keep, 5 time base) while its clock is in use: in DEEP the core, DDR
and keep PLLs are not. -/
def State.clockFail (s : State) (which : Nat) : State :=
  let use : Bool := which == 1 || which == 5 || s.get R.PWR_STATE_DEV != 3
  s.tamperIf (s.mainRuns && use && decide (1 ≤ which) && decide (which ≤ 5)) 10 which

/-- A reading lies below -12 °C or above 103 °C. -/
def tempOut (tj : Nat) : Bool := decide (asSigned 12 tj < -48) || decide (412 < asSigned 12 tj)

/-- TEMP_READING: MGT_TEMP, the warning level (crossed upwards), and TEMP on the second bad reading in a row. -/
def State.tempReading (s : State) (tj : Nat) : State :=
  if ¬ s.mainRuns then s
  else
    let old := asSigned 12 (s.get R.MGT_TEMP_TJ)
    let s1 := (s.set R.MGT_TEMP_TJ tj).setTmp { s.tmp with tempBad := tempOut tj }
    let s2 := match s.pwr.tempWarn with
      | some w => if old < w ∧ w ≤ asSigned 12 tj then s1.set R.MGT_ALERT_TEMPWARN 1 else s1
      | none => s1
    s2.tamperIf (tempOut tj && s.tmp.tempBad) 11 (tj % 4096)

/-! ### Clearing evidence (R449) -/

/-- TMP_UNLOCK. -/
def State.tmpUnlock (s : State) (key seq : Nat) : State :=
  if key = 0x6B1D ∧ seq % 65536 = s.get R.TMP_EVSEQ_SEQ % 65536 then s.setTmp { s.tmp with unlocked := true }
  else (s.setTmp { s.tmp with unlocked := false }).tmpEvent 130

/-- The CLEAR record. -/
def State.logClear (s : State) (detail : Nat) : State :=
  (s.logWrite 4 0xFF 0 (s.logState (s.get R.PWR_STATE_DEV)) (s.get R.TIME_TSTAMP_TICKS) 1 s.nowNs detail).2

/-- A W1C write of TMP_FLAGS. -/
def State.flagsClear (s : State) (v : Nat) : State :=
  if ¬ s.tmp.unlocked then s.tmpEvent 130
  else
    let f := s.get R.TMP_FLAGS_FLAG
    let s1 := (setBits 17 v).foldl (fun s n => (s.set (R.TMP_COUNT_COUNT n) 0).set (R.TMP_FIRST_TS_TICKS n) 0)
      (s.setTmp { s.tmp with unlocked := false })
    (s1.set R.TMP_FLAGS_FLAG (f - (f &&& v))).logClear (f &&& v)

/-- A write of TMP_EVCLR.CLEAR: all 64 positions are emptied. -/
def State.evidenceClear (s : State) : State :=
  if ¬ s.tmp.unlocked then s.tmpEvent 130
  else
    let s1 := (List.range 512).foldl (fun s i => s.set (R.TMP_EVLOG_WORD (i / 8) (i % 8)) 0) s
    (s1.setTmp { s1.tmp with unlocked := false, logged := 0, lastRec := [] }).logClear (2 ^ 31)

end Sys2Proof.Machine
end

