-- ==== Sys2Proof/Machine/Power.lean ====
section
/-!
DEFINITION. Sys2Proof/Machine/Power.lean: resets, power transitions, bedrock and time (spec/02_module_electrical.md R69 to
R74, spec/03_clocks_power.md R89 to R93, R99 to R111, spec/04_boot_lifecycle_management.md R112 to R117,
spec/14_tamper.md R440 to R445): the reset scopes, the sequences of R104, R105, R109 and R114, the clocks' events and
DTIME. The boot that ends a reset is in Sys2Proof/Machine/Boot.lean.
-/

namespace Sys2Proof.Machine

/-- Change the power controller. -/
def State.setPwr (s : State) (p : Pwr) : State := { s with pwr := p }

/-! ### Reset scopes (R112) -/

/-- What of the register fields survives a main power-up or a device reset: the AO fields, and the levels of
CLF_STATUS that bedrock keeps. -/
def keptField (k : Nat) : Bool :=
  isAo k || k == R.CLF_STATUS_FIELD.key || k == R.CLF_STATUS_TSESSION.key || k == R.CLF_STATUS_BACKOFF.key

/-- The main domain returns to its reset state (R112): every register that is not AO, every memory but flash, every unit
but bedrock, the tag and what the flash information area holds. RST_LC and RST_FWVER read their fuses. A lifecycle state
whose programming a device reset cuts short is not reached (DESIGN CHOICE, log 12: R127 speaks of a loss of power alone). -/
def State.mainReset (s : State) : State :=
  let s1 : State :=
    { regs := s.regs.filter (fun e => keptField e.1)
      mem := s.mem.filter (fun c => isFlash c.1)
      pending := s.pending, free := s.free, tag := { s.tag with load := none }
      tmp := { s.tmp with unlocked := false, tempBad := false }
      flc := { s.flc with op := none, int := none, info := [], wait := [], pre := [], cache := [], last := none, lastRead := 0, held := []
                          halted := false }.reads
      pwr := { s.pwr with seq := .none, hold := false, deepAt := 0, skipped := 0, edges := 0, setTo := none, setDone := false
                          lcNext := none, wd := none, confirmed := false, mgt := none, mgtData := [], mgtOut := []
                          tempWarn := none, ddrSpread := 0, seedAt := 0, edge := 5 / 8, woken := false, deepForced := false, busyAt := 0 } }
  (s1.set R.RST_LC_STATE s.pwr.lc).set R.RST_FWVER_MINVER s.pwr.minver

/-- A loss of power while the fuses of a lifecycle state are programmed leaves any number of its three copies blown (R127): a
free choice. -/
def State.fuseCut (s : State) : State :=
  match s.pwr.lcNext with
  | none => s
  | some _ =>
    let d := s.draw 2
    d.2.setPwr { d.2.pwr with blown := max s.pwr.blown d.1 }

/-- Main power is gone. nALERT keeps its level (R133). -/
def State.powerOff (s : State) : State :=
  let held := if s.pwr.main = .on then s.nalert else s.pwr.alertHeld
  let s1 := s.fuseCut.liveEnd.mainReset
  s1.setPwr { s1.pwr with main := .off, alertHeld := held }

/-- A bedrock reset (R112, R444): every AO field and bedrock register, the evidence log, the mailbox and the tag, TSTAMP
and the share; the pattern register is reseeded by a value the spec leaves open. -/
def State.bedrockReset (s : State) : State :=
  let s1 : State := { s with regs := s.regs.filter (fun e => !keptField e.1) }
  let d := s1.draw 16
  let p := d.2.pwr
  { d.2 with
    tmp := { live := s.tmp.live, queue := s.tmp.queue, run := s.tmp.run, inDeep := s.tmp.inDeep, lfsr := d.1, pins := s.tmp.pins }
    tag := {}
    pwr := { p with bedrock := true, lost := true, pair := false, share := [], phase := 0, devKnown := false, lostDue := false } }

/-- The first bedrock edge after the restart that State.reset stands for: the pattern register is seeded (R432) and BEDROCK_LOST
is registered (R444, R445). -/
def State.lostEdge (s : State) : State :=
  if s.pwr.bedrock ∧ s.pwr.lostDue then
    let d := s.draw 16
    ({ d.2 with pwr := { s.pwr with lostDue := false }, tmp := { s.tmp with lfsr := d.1 } } : State).tamper 16
  else s

/-! ### Wake from DEEP (R103, R105, R106) -/

/-- Record a wake source: 0 nWAKE, 1 management, 2 field, 3 alarm, 4 tamper. -/
def State.wakeSrc (s : State) (k : Nat) : State :=
  if k = 0 then s.set R.PWR_WAKE_SRC_NWAKE 1
  else if k = 1 then s.set R.PWR_WAKE_SRC_MGT 1
  else if k = 2 then s.set R.PWR_WAKE_SRC_FIELD 1
  else if k = 3 then s.set R.PWR_WAKE_SRC_ALARM 1
  else s.set R.PWR_WAKE_SRC_TAMPER 1

/-- The device-level sequence under way, as PWR_STATE shows it. -/
def State.setSeq (s : State) (q : PwrSeq) (target : Nat) : State :=
  ((s.setPwr { s.pwr with seq := q }).setB R.PWR_STATE_TRANS (q != .none)).set R.PWR_STATE_TARGET target

/-- The core, DDR, keep and SerDes PLLs lock or stop; the time base runs on. In an exit from DEEP the SerDes PLLs lock with the
others, at the end of its step 1 (DESIGN CHOICE, log 12: R105 names no moment for theirs). -/
def State.pllLocks (s : State) (on : Bool) : State :=
  ((((s.setB R.CLK_LOCK_CORE on).setB R.CLK_LOCK_DDR on).setB R.CLK_LOCK_KEEP on).setB R.CLK_LOCK_SER0 on).setB R.CLK_LOCK_SER1 on

/-- Every configured link is up (R105 step 4, R118 step 10). -/
def State.linksUp (s : State) : Bool :=
  (List.range 16).all (fun k => !s.linkExists k || (s.get R.NET_LINK_UP).testBit k)

/-- Step 3 of an exit after a whole entry (R105): spire SRAM is cleared, the timers go on without the time in DEEP (R337), and
the spires are ACTIVE with no idleness met (DESIGN CHOICE, log 12), from where each settles: one that no dome owns goes to the
deepest state allowed (R29). -/
def State.deepExit (s : State) : State :=
  let s1 := (List.range 32).foldl (fun (s : State) p =>
    ((s.dropBytes (sramAddr p 0) 0x400000).set (R.PWR_SPIRE_STATE_S p) 0).setSpire p { s.spire p with tr := .none, idleMet := 0 }) s
  let s2 := (s1.set R.PWR_STATE_DEV 0).entRestart.reseedDue
  (s2.setPwr { s2.pwr with skipped := s2.pwr.skipped + (s2.now - s2.pwr.deepAt), busyAt := s2.tbase }).settleAll

/-- An exit ends (R105 step 4): admission is open again, and after the links have been off a device with a role joins its
federation again (R480). -/
def State.exitEnd (s : State) (done : Nat) : State :=
  let s1 := ((s.setPwr { s.pwr with woken := false }).setSeq .none 0).jscOpen
  if 4 ≤ done ∧ s.get R.FED_STATUS_ROLE ≠ 0 then s1.fedRejoin else s1

/-- The step of an exit in progress ends (R105), where `done` is the last step of R104 that had been done: what that left
undone has no step. The responses of a firing registered in DEEP begin when step 1 has ended (R440). -/
def State.exitStep (s : State) (step done : Nat) : State :=
  if step = 1 then
    let s1 := (s.pllLocks true).setSeq (.exit 2 done) 0
    if s.tmp.inDeep = 0 then s1 else (s1.setTmp { s1.tmp with inDeep := 0 }).tamperFiring s.tmp.inDeep 9
  else if step = 2 then s.setSeq (.exit 3 done) 0
  else if step = 3 then
    let s1 := (((if 5 ≤ done then s.deepExit else s).sdWake).iccWake 0).iccWake 1
    if 4 ≤ done then s1.setSeq (.exit 4 done) 0 else s1.exitEnd done
  else if s.linksUp then s.exitEnd done else s

/-- An exit begins after step `done` of the entry (R105, R106), with the first step that has something to undo: a device still in
DEEP, whose forced entry began in the first steps of an exit, has all of them. -/
def State.exitBegin (s : State) (done : Nat) : State :=
  if s.inDeep then s.setSeq (.exit 1 5) 0
  else if 5 ≤ done then s.setSeq (.exit 1 done) 0
  else if 3 ≤ done then s.setSeq (.exit 2 done) 0
  else if done = 2 then s.setSeq (.exit 3 done) 0
  else s.exitEnd done

/-- A wake source is registered (R103): it acts if it is enabled, in DEEP or during the entry, which then stops after the step
in progress (R106). In steps 1 and 2 of a forced transition, before step 2 of R104 begins, it is not an entry that a wake stops:
it has no effect (DESIGN CHOICE, log 12). -/
def State.wake (s : State) (k : Nat) : State :=
  if ¬ s.mainOn ∨ ¬ (s.get R.PWR_WAKE_EN_EN).testBit k then s
  else match s.pwr.seq with
    | .deep _ => let s1 := s.wakeSrc k; s1.setPwr { s1.pwr with woken := true }
    | .none => if s.inDeep then (s.wakeSrc k).exitBegin 5 else s
    | _ => s

/-! ### Entry into DEEP (R100, R104, R106) -/

/-- Step 1 of the entry has ended: all mover channels and engines idle, and no restore, card or reader operation under way,
and no flash operation running; a suspended one is kept (R509). -/
def State.quiet (s : State) : Bool :=
  s.mover.isEmpty && s.cmds.isEmpty && s.mmu.lanes.isEmpty
    && (s.flc.op.isNone || s.is R.FLC_STATUS_SUSPENDED || s.is R.FLC_STATUS_AUTOSUSPENDED) && !s.is (R.ICC_STATUS_BUSY 0)
    && !s.is (R.ICC_STATUS_BUSY 1) && !s.is R.SDH_STATUS_BUSY && !s.is R.CLF_STATUS_RBUSY

/-- What follows step 1: CLK of a card that allows clock stop stops, another card is deactivated, a removable card sleeps, the
carrier is off (R532, R549). -/
def State.deepCards (s : State) : State := ((s.iccDeep 0).iccDeep 1).sdDeep.carrierOff

/-- Step 5 has ended: the PLLs are off, and the device is in DEEP, where it may already have been. A spire in transition is caught
in it (DESIGN CHOICE, log 12). -/
def State.deepEnter (s : State) : State :=
  let s1 := (List.range 32).foldl (fun (s : State) p => s.setSpire p { s.spire p with tr := .none }) (s.pllLocks false)
  ((s1.set R.PWR_STATE_DEV 3).setPwr { s1.pwr with deepAt := if s.inDeep then s.pwr.deepAt else s1.now }).setSeq .none 3

/-- What the end of step `step` of the entry does: step 2 stops the keep and step 3 puts DDR in self-refresh, which no state but
the sequence's own shows; step 4 takes every link down. -/
def State.deepDone (s : State) (step : Nat) : State :=
  if step = 4 then s.set R.NET_LINK_UP 0 else if step = 5 then s.deepEnter else s

/-- The ceiling and the budget allow the entry under way (R99, R100): a forced one asks for no budget. -/
def State.deepAllowed (s : State) : Bool :=
  decide (3 ≤ s.get R.PWR_CEIL_CEIL) && (s.pwr.deepForced || decide (25000 ≤ s.get R.PWR_BUDGET_BUDGET_US))

/-- The step of the entry in progress ends (R104). The entry stops there on a wake (R106), and where the ceiling or the budget no
longer allows DEEP (R99, R100); the exits of spires that the budget has begun go on (R101). -/
def State.deepStep (s : State) (step : Nat) : State :=
  if step = 1 ∧ ¬ s.quiet then s
  else
    let s1 := s.deepDone step
    if s.pwr.woken ∨ ¬ s.deepAllowed then s1.exitBegin step
    else if step = 5 then s1
    else (if step = 1 then s1.deepCards else s1).setSeq (.deep (step + 1)) 3

/-- The entry begins (R104 step 1). -/
def State.deepBegin (s : State) : State :=
  let s1 := s.set R.JSC_STATUS_OPEN 0
  (s1.setPwr { s1.pwr with woken := false, deepForced := false }).setSeq (.deep 1) 3

/-- DEEP_IDLE_EXPIRY (R100): every spire has been in NAP for DEEP_IDLE ms with no job in flight and no frame received. -/
def State.deepIdle (s : State) : State :=
  if s.spiresRun ∧ s.pwr.seq = .none ∧ s.get R.RST_BOOT_PHASE = 12 ∧ 3 ≤ s.get R.PWR_CEIL_CEIL ∧ 25000 ≤ s.get R.PWR_BUDGET_BUDGET_US
      ∧ s.get R.PWR_IDLE_DEEP_IDLE ≠ 0 ∧ s.jsc.jobs.isEmpty ∧ s.pastBase (s.pwr.busyAt + s.get R.PWR_IDLE_DEEP_IDLE * 1000000)
      ∧ (List.range 32).all (fun p => s.get (R.PWR_SPIRE_STATE_S p) == 2 && (s.spire p).tr == .none) then s.deepBegin
  else s

/-! ### Forced transitions (R108 to R111, R114) -/

/-- The applications and reloads under way end with the device's sequence (R164): STB_STATUS shows them ABORTED, with vector 65,
and STB_HOLD clears (R325). A raise goes on (R154). A dome that was DRAINING or LOADING keeps its state, and becomes RUNNING once
its fence reads drained, with the spires loaded that were (DESIGN CHOICE, log 14: R164 speaks of the next boot alone). -/
def State.stbKill (s : State) : State :=
  let s0 := if s.stb.app.isSome then (s.set R.STB_STATUS_PHASE 9).raise 65 else s
  let s1 := (((s0.setStb { s.stb with app := none, amend := none, next := none, nextImages := [] }).stbBusy).set
    R.STB_STATUS_AMEND 0).set R.ART_STATUS_STB_HOLD 0
  (List.range 32).foldl (fun (s : State) p => s.setSpire p { s.spire p with reload := .none }) s1

/-- Step 1 of R109: the JSC closes, every job in flight is BROKEN_POWER, the carrier is off (R549). What is a stop cause for the
flash and the cards (R505, R521) stops them beside this. -/
def State.forceStop (s : State) : State :=
  ((((s.set R.JSC_STATUS_OPEN 0).breakJobs (fun _ => true) 3).carrierOff).stopMovers (fun _ => true)).stbKill

/-- A completion that waits for egress on a link that is up can still be sent (R109 step 2). -/
def State.canSend (s : State) : Bool := s.net.tx.any (fun m => m.job.isSome && (s.get R.NET_LINK_UP).testBit m.peer.link)

/-- Step 2 of R109 ends: every completion not sent is discarded, so that every job has left flight (R190). -/
def State.discardAll (s : State) : State :=
  let s1 := s.setNet { s.net with tx := s.net.tx.filter (fun m => m.job.isNone) }
  s1.jsc.jobs.foldl (fun (s : State) j => s.leaveFlight j 0) s1

/-- Step 4 of R109: the key cache with its pins, the table key and the directory, as KEYSTORE (R358), session keys and colour
keys are cleared, and the random state (R426). -/
def State.zeroise (s : State) : State :=
  let s1 := (s.clearTable.clearCache.cerClear.sesCloseAll (fun _ => true) none).entClear
  { s1 with memc := { s1.memc with keys := [], oldKeys := [], sweep := none }
            pools := { s1.pools with digKey := [] }
            ses := { s1.ses with ctxKey := [], missQ := [], parts := [], inbox := [] } }

/-- The cause that a seal of a forced sequence carries (R201). -/
def State.sealCause (s : State) : Nat := if s.pwr.seq = .toReset then 3 else 2

/-- nRESET, RESET_DEVICE, the FCU, SWRESET or the watchdog set their bit of RST_CAUSE (R113). -/
def State.setCause (s : State) (f : Fld) : State := s.set f 1

/-- PWR_STATE.TARGET of a sequence: HOLD, DEEP, or ACTIVE after a device reset. -/
def PwrSeq.target (q : PwrSeq) : Nat := match q with | .toHold => 4 | .toOff => 4 | .toDeep => 3 | _ => 0

/-! ### Bedrock's supply (R74, R444) -/

/-- BEDROCK_CHANGEOVER (R74): to VBAT or back, losing nothing. -/
def State.changeover (s : State) (vbat : Bool) : State := s.setPwr { s.pwr with vbat := vbat }

/-- BEDROCK_TRIP (R74): bedrock stops. -/
def State.bedrockTrip (s : State) : State := s.setPwr { s.pwr with bedrock := false }

/-- BEDROCK_RESTART (R444): a bedrock reset, and BEDROCK_LOST on the first bedrock edge after it. -/
def State.bedrockRestart (s : State) : State := if s.pwr.bedrock then s else s.bedrockReset.tamper 16

/-! ### Clocks and time (R89 to R93, R103) -/

/-- CRYSTAL_FAIL (R89): tamper source CLKMON, DETAIL 0 (the crystal). -/
def State.crystalFail (s : State) : State :=
  if s.pwr.bedrock ∧ ¬ s.is R.CLK_XTAL_ONRC then ((s.set R.CLK_XTAL_FAIL 1).set R.CLK_XTAL_ONRC 1).tamper 10 0 else s

/-- CRYSTAL_RECOVER (R89). -/
def State.crystalRecover (s : State) : State := if s.pwr.bedrock then s.set R.CLK_XTAL_ONRC 0 else s

/-- TIME_PAIR_LATCH (R92): on a tick whose low 15 bits are zero, while main power is on. -/
def State.pairLatch (s : State) : State :=
  if s.pwr.bedrock ∧ s.mainOn ∧ s.get R.TIME_TSTAMP_TICKS % 32768 = 0 then
    let s1 := (s.set R.TIME_PAIR_DTIME_DTIME s.nowNs).set R.TIME_PAIR_TSTAMP_TSTAMP (s.get R.TIME_TSTAMP_TICKS)
    let s2 := if s.is R.CLK_XTAL_ONRC then s1 else s1.set R.CLK_XTAL_RCLATCH 0
    s2.setPwr { s2.pwr with pair := true }
  else s

/-- DTIME at a boot (R92, R93): reconstructed from the pair, or 0 with UNSET set. -/
def State.reconstruct (s : State) : State :=
  if s.pwr.pair then
    let ticks : Rat := ((s.get R.TIME_TSTAMP_TICKS + 2 ^ 48 - s.get R.TIME_PAIR_TSTAMP_TSTAMP) % 2 ^ 48 : Nat)
    let elapsed : Rat := ticks * (30517578125 / 1000000) * (if s.is R.CLK_XTAL_RCLATCH then 33 / 32 else 1)
    let t : Rat := (s.get R.TIME_PAIR_DTIME_DTIME : Rat) + elapsed + 1000000
    ((s.set R.TIME_DTIME_NS t.floor.toNat).set R.TIME_DFRAC_FRAC ((t - t.floor) * 65536).floor.toNat).set R.TIME_STATUS_UNSET 0
  else ((s.set R.TIME_DTIME_NS 0).set R.TIME_DFRAC_FRAC 0).set R.TIME_STATUS_UNSET 1

/-- TIME_SET (R93). -/
def State.timeSet (s : State) (v : Nat) : State :=
  if ¬ s.is R.TIME_STATUS_UNSET ∨ s.pwr.setDone then s
  else if s.now ≤ (v : Rat) then s.setPwr { s.pwr with setTo := some (v % 2 ^ 64), setDone := true }
  else s.set R.TIME_STATUS_REJECT 1

/-- TIME_ALARM_MATCH (R103). -/
def State.alarmMatch (s : State) : State :=
  let a := s.get R.TIME_ALARM_TICKS
  if s.pwr.bedrock ∧ a ≠ 0 ∧ a = s.get R.TIME_TSTAMP_TICKS then s.wake 3 else s

/-- One bedrock tick: the mesh and the open case switches (R432, R433), TSTAMP, the mailbox's hand-overs (R559), and RCLATCH
while the RC oscillator counts (R92). -/
def State.bedrockTick (s : State) : State :=
  if ¬ s.pwr.bedrock then s
  else
    let s0 := s.lostEdge.meshTick.caseTick
    let s1 := (s0.set R.TIME_TSTAMP_TICKS (s0.get R.TIME_TSTAMP_TICKS + 1)).mboxEdge
    if s.is R.CLK_XTAL_ONRC then s1.set R.CLK_XTAL_RCLATCH 1 else s1

/-- One time-base edge (R90, R91, R93): 40,960 of the fraction adjusted by RATE, and an accepted TIME_SET. -/
def State.timeEdge (s : State) : State :=
  let rate := asSigned 20 (s.get R.TIME_DISC_RATE)
  let inc : Rat := (40960 : Rat) * (1 + (rate : Rat) / 1000000000) + s.pwr.resid
  let old : Nat := s.get R.TIME_DTIME_NS * 65536 + s.get R.TIME_DFRAC_FRAC
  let new : Nat := old + inc.floor.toNat
  let set_ : Nat := match s.pwr.setTo with | some v => max (v * 65536) new | none => new
  let s0 := s.setPwr { s.pwr with resid := inc - inc.floor, edges := s.pwr.edges + 1, edge := ((new - old : Nat) : Rat) / 65536 }
  let s1 := (s0.set R.TIME_DTIME_NS (set_ / 65536)).set R.TIME_DFRAC_FRAC (set_ % 65536)
  match s.pwr.setTo with
  | none => s1
  | some _ =>
    let step : Rat := ((set_ - new : Nat) : Rat) / 65536
    (s1.setPwr { s1.pwr with setTo := none, skipped := s1.pwr.skipped + step }).set R.TIME_STATUS_UNSET 0

/-- A time-base edge and, every 48,828 and 1/8 edges, a bedrock tick: `phase` counts eighths. -/
def State.clockEdge (s : State) : State :=
  let s1 := s.timeEdge
  let p := s1.pwr.phase + 8
  if 390625 ≤ p then (s1.setPwr { s1.pwr with phase := p - 390625 }).bedrockTick
  else s1.setPwr { s1.pwr with phase := p }

end Sys2Proof.Machine
end

