-- ==== Sys2Proof/Machine/Boot.lean ====
section
/-!
DEFINITION. Sys2Proof/Machine/Boot.lean: the boot sequence (spec/04_boot_lifecycle_management.md R113 to R127) and the
sequences that lead to it or to HOLD and DEEP (spec/03_clocks_power.md R108 to R111): commands MAIN_POWER_UP,
RAILS_IN_RANGE, PWR_OK_LOW, PWR_CEIL_WRITE, PWR_CEIL_FORCE, HOLD_READY, NRESET_LOW, SWRESET, BOOT_READY,
BOOT_WATCHDOG_EXPIRY, RST_CONFIRM, RST_CONFIRM_RAISE, LIFECYCLE_ADVANCE, FUSE_PROGRAM_END, ENT_SEED_TIMEOUT, JOURNAL_SEAL
and the firing of tampers in DEEP.
-/

namespace Sys2Proof.Machine

/-! ### Steps 5 to 8 -/

/-- Steps 7 and 8 begin: the firmware runs, the watchdog is armed (R123), the ledger has been scanned (R507), a COMMIT
of the tag made while main power was off raises its vector (R559), and the STB has its minimums (R154). -/
def State.bootFirmware (s : State) : State :=
  if s.defect 7 then s.bootFail 7
  else
    let s1 := s.ledgerScan.setPwr { s.pwr with wd := some s.tbase }
    let s2 := if s1.tag.committed then (s1.setTag { s1.tag with committed := false }).clfEvent 354 else s1
    let s3 := s2.set R.STB_MINVER_MIN s2.flc.minW
    let s4 := s3.flc.minD.foldl (fun (s : State) e => s.set (R.STB_DOM_MIN_MIN e.1) e.2) s3
    (s4.settleAll).phaseSet 8

/-- The keys that step 6 draws: the colours' key sets (R281), the DIG context key (R371), the PKE curve key (R393) and the
context key of the sessions (R473). One that a deferred response has asked for already waits in its place (R423). -/
def State.bootAsk (s : State) : State :=
  ((List.range 64).map EntReq.colour ++ [EntReq.digKey, EntReq.curveKey, EntReq.ctxKey]).foldl State.askKey s

/-- The keys of step 6 are drawn, one request each, as far as the DRBG serves (R424); with the last the step ends. -/
def State.bootKeys (s : State) : State :=
  let s1 := s.keyServeAll
  if (firstReq 1 s1.ent.reqs).isNone then s1.bootFirmware else s1

/-- Step 6 (R118, R280): the channels are trained, and every line is zero under the stored map. -/
def State.bootDdr (s : State) : State :=
  if s.defect 6 then s.bootFail 6
  else
    let s1 := s.phaseSet 6
    ({ ((s1.set R.CLK_LOCK_DDR 1).set R.MEMC_STATUS_INIT_DONE 1) with
      memc := { s1.memc with cmap := s1.flc.cmap, bad := [], scrub := 0 }
      mem := s1.mem.filter (fun c => !isDdr c.1) }).bootAsk.bootKeys

/-- What the boot does by itself: step 5 ends when the DRBG is seeded, or in failure with a known-answer test (R420); step 6 goes
on with its keys. -/
def State.bootTick (s : State) : State :=
  if s.get R.RST_BOOT_PHASE = 5 then
    (if s.defect 5 ∨ ¬ s.katPass then s.bootFail 5 else if s.is R.ENT_STATUS_SEEDED then s.bootDdr else s)
  else if s.get R.RST_BOOT_PHASE = 6 then s.bootKeys
  else s

/-! ### Steps 1 to 4 -/

/-- The boot ROM reads a twin (R496), which passes (R121) where its image verifies and its version is not below the minimum. -/
def State.twinPasses (s : State) (t : Nat) : Option Nat × State :=
  ((s.twinVersion t).filter (fun v => decide (s.get R.RST_FWVER_MINVER ≤ v)), s.twinRead t)

/-- A twin runs: step 4 has ended. RST_BOOT.FALLBACK is set as R121 says; an override that names the twin which the pointer does
not name leaves it 0 (DESIGN CHOICE, log 11: the table of R121 does not set it there). -/
def State.bootRun (s : State) (t v : Nat) (fb : Bool) : State :=
  ((((s.set R.RST_BOOT_TWIN t).setB R.RST_BOOT_FALLBACK fb).set R.RST_FWVER_RUNVER v).phaseSet 5).bootTick

/-- Step 4 (R121): the twin is chosen, the other tried where it fails, and then the device waits for its entropy; or it
enters RECOVERY. -/
def State.bootTwin (s : State) : State :=
  let n := min 7 (s.get R.RST_BOOT_ATTEMPTS + 1)
  let o := s.get R.RST_BOOT_OVERRIDE
  let s1 := (s.set R.RST_BOOT_ATTEMPTS n).set R.RST_BOOT_OVERRIDE 0
  let p := s.flc.twin
  let pick : Option (Nat × Bool) :=
    if o = 1 then some (0, false) else if o = 2 then some (1, false) else if o = 3 then none
    else if n ≤ 3 then some (p, false) else if n ≤ 6 then some (1 - p, true) else none
  if s.defect 4 then s1.bootFail 4
  else
    match pick with
    | none => s1.bootStop 15
    | some (t, fb) =>
      let a := s1.twinPasses t
      match a.1 with
      | some v => a.2.bootRun t v fb
      | none =>
        let b := a.2.twinPasses (1 - t)
        match b.1 with
        | some v => b.2.bootRun (1 - t) v true
        | none => b.2.bootStop 15

/-- The key store of the flash is erased. -/
def State.eraseKeyStore (s : State) : State :=
  ((List.range 8192).filter (fun n => Config.keyStoreSector n)).foldl (fun (s : State) n => s.erased (n * 0x10000)) s

/-- Entry into DECOMMISSION (R116, R125): the bedrock share and the key store are erased, and both root keys are lost. The helper
data is blown with the fuses of the state, so that no identity key is reconstructed any more. -/
def State.decommission (s : State) : State :=
  (((s.setPwr { s.pwr with share := [] }).set R.RST_ROOT_SRK_VALID 0).set R.RST_ROOT_DIK_VALID 0).eraseKeyStore

/-- Step 3 reads the lifecycle state from two of its three fuse copies and blows the third (R127). -/
def State.lcRead (s : State) : State :=
  if s.pwr.blown < 2 then s
  else
    let s1 := s.setPwr { s.pwr with lc := s.pwr.lc + 1, blown := 0 }
    if s1.pwr.lc = 3 then s1.decommission else s1

/-- Step 3 (R116, R126): a device in DECOMMISSION stops here; otherwise the identity key is there, and the storage root
key where the share gives the check value. -/
def State.bootRoots (s : State) : State :=
  let s0 := (s.phaseSet 3).lcRead
  let s1 := s0.set R.RST_LC_STATE s0.pwr.lc
  if s.defect 3 then s1.bootFail 3
  else if s1.pwr.lc = 3 then s1
  else
    let s2 := s1.set R.RST_ROOT_DIK_VALID 1
    let s3 := if s1.pwr.share ≠ [] ∧ s1.flc.srk = some (rootCheck s1.pwr.share) then s2.rootValid s1.pwr.share else s2
    ((s3.phaseSet 4).setPwr { s3.pwr with seedAt := s3.tbase }).bootTwin

/-- Steps 1 to 4 after a reset of the main domain: locks, DTIME, deferred responses, halt, roots (R118, R119). They run in the one
command or tick that starts the boot, and nothing falls between them (DESIGN CHOICE, log 40). A step that fails stops
the boot before it has any effect (R120; what it had begun is the model's choice, log 43). -/
def State.bootStart (s : State) : State :=
  let s0 := s.setPwr { s.pwr with main := .on, lost := false }
  let s1 := (s0.setB R.RST_CAUSE_BEDROCK s.pwr.lost).phaseSet 1
  if s.defect 1 then s1.bootFail 1
  else
    let s2 := ((((s1.set R.CLK_LOCK_KEEP 1).set R.CLK_LOCK_TBASE 1).set R.CLK_LOCK_CORE 1).reconstruct).phaseSet 2
    if s.defect 2 then s2.bootFail 2
    else
      let s3 := s2.deferredResponses
      if s3.is R.TMP_PENDING_HALT then s3.bootStop 13 else s3.bootRoots

/-- ENT_SEED_TIMEOUT (R421): 50 ms without SEEDED. -/
def State.seedTimeout (s : State) : State :=
  if s.get R.RST_BOOT_PHASE = 5 ∧ ¬ s.is R.ENT_STATUS_SEEDED ∧ s.pastBase (s.pwr.seedAt + 50000000) then s.bootFail 5 else s

/-! ### The ends of the sequences -/

/-- Step 5 of R109, with PWR_OK high (isolated) or low (main power may go). -/
def State.holdEnd (s : State) (off : Bool) : State :=
  let s1 := s.zeroise.isolate
  if off then s1.powerOff else s1

/-- A sequence whose jobs have all left flight, and whose journal is sealed or was never open, goes on to its end; one to DEEP at
step 2 of R104. -/
def State.seqEnd (s : State) : State :=
  match s.pwr.seq with
  | .toReset => s.mainReset.bootStart
  | .toHold => s.holdEnd false
  | .toOff => s.holdEnd true
  | .toDeep => (s.setPwr { s.pwr with woken := false, deepForced := true }).setSeq (.deep 2) 3
  | _ => s

/-- One of the sequences of R109 and R114 is under way. -/
def PwrSeq.forced : PwrSeq → Bool
  | .toReset => true
  | .toDeep => true
  | .toHold => true
  | .toOff => true
  | _ => false

/-- A forced sequence goes on: step 2 ends where no completion can be sent, step 3 with the seal of an open journal. -/
def State.seqGo (s : State) : State :=
  if ¬ s.pwr.seq.forced ∨ s.canSend then s
  else
    let s1 := s.discardAll
    if s1.is R.JRN_STATUS_OPEN ∧ s.pwr.seq ≠ .toDeep then s1 else s1.seqEnd

/-- JOURNAL_SEAL (R201): step 3 of a forced transition or reset, or an ordered HOLD after its last job. -/
def State.journalSeal (s : State) : State :=
  match s.pwr.seq with
  | .toReset | .toHold | .toOff => (s.discardAll.jrnSeal s.sealCause).seqEnd
  | _ => if s.pwr.hold ∧ s.jsc.jobs.isEmpty then s.jrnSeal 1 else s

/-- The edge on which a cause of a forced sequence is registered: PWR_OK low and a reset source end the live handling of tampers
(R440) and are stop causes for the flash, which no further pulse leaves (R505); every cause deactivates the cards (R532). -/
def State.forceEdge (s : State) (q : PwrSeq) : State :=
  if q = .toReset ∨ q = .toOff then s.liveEnd.stopCause true else s.stopCards

/-- A forced transition is counted, and so is a device reset with a job in flight (R108, R114): a job whose completion has not
left is in flight (R175). -/
def State.forceCounts (s : State) (q : PwrSeq) : Bool := q != .toReset || (!s.pwr.seq.forced && !s.jsc.jobs.isEmpty)

/-- A forced transition or a device reset begins (R108, R114). A sequence already under way gives way to one that isolates
(R110). A device reset goes on at the next tick, so that the sources registered on one edge cause one reset (R115). -/
def State.force (s : State) (q : PwrSeq) : State :=
  let s0 := s.forceEdge q
  let s1 := if s.forceCounts q then s0.count R.PWR_FORCED_CNT_COUNT else s0
  let s2 := if s.pwr.seq.forced then s1 else s1.forceStop
  let s3 := s2.setSeq q q.target
  if q = .toReset then s3 else s3.seqGo

/-! ### Power -/

/-- Main power is up and its rails are in range (R69 step 7): the supervisor arms VRANGE and VGLITCH (R71), the flash's records
are read (R494, R508), bedrock takes DEVID (R557), and the device boots. The bedrock edge that registers BEDROCK_LOST has come before (R444). -/
def State.release (s : State) : State :=
  let s1 := s.lostEdge.mainReset.infoPowerUp
  ((s1.setPwr { s1.pwr with armed := true, devKnown := true }).set R.RST_CAUSE_POWER 1).bootStart

/-- MAIN_POWER_UP (R69 to R71): PWR_OK is registered high; the device boots at once, or waits for its rails. `defects`: what is
broken in it (log 43). -/
def State.powerUp (s : State) (rails : Bool) (defects : Nat) : State :=
  if s.pwr.main ≠ .off ∨ ¬ s.pwr.bedrock then s
  else
    let s1 := s.setPwr { s.pwr with defects := defects }
    if rails then s1.release else s1.setPwr { s1.pwr with main := .waiting }

/-- RAILS_IN_RANGE (R70). -/
def State.railsIn (s : State) : State := if s.pwr.main = .waiting ∧ s.pwr.bedrock then s.release else s

/-- PWR_OK_LOW (R71, R72, R108, R110, R111): the supervisor disarms; an ordered HOLD that is ready completes, and anything else is
a forced transition. -/
def State.pwrOkLow (s : State) : State :=
  let s1 := s.setPwr { s.pwr with armed := false }
  match s.pwr.main with
  | .off => s
  | .waiting => s1.setPwr { s1.pwr with main := .off }
  | .isolated => (s1.stopCause true).powerOff
  | .on =>
    if s.is R.PWR_STATE_HOLD_READY then (s1.forceEdge .toOff).forceStop.discardAll.holdEnd true else s1.force .toOff

/-- PWR_CEIL_WRITE (R99, R101, R108): 5 to 7 are treated as 4. A ceiling of HOLD orders a HOLD; another one ends it. -/
def State.ceilWrite (s : State) (v : Nat) : State :=
  if ¬ s.mainOn then s
  else
    let c := min (v % 8) 4
    let s1 := (s.set R.PWR_CEIL_CEIL c).setPwr { s.pwr with hold := c == 4 }
    let s2 := if c = 4 then s1.set R.JSC_STATUS_OPEN 0
      else if s.pwr.hold then (s1.set R.PWR_STATE_HOLD_READY 0).jscOpen else s1
    s2.settleAll

/-- PWR_CEIL_FORCE (R108): with FORCE, a ceiling of DEEP or HOLD is a forced transition. One to DEEP that meets DEEP, or its entry,
or a sequence that leads further, is counted and ends there; an entry under way is then a forced one. -/
def State.ceilForce (s : State) (v : Nat) : State :=
  if ¬ s.mainOn then s
  else
    let c := min (v % 8) 4
    let hold := s.pwr.hold && c == 4
    let s0 := (s.set R.PWR_CEIL_CEIL c).setPwr { s.pwr with hold := hold }
    let s1 := (if s.pwr.hold && !hold then s0.set R.PWR_STATE_HOLD_READY 0 else s0).settleAll
    let s2 := s1.setPwr { s1.pwr with deepForced := true }
    if c < 3 then s.ceilWrite c
    else if s.pwr.seq = .toOff ∨ (c = 4 ∧ s.pwr.seq = .toHold)
        ∨ (c = 3 ∧ (s.pwr.seq.forced ∨ s.deepEntry ∨ (s.inDeep ∧ s.pwr.seq = .none))) then s2.count R.PWR_FORCED_CNT_COUNT
    else s1.force (if c = 4 then .toHold else .toDeep)

/-- HOLD_READY (R108, R201): every dome has drained (R572), every job has completed, the journal is sealed and exported to its final BLOCK record; every
session closes with a close message. -/
def State.holdReady (s : State) : State :=
  let exported : Bool := !s.is R.JRN_STATUS_SEALED
    || (s.get R.JRN_EXPORT_SEQ != 2 ^ 64 - 1 && decide (s.get R.JRN_SEAL_SEQ_SEQ ≤ s.get R.JRN_EXPORT_SEQ))
  if s.mainOn ∧ s.pwr.hold ∧ s.pwr.seq = .none ∧ ¬ s.is R.PWR_STATE_HOLD_READY ∧ s.jsc.jobs.isEmpty ∧ ¬ s.is R.JRN_STATUS_OPEN
      ∧ exported = true ∧ ((List.range 64).all (fun d => s.is (R.STB_DOM_FENCE_DRAINED d))) = true then
    ((s.sesCloseAll (fun _ => true) (some 0x0209)).set R.PWR_STATE_HOLD_READY 1).set R.MGT_ALERT_HOLD_READY 1
  else s

/-! ### Device resets (R113 to R115) -/

/-- A reset source is registered: one that meets a transition to HOLD sets its cause alone, and stops the flash. -/
def State.resetSource (s : State) (f : Fld) : State :=
  if ¬ s.mainOn then s
  else
    let s1 := (s.setCause f).setPwr { s.pwr with wd := none }
    if s.pwr.seq = .toHold ∨ s.pwr.seq = .toOff then s1.stopCause true else s1.force .toReset

/-- BOOT_WATCHDOG_EXPIRY (R123): a confirmation registered on the expiry edge wins (R23). -/
def State.watchdog (s : State) : State :=
  match s.pwr.wd with
  | some t => if s.pastBase (t + 30000000000) then s.resetSource R.RST_CAUSE_WATCHDOG else s
  | none => s

/-! ### Confirmation and readiness (R118, R122) -/

/-- RST_CONFIRM, and with `raise_` RST_CONFIRM_RAISE: from the start of step 7. -/
def State.confirm (s : State) (raise_ : Bool) : State :=
  let p := s.get R.RST_BOOT_PHASE
  if p < 7 ∨ 12 < p then s
  else
    let s1 := (s.set R.RST_BOOT_ATTEMPTS 0).setPwr { s.pwr with wd := none, confirmed := true }
    let v := max s.pwr.minver (s.get R.RST_FWVER_RUNVER)
    let s2 := if raise_ then (s1.set R.RST_FWVER_MINVER v).setPwr { s1.pwr with minver := v } else s1
    if p = 9 then s2.phaseSet 10 else s2

/-- BOOT_READY (R118 step 10): the ports are trained, the JSC opens, and a worker or standby joins (R479). -/
def State.bootReady (s : State) : State :=
  if s.get R.RST_BOOT_PHASE = 10 ∧ s.defect 10 then s.bootFail 10
  else if s.get R.RST_BOOT_PHASE = 10 ∧ s.pwr.seq = .none ∧ s.linksUp then
    (((((s.set R.CLK_LOCK_SER0 1).set R.CLK_LOCK_SER1 1).phaseSet 12).jscOpen).set R.MGT_ALERT_READY 1).fedStart
  else s

/-! ### Lifecycle (R125 to R127) -/

/-- LIFECYCLE_ADVANCE: a write of RST_LC_CMD. -/
def State.lcAdvance (s : State) (key target : Nat) : State :=
  if s.is R.RST_LC_BUSY then s
  else if key = 0xA5C3 ∧ target = s.get R.RST_LC_STATE + 1 ∧ target ≤ 3 then
    (s.set R.RST_LC_BUSY 1).setPwr { s.pwr with lcNext := some target }
  else s.set R.RST_LC_REJECT 1

/-- A unit leaves FACTORY: the entropy test modes are absent (R125, R427), as after MODE 0. -/
def State.leaveFactory (s : State) : State :=
  let s1 := if s.get R.ENT_TEST_MODE = 0 then s else s.entTestOff 0
  (s1.set R.ENT_TEST_MODE 0).set R.ENT_TEST_PAIR 0

/-- FUSE_PROGRAM_END (R126). Entry into DECOMMISSION leaves no root key and admits no job (R125). -/
def State.fuseEnd (s : State) : State :=
  match s.pwr.lcNext with
  | none => s
  | some t =>
    let s0 := if s.get R.RST_LC_STATE = 0 then s.leaveFactory else s
    let s1 := ((s0.setPwr { s0.pwr with lc := t, lcNext := none, blown := 0 }).set R.RST_LC_STATE t).set R.RST_LC_BUSY 0
    if t = 3 then s1.decommission.set R.JSC_STATUS_OPEN 0 else s1

/-! ### Tampers -/

/-- The end of what a firing has done: one that isolates the device ends an application of the STB (R164). -/
def State.afterFiring (s t : State) : State := if s.mainOn ∧ t.pwr.main = .isolated then t.stbKill else t

/-- In DEEP, or step 1 of its exit: responses wait for the end of that step (R440). -/
def State.asleep (s : State) : Bool :=
  match s.pwr.seq with
  | .none => s.inDeep
  | .exit 1 _ => true
  | _ => false

/-- TAMPER_FIRING (R438 to R440) of the first `n` events, of which steps 1 to `k` execute now. In DEEP and in its entry it is a
wake source, and in DEEP its responses wait for the exit. -/
def State.firing (s : State) (n k : Nat) : State :=
  if ¬ s.tmp.live ∨ s.tmp.queue = [] ∨ n = 0 then s
  else
    let s1 := if s.inDeep ∨ s.deepEntry then s.wake 4 else s
    if s.asleep then s1.setTmp { s1.tmp with inDeep := if s.tmp.inDeep = 0 then n else s.tmp.inDeep }
    else s1.afterFiring (s1.tamperFiring n k)

/-- A firing under way goes on. -/
def State.firingTick (s : State) : State := s.afterFiring s.firingGo

/-- The end of TAMPER_ACK (R443): HALT clears with what has become pending since, and the boot resumes at step 3. -/
def State.haltAck (s : State) : State := ((s.set R.TMP_PENDING_HALT 0).set R.TMP_PENDING_RESP 0).bootRoots

/-! ### The tick of the main domain -/

/-- What goes on by itself in the device's sequences: steps of R104, R105, R109 and of the boot. -/
def State.seqTick (s : State) : State :=
  match s.pwr.seq with
  | .none => s.bootTick
  | .deep k => s.deepStep k
  | .exit k done => s.exitStep k done
  | _ => s.seqGo

end Sys2Proof.Machine
end

