-- ==== Sys2Proof/Machine/Fcu.lean ====
section
/-!
DEFINITION. Sys2Proof/Machine/Fcu.lean: the fault collection unit (spec/10_access_faults.md R327 to R338): commands
FAULT_REGISTER, GRACE_EXPIRY, QUIET_EXPIRY, FCU_ACK and FCU_RETIRE, and the steps of the ladders.
-/

namespace Sys2Proof.Machine

/-- A vector of the FCU with its bit of FCU_EVENTS (R341). -/
def State.fcuEvent (s : State) (v : Nat) : State := s.cause R.FCU_EVENTS_CAUSE 112 v

/-- The class of a fault source (R328): MISSED is always SEVERE. -/
def State.faultClass (s : State) (source : Nat) : Nat := if source = 5 then 3 else s.get (R.FCU_SRC_MAP_SRC source)

/-- The state of a pair of dome and class (R330): 0 NORMAL, 1 GRACE, 2 HELD. -/
def State.pairSt (s : State) (d c : Nat) : Nat := s.get (R.FCU_DC_STATE_STATE d c)

/-- The grace or quiet timer of a pair starts (R337). -/
def State.pairTimer (s : State) (d c : Nat) : State := { s with fcu := tabIns s.fcu (d * 4 + c) s.tnow }

/-- How long the timer of a pair has run, in ns of DTIME (R91, R337). -/
def State.pairRun (s : State) (d c : Nat) : Rat := s.tnow - (tabFind s.fcu (d * 4 + c)).getD s.tnow

/-! ### Registration (R329, R331) -/

/-- The first-error record of a class (R329). -/
def State.firstRecord (s : State) (c : Nat) (m : FaultMsg) : State :=
  let s1 := (s.set (R.FCU_FIRST_ADDR_ADDR c) m.addr).set (R.FCU_FIRST_INFO_AGENT c) m.agent
  let s2 := ((s1.set (R.FCU_FIRST_INFO_DOME c) m.dome).set (R.FCU_FIRST_INFO_TYPE c) m.type).set (R.FCU_FIRST_INFO_SOURCE c) m.source
  let s3 := (s2.set (R.FCU_FIRST_INFO_SPIRE c) m.spire).set (R.FCU_FIRST_TIME_TIME c) s.nowNs
  (s3.set (R.FCU_FIRST_INFO_VALID c) 1).fcuEvent 115

/-- The last-error record of a class (R329). -/
def State.lastRecord (s : State) (c : Nat) (m : FaultMsg) : State :=
  let s1 := (s.set (R.FCU_LAST_ADDR_ADDR c) m.addr).set (R.FCU_LAST_INFO_AGENT c) m.agent
  let s2 := ((s1.set (R.FCU_LAST_INFO_DOME c) m.dome).set (R.FCU_LAST_INFO_TYPE c) m.type).set (R.FCU_LAST_INFO_SOURCE c) m.source
  let s3 := (s2.set (R.FCU_LAST_INFO_SPIRE c) m.spire).set (R.FCU_LAST_TIME_TIME c) s.nowNs
  s3.set (R.FCU_LAST_INFO_VALID c) 1

/-- The records and the later count of a class take a fault (R329). -/
def State.recordFault (s : State) (c : Nat) (m : FaultMsg) : State :=
  (if s.is (R.FCU_FIRST_INFO_VALID c) then s.count (R.FCU_LATER_COUNT c) else s.firstRecord c m).lastRecord c m

/-- A fault registered for a pair (R331). -/
def State.pairFault (s : State) (d c spire : Nat) : State :=
  let s1 := s.count (R.FCU_DC_STATE_FAULTS d c)
  let st := s.pairSt d c
  if st = 1 then s1
  else
    let s2 := if st = 0 then s1.set (R.FCU_DC_STATE_STEP d c) 0 else s1
    (((s2.set (R.FCU_DC_STATE_STATE d c) 1).set (R.FCU_DC_STATE_TRIGGER d c) spire).pairTimer d c).fcuEvent 112

/-- A fault is taken before another (R327): by the edge of its report, then by agent ID, then by source number. -/
def FaultMsg.before (m q : FaultMsg) : Bool :=
  m.at_ < q.at_ || (m.at_ == q.at_ && (m.agent < q.agent || (m.agent == q.agent && m.source < q.source)))

/-- The fault that the FCU takes next. -/
def firstFault (q : List FaultMsg) : Option FaultMsg :=
  q.foldl (fun (b : Option FaultMsg) m => match b with | some x => if m.before x then some m else b | none => some m) none

/-- FAULT_REGISTER: the next fault on its way. A TAMPER fault changes no pair (R328). -/
def State.faultRegister (s : State) : State :=
  match firstFault s.faultQ with
  | none => s
  | some m =>
    let c := s.faultClass m.source
    let s1 := ({ s with faultQ := s.faultQ.erase m } : State).recordFault c m
    if m.source = 6 then s1 else s1.pairFault m.dome c m.spire

/-! ### The ladder (R332 to R336) -/

/-- STOP_DOMAIN and RESET_DOMAIN act (R333): not on dome 0, and only on a dome that is RUNNING or DRAINING. -/
def State.stoppable (s : State) (d : Nat) : Bool := d != 0 && (s.domeSt d == 2 || s.domeSt d == 3)

/-- A ladder step has acted on a dome on this edge: RESET_DOMAIN with `reset`, otherwise STOP_DOMAIN (R335). -/
def State.stoppedNow (s : State) (d : Nat) (reset : Bool) : Bool := (s.dome d).stopAt == some (s.tbase, reset)

/-- The break edge of STOP_DOMAIN, or with `reset` of RESET_DOMAIN, on a dome on which it acts (R332, R334). -/
def State.stopAct (s : State) (d : Nat) (reset : Bool) : State :=
  let s1 := (s.haltDome d).setDome d { (s.haltDome d).dome d with stopAt := some (s.tbase, reset) }
  match s1.domeApp d with
  | some a =>
    let s2 := s1.setStb { s1.stb with app := some { a with stop := if reset then a.stop && !s.stoppedNow d false else true } }
    let s3 := if reset then s2.setDome d { s2.dome d with after := 3 } else s2
    if reset then s3.domeDrained d else s3
  | none =>
    let s2 := s1.setDomeSt d 4
    if reset then (s2.setDome d { s2.dome d with after := 2 }).domeDrained d else s2

/-- STOP_DOMAIN or RESET_DOMAIN: of the two on one edge, RESET_DOMAIN subsumes the other (R335), in whichever order they come. -/
def State.stopDome (s : State) (d : Nat) (reset : Bool) : State :=
  if ¬ reset ∧ s.stoppedNow d true then s
  else if s.stoppable d ∨ (reset ∧ s.domeSt d = 4 ∧ s.stoppedNow d false) then s.stopAct d reset
  else s

/-- The shared SRAM and the core data memories of a spire read zero (R336). -/
def State.zeroSpire (s : State) (p : Nat) : State :=
  ((List.range 16).map (fun k => 16 * p + k)).foldl (fun (s : State) c => s.dropBytes (coreAddr c 0) 0x20000)
    (s.dropBytes (sramAddr p 0) 0x400000)

/-- A dome has a spire in SPIRES_USED that is not retired. -/
def State.hasSpire (s : State) (d : Nat) : Bool :=
  match (s.dome d).content with | some c => !(s.usedSpires c).isEmpty | none => false

/-- Retirement of a spire (R336). -/
def State.retireSpire (s : State) (p : Nat) : State :=
  if 32 ≤ p ∨ s.is (R.FCU_RETIRED_RETIRED p) then s
  else
    let s1 := (s.breakJobs (fun j => j.core.map (· / 16) == some p) 2).stopMovers (fun m => m.spire == p)
    let s2 := ((s1.set (R.FCU_RETIRED_RETIRED p) 1).set (R.FCU_RETIRED_HIST_EVER p) 1).fcuEvent 116
    let s3 := (s2.zeroSpire p).setSpire p { s2.spire p with reload := .none, loaded := none }
    let s4 := s3.settle p
    match s4.spireDome p with
    | none => s4
    | some d => (if s4.hasSpire d then s4 else s4.stopDome d false).domeCheck d

/-- RETIRE_SPIRE retires a spire, and remembers the edge on which that first set the bit of FCU_RETIRED_HIST, which outlives a
reset. -/
def State.ladderRetire (s : State) (p : Nat) : State :=
  let s1 := s.retireSpire p
  if s.is (R.FCU_RETIRED_HIST_EVER p) ∨ ¬ s1.is (R.FCU_RETIRED_HIST_EVER p) then s1
  else s1.setSpire p { s1.spire p with everAt := some s.tbase }

/-- RESET_DEVICE subsumes the retirements that came before it on its edge (R335). -/
def State.unretire (s : State) : State :=
  (List.range 32).foldl (fun (s : State) p =>
    if (s.spire p).everAt = some s.tbase then s.set (R.FCU_RETIRED_HIST_EVER p) 0 else s) s

/-- A ladder step acts (R332, R333). One that a RESET_DEVICE subsumes has no effect (R335): while a device reset is under way, STOP_DOMAIN,
RESET_DOMAIN and RETIRE_SPIRE have none. -/
def State.ladderStep (s : State) (d c code : Nat) : State :=
  if s.pwr.seq = .toReset ∧ 1 ≤ code ∧ code ≤ 3 then s
  else if code = 1 then s.stopDome d false
  else if code = 2 then s.stopDome d true
  else if code = 3 then (if d = 0 then s else s.ladderRetire (s.get (R.FCU_DC_STATE_TRIGGER d c)))
  else if code = 4 then s.unretire.resetSource R.RST_CAUSE_FCU
  else if code = 5 then s.tamper 15 (d + 256 * c)
  else s

/-- The code of the ladder step at a position from 0 (R338). -/
def State.ladderCode (s : State) (c i : Nat) : Nat := if 4 ≤ i then 0 else bitsOf (s.get (R.FCU_LADDER_STEPS c)) (3 * i) 3

/-- A pair becomes HELD with its quiet timer started (R331). -/
def State.pairHeld (s : State) (d c : Nat) : State := (s.set (R.FCU_DC_STATE_STATE d c) 2).pairTimer d c

/-- GRACE_EXPIRY (R331): an FCU_ACK on the expiry edge wins (R23). -/
def State.graceExpiry (s : State) (d c : Nat) : State :=
  if s.pairSt d c = 1 ∧ ((s.get (R.FCU_GRACE_US c) * 1000 : Nat) : Rat) + s.pwr.edge ≤ s.pairRun d c then
    let n := s.get (R.FCU_DC_STATE_STEP d c)
    let code := s.ladderCode c n
    let h := s.pairHeld d c
    if code = 0 then h.fcuEvent 117
    else ((h.set (R.FCU_DC_STATE_STEP d c) (n + 1)).fcuEvent 113).ladderStep d c code
  else s

/-- QUIET_EXPIRY (R331): a fault on the expiry edge wins (R23). -/
def State.quietExpiry (s : State) (d c : Nat) : State :=
  if s.pairSt d c = 2 ∧ ((s.get (R.FCU_QUIET_MS c) * 1000000 : Nat) : Rat) + s.pwr.edge ≤ s.pairRun d c then
    let s1 := ((s.set (R.FCU_DC_STATE_STATE d c) 0).set (R.FCU_DC_STATE_STEP d c) 0).set (R.FCU_DC_STATE_FAULTS d c) 0
    (s1.count (R.FCU_RECOV_COUNT c)).fcuEvent 114
  else s

/-- FCU_ACK (R331). -/
def State.fcuAck (s : State) (d c : Nat) : State := if s.pairSt d c = 1 then s.pairHeld d c else s

end Sys2Proof.Machine
end

