-- ==== Sys2Proof/Machine/Gate.lean ====
section
/-!
DEFINITION. When a command can happen: whether the clock of its unit runs (R5, R95).
-/

namespace Sys2Proof.Machine

/-- A command of a unit on the core clock: nothing happens while main power is off or the device is in DEEP. -/
def State.whenRuns (s : State) (f : State → State) : State := if s.spiresRun then f s else s

/-- A command of the keep's firmware: as `whenRuns`, and nothing happens while the keep core is halted (R104, R105). -/
def State.whenKeep (s : State) (f : State → State) : State := if s.spiresRun ∧ ¬ s.keepHalted then f s else s

/-- A command of the main domain: nothing happens while main power is off. -/
def State.whenOn (s : State) (f : State → State) : State := if s.mainOn then f s else s

end Sys2Proof.Machine
end

