-- ==== Sys2Proof/Machine/CmdAccess.lean ====
section
/-!
DEFINITION. What the commands do: the ART and faults.
-/

namespace Sys2Proof.Machine

/-- ART_COPY (R322): ART_CTRL.COPY starts copying the current bank into the shadow, or is refused. -/
def execArtCopy (s : State) : Host.Outcome State Fault Refusal :=
  .next (s.whenKeep fun s => s.artCopy)

/-- ART_COPY_END (R322): The shadow copy ends and OWNED is set. -/
def execArtCopyEnd (s : State) : Host.Outcome State Fault Refusal :=
  .next (s.whenRuns fun s => s.artCopyEnd)

/-- ART_RULE_WRITE (R323): A write to a rule register changes the selected shadow rule while OWNED. -/
def execArtRuleWrite (which : Nat) (value : Nat) (s : State) : Host.Outcome State Fault Refusal :=
  .next (s.whenKeep fun s => s.artRuleWrite which value)

/-- ART_SWITCH (R324): ART_CTRL.SWITCH makes the shadow current with epoch E + 1, or is refused. -/
def execArtSwitch (s : State) : Host.Outcome State Fault Refusal :=
  .next (s.whenKeep fun s => s.artSwitch)

/-- ART_DRAINED (R324): The previous access-rule epoch drains and ART_FENCE reads drained. -/
def execArtDrained (s : State) : Host.Outcome State Fault Refusal :=
  .next (s.whenRuns fun s => s.artDrained)

/-- FAULT_REGISTER (R331): The FCU registers a fault, updates records and the pair state. -/
def execFaultRegister (s : State) : Host.Outcome State Fault Refusal :=
  .next (s.whenRuns fun s => s.faultRegister)

/-- GRACE_EXPIRY (R331): A pair's grace timer expires and the next ladder step is taken. -/
def execGraceExpiry (d : Nat) (k : Nat) (s : State) : Host.Outcome State Fault Refusal :=
  .next (s.whenRuns fun s => s.graceExpiry (d % 64) (k % 4))

/-- QUIET_EXPIRY (R331): A HELD pair's quiet timer expires and it returns to NORMAL. -/
def execQuietExpiry (d : Nat) (k : Nat) (s : State) : Host.Outcome State Fault Refusal :=
  .next (s.whenRuns fun s => s.quietExpiry (d % 64) (k % 4))

/-- FCU_ACK (R331): FCU_ACK moves a pair in GRACE to HELD with no step. -/
def execFcuAck (d : Nat) (k : Nat) (s : State) : Host.Outcome State Fault Refusal :=
  .next (s.whenKeep fun s => s.fcuAck (d % 64) (k % 4))

/-- FCU_RETIRE (R336): The keep retires a spire by writing FCU_RETIRE. -/
def execFcuRetire (p : Nat) (s : State) : Host.Outcome State Fault Refusal :=
  .next (s.whenKeep fun s => s.retireSpire (p % 32))

end Sys2Proof.Machine
end

