-- ==== Sys2Proof/Machine/Mgt.lean ====
section
/-!
DEFINITION. Sys2Proof/Machine/Mgt.lean: the management port (spec/04_boot_lifecycle_management.md R128 to R133, R576) and
nWAKE: commands MGT_READ, MGT_WRITE, MGT_QSTAT, the nine management commands, MGT_COMMAND_DONE and NWAKE_LOW.
-/

namespace Sys2Proof.Machine

/-! ### The commands (R130, R576) -/

/-- A saturating count of MGT_ERR. -/
def State.mgtErr (s : State) (f : Fld) : State := s.count f

/-- A management command is BUSY, and will end with a STATUS. -/
def State.mgtBusy (s : State) (code arg status : Nat) : State :=
  ((s.setPwr { s.pwr with mgt := some (code, arg, status) }).set R.MGT_RESULT_STATUS 1).set R.MGT_RESULT_CODE code

/-- A command leaves BUSY with a STATUS. -/
def State.mgtEnd (s : State) (status : Nat) : State := (s.setPwr { s.pwr with mgt := none }).set R.MGT_RESULT_STATUS status

/-- The MGT_ALERT bits of a mask clear. -/
def State.alertClear (s : State) (m : Nat) : State :=
  let f (s : State) (fl : Fld) : State := if m.testBit fl.lo then s.set fl 0 else s
  [R.MGT_ALERT_HOLD_READY, R.MGT_ALERT_TAMPER, R.MGT_ALERT_READY, R.MGT_ALERT_BOOTFAIL, R.MGT_ALERT_TEMPWARN].foldl f s

/-- BOOT_SELECT (R130): 0 A, 1 B, 2 RECOVERY, 3 clear. -/
def State.bootSelect (s : State) (arg : Nat) : State := s.set R.RST_BOOT_OVERRIDE ((arg + 1) % 4)

/-- The three counts of MGT_ERR clear. -/
def State.errClear (s : State) : State := ((s.set R.MGT_ERR_CRC 0).set R.MGT_ERR_FRAME 0).set R.MGT_ERR_OUTSIDE 0

/-- A write of MGT_CMD with MGT_ARG as it stands (R130, R576). READ_EVIDENCE, RECOVER_DATA and RECOVER_COMMIT act when they
end; RESET_DEVICE registers its reset at once, with which MGT_RESULT is back at its reset value. -/
def State.mgtCommand (s : State) (code : Nat) : State :=
  let c := code % 256
  let arg := s.get R.MGT_ARG_ARG
  if ¬ s.mainOn then s
  else if s.pwr.mgt.isSome then s.mgtErr R.MGT_ERR_FRAME
  else
    let phase := s.get R.RST_BOOT_PHASE
    let ok := s.mgtBusy c arg 0
    let no := s.mgtBusy c arg 2
    if c = 1 then ok.wake 1
    else if c = 2 then ((s.mgtEnd 0).set R.MGT_RESULT_CODE 0).resetSource R.RST_CAUSE_MGT
    else if c = 3 then (if arg ≤ 3 then ok.bootSelect arg else no)
    else if c = 4 then (if phase = 13 then ok.haltAck else no)
    else if c = 5 then ok.alertClear arg
    else if c = 6 then (if arg ≤ 15 then ok else no)
    else if c = 7 then (if phase = 15 ∧ arg < 0x4000 then ok else no)
    else if c = 8 then (if phase = 15 ∧ arg ≤ 0x400000 then ok else no)
    else if c = 9 then ok.errClear
    else s.mgtBusy c arg 3

/-- A management command with its argument written first. -/
def State.mgtOrder (s : State) (code arg : Nat) : State :=
  if s.mainOn then (s.set R.MGT_ARG_ARG arg).mgtCommand code else s

/-- The end of RECOVER_COMMIT (R124): the image passes, the pointer names it and the device resets; or it is erased. -/
def State.recoverCommit (s : State) : State :=
  let t := 1 - s.flc.twin
  let r := s.twinPasses t
  if r.1.isSome then (((r.2.mgtEnd 0).pointTwin t).set R.RST_BOOT_ATTEMPTS 0).force .toReset
  else r.2.recoverErase.mgtEnd 2

/-- MGT_COMMAND_DONE (R576). -/
def State.mgtDone (s : State) : State :=
  match s.pwr.mgt with
  | none => s
  | some (code, arg, status) =>
    if ¬ s.mainOn then s
    else if status ≠ 0 then s.mgtEnd status
    else if code = 6 then (s.setPwr { s.pwr with mgtData := s.evidencePage arg }).mgtEnd 0
    else if code = 7 then
      (match s.recoverHalf (arg * 256) (fitBytes 256 s.pwr.mgtData) with
      | some s1 => s1.mgtEnd 0
      | none => s.mgtEnd 2)
    else if code = 8 then s.recoverCommit
    else s.mgtEnd 0

/-! ### The window (R129) -/

/-- A word lies in the window. -/
def inWindow (a : Nat) : Bool :=
  a < 0x30 || a == 0x100 || a == 0x104 || a == 0x108 || a == 0x110 || a == 0x114 || a == 0x118 || (0x200 ≤ a && a < 0x300)

/-- The window's word at an address. -/
def State.windowWord (s : State) (a : Nat) : Nat :=
  if a < 0x30 then s.plainReg (0xFF00030000 + a)
  else if 0x100 ≤ a ∧ a < 0x10C then s.plainReg (0xFF00010000 + (a - 0x100))
  else if a = 0x110 then s.plainReg 0xFF00000000
  else if a = 0x114 then s.plainReg 0xFF00000008
  else if a = 0x118 then s.plainReg 0xFF0000001C
  else if 0x200 ≤ a ∧ a < 0x300 then fld (fitBytes 256 s.pwr.mgtData) (a - 0x200) 4
  else 0

/-- The board writes a word of the window. -/
def State.windowWrite (s : State) (a v : Nat) : State :=
  if a = 0 then s.mgtCommand v
  else if a = 4 then s.set R.MGT_ARG_ARG v
  else if a = 0xC then s.alertClear v
  else if a = 0x10 then s.set R.MGT_ALERT_EN_EN (v ||| 2)
  else if a = 0x100 then (if v.testBit 8 then s.ceilForce (v % 8) else s.ceilWrite (v % 8))
  else if a = 0x104 then s.budgetWrite (v % 65536)
  else if 0x200 ≤ a ∧ a < 0x300 then
    let d := fitBytes 256 s.pwr.mgtData
    s.setPwr { s.pwr with mgtData := d.take (a - 0x200) ++ toLE 4 v ++ d.drop (a - 0x200 + 4) }
  else if inWindow a then s
  else s.mgtErr R.MGT_ERR_OUTSIDE

/-! ### Frames (R128) -/

/-- One bit of the CRC-16, high bit first. -/
def crcBit (c : Nat) : Nat := if c.testBit 15 then (c * 2 % 65536) ^^^ 0x1021 else c * 2 % 65536

/-- The CRC-16 of a frame. -/
def mgtCrc (bs : List Byte) : Nat :=
  bs.foldl (fun c b => (List.range 8).foldl (fun c _ => crcBit c) (c ^^^ b.toNat * 256)) 0xFFFF

/-- The opcode, the window address and the count of a frame. -/
def frameHead (op addr words : Nat) : List Byte := toLE 1 op ++ toLE 2 addr ++ toLE 1 (words - 1)

/-- What the device drives is kept. -/
def State.mgtDrive (s : State) (bs : List Byte) : State := s.setPwr { s.pwr with mgtOut := bs }

/-- MGT_READ. MGT_ERR.OUTSIDE counts each word outside the window, not each frame (DESIGN CHOICE, log 11: R129 does not say). -/
def State.mgtRead (s : State) (addr words : Nat) (complete : Bool) : State :=
  if ¬ s.mainOn then s
  else if ¬ complete then (s.mgtErr R.MGT_ERR_FRAME).mgtDrive []
  else
    let as := (List.range words).map (fun k => (addr + 4 * k) % 65536)
    let data := if addr % 4 = 0 then as.flatMap (fun a => toLE 4 (s.windowWord a)) else zeros (4 * words)
    let out := data ++ toLE 2 (mgtCrc (frameHead 0x0B addr words ++ data))
    let s1 := if addr % 4 = 0 then (as.filter (fun a => !inWindow a)).foldl (fun (s : State) _ => s.mgtErr R.MGT_ERR_OUTSIDE) s
      else s.mgtErr R.MGT_ERR_FRAME
    s1.mgtDrive out

/-- MGT_WRITE: the words, and the CRC that came with them. -/
def State.mgtWrite (s : State) (addr : Nat) (words : List Nat) (crc : Nat) (complete : Bool) : State :=
  if ¬ s.mainOn then s
  else if ¬ complete ∨ addr % 4 ≠ 0 then s.mgtErr R.MGT_ERR_FRAME
  else if mgtCrc (frameHead 0x02 addr words.length ++ words.flatMap (toLE 4)) ≠ crc % 65536 then s.mgtErr R.MGT_ERR_CRC
  else ((List.range words.length).foldl (fun (s : State) k =>
    if s.mainOn then s.windowWrite ((addr + 4 * k) % 65536) (words.getD k 0 % 2 ^ 32) else s) s)

/-- MGT_QSTAT: MGT_ALERT bits 7 to 0. -/
def State.mgtQstat (s : State) : State := if s.mainOn then s.mgtDrive (toLE 1 (s.plainReg 0xFF0003000C)) else s

/-- NWAKE_LOW (R132). -/
def State.nwake (s : State) : State := s.wake 0

end Sys2Proof.Machine
end

