-- ==== Sys2Proof/Machine/Mover.lean ====
section
/-!
DEFINITION. Sys2Proof/Machine/Mover.lean: the spire movers (spec/09_memory.md R295 to R302): a descriptor's checks on
issue, the channels, one granule, the end of a descriptor, and resumption; commands MOVER_GRANULE and
DESCRIPTOR_RESUME.
-/

namespace Sys2Proof.Machine

/-- The field rules of R298, the STATUS field apart. -/
def mvFieldsOk (d : List Byte) : Bool :=
  let op := fld d 0 1
  let len := fld d 4 4
  (op == 1 || op == 2 || op == 3) && fld d 1 3 == 0 && len % 64 == 0 && 64 ≤ len && len ≤ 0x400000
    && fld d 8 8 % 64 == 0 && fld d 8 8 < 2 ^ 48 && (op == 3 || fld d 16 4 % 64 == 0) && fld d 24 8 == 0

/-- The STATUS field of R298: 8-byte aligned, in the scratch range or spire SRAM. -/
def mvStatusOk (d : List Byte) : Bool :=
  fld d 20 4 % 8 == 0 && (inScratch (fld d 20 4) 8 || inSram (fld d 20 4) 8)

/-- The LOCAL rule of R299; ZERO ignores LOCAL. -/
def mvLocalOk (d : List Byte) : Bool :=
  let op := fld d 0 1
  let a := fld d 16 4
  let n := fld d 4 4
  op == 3 || inScratch a n || inSram a n || (op == 2 && inImage a n)

/-- The code a descriptor's checks give: 0, MV_DESCRIPTOR or MV_LOCAL (R299). -/
def mvCheck (d : List Byte) : Nat :=
  if !mvFieldsOk d || !mvStatusOk d then 0x0501 else if !mvLocalOk d then 0x0502 else 0

/-- The mover agent of a spire, under a descriptor's domain and epoch (R42). -/
def MvDesc.xfer (d : MvDesc) : Xfer := { agent := 0x210 + d.spire, dom := d.dome, epoch := d.artEpoch }

/-- Two descriptors are the same submission. -/
def MvDesc.same (a b : MvDesc) : Bool := a.job == b.job && a.ticket == b.ticket

/-- Take a descriptor out of its mover. -/
def State.dropMv (s : State) (d : MvDesc) : State :=
  { s with mover := s.mover.filter (fun (e : MvDesc) => !e.same d) }

/-- Replace a descriptor. -/
def State.putMv (s : State) (d : MvDesc) : State :=
  { s with mover := s.mover.map (fun (e : MvDesc) => if e.same d then d else e) }

/-- A descriptor ends (R300): its status word is written unless STATUS itself is not allowed, then its flags are set;
vector 512 + 16s for MV_UNCORRECTABLE and MV_LINETAG (R315). -/
def State.endMv (s : State) (d : MvDesc) (code : Nat) : State :=
  let s1 := s.dropMv d
  let s2 := if d.statOk then s1.wr d.xfer d.stat (toLE 2 code ++ zeros 2 ++ toLE 4 d.done) else s1
  let s3 := if code = 0x0505 ∨ code = 0x0506 then s2.raise (512 + 16 * d.spire) else s2
  s3.completeTicket d.job d.ticket (code != 0)

/-- Issue a descriptor (R299): one that fails its checks ends at once, the others are held by the mover. -/
def State.submitMv (s : State) (j : Job) (c ticket : Nat) (desc : List Byte) : State :=
  let d : MvDesc :=
    { job := j.id, ticket := ticket, spire := c / 16, core := c, tier := j.cls, dome := j.dome, epoch := j.epoch,
      artEpoch := j.artEpoch, op := fld desc 0 1, len := fld desc 4 4, va := fld desc 8 8,
      loc := (corePhys c j.cls (fld desc 16 4)).getD 0, stat := (corePhys c j.cls (fld desc 20 4)).getD 0,
      statOk := mvStatusOk desc }
  let s1 := { s with mover := s.mover ++ [d] }
  if mvCheck desc = 0 then s1 else s1.endMv d (mvCheck desc)

/-- The key order of R301: PROMISED descriptors by their jobs' promises, then BEST ones, each kind in order of issue
among equals. -/
def State.mvKey (s : State) (d : MvDesc) : Nat :=
  match s.job d.job with
  | some j => if j.cls = 0 then j.promise else 2 ^ 64
  | none => 2 ^ 64

/-- Insert a descriptor behind those with keys not above its own. -/
def mvInsert (key : MvDesc → Nat) (d : MvDesc) : List MvDesc → List MvDesc
  | [] => [d]
  | e :: es => if key d < key e then d :: e :: es else e :: mvInsert key d es

/-- The eligible descriptors of a spire in key order (R301); a stopped one is at its boundary. -/
def State.mvOrder (s : State) (p : Nat) : List MvDesc :=
  (s.mover.filter (fun (d : MvDesc) => d.spire == p && !d.faulted)).foldl (fun l d => mvInsert s.mvKey d l) []

/-- Move one granule between DDR and local memory (R295, R300): a physical address outside DDR is unbacked (R293), a
forbidden granule still counts as moved, and an IN of a failing line delivers zeros and is noted. -/
def State.mvCopy (s : State) (d : MvDesc) (pa : Nat) : State × Nat :=
  let x := d.xfer
  if d.op = 1 then
    let r := if isDdr pa then s.rdO x pa 64 else (zeros 64, 0, s.violation x 0 pa)
    (r.2.2.wr x (d.loc + d.done) r.1, if r.2.1 = 2 then 0x0505 else if r.2.1 = 3 then 0x0506 else 0)
  else
    let r := if d.op = 2 then s.rd x (d.loc + d.done) 64 else (zeros 64, s)
    (if isDdr pa then r.2.wr x pa r.1 else r.2.violation x 1 pa, 0)

/-- The number of the page of an address, for a leaf that maps 2 MiB or 64 KiB. -/
def pageNum (va : Nat) (big : Bool) : Nat := va / (if big then 0x200000 else 0x10000)

/-- What the granule at an address meets (R293): the lookup made on entering its page, or a new one. -/
def State.mvLeaf (s : State) (d : MvDesc) (va : Nat) : Option Leaf :=
  match d.page with
  | some (n, e, big) => if n = pageNum va big then some { idx := 0, entry := e, big := big } else s.lookup d.dome va
  | none => s.lookup d.dome va

/-- One granule of a descriptor (R295 to R300, R302). -/
def State.mvGranule (s : State) (d : MvDesc) : State :=
  if d.stop then s.dropMv d else
  let va := d.va + d.done
  let fault (s : State) (code : Nat) : State :=
    s.report { source := 2, agent := 0x210 + d.spire, dome := d.dome, addr := va, spire := d.spire } |>.endMv d code
  match s.mvLeaf d va with
  | none => fault s 0x0503
  | some l =>
    if d.op ≠ 1 ∧ ¬ bitOf l.entry 2 then fault s 0x0504
    else if l.entry % 4 = 2 then
      let s1 := s.postReq d.dome va l
      match s1.job d.job with
      | some j =>
        if j.cls = 0 then s1.handlerFault d.job 5
        else (s1.putMv { d with faulted := true, page := none }).raise (513 + 16 * d.spire)
      | none => s1
    else
      let pa := bitsOf l.entry 16 24 * 65536 + va % (if l.big then 0x200000 else 0x10000)
      let r := s.mvCopy d pa
      let d1 := { d with done := d.done + 64, code := if d.code = 0 then r.2 else d.code, page := some (pageNum va l.big, l.entry, l.big) }
      let s1 := (r.1.putMv d1).count (R.SPR_MV_GRAN_COUNT d.spire)
      if d1.done ≥ d.len then s1.endMv d1 d1.code else s1

/-- Channel `ch` of spire `p` moves one granule: the channels hold the four eligible descriptors with the earliest
keys (R301). -/
def State.moverGranule (s : State) (p ch : Nat) : State :=
  if ch < 4 then
    match (s.mvOrder p)[ch]? with
    | some d => s.mvGranule d
    | none => s
  else s

/-- A FAULTED descriptor of spire `p` (the `n`-th) resumes when its leaf reads RESIDENT (R297). -/
def State.mvResume (s : State) (p n : Nat) : State :=
  match (s.mover.filter (fun (d : MvDesc) => d.spire == p && d.faulted))[n]? with
  | none => s
  | some d =>
    match s.lookup d.dome (d.va + d.done) with
    | some l => if l.entry % 4 = 1 then s.putMv { d with faulted := false } else s
    | none => s

end Sys2Proof.Machine
end

