-- ==== Sys2Proof/Machine/RegAccess.lean ====
section
/-!
DEFINITION. Sys2Proof/Machine/RegAccess.lean: writes of register blocks (spec/00_scope.md R10 to R16,
spec/01_architecture.md R40 to R43): what a write does where it does more than store; and the two commands TRANSFER and
REGISTER_WRITE.
-/

namespace Sys2Proof.Machine

/-! ### Writes that store or clear (R12) -/

/-- A write of one field by its access type. An RS field is cleared only by the authorised write of its own register. -/
def State.fieldWrite (s : State) (v : Nat) (f : Fld) : State :=
  let x := bitsOf v f.lo f.wd
  match f.acc with
  | .rw => s.set f x
  | .w1c => s.set f (s.get f - (s.get f &&& x))
  | _ => s

/-- A write of every field of the register at an address by its access type. -/
def State.plainWrite (s : State) (a v : Nat) : State :=
  match regAt a with
  | some (_, fs) => fs.foldl (fun (s : State) f => s.fieldWrite v f) s
  | none => s

/-- TIME_DISC.RATE, held within ±500,000. -/
def rateHeld (v : Nat) : Nat :=
  let r := asSigned 20 (v % 2 ^ 20)
  (BitVec.ofInt 20 (max (-500000) (min 500000 r))).toNat

/-- The registers whose write stores something else than what was written, or stores under a condition. -/
def State.storeWrite (s : State) (agent a v : Nat) : State :=
  if a = 0xFF00010000 ∨ a = 0xFF00010004 then s
  else if a = 0xFF00010034 then s.set R.PWR_WAKE_EN_EN (v ||| 0x11)
  else if a = 0xFF0002000C then
    (if agent = 0x200 ∧ v.testBit 0 ∧ ¬ s.is R.CLK_XTAL_ONRC then s.set R.CLK_XTAL_FAIL 0 else s)
  else if a = 0xFF00030010 then s.set R.MGT_ALERT_EN_EN (v ||| 2)
  else if a = 0xFF00040010 then s.set R.STB_SRC_ADDR (v % 2 ^ 40 / 64 * 64)
  else if a = 0xFF00040020 then s.set R.STB_STAGE_ADDR (v % 2 ^ 40 / 2 ^ 21 * 2 ^ 21)
  else if a = 0xFF000E0050 then s.set R.MEMC_KEYTAB_HI_COUNT (min (v % 2 ^ 25) (2 ^ 24))
  else if a = 0xFF00110008 then
    (if s.is R.SES_CTX_VALID then s else (s.set R.SES_CTX_BASE (bitsOf v 30 10)).set R.SES_CTX_VALID (bitsOf v 63 1))
  else if a = 0xFF00140000 ∨ a = 0xFF00140040 then
    let n := (a - 0xFF00140000) / 0x40
    if s.is (R.ICC_STATUS_BUSY n) then s
    else
      let s1 := s.plainWrite a v
      if agent = 0x200 then s1 else s1.set (R.ICC_CFG_DOME n) (s.get (R.ICC_CFG_DOME n))
  else if a = 0xFF00150000 then
    let s1 := s.plainWrite a v
    if agent = 0x200 then s1 else s1.set R.SDH_CFG_DOME (s.get R.SDH_CFG_DOME)
  else if a = 0xFF00170018 then s.set R.TIME_DISC_RATE (rateHeld v)
  else if a = 0xFF00180008 then (if s.is R.JRN_STATUS_OPEN then s else s.set R.JRN_BASE_ADDR (v % 2 ^ 40 / 2 ^ 21 * 2 ^ 21))
  else if a = 0xFF00180010 then (if s.is R.JRN_STATUS_OPEN then s else s.set R.JRN_SIZE_UNITS v)
  else s.plainWrite a v

/-! ### Writes that command a unit -/

/-- FLC_CMD (R501). -/
def State.flcCmd (s : State) (v : Nat) : State :=
  let op := v % 16
  if ¬ v.testBit 31 then s
  else if op = 1 then s.flcProgram (bitsOf v 4 2)
  else if op = 2 then s.flcErase
  else if op = 3 then s.flcBlankCheck
  else if op = 4 then s.flcSuspend
  else if op = 5 then s.flcResume
  else if op = 6 then s.flcSwap (bitsOf v 8 1)
  else s.flcRefuse (if s.flcBusy then 0x0601 else 0x0603)

/-- ICC_CMDn (R517 to R523). -/
def State.iccCmd (s : State) (n v : Nat) : State :=
  let op := v % 8
  if ¬ v.testBit 31 then s
  else if op = 1 then s.iccActivate n
  else if op = 2 then s.iccExchange n (bitsOf v 8 9)
  else if op = 3 then s.iccDeactivate n
  else if op = 4 then s.iccComponent n (bitsOf v 20 4)
  else s

/-- ICC_CER_CMD (R522 to R526). -/
def State.cerCmd (s : State) (v : Nat) : State :=
  let op := v % 8
  if ¬ v.testBit 31 then s
  else if op = 1 then s.cerOpen (bitsOf v 4 2) (bitsOf v 8 4) (bitsOf v 16 6)
  else if op = 2 then s.cerFinish
  else if op = 3 then s.cerClose
  else if op = 4 then s.cerImport
  else s

/-- SDH_CMD (R529 to R537). -/
def State.sdhCmd (s : State) (v : Nat) : State :=
  let op := v % 16
  if ¬ v.testBit 31 then s
  else if op = 1 then s.sdhInit
  else if op = 2 ∨ op = 3 then s.sdhMove op
  else if op = 4 ∨ op = 5 then s.sdhSleep op
  else if op = 10 ∨ op = 11 then s.sdhCsa op (bitsOf v 8 4)
  else if op = 13 then s.sdhPowerOff
  else if op = 0 ∨ 13 < op then s
  else s.sdhRpmb op

/-- CLF_RCMD (R546). -/
def State.clfCmd (s : State) (v : Nat) : State :=
  let op := v % 8
  let clen := bitsOf v 8 10
  if ¬ v.testBit 31 then s
  else if op = 1 then s.fieldOn
  else if op = 2 then s.clfActivate
  else if op = 3 then s.clfExchange clen
  else if op = 4 then s.clfAuth
  else if op = 5 then s.clfSecure clen
  else if op = 6 then s.clfDeactivate
  else if op = 7 then s.fieldOff
  else s

/-- STB_CTRL (R157, R159). -/
def State.stbCtrl (s : State) (v : Nat) : State :=
  let s1 := if v.testBit 0 then s.stbStart (v.testBit 4) (bitsOf v 8 6) else s
  let s2 := if v.testBit 1 then s1.stbAbort else s1
  if v.testBit 2 then s2.stbNone else s2

/-- STB_RAISE (R154). -/
def State.stbRaiseWrite (s : State) (v : Nat) : State :=
  let d := bitsOf v 8 6
  if v.testBit 0 ∧ v.testBit 1 then s.raiseBoth d
  else if v.testBit 0 then s.raiseWhole
  else if v.testBit 1 then s.raiseDome d
  else s

/-- ART_CTRL (R322, R324). -/
def State.artCtrl (s : State) (v : Nat) : State :=
  let s1 := if v.testBit 0 then s.artCopy else s
  if v.testBit 1 then s1.artSwitch else s1

/-- KEY_INST_CMD (R354). -/
def State.keyInstCmd (s : State) (v : Nat) : State :=
  if v.testBit 31 ∧ bitsOf v 24 2 ≠ 0 then s.keyInst (bitsOf v 24 2) (bitsOf v 0 24) else s

/-- KEY_PIN_CMD (R357). -/
def State.keyPinCmd (s : State) (v : Nat) : State :=
  if ¬ v.testBit 31 then s else if v.testBit 24 then s.unpin (bitsOf v 0 24) else s.pin (bitsOf v 0 24)

/-- ENT_TEST (R427): MODE 3 acts as 0. -/
def State.entTestWrite (s : State) (v : Nat) : State :=
  let mode := v % 4
  if mode = 1 ∨ mode = 2 then s.entTest mode (bitsOf v 8 3) else s.entTestOff (bitsOf v 8 3)

/-- FED_CMD (R481, R484). -/
def State.fedCmd (s : State) (v : Nat) : State :=
  let s1 := if v.testBit 0 then s.announce else s
  if v.testBit 1 then s1.reclaim else s1

/-- CLF_TKEY_CMD (R553). -/
def State.tagKeyCmd (s : State) (v : Nat) : State :=
  let s1 := if v.testBit 30 then s.tagKeyClear else s
  if v.testBit 31 then s1.tagKeyLoad (bitsOf v 0 24) else s1

/-- CLF_MBOX (R559). -/
def State.mboxWrite (s : State) (v : Nat) : State :=
  (s.mboxRelease (bitsOf v 8 2)).mboxPublish (bitsOf v 10 2) (bitsOf v 16 9)

/-- A write of a register that commands its unit, none where the register stores. Only the keep arms the unlock of the TMP
block and clears what it protects (R12, R449): another agent's write there has no effect. -/
def State.commandWrite (s : State) (agent a v : Nat) : Option State :=
  if a = 0xFF00000004 then some (if v.testBit 0 then s.resetSource R.RST_CAUSE_KEEP else s)
  else if a = 0xFF0000000C then some (if v.testBit 0 then s.confirm (v.testBit 1) else s)
  else if a = 0xFF00000020 then some (s.lcAdvance (bitsOf v 16 16) (v % 4))
  else if a = 0xFF00030000 then some (s.mgtCommand v)
  else if a = 0xFF00040000 then some (s.stbCtrl v)
  else if a = 0xFF00040030 then some (s.stbRaiseWrite v)
  else if a = 0xFF00060000 then some (s.artCtrl v)
  else if a = 0xFF00060018 then some (s.artRuleWrite 0 v)
  else if a = 0xFF00060020 then some (s.artRuleWrite 1 v)
  else if a = 0xFF00060024 then some (s.artRuleWrite 2 v)
  else if a = 0xFF00060028 then some (s.artRuleWrite 3 v)
  else if a = 0xFF00060030 then some (s.artRuleWrite 4 v)
  else if a = 0xFF00060038 then some (s.artRuleWrite 5 v)
  else if a = 0xFF00070044 then some (if v.testBit 31 then s.fcuAck (v % 64) (bitsOf v 8 2) else s)
  else if a = 0xFF00070048 then some (if v.testBit 31 then s.retireSpire (v % 32) else s)
  else if a = 0xFF00080000 then some (if agent = 0x200 then s.flagsClear v else s)
  else if a = 0xFF0008000C then some (if agent = 0x200 then s.tmpUnlock (bitsOf v 16 16) (v % 65536) else s)
  else if a = 0xFF00080010 then some (if agent ≠ 0x200 then s else if v.testBit 0 then s.evidenceClear else s.setTmp { s.tmp with unlocked := false })
  else if a = 0xFF00090004 then some (if v.testBit 0 then s.reseedDue else s)
  else if a = 0xFF00090018 then some (if v.testBit 31 then s.entReq (bitsOf v 0 11) else s)
  else if a = 0xFF00090200 then some (s.entTestWrite v)
  else if a = 0xFF000D0010 then some (s.keyInstCmd v)
  else if a = 0xFF000D0018 then some (s.keyPinCmd v)
  else if a = 0xFF000E0010 then some (if v.testBit 31 then s.recolour (v % 64) (v.testBit 8) else s)
  else if a = 0xFF000F0010 then some (s.tdataWrite v)
  else if a = 0xFF000F0808 then some (if v.testBit 0 then s.regionArm else s)
  else if a = 0xFF000F0818 then some (if v.testBit 31 then s.restoreGo (bitsOf v 8 6) (v % 64) else s)
  else if a = 0xFF00110080 then some (if v.testBit 63 then s.keepOpen (bitsOf v 6 34 * 64) else s)
  else if a = 0xFF00110098 then some (s.keepTx (v % 65536))
  else if a = 0xFF00120020 then some (s.fedCmd v)
  else if a = 0xFF00130008 then some (s.flcCmd v)
  else if a = 0xFF00140004 then some (s.iccCmd 0 v)
  else if a = 0xFF00140044 then some (s.iccCmd 1 v)
  else if a = 0xFF00140104 then some (s.cerCmd v)
  else if a = 0xFF00150008 then some (s.sdhCmd v)
  else if a = 0xFF00160010 then some (s.clfCmd v)
  else if a = 0xFF00160040 then some (s.tagKeyCmd v)
  else if a = 0xFF00160048 then some (s.mboxWrite v)
  else if 0xFF00161000 ≤ a ∧ a < 0xFF00162000 then some (s.tagWordWrite ((a - 0xFF00161000) / 4) (v % 2 ^ 32))
  else if a = 0xFF00170040 then some (s.timeSet v)
  else if a = 0xFF00180000 then some (if v.testBit 0 then s.jrnOpen else s)
  else if a = 0xFF00180020 then some (s.jrnExport v)
  else none

/-- An armed unlock allows exactly one following write of the TMP block to act (R449), the keep's to TMP_FLAGS or to
TMP_EVCLR: any other write to the block disarms it. -/
def State.unlockSpent (s : State) (agent a : Nat) : State :=
  if 0xFF00080000 ≤ a ∧ a < 0xFF00090000 ∧ ¬ (agent = 0x200 ∧ (a = 0xFF00080000 ∨ a = 0xFF00080010)) then
    s.setTmp { s.tmp with unlocked := false }
  else s

/-- A whole register is written with a value; at an address that no register occupies nothing is written (R15). -/
def State.regWrite (s : State) (agent a v : Nat) : State :=
  let s1 := s.unlockSpent agent a
  match s1.commandWrite agent a v with
  | some t => t
  | none => s1.storeWrite agent a v

/-- The register writes of units' own transfers reach their registers, in order (R41). -/
def State.regDrain (s : State) : State :=
  s.regQ.foldl (fun (s : State) w => s.regWrite w.agent w.addr w.value) { s with regQ := [] }

/-! ### TRANSFER (R33 to R43, R46) -/

/-- The domain the hardware stamps on an agent's transfer (R42, R43): 0 for a core whose spire no dome owns and for what no core
asked for, where R42 names none (DESIGN CHOICE, log 9). `who` is what the agent acts for: the submitting core
of a mover's descriptor or an engine's command, or the requesting core of ENT (512 and above: none), the session context of
NET and SES, the slot of KEY fetch and of ICC. STB carries the target dome of a domain application. -/
def State.stamped (s : State) (agent who : Nat) : Nat :=
  let ofCore (c : Nat) : Nat := if c < 512 then (s.spireDome (c / 16)).getD 0 else 0
  if agent < 0x200 then ofCore agent
  else if agentClass agent = 2 ∨ agentClass agent = 3 ∨ agent = 0x2C0 then ofCore who
  else if agent = 0x2A0 ∨ agent = 0x2A1 ∨ agent = 0x2A2 then (s.ctx who).dome
  else if agent = 0x2A4 then (s.slot who).dome
  else if agent = 0x2B1 then s.get (R.ICC_CFG_DOME (who % 2))
  else if agent = 0x2B2 then s.get R.SDH_CFG_DOME
  else if agent = 0x2D0 then (match s.stb.app with | some a => if a.kind = 1 then a.dome else 0 | none => 0)
  else 0

/-- The access-rule epoch a transfer carries (R46): that of the job it is issued for, else the current one. -/
def State.carried (s : State) (job : Nat) : Nat :=
  match s.job job with | some j => j.artEpoch | none => s.get R.ART_EPOCH_CURRENT

/-- The condition a DDR line, or a flash line, is found in (R285, R496): 0 leaves what is recorded. -/
def State.lineFound (s : State) (a cond : Nat) : State :=
  if cond = 0 then s
  else if isDdr a then s.setLine (lineOf a) (cond % 4)
  else if isFlash a then s.setFlc { s.flc with bad := tabSet 0 s.flc.bad (a / 32 * 32) (cond % 5) }
  else s

/-- What the target of a TRANSFER does: a write that reaches a whole register acts at once. -/
def State.served (s : State) (x : Xfer) (type a n : Nat) (data : List Byte) : List Byte × Nat × State :=
  if isReg a ∧ type = 1 ∧ regShape a data.length ≤ 1 then ([], 0, s.regWrite x.agent a (ofLE data))
  else s.unitServe x type a n data

/-- A transfer that its agent never issues: of an agent that does not exist (R43), of a job core outside its own spire's SRAM
(R27), of an engine outside SRAM and core memories (R31), a fetch of any agent but the keep core (R319), of the debug agent
outside FACTORY (R42), a write of instruction memory but by the STB to a spire under reload (R219), and one of the keep core while
it is halted (R104). -/
def State.neverIssued (s : State) (agent type a len : Nat) : Bool :=
  !agentExists agent || (type == 2 && agent != 0x200) || decide (2 < type) || (agent == 0x3FF && s.get R.RST_LC_STATE != 0)
    || (decide (agent < 0x200) && !(decide (sramAddr (agent / 16) 0 ≤ a) && decide (a + len ≤ sramAddr (agent / 16) 0x400000)))
    || (agentClass agent == 3 && !(isSram a || isLocal a))
    || s.instrClosed agent type a len || (agent == 0x200 && s.keepHalted)

/-- TRANSFER (R35): `type` 0 READ, 1 WRITE, 2 FETCH of `n` bytes, or of `data` written, for what `who` and `job` name. `cond`
is the condition the line of `a` is found in, and `e` what disturbs the transfer on the bus, if anything does. -/
def State.transfer (s : State) (agent who job type a n : Nat) (data : List Byte) (cond : Nat) (e : Option BusErr) : State :=
  let x : Xfer := { agent := agent, dom := s.stamped agent who, epoch := s.carried job, sp := if agentClass agent = 3 then who / 16 % 64 else 63 }
  let len := if type = 1 then data.length else n
  if s.neverIssued agent type a len then s
  else
    match s.judge x type a len with
    | some b => (s.violation x type b).answer agent (if type = 1 then [] else zeros n)
    | none =>
      if type ≠ 1 ∧ s.flashWaits a ∧ ¬ (type = 2 ∧ s.fetchHits a n) then
        (s.lineFound a cond).flashWait { agent := agent, dom := x.dom, epoch := x.epoch, type := type, addr := a, len := n, err := e }
      else
        let r := (s.lineFound a cond).crossed x type a len data e (fun s => s.served x)
        r.2.2.answer agent r.1

/-! ### REGISTER_WRITE (R12) -/

/-- REGISTER_WRITE: the keep core writes a register; fields with a behaviour of their own have their own commands, and
nothing else happens to them here. The words of CLF_TAGMEM have none, and are written here (R558). -/
def State.registerWrite (s : State) (a v : Nat) : State :=
  let s1 := s.unlockSpent 0x200 a
  if 0xFF00161000 ≤ a ∧ a < 0xFF00162000 then s1.regWrite 0x200 a v
  else if (s1.commandWrite 0x200 a v).isSome then s1 else s1.storeWrite 0x200 a v

end Sys2Proof.Machine
end

