-- ==== Sys2Proof/Machine/CmdBus.lean ====
section
/-!
DEFINITION. What the commands do: registers and transfers.
-/

namespace Sys2Proof.Machine

/-- REGISTER_WRITE (R12): A write to a register field that has no behaviour of its own beyond storing or clearing per
its access type. -/
def execRegisterWrite (addr : Nat) (value : Nat) (s : State) : Host.Outcome State Fault Refusal :=
  .next (s.whenKeep fun s => s.registerWrite addr value)

/-- TRANSFER (R35): An agent issues a transfer that is judged by the ART and served by its target. With `later` the command is
no transfer but the disturbance that meets the agent's own next one (R33). -/
def execTransfer (agent : Nat) (who : Nat) (job : Nat) (type : Nat) (addr : Nat) (len : Nat) (data : List Byte)
    (cond : Nat) (bus : Option BusErr) (later : Bool) (s : State) : Host.Outcome State Fault Refusal :=
  .next (s.whenRuns fun s =>
    match later, bus with
    | true, some e => { s with bus := s.bus ++ [(agent, e)] }
    | true, none => s
    | false, _ => s.transfer agent who job type addr len data cond bus)

end Sys2Proof.Machine
end

