-- ==== Sys2Proof/Machine/CmdCard.lean ====
section
/-!
DEFINITION. What the commands do: card slots, ceremonies and the storage card.
-/

namespace Sys2Proof.Machine

/-- ICC_ACTIVATE (R517): ICC command ACTIVATE powers, clocks and resets a card and reads its ATR. -/
def execIccActivate (n : Nat) (s : State) : Host.Outcome State Fault Refusal :=
  .next (s.whenKeep fun s => s.iccActivate (n % 2))

/-- ICC_EXCHANGE (R519): ICC command EXCHANGE sends an APDU and writes the response. -/
def execIccExchange (n : Nat) (clen : Nat) (s : State) : Host.Outcome State Fault Refusal :=
  .next (s.whenKeep fun s => s.iccExchange (n % 2) (clen % 512))

/-- ICC_DEACTIVATE (R521): ICC command DEACTIVATE deactivates the card. -/
def execIccDeactivate (n : Nat) (s : State) : Host.Outcome State Fault Refusal :=
  .next (s.whenKeep fun s => s.iccDeactivate (n % 2))

/-- ICC_COMPONENT (R523): ICC command COMPONENT takes a key component from the card into the accumulator. -/
def execIccComponent (n : Nat) (index : Nat) (s : State) : Host.Outcome State Fault Refusal :=
  .next (s.whenKeep fun s => s.iccComponent (n % 2) (index % 16))

/-- ICC_CHARACTER_RECEIVE (R519): A character from the card advances the ATR, PPS or exchange. -/
def execIccCharacterReceive (n : Nat) (b : Byte) (kind : Nat) (s : State) : Host.Outcome State Fault Refusal :=
  .next (s.whenRuns fun s => s.iccCharacter (n % 2) b kind)

/-- ICC_WAIT_TIMEOUT (R518): A card waiting time expires and the command ends with ICC_TIMEOUT or ICC_NO_ATR. -/
def execIccWaitTimeout (n : Nat) (s : State) : Host.Outcome State Fault Refusal :=
  .next (s.whenRuns fun s => s.iccTimeout (n % 2))

/-- ICC_CLASS_RETRY (R517): After a class C failure and 10 ms the slot retries with class B. -/
def execIccClassRetry (n : Nat) (s : State) : Host.Outcome State Fault Refusal :=
  .next (s.whenRuns fun s => s.iccRetryB (n % 2))

/-- ICC_CLOCK_STOP (R520): After 1,860 idle clock cycles the slot stops CLK. -/
def execIccClockStop (n : Nat) (s : State) : Host.Outcome State Fault Refusal :=
  .next (s.whenRuns fun s => s.iccClockStop (n % 2))

/-- ICC_CARD_PRESENT (R516): ICCn_PRES has read low for 10 ms and the card is registered present. -/
def execIccCardPresent (n : Nat) (s : State) : Host.Outcome State Fault Refusal :=
  .next (s.whenOn fun s => s.iccPresent (n % 2))

/-- ICC_CARD_REMOVED (R521): A card removal is registered and the slot deactivates. -/
def execIccCardRemoved (n : Nat) (s : State) : Host.Outcome State Fault Refusal :=
  .next (s.whenOn fun s => s.iccRemoved (n % 2))

/-- CER_OPEN (R522): ICC_CER_CMD OPEN opens a ceremony. -/
def execCerOpen (target : Nat) (n : Nat) (dome : Nat) (s : State) : Host.Outcome State Fault Refusal :=
  .next (s.whenKeep fun s => s.cerOpen (target % 4) (n % 16) (dome % 64))

/-- CER_FINISH (R524): ICC_CER_CMD FINISH checks the KCV and installs the share or enters COMBINED. -/
def execCerFinish (s : State) : Host.Outcome State Fault Refusal :=
  .next (s.whenKeep fun s => s.cerFinish)

/-- CER_CLOSE (R526): ICC_CER_CMD CLOSE zeroes the accumulator and ends the ceremony. -/
def execCerClose (s : State) : Host.Outcome State Fault Refusal :=
  .next (s.whenKeep fun s => s.cerClose)

/-- CER_IMPORT (R525): ICC_CER_CMD IMPORT imports a key block under the import key. -/
def execCerImport (s : State) : Host.Outcome State Fault Refusal :=
  .next (s.whenKeep fun s => s.cerImport)

/-- CEREMONY_TIMEOUT (R526): 600 s without a ceremony command zeroes the accumulator. -/
def execCeremonyTimeout (s : State) : Host.Outcome State Fault Refusal :=
  .next (s.whenOn fun s => s.cerTimeout)

/-- SDH_INIT (R529): SDH command INIT identifies and configures the removable card. -/
def execSdhInit (s : State) : Host.Outcome State Fault Refusal :=
  .next (s.whenKeep fun s => s.sdhInit)

/-- SDH_READ (R531): SDH command READ moves blocks from the card to DDR. -/
def execSdhRead (s : State) : Host.Outcome State Fault Refusal :=
  .next (s.whenKeep fun s => s.sdhMove 2)

/-- SDH_WRITE (R531): SDH command WRITE moves blocks from DDR to the card. -/
def execSdhWrite (s : State) : Host.Outcome State Fault Refusal :=
  .next (s.whenKeep fun s => s.sdhMove 3)

/-- SLEEP (R532): SDH command SLEEP puts the card to sleep. -/
def execSleep (s : State) : Host.Outcome State Fault Refusal :=
  .next (s.whenKeep fun s => s.sdhSleep 4)

/-- AWAKE (R532): SDH command AWAKE wakes the card. -/
def execAwake (s : State) : Host.Outcome State Fault Refusal :=
  .next (s.whenKeep fun s => s.sdhSleep 5)

/-- RPMB_COUNTER (R533): SDH command reads the RPMB write counter. -/
def execRpmbCounter (s : State) : Host.Outcome State Fault Refusal :=
  .next (s.whenKeep fun s => s.sdhRpmb 6)

/-- RPMB_WRITE (R534): SDH command writes RPMB frames with a pending record. -/
def execRpmbWrite (s : State) : Host.Outcome State Fault Refusal :=
  .next (s.whenKeep fun s => s.sdhRpmb 7)

/-- RPMB_READ (R533): SDH command reads RPMB data with a nonce. -/
def execRpmbRead (s : State) : Host.Outcome State Fault Refusal :=
  .next (s.whenKeep fun s => s.sdhRpmb 8)

/-- RPMB_KEY (R533): SDH command programs the RPMB authentication key. -/
def execRpmbKey (s : State) : Host.Outcome State Fault Refusal :=
  .next (s.whenKeep fun s => s.sdhRpmb 9)

/-- CSA_WRITE (R537): SDH command writes a counter-sealed area record. -/
def execCsaWrite (area : Nat) (s : State) : Host.Outcome State Fault Refusal :=
  .next (s.whenKeep fun s => s.sdhCsa 10 (area % 16))

/-- CSA_READ (R536): SDH command reads the current counter-sealed area record. -/
def execCsaRead (area : Nat) (s : State) : Host.Outcome State Fault Refusal :=
  .next (s.whenKeep fun s => s.sdhCsa 11 (area % 16))

/-- SETTLE (R534): SDH command settles a pending RPMB write. -/
def execSettle (s : State) : Host.Outcome State Fault Refusal :=
  .next (s.whenKeep fun s => s.sdhRpmb 12)

/-- POWER_OFF (R532): SDH command powers the removable card off. -/
def execPowerOff (s : State) : Host.Outcome State Fault Refusal :=
  .next (s.whenKeep fun s => s.sdhPowerOff)

/-- SD_RESPONSE (R531): A card response, data block or busy release advances the SD operation. -/
def execSdResponse (kind : Nat) (sent : CardSent) (s : State) : Host.Outcome State Fault Refusal :=
  .next (s.whenRuns fun s => s.sdResponse kind sent.crc sent.data)

/-- SD_WAIT_TIMEOUT (R531): An SD wait expires and the operation ends with SD_TIMEOUT. -/
def execSdWaitTimeout (s : State) : Host.Outcome State Fault Refusal :=
  .next (s.whenRuns fun s => s.sdTimeout)

/-- SD_CARD_PRESENT (R528): SD_CD has read low for 50 ms and the card is registered present. -/
def execSdCardPresent (s : State) : Host.Outcome State Fault Refusal :=
  .next (s.whenOn fun s => s.sdPresent)

/-- SD_CARD_REMOVED (R528): SD_CD has read high for 1 ms, the card is released and the operation ends. -/
def execSdCardRemoved (s : State) : Host.Outcome State Fault Refusal :=
  .next (s.whenOn fun s => s.sdRemoved)

/-- CSA_COMMIT (R537): The counter record of a verified CSA write is committed to flash. -/
def execCsaCommit (s : State) : Host.Outcome State Fault Refusal :=
  .next (s.whenRuns fun s => s.csaCommit)

end Sys2Proof.Machine
end

