-- ==== Sys2Proof/Machine/Events.lean ====
section
/-!
DEFINITION. Commands whose effect reaches from one unit into another.
-/

namespace Sys2Proof.Machine

/-- Engine command `c` has ended: where a unit submitted it, that goes on (R465, R525). -/
def State.afterCmd (s : State) (c : Option Cmd) : State :=
  match c with
  | some c => if c.unit then s.sesPkServed.cerProgress else s
  | none => s

/-- DRBG_SERVE: one request is served (R423); a handshake or a card command that waited for the bytes goes on. -/
def State.serveRandom (s : State) : State :=
  ((((s.drbgServe).sesServed).iccRandom 0).iccRandom 1).clfRandom

/-- The line the patrol scrub is at, found by this pass with condition `cond` (R285). -/
def State.scrubStep (s : State) (cond : Nat) : State :=
  (s.lineFound (s.memc.scrub * 64) cond).patrolScrub

/-- SWEEP_LINE: the line under the sweep pointer, found with condition `cond`, is rewritten (R289); a dome that waited
for the sweep of its colours goes on (R157). -/
def State.sweepStep (s : State) (cond : Nat) : State :=
  if ¬ s.is R.MEMC_STATUS_SWEEP then s else
  (List.range 64).foldl State.domeCheck (s.lineFound (s.get R.MEMC_RECOLOUR_PTR_LINE * 64) cond).sweepLine

/-- FIELD_DETECT: the field rises (R544), and the device wakes where FIELD is a wake source (R106). -/
def State.fieldDetect (s : State) : State :=
  let s1 := s.fieldRise
  if s.is R.CLF_STATUS_FIELD ∨ ¬ s1.is R.CLF_STATUS_FIELD then s1 else s1.wake 2

end Sys2Proof.Machine
end

