-- ==== Sys2Proof/Machine/CmdClf.lean ====
section
/-!
DEFINITION. What the commands do: the contactless unit.
-/

namespace Sys2Proof.Machine

/-- FIELD_DETECT (R544): An outside field is seen on two bedrock edges and FDET goes high. -/
def execFieldDetect (s : State) : Host.Outcome State Fault Refusal :=
  .next (s.fieldDetect)

/-- FIELD_LOSS (R544): 64 edges without a field drive FDET low. -/
def execFieldLoss (s : State) : Host.Outcome State Fault Refusal :=
  .next (s.fieldLoss)

/-- FIELD_COLLAPSE (R560): A carrier absent for 8 µs ends the tag session as a loss of the field. -/
def execFieldCollapse (s : State) : Host.Outcome State Fault Refusal :=
  .next (s.fieldCollapse)

/-- FIELD_ON (R546): Reader command FIELD_ON turns the carrier on. -/
def execFieldOn (s : State) : Host.Outcome State Fault Refusal :=
  .next (s.whenKeep fun s => s.fieldOn)

/-- CARRIER_GUARD_END (R546): The 5.1 ms guard time after FIELD_ON ends the command. -/
def execCarrierGuardEnd (s : State) : Host.Outcome State Fault Refusal :=
  .next (s.whenRuns fun s => s.guardEnd)

/-- CLF_ACTIVATE (R547): Reader command ACTIVATE wakes, selects and activates a card. -/
def execClfActivate (s : State) : Host.Outcome State Fault Refusal :=
  .next (s.whenKeep fun s => s.clfActivate)

/-- CLF_EXCHANGE (R546): Reader command EXCHANGE sends an APDU and writes the response. -/
def execClfExchange (clen : Nat) (s : State) : Host.Outcome State Fault Refusal :=
  .next (s.whenKeep fun s => s.clfExchange (clen % 1024))

/-- CLF_AUTH (R550): Reader command AUTH runs the custodian handshake as initiator. -/
def execClfAuth (s : State) : Host.Outcome State Fault Refusal :=
  .next (s.whenKeep fun s => s.clfAuth)

/-- SECURE_EXCHANGE (R551): Reader command exchanges a protected APDU. -/
def execSecureExchange (clen : Nat) (s : State) : Host.Outcome State Fault Refusal :=
  .next (s.whenKeep fun s => s.clfSecure (clen % 1024))

/-- CLF_DEACTIVATE (R546): Reader command DEACTIVATE sends S(DESELECT) and clears session keys. -/
def execClfDeactivate (s : State) : Host.Outcome State Fault Refusal :=
  .next (s.whenKeep fun s => s.clfDeactivate)

/-- FIELD_OFF (R546): Reader command FIELD_OFF turns the carrier off and clears card state. -/
def execFieldOff (s : State) : Host.Outcome State Fault Refusal :=
  .next (s.whenKeep fun s => s.fieldOff)

/-- CLF_FRAME_RECEIVE (R548): The reader receives a frame from the card. -/
def execClfFrameReceive (frame : List Byte) (crc : Nat) (coll : Option Nat) (s : State) : Host.Outcome State Fault
    Refusal :=
  .next (s.whenRuns fun s => s.clfFrame frame crc coll)

/-- CLF_FWT_EXPIRY (R548): The frame waiting time expires and the reader retries or ends the command. -/
def execClfFwtExpiry (s : State) : Host.Outcome State Fault Refusal :=
  .next (s.whenRuns fun s => s.clfExpiry)

/-- CARRIER_RESET_END (R548): The 6 ms carrier-off reset ends and the carrier returns. -/
def execCarrierResetEnd (s : State) : Host.Outcome State Fault Refusal :=
  .next (s.whenRuns fun s => s.carrierReset)

/-- TAG_FRAME_RECEIVE (R552): The tag answers REQA, WUPA, anticollision, SELECT or RATS. -/
def execTagFrameReceive (frame : List Byte) (s : State) : Host.Outcome State Fault Refusal :=
  .next (s.tagFrame frame)

/-- AUTH_BEGIN (R554): The tag begins a handshake or answers 6983. -/
def execAuthBegin (cla : Nat) (p1 : Nat) (p2 : Nat) (data : List Byte) (le : Option Nat) (jitter : List Byte) (s :
    State) : Host.Outcome State Fault Refusal :=
  .next (s.tagAuthBegin cla p1 p2 data le jitter)

/-- AUTH_FINISH (R550): The tag checks MAC_I and opens a session or starts a back-off. -/
def execAuthFinish (cla : Nat) (p1 : Nat) (p2 : Nat) (data : List Byte) (s : State) : Host.Outcome State Fault Refusal
    :=
  .next (s.tagAuthFinish cla p1 p2 data)

/-- END (R551): The tag ends the session. -/
def execEndSession (cla : Nat) (p1 : Nat) (p2 : Nat) (data : List Byte) (s : State) : Host.Outcome State Fault Refusal
    :=
  .next (s.tagEnd cla p1 p2 data)

/-- TAG_READ (R555): The tag returns a 128-byte page of tag memory. -/
def execTagRead (cla : Nat) (p1 : Nat) (p2 : Nat) (data : List Byte) (le : Option Nat) (s : State) : Host.Outcome
    State Fault Refusal :=
  .next (s.tagRead cla p1 p2 data le)

/-- STATUS (R555): The tag returns mailbox ownership, sequence numbers and AUTHFAIL. -/
def execStatus (cla : Nat) (p1 : Nat) (p2 : Nat) (data : List Byte) (s : State) : Host.Outcome State Fault Refusal :=
  .next (s.tagStatus cla p1 p2 data)

/-- TAG_WRITE (R555): The tag writes bytes into the fill buffer. -/
def execTagWrite (cla : Nat) (p1 : Nat) (p2 : Nat) (data : List Byte) (s : State) : Host.Outcome State Fault Refusal
    :=
  .next (s.tagWrite cla p1 p2 data)

/-- COMMIT (R559): The field commits the fill buffer to the keep. -/
def execCommit (cla : Nat) (p1 : Nat) (p2 : Nat) (data : List Byte) (s : State) : Host.Outcome State Fault Refusal :=
  .next (s.tagCommit cla p1 p2 data)

/-- ACK (R559): The field acknowledges an OUT buffer back to the keep. -/
def execAck (cla : Nat) (p1 : Nat) (p2 : Nat) (data : List Byte) (s : State) : Host.Outcome State Fault Refusal :=
  .next (s.tagAck cla p1 p2 data)

/-- TAG_BACKOFF_EXPIRY (R554): The tag's 32,768-tick back-off ends. -/
def execTagBackoffExpiry (s : State) : Host.Outcome State Fault Refusal :=
  .next (s.tagBackoffEnd)

/-- TAG_KEY_LOAD (R553): CLF_TKEY_CMD.GO fetches a key into the tag key register. -/
def execTagKeyLoad (index : Nat) (s : State) : Host.Outcome State Fault Refusal :=
  .next (s.whenKeep fun s => s.tagKeyLoad (index % 2 ^ 24))

/-- TAG_KEY_LOAD_END (R553): A tag-key load ends with the key loaded or CL_KEY. -/
def execTagKeyLoadEnd (s : State) : Host.Outcome State Fault Refusal :=
  .next (s.whenRuns fun s => s.tagKeyLoadEnd)

/-- TAG_KEY_CLEAR (R553): CLF_TKEY_CMD.CLEAR clears the tag key. -/
def execTagKeyClear (s : State) : Host.Outcome State Fault Refusal :=
  .next (s.whenKeep fun s => s.tagKeyClear)

/-- MAILBOX_RELEASE (R559): CLF_MBOX.REL_IN returns an IN buffer to the field. -/
def execMailboxRelease (mask : Nat) (s : State) : Host.Outcome State Fault Refusal :=
  .next (s.whenKeep fun s => s.mboxRelease (mask % 4))

/-- MAILBOX_PUBLISH (R559): CLF_MBOX.PUB_OUT publishes an OUT buffer to the field. -/
def execMailboxPublish (mask : Nat) (len : Nat) (s : State) : Host.Outcome State Fault Refusal :=
  .next (s.whenKeep fun s => s.mboxPublish (mask % 4) (len % 512))

end Sys2Proof.Machine
end

