-- ==== Sys2Proof/Machine/Skenar.lean ====
section
/-!
DEFINITION. Sys2Proof/Machine/Skenar.lean: a Skenar core issues an instruction (spec/07_core_execution.md,
spec/08_core_instructions.md): distances and pending writes, the busy units, branches and their slots, loops, the bit
space, local memory and spire SRAM, submissions, exits and exceptions. The commands of the instruction rows say that a
core issues that instruction; `State.issueOp` is what they share.
-/

namespace Sys2Proof.Machine

/-! ### Distances (R214 to R218) -/

/-- A write becomes visible. -/
def commitW (regs : List (Nat × W32)) (w : PendW) : List (Nat × W32) := tabSet 0 regs w.dst w.val

/-- The private bits a tier reads: key tier × 4,096 + bit. -/
def commitB (tier : Nat) (bits : List (Nat × Bool)) (w : PendB) : List (Nat × Bool) :=
  tabSet false bits (tier * 4096 + w.bit) w.val

/-- One more instruction is issued: every remaining distance falls by 1, and the writes that reach 0 become visible in
order of issue. -/
def Core.age (k : Core) : Core :=
  let p := k.pend.map (fun w => { w with rem := w.rem - 1 })
  let b := k.pbits.map (fun w => { w with rem := w.rem - 1 })
  let o := k.ownSh.map (fun w => { w with rem := w.rem - 1 })
  { k with
    regs := (p.filter (fun w => w.rem == 0)).foldl commitW k.regs
    pend := p.filter (fun w => w.rem != 0)
    bits := (b.filter (fun w => w.rem == 0)).foldl (commitB k.tier) k.bits
    pbits := b.filter (fun w => w.rem != 0)
    ownSh := o.filter (fun w => w.rem != 0) }

/-- A register as an instruction reads it at RR; g0 reads 0. -/
def Core.reg (k : Core) (n : Nat) : W32 := if n = 0 then 0 else tabGet 0 k.regs n

/-- A private bit of the running tier. -/
def Core.bit (k : Core) (b : Nat) : Bool := tabGet false k.bits (k.tier * 4096 + b)

/-- A register write at a distance; a write to g0 is discarded at issue. -/
def putReg (d : Nat) (v : W32) (dist : Nat) : List PendW := if d = 0 then [] else [{ dst := d, val := v, rem := dist }]

/-! ### Loops (R225 to R227, R262) -/

/-- The number of lb, le or lc (0, 1, 2) of a level among the destinations of R237. -/
def lreg (l which : Nat) : Nat := 32 + 3 * l + which

/-- The pending write of lb that a LOOP of a level has made, if any. -/
def Core.loopW (k : Core) (l : Nat) : Option PendW := (k.pend.filter (fun w => w.dst == lreg l 0)).getLast?

/-- lb, le or lc of a level as its loop-end decisions use it: those of a LOOP hold from its first body instruction on
(R262); a pending MTLC does not count yet. -/
def Core.lval (k : Core) (l which : Nat) : Nat :=
  match k.loopW l with
  | some b =>
    (match k.pend.find? (fun w => w.dst == lreg l which && w.rem == b.rem) with
     | some w => w.val.toNat
     | none => (tabGet 0 k.regs (lreg l which)).toNat)
  | none => (tabGet 0 k.regs (lreg l which)).toNat

/-- Change the lc that decides: that of a LOOP still within its distance becomes readable with the new value. -/
def Core.setLc (k : Core) (l v : Nat) : Core :=
  match k.loopW l with
  | some b =>
    { k with pend := k.pend.map (fun w => if w.dst = lreg l 2 ∧ w.rem = b.rem then { w with val := BitVec.ofNat 32 v } else w) }
  | none => { k with regs := tabSet 0 k.regs (lreg l 2) (BitVec.ofNat 32 v) }

/-- A level is active (R225). -/
def Core.active (k : Core) (l : Nat) : Bool := k.lval l 2 != 0

/-- The loop-end decision of the instruction at the pc, innermost level first: the core after it, and the index of the
next pass's first instruction where there is one (R226). -/
def Core.loopEnd (k : Core) : List Nat → Core × Option Nat
  | [] => (k, none)
  | l :: ls =>
    if k.active l ∧ k.lval l 1 = k.pc then
      let v := k.lval l 2 - 1
      if v = 0 then (k.setLc l 0).loopEnd ls else (k.setLc l v, some (k.lval l 0))
    else k.loopEnd ls

/-- A taken branch leaves the active levels whose body does not hold its target, and every level inside them (R227). -/
def Core.leave (k : Core) (target : Nat) : Core :=
  let out := (List.range 3).find? (fun l => k.active l && (target < k.lval l 0 || k.lval l 1 < target))
  match out with
  | none => k
  | some l => ((List.range 3).filter (fun m => l ≤ m)).foldl (fun k m => if k.active m then k.setLc m 0 else k) k

/-! ### Retiring an issue -/

/-- What an issued instruction does to its core: register and bit writes, the busy counts it starts (0 where it engages
no unit), the target of a branch (that of one not taken is the index after its slots), whether the branch is taken, and
the index that follows a LOOP of no pass. -/
structure Issue where
  ws : List PendW := []
  bs : List PendB := []
  own : List PendB := []
  div : Nat := 0
  cx : Nat := 0
  tbl : Nat := 0
  sp : Nat := 0
  br : Option Nat := none
  taken : Bool := false
  skip : Option Nat := none

/-- A busy count after an issue (R246). -/
def busyNext (old engaged : Nat) : Nat := if engaged = 0 then old - 1 else engaged

/-- The index after another (R220). -/
def idxNext (pc : Nat) : Nat := (pc + 1) % 16384

/-- The core after an issue: `k` is the core with its distances counted down. -/
def Core.retire (k : Core) (i : Issue) : Core :=
  let le := k.loopEnd [2, 1, 0]
  let k1 := if i.taken then le.1.leave (i.br.getD 0) else le.1
  let next := match i.skip with
    | some n => n
    | none => (match le.2 with | some lb => lb | none => idxNext k.pc)
  let k2 := { k1 with
    pend := k1.pend ++ i.ws, pbits := k1.pbits ++ i.bs, ownSh := k1.ownSh ++ i.own
    divBusy := busyNext k.divBusy i.div, cxBusy := busyNext k.cxBusy i.cx, tblBusy := busyNext k.tblBusy i.tbl
    spacing := busyNext k.spacing i.sp }
  match i.br with
  | some t => { k2 with pc := idxNext k.pc, slots := 2, target := t }
  | none =>
    if k.slots = 0 then { k2 with pc := next }
    else if k.slots = 1 then { k2 with pc := k.target, slots := 0, target := 0 }
    else { k2 with pc := next, slots := k.slots - 1 }

/-- Cycles of an issue: 1, and 2 quiet ones for a LOOP of no pass (R239). -/
def Issue.cycles (i : Issue) : Nat := if i.skip.isSome then 3 else 1

/-- An instruction has been issued: its core, and the RUNNING cycles of its job. -/
def State.retire (s : State) (c : Nat) (k : Core) (j : Job) (i : Issue) : State :=
  (s.setCore c (k.retire i)).updJob j.id (fun j => { j with cycles := j.cycles + i.cycles })

/-! ### The bit space (R221 to R223) -/

/-- A word of the status view (R223). -/
def State.statusWord (s : State) (c : Nat) (j : Job) (w : Nat) : Nat :=
  match w with
  | 0 => c % 16 + c / 16 * 16 + j.dome * 512 + j.cls * 32768 + j.epoch * 65536
  | 1 => j.handler % 65536 + j.handles.length * 65536
  | 2 => s.nowNs % 2 ^ 32
  | 3 => s.nowNs / 2 ^ 32 % 2 ^ 32
  | 4 => j.cycles % 2 ^ 32
  | 5 => j.h.wcet % 2 ^ 32
  | _ => 0

/-- A spire-shared bit as the store holds it. -/
def State.shared (s : State) (c b : Nat) : Bool := tabGet false (s.spire (c / 16)).shared b

/-- Write a spire-shared bit (R222). -/
def State.setShared (s : State) (c b : Nat) (v : Bool) : State :=
  let p := s.spire (c / 16)
  s.setSpire (c / 16) { p with shared := tabSet false p.shared b v }

/-- A bit of the bit space as core `c` reads it; its own writes to spire-shared bits show after 4 issues (R255). -/
def State.bitAt (s : State) (c : Nat) (k : Core) (j : Job) (b : Nat) : Bool :=
  if b < 4096 then k.bit b
  else if b < 32768 then
    (match k.ownSh.find? (fun w => w.bit == b) with
     | some w => w.val
     | none => s.shared c b)
  else if b < 49152 then decide (b - 32768 < 512) && tabGet false k.events (k.tier * 512 + (b - 32768))
  else if b < 65536 then (s.statusWord c j ((b - 49152) / 32)).testBit ((b - 49152) % 32)
  else false

/-- `w` bits of the bit space from a bit up, the first the lowest. -/
def State.bitField (s : State) (c : Nat) (k : Core) (j : Job) (b : Nat) : Nat → Nat
  | 0 => 0
  | w + 1 => b2n (s.bitAt c k j b) + 2 * s.bitField c k j (b + 1) w

/-! ### Memory seen from a core (R207 to R212, R259, R260) -/

/-- The effective address of a load or store. -/
def effAddr (k : Core) (ra imm : Nat) : Nat := (k.reg ra + (BitVec.ofNat 16 imm).signExtend 32).toNat

/-- Transfers of a core for its job. -/
def coreX (c : Nat) (j : Job) : Xfer := { agent := c, dom := j.dome, epoch := j.artEpoch }

/-- A core's violation: the record holds the core address with bit 39 set (R207, R329). -/
def State.coreViolation (s : State) (c : Nat) (j : Job) (type a : Nat) : State :=
  s.report { source := 0, agent := c, dome := j.dome, addr := 2 ^ 39 + a, type := type, spire := c / 16 }

/-- A core's allowed access of its spire's SRAM crosses the bus (R33, R34). -/
def State.coreBus (s : State) (c : Nat) (j : Job) (type a n : Nat) (data : List Byte) : List Byte × Nat × State :=
  let e := s.busTake c
  e.2.crossed (coreX c j) type a n data e.1 (fun s => s.unitServe (coreX c j))

/-- The bytes a load reads, and the state after. -/
def State.coreLoad (s : State) (c : Nat) (k : Core) (j : Job) (a n : Nat) : List Byte × State :=
  match coreRegion a with
  | 4 =>
    let pa := sramAddr (c / 16) (a - 0x10000000)
    (match s.judge (coreX c j) 0 pa n with
     | some b => (zeros n, s.coreViolation c j 0 (a + (b - pa)))
     | none => let r := s.coreBus c j 0 pa n []; (r.1, r.2.2))
  | 5 => (zeros n, s.coreViolation c j 0 a)
  | _ => (s.bytes ((corePhys c k.tier a).getD 0) n, s)

/-- A store. -/
def State.coreStore (s : State) (c : Nat) (k : Core) (j : Job) (a : Nat) (bs : List Byte) : State :=
  match coreRegion a with
  | 4 =>
    let pa := sramAddr (c / 16) (a - 0x10000000)
    (match s.judge (coreX c j) 1 pa bs.length with
     | some b => s.coreViolation c j 1 (a + (b - pa))
     | none => (s.coreBus c j 1 pa bs.length bs).2.2)
  | 5 => s.coreViolation c j 1 a
  | _ => s.putBytes ((corePhys c k.tier a).getD 0) bs

/-- Bytes of the core's own memory, as LUT and SUBMIT read them. -/
def State.localBytes (s : State) (c : Nat) (k : Core) (a n : Nat) : List Byte := s.bytes ((corePhys c k.tier a).getD 0) n

/-- A load or store goes to SRAM, or to an address with SRAM's timing (R260). -/
def sramTimed (a : Nat) : Bool := coreRegion a == 4 || coreRegion a == 5

/-- `n` bytes lie wholly within the image area or wholly within the scratch range. -/
def tableOk (a n : Nat) : Bool := inImage a n || inScratch a n

/-- The bytes of a LUT table, header and entries (R263). -/
def State.lutBytes (s : State) (c : Nat) (k : Core) (a : Nat) : Nat :=
  let h := ofLE (s.localBytes c k a 4)
  4 + bitsOf h 0 16 * lutWidth (bitsOf h 16 2)

/-! ### Exceptions (R233, R235, R275) -/

/-- Branches, which have delay slots. -/
def Op.isBranch : Op → Bool
  | .j _ => true
  | .jal _ _ => true
  | .jr _ => true
  | .jalr _ _ => true
  | .bt _ _ => true
  | .bf _ _ => true
  | .bz _ _ => true
  | .bnz _ _ => true
  | _ => false

/-- LOOP and LOOPR: their level and le. -/
def Op.isLoop : Op → Option (Nat × Nat)
  | .loop l le _ => some (l, le)
  | .loopr l le _ => some (l, le)
  | _ => none

/-- EXIT. -/
def Op.isExit : Op → Bool
  | .exit _ _ => true
  | _ => false

/-- An MTLC without effect: a non-zero value to a level inactive by the lc it reads (R262). -/
def Core.mtlcNone (k : Core) (l ra : Nat) : Bool :=
  tabGet 0 k.regs (lreg l 2) == 0 && (k.reg ra).toNat % 65536 != 0

/-- Register and loop-register writes an instruction makes pending (R218). -/
def Core.newWrites (k : Core) : Op → Nat
  | .alu _ rd _ _ => min rd 1
  | .shift _ rd _ _ => min rd 1
  | .shiftI _ rd _ _ => min rd 1
  | .muldiv _ rd _ _ => min rd 1
  | .aluI _ rd _ _ => min rd 1
  | .movhi rd _ => min rd 1
  | .ext rd _ _ _ _ => min rd 1
  | .ins rd _ _ _ => min rd 1
  | .sel rd _ _ _ => min rd 1
  | .bfr rd _ _ => min rd 1
  | .atom _ rd _ => min rd 1
  | .load .d rd _ _ => if rd = 0 then 1 else 2
  | .load _ rd _ _ => min rd 1
  | .lut rd _ _ => min rd 1
  | .luti rd _ _ => min rd 1
  | .ctlut rd _ _ _ _ _ => min rd 1
  | .jal rd _ => min rd 1
  | .jalr rd _ => min rd 1
  | .loop _ _ _ => 3
  | .loopr _ _ _ => 3
  | .mflb _ rd => min rd 1
  | .mfle _ rd => min rd 1
  | .mflc _ rd => min rd 1
  | .mtlc l ra => if k.mtlcNone l ra then 0 else 1
  | .cx _ rd _ _ _ => min rd 1
  | _ => 0

/-- LOOP_EDGE (R227, R262). -/
def Core.loopEdge (k : Core) (op : Op) : Bool :=
  let act := (List.range 3).filter k.active
  let atEnd := act.any (fun l => k.lval l 1 == k.pc)
  let near := act.any (fun l => k.lval l 1 == k.pc + 1 || k.lval l 1 == k.pc + 2)
  (op.isBranch && (atEnd || near)) || (op.isExit && atEnd)
    || (match op.isLoop with
        | some (l, le) => k.active l || decide (le < idxNext k.pc + 1)
            || (act.filter (fun m => m < l)).any (fun m => decide (le < k.lval m 0) || decide (k.lval m 1 < le))
        | none => false)

/-- UNIT_BUSY (R215, R246). -/
def Core.unitBusy (k : Core) : Op → Bool
  | .muldiv f _ _ _ => (f == .div || f == .divu || f == .rem || f == .remu) && k.divBusy != 0
  | .lut _ _ _ => k.tblBusy != 0
  | .luti _ _ _ => k.tblBusy != 0
  | .ctlut _ _ _ _ _ _ => k.tblBusy != 0
  | .cx _ _ _ _ _ => k.cxBusy != 0
  | _ => false

/-- The event flag of a ticket in the running tier. -/
def Core.done (k : Core) (t : Nat) : Bool := k.flag k.tier t

/-- The exceptions of an instruction in the order of R275, each with its code of R233 and whether it is met; ILLEGAL
comes before them all. -/
def State.exceptions (s : State) (c : Nat) (k : Core) (j : Job) (op : Op) : List (Nat × Bool) :=
  let acc : Option (Nat × Nat × Bool) := match op with
    | .load f _ ra imm => some (effAddr k ra imm, ldSize f, false)
    | .store f _ ra imm => some (effAddr k ra imm, stSize f, true)
    | _ => none
  let tab : Option (Nat × Nat × Nat) := match op with
    | .lut _ ra _ => some ((k.reg ra).toNat, 4, s.lutBytes c k (k.reg ra).toNat)
    | .luti _ ra _ => some ((k.reg ra).toNat, 4, s.lutBytes c k (k.reg ra).toNat)
    | .ctlut _ ra _ n _ _ => some ((k.reg ra).toNat, 32, 32 * n)
    | .submit pool _ ra => some ((k.reg ra).toNat, 32, descLen pool)
    | _ => none
  [ (0x02, match op with | .cx n _ _ _ _ => s.get (R.SPR_CX_ENTRY_LEN (c / 16) n) == 0 | _ => false),
    (0x03, k.slots != 0 && (op.isBranch || op.isExit || op.isLoop.isSome)),
    (0x04, k.loopEdge op),
    (0x09, k.unitBusy op),
    (0x0A, decide (6 < k.pend.length + k.newWrites op) && k.newWrites op != 0),
    (0x0E, match op with | .bitop _ b => decide (32768 ≤ b) | _ => false),
    (0x0F, match op with
      | .waitb b => decide (b < 32768) || decide (33023 < b)
          || (!k.done (b - 32768) && !j.tickets.any (fun t => t.1 == b - 32768))
      | _ => false),
    (0x05, (match acc with | some (a, n, _) => a % n != 0 | none => false)
        || (match tab with | some (a, n, _) => a % n != 0 | none => false)),
    (0x06, (match acc with | some (a, _, _) => coreRegion a == 2 | none => false)
        || (match tab with | some (a, m, n) => !tableOk a (min m n) || !tableOk a n | none => false)),
    (0x07, match acc with | some (a, _, true) => coreRegion a == 0 || coreRegion a == 3 | _ => false),
    (0x08, match acc with | some (a, _, _) => sramTimed a && k.spacing != 0 | none => false),
    (0x0C, match op with | .submit _ _ _ => decide (16 ≤ j.tickets.length) | _ => false),
    (0x0D, match op with | .submit _ t _ => j.tickets.any (fun x => x.1 == t) | _ => false),
    (0x0B, match op with
      | .submit pool _ ra => pool != 3 && (keyPositions pool (s.localBytes c k (k.reg ra).toNat (descLen pool))).any
          (fun p => decide (j.handles.length ≤ p))
      | _ => false),
    (0x10, op.isExit && !j.tickets.isEmpty),
    (0x11, match op with | .exit _ rb => decide (3584 < (k.reg rb).toNat) | _ => false),
    (0x12, match op with | .trap _ => true | _ => false) ]

/-- The first exception an instruction meets. -/
def State.exception (s : State) (c : Nat) (k : Core) (j : Job) (op : Op) : Option Nat :=
  ((s.exceptions c k j op).find? (fun e => e.2)).map (·.1)

/-- An exception ends the job with HANDLER_FAULT, reason 6, or reason 1 where its cycle budget expires on the same edge
(R233 to R235). -/
def State.except (s : State) (j : Job) (code trap : Nat) : State :=
  s.handlerFault j.id (if j.h.wcet ≤ j.cycles + 1 then 1 else 6 + code * 256 + trap * 65536)

/-! ### Performing an instruction -/

/-- What a branch does: the target, taken or not (R261). -/
def branchTo (k : Core) (taken : Bool) (target : Nat) (ws : List PendW) : Issue :=
  { ws := ws, br := some (if taken then target else (k.pc + 3) % 16384), taken := taken }

/-- What LOOP and LOOPR do (R227, R262). -/
def loopTo (k : Core) (l le count : Nat) : Issue :=
  { ws := [{ dst := lreg l 0, val := BitVec.ofNat 32 (idxNext k.pc), rem := 3 },
           { dst := lreg l 1, val := BitVec.ofNat 32 le, rem := 3 }, { dst := lreg l 2, val := BitVec.ofNat 32 count, rem := 3 }]
    skip := if count = 0 then some (idxNext le) else none }

/-- What an instruction does that touches its core's registers and private bits only. -/
def regIssue (k : Core) : Op → Issue
  | .alu f rd ra rb => { ws := putReg rd (aluOp f (k.reg ra) (k.reg rb)) 2 }
  | .shift f rd ra rb => { ws := putReg rd (shOp f (k.reg ra) ((k.reg rb).toNat % 32)) 2 }
  | .shiftI f rd ra n => { ws := putReg rd (shOp f (k.reg ra) n) 2 }
  | .muldiv f rd ra rb =>
    let isDiv := f == .div || f == .divu || f == .rem || f == .remu
    { ws := putReg rd (mulOp f (k.reg ra) (k.reg rb)) (if isDiv then 19 else 3), div := if isDiv then 18 else 0 }
  | .aluI f rd ra imm =>
    let i : W32 := if f = .add then (BitVec.ofNat 16 imm).signExtend 32 else BitVec.ofNat 32 imm
    { ws := putReg rd (aluOp f (k.reg ra) i) 2 }
  | .movhi rd imm => { ws := putReg rd (BitVec.ofNat 32 (imm * 65536)) 2 }
  | .ext rd ra pos len sign => { ws := putReg rd (extOp (k.reg ra) pos len sign) 2 }
  | .ins rd ra pos len => { ws := putReg rd (insOp (k.reg rd) (k.reg ra) pos len) 2 }
  | .sel rd ra rb bit => { ws := putReg rd (if k.bit bit then k.reg ra else k.reg rb) 2 }
  | .cmp cond bd ra rb => { bs := [{ bit := bd, val := condHolds cond (k.reg ra) (k.reg rb), rem := 2 }] }
  | .cmpi cond bd ra i => { bs := [{ bit := bd, val := condHolds cond (k.reg ra) (cmpiImm cond i), rem := 2 }] }
  | .blog f bd b => { bs := [{ bit := bd, val := blogOp f (k.bit bd) (k.bit b), rem := 2 }] }
  | .j t => branchTo k true t []
  | .jal rd t => branchTo k true t (putReg rd (BitVec.ofNat 32 ((k.pc + 3) % 16384)) 2)
  | .jr ra => branchTo k true ((k.reg ra).toNat % 16384) []
  | .jalr rd ra => branchTo k true ((k.reg ra).toNat % 16384) (putReg rd (BitVec.ofNat 32 ((k.pc + 3) % 16384)) 2)
  | .bt b t => branchTo k (k.bit b) t []
  | .bf b t => branchTo k (!k.bit b) t []
  | .bz ra t => branchTo k (k.reg ra == 0) t []
  | .bnz ra t => branchTo k (k.reg ra != 0) t []
  | .loop l le count => loopTo k l le count
  | .loopr l le ra => loopTo k l le (min (k.reg ra).toNat 65535)
  | .mflb l rd => { ws := putReg rd (tabGet 0 k.regs (lreg l 0)) 2 }
  | .mfle l rd => { ws := putReg rd (tabGet 0 k.regs (lreg l 1)) 2 }
  | .mflc l rd => { ws := putReg rd (tabGet 0 k.regs (lreg l 2)) 2 }
  | .mtlc l ra =>
    if k.mtlcNone l ra then {} else { ws := [{ dst := lreg l 2, val := k.reg ra &&& 0xFFFF, rem := 3 }] }
  | _ => {}

/-- The microwords a custom instruction executes (R271). -/
def State.cxWords (s : State) (p n : Nat) : List Nat :=
  let start := s.get (R.SPR_CX_ENTRY_START p n)
  (List.range (min (s.get (R.SPR_CX_ENTRY_LEN p n)) (s.get (R.SPR_CX_ENTRY_LATENCY p n)))).map (fun i =>
    let w := (start + i) % 1024
    s.get (R.SPR_UCODE_WORD p w 0) + s.get (R.SPR_UCODE_WORD p w 1) * 2 ^ 32 + s.get (R.SPR_UCODE_WORD p w 2) * 2 ^ 64)

/-- CX (R270, R271). -/
def State.doCx (s : State) (c : Nat) (k : Core) (j : Job) (n rd ra rb imm7 : Nat) : State :=
  let lat := s.get (R.SPR_CX_ENTRY_LATENCY (c / 16) n)
  s.retire c k j { ws := putReg rd (cxRun (k.reg ra) (k.reg rb) imm7 (s.cxWords (c / 16) n)) lat, cx := lat }

/-- A load (R259, R260). -/
def State.doLoad (s : State) (c : Nat) (k : Core) (j : Job) (f : LdF) (rd ra imm : Nat) : State :=
  let a := effAddr k ra imm
  let sram := sramTimed a
  let dist := if sram then 26 else 4
  let r := s.coreLoad c k j a (ldSize f)
  let ws := match f with
    | .d => putReg rd (BitVec.ofNat 32 (fld r.1 0 4)) dist ++ putReg (rd + 1) (BitVec.ofNat 32 (fld r.1 4 4)) dist
    | _ => putReg rd (ldExt f (ofLE r.1)) dist
  r.2.retire c k j { ws := ws, sp := if sram then 15 else 0 }

/-- A store (R259, R260). -/
def State.doStore (s : State) (c : Nat) (k : Core) (j : Job) (f : StF) (rd ra imm : Nat) : State :=
  let a := effAddr k ra imm
  let bs := match f with
    | .d => toLE 4 (k.reg rd).toNat ++ toLE 4 (k.reg (rd + 1)).toNat
    | _ => toLE (stSize f) (k.reg rd).toNat
  (s.coreStore c k j a bs).retire c k j { sp := if sramTimed a then 15 else 0 }

/-- BSET, BCLR and BINV (R255). -/
def State.doBit (s : State) (c : Nat) (k : Core) (j : Job) (f : BitF) (b : Nat) : State :=
  if b < 4096 then s.retire c k j { bs := [{ bit := b, val := bitOp f (k.bit b), rem := 2 }] }
  else
    let old := s.shared c b
    (s.setShared c b (bitOp f old)).retire c k j { own := [{ bit := b, val := old, rem := 4 }] }

/-- TAS and TAC (R222, R258). -/
def State.doAtom (s : State) (c : Nat) (k : Core) (j : Job) (set : Bool) (rd off : Nat) : State :=
  let old := s.shared c (4096 + off)
  (s.setShared c (4096 + off) set).retire c k j
    { ws := putReg rd (if old then 1 else 0) 5, own := [{ bit := 4096 + off, val := old, rem := 4 }] }

/-- LUT (`luti` false) and LUTI (R263, R264). -/
def State.doLut (s : State) (c : Nat) (k : Core) (j : Job) (luti : Bool) (rd ra rb : Nat) : State :=
  let a := (k.reg ra).toNat
  let bs := s.localBytes c k a (s.lutBytes c k a)
  let h := fld bs 0 4
  s.retire c k j { ws := if luti then putReg rd (lutiOp h (bs.drop 4) (k.reg rb)) 7 else putReg rd (lutOp h (bs.drop 4) (k.reg rb)) 5 }

/-- CTLUT (R265). -/
def State.doCtlut (s : State) (c : Nat) (k : Core) (j : Job) (rd ra rb n w : Nat) (sign : Bool) : State :=
  let bs := s.localBytes c k (k.reg ra).toNat (32 * n)
  s.retire c k j { ws := putReg rd (ctlutOp n w sign bs (k.reg rb)) (6 + n), tbl := n + 1 }

/-- The units a job has used, and may use, in a pool (R189). -/
def Job.unitsLeft (j : Job) (pool : Nat) : Nat :=
  if pool = 0 then j.h.symU - j.symUsed else if pool = 1 then j.h.digU - j.digUsed else j.h.pkeU - j.pkeUsed

/-- Charge a submission to its job, and hold its ticket. -/
def Job.submitted (j : Job) (pool ticket n : Nat) : Job :=
  { j with tickets := j.tickets ++ [(ticket, pool)]
           symUsed := if pool = 0 then j.symUsed + n else j.symUsed
           digUsed := if pool = 1 then j.digUsed + n else j.digUsed
           pkeUsed := if pool = 2 then j.pkeUsed + n else j.pkeUsed
           moverUsed := if pool = 3 then j.moverUsed + n else j.moverUsed }

/-- SUBMIT (R266, R267): the check of R189, then the command or descriptor is issued. -/
def State.doSubmit (s : State) (c : Nat) (k : Core) (j : Job) (pool ticket ra : Nat) : State :=
  let desc := s.localBytes c k (k.reg ra).toNat (descLen pool)
  let n := if pool = 3 then fld desc 4 4 else cmdUnits pool desc
  if pool = 3 ∧ j.h.moverBytes < j.moverUsed + n then s.handlerFault j.id 3
  else if pool ≠ 3 ∧ j.unitsLeft pool < n then s.handlerFault j.id 2
  else
    let s1 := (s.retire c (k.clearTicket k.tier ticket) j {}).updJob j.id (fun j => j.submitted pool ticket n)
    if pool = 3 then s1.submitMv j c ticket desc
    else
      { s1 with cmds := s1.cmds ++ [{ pool := pool, job := j.id, ticket := ticket, core := c, tier := j.cls, dome := j.dome
                                      artEpoch := j.artEpoch, promise := if j.cls = 0 then some j.promise else none
                                      desc := desc, slots := j.slots }] }

/-- WAITB (R224): done, or the job waits for the flag. -/
def State.doWaitb (s : State) (c : Nat) (k : Core) (j : Job) (b : Nat) : State :=
  let t := b - 32768
  let s1 := s.retire c k j {}
  if k.done t then s1
  else
    let mover := j.tickets.any (fun x => x.1 == t && x.2 == 3)
    s1.updJob j.id (fun j => { j with st := if mover then .waitMover else .waitEngine, wait := some t })

/-- The SRAM offset of the job slot of a core and tier (R210). -/
def slotOff (c tier : Nat) : Nat := 0x3E0000 + (2 * (c % 16) + tier) * 0x1000

/-- A status that a handler may not exit with (R189, reason 7). -/
def exitForbidden (st : Nat) : Bool := (0x0100 ≤ st && st ≤ 0x01FF) || 0x0AFF < st

/-- The completion of a result of n bytes would exceed EGRESS_BYTES on the wire (R189, reason 4; R458). -/
def State.egressOver (s : State) (j : Job) (n : Nat) : Bool :=
  match s.jobSession j with
  | some (_, x) => decide (j.h.egressBytes < s.wireSize x.peer (32 + roundUp n 8))
  | none => false

/-- EXIT (R232, R189). -/
def State.doExit (s : State) (c : Nat) (k : Core) (j : Job) (ra rb : Nat) : State :=
  let st := (k.reg ra).toNat % 65536
  let n := (k.reg rb).toNat
  if exitForbidden st then s.handlerFault j.id 7
  else if s.egressOver j n then s.handlerFault j.id 4
  else
    let r := s.rd { agent := 0x2A2, dom := j.dome, epoch := j.artEpoch } (sramAddr (c / 16) (slotOff c k.tier + 0x200)) n
    r.2.endJob j .done st 0 r.1

/-- An instruction without an exception is performed. -/
def State.perform (s : State) (c : Nat) (k : Core) (j : Job) (op : Op) : State :=
  match op with
  | .bitop f b => s.doBit c k j f b
  | .bfr rd w b => s.retire c k j { ws := putReg rd (BitVec.ofNat 32 (s.bitField c k j b w)) 3 }
  | .atom set rd off => s.doAtom c k j set rd off
  | .load f rd ra imm => s.doLoad c k j f rd ra imm
  | .store f rd ra imm => s.doStore c k j f rd ra imm
  | .lut rd ra rb => s.doLut c k j false rd ra rb
  | .luti rd ra rb => s.doLut c k j true rd ra rb
  | .ctlut rd ra rb n w sign => s.doCtlut c k j rd ra rb n w sign
  | .submit pool t ra => s.doSubmit c k j pool t ra
  | .waitb b => s.doWaitb c k j b
  | .exit ra rb => s.doExit c k j ra rb
  | .trap n => s.except j 0x12 n
  | .cx n rd ra rb imm => s.doCx c k j n rd ra rb imm
  | o => s.retire c k j (regIssue k o)

/-- The job that core `c` may issue an instruction for now: it is RUNNING and its cycle budget is not spent (R189). -/
def State.issuer (s : State) (c : Nat) : Option Job :=
  if c < 512 ∧ (s.core c).phase = .running then
    ((s.core c).job.bind s.job).bind (fun j => if j.st = .running ∧ j.cycles < j.h.wcet then some j else none)
  else none

/-- The instruction word at the core's pc (R242). -/
def State.fetchWord (s : State) (c : Nat) : Nat := ofLE (s.bytes (coreAddr c (0x20000 + 4 * (s.core c).pc)) 4)

/-- Core `c` issues an instruction: nothing where it may not issue, or where its next word is not this instruction. -/
def State.issueOp (s : State) (c : Nat) (op : Op) : State :=
  match s.issuer c with
  | none => s
  | some j =>
    if decodeCore (s.fetchWord c) = some op then
      let k := (s.core c).age
      match s.exception c k j op with
      | none => s.perform c k j op
      | some code => s.except j code (match op with | .trap n => n | _ => 0)
    else s

/-- A compare: its operand names the condition by code (R240); a code that no condition has issues nothing. -/
def State.issueCmp (s : State) (c cond : Nat) (f : Cond → Op) : State :=
  match decCond cond with
  | some k => s.issueOp c (f k)
  | none => s

/-- Core `c` reaches an undefined word (R242): ILLEGAL. -/
def State.illegal (s : State) (c : Nat) : State :=
  match s.issuer c with
  | none => s
  | some j => if (decodeCore (s.fetchWord c)).isNone then s.except j 0x01 0 else s

/-- The scrub freezes the spire's cores for one cycle (R219), which counts as RUNNING. -/
def State.scrubFreeze (s : State) (p : Nat) : State :=
  { s with jsc := { s.jsc with jobs := s.jsc.jobs.map (fun j =>
      if j.st = .running ∧ j.core.map (· / 16) = some p then { j with cycles := j.cycles + 1 } else j) } }

/-! ### Job entry (R228) and the flight record (R236 to R238) -/

/-- Entry of a job on core `c` with its tier and key map: private bits and event view cleared, registers as R228 gives
them, the payload copied into the job slot (R182), 8 cycles. -/
def State.enter (s : State) (c : Nat) (j : Job) (va : Nat) : State :=
  let k := s.core c
  let big := 512 < j.payloadLen
  let off := slotOff c j.cls
  let put (rs : List (Nat × W32)) (e : Nat × Nat) : List (Nat × W32) := tabSet 0 rs e.1 (BitVec.ofNat 32 e.2)
  let regs := [(1, if big then 0 else 0x10000000 + off), (2, if big then va % 2 ^ 32 else 0), (3, if big then va / 2 ^ 32 % 65536 else 0),
    (4, j.payloadLen), (5, j.handles.length), (6, 0x10000000 + off + 0x200), (7, j.id), (8, j.regions % 2 ^ 32),
    (9, j.regions / 2 ^ 32)].foldl put []
  let k1 : Core := { k with
    regs := regs, pend := [], pbits := [], ownSh := [], pc := j.h.entry % 16384, slots := 0, target := 0, divBusy := 0, cxBusy := 0
    tblBusy := 0, spacing := 0, phase := .running, job := some j.id, tier := j.cls
    bits := k.bits.filter (fun e => e.1 / 4096 != j.cls), events := k.events.filter (fun e => e.1 / 512 != j.cls)
    keysP := if j.cls = 0 then j.slots else k.keysP, keysB := if j.cls = 0 then k.keysB else j.slots }
  let s1 := s.setCore c k1
  let s2 := if big then s1 else s1.putBytes (sramAddr (c / 16) off) j.payload
  s2.updJob j.id (fun j => { j with st := .running, core := some c, cycles := 8 })

/-- The flight record of a core (R237). -/
def Core.record (k : Core) : List W32 :=
  let r (n : Nat) : Nat := (tabGet 0 k.regs n).toNat
  let w (n : Nat) : W32 := BitVec.ofNat 32 n
  let pb (i : Nat) : Nat := match k.pbits[i]? with
    | some b => 0x8000 + b2n b.val * 0x4000 + (b.rem - 1) % 2 * 0x2000 + b.bit % 4096
    | none => 0
  let tag (i : Nat) : Nat := match k.pend[i]? with
    | some p => 0x8000 + p.dst % 64 * 512 + p.rem % 128
    | none => 0
  let v (i : Nat) : W32 := match k.pend[i]? with | some p => p.val | none => 0
  (List.range 31).map (fun i => w (r (i + 1)))
    ++ [w (r 32 % 16384 + r 33 % 16384 * 65536), w (r 35 % 16384 + r 36 % 16384 * 65536), w (r 38 % 16384 + r 39 % 16384 * 65536),
        w (r 34 % 65536 + r 37 * 65536), w (r 40 % 65536 + pb 0 * 65536), w (pb 1),
        w (k.pc + k.target * 65536 + k.slots * 2 ^ 30),
        w (k.divBusy % 32 + k.cxBusy % 128 * 32 + k.tblBusy % 128 * 4096 + k.spacing % 32 * 2 ^ 19)]
    ++ (List.range 6).map v ++ [w (tag 0 + tag 1 * 65536), w (tag 2 + tag 3 * 65536), w (tag 4 + tag 5 * 65536)]

/-- A core restored from its flight record (R238), in tier B. -/
def Core.restore (k : Core) : Core :=
  let x (n : Nat) : Nat := ((k.flight[n]?).getD 0).toNat
  let lp (rs : List (Nat × W32)) (e : Nat × Nat) : List (Nat × W32) := tabSet 0 rs e.1 (BitVec.ofNat 32 e.2)
  let regs := ((List.range 31).map (fun i => (i + 1, x i)) ++ [(32, bitsOf (x 31) 0 14), (33, bitsOf (x 31) 16 14), (35, bitsOf (x 32) 0 14),
    (36, bitsOf (x 32) 16 14), (38, bitsOf (x 33) 0 14), (39, bitsOf (x 33) 16 14), (34, bitsOf (x 34) 0 16), (37, bitsOf (x 34) 16 16),
    (40, bitsOf (x 35) 0 16)]).foldl lp []
  let tag (i : Nat) : Nat := bitsOf (x (45 + i / 2)) (i % 2 * 16) 16
  let pend := (List.range 6).filterMap (fun i => if bitOf (tag i) 15 then
    some { dst := bitsOf (tag i) 9 6, val := (k.flight[39 + i]?).getD 0, rem := bitsOf (tag i) 0 7 : PendW } else none)
  let pb := [bitsOf (x 35) 16 16, bitsOf (x 36) 0 16].filterMap (fun b => if bitOf b 15 then
    some { bit := bitsOf b 0 12, val := bitOf b 14, rem := bitsOf b 13 1 + 1 : PendB } else none)
  { k with
    regs := regs, pend := pend, pbits := pb, ownSh := [], pc := bitsOf (x 37) 0 14, target := bitsOf (x 37) 16 14, slots := bitsOf (x 37) 30 2
    divBusy := bitsOf (x 38) 0 5, cxBusy := bitsOf (x 38) 5 7, tblBusy := bitsOf (x 38) 12 7, spacing := bitsOf (x 38) 19 5, tier := 1
    phase := .running, job := k.flightJob, flight := [], flightJob := none }

end Sys2Proof.Machine
end

