-- ==== Sys2Proof/Machine/CmdCore.lean ====
section
/-!
DEFINITION. What the commands do: core instructions.
-/

namespace Sys2Proof.Machine

/-- ADD (R247): rd = ra + rb. -/
def execAdd (c : Nat) (rd : Nat) (ra : Nat) (rb : Nat) (s : State) : Host.Outcome State Fault Refusal :=
  .next (s.whenRuns fun s => s.issueOp c (.alu .add rd ra rb))

/-- SUB (R247): rd = ra - rb. -/
def execSub (c : Nat) (rd : Nat) (ra : Nat) (rb : Nat) (s : State) : Host.Outcome State Fault Refusal :=
  .next (s.whenRuns fun s => s.issueOp c (.alu .sub rd ra rb))

/-- AND (R247): rd = ra AND rb. -/
def execAnd (c : Nat) (rd : Nat) (ra : Nat) (rb : Nat) (s : State) : Host.Outcome State Fault Refusal :=
  .next (s.whenRuns fun s => s.issueOp c (.alu .band rd ra rb))

/-- OR (R247): rd = ra OR rb. -/
def execOr (c : Nat) (rd : Nat) (ra : Nat) (rb : Nat) (s : State) : Host.Outcome State Fault Refusal :=
  .next (s.whenRuns fun s => s.issueOp c (.alu .bor rd ra rb))

/-- XOR (R247): rd = ra XOR rb. -/
def execXor (c : Nat) (rd : Nat) (ra : Nat) (rb : Nat) (s : State) : Host.Outcome State Fault Refusal :=
  .next (s.whenRuns fun s => s.issueOp c (.alu .bxor rd ra rb))

/-- ANDN (R247): rd = ra AND NOT rb. -/
def execAndn (c : Nat) (rd : Nat) (ra : Nat) (rb : Nat) (s : State) : Host.Outcome State Fault Refusal :=
  .next (s.whenRuns fun s => s.issueOp c (.alu .andn rd ra rb))

/-- ORN (R247): rd = ra OR NOT rb. -/
def execOrn (c : Nat) (rd : Nat) (ra : Nat) (rb : Nat) (s : State) : Host.Outcome State Fault Refusal :=
  .next (s.whenRuns fun s => s.issueOp c (.alu .orn rd ra rb))

/-- NOR (R247): rd = NOT (ra OR rb). -/
def execNor (c : Nat) (rd : Nat) (ra : Nat) (rb : Nat) (s : State) : Host.Outcome State Fault Refusal :=
  .next (s.whenRuns fun s => s.issueOp c (.alu .nor rd ra rb))

/-- MIN (R247): Signed minimum. -/
def execMin (c : Nat) (rd : Nat) (ra : Nat) (rb : Nat) (s : State) : Host.Outcome State Fault Refusal :=
  .next (s.whenRuns fun s => s.issueOp c (.alu .smin rd ra rb))

/-- MAX (R247): Signed maximum. -/
def execMax (c : Nat) (rd : Nat) (ra : Nat) (rb : Nat) (s : State) : Host.Outcome State Fault Refusal :=
  .next (s.whenRuns fun s => s.issueOp c (.alu .smax rd ra rb))

/-- MINU (R247): Unsigned minimum. -/
def execMinu (c : Nat) (rd : Nat) (ra : Nat) (rb : Nat) (s : State) : Host.Outcome State Fault Refusal :=
  .next (s.whenRuns fun s => s.issueOp c (.alu .umin rd ra rb))

/-- MAXU (R247): Unsigned maximum. -/
def execMaxu (c : Nat) (rd : Nat) (ra : Nat) (rb : Nat) (s : State) : Host.Outcome State Fault Refusal :=
  .next (s.whenRuns fun s => s.issueOp c (.alu .umax rd ra rb))

/-- CLZ (R247): Count leading zeros of ra. -/
def execClz (c : Nat) (rd : Nat) (ra : Nat) (s : State) : Host.Outcome State Fault Refusal :=
  .next (s.whenRuns fun s => s.issueOp c (.alu .clz rd ra 0))

/-- POPC (R247): Count set bits of ra. -/
def execPopc (c : Nat) (rd : Nat) (ra : Nat) (s : State) : Host.Outcome State Fault Refusal :=
  .next (s.whenRuns fun s => s.issueOp c (.alu .popc rd ra 0))

/-- BSWAP (R247): Reverse the bytes of ra. -/
def execBswap (c : Nat) (rd : Nat) (ra : Nat) (s : State) : Host.Outcome State Fault Refusal :=
  .next (s.whenRuns fun s => s.issueOp c (.alu .bswap rd ra 0))

/-- SHL (R248): Shift left by rb. -/
def execShl (c : Nat) (rd : Nat) (ra : Nat) (rb : Nat) (s : State) : Host.Outcome State Fault Refusal :=
  .next (s.whenRuns fun s => s.issueOp c (.shift .shl rd ra rb))

/-- SHR (R248): Logical shift right by rb. -/
def execShr (c : Nat) (rd : Nat) (ra : Nat) (rb : Nat) (s : State) : Host.Outcome State Fault Refusal :=
  .next (s.whenRuns fun s => s.issueOp c (.shift .shr rd ra rb))

/-- SHA (R248): Arithmetic shift right by rb. -/
def execSha (c : Nat) (rd : Nat) (ra : Nat) (rb : Nat) (s : State) : Host.Outcome State Fault Refusal :=
  .next (s.whenRuns fun s => s.issueOp c (.shift .sha rd ra rb))

/-- ROR (R248): Rotate right by rb. -/
def execRor (c : Nat) (rd : Nat) (ra : Nat) (rb : Nat) (s : State) : Host.Outcome State Fault Refusal :=
  .next (s.whenRuns fun s => s.issueOp c (.shift .ror rd ra rb))

/-- SHLI (R248): Shift left by an immediate amount. -/
def execShli (c : Nat) (rd : Nat) (ra : Nat) (amount : Nat) (s : State) : Host.Outcome State Fault Refusal :=
  .next (s.whenRuns fun s => s.issueOp c (.shiftI .shl rd ra amount))

/-- SHRI (R248): Logical shift right by an immediate amount. -/
def execShri (c : Nat) (rd : Nat) (ra : Nat) (amount : Nat) (s : State) : Host.Outcome State Fault Refusal :=
  .next (s.whenRuns fun s => s.issueOp c (.shiftI .shr rd ra amount))

/-- SHAI (R248): Arithmetic shift right by an immediate amount. -/
def execShai (c : Nat) (rd : Nat) (ra : Nat) (amount : Nat) (s : State) : Host.Outcome State Fault Refusal :=
  .next (s.whenRuns fun s => s.issueOp c (.shiftI .sha rd ra amount))

/-- RORI (R248): Rotate right by an immediate amount. -/
def execRori (c : Nat) (rd : Nat) (ra : Nat) (amount : Nat) (s : State) : Host.Outcome State Fault Refusal :=
  .next (s.whenRuns fun s => s.issueOp c (.shiftI .ror rd ra amount))

/-- ADDI (R249): rd = ra + sign-extended imm16. -/
def execAddi (c : Nat) (rd : Nat) (ra : Nat) (imm16 : Nat) (s : State) : Host.Outcome State Fault Refusal :=
  .next (s.whenRuns fun s => s.issueOp c (.aluI .add rd ra imm16))

/-- ANDI (R249): rd = ra AND zero-extended imm16. -/
def execAndi (c : Nat) (rd : Nat) (ra : Nat) (imm16 : Nat) (s : State) : Host.Outcome State Fault Refusal :=
  .next (s.whenRuns fun s => s.issueOp c (.aluI .band rd ra imm16))

/-- ORI (R249): rd = ra OR zero-extended imm16. -/
def execOri (c : Nat) (rd : Nat) (ra : Nat) (imm16 : Nat) (s : State) : Host.Outcome State Fault Refusal :=
  .next (s.whenRuns fun s => s.issueOp c (.aluI .bor rd ra imm16))

/-- XORI (R249): rd = ra XOR zero-extended imm16. -/
def execXori (c : Nat) (rd : Nat) (ra : Nat) (imm16 : Nat) (s : State) : Host.Outcome State Fault Refusal :=
  .next (s.whenRuns fun s => s.issueOp c (.aluI .bxor rd ra imm16))

/-- MOVHI (R249): rd = imm16 shifted to the high half. -/
def execMovhi (c : Nat) (rd : Nat) (imm16 : Nat) (s : State) : Host.Outcome State Fault Refusal :=
  .next (s.whenRuns fun s => s.issueOp c (.movhi rd imm16))

/-- EXT (R250): Extract a bit field of ra into rd. -/
def execExt (c : Nat) (rd : Nat) (ra : Nat) (pos : Nat) (len : Nat) (sign : Bool) (s : State) : Host.Outcome State
    Fault Refusal :=
  .next (s.whenRuns fun s => s.issueOp c (.ext rd ra pos len sign))

/-- INS (R250): Insert low bits of ra into a field of rd. -/
def execIns (c : Nat) (rd : Nat) (ra : Nat) (pos : Nat) (len : Nat) (s : State) : Host.Outcome State Fault Refusal :=
  .next (s.whenRuns fun s => s.issueOp c (.ins rd ra pos len))

/-- SEL (R251): Select ra or rb by a private bit. -/
def execSel (c : Nat) (rd : Nat) (ra : Nat) (rb : Nat) (sbit : Nat) (s : State) : Host.Outcome State Fault Refusal :=
  .next (s.whenRuns fun s => s.issueOp c (.sel rd ra rb sbit))

/-- MUL (R252): Low 32 bits of the product. -/
def execMul (c : Nat) (rd : Nat) (ra : Nat) (rb : Nat) (s : State) : Host.Outcome State Fault Refusal :=
  .next (s.whenRuns fun s => s.issueOp c (.muldiv .mul rd ra rb))

/-- MULH (R252): High 32 bits of the signed product. -/
def execMulh (c : Nat) (rd : Nat) (ra : Nat) (rb : Nat) (s : State) : Host.Outcome State Fault Refusal :=
  .next (s.whenRuns fun s => s.issueOp c (.muldiv .mulh rd ra rb))

/-- MULHU (R252): High 32 bits of the unsigned product. -/
def execMulhu (c : Nat) (rd : Nat) (ra : Nat) (rb : Nat) (s : State) : Host.Outcome State Fault Refusal :=
  .next (s.whenRuns fun s => s.issueOp c (.muldiv .mulhu rd ra rb))

/-- DIV (R252): Signed quotient. -/
def execDiv (c : Nat) (rd : Nat) (ra : Nat) (rb : Nat) (s : State) : Host.Outcome State Fault Refusal :=
  .next (s.whenRuns fun s => s.issueOp c (.muldiv .div rd ra rb))

/-- DIVU (R252): Unsigned quotient. -/
def execDivu (c : Nat) (rd : Nat) (ra : Nat) (rb : Nat) (s : State) : Host.Outcome State Fault Refusal :=
  .next (s.whenRuns fun s => s.issueOp c (.muldiv .divu rd ra rb))

/-- REM (R252): Signed remainder. -/
def execRem (c : Nat) (rd : Nat) (ra : Nat) (rb : Nat) (s : State) : Host.Outcome State Fault Refusal :=
  .next (s.whenRuns fun s => s.issueOp c (.muldiv .rem rd ra rb))

/-- REMU (R252): Unsigned remainder. -/
def execRemu (c : Nat) (rd : Nat) (ra : Nat) (rb : Nat) (s : State) : Host.Outcome State Fault Refusal :=
  .next (s.whenRuns fun s => s.issueOp c (.muldiv .remu rd ra rb))

/-- CMP (R253): Compare two registers under a condition and write a private bit. -/
def execCmp (c : Nat) (cond : Nat) (bd : Nat) (ra : Nat) (rb : Nat) (s : State) : Host.Outcome State Fault Refusal :=
  .next (s.whenRuns fun s => s.issueCmp c cond (fun f => .cmp f bd ra rb))

/-- CMPI (R254): Compare a register with an immediate and write a private bit. -/
def execCmpi (c : Nat) (cond : Nat) (bd : Nat) (ra : Nat) (imm9 : Nat) (s : State) : Host.Outcome State Fault Refusal
    :=
  .next (s.whenRuns fun s => s.issueCmp c cond (fun f => .cmpi f bd ra imm9))

/-- BSET (R255): Set a private or spire-shared bit. -/
def execBset (c : Nat) (bit : Nat) (s : State) : Host.Outcome State Fault Refusal :=
  .next (s.whenRuns fun s => s.issueOp c (.bitop .bset bit))

/-- BCLR (R255): Clear a private or spire-shared bit. -/
def execBclr (c : Nat) (bit : Nat) (s : State) : Host.Outcome State Fault Refusal :=
  .next (s.whenRuns fun s => s.issueOp c (.bitop .bclr bit))

/-- BINV (R255): Invert a private or spire-shared bit. -/
def execBinv (c : Nat) (bit : Nat) (s : State) : Host.Outcome State Fault Refusal :=
  .next (s.whenRuns fun s => s.issueOp c (.bitop .binv bit))

/-- BAND (R256): bd = bd AND bs. -/
def execBand (c : Nat) (bd : Nat) (bs : Nat) (s : State) : Host.Outcome State Fault Refusal :=
  .next (s.whenRuns fun s => s.issueOp c (.blog .band bd bs))

/-- BOR (R256): bd = bd OR bs. -/
def execBor (c : Nat) (bd : Nat) (bs : Nat) (s : State) : Host.Outcome State Fault Refusal :=
  .next (s.whenRuns fun s => s.issueOp c (.blog .bor bd bs))

/-- BXOR (R256): bd = bd XOR bs. -/
def execBxor (c : Nat) (bd : Nat) (bs : Nat) (s : State) : Host.Outcome State Fault Refusal :=
  .next (s.whenRuns fun s => s.issueOp c (.blog .bxor bd bs))

/-- BANDN (R256): bd = bd AND NOT bs. -/
def execBandn (c : Nat) (bd : Nat) (bs : Nat) (s : State) : Host.Outcome State Fault Refusal :=
  .next (s.whenRuns fun s => s.issueOp c (.blog .bandn bd bs))

/-- BFR (R257): Read a field of the bit space into rd. -/
def execBfr (c : Nat) (rd : Nat) (len : Nat) (bit : Nat) (s : State) : Host.Outcome State Fault Refusal :=
  .next (s.whenRuns fun s => s.issueOp c (.bfr rd len bit))

/-- TAS (R258): Test-and-set a spire-shared bit. -/
def execTas (c : Nat) (rd : Nat) (off : Nat) (s : State) : Host.Outcome State Fault Refusal :=
  .next (s.whenRuns fun s => s.issueOp c (.atom true rd off))

/-- TAC (R258): Test-and-clear a spire-shared bit. -/
def execTac (c : Nat) (rd : Nat) (off : Nat) (s : State) : Host.Outcome State Fault Refusal :=
  .next (s.whenRuns fun s => s.issueOp c (.atom false rd off))

/-- LD_B (R259): Load a sign-extended byte. -/
def execLdB (c : Nat) (rd : Nat) (ra : Nat) (imm16 : Nat) (s : State) : Host.Outcome State Fault Refusal :=
  .next (s.whenRuns fun s => s.issueOp c (.load .b rd ra imm16))

/-- LD_BU (R259): Load a zero-extended byte. -/
def execLdBu (c : Nat) (rd : Nat) (ra : Nat) (imm16 : Nat) (s : State) : Host.Outcome State Fault Refusal :=
  .next (s.whenRuns fun s => s.issueOp c (.load .bu rd ra imm16))

/-- LD_H (R259): Load a sign-extended halfword. -/
def execLdH (c : Nat) (rd : Nat) (ra : Nat) (imm16 : Nat) (s : State) : Host.Outcome State Fault Refusal :=
  .next (s.whenRuns fun s => s.issueOp c (.load .h rd ra imm16))

/-- LD_HU (R259): Load a zero-extended halfword. -/
def execLdHu (c : Nat) (rd : Nat) (ra : Nat) (imm16 : Nat) (s : State) : Host.Outcome State Fault Refusal :=
  .next (s.whenRuns fun s => s.issueOp c (.load .hu rd ra imm16))

/-- LD_W (R259): Load a word. -/
def execLdW (c : Nat) (rd : Nat) (ra : Nat) (imm16 : Nat) (s : State) : Host.Outcome State Fault Refusal :=
  .next (s.whenRuns fun s => s.issueOp c (.load .w rd ra imm16))

/-- LD_D (R259): Load a doubleword into a register pair. -/
def execLdD (c : Nat) (rd : Nat) (ra : Nat) (imm16 : Nat) (s : State) : Host.Outcome State Fault Refusal :=
  .next (s.whenRuns fun s => s.issueOp c (.load .d rd ra imm16))

/-- ST_B (R259): Store a byte. -/
def execStB (c : Nat) (rd : Nat) (ra : Nat) (imm16 : Nat) (s : State) : Host.Outcome State Fault Refusal :=
  .next (s.whenRuns fun s => s.issueOp c (.store .b rd ra imm16))

/-- ST_H (R259): Store a halfword. -/
def execStH (c : Nat) (rd : Nat) (ra : Nat) (imm16 : Nat) (s : State) : Host.Outcome State Fault Refusal :=
  .next (s.whenRuns fun s => s.issueOp c (.store .h rd ra imm16))

/-- ST_W (R259): Store a word. -/
def execStW (c : Nat) (rd : Nat) (ra : Nat) (imm16 : Nat) (s : State) : Host.Outcome State Fault Refusal :=
  .next (s.whenRuns fun s => s.issueOp c (.store .w rd ra imm16))

/-- ST_D (R259): Store a doubleword from a register pair. -/
def execStD (c : Nat) (rd : Nat) (ra : Nat) (imm16 : Nat) (s : State) : Host.Outcome State Fault Refusal :=
  .next (s.whenRuns fun s => s.issueOp c (.store .d rd ra imm16))

/-- LUT (R264): Table look-up by index. -/
def execLut (c : Nat) (rd : Nat) (ra : Nat) (rb : Nat) (s : State) : Host.Outcome State Fault Refusal :=
  .next (s.whenRuns fun s => s.issueOp c (.lut rd ra rb))

/-- LUTI (R264): Interpolated table look-up. -/
def execLuti (c : Nat) (rd : Nat) (ra : Nat) (rb : Nat) (s : State) : Host.Outcome State Fault Refusal :=
  .next (s.whenRuns fun s => s.issueOp c (.luti rd ra rb))

/-- CTLUT (R265): Constant-time table look-up over every line. -/
def execCtlut (c : Nat) (rd : Nat) (ra : Nat) (rb : Nat) (n : Nat) (w : Nat) (sign : Bool) (s : State) : Host.Outcome
    State Fault Refusal :=
  .next (s.whenRuns fun s => s.issueOp c (.ctlut rd ra rb n w sign))

/-- J (R261): Jump to an absolute target. -/
def execJ (c : Nat) (target : Nat) (s : State) : Host.Outcome State Fault Refusal :=
  .next (s.whenRuns fun s => s.issueOp c (.j target))

/-- JAL (R261): Jump and link. -/
def execJal (c : Nat) (rd : Nat) (target : Nat) (s : State) : Host.Outcome State Fault Refusal :=
  .next (s.whenRuns fun s => s.issueOp c (.jal rd target))

/-- JR (R261): Jump to a register target. -/
def execJr (c : Nat) (ra : Nat) (s : State) : Host.Outcome State Fault Refusal :=
  .next (s.whenRuns fun s => s.issueOp c (.jr ra))

/-- JALR (R261): Jump to a register target and link. -/
def execJalr (c : Nat) (rd : Nat) (ra : Nat) (s : State) : Host.Outcome State Fault Refusal :=
  .next (s.whenRuns fun s => s.issueOp c (.jalr rd ra))

/-- BT (R261): Branch if a private bit is 1. -/
def execBt (c : Nat) (bs : Nat) (target : Nat) (s : State) : Host.Outcome State Fault Refusal :=
  .next (s.whenRuns fun s => s.issueOp c (.bt bs target))

/-- BF (R261): Branch if a private bit is 0. -/
def execBf (c : Nat) (bs : Nat) (target : Nat) (s : State) : Host.Outcome State Fault Refusal :=
  .next (s.whenRuns fun s => s.issueOp c (.bf bs target))

/-- BZ (R261): Branch if ra is zero. -/
def execBz (c : Nat) (ra : Nat) (target : Nat) (s : State) : Host.Outcome State Fault Refusal :=
  .next (s.whenRuns fun s => s.issueOp c (.bz ra target))

/-- BNZ (R261): Branch if ra is non-zero. -/
def execBnz (c : Nat) (ra : Nat) (target : Nat) (s : State) : Host.Outcome State Fault Refusal :=
  .next (s.whenRuns fun s => s.issueOp c (.bnz ra target))

/-- LOOP (R262): Start a hardware loop with an immediate count. -/
def execLoop (c : Nat) (l : Nat) (le : Nat) (count : Nat) (s : State) : Host.Outcome State Fault Refusal :=
  .next (s.whenRuns fun s => s.issueOp c (.loop l le count))

/-- LOOPR (R262): Start a hardware loop with a register count. -/
def execLoopr (c : Nat) (l : Nat) (le : Nat) (ra : Nat) (s : State) : Host.Outcome State Fault Refusal :=
  .next (s.whenRuns fun s => s.issueOp c (.loopr l le ra))

/-- MFLB (R262): Read a loop's lb. -/
def execMflb (c : Nat) (l : Nat) (rd : Nat) (s : State) : Host.Outcome State Fault Refusal :=
  .next (s.whenRuns fun s => s.issueOp c (.mflb l rd))

/-- MFLE (R262): Read a loop's le. -/
def execMfle (c : Nat) (l : Nat) (rd : Nat) (s : State) : Host.Outcome State Fault Refusal :=
  .next (s.whenRuns fun s => s.issueOp c (.mfle l rd))

/-- MFLC (R262): Read a loop's lc. -/
def execMflc (c : Nat) (l : Nat) (rd : Nat) (s : State) : Host.Outcome State Fault Refusal :=
  .next (s.whenRuns fun s => s.issueOp c (.mflc l rd))

/-- MTLC (R262): Write a loop's lc. -/
def execMtlc (c : Nat) (l : Nat) (ra : Nat) (s : State) : Host.Outcome State Fault Refusal :=
  .next (s.whenRuns fun s => s.issueOp c (.mtlc l ra))

/-- SUBMIT (R266): Submit a descriptor to an engine pool or the mover under a ticket. -/
def execSubmit (c : Nat) (pool : Nat) (ticket : Nat) (ra : Nat) (s : State) : Host.Outcome State Fault Refusal :=
  .next (s.whenRuns fun s => s.issueOp c (.submit pool ticket ra))

/-- NOP (R269): No operation. -/
def execNop (c : Nat) (s : State) : Host.Outcome State Fault Refusal :=
  .next (s.whenRuns fun s => s.issueOp c .nop)

/-- TRAP (R269): Raise exception TRAP with a number. -/
def execTrap (c : Nat) (n : Nat) (s : State) : Host.Outcome State Fault Refusal :=
  .next (s.whenRuns fun s => s.issueOp c (.trap n))

/-- CX (R271): Run a custom instruction's microwords from the decode table. -/
def execCx (c : Nat) (n : Nat) (rd : Nat) (ra : Nat) (rb : Nat) (imm7 : Nat) (s : State) : Host.Outcome State Fault
    Refusal :=
  .next (s.whenRuns fun s => s.issueOp c (.cx n rd ra rb imm7))

/-- ILLEGAL (R242): A core issues an undefined instruction word, including 0x0000_0000, and raises exception ILLEGAL.
-/
def execIllegal (c : Nat) (s : State) : Host.Outcome State Fault Refusal :=
  .next (s.whenRuns fun s => s.illegal c)

end Sys2Proof.Machine
end

