-- ==== Sys2Proof/Machine/CmdEngine.lean ====
section
/-!
DEFINITION. What the commands do: the symmetric and digest pools and the key unit.
-/

namespace Sys2Proof.Machine

/-- ENGINE_DISPATCH (R342): A free SYM or DIG engine takes the earliest waiting command and checks it. -/
def execEngineDispatch (pool : Nat) (e : Nat) (s : State) : Host.Outcome State Fault Refusal :=
  .next (s.whenRuns fun s => s.dispatch pool e)

/-- SYM_YIELD (R343): An engine running a BEST command yields at an ETU boundary to a waiting PROMISED command. Engines 0 to 31
are those of the SYM pool, 32 to 63 those of the DIG pool. -/
def execSymYield (e : Nat) (s : State) : Host.Outcome State Fault Refusal :=
  .next (s.whenRuns fun s => s.yield (e / 32) (e % 32))

/-- SYM_COMMAND_END (R345): A SYM command ends and writes its status word and ticket flags. -/
def execSymCommandEnd (e : Nat) (s : State) : Host.Outcome State Fault Refusal :=
  .next (s.whenRuns fun s => (s.symEnd e).afterCmd (s.onEngine 0 e))

/-- DIG_COMMAND_END (R345): A DIG command ends and writes its status word and ticket flags. -/
def execDigCommandEnd (e : Nat) (s : State) : Host.Outcome State Fault Refusal :=
  .next (s.whenRuns fun s => s.digEnd e)

/-- AES_ECB_ENC (R360): AES ECB encryption. -/
def execAesEcbEnc (e : Nat) (s : State) : Host.Outcome State Fault Refusal :=
  .next (s.whenRuns fun s => s.symDo e (.ecb false) (fun s r => s.symEcb r false))

/-- AES_ECB_DEC (R360): AES ECB decryption. -/
def execAesEcbDec (e : Nat) (s : State) : Host.Outcome State Fault Refusal :=
  .next (s.whenRuns fun s => s.symDo e (.ecb true) (fun s r => s.symEcb r true))

/-- AES_CBC_ENC (R360): AES CBC encryption. -/
def execAesCbcEnc (e : Nat) (s : State) : Host.Outcome State Fault Refusal :=
  .next (s.whenRuns fun s => s.symDo e (.cbc false) (fun s r => s.symCbc r false))

/-- AES_CBC_DEC (R360): AES CBC decryption. -/
def execAesCbcDec (e : Nat) (s : State) : Host.Outcome State Fault Refusal :=
  .next (s.whenRuns fun s => s.symDo e (.cbc true) (fun s r => s.symCbc r true))

/-- AES_CTR (R360): AES CTR mode. -/
def execAesCtr (e : Nat) (s : State) : Host.Outcome State Fault Refusal :=
  .next (s.whenRuns fun s => s.symDo e .ctr (fun s r => s.symCtr r))

/-- AES_GCM_ENC (R360): AES GCM encryption with tag. -/
def execAesGcmEnc (e : Nat) (s : State) : Host.Outcome State Fault Refusal :=
  .next (s.whenRuns fun s => s.symDo e (.gcm false) (fun s r => s.symGcmEnc r))

/-- AES_GCM_DEC (R360): AES GCM decryption with tag check. -/
def execAesGcmDec (e : Nat) (s : State) : Host.Outcome State Fault Refusal :=
  .next (s.whenRuns fun s => s.symDo e (.gcm true) (fun s r => s.symGcmDec r))

/-- AES_CMAC_GEN (R360): AES CMAC generation. -/
def execAesCmacGen (e : Nat) (s : State) : Host.Outcome State Fault Refusal :=
  .next (s.whenRuns fun s => s.symDo e (.cmac false) (fun s r => s.symCmac r false))

/-- AES_CMAC_VER (R360): AES CMAC verification. -/
def execAesCmacVer (e : Nat) (s : State) : Host.Outcome State Fault Refusal :=
  .next (s.whenRuns fun s => s.symDo e (.cmac true) (fun s r => s.symCmac r true))

/-- TDES_ECB_ENC (R360): TDES ECB encryption. -/
def execTdesEcbEnc (e : Nat) (s : State) : Host.Outcome State Fault Refusal :=
  .next (s.whenRuns fun s => s.symDo e (.tecb false) (fun s r => s.symEcb r false))

/-- TDES_ECB_DEC (R360): TDES ECB decryption. -/
def execTdesEcbDec (e : Nat) (s : State) : Host.Outcome State Fault Refusal :=
  .next (s.whenRuns fun s => s.symDo e (.tecb true) (fun s r => s.symEcb r true))

/-- TDES_CBC_ENC (R360): TDES CBC encryption. -/
def execTdesCbcEnc (e : Nat) (s : State) : Host.Outcome State Fault Refusal :=
  .next (s.whenRuns fun s => s.symDo e (.tcbc false) (fun s r => s.symCbc r false))

/-- TDES_CBC_DEC (R360): TDES CBC decryption. -/
def execTdesCbcDec (e : Nat) (s : State) : Host.Outcome State Fault Refusal :=
  .next (s.whenRuns fun s => s.symDo e (.tcbc true) (fun s r => s.symCbc r true))

/-- TDES_MAC_GEN (R360): ISO 9797-1 MAC generation. -/
def execTdesMacGen (e : Nat) (s : State) : Host.Outcome State Fault Refusal :=
  .next (s.whenRuns fun s => s.symDo e (.tmac false) (fun s r => s.symTmac r false))

/-- TDES_MAC_VER (R360): ISO 9797-1 MAC verification. -/
def execTdesMacVer (e : Nat) (s : State) : Host.Outcome State Fault Refusal :=
  .next (s.whenRuns fun s => s.symDo e (.tmac true) (fun s r => s.symTmac r true))

/-- FF1_ENC (R360): FF1 radix-10 encryption. -/
def execFf1Enc (e : Nat) (s : State) : Host.Outcome State Fault Refusal :=
  .next (s.whenRuns fun s => s.symDo e (.ff1 false) (fun s r => s.symFf1 r false))

/-- FF1_DEC (R360): FF1 radix-10 decryption. -/
def execFf1Dec (e : Nat) (s : State) : Host.Outcome State Fault Refusal :=
  .next (s.whenRuns fun s => s.symDo e (.ff1 true) (fun s r => s.symFf1 r true))

/-- PIN_TRANSLATE (R366): Translate a PIN block between keys and formats. -/
def execPinTranslate (e : Nat) (s : State) : Host.Outcome State Fault Refusal :=
  .next (s.whenRuns fun s => s.symDo e .pinTranslate (fun s r => s.symPinTranslate r))

/-- PVF_VERIFY (R366): Verify a PIN against a reference PVF. -/
def execPvfVerify (e : Nat) (s : State) : Host.Outcome State Fault Refusal :=
  .next (s.whenRuns fun s => s.symDo e .pvfVerify (fun s r => s.symPvf r true))

/-- PVF_GENERATE (R366): Generate the PVF of a PIN. -/
def execPvfGenerate (e : Nat) (s : State) : Host.Outcome State Fault Refusal :=
  .next (s.whenRuns fun s => s.symDo e .pvfGenerate (fun s r => s.symPvf r false))

/-- ARQC_VERIFY (R366): Verify an EMV ARQC and optionally generate an ARPC. -/
def execArqcVerify (e : Nat) (s : State) : Host.Outcome State Fault Refusal :=
  .next (s.whenRuns fun s => s.symDo e .arqcVerify (fun s r => s.symArqc r))

/-- ARPC_GENERATE (R366): Generate an EMV ARPC. -/
def execArpcGenerate (e : Nat) (s : State) : Host.Outcome State Fault Refusal :=
  .next (s.whenRuns fun s => s.symDo e .arpcGenerate (fun s r => s.symArpc r))

/-- DUKPT_PIN (R366): Translate a PIN block from a DUKPT-derived key. -/
def execDukptPin (e : Nat) (s : State) : Host.Outcome State Fault Refusal :=
  .next (s.whenRuns fun s => s.symDo e .dukptPin (fun s r => s.symDukptPin r))

/-- DUKPT_MAC_VER (R366): Verify a CMAC under a DUKPT-derived key. -/
def execDukptMacVer (e : Nat) (s : State) : Host.Outcome State Fault Refusal :=
  .next (s.whenRuns fun s => s.symDo e .dukptMac (fun s r => s.symDukptMac r))

/-- DUKPT_DEC (R366): Decrypt under a DUKPT-derived key. -/
def execDukptDec (e : Nat) (s : State) : Host.Outcome State Fault Refusal :=
  .next (s.whenRuns fun s => s.symDo e .dukptDec (fun s r => s.symDukptDec r))

/-- KB_IMPORT (R367): Import an X9.143 key block as a table entry. -/
def execKbImport (e : Nat) (s : State) : Host.Outcome State Fault Refusal :=
  .next (s.whenRuns fun s => s.symDo e .kbImport (fun s r => s.symKbImport r))

/-- KB_EXPORT (R367): Export an exportable key as an X9.143 key block. -/
def execKbExport (e : Nat) (s : State) : Host.Outcome State Fault Refusal :=
  .next (s.whenRuns fun s => s.symDo e .kbExport (fun s r => s.symKbExport r))

/-- HASH (R369): Compute a SHA-2 digest. -/
def execHash (e : Nat) (s : State) : Host.Outcome State Fault Refusal :=
  .next (s.whenRuns fun s => s.digDo e 1 (fun s r => s.digHash r))

/-- HMAC (R369): Compute an HMAC. -/
def execHmac (e : Nat) (s : State) : Host.Outcome State Fault Refusal :=
  .next (s.whenRuns fun s => s.digDo e 2 (fun s r => s.digHmac r))

/-- HMAC_VERIFY (R369): Verify an HMAC in constant time. -/
def execHmacVerify (e : Nat) (s : State) : Host.Outcome State Fault Refusal :=
  .next (s.whenRuns fun s => s.digDo e 3 (fun s r => s.digHmacVerify r))

/-- DIG_INIT (R370): Write a fresh ACTIVE digest context. -/
def execDigInit (e : Nat) (s : State) : Host.Outcome State Fault Refusal :=
  .next (s.whenRuns fun s => s.digDo e 4 (fun s r => s.digInit r))

/-- DIG_UPDATE (R370): Add input to a digest context. -/
def execDigUpdate (e : Nat) (s : State) : Host.Outcome State Fault Refusal :=
  .next (s.whenRuns fun s => s.digDo e 5 (fun s r => s.digMore r false))

/-- DIG_FINAL (R370): Finish a digest context and write the digest. -/
def execDigFinal (e : Nat) (s : State) : Host.Outcome State Fault Refusal :=
  .next (s.whenRuns fun s => s.digDo e 6 (fun s r => s.digMore r true))

/-- INSTALL (R354): The KEY unit installs a table entry at an invalid index. -/
def execInstall (index : Nat) (s : State) : Host.Outcome State Fault Refusal :=
  .next (s.whenKeep fun s => s.keyInst 1 (index % 2 ^ 24))

/-- REPLACE (R354): The KEY unit replaces a valid, unpinned table entry. -/
def execReplace (index : Nat) (s : State) : Host.Outcome State Fault Refusal :=
  .next (s.whenKeep fun s => s.keyInst 2 (index % 2 ^ 24))

/-- REMOVE (R354): The KEY unit removes a valid, unpinned table entry. -/
def execRemove (index : Nat) (s : State) : Host.Outcome State Fault Refusal :=
  .next (s.whenKeep fun s => s.keyInst 3 (index % 2 ^ 24))

/-- KEY_INST_DONE (R354): An install command ends with the directory updated or a failure code. -/
def execKeyInstDone (s : State) : Host.Outcome State Fault Refusal :=
  .next (s.whenRuns fun s => s.instDone)

/-- PIN (R357): KEY_PIN_CMD PIN sets a slot's pin flag, starting a miss if needed. -/
def execPin (index : Nat) (s : State) : Host.Outcome State Fault Refusal :=
  .next (s.whenKeep fun s => s.pin (index % 2 ^ 24))

/-- UNPIN (R357): KEY_PIN_CMD UNPIN clears a slot's pin flag. -/
def execUnpin (index : Nat) (s : State) : Host.Outcome State Fault Refusal :=
  .next (s.whenKeep fun s => s.unpin (index % 2 ^ 24))

/-- KEY_FETCH (R356): A fetch lane starts its interval, reading and unwrapping a key entry. -/
def execKeyFetch (k : Nat) (s : State) : Host.Outcome State Fault Refusal :=
  .next (s.whenRuns fun s => s.keyFetch k)

/-- KEY_FETCH_END (R356): A fetch ends with the slot READY or FAILED. -/
def execKeyFetchEnd (k : Nat) (s : State) : Host.Outcome State Fault Refusal :=
  .next (s.whenRuns fun s => s.keyFetchEnd k)

end Sys2Proof.Machine
end

