-- ==== Sys2Proof/Machine/CmdEntropy.lean ====
section
/-!
DEFINITION. What the commands do: the entropy unit.
-/

namespace Sys2Proof.Machine

/-- ENT_WINDOW_END (R415): A pair's 1,024-bit window is tested and conditioned or discarded. -/
def execEntWindowEnd (pair : Nat) (bits : List Byte) (s : State) : Host.Outcome State Fault Refusal :=
  .next (s.whenRuns fun s => s.windowEnd (pair % 8) bits)

/-- ENT_ESTIMATE_BLOCK (R417): An estimate block ends and ENT_BIAS and ENT_CORR are updated. -/
def execEntEstimateBlock (pair : Nat) (s : State) : Host.Outcome State Fault Refusal :=
  .next (s.whenRuns fun s => s.estimateEnd (pair % 8))

/-- RESEED_DUE_TIMER (R419): 100 ms since the last reseed makes a reseed due. -/
def execReseedDueTimer (s : State) : Host.Outcome State Fault Refusal :=
  .next (s.whenRuns fun s => s.reseedTimer)

/-- DRBG_RESEED (R424): The DRBG reseeds from two conditioned blocks, ending any starvation. -/
def execDrbgReseed (s : State) : Host.Outcome State Fault Refusal :=
  .next (s.whenRuns fun s => s.reseed)

/-- DRBG_SERVE (R423): The DRBG serves the next consumer request in order. -/
def execDrbgServe (s : State) : Host.Outcome State Fault Refusal :=
  .next (s.whenRuns fun s => s.serveRandom)

/-- ENT_RESEED (R419): ENT_CTRL.RESEED makes a reseed due. -/
def execEntReseed (s : State) : Host.Outcome State Fault Refusal :=
  .next (s.whenKeep fun s => s.reseedDue)

/-- ENT_REQ (R425): ENT_REQ_CMD.GO starts a keep request for random bytes. -/
def execEntReq (units : Nat) (s : State) : Host.Outcome State Fault Refusal :=
  .next (s.whenKeep fun s => s.entReq (units % 2 ^ 11))

/-- ENT_REQ_DONE (R425): The last line of a keep request is answered and the request ends. -/
def execEntReqDone (s : State) : Host.Outcome State Fault Refusal :=
  .next (s.whenRuns fun s => s.entReqDone)

/-- ENT_SEED_TIMEOUT (R421): SEEDED is not set within 50 ms and boot step 5 fails. -/
def execEntSeedTimeout (s : State) : Host.Outcome State Fault Refusal :=
  .next (s.whenOn fun s => s.seedTimeout)

/-- ENT_TEST_RAW (R427): In FACTORY, ENT_TEST MODE RAW delivers a pair's raw bits. -/
def execEntTestRaw (pair : Nat) (s : State) : Host.Outcome State Fault Refusal :=
  .next (s.whenKeep fun s => s.entTest 1 (pair % 8))

/-- ENT_TEST_PATTERN (R427): In FACTORY, ENT_TEST MODE PATTERN replaces conditioned blocks by a counter pattern. -/
def execEntTestPattern (pair : Nat) (s : State) : Host.Outcome State Fault Refusal :=
  .next (s.whenKeep fun s => s.entTest 2 (pair % 8))

/-- ENT_TEST_OFF (R427): ENT_TEST MODE 0 clears SEEDED and re-instantiates the DRBG. -/
def execEntTestOff (pair : Nat) (s : State) : Host.Outcome State Fault Refusal :=
  .next (s.whenKeep fun s => s.entTestOff (pair % 8))

end Sys2Proof.Machine
end

