-- ==== Sys2Proof/Machine/CmdFlash.lean ====
section
/-!
DEFINITION. What the commands do: the flash controller.
-/

namespace Sys2Proof.Machine

/-- RECOVER_DATA (R511): In RECOVERY the ROM programs MGT_DATA into the recovery twin, erasing a sector at its start.
-/
def execRecoverData (off : Nat) (s : State) : Host.Outcome State Fault Refusal :=
  .next (s.whenOn fun s => s.mgtOrder 7 off)

/-- PROGRAM (R499): FLC command PROGRAM blank-checks and programs a page or half. -/
def execProgram (half : Nat) (s : State) : Host.Outcome State Fault Refusal :=
  .next (s.whenKeep fun s => s.flcProgram (half % 4))

/-- ERASE (R500): FLC command ERASE erases a sector with ledger entries. -/
def execErase (s : State) : Host.Outcome State Fault Refusal :=
  .next (s.whenKeep fun s => s.flcErase)

/-- BLANK_CHECK (R500): FLC command BLANK_CHECK reads a sector raw. -/
def execBlankCheck (s : State) : Host.Outcome State Fault Refusal :=
  .next (s.whenKeep fun s => s.flcBlankCheck)

/-- SUSPEND (R503): FLC command SUSPEND suspends the running operation. -/
def execSuspend (s : State) : Host.Outcome State Fault Refusal :=
  .next (s.whenKeep fun s => s.flcSuspend)

/-- RESUME (R503): FLC command RESUME resumes an operation suspended by command. -/
def execResume (s : State) : Host.Outcome State Fault Refusal :=
  .next (s.whenKeep fun s => s.flcResume)

/-- SWAP (R510): FLC command SWAP writes a twin pointer record. -/
def execSwap (twin : Nat) (s : State) : Host.Outcome State Fault Refusal :=
  .next (s.whenKeep fun s => s.flcSwap (twin % 2))

/-- FLASH_PULSE_END (R504): A program or erase pulse and its verify end, completing the operation or failing at its
limit. -/
def execFlashPulseEnd (verified : Bool) (s : State) : Host.Outcome State Fault Refusal :=
  .next (s.whenRuns fun s => s.flcPulse verified)

/-- BLANK_CHECK_END (R500): A blank check ends with OK or FL_NOT_BLANK. -/
def execBlankCheckEnd (s : State) : Host.Outcome State Fault Refusal :=
  .next (s.whenRuns fun s => s.flcBlankEnd)

/-- HOLDOFF_EXPIRY (R503): HOLDOFF_US passes with no read and the auto-suspended operation resumes. -/
def execHoldoffExpiry (s : State) : Host.Outcome State Fault Refusal :=
  .next (s.whenRuns fun s => s.flcHoldoff)

/-- INFO_RECORD_WRITE (R494): The FLC writes an information-area record with its commit word when no keep operation
runs. -/
def execInfoRecordWrite (s : State) : Host.Outcome State Fault Refusal :=
  .next (s.whenRuns fun s => s.infoWrite)

/-- LEDGER_COMPACTION (R507): The FLC writes a ledger snapshot into the other half and erases the full half. -/
def execLedgerCompaction (s : State) : Host.Outcome State Fault Refusal :=
  .next (s.whenRuns fun s => s.ledgerCompact)

end Sys2Proof.Machine
end

