-- ==== Sys2Proof/Machine/Jobs.lean ====
section
/-!
DEFINITION. Sys2Proof/Machine/Jobs.lean: the job scheduler (spec/06_jobs_promises.md R168 to R195, spec/07_core_execution.md
R236, R238): a request's checks, the promise and the admission test, starting, preempting and resuming jobs, and the
completion as it leaves; commands JOB_REQUEST to COMPLETION_TX.
-/

namespace Sys2Proof.Machine

/-! ### The request (R169, R176, R177) -/

/-- A JOB_REQUEST as it parses (R169). -/
structure JobReq where
  cls : Nat
  handler : Nat
  jobnum : Nat
  deadline : Nat
  regions : Nat
  keys : List Nat
  payload : List Byte
  deriving DecidableEq, Repr

/-- Parse a JOB_REQUEST; none where it is MALFORMED (R176, check 1). -/
def jobParse (b : List Byte) : Option JobReq :=
  let n := fld b 0x18 1
  let kb := roundUp (4 * n) 8
  let len := fld b 0x0C 4
  let keys := (List.range n).map (fun i => fld b (32 + 4 * i) 4)
  if 32 ≤ b.length ∧ fld b 0 1 = 0x10 ∧ b.length = 32 + kb + len ∧ fld b 1 1 ≤ 1 ∧ allZero (sliceB b 0x19 7)
      ∧ allZero (sliceB b (32 + 4 * n) (kb - 4 * n)) ∧ keys.all (· < 2 ^ 24) ∧ (fld b 1 1 = 0 ∨ fld b 8 4 = 0) then
    some { cls := fld b 1 1, handler := fld b 2 2, jobnum := fld b 4 4, deadline := fld b 8 4, regions := fld b 0x10 8, keys := keys
           payload := b.drop (32 + kb) }
  else none

/-- A handler of a content. -/
def Content.handler (c : Content) (id : Nat) : Option Handler := c.handlers.find? (fun h => h.id == id)

/-- Jobs of a session in flight have a job number (R174). -/
def State.jobDup (s : State) (sid n : Nat) : Bool := s.jsc.jobs.any (fun j => j.session == sid && j.jobnum == n)

/-- The handler's PAYLOAD_MAX as condition 4 takes it (R294). -/
def State.payloadMax (s : State) (d : Nat) (h : Handler) : Nat :=
  min h.payloadMax (max 512 (s.get (R.MMU_PAYLOAD_V_SLOT d) * 4096))

/-- The policy condition a request meets first (R177), or the handler that will run it. Where several hold at once, the lowest
number is the one that DETAIL gives (DESIGN CHOICE, log 15: R177 gives them no order), but 7 before 6, as R572 has it. -/
def State.jobPolicy (s : State) (c : Ses) (r : JobReq) : Nat ⊕ Handler :=
  let st := s.get (R.STB_DOM_STATE_STATE c.dome)
  if (st ≠ 2 ∧ st ≠ 3) ∨ s.pwr.hold ∨ ¬ s.is R.JSC_STATUS_OPEN then .inl 1 else
  match (s.dome c.dome).content with
  | none => .inl 2
  | some ct =>
    match ct.handler r.handler with
    | none => .inl 2
    | some h =>
      if ¬ h.classes.testBit r.cls then .inl 2
      else if (ct.cls c.cls).isNone then .inl 3
      else if s.payloadMax c.dome h < r.payload.length ∨ h.keysMax < r.keys.length then .inl 4
      else if r.regions &&& h.regions ≠ r.regions then .inl 5
      else if r.keys ≠ [] ∧ ¬ s.is R.RST_ROOT_SRK_VALID then .inl 7
      else if r.keys.any (fun k => !s.dirHas k c.dome) then .inl 6
      else if r.cls = 0 ∧ s.is R.TIME_STATUS_UNSET then .inl 8
      else .inr h

/-- The regions a job uses (R178). -/
def JobReq.uses (r : JobReq) (h : Handler) : Nat := if r.regions = 0 then h.regions else r.regions

/-! ### The promise (R179, R180) -/

/-- The place term. -/
def placeTerm (n : Nat) : Rat := if n ≤ 512 then 100 else 100 + ((n + 63) / 64 * 64 : Nat) / (128 / 10 : Rat)

/-- The engine term: every pool in which the handler declares units. -/
def Handler.engTerm (h : Handler) (f : Rat) : Rat :=
  ([h.symU, h.digU, h.pkeU].filter (· != 0)).foldl (fun a u => a + ((u * 16 : Nat) / f + 1000)) 0

/-- Keys of a request that count in the k term: distinct and not pinned. -/
def State.coldKeys (s : State) (d : Nat) (keys : List Nat) : Nat := (keys.dedup.filter (fun k => !s.isPinned d k)).length

/-- The rate of the movers: 4.0 × (1 − spread) bytes per ns (R179, R183), with the spread of the core clock (DESIGN CHOICE, log 17:
R80 sets two spreads, of the core and the DDR clock, and writes one s). -/
def State.moverRate (s : State) : Rat := 4 * (1 - (s.get R.CLK_CORE_SPREAD : Rat) * (25 / 10000))

/-- The mode of a port in the NETWORK section in force. -/
def State.portMode (s : State) (p : Nat) : Nat := s.get (R.NET_PORT_MODE_MODE p)

/-- The line rate of a link, in bytes per ns. -/
def State.lineRate (s : State) (link : Nat) : Rat := if s.portMode (link / 4) = 1 ∨ s.portMode (link / 4) = 2 then 25 / 2 else 25 / 8

/-- The largest frame of a link on the wire, L (R459). -/
def State.frameMax (s : State) (link : Nat) : Nat :=
  s.get R.NET_UDP_MTU + 38 + (match s.linkEntry link with | some e => if leTag e then 4 else 0 | none => 0)

/-- A dome's egress rate on a port (R179). -/
def State.egressRate (s : State) (d port : Nat) : Rat :=
  match (s.dome d).allot with
  | none => 0
  | some a =>
    let own := (setBits 4 (a.lanes / 2 ^ (4 * port))).length
    if own = 0 then (a.sharedBw : Rat) / 8000 else (own : Rat) * (25 / 8)

/-- The terms a promise has on every core: place, h, pre, e, m and k, and then g. -/
structure Terms where
  fixed : Rat
  g : Rat

/-- The terms of a request. -/
def State.terms (s : State) (c : Ses) (r : JobReq) (h : Handler) : Terms :=
  let f := s.clockF
  { fixed := placeTerm r.payload.length + (h.wcet : Rat) / f + 160 / f + h.engTerm f + (h.moverBytes : Rat) / s.moverRate
      + (800 * s.coldKeys c.dome r.keys : Nat)
    g := 400 + (s.frameMax c.peer.link : Rat) / s.lineRate c.peer.link + (h.egressBytes : Rat) / s.egressRate c.dome (c.peer.link / 4) }

/-! ### The admission test (R183, R184) -/

/-- A resource the demand test charges: its rate, what the new job needs, and what each admitted job holds with its
promise. -/
structure Demand where
  rate : Rat
  need : Nat
  held : List (Nat × Nat)

/-- A resource can carry the new job with promise `p` (R183). -/
def Demand.fits (r : Demand) (t p : Rat) : Bool :=
  (p :: (r.held.filter (fun e => decide (p < (e.2 : Rat)))).map (fun e => (e.2 : Rat))).all (fun d =>
    let load := ((r.held.filter (fun e => decide ((e.2 : Rat) ≤ d))).map (·.1)).foldl (· + ·) r.need
    decide ((load : Rat) ≤ r.rate * (d - t)))

/-- What PROMISED jobs in flight hold of a resource. -/
def State.heldBy (s : State) (p : Job → Bool) (amount : Job → Nat) : List (Nat × Nat) :=
  ((s.jsc.jobs.filter (fun j => j.cls == 0 && p j)).map (fun j => (amount j, j.promise))).filter (fun e => e.1 != 0)

/-- The resources a job of a dome uses on spire `p`: the pools in which it has units, the mover, and the egress of its
dome on its port. -/
def State.demands (s : State) (c : Ses) (h : Handler) (p : Nat) : List Demand :=
  let d := c.dome
  let port := c.peer.link / 4
  let share (f : Allot → Nat) : Rat := match (s.dome d).allot with | some a => (f a : Rat) / 1000 | none => 0
  let mine (j : Job) : Bool := j.live && j.dome == d
  (if h.symU = 0 then [] else [{ rate := share (·.symShare), need := h.symU, held := s.heldBy mine (·.h.symU) }])
    ++ (if h.digU = 0 then [] else [{ rate := share (·.digShare), need := h.digU, held := s.heldBy mine (·.h.digU) }])
    ++ (if h.pkeU = 0 then [] else [{ rate := share (·.pkeShare), need := h.pkeU, held := s.heldBy mine (·.h.pkeU) }])
    ++ (if h.moverBytes = 0 then [] else
        [{ rate := s.moverRate, need := h.moverBytes
           held := s.heldBy (fun j => j.live && j.core.map (· / 16) == some p) (·.h.moverBytes) }])
    ++ [{ rate := s.egressRate d port, need := h.egressBytes
          held := s.heldBy (fun j => j.dome == d && j.link / 4 == port) (·.h.egressBytes) }]

/-- The spires of a handler that hold what a structure epoch loaded: its own, owned by the dome, not retired, and for the
dome's current epoch with no reload due (R162, R184); a draining epoch's jobs may still take one whose reload waits. -/
def State.holders (s : State) (d : Nat) (h : Handler) (e : Nat) : List Nat :=
  (List.range 32).filter (fun p => h.spires.testBit p && s.spireDome p == some d && !s.is (R.FCU_RETIRED_RETIRED p)
    && (s.spire p).loaded == some e
    && ((s.spire p).reload == .none || ((s.spire p).reload == .waiting && e != s.get (R.STB_DOM_STATE_EPOCH d))))

/-- The candidate spires of a handler (R184). -/
def State.candidates (s : State) (d : Nat) (h : Handler) : List Nat := s.holders d h (s.get (R.STB_DOM_STATE_EPOCH d))

/-- The best core so far and its exact promise. -/
abbrev Best := Option (Rat × Nat)

/-- Try a core (R184). -/
def State.tryCore (s : State) (t : Rat) (x : Terms) (wake : Rat) (dem : List Demand) (best : Best) (c : Nat) : Best :=
  let p := t + max 0 (tabGet 0 s.jsc.commit c - t) + wake + x.fixed + x.g
  if (match best with | none => true | some b => decide (p < b.1)) then
    if dem.all (fun d => d.fits t p) then some (p, c) else best
  else best

/-- Try the cores of a spire in ascending order. -/
def State.trySpire (s : State) (t : Rat) (x : Terms) (c : Ses) (h : Handler) (best : Best) (p : Nat) : Best :=
  let dem := s.demands c h p
  let wake : Rat := (s.wakeTerm p : Nat)
  ((List.range 16).map (fun k => 16 * p + k)).foldl (s.tryCore t x wake dem) best

/-- The core that gives the earliest promise (R184). -/
def State.bestCore (s : State) (t : Rat) (x : Terms) (c : Ses) (h : Handler) : Best :=
  (s.candidates c.dome h).foldl (s.trySpire t x c h) none

/-! ### Answers -/

/-- JOB_REFUSE (R172, R176): sent in the session, and counted. `k` is the index in JSC_REF. -/
def State.jobRefuse (s : State) (i code jobnum detail k : Nat) : State :=
  let s1 := (s.sesSendCur i 0x10 3 ([0x12, 0] ++ toLE 2 code ++ toLE 4 jobnum ++ toLE 4 detail ++ zeros 4)).next (R.JSC_REF_COUNT k)
  if code = 0x0104 then
    (if s.jsc.refJrn then s1 else (s1.setJsc { s1.jsc with refJrn := true }).cause R.JSC_EVENTS_CAUSE 80 83)
  else s1.setJsc { s1.jsc with refJrn := false }

/-- The next job ID (R175): 1 more than the last, skipping those in flight. -/
def nextId (jobs : List Job) (id : Nat) : Nat → Nat
  | 0 => id
  | n + 1 => if jobs.any (fun j => j.id == id) then nextId jobs ((id + 1) % 2 ^ 32) n else id

/-- The lowest free in-flight entry (R294). -/
def freeEntry (jobs : List Job) (k : Nat) : Nat → Nat
  | 0 => k
  | n + 1 => if jobs.any (fun j => j.entryK == k) then freeEntry jobs (k + 1) n else k

/-- Admit a job (R184): its ID, its entry, its journal positions (R196), and JOB_ACCEPT (R171). `core` and `promise` are
those of a PROMISED job; `slots` are the slots of the key cache it references now, and `kept` those of a BEST job by handle. -/
def State.jobAdmit (s : State) (i : Nat) (c : Ses) (r : JobReq) (h : Handler) (body : List Byte) (slots : List Nat)
    (kept : List (Nat × Nat)) (core : Option Nat) (promise : Nat) (commit : Rat) : State :=
  let jobs := s.jsc.jobs
  let id := nextId jobs ((s.get R.JSC_LASTID_ID + 1) % 2 ^ 32) jobs.length
  let epoch := s.get (R.STB_DOM_STATE_EPOCH c.dome)
  let big := 512 < r.payload.length
  let j : Job := {
    id := id, cls := r.cls, handler := r.handler, jobnum := r.jobnum, session := c.sid, sepoch := c.cur.epoch, link := c.peer.link
    fepoch := s.get R.FED_EPOCH_CURRENT, dome := c.dome, epoch := epoch, artEpoch := s.get R.ART_EPOCH_CURRENT, handles := r.keys
    slots := slots, kept := kept, regions := r.uses h, payloadLen := r.payload.length, payload := r.payload
    entryK := freeEntry jobs 0 jobs.length, placed := !big, core := core, tAdm := s.now, promise := promise, h := h
    commitWas := (match core with | some k => tabGet 0 s.jsc.commit k | none => 0), commitSet := commit, reqDigest := sha256 body }
  let s1 := s.setJsc { s.jsc with
    jobs := jobs ++ [j], refJrn := false
    commit := (match core with | some k => tabSet 0 s.jsc.commit k commit | none => s.jsc.commit) }
  let s2 := ((s1.set R.JSC_LASTID_ID id).next (if r.cls = 0 then R.JSC_ADM_P_COUNT else R.JSC_ADM_B_COUNT))
  let s3 := (s2.setJrn { s2.jrn with reserved := s2.jrn.reserved + 2 }).jrnFree
  let s4 := match core with | some k => s3.spireAssigned (k / 16) | none => s3
  s4.sesSendCur i 0x10 3 ([0x11, BitVec.ofNat 8 r.cls, 0, 0] ++ toLE 4 r.jobnum ++ toLE 4 id ++ toLE 2 epoch ++ [0, 0]
    ++ toLE 8 s.nowNs ++ toLE 8 promise)

/-- Admit a PROMISED job that has passed checks 1 to 5 and the counts of check 6 (R184, R355, R404). -/
def State.admitPromised (s : State) (i : Nat) (c : Ses) (r : JobReq) (h : Handler) (body : List Byte) : State :=
  let t := s.now
  let x := s.terms c r h
  let keys := s.acquireAll c.dome (s.get R.ART_EPOCH_CURRENT) (s.get R.FED_EPOCH_CURRENT) [] r.keys
  let can := (match keys with | some k => k.2.1 | none => false) && (h.pkeU == 0 || s.pkeAvailable)
  match (if can then s.bestCore t x c h else none), keys with
  | some (p, core), some (slots, _, s1) =>
    let promise := p.ceil.toNat
    let late := ((promise : Rat) - t).ceil.toNat
    if r.deadline ≠ 0 ∧ decide ((r.deadline : Rat) < (promise : Rat) - t) then
      s.jobRefuse i 0x0105 r.jobnum (min late 0xFFFFFFFF) 4
    else (s1.jobAdmit i c r h body slots [] (some core) promise (p - x.g)).pkeEvict
  | _, _ => s.jobRefuse i 0x0101 r.jobnum 4 0

/-- BEST jobs of a dome that wait at the JSC, in order of admission (R187). -/
def State.bestQueue (s : State) (d : Nat) : List Job :=
  s.jsc.jobs.filter (fun j => j.cls == 1 && j.st == .admitted && j.core.isNone && j.dome == d)

/-- The JSC decides a request (R176). Where several regions that a job uses are warming, DETAIL gives the lowest index
(DESIGN CHOICE, log 15: R176 does not say which). -/
def State.jobDecide (s : State) (i : Nat) (body : List Byte) : State :=
  let c := s.ctx i
  match jobParse body with
  | none => s.jobRefuse i 0x0001 (if 8 ≤ body.length then fld body 4 4 else 0) 0 6
  | some r =>
    if s.jobDup c.sid r.jobnum then s.jobRefuse i 0x0106 r.jobnum 0 5 else
    match s.jobPolicy c r with
    | .inl n => s.jobRefuse i 0x0103 r.jobnum n 2
    | .inr h =>
      match (if r.cls = 0 then (setBits 64 (r.uses h)).find? (fun n => s.warming c.dome n) else none) with
      | some n => s.jobRefuse i 0x0102 r.jobnum n 1
      | none =>
        if ¬ s.is R.JRN_STATUS_OPEN ∨ s.get R.JRN_FREE_POSITIONS < 2 then s.jobRefuse i 0x0104 r.jobnum 0 3
        else if 65536 ≤ s.jsc.jobs.length then s.jobRefuse i 0x0101 r.jobnum 1 0
        else if s.get (R.JSC_DOME_LIMIT_MAX c.dome) ≤ (s.jsc.jobs.filter (fun j => j.dome == c.dome)).length then
          s.jobRefuse i 0x0101 r.jobnum 2 0
        else if r.cls = 1 then
          (if s.get (R.JSC_BEST_MAX_MAX c.dome) ≤ (s.bestQueue c.dome).length then s.jobRefuse i 0x0101 r.jobnum 3 0
           else (let k := s.keepPinned c.dome r.keys; k.2.jobAdmit i c r h body (k.1.map (·.2)) k.1 none 0 0))
        else s.admitPromised i c r h body

/-- JOB_REQUEST (R169): the oldest application message received in a session of a dome other than the keep. -/
def State.jobRequest (s : State) : State :=
  match s.takeMsg (fun m => m.kind == 0x10 && (match m.ctx with | some i => (s.ctx i).dome != 0 | none => false)) with
  | none => s
  | some (m, s1) => (match m.ctx with | some i => s1.jobDecide i m.body | none => s1)

/-! ### Running (R186 to R188, R236, R238) -/

/-- Offset of a job's slot of the payload area (R294). -/
def State.payloadOff (s : State) (j : Job) : Nat := j.entryK * s.get (R.MMU_PAYLOAD_V_SLOT j.dome) * 4096

/-- PAYLOAD_PLACED (R186, R294): NET receive has written the oldest large payload to DDR. -/
def State.payloadPlaced (s : State) : State :=
  match s.jsc.jobs.find? (fun j => !j.placed && j.live) with
  | none => s
  | some j =>
    (s.wr { agent := 0x2A0, dom := j.dome, epoch := j.artEpoch } (s.get (R.MMU_PAYLOAD_P_PBASE j.dome) * 65536 + s.payloadOff j)
      j.payload).updJob j.id (fun k => { k with placed := true, payload := [] })

/-- Job `a` runs before `b`, admitted later, on their core (R186). -/
def Job.first (b : Option Job) (a : Job) : Option Job :=
  match b with
  | none => some a
  | some x => if a.promise < x.promise then some a else some x

/-- The PROMISED job of core `c` that has not started and comes first. -/
def State.firstJob (s : State) (c : Nat) : Option Job :=
  (s.jsc.jobs.filter (fun j => j.cls == 0 && j.st == .admitted && j.core == some c)).foldl Job.first none

/-- The ready PROMISED job of core `c` (R186). -/
def State.readyJob (s : State) (c : Nat) : Option Job :=
  (s.firstJob c).filter (fun j => j.placed && s.spireActive (c / 16))

/-- A job's handler begins on its core (R228). -/
def State.beginJob (s : State) (c : Nat) (j : Job) : State := s.enter c j (s.get (R.MMU_PAYLOAD_V_VBASE j.dome) * 65536 + s.payloadOff j)

/-- Preempt the BEST job that core `c` runs (R236): its state goes into the flight record. -/
def State.preempt (s : State) (c : Nat) (id : Nat) : State :=
  let k := s.core c
  (s.setCore c { k.freed with phase := .preempting, flight := k.record, flightJob := some id }).updJob id (fun j => { j with st := .preempted })

/-- JOB_START: core `c` begins its next ready PROMISED job; a BEST job that it runs is preempted first. -/
def State.jobStart (s : State) (c : Nat) : State :=
  if 512 ≤ c then s else
  match s.readyJob c with
  | none => s
  | some j =>
    let k := s.core c
    match k.job.bind s.job with
    | some b => if b.cls = 1 ∧ k.phase = .running then s.preempt c b.id else s
    | none =>
      if k.phase = .idle then s.beginJob c j
      else if k.phase = .resuming then s.setCore c { k with phase := .preempting }
      else s

/-- PREEMPTION_END (R236): cycle 160; the next ready PROMISED job enters, or the BEST job's resumption begins. -/
def State.preemptionEnd (s : State) (c : Nat) : State :=
  let k := s.core c
  if k.phase ≠ .preempting then s else
  match s.readyJob c with
  | some j => s.beginJob c j
  | none => s.setCore c { k with phase := if k.flightJob.isSome then .resuming else .idle }

/-- BEST_RESUME (R238): a preempted BEST job starts its resumption where no PROMISED job of its core is ready. -/
def State.bestResume (s : State) (c : Nat) : State :=
  let k := s.core c
  if k.phase = .idle ∧ k.job = none ∧ k.flightJob.isSome ∧ s.readyJob c = none then s.setCore c { k with phase := .resuming } else s

/-- BEST_RESUME_END (R238): the record is restored; a job whose awaited flag is still clear goes on waiting. -/
def State.bestResumeEnd (s : State) (c : Nat) : State :=
  let k := s.core c
  match k.phase, k.flightJob.bind s.job with
  | .resuming, some j =>
    (s.setCore c k.restore).updJob j.id (fun j =>
      match j.wait with
      | none => { j with st := .running }
      | some t =>
        if k.flag 1 t then { j with st := .running, wait := none, cycles := j.cycles + 4 }
        else { j with st := if j.tickets.any (fun x => x.1 == t && x.2 == 3) then .waitMover else .waitEngine })
  | _, _ => s

/-- A BEST job assigned to core `c`, RUNNING since its assignment (R190), whose handler has not begun. -/
def State.assigned (s : State) (c : Nat) : Option Job :=
  s.jsc.jobs.find? (fun j => j.cls == 1 && j.st == .running && j.core == some c && (s.core c).job != some j.id
    && (s.core c).flightJob != some j.id)

/-- A BEST job assigned to core `c` starts once its spire is ACTIVE, the core is free and no PROMISED job is ready. -/
def State.bestStart (s : State) (c : Nat) : State :=
  match s.assigned c with
  | none => s
  | some j =>
    let k := s.core c
    if k.phase = .idle ∧ k.job = none ∧ s.spireActive (c / 16) ∧ s.readyJob c = none ∧ j.placed then s.beginJob c j else s

/-- The head BEST job of a dome's queue, where core `c` can take it: its slots and the state with them (R187, R355). -/
def State.headFor (s : State) (c d : Nat) : Option (Job × List Nat × State) :=
  match s.bestQueue d with
  | [] => none
  | j :: _ =>
    if (s.holders d j.h j.epoch).contains (c / 16) then (s.acquireAll d j.artEpoch j.fepoch j.kept j.handles).map (fun r => (j, r.1, r.2.2)) else none

/-- BEST_ASSIGN (R187, R190): a core with no job running and no PROMISED job bound that has not started takes the head job of
the next dome in turn that has one for it; the job is RUNNING from here. -/
def State.bestAssign (s : State) (c : Nat) : State :=
  let k := s.core c
  if 512 ≤ c ∨ k.phase ≠ .idle ∨ k.job ≠ none ∨ k.flightJob ≠ none ∨ (s.firstJob c).isSome ∨ (s.assigned c).isSome then s.bestStart c else
  match ((List.range 64).map (fun n => (s.jsc.turn + n) % 64)).findSome? (fun d => s.headFor c d) with
  | none => s
  | some (j, slots, s1) =>
    let s2 := (s1.setJsc { s1.jsc with turn := (j.dome + 1) % 64 }).updJob j.id (fun j => { j with st := .running, core := some c, slots := slots })
    (s2.spireAssigned (c / 16)).bestStart c

/-- SPIRE_TRANSITION_END, after which BEST jobs assigned to the spire's cores may start (R96, R187). -/
def State.spireEnd (s : State) (p : Nat) : State :=
  ((List.range 16).map (fun k => 16 * p + k)).foldl State.bestStart (s.spireTransitionEnd p)

/-- CYCLE_BUDGET_EXPIRY (R189): the job of core `c` has spent WCET cycles in RUNNING. -/
def State.budgetExpiry (s : State) (c : Nat) : State :=
  match (s.core c).job.bind s.job with
  | some j => if j.st = .running ∧ j.h.wcet ≤ j.cycles then s.handlerFault j.id 1 else s
  | none => s

/-! ### Completions (R192, R193) -/

/-- A STATUS of R194. -/
def brokenCode (st : Nat) : Bool := 0x0110 ≤ st && st ≤ 0x0113

/-- A completion's first bit leaves: a promise may be missed, and the job leaves flight. -/
def State.sent (s : State) (j : Job) (t : Rat) : State :=
  let s1 := if j.cls = 0 ∧ ¬ brokenCode j.status ∧ (j.promise : Rat) < t then
      ((s.count R.JSC_MISSED_COUNT).cause R.JSC_EVENTS_CAUSE 80 82).report
        { source := 5, agent := j.core.getD 0, dome := j.dome, addr := j.id, spire := j.spire }
    else s
  s1.leaveFlight j t.floor.toNat

/-- COMPLETION_TX on link `k`: the next frame of the link is the first of a completion. -/
def State.completionTx (s : State) (k : Nat) : State :=
  if ¬ s.linkSends k then s else
  match s.txNext k with
  | none => s
  | some m =>
    match m.job.bind s.job with
    | some j =>
      if m.done ≠ 0 then s else
      let s1 := (s.txFrame k m).sent j s.now
      (match s1.findCtx m.sid k with | some i => s1.seqCheck i | none => s1)
    | none => s

end Sys2Proof.Machine
end

