-- ==== Sys2Proof/Machine/CmdJob.lean ====
section
/-!
DEFINITION. What the commands do: jobs, promises and the journal.
-/

namespace Sys2Proof.Machine

/-- JOB_REQUEST (R169): A JOB_REQUEST message is registered at the JSC and decided. -/
def execJobRequest (s : State) : Host.Outcome State Fault Refusal :=
  .next (s.whenRuns fun s => s.jobRequest)

/-- PAYLOAD_PLACED (R186): A large payload has been placed in DDR and the job may become ready. -/
def execPayloadPlaced (s : State) : Host.Outcome State Fault Refusal :=
  .next (s.whenRuns fun s => s.payloadPlaced)

/-- JOB_START (R186): A core begins the next ready PROMISED job bound to it. -/
def execJobStart (c : Nat) (s : State) : Host.Outcome State Fault Refusal :=
  .next (s.whenRuns fun s => s.jobStart c)

/-- PREEMPTION_END (R236): The preemption reaches cycle 160 and the next entry or resumption begins. -/
def execPreemptionEnd (c : Nat) (s : State) : Host.Outcome State Fault Refusal :=
  .next (s.whenRuns fun s => s.preemptionEnd c)

/-- BEST_ASSIGN (R187): The JSC assigns the head BEST job of a dome queue to a free core. -/
def execBestAssign (c : Nat) (s : State) : Host.Outcome State Fault Refusal :=
  .next (s.whenRuns fun s => s.bestAssign c)

/-- BEST_RESUME (R238): A preempted BEST job starts its 120-cycle resumption on its core. -/
def execBestResume (c : Nat) (s : State) : Host.Outcome State Fault Refusal :=
  .next (s.whenRuns fun s => s.bestResume c)

/-- BEST_RESUME_END (R238): The resumption ends and the BEST job issues from its saved state. -/
def execBestResumeEnd (c : Nat) (s : State) : Host.Outcome State Fault Refusal :=
  .next (s.whenRuns fun s => s.bestResumeEnd c)

/-- CYCLE_BUDGET_EXPIRY (R189): A job's RUNNING cycles reach WCET and it ends with HANDLER_FAULT reason 1. -/
def execCycleBudgetExpiry (c : Nat) (s : State) : Host.Outcome State Fault Refusal :=
  .next (s.whenRuns fun s => s.budgetExpiry c)

/-- COMPLETION_TX (R193): A completion's first bit leaves the MAC, T_TX is recorded and the job leaves flight. -/
def execCompletionTx (k : Nat) (s : State) : Host.Outcome State Fault Refusal :=
  .next (s.whenRuns fun s => s.completionTx k)

/-- JOURNAL_OPEN (R196): JRN_CTRL.OPEN opens the journal ring. -/
def execJournalOpen (s : State) : Host.Outcome State Fault Refusal :=
  .next (s.whenKeep fun s => s.jrnOpen)

/-- BLOCK_CLOSE (R199): A block closes at 64 records or after 1 µs and its BLOCK record extends the chain. -/
def execBlockClose (s : State) : Host.Outcome State Fault Refusal :=
  .next (s.whenRuns fun s => s.blockClose)

/-- JOURNAL_EXPORT (R202): A write of JRN_EXPORT frees positions up to the given SEQ, or sets BADEXP. -/
def execJournalExport (seq : Nat) (s : State) : Host.Outcome State Fault Refusal :=
  .next (s.whenKeep fun s => s.jrnExport (seq % 2 ^ 64))

/-- JOURNAL_SEAL (R201): Once the last job has left flight the JRN writes SEAL, closes the block and stores the seal
in bedrock. -/
def execJournalSeal (s : State) : Host.Outcome State Fault Refusal :=
  .next (s.whenOn fun s => s.journalSeal)

/-- SCRUB_FREEZE (R219): Every 1,024 spire cycles the core pipeline freezes for an instruction memory scrub. -/
def execScrubFreeze (p : Nat) (s : State) : Host.Outcome State Fault Refusal :=
  .next (s.whenRuns fun s => s.scrubFreeze p)

/-- WAITB (R224): Wait on a ticket's completion flag. -/
def execWaitb (c : Nat) (bit : Nat) (s : State) : Host.Outcome State Fault Refusal :=
  .next (s.whenRuns fun s => s.issueOp c (.waitb bit))

/-- EXIT (R232): End the job with an exit status and result length. -/
def execExit (c : Nat) (ra : Nat) (rb : Nat) (s : State) : Host.Outcome State Fault Refusal :=
  .next (s.whenRuns fun s => s.issueOp c (.exit ra rb))

end Sys2Proof.Machine
end

