-- ==== Sys2Proof/Machine/CmdMemory.lean ====
section
/-!
DEFINITION. What the commands do: memory, the MMU and the movers.
-/

namespace Sys2Proof.Machine

/-- PATROL_SCRUB (R287): The patrol scrub reads the next DDR line and writes back corrections. -/
def execPatrolScrub (cond : Nat) (s : State) : Host.Outcome State Fault Refusal :=
  .next (s.whenRuns fun s => s.scrubStep cond)

/-- RECOLOUR_CLEAR (R288): MEMC_RECOLOUR with MODE CLEAR rekeys a colour and starts a zeroing sweep. -/
def execRecolourClear (colour : Nat) (s : State) : Host.Outcome State Fault Refusal :=
  .next (s.whenKeep fun s => s.recolour (colour % 64) false)

/-- RECOLOUR_REENCRYPT (R288): MEMC_RECOLOUR with MODE REENCRYPT rekeys a colour and starts a re-encrypting sweep. -/
def execRecolourReencrypt (colour : Nat) (s : State) : Host.Outcome State Fault Refusal :=
  .next (s.whenKeep fun s => s.recolour (colour % 64) true)

/-- SWEEP_LINE (R289): The sweep rewrites the line under its pointer in the new generation. -/
def execSweepLine (cond : Nat) (s : State) : Host.Outcome State Fault Refusal :=
  .next (s.whenRuns fun s => s.sweepStep cond)

/-- MMU_TDATA_WRITE (R292): A write of MMU_TDATA changes a table entry and the SEALED ABSENT counts. -/
def execMmuTdataWrite (value : Nat) (s : State) : Host.Outcome State Fault Refusal :=
  .next (s.whenKeep fun s => s.tdataWrite value)

/-- MOVER_GRANULE (R295): A mover channel translates and moves one granule of a descriptor. -/
def execMoverGranule (p : Nat) (ch : Nat) (s : State) : Host.Outcome State Fault Refusal :=
  .next (s.whenRuns fun s => s.moverGranule p ch)

/-- MMU_REQ_APPEND (R296): A waiting restore request is appended to MMU_REQ as space frees. -/
def execMmuReqAppend (s : State) : Host.Outcome State Fault Refusal :=
  .next (s.whenRuns fun s => s.reqAppend)

/-- MMU_REQ_POP (R296): Reading the high half of MMU_REQ removes the head request. -/
def execMmuReqPop (s : State) : Host.Outcome State Fault Refusal :=
  .next (s.whenKeep fun s => s.reqPop)

/-- DESCRIPTOR_RESUME (R297): A FAULTED descriptor resumes when its leaf reads RESIDENT. -/
def execDescriptorResume (p : Nat) (n : Nat) (s : State) : Host.Outcome State Fault Refusal :=
  .next (s.whenRuns fun s => s.mvResume p n)

/-- REGION_ARM (R305): MMU_RGN_CMD.ARM arms a declared sealed region. -/
def execRegionArm (s : State) : Host.Outcome State Fault Refusal :=
  .next (s.whenKeep fun s => s.regionArm)

/-- RESTORE_GO (R307): MMU_RST_CMD.GO starts a restore lane on a chunk. -/
def execRestoreGo (d : Nat) (r : Nat) (s : State) : Host.Outcome State Fault Refusal :=
  .next (s.whenKeep fun s => s.restoreGo (d % 64) (r % 64))

/-- RESTORE_END (R307): A restore lane ends its checks and writes the chunk or reports a code. -/
def execRestoreEnd (lane : Nat) (s : State) : Host.Outcome State Fault Refusal :=
  .next (s.whenRuns fun s => s.restoreEnd lane)

end Sys2Proof.Machine
end

