-- ==== Sys2Proof/Machine/CmdMgt.lean ====
section
/-!
DEFINITION. What the commands do: reset, boot, lifecycle and the management port.
-/

namespace Sys2Proof.Machine

/-- NRESET_LOW (R113): nRESET is registered low and causes a device reset. -/
def execNresetLow (s : State) : Host.Outcome State Fault Refusal :=
  .next (s.whenOn fun s => s.resetSource R.RST_CAUSE_NRESET)

/-- SWRESET (R113): A keep write of RST_CTRL.SWRESET requests a device reset. -/
def execSwreset (s : State) : Host.Outcome State Fault Refusal :=
  .next (s.whenKeep fun s => s.resetSource R.RST_CAUSE_KEEP)

/-- BOOT_READY (R118): Ports are trained, the JSC opens and RST_BOOT.PHASE reads READY. -/
def execBootReady (s : State) : Host.Outcome State Fault Refusal :=
  .next (s.whenOn fun s => s.bootReady)

/-- BOOT_WATCHDOG_EXPIRY (R123): The 30 s boot watchdog expires and causes a device reset with cause WATCHDOG. -/
def execBootWatchdogExpiry (s : State) : Host.Outcome State Fault Refusal :=
  .next (s.whenOn fun s => s.watchdog)

/-- RST_CONFIRM (R122): The keep confirms the running firmware, clearing ATTEMPTS and disarming the watchdog. -/
def execRstConfirm (s : State) : Host.Outcome State Fault Refusal :=
  .next (s.whenKeep fun s => s.confirm false)

/-- RST_CONFIRM_RAISE (R122): A confirmation with RAISE also raises MINVER to the running version. -/
def execRstConfirmRaise (s : State) : Host.Outcome State Fault Refusal :=
  .next (s.whenKeep fun s => s.confirm true)

/-- LIFECYCLE_ADVANCE (R126): A write of RST_LC_CMD advances the lifecycle or sets REJECT. -/
def execLifecycleAdvance (key : Nat) (target : Nat) (s : State) : Host.Outcome State Fault Refusal :=
  .next (s.whenKeep fun s => s.lcAdvance (key % 2 ^ 16) (target % 4))

/-- FUSE_PROGRAM_END (R126): Lifecycle fuse programming ends after 2 ms and BUSY clears. -/
def execFuseProgramEnd (s : State) : Host.Outcome State Fault Refusal :=
  .next (s.whenOn fun s => s.fuseEnd)

/-- MGT_READ (R128): A management READ frame returns window words with a CRC. -/
def execMgtRead (addr : Nat) (words : Nat) (complete : Bool) (s : State) : Host.Outcome State Fault Refusal :=
  .next (s.whenOn fun s => s.mgtRead addr words complete)

/-- MGT_WRITE (R128): A management WRITE frame writes the window if complete with a matching CRC. -/
def execMgtWrite (addr : Nat) (words : List Nat) (crc : Nat) (complete : Bool) (s : State) : Host.Outcome State Fault
    Refusal :=
  .next (s.whenOn fun s => s.mgtWrite addr words crc complete)

/-- MGT_QSTAT (R128): A QSTAT frame returns MGT_ALERT bits 7:0 without a CRC. -/
def execMgtQstat (s : State) : Host.Outcome State Fault Refusal :=
  .next (s.whenOn fun s => s.mgtQstat)

/-- WAKE (R130): The management command WAKE acts as wake source MGT. -/
def execWake (s : State) : Host.Outcome State Fault Refusal :=
  .next (s.whenOn fun s => s.mgtCommand 1)

/-- RESET_DEVICE (R130): The management command RESET_DEVICE causes a device reset. -/
def execResetDevice (s : State) : Host.Outcome State Fault Refusal :=
  .next (s.whenOn fun s => s.mgtCommand 2)

/-- BOOT_SELECT (R130): The management command sets a one-shot twin override for the next boot. -/
def execBootSelect (arg : Nat) (s : State) : Host.Outcome State Fault Refusal :=
  .next (s.whenOn fun s => s.mgtOrder 3 arg)

/-- CLEAR_ALERT (R130): The management command clears the given MGT_ALERT bits. -/
def execClearAlert (mask : Nat) (s : State) : Host.Outcome State Fault Refusal :=
  .next (s.whenOn fun s => s.mgtOrder 5 mask)

/-- READ_EVIDENCE (R130): The management command copies a page of the evidence window into MGT_DATA. -/
def execReadEvidence (page : Nat) (s : State) : Host.Outcome State Fault Refusal :=
  .next (s.whenOn fun s => s.mgtOrder 6 page)

/-- RECOVER_COMMIT (R124): In RECOVERY the ROM verifies the image and swaps the pointer and resets, or erases it. -/
def execRecoverCommit (len : Nat) (s : State) : Host.Outcome State Fault Refusal :=
  .next (s.whenOn fun s => s.mgtOrder 8 len)

/-- CLEAR_ERR (R130): The management command clears the three MGT_ERR counts. -/
def execClearErr (s : State) : Host.Outcome State Fault Refusal :=
  .next (s.whenOn fun s => s.mgtCommand 9)

/-- MGT_COMMAND_DONE (R576): A management command that took time ends and MGT_RESULT leaves BUSY. -/
def execMgtCommandDone (s : State) : Host.Outcome State Fault Refusal :=
  .next (s.whenOn fun s => s.mgtDone)

/-- NWAKE_LOW (R132): nWAKE is registered low and wakes the device from DEEP. -/
def execNwakeLow (s : State) : Host.Outcome State Fault Refusal :=
  .next (s.whenOn fun s => s.nwake)

end Sys2Proof.Machine
end

