-- ==== Sys2Proof/Machine/CmdNet.lean ====
section
/-!
DEFINITION. What the commands do: links, sessions and the federation.
-/

namespace Sys2Proof.Machine

/-- LINK_DOWN (R455): A link loses training, alignment or FEC lock and starts retraining. -/
def execLinkDown (k : Nat) (s : State) : Host.Outcome State Fault Refusal :=
  .next (s.whenRuns fun s => s.linkDown k)

/-- LINK_UP (R455): A link finishes training with RS-FEC lock. -/
def execLinkUp (k : Nat) (s : State) : Host.Outcome State Fault Refusal :=
  .next (s.whenRuns fun s => s.linkUp k)

/-- FRAME_RECEIVE (R456): NET receives a frame and filters, answers or passes it on. -/
def execFrameReceive (k : Nat) (corr : Nat) (bad : Bool) (frame : List Byte) (s : State) : Host.Outcome State Fault
    Refusal :=
  .next (s.whenRuns fun s => s.frameReceive k corr bad frame)

/-- ARP_REQUEST (R457): An ARP request for the device's address is answered. -/
def execArpRequest (s : State) : Host.Outcome State Fault Refusal :=
  .next (s.whenRuns fun s => s.arpRequest)

/-- NEIGHBOUR_SOLICITATION (R457): An ND neighbour solicitation for the device's address is answered. -/
def execNeighbourSolicitation (s : State) : Host.Outcome State Fault Refusal :=
  .next (s.whenRuns fun s => s.ndRequest)

/-- ECHO_REQUEST (R457): An ICMP or ICMPv6 echo request is answered within the rate limit. -/
def execEchoRequest (s : State) : Host.Outcome State Fault Refusal :=
  .next (s.whenRuns fun s => s.echoRequest)

/-- NEIGHBOUR_TIMEOUT (R490): A next hop is not resolved within 1 s. -/
def execNeighbourTimeout (s : State) : Host.Outcome State Fault Refusal :=
  .next (s.whenRuns fun s => s.neighTimeout)

/-- NEIGHBOUR_EXPIRY (R457): A neighbour entry expires after 60 s. -/
def execNeighbourExpiry (s : State) : Host.Outcome State Fault Refusal :=
  .next (s.whenRuns fun s => s.neighExpiry)

/-- REASSEMBLY_TIMEOUT (R462): A partial message is discarded 1 ms after its first datagram. -/
def execReassemblyTimeout (s : State) : Host.Outcome State Fault Refusal :=
  .next (s.whenRuns fun s => s.reassemblyTimeout)

/-- CONTEXT_FETCH (R474): SES fetches an uncached session context and serves the waiting datagram. -/
def execContextFetch (s : State) : Host.Outcome State Fault Refusal :=
  .next (s.whenRuns fun s => s.contextFetch)

/-- MESSAGE_TX (R475): The egress scheduler sends the next frame by priority. -/
def execMessageTx (k : Nat) (s : State) : Host.Outcome State Fault Refusal :=
  .next (s.whenRuns fun s => s.messageTx k)

/-- HELLO_C (R467): A client hello opens a handshake or is rejected. -/
def execHelloC (s : State) : Host.Outcome State Fault Refusal :=
  .next (s.whenRuns fun s => s.helloC)

/-- HELLO_D (R476): In a keep-opened session the peer's HELLO_D is checked and FINISH_C sent. -/
def execHelloD (s : State) : Host.Outcome State Fault Refusal :=
  .next (s.whenRuns fun s => s.helloD)

/-- FINISH_C (R467): The client's finish is checked and READY opens the session, or REJECT is sent. -/
def execFinishC (s : State) : Host.Outcome State Fault Refusal :=
  .next (s.whenRuns fun s => s.finishC)

/-- READY (R476): In a keep-opened session the peer's READY opens the session. -/
def execReady (s : State) : Host.Outcome State Fault Refusal :=
  .next (s.whenRuns fun s => s.ready.fedReady)

/-- REJECT (R476): In a keep-opened session a peer REJECT ends the open with a failure. -/
def execReject (s : State) : Host.Outcome State Fault Refusal :=
  .next (s.whenRuns fun s => s.rxReject)

/-- REKEY_ACK (R469): The client's REKEY_ACK is the switch edge of a new session epoch. -/
def execRekeyAck (s : State) : Host.Outcome State Fault Refusal :=
  .next (s.whenRuns fun s => s.rekeyAck)

/-- REKEY_REQ (R468): A client asks the device to start a rekey. -/
def execRekeyReq (s : State) : Host.Outcome State Fault Refusal :=
  .next (s.whenRuns fun s => s.rxRekeyReq)

/-- CLOSE (R470): A CLOSE from the peer closes the session. -/
def execClose (s : State) : Host.Outcome State Fault Refusal :=
  .next (s.whenRuns fun s => s.rxClose)

/-- PING (R470): A PING is answered with PONG and keeps the session from idling. -/
def execPing (s : State) : Host.Outcome State Fault Refusal :=
  .next (s.whenRuns fun s => s.rxPing)

/-- PONG (R470): A PONG received keeps the session from idling. -/
def execPong (s : State) : Host.Outcome State Fault Refusal :=
  .next (s.whenRuns fun s => s.rxPong)

/-- QUERY (R471): A QUERY is answered with a QUERY_REPLY about a JOBNUM. -/
def execQuery (s : State) : Host.Outcome State Fault Refusal :=
  .next (s.whenRuns fun s => s.rxQuery)

/-- APP (R476): An APP message on a dome-0 session is placed in the keep's receive ring. -/
def execApp (s : State) : Host.Outcome State Fault Refusal :=
  .next (s.whenRuns fun s => s.rxApp)

/-- HANDSHAKE_TIMEOUT (R467): No FINISH_C within 1 s ends the handshake with WL_HANDSHAKE_TIMEOUT. -/
def execHandshakeTimeout (ctx : Nat) (s : State) : Host.Outcome State Fault Refusal :=
  .next (s.whenRuns fun s => s.hsTimeout ctx)

/-- REKEY_TIMEOUT (R469): No REKEY_ACK within 1 s closes the session. -/
def execRekeyTimeout (ctx : Nat) (s : State) : Host.Outcome State Fault Refusal :=
  .next (s.whenRuns fun s => s.rekeyTimeout ctx)

/-- SESSION_IDLE (R470): No datagram for IDLE_MS closes the session with WL_IDLE. -/
def execSessionIdle (ctx : Nat) (s : State) : Host.Outcome State Fault Refusal :=
  .next (s.whenRuns fun s => s.sessionIdle ctx)

/-- SESSION_EPOCH_DRAINED (R469): A session's old key epoch drains, its keys are destroyed and EPOCH_DONE is sent. -/
def execSessionEpochDrained (ctx : Nat) (s : State) : Host.Outcome State Fault Refusal :=
  .next (s.whenRuns fun s => s.sesDrained ctx)

/-- KEEP_OPEN (R476): SES_KOPEN.GO starts a keep-opened session in the client role. -/
def execKeepOpen (addr : Nat) (s : State) : Host.Outcome State Fault Refusal :=
  .next (s.whenKeep fun s => s.keepOpen (addr % 2 ^ 40 / 64 * 64))

/-- KEEP_TX (R476): A write of SES_KTX_IDX.TAIL hands the keep's APP messages to SES. -/
def execKeepTx (tail : Nat) (s : State) : Host.Outcome State Fault Refusal :=
  .next (s.whenKeep fun s => s.keepTx (tail % 65536))

/-- JOIN (R479): The tower accepts a JOIN with WELCOME and KEYSETs, or answers LEAVE. -/
def execJoin (s : State) : Host.Outcome State Fault Refusal :=
  .next (s.whenRuns fun s => s.rxJoin)

/-- WELCOME (R479): A member receives WELCOME with term, epoch and announcement. -/
def execWelcome (s : State) : Host.Outcome State Fault Refusal :=
  .next (s.whenRuns fun s => s.rxWelcome)

/-- BEAT (R480): A member receives BEAT, resetting its loss timer and taking any announcement. -/
def execBeat (s : State) : Host.Outcome State Fault Refusal :=
  .next (s.whenRuns fun s => s.rxBeat)

/-- TIME_Q (R482): The tower answers a TIME_Q with TIME_R. -/
def execTimeQ (s : State) : Host.Outcome State Fault Refusal :=
  .next (s.whenRuns fun s => s.rxTimeQ)

/-- TIME_R (R482): A member computes offset and delay from TIME_R. -/
def execTimeR (s : State) : Host.Outcome State Fault Refusal :=
  .next (s.whenRuns fun s => s.rxTimeR)

/-- KEYSET (R483): A member checks and wraps KEYSET entries into the staging bank, setting STAGED when complete. -/
def execKeyset (s : State) : Host.Outcome State Fault Refusal :=
  .next (s.whenRuns fun s => s.rxKeyset)

/-- READY_E (R484): The tower counts a member's READY_E in FED_READY. -/
def execReadyE (s : State) : Host.Outcome State Fault Refusal :=
  .next (s.whenRuns fun s => s.rxReadyE)

/-- LEAVE (R478): A LEAVE ends a federation session. -/
def execLeave (s : State) : Host.Outcome State Fault Refusal :=
  .next (s.whenRuns fun s => s.rxLeave)

/-- BEAT_TIMER (R480): Each HB_MS the tower sends BEAT to every member. -/
def execBeatTimer (s : State) : Host.Outcome State Fault Refusal :=
  .next (s.whenRuns fun s => s.beatTimer)

/-- TIME_Q_TIMER (R482): Each HB_MS a member sends TIME_Q. -/
def execTimeQTimer (s : State) : Host.Outcome State Fault Refusal :=
  .next (s.whenRuns fun s => s.timeQTimer)

/-- MEMBER_LOSS_TIMEOUT (R480): No BEAT for LOSS_COUNT × HB_MS puts the member in LOST. -/
def execMemberLossTimeout (s : State) : Host.Outcome State Fault Refusal :=
  .next (s.whenRuns fun s => s.memberLoss)

/-- FED_RETRY (R480): A LOST member retries its tower session each HB_MS. -/
def execFedRetry (s : State) : Host.Outcome State Fault Refusal :=
  .next (s.whenRuns fun s => s.fedRetry)

/-- STANDBY_TAKEOVER (R481): A standby with no BEAT for twice the loss time becomes acting tower. -/
def execStandbyTakeover (s : State) : Host.Outcome State Fault Refusal :=
  .next (s.whenRuns fun s => s.takeover)

/-- ANNOUNCE (R484): FED_CMD.ANNOUNCE announces the next federation epoch, or is refused. -/
def execAnnounce (s : State) : Host.Outcome State Fault Refusal :=
  .next (s.whenKeep fun s => s.announce)

/-- RECLAIM (R481): FED_CMD.RECLAIM raises the tower's TERM above the standby's. -/
def execReclaim (s : State) : Host.Outcome State Fault Refusal :=
  .next (s.whenKeep fun s => s.reclaim)

/-- FED_SWITCH (R485): At T_A the member switches federation key banks or sets BEHIND. -/
def execFedSwitch (s : State) : Host.Outcome State Fault Refusal :=
  .next (s.whenRuns fun s => s.fedSwitch)

/-- FED_EPOCH_DRAINED (R485): The old federation epoch drains and its bank is zeroed. -/
def execFedEpochDrained (s : State) : Host.Outcome State Fault Refusal :=
  .next (s.whenRuns fun s => s.fedDrained)

/-- REKEY (R469): On a session the device opened in the client role, a REKEY from the peer is received and answered
with REKEY_ACK, moving the session to a new key epoch. -/
def execRekey (s : State) : Host.Outcome State Fault Refusal :=
  .next (s.whenRuns fun s => s.rxRekey)

/-- EPOCH_DONE (R469): On a session the device opened in the client role, an EPOCH_DONE from the peer is received and
the old epoch's receive keys are destroyed. -/
def execEpochDone (s : State) : Host.Outcome State Fault Refusal :=
  .next (s.whenRuns fun s => s.rxEpochDone)

end Sys2Proof.Machine
end

