-- ==== Sys2Proof/Machine/CmdPk.lean ====
section
/-!
DEFINITION. What the commands do: the public-key pool.
-/

namespace Sys2Proof.Machine

/-- PKE_ETU_SCHEDULE (R403): At each ETU boundary the 32 PKE engines go to the earliest held commands. -/
def execPkeEtuSchedule (s : State) : Host.Outcome State Fault Refusal :=
  .next (s.whenRuns fun s => s.pkeSchedule)

/-- PKE_COMMAND_END (R378): A PKE command's final ETU writes OUT and its status word. -/
def execPkeCommandEnd (job : Nat) (ticket : Nat) (failed : Bool) (s : State) : Host.Outcome State Fault Refusal :=
  .next (s.whenRuns fun s => (s.pkeEnd job ticket failed).afterCmd (s.cmdOf job ticket))

/-- MODPROG (R395): Run a modular arithmetic program. -/
def execModprog (job : Nat) (ticket : Nat) (s : State) : Host.Outcome State Fault Refusal :=
  .next (s.whenRuns fun s => s.pkeDo job ticket 0x01 pkModprog)

/-- KEYGEN (R386): Generate a key pair as a PKO. -/
def execKeygen (job : Nat) (ticket : Nat) (s : State) : Host.Outcome State Fault Refusal :=
  .next (s.whenRuns fun s => s.pkeDo job ticket 0x10 pkKeygen)

/-- SIGN (R386): Sign with a PKO. -/
def execSign (job : Nat) (ticket : Nat) (s : State) : Host.Outcome State Fault Refusal :=
  .next (s.whenRuns fun s => s.pkeDo job ticket 0x11 pkSign)

/-- VERIFY (R386): Verify a signature. -/
def execVerify (job : Nat) (ticket : Nat) (s : State) : Host.Outcome State Fault Refusal :=
  .next (s.whenRuns fun s => s.pkeDo job ticket 0x12 pkVerify)

/-- AGREE (R386): Compute a shared secret with a PKO. -/
def execAgree (job : Nat) (ticket : Nat) (s : State) : Host.Outcome State Fault Refusal :=
  .next (s.whenRuns fun s => s.pkeDo job ticket 0x13 pkAgree)

/-- PUBLIC (R386): Return the public key of a PKO. -/
def execPublicKey (job : Nat) (ticket : Nat) (s : State) : Host.Outcome State Fault Refusal :=
  .next (s.whenRuns fun s => s.pkeDo job ticket 0x14 pkPublic)

/-- CURVE_CHECK (R393): Check a loadable curve and return a sealed record. -/
def execCurveCheck (job : Nat) (ticket : Nat) (s : State) : Host.Outcome State Fault Refusal :=
  .next (s.whenRuns fun s => s.pkeDo job ticket 0x18 pkCurveCheck)

/-- RSA_SIGN (R386): RSA signature with a PKO. -/
def execRsaSign (job : Nat) (ticket : Nat) (s : State) : Host.Outcome State Fault Refusal :=
  .next (s.whenRuns fun s => s.pkeDo job ticket 0x20 pkRsaSign)

/-- RSA_VERIFY (R386): RSA signature verification. -/
def execRsaVerify (job : Nat) (ticket : Nat) (s : State) : Host.Outcome State Fault Refusal :=
  .next (s.whenRuns fun s => s.pkeDo job ticket 0x21 pkRsaVerify)

/-- RSA_DECRYPT (R386): RSA OAEP decryption with a PKO. -/
def execRsaDecrypt (job : Nat) (ticket : Nat) (s : State) : Host.Outcome State Fault Refusal :=
  .next (s.whenRuns fun s => s.pkeDo job ticket 0x22 pkRsaDecrypt)

/-- RSA_ENCRYPT (R386): RSA OAEP encryption. -/
def execRsaEncrypt (job : Nat) (ticket : Nat) (s : State) : Host.Outcome State Fault Refusal :=
  .next (s.whenRuns fun s => s.pkeDo job ticket 0x23 pkRsaEncrypt)

/-- PK_IMPORT (R388): Import a private key block as a PKO. -/
def execPkImport (job : Nat) (ticket : Nat) (s : State) : Host.Outcome State Fault Refusal :=
  .next (s.whenRuns fun s => s.pkeDo job ticket 0x30 pkImport)

end Sys2Proof.Machine
end

