-- ==== Sys2Proof/Machine/CmdPower.lean ====
section
/-!
DEFINITION. What the commands do: supplies, clocks, time and power states.
-/

namespace Sys2Proof.Machine

/-- MAIN_POWER_UP (R69): PWR_OK is registered high with every rail in range and the device is released to boot. -/
def execMainPowerUp (found : PowerUp) (s : State) : Host.Outcome State Fault Refusal :=
  .next (s.powerUp found.rails (found.defects % 2 ^ 18))

/-- PWR_OK_LOW (R72): PWR_OK is registered low, causing a forced transition into HOLD or completing an ordered HOLD.
-/
def execPwrOkLow (s : State) : Host.Outcome State Fault Refusal :=
  .next (s.pwrOkLow)

/-- BEDROCK_CHANGEOVER (R74): Bedrock changes its supply between VAON and VBAT without losing state. -/
def execBedrockChangeover (vbat : Bool) (s : State) : Host.Outcome State Fault Refusal :=
  .next (s.changeover vbat)

/-- BEDROCK_TRIP (R74): The bedrock rail detector trips and bedrock stops. -/
def execBedrockTrip (s : State) : Host.Outcome State Fault Refusal :=
  .next (s.bedrockTrip)

/-- CRYSTAL_FAIL (R89): No crystal edge for 4 RC periods sets CLK_XTAL.FAIL, raises CLKMON and moves bedrock to the RC
oscillator. -/
def execCrystalFail (s : State) : Host.Outcome State Fault Refusal :=
  .next (s.crystalFail)

/-- CRYSTAL_RECOVER (R89): After 1,024 consecutive in-range crystal periods bedrock returns to the crystal. -/
def execCrystalRecover (s : State) : Host.Outcome State Fault Refusal :=
  .next (s.crystalRecover)

/-- TIME_PAIR_LATCH (R92): Once a second bedrock latches DTIME and TSTAMP into TIME_PAIR. -/
def execTimePairLatch (s : State) : Host.Outcome State Fault Refusal :=
  .next (s.pairLatch)

/-- TIME_SET (R93): A write of TIME_SET sets DTIME once while UNSET, or is ignored and sets REJECT. -/
def execTimeSet (value : Nat) (s : State) : Host.Outcome State Fault Refusal :=
  .next (s.whenKeep fun s => s.timeSet (value % 2 ^ 64))

/-- TIME_ALARM_MATCH (R103): TSTAMP reaches TIME_ALARM and acts as a wake source. -/
def execTimeAlarmMatch (s : State) : Host.Outcome State Fault Refusal :=
  .next (s.alarmMatch)

/-- DOZE_IDLE_EXPIRY (R97): A spire's idle count reaches DOZE_IDLE and its DOZE entry begins where allowed. -/
def execDozeIdleExpiry (p : Nat) (s : State) : Host.Outcome State Fault Refusal :=
  .next (s.whenRuns fun s => s.dozeIdle p)

/-- NAP_IDLE_EXPIRY (R97): A DOZE spire's further idle count reaches NAP_IDLE and its NAP entry begins where allowed.
-/
def execNapIdleExpiry (p : Nat) (s : State) : Host.Outcome State Fault Refusal :=
  .next (s.whenRuns fun s => s.napIdle p)

/-- SPIRE_TRANSITION_END (R96): A fixed-length spire entry or exit sequence ends. -/
def execSpireTransitionEnd (p : Nat) (s : State) : Host.Outcome State Fault Refusal :=
  .next (s.whenRuns fun s => s.spireEnd p)

/-- PWR_CEIL_WRITE (R101): The board writes the ceiling, which takes effect at once on spire states. -/
def execPwrCeilWrite (ceil : Nat) (s : State) : Host.Outcome State Fault Refusal :=
  .next (s.whenOn fun s => s.ceilWrite (ceil % 8))

/-- PWR_CEIL_FORCE (R108): A ceiling of DEEP or HOLD written with FORCE starts a forced transition. -/
def execPwrCeilForce (ceil : Nat) (s : State) : Host.Outcome State Fault Refusal :=
  .next (s.whenOn fun s => s.ceilForce (ceil % 8))

/-- PWR_BUDGET_WRITE (R101): The board writes the wake budget, which takes effect at once. -/
def execPwrBudgetWrite (us : Nat) (s : State) : Host.Outcome State Fault Refusal :=
  .next (s.whenOn fun s => s.budgetWrite us)

/-- DEEP_IDLE_EXPIRY (R100): All spires have been in NAP for DEEP_IDLE ms with the conditions met. -/
def execDeepIdleExpiry (s : State) : Host.Outcome State Fault Refusal :=
  .next (s.whenRuns fun s => s.deepIdle)

/-- HOLD_READY (R108): In an ordered HOLD, once all jobs complete, sessions close and export is done, HOLD_READY and
nALERT are set. -/
def execHoldReady (s : State) : Host.Outcome State Fault Refusal :=
  .next (s.whenOn fun s => s.holdReady)

/-- RAILS_IN_RANGE (R70): With PWR_OK already registered high, the last main rail comes into range and the device is
released from step 7 to boot. -/
def execRailsInRange (s : State) : Host.Outcome State Fault Refusal :=
  .next (s.railsIn)

end Sys2Proof.Machine
end

