-- ==== Sys2Proof/Machine/CmdStb.lean ====
section
/-!
DEFINITION. What the commands do: structure bitstreams.
-/

namespace Sys2Proof.Machine

/-- STB_START (R157): A START begins a whole, domain or amend application of the marl at STB_SRC. -/
def execStbStart (abrupt : Bool) (dome : Nat) (s : State) : Host.Outcome State Fault Refusal :=
  .next (s.whenKeep fun s => s.stbStart abrupt (dome % 64))

/-- STB_ABORT (R157): ABORT ends an application before its switch or load point with no effect. -/
def execStbAbort (s : State) : Host.Outcome State Fault Refusal :=
  .next (s.whenKeep fun s => s.stbAbort)

/-- STB_NONE (R159): NONE ends boot step 8 with the keep as the only dome. -/
def execStbNone (s : State) : Host.Outcome State Fault Refusal :=
  .next (s.whenKeep fun s => s.stbNone)

/-- SPIRE_RELOAD (R164): A spire with no old-epoch job is woken and its memories, decode table and SRAM are reloaded.
-/
def execSpireReload (p : Nat) (s : State) : Host.Outcome State Fault Refusal :=
  .next (s.whenRuns fun s => s.spireReload p)

/-- SPIRE_RELOAD_END (R164): A spire reload ends and its STB_SPIRE_LOADED bit is set. -/
def execSpireReloadEnd (p : Nat) (s : State) : Host.Outcome State Fault Refusal :=
  .next (s.whenRuns fun s => s.spireReloadEnd p)

/-- DOME_DRAINED (R162): No operation carries a dome's old structure epoch and its fence bit reads drained. -/
def execDomeDrained (d : Nat) (s : State) : Host.Outcome State Fault Refusal :=
  .next (s.whenRuns fun s => s.domeDrained (d % 64))

/-- STB_RAISE_WHOLE (R154): A write of STB_RAISE.WHOLE raises the whole minimum version. -/
def execStbRaiseWhole (s : State) : Host.Outcome State Fault Refusal :=
  .next (s.whenKeep fun s => s.raiseWhole)

/-- STB_RAISE_DOMV (R154): A write of STB_RAISE.DOMV raises a dome's minimum content version. -/
def execStbRaiseDomv (d : Nat) (s : State) : Host.Outcome State Fault Refusal :=
  .next (s.whenKeep fun s => s.raiseDome (d % 64))

/-- STB_RAISE_DONE (R154): The flash programming of a minimum raise ends and BUSY clears. -/
def execStbRaiseDone (s : State) : Host.Outcome State Fault Refusal :=
  .next (s.whenRuns fun s => s.raiseDone)

end Sys2Proof.Machine
end

