-- ==== Sys2Proof/Machine/CmdTamper.lean ====
section
/-!
DEFINITION. What the commands do: the tamper unit.
-/

namespace Sys2Proof.Machine

/-- BEDROCK_RESTART (R444): Bedrock supply rises above 1.60 V and bedrock restarts with a bedrock reset. -/
def execBedrockRestart (s : State) : Host.Outcome State Fault Refusal :=
  .next (s.bedrockRestart)

/-- TAMPER_ACK (R443): The management command clears HALT and resumes the boot at step 3. -/
def execTamperAck (s : State) : Host.Outcome State Fault Refusal :=
  .next (s.whenOn fun s => s.mgtCommand 4)

/-- MESH_COMPARE (R432): At each pattern step bedrock compares every mesh trace with the bit it drives. -/
def execMeshCompare (levels : Nat) (s : State) : Host.Outcome State Fault Refusal :=
  .next (s.meshCompare (levels % 64))

/-- CASE_PULSE (R433): A filtered CASEn pulse sets its latch, registered on the next bedrock edge. -/
def execCasePulse (n : Nat) (pin : CasePin) (s : State) : Host.Outcome State Fault Refusal :=
  .next (s.casePulse n pin)

/-- LIGHT_DETECT (R430): A photodiode over threshold for 10 µs fires LIGHT. -/
def execLightDetect (diode : Nat) (s : State) : Host.Outcome State Fault Refusal :=
  .next (s.whenOn fun s => s.lightDetect diode)

/-- VGLITCH_DETECT (R430): A main rail glitch beyond its limit fires VGLITCH. -/
def execVglitchDetect (rail : Nat) (high : Bool) (s : State) : Host.Outcome State Fault Refusal :=
  .next (s.whenOn fun s => s.railEvent 8 (rail % 8) high)

/-- VRANGE_DETECT (R430): A main rail beyond its range for 1 µs fires VRANGE. -/
def execVrangeDetect (rail : Nat) (high : Bool) (s : State) : Host.Outcome State Fault Refusal :=
  .next (s.whenOn fun s => s.railEvent 9 (rail % 8) high)

/-- REFCLK_FAIL (R430): A REFCLK gap or rate error fires CLKMON. -/
def execRefclkFail (s : State) : Host.Outcome State Fault Refusal :=
  .next (s.whenOn fun s => s.clockFail 1)

/-- PLL_UNLOCK (R430): A core, DDR, keep or time-base PLL in use loses lock and fires CLKMON. -/
def execPllUnlock (which : Nat) (s : State) : Host.Outcome State Fault Refusal :=
  .next (s.whenOn fun s => s.clockFail (if 2 ≤ which ∧ which ≤ 5 then which else 2))

/-- TEMP_READING (R430): The hottest die sensor is read every 1 ms, updating MGT_TEMP and firing TEMP on two bad
readings. -/
def execTempReading (tj : Nat) (s : State) : Host.Outcome State Fault Refusal :=
  .next (s.whenOn fun s => s.tempReading (tj % 4096))

/-- TAMPER_FIRING (R438): The TMP executes the union of a firing's masks in fixed order. -/
def execTamperFiring (turn : FireTurn) (s : State) : Host.Outcome State Fault Refusal :=
  .next (s.whenOn fun s => s.firing turn.events turn.steps)

/-- TMP_UNLOCK (R449): A write of TMP_UNLOCK arms a clear if its SEQ matches. -/
def execTmpUnlock (key : Nat) (seq : Nat) (s : State) : Host.Outcome State Fault Refusal :=
  .next (s.whenKeep fun s => s.tmpUnlock (key % 65536) (seq % 65536))

/-- TMP_FLAGS_CLEAR (R449): An armed W1C of TMP_FLAGS clears flags, counts and timestamps and logs a CLEAR. -/
def execTmpFlagsClear (flags : Nat) (s : State) : Host.Outcome State Fault Refusal :=
  .next (s.whenKeep fun s => s.flagsClear (flags % 2 ^ 17))

/-- EVIDENCE_CLEAR (R449): An armed TMP_EVCLR empties the log and writes a CLEAR record. -/
def execEvidenceClear (s : State) : Host.Outcome State Fault Refusal :=
  .next (s.whenKeep fun s => s.evidenceClear)

end Sys2Proof.Machine
end

