-- ==== Sys2Proof/Machine/Dispatch.lean ====
section
/-!
DEFINITION. The dispatch of a command to its meaning: one arm per constructor of Instr.
-/

namespace Sys2Proof.Machine

/-- The effect of a command on everything but the queue. -/
def exec (i : Instr) (s : State) : Host.Outcome State Fault Refusal :=
  match i with
  -- registers and transfers
  | .registerWrite addr value => Sys2Proof.Machine.execRegisterWrite addr value s
  | .transfer agent who job type addr len data cond bus later => Sys2Proof.Machine.execTransfer agent who job type addr len data cond bus later s
  -- supplies, clocks, time and power states
  | .mainPowerUp found => Sys2Proof.Machine.execMainPowerUp found s
  | .pwrOkLow => Sys2Proof.Machine.execPwrOkLow s
  | .bedrockChangeover vbat => Sys2Proof.Machine.execBedrockChangeover vbat s
  | .bedrockTrip => Sys2Proof.Machine.execBedrockTrip s
  | .crystalFail => Sys2Proof.Machine.execCrystalFail s
  | .crystalRecover => Sys2Proof.Machine.execCrystalRecover s
  | .timePairLatch => Sys2Proof.Machine.execTimePairLatch s
  | .timeSet value => Sys2Proof.Machine.execTimeSet value s
  | .timeAlarmMatch => Sys2Proof.Machine.execTimeAlarmMatch s
  | .dozeIdleExpiry p => Sys2Proof.Machine.execDozeIdleExpiry p s
  | .napIdleExpiry p => Sys2Proof.Machine.execNapIdleExpiry p s
  | .spireTransitionEnd p => Sys2Proof.Machine.execSpireTransitionEnd p s
  | .pwrCeilWrite ceil => Sys2Proof.Machine.execPwrCeilWrite ceil s
  | .pwrCeilForce ceil => Sys2Proof.Machine.execPwrCeilForce ceil s
  | .pwrBudgetWrite us => Sys2Proof.Machine.execPwrBudgetWrite us s
  | .deepIdleExpiry => Sys2Proof.Machine.execDeepIdleExpiry s
  | .holdReady => Sys2Proof.Machine.execHoldReady s
  | .railsInRange => Sys2Proof.Machine.execRailsInRange s
  -- reset, boot, lifecycle and the management port
  | .nresetLow => Sys2Proof.Machine.execNresetLow s
  | .swreset => Sys2Proof.Machine.execSwreset s
  | .bootReady => Sys2Proof.Machine.execBootReady s
  | .bootWatchdogExpiry => Sys2Proof.Machine.execBootWatchdogExpiry s
  | .rstConfirm => Sys2Proof.Machine.execRstConfirm s
  | .rstConfirmRaise => Sys2Proof.Machine.execRstConfirmRaise s
  | .lifecycleAdvance key target => Sys2Proof.Machine.execLifecycleAdvance key target s
  | .fuseProgramEnd => Sys2Proof.Machine.execFuseProgramEnd s
  | .mgtRead addr words complete => Sys2Proof.Machine.execMgtRead addr words complete s
  | .mgtWrite addr words crc complete => Sys2Proof.Machine.execMgtWrite addr words crc complete s
  | .mgtQstat => Sys2Proof.Machine.execMgtQstat s
  | .wake => Sys2Proof.Machine.execWake s
  | .resetDevice => Sys2Proof.Machine.execResetDevice s
  | .bootSelect arg => Sys2Proof.Machine.execBootSelect arg s
  | .clearAlert mask => Sys2Proof.Machine.execClearAlert mask s
  | .readEvidence page => Sys2Proof.Machine.execReadEvidence page s
  | .recoverCommit len => Sys2Proof.Machine.execRecoverCommit len s
  | .clearErr => Sys2Proof.Machine.execClearErr s
  | .mgtCommandDone => Sys2Proof.Machine.execMgtCommandDone s
  | .nwakeLow => Sys2Proof.Machine.execNwakeLow s
  -- structure bitstreams
  | .stbStart abrupt dome => Sys2Proof.Machine.execStbStart abrupt dome s
  | .stbAbort => Sys2Proof.Machine.execStbAbort s
  | .stbNone => Sys2Proof.Machine.execStbNone s
  | .spireReload p => Sys2Proof.Machine.execSpireReload p s
  | .spireReloadEnd p => Sys2Proof.Machine.execSpireReloadEnd p s
  | .domeDrained d => Sys2Proof.Machine.execDomeDrained d s
  | .stbRaiseWhole => Sys2Proof.Machine.execStbRaiseWhole s
  | .stbRaiseDomv d => Sys2Proof.Machine.execStbRaiseDomv d s
  | .stbRaiseDone => Sys2Proof.Machine.execStbRaiseDone s
  -- jobs, promises and the journal
  | .jobRequest => Sys2Proof.Machine.execJobRequest s
  | .payloadPlaced => Sys2Proof.Machine.execPayloadPlaced s
  | .jobStart c => Sys2Proof.Machine.execJobStart c s
  | .preemptionEnd c => Sys2Proof.Machine.execPreemptionEnd c s
  | .bestAssign c => Sys2Proof.Machine.execBestAssign c s
  | .bestResume c => Sys2Proof.Machine.execBestResume c s
  | .bestResumeEnd c => Sys2Proof.Machine.execBestResumeEnd c s
  | .cycleBudgetExpiry c => Sys2Proof.Machine.execCycleBudgetExpiry c s
  | .completionTx k => Sys2Proof.Machine.execCompletionTx k s
  | .journalOpen => Sys2Proof.Machine.execJournalOpen s
  | .blockClose => Sys2Proof.Machine.execBlockClose s
  | .journalExport seq => Sys2Proof.Machine.execJournalExport seq s
  | .journalSeal => Sys2Proof.Machine.execJournalSeal s
  | .scrubFreeze p => Sys2Proof.Machine.execScrubFreeze p s
  | .waitb c bit => Sys2Proof.Machine.execWaitb c bit s
  | .exit c ra rb => Sys2Proof.Machine.execExit c ra rb s
  -- core instructions
  | .add c rd ra rb => Sys2Proof.Machine.execAdd c rd ra rb s
  | .sub c rd ra rb => Sys2Proof.Machine.execSub c rd ra rb s
  | .and c rd ra rb => Sys2Proof.Machine.execAnd c rd ra rb s
  | .or c rd ra rb => Sys2Proof.Machine.execOr c rd ra rb s
  | .xor c rd ra rb => Sys2Proof.Machine.execXor c rd ra rb s
  | .andn c rd ra rb => Sys2Proof.Machine.execAndn c rd ra rb s
  | .orn c rd ra rb => Sys2Proof.Machine.execOrn c rd ra rb s
  | .nor c rd ra rb => Sys2Proof.Machine.execNor c rd ra rb s
  | .min c rd ra rb => Sys2Proof.Machine.execMin c rd ra rb s
  | .max c rd ra rb => Sys2Proof.Machine.execMax c rd ra rb s
  | .minu c rd ra rb => Sys2Proof.Machine.execMinu c rd ra rb s
  | .maxu c rd ra rb => Sys2Proof.Machine.execMaxu c rd ra rb s
  | .clz c rd ra => Sys2Proof.Machine.execClz c rd ra s
  | .popc c rd ra => Sys2Proof.Machine.execPopc c rd ra s
  | .bswap c rd ra => Sys2Proof.Machine.execBswap c rd ra s
  | .shl c rd ra rb => Sys2Proof.Machine.execShl c rd ra rb s
  | .shr c rd ra rb => Sys2Proof.Machine.execShr c rd ra rb s
  | .sha c rd ra rb => Sys2Proof.Machine.execSha c rd ra rb s
  | .ror c rd ra rb => Sys2Proof.Machine.execRor c rd ra rb s
  | .shli c rd ra amount => Sys2Proof.Machine.execShli c rd ra amount s
  | .shri c rd ra amount => Sys2Proof.Machine.execShri c rd ra amount s
  | .shai c rd ra amount => Sys2Proof.Machine.execShai c rd ra amount s
  | .rori c rd ra amount => Sys2Proof.Machine.execRori c rd ra amount s
  | .addi c rd ra imm16 => Sys2Proof.Machine.execAddi c rd ra imm16 s
  | .andi c rd ra imm16 => Sys2Proof.Machine.execAndi c rd ra imm16 s
  | .ori c rd ra imm16 => Sys2Proof.Machine.execOri c rd ra imm16 s
  | .xori c rd ra imm16 => Sys2Proof.Machine.execXori c rd ra imm16 s
  | .movhi c rd imm16 => Sys2Proof.Machine.execMovhi c rd imm16 s
  | .ext c rd ra pos len sign => Sys2Proof.Machine.execExt c rd ra pos len sign s
  | .ins c rd ra pos len => Sys2Proof.Machine.execIns c rd ra pos len s
  | .sel c rd ra rb sbit => Sys2Proof.Machine.execSel c rd ra rb sbit s
  | .mul c rd ra rb => Sys2Proof.Machine.execMul c rd ra rb s
  | .mulh c rd ra rb => Sys2Proof.Machine.execMulh c rd ra rb s
  | .mulhu c rd ra rb => Sys2Proof.Machine.execMulhu c rd ra rb s
  | .div c rd ra rb => Sys2Proof.Machine.execDiv c rd ra rb s
  | .divu c rd ra rb => Sys2Proof.Machine.execDivu c rd ra rb s
  | .rem c rd ra rb => Sys2Proof.Machine.execRem c rd ra rb s
  | .remu c rd ra rb => Sys2Proof.Machine.execRemu c rd ra rb s
  | .cmp c cond bd ra rb => Sys2Proof.Machine.execCmp c cond bd ra rb s
  | .cmpi c cond bd ra imm9 => Sys2Proof.Machine.execCmpi c cond bd ra imm9 s
  | .bset c bit => Sys2Proof.Machine.execBset c bit s
  | .bclr c bit => Sys2Proof.Machine.execBclr c bit s
  | .binv c bit => Sys2Proof.Machine.execBinv c bit s
  | .band c bd bs => Sys2Proof.Machine.execBand c bd bs s
  | .bor c bd bs => Sys2Proof.Machine.execBor c bd bs s
  | .bxor c bd bs => Sys2Proof.Machine.execBxor c bd bs s
  | .bandn c bd bs => Sys2Proof.Machine.execBandn c bd bs s
  | .bfr c rd len bit => Sys2Proof.Machine.execBfr c rd len bit s
  | .tas c rd off => Sys2Proof.Machine.execTas c rd off s
  | .tac c rd off => Sys2Proof.Machine.execTac c rd off s
  | .ldB c rd ra imm16 => Sys2Proof.Machine.execLdB c rd ra imm16 s
  | .ldBu c rd ra imm16 => Sys2Proof.Machine.execLdBu c rd ra imm16 s
  | .ldH c rd ra imm16 => Sys2Proof.Machine.execLdH c rd ra imm16 s
  | .ldHu c rd ra imm16 => Sys2Proof.Machine.execLdHu c rd ra imm16 s
  | .ldW c rd ra imm16 => Sys2Proof.Machine.execLdW c rd ra imm16 s
  | .ldD c rd ra imm16 => Sys2Proof.Machine.execLdD c rd ra imm16 s
  | .stB c rd ra imm16 => Sys2Proof.Machine.execStB c rd ra imm16 s
  | .stH c rd ra imm16 => Sys2Proof.Machine.execStH c rd ra imm16 s
  | .stW c rd ra imm16 => Sys2Proof.Machine.execStW c rd ra imm16 s
  | .stD c rd ra imm16 => Sys2Proof.Machine.execStD c rd ra imm16 s
  | .lut c rd ra rb => Sys2Proof.Machine.execLut c rd ra rb s
  | .luti c rd ra rb => Sys2Proof.Machine.execLuti c rd ra rb s
  | .ctlut c rd ra rb n w sign => Sys2Proof.Machine.execCtlut c rd ra rb n w sign s
  | .j c target => Sys2Proof.Machine.execJ c target s
  | .jal c rd target => Sys2Proof.Machine.execJal c rd target s
  | .jr c ra => Sys2Proof.Machine.execJr c ra s
  | .jalr c rd ra => Sys2Proof.Machine.execJalr c rd ra s
  | .bt c bs target => Sys2Proof.Machine.execBt c bs target s
  | .bf c bs target => Sys2Proof.Machine.execBf c bs target s
  | .bz c ra target => Sys2Proof.Machine.execBz c ra target s
  | .bnz c ra target => Sys2Proof.Machine.execBnz c ra target s
  | .loop c l le count => Sys2Proof.Machine.execLoop c l le count s
  | .loopr c l le ra => Sys2Proof.Machine.execLoopr c l le ra s
  | .mflb c l rd => Sys2Proof.Machine.execMflb c l rd s
  | .mfle c l rd => Sys2Proof.Machine.execMfle c l rd s
  | .mflc c l rd => Sys2Proof.Machine.execMflc c l rd s
  | .mtlc c l ra => Sys2Proof.Machine.execMtlc c l ra s
  | .submit c pool ticket ra => Sys2Proof.Machine.execSubmit c pool ticket ra s
  | .nop c => Sys2Proof.Machine.execNop c s
  | .trap c n => Sys2Proof.Machine.execTrap c n s
  | .cx c n rd ra rb imm7 => Sys2Proof.Machine.execCx c n rd ra rb imm7 s
  | .illegal c => Sys2Proof.Machine.execIllegal c s
  -- memory, the MMU and the movers
  | .patrolScrub cond => Sys2Proof.Machine.execPatrolScrub cond s
  | .recolourClear colour => Sys2Proof.Machine.execRecolourClear colour s
  | .recolourReencrypt colour => Sys2Proof.Machine.execRecolourReencrypt colour s
  | .sweepLine cond => Sys2Proof.Machine.execSweepLine cond s
  | .mmuTdataWrite value => Sys2Proof.Machine.execMmuTdataWrite value s
  | .moverGranule p ch => Sys2Proof.Machine.execMoverGranule p ch s
  | .mmuReqAppend => Sys2Proof.Machine.execMmuReqAppend s
  | .mmuReqPop => Sys2Proof.Machine.execMmuReqPop s
  | .descriptorResume p n => Sys2Proof.Machine.execDescriptorResume p n s
  | .regionArm => Sys2Proof.Machine.execRegionArm s
  | .restoreGo d r => Sys2Proof.Machine.execRestoreGo d r s
  | .restoreEnd lane => Sys2Proof.Machine.execRestoreEnd lane s
  -- the ART and faults
  | .artCopy => Sys2Proof.Machine.execArtCopy s
  | .artCopyEnd => Sys2Proof.Machine.execArtCopyEnd s
  | .artRuleWrite which value => Sys2Proof.Machine.execArtRuleWrite which value s
  | .artSwitch => Sys2Proof.Machine.execArtSwitch s
  | .artDrained => Sys2Proof.Machine.execArtDrained s
  | .faultRegister => Sys2Proof.Machine.execFaultRegister s
  | .graceExpiry d k => Sys2Proof.Machine.execGraceExpiry d k s
  | .quietExpiry d k => Sys2Proof.Machine.execQuietExpiry d k s
  | .fcuAck d k => Sys2Proof.Machine.execFcuAck d k s
  | .fcuRetire p => Sys2Proof.Machine.execFcuRetire p s
  -- the symmetric and digest pools and the key unit
  | .engineDispatch pool e => Sys2Proof.Machine.execEngineDispatch pool e s
  | .symYield e => Sys2Proof.Machine.execSymYield e s
  | .symCommandEnd e => Sys2Proof.Machine.execSymCommandEnd e s
  | .digCommandEnd e => Sys2Proof.Machine.execDigCommandEnd e s
  | .aesEcbEnc e => Sys2Proof.Machine.execAesEcbEnc e s
  | .aesEcbDec e => Sys2Proof.Machine.execAesEcbDec e s
  | .aesCbcEnc e => Sys2Proof.Machine.execAesCbcEnc e s
  | .aesCbcDec e => Sys2Proof.Machine.execAesCbcDec e s
  | .aesCtr e => Sys2Proof.Machine.execAesCtr e s
  | .aesGcmEnc e => Sys2Proof.Machine.execAesGcmEnc e s
  | .aesGcmDec e => Sys2Proof.Machine.execAesGcmDec e s
  | .aesCmacGen e => Sys2Proof.Machine.execAesCmacGen e s
  | .aesCmacVer e => Sys2Proof.Machine.execAesCmacVer e s
  | .tdesEcbEnc e => Sys2Proof.Machine.execTdesEcbEnc e s
  | .tdesEcbDec e => Sys2Proof.Machine.execTdesEcbDec e s
  | .tdesCbcEnc e => Sys2Proof.Machine.execTdesCbcEnc e s
  | .tdesCbcDec e => Sys2Proof.Machine.execTdesCbcDec e s
  | .tdesMacGen e => Sys2Proof.Machine.execTdesMacGen e s
  | .tdesMacVer e => Sys2Proof.Machine.execTdesMacVer e s
  | .ff1Enc e => Sys2Proof.Machine.execFf1Enc e s
  | .ff1Dec e => Sys2Proof.Machine.execFf1Dec e s
  | .pinTranslate e => Sys2Proof.Machine.execPinTranslate e s
  | .pvfVerify e => Sys2Proof.Machine.execPvfVerify e s
  | .pvfGenerate e => Sys2Proof.Machine.execPvfGenerate e s
  | .arqcVerify e => Sys2Proof.Machine.execArqcVerify e s
  | .arpcGenerate e => Sys2Proof.Machine.execArpcGenerate e s
  | .dukptPin e => Sys2Proof.Machine.execDukptPin e s
  | .dukptMacVer e => Sys2Proof.Machine.execDukptMacVer e s
  | .dukptDec e => Sys2Proof.Machine.execDukptDec e s
  | .kbImport e => Sys2Proof.Machine.execKbImport e s
  | .kbExport e => Sys2Proof.Machine.execKbExport e s
  | .hash e => Sys2Proof.Machine.execHash e s
  | .hmac e => Sys2Proof.Machine.execHmac e s
  | .hmacVerify e => Sys2Proof.Machine.execHmacVerify e s
  | .digInit e => Sys2Proof.Machine.execDigInit e s
  | .digUpdate e => Sys2Proof.Machine.execDigUpdate e s
  | .digFinal e => Sys2Proof.Machine.execDigFinal e s
  | .install index => Sys2Proof.Machine.execInstall index s
  | .replace index => Sys2Proof.Machine.execReplace index s
  | .remove index => Sys2Proof.Machine.execRemove index s
  | .keyInstDone => Sys2Proof.Machine.execKeyInstDone s
  | .pin index => Sys2Proof.Machine.execPin index s
  | .unpin index => Sys2Proof.Machine.execUnpin index s
  | .keyFetch k => Sys2Proof.Machine.execKeyFetch k s
  | .keyFetchEnd k => Sys2Proof.Machine.execKeyFetchEnd k s
  -- the public-key pool
  | .pkeEtuSchedule => Sys2Proof.Machine.execPkeEtuSchedule s
  | .pkeCommandEnd job ticket failed => Sys2Proof.Machine.execPkeCommandEnd job ticket failed s
  | .modprog job ticket => Sys2Proof.Machine.execModprog job ticket s
  | .keygen job ticket => Sys2Proof.Machine.execKeygen job ticket s
  | .sign job ticket => Sys2Proof.Machine.execSign job ticket s
  | .verify job ticket => Sys2Proof.Machine.execVerify job ticket s
  | .agree job ticket => Sys2Proof.Machine.execAgree job ticket s
  | .publicKey job ticket => Sys2Proof.Machine.execPublicKey job ticket s
  | .curveCheck job ticket => Sys2Proof.Machine.execCurveCheck job ticket s
  | .rsaSign job ticket => Sys2Proof.Machine.execRsaSign job ticket s
  | .rsaVerify job ticket => Sys2Proof.Machine.execRsaVerify job ticket s
  | .rsaDecrypt job ticket => Sys2Proof.Machine.execRsaDecrypt job ticket s
  | .rsaEncrypt job ticket => Sys2Proof.Machine.execRsaEncrypt job ticket s
  | .pkImport job ticket => Sys2Proof.Machine.execPkImport job ticket s
  -- the entropy unit
  | .entWindowEnd pair bits => Sys2Proof.Machine.execEntWindowEnd pair bits s
  | .entEstimateBlock pair => Sys2Proof.Machine.execEntEstimateBlock pair s
  | .reseedDueTimer => Sys2Proof.Machine.execReseedDueTimer s
  | .drbgReseed => Sys2Proof.Machine.execDrbgReseed s
  | .drbgServe => Sys2Proof.Machine.execDrbgServe s
  | .entReseed => Sys2Proof.Machine.execEntReseed s
  | .entReq units => Sys2Proof.Machine.execEntReq units s
  | .entReqDone => Sys2Proof.Machine.execEntReqDone s
  | .entSeedTimeout => Sys2Proof.Machine.execEntSeedTimeout s
  | .entTestRaw pair => Sys2Proof.Machine.execEntTestRaw pair s
  | .entTestPattern pair => Sys2Proof.Machine.execEntTestPattern pair s
  | .entTestOff pair => Sys2Proof.Machine.execEntTestOff pair s
  -- the tamper unit
  | .bedrockRestart => Sys2Proof.Machine.execBedrockRestart s
  | .tamperAck => Sys2Proof.Machine.execTamperAck s
  | .meshCompare levels => Sys2Proof.Machine.execMeshCompare levels s
  | .casePulse n pin => Sys2Proof.Machine.execCasePulse n pin s
  | .lightDetect diode => Sys2Proof.Machine.execLightDetect diode s
  | .vglitchDetect rail high => Sys2Proof.Machine.execVglitchDetect rail high s
  | .vrangeDetect rail high => Sys2Proof.Machine.execVrangeDetect rail high s
  | .refclkFail => Sys2Proof.Machine.execRefclkFail s
  | .pllUnlock which => Sys2Proof.Machine.execPllUnlock which s
  | .tempReading tj => Sys2Proof.Machine.execTempReading tj s
  | .tamperFiring turn => Sys2Proof.Machine.execTamperFiring turn s
  | .tmpUnlock key seq => Sys2Proof.Machine.execTmpUnlock key seq s
  | .tmpFlagsClear flags => Sys2Proof.Machine.execTmpFlagsClear flags s
  | .evidenceClear => Sys2Proof.Machine.execEvidenceClear s
  -- links, sessions and the federation
  | .linkDown k => Sys2Proof.Machine.execLinkDown k s
  | .linkUp k => Sys2Proof.Machine.execLinkUp k s
  | .frameReceive k corr bad frame => Sys2Proof.Machine.execFrameReceive k corr bad frame s
  | .arpRequest => Sys2Proof.Machine.execArpRequest s
  | .neighbourSolicitation => Sys2Proof.Machine.execNeighbourSolicitation s
  | .echoRequest => Sys2Proof.Machine.execEchoRequest s
  | .neighbourTimeout => Sys2Proof.Machine.execNeighbourTimeout s
  | .neighbourExpiry => Sys2Proof.Machine.execNeighbourExpiry s
  | .reassemblyTimeout => Sys2Proof.Machine.execReassemblyTimeout s
  | .contextFetch => Sys2Proof.Machine.execContextFetch s
  | .messageTx k => Sys2Proof.Machine.execMessageTx k s
  | .helloC => Sys2Proof.Machine.execHelloC s
  | .helloD => Sys2Proof.Machine.execHelloD s
  | .finishC => Sys2Proof.Machine.execFinishC s
  | .ready => Sys2Proof.Machine.execReady s
  | .reject => Sys2Proof.Machine.execReject s
  | .rekeyAck => Sys2Proof.Machine.execRekeyAck s
  | .rekeyReq => Sys2Proof.Machine.execRekeyReq s
  | .close => Sys2Proof.Machine.execClose s
  | .ping => Sys2Proof.Machine.execPing s
  | .pong => Sys2Proof.Machine.execPong s
  | .query => Sys2Proof.Machine.execQuery s
  | .app => Sys2Proof.Machine.execApp s
  | .handshakeTimeout ctx => Sys2Proof.Machine.execHandshakeTimeout ctx s
  | .rekeyTimeout ctx => Sys2Proof.Machine.execRekeyTimeout ctx s
  | .sessionIdle ctx => Sys2Proof.Machine.execSessionIdle ctx s
  | .sessionEpochDrained ctx => Sys2Proof.Machine.execSessionEpochDrained ctx s
  | .keepOpen addr => Sys2Proof.Machine.execKeepOpen addr s
  | .keepTx tail => Sys2Proof.Machine.execKeepTx tail s
  | .join => Sys2Proof.Machine.execJoin s
  | .welcome => Sys2Proof.Machine.execWelcome s
  | .beat => Sys2Proof.Machine.execBeat s
  | .timeQ => Sys2Proof.Machine.execTimeQ s
  | .timeR => Sys2Proof.Machine.execTimeR s
  | .keyset => Sys2Proof.Machine.execKeyset s
  | .readyE => Sys2Proof.Machine.execReadyE s
  | .leave => Sys2Proof.Machine.execLeave s
  | .beatTimer => Sys2Proof.Machine.execBeatTimer s
  | .timeQTimer => Sys2Proof.Machine.execTimeQTimer s
  | .memberLossTimeout => Sys2Proof.Machine.execMemberLossTimeout s
  | .fedRetry => Sys2Proof.Machine.execFedRetry s
  | .standbyTakeover => Sys2Proof.Machine.execStandbyTakeover s
  | .announce => Sys2Proof.Machine.execAnnounce s
  | .reclaim => Sys2Proof.Machine.execReclaim s
  | .fedSwitch => Sys2Proof.Machine.execFedSwitch s
  | .fedEpochDrained => Sys2Proof.Machine.execFedEpochDrained s
  | .rekey => Sys2Proof.Machine.execRekey s
  | .epochDone => Sys2Proof.Machine.execEpochDone s
  -- the flash controller
  | .recoverData off => Sys2Proof.Machine.execRecoverData off s
  | .program half => Sys2Proof.Machine.execProgram half s
  | .erase => Sys2Proof.Machine.execErase s
  | .blankCheck => Sys2Proof.Machine.execBlankCheck s
  | .suspend => Sys2Proof.Machine.execSuspend s
  | .resume => Sys2Proof.Machine.execResume s
  | .swap twin => Sys2Proof.Machine.execSwap twin s
  | .flashPulseEnd verified => Sys2Proof.Machine.execFlashPulseEnd verified s
  | .blankCheckEnd => Sys2Proof.Machine.execBlankCheckEnd s
  | .holdoffExpiry => Sys2Proof.Machine.execHoldoffExpiry s
  | .infoRecordWrite => Sys2Proof.Machine.execInfoRecordWrite s
  | .ledgerCompaction => Sys2Proof.Machine.execLedgerCompaction s
  -- card slots, ceremonies and the storage card
  | .iccActivate n => Sys2Proof.Machine.execIccActivate n s
  | .iccExchange n clen => Sys2Proof.Machine.execIccExchange n clen s
  | .iccDeactivate n => Sys2Proof.Machine.execIccDeactivate n s
  | .iccComponent n index => Sys2Proof.Machine.execIccComponent n index s
  | .iccCharacterReceive n b kind => Sys2Proof.Machine.execIccCharacterReceive n b kind s
  | .iccWaitTimeout n => Sys2Proof.Machine.execIccWaitTimeout n s
  | .iccClassRetry n => Sys2Proof.Machine.execIccClassRetry n s
  | .iccClockStop n => Sys2Proof.Machine.execIccClockStop n s
  | .iccCardPresent n => Sys2Proof.Machine.execIccCardPresent n s
  | .iccCardRemoved n => Sys2Proof.Machine.execIccCardRemoved n s
  | .cerOpen target n dome => Sys2Proof.Machine.execCerOpen target n dome s
  | .cerFinish => Sys2Proof.Machine.execCerFinish s
  | .cerClose => Sys2Proof.Machine.execCerClose s
  | .cerImport => Sys2Proof.Machine.execCerImport s
  | .ceremonyTimeout => Sys2Proof.Machine.execCeremonyTimeout s
  | .sdhInit => Sys2Proof.Machine.execSdhInit s
  | .sdhRead => Sys2Proof.Machine.execSdhRead s
  | .sdhWrite => Sys2Proof.Machine.execSdhWrite s
  | .sleep => Sys2Proof.Machine.execSleep s
  | .awake => Sys2Proof.Machine.execAwake s
  | .rpmbCounter => Sys2Proof.Machine.execRpmbCounter s
  | .rpmbWrite => Sys2Proof.Machine.execRpmbWrite s
  | .rpmbRead => Sys2Proof.Machine.execRpmbRead s
  | .rpmbKey => Sys2Proof.Machine.execRpmbKey s
  | .csaWrite area => Sys2Proof.Machine.execCsaWrite area s
  | .csaRead area => Sys2Proof.Machine.execCsaRead area s
  | .settle => Sys2Proof.Machine.execSettle s
  | .powerOff => Sys2Proof.Machine.execPowerOff s
  | .sdResponse kind sent => Sys2Proof.Machine.execSdResponse kind sent s
  | .sdWaitTimeout => Sys2Proof.Machine.execSdWaitTimeout s
  | .sdCardPresent => Sys2Proof.Machine.execSdCardPresent s
  | .sdCardRemoved => Sys2Proof.Machine.execSdCardRemoved s
  | .csaCommit => Sys2Proof.Machine.execCsaCommit s
  -- the contactless unit
  | .fieldDetect => Sys2Proof.Machine.execFieldDetect s
  | .fieldLoss => Sys2Proof.Machine.execFieldLoss s
  | .fieldCollapse => Sys2Proof.Machine.execFieldCollapse s
  | .fieldOn => Sys2Proof.Machine.execFieldOn s
  | .carrierGuardEnd => Sys2Proof.Machine.execCarrierGuardEnd s
  | .clfActivate => Sys2Proof.Machine.execClfActivate s
  | .clfExchange clen => Sys2Proof.Machine.execClfExchange clen s
  | .clfAuth => Sys2Proof.Machine.execClfAuth s
  | .secureExchange clen => Sys2Proof.Machine.execSecureExchange clen s
  | .clfDeactivate => Sys2Proof.Machine.execClfDeactivate s
  | .fieldOff => Sys2Proof.Machine.execFieldOff s
  | .clfFrameReceive frame crc coll => Sys2Proof.Machine.execClfFrameReceive frame crc coll s
  | .clfFwtExpiry => Sys2Proof.Machine.execClfFwtExpiry s
  | .carrierResetEnd => Sys2Proof.Machine.execCarrierResetEnd s
  | .tagFrameReceive frame => Sys2Proof.Machine.execTagFrameReceive frame s
  | .authBegin cla p1 p2 data le jitter => Sys2Proof.Machine.execAuthBegin cla p1 p2 data le jitter s
  | .authFinish cla p1 p2 data => Sys2Proof.Machine.execAuthFinish cla p1 p2 data s
  | .endSession cla p1 p2 data => Sys2Proof.Machine.execEndSession cla p1 p2 data s
  | .tagRead cla p1 p2 data le => Sys2Proof.Machine.execTagRead cla p1 p2 data le s
  | .status cla p1 p2 data => Sys2Proof.Machine.execStatus cla p1 p2 data s
  | .tagWrite cla p1 p2 data => Sys2Proof.Machine.execTagWrite cla p1 p2 data s
  | .commit cla p1 p2 data => Sys2Proof.Machine.execCommit cla p1 p2 data s
  | .ack cla p1 p2 data => Sys2Proof.Machine.execAck cla p1 p2 data s
  | .tagBackoffExpiry => Sys2Proof.Machine.execTagBackoffExpiry s
  | .tagKeyLoad index => Sys2Proof.Machine.execTagKeyLoad index s
  | .tagKeyLoadEnd => Sys2Proof.Machine.execTagKeyLoadEnd s
  | .tagKeyClear => Sys2Proof.Machine.execTagKeyClear s
  | .mailboxRelease mask => Sys2Proof.Machine.execMailboxRelease mask s
  | .mailboxPublish mask len => Sys2Proof.Machine.execMailboxPublish mask len s

end Sys2Proof.Machine
end

