-- ==== Sys2Proof/Machine/Tick.lean ====
section
/-!
DEFINITION. A tick: what the block does by itself when no command waits (DESIGN CHOICE, log 1).
-/

namespace Sys2Proof.Machine

/-- Every spire goes to the state that R29 and R99 give it, while the firmware runs. -/
def State.settleTick (s : State) : State :=
  if s.spiresRun ∧ 8 ≤ s.get R.RST_BOOT_PHASE ∧ s.get R.RST_BOOT_PHASE ≤ 12 ∧ s.pwr.seq = .none then s.settleAll else s

/-- A unit goes on whose read has waited for the flash (R503). -/
def State.heldRun (s : State) (c : FlUnit) : State :=
  match c with
  | .keyInst => s.instDone
  | .cerImport => s.cerImport
  | .icc n clen => s.iccExchange n clen
  | .clf clen => s.clfExchange clen
  | .secure clen => s.clfSecure clen
  | .keepTx tail => s.keepTx tail
  | .keepOpen addr => s.keepOpen addr
  | .sd kind crc data => s.sdResponse kind crc data

/-- The first of the units that wait for the flash goes on, if its read can be served now. -/
def State.heldGo (s : State) : State := match s.heldNext with | some r => r.2.heldRun r.1 | none => s

/-- With main power on, one edge of the time base (R90): register writes of units' transfers arrive (R41), the structure loader
(R137), the flash controller (R502) with the units that waited for it (R503), a tamper firing (R438), the sequences of the device's power states and boot (R69, R104, R105,
R109) and the card and badge readers' own waits (R529, R547) go on; without it, one bedrock tick (R92). -/
def State.tick (s : State) : State :=
  if s.mainOn then
    let s1 := s.clockEdge.whenRuns fun s => s.regDrain.stbTick
    let s2 := (s1.flcTick.whenRuns State.heldGo).firingTick.seqTick
    (s2.whenRuns fun s => s.sdAgain.rdSfgt).settleTick
  else s.bedrockTick

end Sys2Proof.Machine
end

