-- ==== Sys2Proof/Safety.lean ====
section
/-!
DEFINITION. The terms the statements are made in: when a core issues an instruction, and runs that go on.
-/

namespace Sys2Proof.Machine

/-- Core `c` issues `op` for job `j` without an exception: the core-clock domain runs, the job is RUNNING on the core with
cycles left, and the word at the core's pc is that instruction (R189, R242, R275). -/
abbrev State.issues (s : State) (c : Nat) (j : Job) (op : Op) : Prop :=
  s.spiresRun = true ∧ s.issuer c = some j ∧ decodeCore (s.fetchWord c) = some op ∧ s.exception c (s.core c).age j op = none

/-- The command on SYM engine `e` is `c`, with descriptor `d` of operation `op`; it has passed its checks and has not
performed its operation yet (R342, R346). -/
abbrev State.symReady (s : State) (e : Nat) (op : SymOp) (c : Cmd) (d : SymD) : Prop :=
  s.onEngine 0 e = some c ∧ symDesc c.desc = some d ∧ d.op = op ∧ c.checked = true ∧ c.code = none

/-- The command on DIG engine `e` is `c`, of operation `op`; it has passed its checks and has not performed its operation
yet (R346, R368). -/
abbrev State.digReady (s : State) (e op : Nat) (c : Cmd) : Prop :=
  s.onEngine 1 e = some c ∧ (digDesc c.desc).op = op ∧ c.checked = true ∧ c.code = none

/-- The PKE command a job submitted under a ticket is `c`, of operation `op`; it runs on engine `e`, has passed its checks
and has not performed its operation yet (R389). -/
abbrev State.pkReady (s : State) (job ticket e op : Nat) (c : Cmd) : Prop :=
  s.cmdOf job ticket = some c ∧ c.pool = 2 ∧ c.st = .running e ∧ c.checked = true ∧ c.code = none ∧ (pkDesc c.desc).op = op

/-- A PKE command has its result: the code, and the output for OUT where the code is OK (R378, R391). A check before release has
something to judge where there is a result, or a private operation of RSA_DECRYPT or AGREE was made (R399, R400), and what it finds
is kept for the command's end. -/
abbrev State.pkDone (s : State) (c : Cmd) (r : PkRes) : State :=
  let d := pkDesc c.desc
  let proven := r.1 == 0 || (d.op == 0x22 && pkRsaRan (s.pkRun c)) || (d.op == 0x13 && pkAgreeRan (s.pkRun c))
  s.doneCmd { c with proven := proven, wrong := proven && pkChecked d.op && !pkCheck (s.pkRun c) r.2 } r.1 r.2.length
    (if r.1 = 0 ∧ r.2 ≠ [] then [(c.phys d.out, r.2)] else [])

/-- The PKE command that SES has submitted for context `i` is `c`; it runs on engine `e` and has its code (R465). -/
abbrev State.pkUnit (s : State) (i e : Nat) (c : Cmd) (code : Nat) : Prop :=
  s.cmdOf (sesJob i) 0 = some c ∧ c.job = sesJob i ∧ c.pool = 2 ∧ c.st = .running e ∧ c.code = some code

/-- What a window's 1,024 bits show: the longest run and the counts the tests of R415 use. -/
abbrev State.scan (s : State) (p : Nat) (bits : List Byte) : Scan :=
  (windowBits bits).foldl Scan.step { last := (s.pair p).last, run := (s.pair p).run, best := 0, ones := 0, same := 0 }

/-- The oldest message of a kind that SES has received is `m`, in session context `i` (R462). -/
abbrev State.hasMsg (s : State) (kind : Nat) (m : RxMsg) (i : Nat) : Prop :=
  s.ses.inbox.find? (fun x => x.kind == kind) = some m ∧ m.ctx = some i

/-- The oldest federation message of a type is `m`, in session context `i` (R478). -/
abbrev State.hasFed (s : State) (ty : Nat) (m : RxMsg) (i : Nat) : Prop :=
  s.ses.inbox.find? (fun x => s.fedMsg x && fld x.body 0 1 == ty) = some m ∧ m.ctx = some i

/-- A message has been taken from those received. -/
abbrev State.took (s : State) (m : RxMsg) : State := s.setSes { s.ses with inbox := s.ses.inbox.erase m }

/-- From `s`, job `j` has ended with HANDLER_FAULT and a DETAIL, and the instruction that it met has not been performed (R189,
R233, R234): it ends DONE with STATUS 0x0120, it is counted, vector 80 is raised, and the FCU is told; its descriptors stop,
and no core's registers or bits change. Where its session is open, with its context on die, its completion is queued: it stays
with its outcome until that is sent, its commands are abandoned, and memory is as before. Where its session is closed it
leaves flight. -/
def State.faulted (s t : State) (j : Job) (detail : Nat) : Prop :=
  let done := (s.endJob j .done 0x0120 detail []).count R.JSC_HFAULT_COUNT
  t = (done.cause R.JSC_EVENTS_CAUSE 80 80).report
      { source := 1, agent := j.core.getD 0, dome := j.dome, addr := detail, spire := j.spire }
  ∧ 80 ∈ t.irq
  ∧ (∃ m ∈ t.faultQ, m.source = 1 ∧ m.addr = detail ∧ m.dome = j.dome)
  ∧ t.mover = s.mover.map (fun d => if d.job = j.id then { d with stop := true, faulted := false } else d)
  ∧ (∀ d, (t.core d).regs = (s.core d).regs ∧ (t.core d).bits = (s.core d).bits)
  ∧ (s.jobSession j = none → t.job j.id = none ∧ t.get R.JSC_HFAULT_COUNT = satInc 32 (s.get R.JSC_HFAULT_COUNT)
      ∧ t.cmds = s.cmds.filter (fun (c : Cmd) => c.job != j.id))
  ∧ ∀ i x, s.jobSession j = some (i, x) → i ∈ s.ses.cache →
      (t.job j.id).map (fun k => (k.st, k.status, k.detail)) = some (.done, 0x0120, detail)
      ∧ t.get R.JSC_HFAULT_COUNT = satInc 32 (s.get R.JSC_HFAULT_COUNT)
      ∧ t.cmds = s.cmds.filter (fun (c : Cmd) => c.job != j.id)
      ∧ t.mem = s.mem

/-- Every step of a state's run goes on: the block never stops. -/
def Runs : Nat → State → Prop
  | 0, _ => True
  | n + 1, s => ∃ t, step s = .next t ∧ Runs n t

end Sys2Proof.Machine
end

