-- ==== Sys2Proof/WellFormed.lean ====
section
/-!
DEFINITION. Which commands are well formed: every operand within the width its register field, encoding field or index
has in the spec.
-/

namespace Sys2Proof

/-- The operand checks of a command. -/
def Instr.wf (i : Instr) : Bool :=
  match i with
  -- registers and transfers
  | .registerWrite addr value => decide (addr < 2 ^ 40) && decide (value < 2 ^ 64)
  | .transfer agent who job type addr _ _ cond bus _ =>
    decide (agent < 1024) && decide (who < 2 ^ 18) && decide (job < 2 ^ 64) && decide (type < 3) && decide (addr < 2 ^ 40)
      && decide (cond < 5) && bus.all (fun e => decide (e.part < 3) && decide (e.side < 1024))
  -- supplies, clocks, time and power states
  | .mainPowerUp found => decide (found.defects < 2 ^ 18)
  | .pwrOkLow => true
  | .bedrockChangeover _ => true
  | .bedrockTrip => true
  | .crystalFail => true
  | .crystalRecover => true
  | .timePairLatch => true
  | .timeSet value => decide (value < 2 ^ 64)
  | .timeAlarmMatch => true
  | .dozeIdleExpiry p => decide (p < 32)
  | .napIdleExpiry p => decide (p < 32)
  | .spireTransitionEnd p => decide (p < 32)
  | .pwrCeilWrite ceil => decide (ceil < 8)
  | .pwrCeilForce ceil => decide (ceil < 8)
  | .pwrBudgetWrite us => decide (us < 2 ^ 16)
  | .deepIdleExpiry => true
  | .holdReady => true
  | .railsInRange => true
  -- reset, boot, lifecycle and the management port
  | .nresetLow => true
  | .swreset => true
  | .bootReady => true
  | .bootWatchdogExpiry => true
  | .rstConfirm => true
  | .rstConfirmRaise => true
  | .lifecycleAdvance key target => decide (key < 2 ^ 16) && decide (target < 4)
  | .fuseProgramEnd => true
  | .mgtRead addr words _ => decide (addr < 2 ^ 16) && decide (0 < words) && decide (words < 65)
  | .mgtWrite addr words crc _ => decide (addr < 2 ^ 16) && decide (words.length < 65) && decide (crc < 2 ^ 16)
  | .mgtQstat => true
  | .wake => true
  | .resetDevice => true
  | .bootSelect arg => decide (arg < 2 ^ 32)
  | .clearAlert mask => decide (mask < 2 ^ 32)
  | .readEvidence page => decide (page < 2 ^ 32)
  | .recoverCommit len => decide (len < 2 ^ 32)
  | .clearErr => true
  | .mgtCommandDone => true
  | .nwakeLow => true
  -- structure bitstreams
  | .stbStart _ dome => decide (dome < 64)
  | .stbAbort => true
  | .stbNone => true
  | .spireReload p => decide (p < 32)
  | .spireReloadEnd p => decide (p < 32)
  | .domeDrained d => decide (d < 64)
  | .stbRaiseWhole => true
  | .stbRaiseDomv d => decide (d < 64)
  | .stbRaiseDone => true
  -- jobs, promises and the journal
  | .jobRequest => true
  | .payloadPlaced => true
  | .jobStart c => decide (c < 512)
  | .preemptionEnd c => decide (c < 512)
  | .bestAssign c => decide (c < 512)
  | .bestResume c => decide (c < 512)
  | .bestResumeEnd c => decide (c < 512)
  | .cycleBudgetExpiry c => decide (c < 512)
  | .completionTx k => decide (k < 16)
  | .journalOpen => true
  | .blockClose => true
  | .journalExport seq => decide (seq < 2 ^ 64)
  | .journalSeal => true
  | .scrubFreeze p => decide (p < 32)
  | .waitb c bit => decide (c < 512) && decide (bit < 65536)
  | .exit c ra rb => decide (c < 512) && decide (ra < 32) && decide (rb < 32)
  -- core instructions
  | .add c rd ra rb => decide (c < 512) && decide (rd < 32) && decide (ra < 32) && decide (rb < 32)
  | .sub c rd ra rb => decide (c < 512) && decide (rd < 32) && decide (ra < 32) && decide (rb < 32)
  | .and c rd ra rb => decide (c < 512) && decide (rd < 32) && decide (ra < 32) && decide (rb < 32)
  | .or c rd ra rb => decide (c < 512) && decide (rd < 32) && decide (ra < 32) && decide (rb < 32)
  | .xor c rd ra rb => decide (c < 512) && decide (rd < 32) && decide (ra < 32) && decide (rb < 32)
  | .andn c rd ra rb => decide (c < 512) && decide (rd < 32) && decide (ra < 32) && decide (rb < 32)
  | .orn c rd ra rb => decide (c < 512) && decide (rd < 32) && decide (ra < 32) && decide (rb < 32)
  | .nor c rd ra rb => decide (c < 512) && decide (rd < 32) && decide (ra < 32) && decide (rb < 32)
  | .min c rd ra rb => decide (c < 512) && decide (rd < 32) && decide (ra < 32) && decide (rb < 32)
  | .max c rd ra rb => decide (c < 512) && decide (rd < 32) && decide (ra < 32) && decide (rb < 32)
  | .minu c rd ra rb => decide (c < 512) && decide (rd < 32) && decide (ra < 32) && decide (rb < 32)
  | .maxu c rd ra rb => decide (c < 512) && decide (rd < 32) && decide (ra < 32) && decide (rb < 32)
  | .clz c rd ra => decide (c < 512) && decide (rd < 32) && decide (ra < 32)
  | .popc c rd ra => decide (c < 512) && decide (rd < 32) && decide (ra < 32)
  | .bswap c rd ra => decide (c < 512) && decide (rd < 32) && decide (ra < 32)
  | .shl c rd ra rb => decide (c < 512) && decide (rd < 32) && decide (ra < 32) && decide (rb < 32)
  | .shr c rd ra rb => decide (c < 512) && decide (rd < 32) && decide (ra < 32) && decide (rb < 32)
  | .sha c rd ra rb => decide (c < 512) && decide (rd < 32) && decide (ra < 32) && decide (rb < 32)
  | .ror c rd ra rb => decide (c < 512) && decide (rd < 32) && decide (ra < 32) && decide (rb < 32)
  | .shli c rd ra amount => decide (c < 512) && decide (rd < 32) && decide (ra < 32) && decide (amount < 32)
  | .shri c rd ra amount => decide (c < 512) && decide (rd < 32) && decide (ra < 32) && decide (amount < 32)
  | .shai c rd ra amount => decide (c < 512) && decide (rd < 32) && decide (ra < 32) && decide (amount < 32)
  | .rori c rd ra amount => decide (c < 512) && decide (rd < 32) && decide (ra < 32) && decide (amount < 32)
  | .addi c rd ra imm16 => decide (c < 512) && decide (rd < 32) && decide (ra < 32) && decide (imm16 < 65536)
  | .andi c rd ra imm16 => decide (c < 512) && decide (rd < 32) && decide (ra < 32) && decide (imm16 < 65536)
  | .ori c rd ra imm16 => decide (c < 512) && decide (rd < 32) && decide (ra < 32) && decide (imm16 < 65536)
  | .xori c rd ra imm16 => decide (c < 512) && decide (rd < 32) && decide (ra < 32) && decide (imm16 < 65536)
  | .movhi c rd imm16 => decide (c < 512) && decide (rd < 32) && decide (imm16 < 65536)
  | .ext c rd ra pos len _ =>
    decide (c < 512) && decide (rd < 32) && decide (ra < 32) && decide (pos < 32) && decide (0 < len) && decide
      (len < 33)
  | .ins c rd ra pos len =>
    decide (c < 512) && decide (rd < 32) && decide (ra < 32) && decide (pos < 32) && decide (0 < len) && decide
      (len < 33)
  | .sel c rd ra rb sbit =>
    decide (c < 512) && decide (rd < 32) && decide (ra < 32) && decide (rb < 32) && decide (sbit < 2048)
  | .mul c rd ra rb => decide (c < 512) && decide (rd < 32) && decide (ra < 32) && decide (rb < 32)
  | .mulh c rd ra rb => decide (c < 512) && decide (rd < 32) && decide (ra < 32) && decide (rb < 32)
  | .mulhu c rd ra rb => decide (c < 512) && decide (rd < 32) && decide (ra < 32) && decide (rb < 32)
  | .div c rd ra rb => decide (c < 512) && decide (rd < 32) && decide (ra < 32) && decide (rb < 32)
  | .divu c rd ra rb => decide (c < 512) && decide (rd < 32) && decide (ra < 32) && decide (rb < 32)
  | .rem c rd ra rb => decide (c < 512) && decide (rd < 32) && decide (ra < 32) && decide (rb < 32)
  | .remu c rd ra rb => decide (c < 512) && decide (rd < 32) && decide (ra < 32) && decide (rb < 32)
  | .cmp c cond bd ra rb =>
    decide (c < 512) && decide (cond < 12) && decide (bd < 4096) && decide (ra < 32) && decide (rb < 32)
  | .cmpi c cond bd ra imm9 =>
    decide (c < 512) && decide (cond < 8) && decide (bd < 4096) && decide (ra < 32) && decide (imm9 < 512)
  | .bset c bit => decide (c < 512) && decide (bit < 65536)
  | .bclr c bit => decide (c < 512) && decide (bit < 65536)
  | .binv c bit => decide (c < 512) && decide (bit < 65536)
  | .band c bd bs => decide (c < 512) && decide (bd < 4096) && decide (bs < 4096)
  | .bor c bd bs => decide (c < 512) && decide (bd < 4096) && decide (bs < 4096)
  | .bxor c bd bs => decide (c < 512) && decide (bd < 4096) && decide (bs < 4096)
  | .bandn c bd bs => decide (c < 512) && decide (bd < 4096) && decide (bs < 4096)
  | .bfr c rd len bit =>
    decide (c < 512) && decide (rd < 32) && decide (0 < len) && decide (len < 33) && decide (bit < 65536)
  | .tas c rd off => decide (c < 512) && decide (rd < 32) && decide (off < 28672)
  | .tac c rd off => decide (c < 512) && decide (rd < 32) && decide (off < 28672)
  | .ldB c rd ra imm16 => decide (c < 512) && decide (rd < 32) && decide (ra < 32) && decide (imm16 < 65536)
  | .ldBu c rd ra imm16 => decide (c < 512) && decide (rd < 32) && decide (ra < 32) && decide (imm16 < 65536)
  | .ldH c rd ra imm16 => decide (c < 512) && decide (rd < 32) && decide (ra < 32) && decide (imm16 < 65536)
  | .ldHu c rd ra imm16 => decide (c < 512) && decide (rd < 32) && decide (ra < 32) && decide (imm16 < 65536)
  | .ldW c rd ra imm16 => decide (c < 512) && decide (rd < 32) && decide (ra < 32) && decide (imm16 < 65536)
  | .ldD c rd ra imm16 => decide (c < 512) && decide (rd < 32) && decide (ra < 32) && decide (imm16 < 65536)
  | .stB c rd ra imm16 => decide (c < 512) && decide (rd < 32) && decide (ra < 32) && decide (imm16 < 65536)
  | .stH c rd ra imm16 => decide (c < 512) && decide (rd < 32) && decide (ra < 32) && decide (imm16 < 65536)
  | .stW c rd ra imm16 => decide (c < 512) && decide (rd < 32) && decide (ra < 32) && decide (imm16 < 65536)
  | .stD c rd ra imm16 => decide (c < 512) && decide (rd < 32) && decide (ra < 32) && decide (imm16 < 65536)
  | .lut c rd ra rb => decide (c < 512) && decide (rd < 32) && decide (ra < 32) && decide (rb < 32)
  | .luti c rd ra rb => decide (c < 512) && decide (rd < 32) && decide (ra < 32) && decide (rb < 32)
  | .ctlut c rd ra rb n w _ =>
    decide (c < 512) && decide (rd < 32) && decide (ra < 32) && decide (rb < 32) && decide (0 < n) && decide (n
      < 65) && decide (w < 3)
  | .j c target => decide (c < 512) && decide (target < 16384)
  | .jal c rd target => decide (c < 512) && decide (rd < 32) && decide (target < 16384)
  | .jr c ra => decide (c < 512) && decide (ra < 32)
  | .jalr c rd ra => decide (c < 512) && decide (rd < 32) && decide (ra < 32)
  | .bt c bs target => decide (c < 512) && decide (bs < 4096) && decide (target < 16384)
  | .bf c bs target => decide (c < 512) && decide (bs < 4096) && decide (target < 16384)
  | .bz c ra target => decide (c < 512) && decide (ra < 32) && decide (target < 16384)
  | .bnz c ra target => decide (c < 512) && decide (ra < 32) && decide (target < 16384)
  | .loop c l le count => decide (c < 512) && decide (l < 3) && decide (le < 16384) && decide (count < 1024)
  | .loopr c l le ra => decide (c < 512) && decide (l < 3) && decide (le < 16384) && decide (ra < 32)
  | .mflb c l rd => decide (c < 512) && decide (l < 3) && decide (rd < 32)
  | .mfle c l rd => decide (c < 512) && decide (l < 3) && decide (rd < 32)
  | .mflc c l rd => decide (c < 512) && decide (l < 3) && decide (rd < 32)
  | .mtlc c l ra => decide (c < 512) && decide (l < 3) && decide (ra < 32)
  | .submit c pool ticket ra => decide (c < 512) && decide (pool < 4) && decide (ticket < 256) && decide (ra < 32)
  | .nop c => decide (c < 512)
  | .trap c n => decide (c < 512) && decide (n < 256)
  | .cx c n rd ra rb imm7 =>
    decide (c < 512) && decide (n < 16) && decide (rd < 32) && decide (ra < 32) && decide (rb < 32) && decide
      (imm7 < 128)
  | .illegal c => decide (c < 512)
  -- memory, the MMU and the movers
  | .patrolScrub cond => decide (cond < 4)
  | .recolourClear colour => decide (colour < 64)
  | .recolourReencrypt colour => decide (colour < 64)
  | .sweepLine cond => decide (cond < 4)
  | .mmuTdataWrite value => decide (value < 2 ^ 64)
  | .moverGranule p ch => decide (p < 32) && decide (ch < 4)
  | .mmuReqAppend => true
  | .mmuReqPop => true
  | .descriptorResume p n => decide (p < 32) && decide (n < 256)
  | .regionArm => true
  | .restoreGo d r => decide (d < 64) && decide (r < 64)
  | .restoreEnd lane => decide (lane < 2)
  -- the ART and faults
  | .artCopy => true
  | .artCopyEnd => true
  | .artRuleWrite which value => decide (which < 6) && decide (value < 2 ^ 64)
  | .artSwitch => true
  | .artDrained => true
  | .faultRegister => true
  | .graceExpiry d k => decide (d < 64) && decide (k < 4)
  | .quietExpiry d k => decide (d < 64) && decide (k < 4)
  | .fcuAck d k => decide (d < 64) && decide (k < 4)
  | .fcuRetire p => decide (p < 32)
  -- the symmetric and digest pools and the key unit
  | .engineDispatch pool e => decide (pool < 2) && decide (e < 32)
  | .symYield e => decide (e < 64)
  | .symCommandEnd e => decide (e < 32)
  | .digCommandEnd e => decide (e < 32)
  | .aesEcbEnc e => decide (e < 32)
  | .aesEcbDec e => decide (e < 32)
  | .aesCbcEnc e => decide (e < 32)
  | .aesCbcDec e => decide (e < 32)
  | .aesCtr e => decide (e < 32)
  | .aesGcmEnc e => decide (e < 32)
  | .aesGcmDec e => decide (e < 32)
  | .aesCmacGen e => decide (e < 32)
  | .aesCmacVer e => decide (e < 32)
  | .tdesEcbEnc e => decide (e < 32)
  | .tdesEcbDec e => decide (e < 32)
  | .tdesCbcEnc e => decide (e < 32)
  | .tdesCbcDec e => decide (e < 32)
  | .tdesMacGen e => decide (e < 32)
  | .tdesMacVer e => decide (e < 32)
  | .ff1Enc e => decide (e < 32)
  | .ff1Dec e => decide (e < 32)
  | .pinTranslate e => decide (e < 32)
  | .pvfVerify e => decide (e < 32)
  | .pvfGenerate e => decide (e < 32)
  | .arqcVerify e => decide (e < 32)
  | .arpcGenerate e => decide (e < 32)
  | .dukptPin e => decide (e < 32)
  | .dukptMacVer e => decide (e < 32)
  | .dukptDec e => decide (e < 32)
  | .kbImport e => decide (e < 32)
  | .kbExport e => decide (e < 32)
  | .hash e => decide (e < 32)
  | .hmac e => decide (e < 32)
  | .hmacVerify e => decide (e < 32)
  | .digInit e => decide (e < 32)
  | .digUpdate e => decide (e < 32)
  | .digFinal e => decide (e < 32)
  | .install index => decide (index < 2 ^ 24)
  | .replace index => decide (index < 2 ^ 24)
  | .remove index => decide (index < 2 ^ 24)
  | .keyInstDone => true
  | .pin index => decide (index < 2 ^ 24)
  | .unpin index => decide (index < 2 ^ 24)
  | .keyFetch k => decide (k < 8192)
  | .keyFetchEnd k => decide (k < 8192)
  -- the public-key pool
  | .pkeEtuSchedule => true
  | .pkeCommandEnd job ticket _ => decide (job < 2 ^ 33) && decide (ticket < 256)
  | .modprog job ticket => decide (job < 2 ^ 33) && decide (ticket < 256)
  | .keygen job ticket => decide (job < 2 ^ 33) && decide (ticket < 256)
  | .sign job ticket => decide (job < 2 ^ 33) && decide (ticket < 256)
  | .verify job ticket => decide (job < 2 ^ 33) && decide (ticket < 256)
  | .agree job ticket => decide (job < 2 ^ 33) && decide (ticket < 256)
  | .publicKey job ticket => decide (job < 2 ^ 33) && decide (ticket < 256)
  | .curveCheck job ticket => decide (job < 2 ^ 33) && decide (ticket < 256)
  | .rsaSign job ticket => decide (job < 2 ^ 33) && decide (ticket < 256)
  | .rsaVerify job ticket => decide (job < 2 ^ 33) && decide (ticket < 256)
  | .rsaDecrypt job ticket => decide (job < 2 ^ 33) && decide (ticket < 256)
  | .rsaEncrypt job ticket => decide (job < 2 ^ 33) && decide (ticket < 256)
  | .pkImport job ticket => decide (job < 2 ^ 33) && decide (ticket < 256)
  -- the entropy unit
  | .entWindowEnd pair bits => decide (pair < 8) && bits.length == 128
  | .entEstimateBlock pair => decide (pair < 8)
  | .reseedDueTimer => true
  | .drbgReseed => true
  | .drbgServe => true
  | .entReseed => true
  | .entReq units => decide (units < 2 ^ 11)
  | .entReqDone => true
  | .entSeedTimeout => true
  | .entTestRaw pair => decide (pair < 8)
  | .entTestPattern pair => decide (pair < 8)
  | .entTestOff pair => decide (pair < 8)
  -- the tamper unit
  | .bedrockRestart => true
  | .tamperAck => true
  | .meshCompare levels => decide (levels < 64)
  | .casePulse n _ => decide (n < 4)
  | .lightDetect diode => decide (diode < 256)
  | .vglitchDetect rail _ => decide (rail < 7)
  | .vrangeDetect rail _ => decide (rail < 7)
  | .refclkFail => true
  | .pllUnlock which => decide (1 < which) && decide (which < 6)
  | .tempReading tj => decide (tj < 4096)
  | .tamperFiring turn => decide (1 ≤ turn.steps ∧ turn.steps ≤ 9)
  | .tmpUnlock key seq => decide (key < 2 ^ 16) && decide (seq < 2 ^ 16)
  | .tmpFlagsClear flags => decide (flags < 2 ^ 17)
  | .evidenceClear => true
  -- links, sessions and the federation
  | .linkDown k => decide (k < 16)
  | .linkUp k => decide (k < 16)
  | .frameReceive k _ _ _ => decide (k < 16)
  | .arpRequest => true
  | .neighbourSolicitation => true
  | .echoRequest => true
  | .neighbourTimeout => true
  | .neighbourExpiry => true
  | .reassemblyTimeout => true
  | .contextFetch => true
  | .messageTx k => decide (k < 16)
  | .helloC => true
  | .helloD => true
  | .finishC => true
  | .ready => true
  | .reject => true
  | .rekeyAck => true
  | .rekeyReq => true
  | .close => true
  | .ping => true
  | .pong => true
  | .query => true
  | .app => true
  | .handshakeTimeout ctx => decide (ctx < 2 ^ 18)
  | .rekeyTimeout ctx => decide (ctx < 2 ^ 18)
  | .sessionIdle ctx => decide (ctx < 2 ^ 18)
  | .sessionEpochDrained ctx => decide (ctx < 2 ^ 18)
  | .keepOpen addr => decide (addr < 2 ^ 40)
  | .keepTx tail => decide (tail < 2 ^ 16)
  | .join => true
  | .welcome => true
  | .beat => true
  | .timeQ => true
  | .timeR => true
  | .keyset => true
  | .readyE => true
  | .leave => true
  | .beatTimer => true
  | .timeQTimer => true
  | .memberLossTimeout => true
  | .fedRetry => true
  | .standbyTakeover => true
  | .announce => true
  | .reclaim => true
  | .fedSwitch => true
  | .fedEpochDrained => true
  | .rekey => true
  | .epochDone => true
  -- the flash controller
  | .recoverData off => decide (off < 2 ^ 32)
  | .program half => decide (half < 4)
  | .erase => true
  | .blankCheck => true
  | .suspend => true
  | .resume => true
  | .swap twin => decide (twin < 2)
  | .flashPulseEnd _ => true
  | .blankCheckEnd => true
  | .holdoffExpiry => true
  | .infoRecordWrite => true
  | .ledgerCompaction => true
  -- card slots, ceremonies and the storage card
  | .iccActivate n => decide (n < 2)
  | .iccExchange n clen => decide (n < 2) && decide (clen < 512)
  | .iccDeactivate n => decide (n < 2)
  | .iccComponent n index => decide (n < 2) && decide (index < 16)
  | .iccCharacterReceive n _ kind => decide (n < 2) && decide (kind < 3)
  | .iccWaitTimeout n => decide (n < 2)
  | .iccClassRetry n => decide (n < 2)
  | .iccClockStop n => decide (n < 2)
  | .iccCardPresent n => decide (n < 2)
  | .iccCardRemoved n => decide (n < 2)
  | .cerOpen target n dome => decide (target < 4) && decide (n < 16) && decide (dome < 64)
  | .cerFinish => true
  | .cerClose => true
  | .cerImport => true
  | .ceremonyTimeout => true
  | .sdhInit => true
  | .sdhRead => true
  | .sdhWrite => true
  | .sleep => true
  | .awake => true
  | .rpmbCounter => true
  | .rpmbWrite => true
  | .rpmbRead => true
  | .rpmbKey => true
  | .csaWrite area => decide (area < 16)
  | .csaRead area => decide (area < 16)
  | .settle => true
  | .powerOff => true
  | .sdResponse _ _ => true
  | .sdWaitTimeout => true
  | .sdCardPresent => true
  | .sdCardRemoved => true
  | .csaCommit => true
  -- the contactless unit
  | .fieldDetect => true
  | .fieldLoss => true
  | .fieldCollapse => true
  | .fieldOn => true
  | .carrierGuardEnd => true
  | .clfActivate => true
  | .clfExchange clen => decide (clen < 1024)
  | .clfAuth => true
  | .secureExchange clen => decide (clen < 1024)
  | .clfDeactivate => true
  | .fieldOff => true
  | .clfFrameReceive _ _ _ => true
  | .clfFwtExpiry => true
  | .carrierResetEnd => true
  | .tagFrameReceive _ => true
  | .authBegin cla p1 p2 _ _ jitter =>
    decide (cla < 256) && decide (p1 < 256) && decide (p2 < 256) && jitter.length == 16
  | .authFinish cla p1 p2 _ => decide (cla < 256) && decide (p1 < 256) && decide (p2 < 256)
  | .endSession cla p1 p2 _ => decide (cla < 256) && decide (p1 < 256) && decide (p2 < 256)
  | .tagRead cla p1 p2 _ _ => decide (cla < 256) && decide (p1 < 256) && decide (p2 < 256)
  | .status cla p1 p2 _ => decide (cla < 256) && decide (p1 < 256) && decide (p2 < 256)
  | .tagWrite cla p1 p2 _ => decide (cla < 256) && decide (p1 < 256) && decide (p2 < 256)
  | .commit cla p1 p2 _ => decide (cla < 256) && decide (p1 < 256) && decide (p2 < 256)
  | .ack cla p1 p2 _ => decide (cla < 256) && decide (p1 < 256) && decide (p2 < 256)
  | .tagBackoffExpiry => true
  | .tagKeyLoad index => decide (index < 2 ^ 24)
  | .tagKeyLoadEnd => true
  | .tagKeyClear => true
  | .mailboxRelease mask => decide (mask < 4)
  | .mailboxPublish mask len => decide (mask < 4) && decide (len < 512)

end Sys2Proof
end

