-- ==== Sys2Proof/Certificates/Slice0/Obligations.lean ====
section
/-!
DEFINITION. The statements for the provers: the queue, reset and memory, the core instructions, and each family of commands in
the order of the command table.
-/

open Sys2Proof Sys2Proof.Machine

/-- A step takes the command at the front of the queue and has its effect on the state with the queue's rest; with an
empty queue the block's own clocks tick. What it takes from the model's own readings or choices is in log entry 1. -/
def Obligations.StepRunsFront : Prop :=
  (∀ (c : Instr) (rest : List Instr) (s : State), s.pending = c :: rest → step s = exec c { s with pending := rest })
  ∧ ∀ s : State, s.pending = [] → step s = .next s.tick

/-- Reset (R13, R37, R125): every register field holds its stated reset value, but RST_LC, which the fuses give (the
model's device starts in PROVISION); memory is canonical and holds nothing written; no command waits. What it takes from
the model's own readings or choices is in log entries 5 and 6. -/
def Obligations.ResetState : Prop :=
  (∀ f : Fld, f.key ≠ R.RST_LC_STATE.key → State.reset.get f = f.rst) ∧ State.reset.get R.RST_LC_STATE = 1
  ∧ Memory.wf State.reset.mem = true ∧ (∀ a, State.reset.byte a = memDefault a)
  ∧ State.reset.pending = [] ∧ State.reset.irq = [] ∧ State.reset.faultQ = [] ∧ State.reset.jsc.jobs = []
  ∧ State.reset.cmds = [] ∧ State.reset.mover = [] ∧ State.reset.pwr.main = .off

/-- Every step, whatever the command, keeps memory in its canonical form: addresses rising, and no byte listed that reads
as an unlisted one does. -/
def Obligations.MemoryStaysCanonical : Prop :=
  ∀ s t : State, Memory.wf s.mem = true → step s = .next t → Memory.wf t.mem = true

/-- Core instruction words (R242 to R270): every well-formed instruction's word reads as that instruction, and every word
that reads as an instruction is that instruction's word. -/
def Obligations.CoreWordsRoundTrip : Prop :=
  (∀ op : Op, op.wf = true → decodeCore (encodeCore op) = some op ∧ encodeCore op < 2 ^ 32)
  ∧ (∀ (w : Nat) (op : Op), w < 2 ^ 32 → decodeCore w = some op → op.wf = true ∧ encodeCore op = w)

/-- The ALU, with registers (R247) and immediates (R249), and SEL (R251): the result is written at distance 2, one cycle
is charged to the job, and nothing but the core and the job's cycles changes (`State.retire`). -/
def Obligations.AluInstructions : Prop :=
  ∀ (s : State) (c rd ra rb imm bit : Nat) (j : Job), imm < 65536 →
    let k := (s.core c).age
    let a := k.reg ra
    let b := k.reg rb
    let w (v : W32) : Host.Outcome State Fault Refusal := .next (s.retire c k j { ws := putReg rd v 2 })
    (s.issues c j (.alu .add rd ra rb) → exec (.add c rd ra rb) s = w (a + b))
    ∧ (s.issues c j (.alu .sub rd ra rb) → exec (.sub c rd ra rb) s = w (a - b))
    ∧ (s.issues c j (.alu .band rd ra rb) → exec (.and c rd ra rb) s = w (a &&& b))
    ∧ (s.issues c j (.alu .bor rd ra rb) → exec (.or c rd ra rb) s = w (a ||| b))
    ∧ (s.issues c j (.alu .bxor rd ra rb) → exec (.xor c rd ra rb) s = w (a ^^^ b))
    ∧ (s.issues c j (.alu .andn rd ra rb) → exec (.andn c rd ra rb) s = w (a &&& ~~~ b))
    ∧ (s.issues c j (.alu .orn rd ra rb) → exec (.orn c rd ra rb) s = w (a ||| ~~~ b))
    ∧ (s.issues c j (.alu .nor rd ra rb) → exec (.nor c rd ra rb) s = w (~~~ (a ||| b)))
    ∧ (s.issues c j (.alu .smin rd ra rb) → exec (.min c rd ra rb) s = w (if a.toInt < b.toInt then a else b))
    ∧ (s.issues c j (.alu .smax rd ra rb) → exec (.max c rd ra rb) s = w (if a.toInt < b.toInt then b else a))
    ∧ (s.issues c j (.alu .umin rd ra rb) → exec (.minu c rd ra rb) s = w (if a.toNat < b.toNat then a else b))
    ∧ (s.issues c j (.alu .umax rd ra rb) → exec (.maxu c rd ra rb) s = w (if a.toNat < b.toNat then b else a))
    ∧ (s.issues c j (.alu .clz rd ra 0) → ∃ n, exec (.clz c rd ra) s = w (BitVec.ofNat 32 n) ∧ n ≤ 32
        ∧ a.toNat < 2 ^ (32 - n) ∧ (n < 32 → 2 ^ (31 - n) ≤ a.toNat))
    ∧ (s.issues c j (.alu .popc rd ra 0) →
        exec (.popc c rd ra) s = w (BitVec.ofNat 32 ((List.range 32).countP (fun i => a.getLsbD i))))
    ∧ (s.issues c j (.alu .bswap rd ra 0) → ∃ v : W32, exec (.bswap c rd ra) s = w v
        ∧ ∀ i, i < 32 → v.getLsbD i = a.getLsbD (24 - i / 8 * 8 + i % 8))
    ∧ (s.issues c j (.aluI .add rd ra imm) →
        exec (.addi c rd ra imm) s = w (a + BitVec.ofInt 32 (if imm < 32768 then (imm : Int) else (imm : Int) - 65536)))
    ∧ (s.issues c j (.aluI .band rd ra imm) → exec (.andi c rd ra imm) s = w (a &&& BitVec.ofNat 32 imm))
    ∧ (s.issues c j (.aluI .bor rd ra imm) → exec (.ori c rd ra imm) s = w (a ||| BitVec.ofNat 32 imm))
    ∧ (s.issues c j (.aluI .bxor rd ra imm) → exec (.xori c rd ra imm) s = w (a ^^^ BitVec.ofNat 32 imm))
    ∧ (s.issues c j (.movhi rd imm) → exec (.movhi c rd imm) s = w (BitVec.ofNat 32 (imm * 65536)))
    ∧ (s.issues c j (.sel rd ra rb bit) → exec (.sel c rd ra rb bit) s = w (if k.bit bit then a else b))

/-- Shifts (R248), bit fields (R250) and MULDIV (R252). -/
def Obligations.ShiftMulDivInstructions : Prop :=
  ∀ (s : State) (c rd ra rb n pos len : Nat) (j : Job), n < 32 → pos < 32 → 0 < len → len < 33 →
    let k := (s.core c).age
    let a := k.reg ra
    let b := k.reg rb
    let w (v : W32) : Host.Outcome State Fault Refusal := .next (s.retire c k j { ws := putReg rd v 2 })
    let m (v : W32) : Host.Outcome State Fault Refusal := .next (s.retire c k j { ws := putReg rd v 3 })
    let q (v : W32) : Host.Outcome State Fault Refusal := .next (s.retire c k j { ws := putReg rd v 19, div := 18 })
    (s.issues c j (.shift .shl rd ra rb) → exec (.shl c rd ra rb) s = w (a <<< (b.toNat % 32)))
    ∧ (s.issues c j (.shift .shr rd ra rb) → exec (.shr c rd ra rb) s = w (a >>> (b.toNat % 32)))
    ∧ (s.issues c j (.shift .sha rd ra rb) → exec (.sha c rd ra rb) s = w (BitVec.ofInt 32 (a.toInt / 2 ^ (b.toNat % 32))))
    ∧ (s.issues c j (.shift .ror rd ra rb) →
        exec (.ror c rd ra rb) s = w ((a >>> (b.toNat % 32)) ||| (a <<< (32 - b.toNat % 32))))
    ∧ (s.issues c j (.shiftI .shl rd ra n) → exec (.shli c rd ra n) s = w (a <<< n))
    ∧ (s.issues c j (.shiftI .shr rd ra n) → exec (.shri c rd ra n) s = w (a >>> n))
    ∧ (s.issues c j (.shiftI .sha rd ra n) → exec (.shai c rd ra n) s = w (BitVec.ofInt 32 (a.toInt / 2 ^ n)))
    ∧ (s.issues c j (.shiftI .ror rd ra n) → exec (.rori c rd ra n) s = w ((a >>> n) ||| (a <<< (32 - n))))
    ∧ (s.issues c j (.ext rd ra pos len false) →
        exec (.ext c rd ra pos len false) s = w (BitVec.ofNat 32 (a.toNat / 2 ^ pos % 2 ^ len)))
    ∧ (s.issues c j (.ext rd ra pos len true) → exec (.ext c rd ra pos len true) s = w (BitVec.ofInt 32
        (if a.toNat / 2 ^ pos % 2 ^ len < 2 ^ (len - 1) then (a.toNat / 2 ^ pos % 2 ^ len : Nat)
         else ((a.toNat / 2 ^ pos % 2 ^ len : Nat) : Int) - 2 ^ len)))
    ∧ (s.issues c j (.ins rd ra pos len) → ∃ v : W32, exec (.ins c rd ra pos len) s = w v
        ∧ ∀ i, i < 32 → v.getLsbD i = if pos ≤ i ∧ i < pos + len then a.getLsbD (i - pos) else (k.reg rd).getLsbD i)
    ∧ (s.issues c j (.muldiv .mul rd ra rb) → exec (.mul c rd ra rb) s = m (a * b))
    ∧ (s.issues c j (.muldiv .mulh rd ra rb) → exec (.mulh c rd ra rb) s = m (BitVec.ofInt 32 (a.toInt * b.toInt / 2 ^ 32)))
    ∧ (s.issues c j (.muldiv .mulhu rd ra rb) → exec (.mulhu c rd ra rb) s = m (BitVec.ofNat 32 (a.toNat * b.toNat / 2 ^ 32)))
    ∧ (s.issues c j (.muldiv .div rd ra rb) → exec (.div c rd ra rb) s =
        q (if b = 0 then 0xFFFFFFFF else BitVec.ofInt 32 (a.toInt.tdiv b.toInt)))
    ∧ (s.issues c j (.muldiv .divu rd ra rb) → exec (.divu c rd ra rb) s =
        q (if b = 0 then 0xFFFFFFFF else BitVec.ofNat 32 (a.toNat / b.toNat)))
    ∧ (s.issues c j (.muldiv .rem rd ra rb) → exec (.rem c rd ra rb) s =
        q (if b = 0 then a else BitVec.ofInt 32 (a.toInt.tmod b.toInt)))
    ∧ (s.issues c j (.muldiv .remu rd ra rb) → exec (.remu c rd ra rb) s =
        q (if b = 0 then a else BitVec.ofNat 32 (a.toNat % b.toNat)))

/-- Compares and the bit space (R221 to R223, R253 to R258): a compare and a private-bit write take effect at distance 2,
a spire-shared bit changes at once and shows to its own core after 4 issues, TAS and TAC give the bit's old value. What it
takes from the model's own readings or choices is in log entries 18 and 42. -/
def Obligations.BitInstructions : Prop :=
  ∀ (s : State) (c rd ra rb bd bs bit len off imm cond : Nat) (j : Job), imm < 512 → cond < 12 → off < 28672 →
    let k := (s.core c).age
    let a := k.reg ra
    let b := k.reg rb
    let p (n : Nat) (v : Bool) : Host.Outcome State Fault Refusal := .next (s.retire c k j { bs := [{ bit := n, val := v, rem := 2 }] })
    let sh (n : Nat) (v : Bool) : Host.Outcome State Fault Refusal := .next ((s.setShared c n v).retire c k j
      { own := [{ bit := n, val := s.shared c n, rem := 4 }] })
    let holds (x y : W32) (n : Nat) : Bool :=
      match n with
      | 0 => x == y
      | 1 => x != y
      | 2 => decide (x.toInt < y.toInt)
      | 3 => decide (y.toInt ≤ x.toInt)
      | 4 => decide (x.toNat < y.toNat)
      | 5 => decide (y.toNat ≤ x.toNat)
      | 6 => decide (y.toInt < x.toInt)
      | 7 => decide (x.toInt ≤ y.toInt)
      | 8 => decide (y.toNat < x.toNat)
      | 9 => decide (x.toNat ≤ y.toNat)
      | 10 => (x &&& y) != 0
      | _ => (x &&& y) == 0
    let simm : W32 := BitVec.ofInt 32 (if cond = 4 ∨ cond = 5 ∨ imm < 256 then (imm : Int) else (imm : Int) - 512)
    (∀ f, decCond cond = some f → s.issues c j (.cmp f bd ra rb) → exec (.cmp c cond bd ra rb) s = p bd (holds a b cond))
    ∧ (∀ f, decCond cond = some f → cond < 8 → s.issues c j (.cmpi f bd ra imm) →
        exec (.cmpi c cond bd ra imm) s = p bd (holds a simm cond))
    ∧ (s.issues c j (.bitop .bset bit) → bit < 4096 → exec (.bset c bit) s = p bit true)
    ∧ (s.issues c j (.bitop .bclr bit) → bit < 4096 → exec (.bclr c bit) s = p bit false)
    ∧ (s.issues c j (.bitop .binv bit) → bit < 4096 → exec (.binv c bit) s = p bit (!k.bit bit))
    ∧ (s.issues c j (.bitop .bset bit) → 4096 ≤ bit → exec (.bset c bit) s = sh bit true)
    ∧ (s.issues c j (.bitop .bclr bit) → 4096 ≤ bit → exec (.bclr c bit) s = sh bit false)
    ∧ (s.issues c j (.bitop .binv bit) → 4096 ≤ bit → exec (.binv c bit) s = sh bit (!s.shared c bit))
    ∧ (s.issues c j (.blog .band bd bs) → exec (.band c bd bs) s = p bd (k.bit bd && k.bit bs))
    ∧ (s.issues c j (.blog .bor bd bs) → exec (.bor c bd bs) s = p bd (k.bit bd || k.bit bs))
    ∧ (s.issues c j (.blog .bxor bd bs) → exec (.bxor c bd bs) s = p bd (k.bit bd != k.bit bs))
    ∧ (s.issues c j (.blog .bandn bd bs) → exec (.bandn c bd bs) s = p bd (k.bit bd && !k.bit bs))
    ∧ (s.issues c j (.bfr rd len bit) → ∃ v : Nat, exec (.bfr c rd len bit) s = .next (s.retire c k j { ws := putReg rd (BitVec.ofNat 32 v) 3 })
        ∧ (∀ i, i < len → v.testBit i = s.bitAt c k j (bit + i)) ∧ v < 2 ^ len)
    ∧ (s.issues c j (.atom true rd off) → exec (.tas c rd off) s = .next ((s.setShared c (4096 + off) true).retire c k j
        { ws := putReg rd (if s.shared c (4096 + off) then 1 else 0) 5
          own := [{ bit := 4096 + off, val := s.shared c (4096 + off), rem := 4 }] }))
    ∧ (s.issues c j (.atom false rd off) → exec (.tac c rd off) s = .next ((s.setShared c (4096 + off) false).retire c k j
        { ws := putReg rd (if s.shared c (4096 + off) then 1 else 0) 5
          own := [{ bit := 4096 + off, val := s.shared c (4096 + off), rem := 4 }] }))

/-- R256: the layout of BLOG and what it sets. -/
def Obligations.BitLogic : Prop :=
  (∀ f bd bs, f < 4 → bd < 4096 → bs < 4096 → decodeCore (0x19 * 2 ^ 26 + f * 2 ^ 24 + bd * 2 ^ 12 + bs) =
      some (.blog (if f = 0 then .band else if f = 1 then .bor else if f = 2 then .bxor else .bandn) bd bs))
  ∧ ∀ (s : State) (c bd bs : Nat) (j : Job),
      let k := (s.core c).age
      let set (v : Bool) : Host.Outcome State Fault Refusal := .next (s.retire c k j { bs := [{ bit := bd, val := v, rem := 2 }] })
      (s.issues c j (.blog .band bd bs) → exec (.band c bd bs) s = set (k.bit bd && k.bit bs))
      ∧ (s.issues c j (.blog .bor bd bs) → exec (.bor c bd bs) s = set (k.bit bd || k.bit bs))
      ∧ (s.issues c j (.blog .bxor bd bs) → exec (.bxor c bd bs) s = set (k.bit bd ^^ k.bit bs))
      ∧ (s.issues c j (.blog .bandn bd bs) → exec (.bandn c bd bs) s = set (k.bit bd && !k.bit bs))

/-- R254: the layout of CMPI and what it compares. -/
def Obligations.CompareImmediate : Prop :=
  (∀ (n bd ra imm : Nat) (f : Cond), decCond n = some f → n < 8 → bd < 4096 → ra < 32 → imm < 512 →
      decodeCore ((0x10 + n) * 2 ^ 26 + bd * 2 ^ 14 + ra * 2 ^ 9 + imm) = some (.cmpi f bd ra imm))
  ∧ ∀ (s : State) (c bd ra imm n : Nat) (f : Cond) (j : Job), decCond n = some f → n < 8 → imm < 512 → s.issues c j (.cmpi f bd ra imm) →
      let k := (s.core c).age
      let a := k.reg ra
      let b : W32 := BitVec.ofInt 32 (if n = 4 ∨ n = 5 ∨ imm < 256 then (imm : Int) else (imm : Int) - 512)
      let holds : Bool :=
        match n with
        | 0 => a == b
        | 1 => a != b
        | 2 => decide (a.toInt < b.toInt)
        | 3 => decide (b.toInt ≤ a.toInt)
        | 4 => decide (a.toNat < b.toNat)
        | 5 => decide (b.toNat ≤ a.toNat)
        | 6 => decide (b.toInt < a.toInt)
        | _ => decide (a.toInt ≤ b.toInt)
      exec (.cmpi c n bd ra imm) s = .next (s.retire c k j { bs := [{ bit := bd, val := holds, rem := 2 }] })

/-- Loads (R259, R260): the bytes at the effective address, extended as the form says; from the core's own memory at
distance 4, the address being where the core's tier has it, and from spire SRAM that the rules allow, with no disturbance
of its transfer, at distance 26. A load that the rules forbid, or of an address that is none, gives 0 and is a violation
of the job's dome (R207). -/
def Obligations.LoadInstructions : Prop :=
  ∀ (s : State) (c rd ra imm : Nat) (j : Job), imm < 65536 →
    let k := (s.core c).age
    let a := effAddr k ra imm
    let sram := sramAddr (c / 16) (a - 0x10000000)
    let pa := if coreRegion a = 4 then sram else (corePhys c k.tier a).getD 0
    let dist := if coreRegion a = 4 then 26 else 4
    let byte (i : Nat) : Nat := (s.byte (pa + i)).toNat
    let half : Nat := byte 0 + 256 * byte 1
    let word : Nat := half + 65536 * (byte 2 + 256 * byte 3)
    let high : Nat := byte 4 + 256 * byte 5 + 65536 * (byte 6 + 256 * byte 7)
    let sx (n v : Nat) : W32 := BitVec.ofInt 32 (if v < 2 ^ (n - 1) then (v : Int) else (v : Int) - 2 ^ n)
    let w (v : W32) : Host.Outcome State Fault Refusal :=
      .next (s.retire c k j { ws := putReg rd v dist, sp := if coreRegion a = 4 then 15 else 0 })
    let may (n : Nat) : Prop := coreRegion a ≠ 5 ∧ (coreRegion a = 4 → s.judge (coreX c j) 0 sram n = none ∧
      s.bus.find? (fun e => e.1 == c) = none)
    let no (n at_ : Nat) : Prop := coreRegion a = 5 ∧ at_ = a
      ∨ coreRegion a = 4 ∧ ∃ b, s.judge (coreX c j) 0 sram n = some b ∧ at_ = a + (b - sram)
    let zero (ws : List PendW) (at_ : Nat) : Host.Outcome State Fault Refusal :=
      .next ((s.report { source := 0, agent := c, dome := j.dome, addr := 2 ^ 39 + at_, type := 0, spire := c / 16 }).retire c k j
        { ws := ws, sp := 15 })
    (s.issues c j (.load .b rd ra imm) → may 1 → exec (.ldB c rd ra imm) s = w (sx 8 (byte 0)))
    ∧ (s.issues c j (.load .bu rd ra imm) → may 1 → exec (.ldBu c rd ra imm) s = w (BitVec.ofNat 32 (byte 0)))
    ∧ (s.issues c j (.load .h rd ra imm) → may 2 → exec (.ldH c rd ra imm) s = w (sx 16 half))
    ∧ (s.issues c j (.load .hu rd ra imm) → may 2 → exec (.ldHu c rd ra imm) s = w (BitVec.ofNat 32 half))
    ∧ (s.issues c j (.load .w rd ra imm) → may 4 → exec (.ldW c rd ra imm) s = w (BitVec.ofNat 32 word))
    ∧ (s.issues c j (.load .d rd ra imm) → may 8 → exec (.ldD c rd ra imm) s = .next (s.retire c k j
        { ws := putReg rd (BitVec.ofNat 32 word) dist ++ putReg (rd + 1) (BitVec.ofNat 32 high) dist
          sp := if coreRegion a = 4 then 15 else 0 }))
    ∧ ∀ at_,
      (s.issues c j (.load .b rd ra imm) → no 1 at_ → exec (.ldB c rd ra imm) s = zero (putReg rd 0 26) at_)
      ∧ (s.issues c j (.load .bu rd ra imm) → no 1 at_ → exec (.ldBu c rd ra imm) s = zero (putReg rd 0 26) at_)
      ∧ (s.issues c j (.load .h rd ra imm) → no 2 at_ → exec (.ldH c rd ra imm) s = zero (putReg rd 0 26) at_)
      ∧ (s.issues c j (.load .hu rd ra imm) → no 2 at_ → exec (.ldHu c rd ra imm) s = zero (putReg rd 0 26) at_)
      ∧ (s.issues c j (.load .w rd ra imm) → no 4 at_ → exec (.ldW c rd ra imm) s = zero (putReg rd 0 26) at_)
      ∧ (s.issues c j (.load .d rd ra imm) → no 8 at_ →
          exec (.ldD c rd ra imm) s = zero (putReg rd 0 26 ++ putReg (rd + 1) 0 26) at_)

/-- Stores (R259, R260): the low bytes of the register go to the effective address and no other byte of memory changes;
the core writes no register. It goes to the core's own memory, or to spire SRAM that the rules allow, with no disturbance
of its transfer. A store that the rules forbid, or to an address that is none, changes no memory and is a violation of the
job's dome (R207). -/
def Obligations.StoreInstructions : Prop :=
  ∀ (s : State) (c rd ra imm : Nat) (j : Job), imm < 65536 →
    let k := (s.core c).age
    let a := effAddr k ra imm
    let sram := sramAddr (c / 16) (a - 0x10000000)
    let pa := if coreRegion a = 4 then sram else (corePhys c k.tier a).getD 0
    let stored (t : State) (n v : Nat) : Prop :=
      (∀ i, i < n → (t.byte (pa + i)).toNat = v / 256 ^ i % 256) ∧ (∀ x, x < pa ∨ pa + n ≤ x → t.byte x = s.byte x)
        ∧ (t.core c).regs = k.regs ∧ t.regs = s.regs ∧ t.faultQ = s.faultQ
    let may (n : Nat) : Prop := coreRegion a ≠ 5 ∧ (coreRegion a = 4 → s.judge (coreX c j) 1 sram n = none ∧
      s.bus.find? (fun e => e.1 == c) = none)
    let no (n at_ : Nat) : Prop := coreRegion a = 5 ∧ at_ = a
      ∨ coreRegion a = 4 ∧ ∃ b, s.judge (coreX c j) 1 sram n = some b ∧ at_ = a + (b - sram)
    let none_ (at_ : Nat) : Host.Outcome State Fault Refusal :=
      .next ((s.report { source := 0, agent := c, dome := j.dome, addr := 2 ^ 39 + at_, type := 1, spire := c / 16 }).retire c k j
        { sp := 15 })
    (k.slots = 0 → (∀ l, l < 3 → k.active l = false) →
      (s.issues c j (.store .b rd ra imm) → may 1 → ∃ t, exec (.stB c rd ra imm) s = .next t ∧ stored t 1 (k.reg rd).toNat)
      ∧ (s.issues c j (.store .h rd ra imm) → may 2 → ∃ t, exec (.stH c rd ra imm) s = .next t ∧ stored t 2 (k.reg rd).toNat)
      ∧ (s.issues c j (.store .w rd ra imm) → may 4 → ∃ t, exec (.stW c rd ra imm) s = .next t ∧ stored t 4 (k.reg rd).toNat)
      ∧ (s.issues c j (.store .d rd ra imm) → may 8 → ∃ t, exec (.stD c rd ra imm) s = .next t
          ∧ stored t 8 ((k.reg rd).toNat + 2 ^ 32 * (k.reg (rd + 1)).toNat)))
    ∧ ∀ at_,
      (s.issues c j (.store .b rd ra imm) → no 1 at_ → exec (.stB c rd ra imm) s = none_ at_)
      ∧ (s.issues c j (.store .h rd ra imm) → no 2 at_ → exec (.stH c rd ra imm) s = none_ at_)
      ∧ (s.issues c j (.store .w rd ra imm) → no 4 at_ → exec (.stW c rd ra imm) s = none_ at_)
      ∧ (s.issues c j (.store .d rd ra imm) → no 8 at_ → exec (.stD c rd ra imm) s = none_ at_)

/-- Tables (R263 to R265) and custom instructions (R270, R271). LUT gives entry min(rb, N - 1), LUTI the rounded line
between two entries, CTLUT the entry of the index or 0; CX the result of its microwords, at its entry's distance. What it
takes from the model's own readings or choices is in log entry 18. -/
def Obligations.TableInstructions : Prop :=
  ∀ (s : State) (c rd ra rb n w num imm : Nat) (sign : Bool) (j : Job), 0 < n → n < 65 → w < 3 → num < 16 → imm < 128 →
    let k := (s.core c).age
    let base := (k.reg ra).toNat
    let x := (k.reg rb).toNat
    let h := ofLE (s.localBytes c k base 4)
    let len := h % 65536
    let width := if h / 65536 % 4 = 0 then 1 else if h / 65536 % 4 = 1 then 2 else 4
    let entry (i : Nat) : Int :=
      let v := ofLE (s.localBytes c k (base + 4 + i * width) width)
      if h.testBit 18 ∧ 2 ^ (8 * width - 1) ≤ v then (v : Int) - 2 ^ (8 * width) else v
    let p := 2 ^ min (h / 2 ^ 19 % 32) 24
    let line (i f : Nat) : Int := entry i + ((entry (i + 1) - entry i) * (f : Int) + ((p / 2 : Nat) : Int)) / (p : Int)
    let e (m : Nat) : Int :=
      let v := ofLE (s.localBytes c k (base + lutWidth w * m) (lutWidth w))
      if sign ∧ 2 ^ (8 * lutWidth w - 1) ≤ v then (v : Int) - 2 ^ (8 * lutWidth w) else v
    (s.issues c j (.lut rd ra rb) → exec (.lut c rd ra rb) s = .next (s.retire c k j
      { ws := putReg rd (if len = 0 then 0 else BitVec.ofInt 32 (entry (min x (len - 1)))) 5 }))
    ∧ (s.issues c j (.luti rd ra rb) → exec (.luti c rd ra rb) s = .next (s.retire c k j
      { ws := putReg rd (if len = 0 then 0 else BitVec.ofInt 32
          (if len - 1 ≤ x / p then entry (len - 1) else line (x / p) (x % p))) 7 }))
    ∧ (s.issues c j (.ctlut rd ra rb n w sign) → exec (.ctlut c rd ra rb n w sign) s = .next (s.retire c k j
        { ws := putReg rd (if x < n * (32 / lutWidth w) then BitVec.ofInt 32 (e x) else 0) (6 + n), tbl := n + 1 }))
    ∧ (s.issues c j (.cx num rd ra rb imm) → exec (.cx c num rd ra rb imm) s = .next (s.retire c k j
        { ws := putReg rd (cxRun (k.reg ra) (k.reg rb) imm (s.cxWords (c / 16) num)) (s.get (R.SPR_CX_ENTRY_LATENCY (c / 16) num))
          cx := s.get (R.SPR_CX_ENTRY_LATENCY (c / 16) num) }))

/-- Branches (R216, R261): two delay slots follow, then the target or the index after the slots; JAL and JALR write that
index; where no loop is active nothing else of the core changes. -/
def Obligations.BranchInstructions : Prop :=
  ∀ (s : State) (c rd ra bs target : Nat) (j : Job), target < 16384 →
    let k := (s.core c).age
    let after := (k.pc + 3) % 16384
    let go (t : Nat) (ws : List PendW) : Host.Outcome State Fault Refusal :=
      .next ((s.setCore c { k with
        pc := (k.pc + 1) % 16384, slots := 2, target := t, pend := k.pend ++ ws, divBusy := k.divBusy - 1, cxBusy := k.cxBusy - 1
        tblBusy := k.tblBusy - 1, spacing := k.spacing - 1 }).updJob j.id (fun j => { j with cycles := j.cycles + 1 }))
    (∀ l, l < 3 → k.active l = false) →
    (s.issues c j (.j target) → exec (.j c target) s = go target [])
    ∧ (s.issues c j (.jal rd target) → exec (.jal c rd target) s = go target (putReg rd (BitVec.ofNat 32 after) 2))
    ∧ (s.issues c j (.jr ra) → exec (.jr c ra) s = go ((k.reg ra).toNat % 16384) [])
    ∧ (s.issues c j (.jalr rd ra) → exec (.jalr c rd ra) s = go ((k.reg ra).toNat % 16384) (putReg rd (BitVec.ofNat 32 after) 2))
    ∧ (s.issues c j (.bt bs target) → exec (.bt c bs target) s = go (if k.bit bs then target else after) [])
    ∧ (s.issues c j (.bf bs target) → exec (.bf c bs target) s = go (if k.bit bs then after else target) [])
    ∧ (s.issues c j (.bz ra target) → exec (.bz c ra target) s = go (if k.reg ra = 0 then target else after) [])
    ∧ (s.issues c j (.bnz ra target) → exec (.bnz c ra target) s = go (if k.reg ra = 0 then after else target) [])

/-- Loops (R225 to R227, R262): LOOP and LOOPR write lb, le and lc at distance 3, one of no pass goes to the index after
le and takes 3 cycles; MFLB, MFLE and MFLC read, MTLC writes lc of an active level. What it takes from the model's own
readings or choices is in log entry 19. -/
def Obligations.LoopInstructions : Prop :=
  ∀ (s : State) (c l le count ra rd : Nat) (j : Job), l < 3 → le < 16384 → count < 1024 →
    let k := (s.core c).age
    let regs (n : Nat) : List PendW :=
      [{ dst := 32 + 3 * l, val := BitVec.ofNat 32 ((k.pc + 1) % 16384), rem := 3 },
       { dst := 33 + 3 * l, val := BitVec.ofNat 32 le, rem := 3 }, { dst := 34 + 3 * l, val := BitVec.ofNat 32 n, rem := 3 }]
    let after (n : Nat) : Host.Outcome State Fault Refusal :=
      .next (s.retire c k j { ws := regs n, skip := if n = 0 then some ((le + 1) % 16384) else none })
    let w (v : W32) : Host.Outcome State Fault Refusal := .next (s.retire c k j { ws := putReg rd v 2 })
    (s.issues c j (.loop l le count) → exec (.loop c l le count) s = after count)
    ∧ (s.issues c j (.loopr l le ra) → exec (.loopr c l le ra) s = after (min (k.reg ra).toNat 65535))
    ∧ (s.issues c j (.mflb l rd) → exec (.mflb c l rd) s = w (tabGet 0 k.regs (32 + 3 * l)))
    ∧ (s.issues c j (.mfle l rd) → exec (.mfle c l rd) s = w (tabGet 0 k.regs (33 + 3 * l)))
    ∧ (s.issues c j (.mflc l rd) → exec (.mflc c l rd) s = w (tabGet 0 k.regs (34 + 3 * l)))
    ∧ (s.issues c j (.mtlc l ra) → tabGet 0 k.regs (34 + 3 * l) ≠ 0 ∨ (k.reg ra).toNat % 65536 = 0 →
        exec (.mtlc c l ra) s = .next (s.retire c k j { ws := [{ dst := 34 + 3 * l, val := k.reg ra &&& 0xFFFF, rem := 3 }] }))
    ∧ (s.issues c j (.mtlc l ra) → tabGet 0 k.regs (34 + 3 * l) = 0 → (k.reg ra).toNat % 65536 ≠ 0 →
        exec (.mtlc c l ra) s = .next (s.retire c k j {}))

/-- Sequencing (R216, R226): the next instruction of a NOP is the one after it; in the slots of a branch it counts them
down and the last leads to the target; at the end of an active level the next pass begins at lb, or falls through after
the last. And what any issue leaves unchanged: everything but its core and the RUNNING cycles of its job; of the core, the
bits, the events, the keys, the tier and the job, and, where no loop is active, every register that no earlier write
reaches now. -/
def Obligations.SequencingRule : Prop :=
  (∀ (s : State) (c l : Nat) (j : Job), l < 3 → s.issues c j .nop →
    let k := (s.core c).age
    let lc (q : Core) (m : Nat) : Nat := (tabGet 0 q.regs (34 + 3 * m)).toNat
    let ends (m : Nat) : Prop := lc k m ≠ 0 ∧ (tabGet 0 k.regs (33 + 3 * m)).toNat = k.pc
    k.pend = [] →
    ∃ t, exec (.nop c) s = .next t
      ∧ ((∀ m, m < 3 → ¬ ends m) → k.slots = 0 → (t.core c).pc = (k.pc + 1) % 16384 ∧ (t.core c).regs = k.regs)
      ∧ ((∀ m, m < 3 → ¬ ends m) → k.slots = 2 → (t.core c).pc = (k.pc + 1) % 16384 ∧ (t.core c).slots = 1)
      ∧ (k.slots = 1 → (t.core c).pc = k.target ∧ (t.core c).slots = 0)
      ∧ (k.slots = 0 → ends l → (∀ m, l < m → m < 3 → ¬ ends m) → 1 < lc k l →
          (t.core c).pc = (tabGet 0 k.regs (32 + 3 * l)).toNat ∧ lc (t.core c) l = lc k l - 1
          ∧ ∀ m, m < 3 → m ≠ l → lc (t.core c) m = lc k m)
      ∧ (k.slots = 0 → ends l → (∀ m, m < 3 → m ≠ l → ¬ ends m) → lc k l = 1 →
          (t.core c).pc = (k.pc + 1) % 16384 ∧ lc (t.core c) l = 0))
  ∧ (∀ (s : State) (c : Nat) (k : Core) (j : Job) (i : Issue),
    let t := s.retire c k j i
    ({ t with cores := s.cores, jsc := s.jsc } : State) = s ∧ t.core c = k.retire i ∧ (∀ d, d ≠ c → t.core d = s.core d)
    ∧ t.jsc = { s.jsc with jobs := s.jsc.jobs.map (fun x =>
        if x.id = j.id then { x with cycles := x.cycles + (if i.skip.isSome then 3 else 1) } else x) }
    ∧ (k.retire i).bits = k.bits ∧ (k.retire i).events = k.events ∧ (k.retire i).keysP = k.keysP ∧ (k.retire i).keysB = k.keysB
    ∧ (k.retire i).tier = k.tier ∧ (k.retire i).job = k.job ∧ (k.retire i).phase = k.phase ∧ (k.retire i).flight = k.flight
    ∧ ((∀ l, l < 3 → k.active l = false) → (k.retire i).regs = k.regs ∧ (k.retire i).pend = k.pend ++ i.ws))

/-- R220: indices run from 0 to 16,383, the index after 16,383 is 0, and the word 0 is undefined and stops the job: it
ends DONE with HANDLER_FAULT, reason 6 and exception 1 (`State.faulted`). -/
def Obligations.InstructionIndices : Prop :=
  (∀ (k : Core) (i : Issue), k.pc < 16384 → k.target < 16384 → (∀ l, l < 3 → k.lval l 0 < 16384) → (∀ n, i.skip = some n → n < 16384) →
      (k.retire i).pc < 16384)
  ∧ (∀ (s : State) (c : Nat) (j : Job), s.issues c j .nop → (s.core c).pc = 16383 → (s.core c).slots = 0 →
      (∀ l, l < 3 → (s.core c).age.active l = false) → ∃ t, exec (.nop c) s = .next t ∧ (t.core c).pc = 0)
  ∧ decodeCore 0 = none
  ∧ (∀ (s : State) (c : Nat) (j : Job), s.spiresRun = true → s.issuer c = some j → s.job j.id = some j → s.fetchWord c = 0 →
      j.cycles + 1 < j.h.wcet →
      ∃ t, exec (.illegal c) s = .next t ∧ s.faulted t j (6 + 0x01 * 256))

/-- Distances (R214, R217, R218): a register write at distance D is read by the instruction issued D later and by none
before it, writes that become visible together stand in order of issue, and a write to g0 is none. -/
def Obligations.DistanceRule : Prop :=
  (∀ (k : Core) (d D : Nat) (v : W32) (n : Nat), 0 < d → d < 32 → 0 < D → D < 128 → k.pend = [] → n ≤ D → 0 < n →
      ((Nat.iterate Core.age n { k with pend := putReg d v D }).reg d = if n = D then v else k.reg d)
      ∧ (∀ e, e ≠ d → (Nat.iterate Core.age n { k with pend := putReg d v D }).reg e = k.reg e))
  ∧ (∀ (k : Core) (d D : Nat) (v w : W32), 0 < d → d < 32 → 0 < D → k.pend = [] →
      (Nat.iterate Core.age D { k with pend := putReg d v D ++ putReg d w D }).reg d = w)
  ∧ (∀ (v : W32) (D : Nat), putReg 0 v D = [])

/-- SUBMIT, WAITB, NOP and EXIT (R189, R224, R231, R232, R266 to R269): a submission within the job's budget is held by
the job and goes to its pool or mover, and one beyond it ends the job with HANDLER_FAULT, reason 2 or 3; WAITB goes on
where the flag is set and waits otherwise; EXIT ends the job with its status and result, or with reason 7 or 4. A job that
ends with HANDLER_FAULT is DONE with STATUS 0x0120 and the reason in DETAIL, and nothing of the instruction is performed
(`State.faulted`). What it takes from the model's own readings or choices is in log entry 20. -/
def Obligations.SystemInstructions : Prop :=
  ∀ (s : State) (c ra rb bit pool ticket : Nat) (j : Job), pool < 3 → ticket < 256 →
    let k := (s.core c).age
    let desc (p : Nat) : List Byte := s.localBytes c k (k.reg ra).toNat (descLen p)
    let left : Nat := if pool = 0 then j.h.symU - j.symUsed else if pool = 1 then j.h.digU - j.digUsed else j.h.pkeU - j.pkeUsed
    let n : Nat := fld (desc 3) 4 4
    let status : Nat := (k.reg ra).toNat % 65536
    let result : List Byte × State :=
      s.rd { agent := 0x2A2, dom := j.dome, epoch := j.artEpoch } (sramAddr (c / 16) (slotOff c k.tier + 0x200)) (k.reg rb).toNat
    (s.issues c j .nop → exec (.nop c) s = .next (s.retire c k j {}))
    ∧ (s.issues c j (.waitb bit) → k.done (bit - 32768) = true → exec (.waitb c bit) s = .next (s.retire c k j {}))
    ∧ (s.issues c j (.waitb bit) → k.done (bit - 32768) = false →
        exec (.waitb c bit) s = .next ((s.retire c k j {}).updJob j.id (fun i => { i with
          st := if j.tickets.any (fun x => x.1 == bit - 32768 && x.2 == 3) then .waitMover else .waitEngine
          wait := some (bit - 32768) })))
    ∧ (s.issues c j (.submit pool ticket ra) → cmdUnits pool (desc pool) ≤ left →
        ∃ t x, exec (.submit c pool ticket ra) s = .next t ∧ t.cmds = s.cmds ++ [x] ∧ x.pool = pool ∧ x.job = j.id
          ∧ x.ticket = ticket ∧ x.desc = desc pool ∧ x.dome = j.dome ∧ x.slots = j.slots ∧ t.mem = s.mem ∧ t.regs = s.regs
          ∧ ∀ i ∈ t.jsc.jobs, i.id = j.id → (ticket, pool) ∈ i.tickets)
    ∧ (s.issues c j (.submit pool ticket ra) → s.job j.id = some j → left < cmdUnits pool (desc pool) →
        ∃ t, exec (.submit c pool ticket ra) s = .next t ∧ s.faulted t j 2)
    ∧ (s.issues c j (.submit 3 ticket ra) → j.moverUsed + n ≤ j.h.moverBytes → mvCheck (desc 3) = 0 →
        ∃ t x, exec (.submit c 3 ticket ra) s = .next t ∧ t.mover = s.mover ++ [x] ∧ x.job = j.id ∧ x.ticket = ticket
          ∧ x.op = fld (desc 3) 0 1 ∧ x.len = n ∧ x.va = fld (desc 3) 8 8 ∧ x.dome = j.dome ∧ t.mem = s.mem ∧ t.cmds = s.cmds)
    ∧ (s.issues c j (.submit 3 ticket ra) → s.job j.id = some j → j.h.moverBytes < j.moverUsed + n →
        ∃ t, exec (.submit c 3 ticket ra) s = .next t ∧ s.faulted t j 3)
    ∧ (s.issues c j (.exit ra rb) → status < 0x100 ∨ (0x200 ≤ status ∧ status < 0xB00) → s.egressOver j (k.reg rb).toNat = false →
        exec (.exit c ra rb) s = .next (result.2.endJob j .done status 0 result.1))
    ∧ (s.issues c j (.exit ra rb) → s.job j.id = some j → status < 0x100 ∨ (0x200 ≤ status ∧ status < 0xB00) →
        s.egressOver j (k.reg rb).toNat = true → ∃ t, exec (.exit c ra rb) s = .next t ∧ s.faulted t j 4)
    ∧ (s.issues c j (.exit ra rb) → s.job j.id = some j → (0x100 ≤ status ∧ status < 0x200) ∨ 0xB00 ≤ status →
        ∃ t, exec (.exit c ra rb) s = .next t ∧ s.faulted t j 7)

/-- Exceptions (R233 to R235, R275) and undefined words (R242): an instruction that meets an exception is not performed,
and its job ends with HANDLER_FAULT, reason 6, with the exception's code and, for TRAP, its number: it is DONE with STATUS
0x0120 and that DETAIL, and no register, bit, descriptor or byte of memory has what the instruction would have given
(`State.faulted`). What it takes from the model's own readings or choices is in log entry 20. -/
def Obligations.ExceptionEntry : Prop :=
  ∀ (s : State) (c rd ra rb l n : Nat) (j : Job), n < 256 →
    let k := (s.core c).age
    s.spiresRun = true → s.issuer c = some j → s.job j.id = some j → j.cycles + 1 < j.h.wcet →
    (∀ (i : Instr) (op : Op) (code : Nat),
        (i, op) ∈ [(.j c n, .j n), (.loop c l n rd, .loop l n rd), (.div c rd ra rb, .muldiv .div rd ra rb),
          (.ldW c rd ra n, .load .w rd ra n), (.stW c rd ra n, .store .w rd ra n), (.bset c rb, .bitop .bset rb),
          (.waitb c rb, .waitb rb), (.submit c l n ra, .submit l n ra), (.exit c ra rb, .exit ra rb)] →
        decodeCore (s.fetchWord c) = some op → s.exception c k j op = some code →
        ∃ t, exec i s = .next t ∧ s.faulted t j (6 + code * 256))
    ∧ (decodeCore (s.fetchWord c) = some (.trap n) → s.exception c k j (.trap n) = some 0x12 →
        ∃ t, exec (.trap c n) s = .next t ∧ s.faulted t j (6 + 0x12 * 256 + n * 65536))
    ∧ (decodeCore (s.fetchWord c) = none → ∃ t, exec (.illegal c) s = .next t ∧ s.faulted t j (6 + 0x01 * 256))
    ∧ (k.slots ≠ 0 → s.exception c k j (.j n) = some 0x03)
    ∧ ((k.reg ra).toNat % 4 ≠ 0 → k.pend = [] → s.exception c k j (.load .w rd ra 0) = some 0x05)
    ∧ (32768 ≤ rb → s.exception c k j (.bitop .bset rb) = some 0x0E)

/-- Supplies (R69 to R73, R111, R444): power-up with the rails out of range waits, in range it boots; PWR_OK falling ends
a wait or an isolation; bedrock changes its supply, stops and restarts. Clocks and time (R89, R92, R93, R103): the
crystal's failure and recovery, the latch of DTIME beside TSTAMP, the one setting of DTIME, and the alarm as a wake source
during an entry into DEEP. What it takes from the model's own readings or choices is in log entries 12 and 13. -/
def Obligations.SuppliesAndClocks : Prop :=
  ∀ s : State,
    (∀ (d : Nat), d < 2 ^ 18 → s.pwr.main = .off → s.pwr.bedrock = true →
        exec (.mainPowerUp ⟨false, d⟩) s = .next (s.setPwr { s.pwr with defects := d, main := .waiting }))
    ∧ (∀ (d : Nat), d < 2 ^ 18 → s.pwr.main = .off → s.pwr.bedrock = true → s.pwr.lostDue = false → s.pwr.blown < 2 → s.get
        R.TMP_PENDING_RESP = 0 → s.tmp.deferred = [] → s.get R.TMP_PENDING_HALT = 0 →
        ∃ t, exec (.mainPowerUp ⟨true, d⟩) s = .next t ∧ t.pwr.main = .on ∧ t.get R.RST_CAUSE_POWER = 1 ∧ t.get
          R.RST_LC_STATE = s.pwr.lc % 4 ∧ t.pending = s.pending ∧ t.pwr.bedrock = true ∧ t.pwr.armed = true ∧ t.pwr.defects
          = d)
    ∧ (s.pwr.main = .waiting → s.pwr.bedrock = true → s.pwr.lostDue = false → s.pwr.blown < 2 → s.get R.TMP_PENDING_RESP = 0
        → s.tmp.deferred = [] → s.get R.TMP_PENDING_HALT = 0 →
        ∃ t, exec .railsInRange s = .next t ∧ t.pwr.main = .on ∧ t.get R.RST_CAUSE_POWER = 1 ∧ t.get R.RST_LC_STATE =
          s.pwr.lc % 4 ∧ t.pending = s.pending)
    ∧ (s.pwr.main = .waiting →
        exec .pwrOkLow s = .next (s.setPwr { s.pwr with armed := false, main := .off }))
    ∧ (s.pwr.main = .isolated →
        ∃ t, exec .pwrOkLow s = .next t ∧ t.pwr.main = .off ∧ t.mem = s.mem.filter (fun c => isFlash c.1) ∧ t.tag = s.tag ∧
          t.pending = s.pending)
    ∧ (∀ (vbat : Bool),
        exec (.bedrockChangeover vbat) s = .next (s.setPwr { s.pwr with vbat := vbat }))
    ∧ (exec .bedrockTrip s = .next (s.setPwr { s.pwr with bedrock := false }))
    ∧ (s.pwr.bedrock = false →
        ∃ t, exec .bedrockRestart s = .next t ∧ t.pwr.bedrock = true ∧ t.pwr.share = [] ∧ t.pwr.pair = false ∧ t.get
          R.TIME_TSTAMP_TICKS = 0 ∧ t.tag = {} ∧
          ({ t with tag := s.tag, pwr := s.pwr, tmp := s.tmp, irq := s.irq, free := s.free, regs := s.regs } : State) = s)
    ∧ (s.pwr.bedrock = true → s.get R.CLK_XTAL_ONRC = 0 → s.tmp.live = true →
        ∃ t, exec .crystalFail s = .next t ∧ t.get R.CLK_XTAL_FAIL = 1 ∧ t.get R.CLK_XTAL_ONRC = 1 ∧ (t.get
          R.TMP_FLAGS_FLAG).testBit 10 = true ∧ t.tmp.queue.length = s.tmp.queue.length + 1 ∧
          ({ t with tmp := s.tmp, regs := s.regs } : State) = s ∧ (∀ f : Fld, f.key ∉ [R.CLK_XTAL_FAIL.key,
          R.CLK_XTAL_ONRC.key, R.TMP_FLAGS_FLAG.key, (R.TMP_COUNT_COUNT 10).key, (R.TMP_FIRST_TS_TICKS 10).key,
          R.CLK_XTAL_RCLATCH.key] → t.get f = s.get f))
    ∧ (s.pwr.bedrock = true →
        exec .crystalRecover s = .next (s.set R.CLK_XTAL_ONRC 0))
    ∧ (s.pwr.bedrock = true → s.pwr.main = .on → s.get R.TIME_TSTAMP_TICKS % 32768 = 0 → s.get R.CLK_XTAL_ONRC = 0 →
        exec .timePairLatch s = .next (((((s.set R.TIME_PAIR_DTIME_DTIME (s.get R.TIME_DTIME_NS)).set
          R.TIME_PAIR_TSTAMP_TSTAMP (s.get R.TIME_TSTAMP_TICKS)).set R.CLK_XTAL_RCLATCH 0).setPwr
          { s.pwr with pair := true })))
    ∧ (∀ (v : Nat), v < 2 ^ 64 → s.spiresRun = true → s.get R.TIME_STATUS_UNSET = 1 → s.pwr.setDone = false → s.keepHalted =
        false →
        exec (.timeSet v) s = .next (if s.now ≤ (v : Rat) then s.setPwr { s.pwr with setTo := some v, setDone := true } else
          s.set R.TIME_STATUS_REJECT 1))
    ∧ (∀ (v : Nat), s.spiresRun = true → s.get R.TIME_STATUS_UNSET = 0 ∨ s.pwr.setDone = true →
        exec (.timeSet v) s = .next (s))
    ∧ (∀ (k : Nat), s.pwr.bedrock = true → s.pwr.main = .on → s.pwr.seq = .deep k → (s.get R.PWR_WAKE_EN_EN).testBit 3 =
        true → s.get R.TIME_ALARM_TICKS = s.get R.TIME_TSTAMP_TICKS → s.get R.TIME_ALARM_TICKS ≠ 0 →
        exec .timeAlarmMatch s = .next ((s.set R.PWR_WAKE_SRC_ALARM 1).setPwr { s.pwr with woken := true }))
    ∧ (s.pwr.bedrock = true → s.pwr.main = .on → s.pwr.seq = .none → s.get R.PWR_STATE_DEV = 3 → (s.get
        R.PWR_WAKE_EN_EN).testBit 3 = true → s.get R.TIME_ALARM_TICKS = s.get R.TIME_TSTAMP_TICKS → s.get R.TIME_ALARM_TICKS
        ≠ 0 →
        exec .timeAlarmMatch s = .next ((s.set R.PWR_WAKE_SRC_ALARM 1).setSeq (.exit 1 5) 0))

/-- Power of the spires (R96 to R99): DOZE and NAP entries begin where allowed, a transition ends in the state it led to,
and a spire that leaves a state counts a wake. Ceiling, budget and the ways into HOLD and DEEP (R99 to R101, R104, R108):
what the writes store, when DEEP is entered, when an ordered HOLD is ready; that a FORCE of HOLD isolates the device once
nothing is left to send or seal, that one with an open journal waits for its seal with every job out of flight (R109),
that a FORCE of DEEP with nothing left to send goes on from step 2 of R104, that FORCE with a lower ceiling is the write
alone, and that a firmware command does nothing while the entry or the exit holds the keep halted. What it takes from the
model's own readings or choices is in log entry 12. -/
def Obligations.PowerStates : Prop :=
  ∀ s : State,
    (∀ (p : Nat), s.spiresRun = true → p < 32 → s.spireBusy p = false → s.get R.PWR_IDLE_DOZE_IDLE ≠ 0 → (s.spire p).tr =
        .none → (s.spire p).reload = .none → (s.spire p).idleMet = 0 → s.get (R.PWR_SPIRE_STATE_S p) = 0 → 1 ≤ s.deepest p →
        s.spireUnowned p = false →
        ∃ t, exec (.dozeIdleExpiry p) s = .next t ∧ (t.spire p).tr = .entering 1 ∧ (t.spire p).idleMet = 1 ∧ t.get
          (R.PWR_SPIRE_STATE_S p) = 3 ∧ (∀ q, q ≠ p → t.spire q = s.spire q) ∧
          ({ t with spires := s.spires, regs := s.regs } : State) = s ∧ (∀ f : Fld, f.key ∉ [(R.PWR_SPIRE_STATE_S p).key,
          R.PWR_STATE_DEV.key] → t.get f = s.get f))
    ∧ (∀ (p : Nat), s.spiresRun = true → p < 32 → s.spireBusy p = false → s.get R.PWR_IDLE_NAP_IDLE ≠ 0 → (s.spire p).tr =
        .none → (s.spire p).reload = .none → s.get (R.PWR_SPIRE_STATE_S p) = 1 → s.deepest p = 2 →
        ∃ t, exec (.napIdleExpiry p) s = .next t ∧ (t.spire p).tr = .entering 2 ∧ (t.spire p).idleMet = 2 ∧ t.get
          (R.PWR_SPIRE_STATE_S p) = 3 ∧ (∀ q, q ≠ p → t.spire q = s.spire q) ∧
          ({ t with spires := s.spires, regs := s.regs } : State) = s ∧ (∀ f : Fld, f.key ∉ [(R.PWR_SPIRE_STATE_S p).key,
          R.PWR_STATE_DEV.key] → t.get f = s.get f))
    ∧ (∀ (p st : Nat), s.spiresRun = true → p < 32 → st < 3 → (s.spire p).tr = .entering st → s.spireWant p = st → (∀ k <
        16, s.assigned (16 * p + k) = none) →
        ∃ t, exec (.spireTransitionEnd p) s = .next t ∧ (t.spire p).tr = .none ∧ t.get (R.PWR_SPIRE_STATE_S p) = st ∧ (∀ q,
          q ≠ p → t.spire q = s.spire q) ∧ t.pwr = { s.pwr with busyAt := t.pwr.busyAt } ∧
          ({ t with spires := s.spires, pwr := s.pwr, regs := s.regs } : State) = s ∧ (∀ f : Fld, f.key ∉
          [(R.PWR_SPIRE_STATE_S p).key, R.PWR_STATE_DEV.key] → t.get f = s.get f))
    ∧ (∀ (p st : Nat), s.spiresRun = true → p < 32 → (s.spire p).tr = .leaving st → s.spireBusy p = true → (∀ k < 16,
        s.assigned (16 * p + k) = none) →
        ∃ t, exec (.spireTransitionEnd p) s = .next t ∧ (t.spire p).tr = .none ∧ t.get (R.PWR_SPIRE_STATE_S p) = 0 ∧ t.get
          (R.SPR_PWR_WAKES p) = min 65535 (s.get (R.SPR_PWR_WAKES p) + 1) ∧ (∀ q, q ≠ p → t.spire q = s.spire q) ∧
          ({ t with spires := s.spires, regs := s.regs } : State) = s ∧ (∀ f : Fld, f.key ∉ [(R.PWR_SPIRE_STATE_S p).key,
          R.PWR_STATE_DEV.key, (R.SPR_PWR_WAKES p).key] → t.get f = s.get f))
    ∧ (∀ (c : Nat), s.pwr.main = .on → c < 8 →
        ∃ t, exec (.pwrCeilWrite c) s = .next t ∧ t.get R.PWR_CEIL_CEIL = min c 4 ∧ t.pwr.hold = decide (4 ≤ c) ∧ (4 ≤ c →
          t.get R.JSC_STATUS_OPEN = 0) ∧ t.mem = s.mem ∧ t.jsc = s.jsc ∧ t.pending = s.pending)
    ∧ (∀ (us : Nat), s.pwr.main = .on → us < 2 ^ 16 →
        ∃ t, exec (.pwrBudgetWrite us) s = .next t ∧ t.get R.PWR_BUDGET_BUDGET_US = us ∧
          ({ t with spires := s.spires, regs := s.regs } : State) = s)
    ∧ (∀ (c : Nat), s.pwr.main = .on → 4 ≤ c → c < 8 → s.pwr.seq = .toReset → s.jsc.jobs = [] → s.net.tx = [] → s.get
        R.JRN_STATUS_OPEN = 0 →
        ∃ t, exec (.pwrCeilForce c) s = .next t ∧ t.pwr.main = .isolated ∧ t.get R.PWR_STATE_DEV = 4 ∧ t.get
          R.JSC_STATUS_OPEN = 0)
    ∧ (∀ (c : Nat), s.pwr.main = .on → 4 ≤ c → c < 8 → s.pwr.seq = .none → s.jsc.jobs = [] → s.net.tx = [] → s.get
        R.JRN_STATUS_OPEN = 0 → s.get R.PWR_FORCED_CNT_COUNT < 0xFFFFFFFF →
        ∃ t, exec (.pwrCeilForce c) s = .next t ∧ t.pwr.main = .isolated ∧ t.pwr.seq = .none ∧ t.get R.PWR_STATE_DEV = 4 ∧
          t.get R.JSC_STATUS_OPEN = 0 ∧ t.get R.CLF_STATUS_CARRIER = 0 ∧ t.get R.PWR_FORCED_CNT_COUNT = s.get
          R.PWR_FORCED_CNT_COUNT + 1)
    ∧ (∀ (c : Nat), s.pwr.main = .on → 4 ≤ c → c < 8 → s.pwr.seq = .none → s.net.tx = [] → s.jsc.jobs.all (fun j => !j.live)
        = true → s.get R.JRN_STATUS_OPEN = 1 →
        ∃ t, exec (.pwrCeilForce c) s = .next t ∧ t.pwr.seq = .toHold ∧ t.pwr.main = .on ∧ t.jsc.jobs = [] ∧ t.get
          R.PWR_STATE_TRANS = 1 ∧ t.get R.PWR_STATE_TARGET = 4 ∧ t.get R.JSC_STATUS_OPEN = 0)
    ∧ (s.pwr.main = .on → s.pwr.seq = .none → s.spiresRun = true → s.jsc.jobs = [] → s.net.tx = [] →
        ∃ t, exec (.pwrCeilForce 3) s = .next t ∧ t.pwr.seq = .deep 2 ∧ t.pwr.woken = false ∧ t.pwr.deepForced = true ∧
          t.get R.PWR_CEIL_CEIL = 3 ∧ t.get R.PWR_STATE_TRANS = 1 ∧ t.get R.PWR_STATE_TARGET = 3 ∧ t.get R.JSC_STATUS_OPEN =
          0 ∧ t.get R.CLF_STATUS_CARRIER = 0 ∧ t.mem = s.mem ∧ t.pending = s.pending)
    ∧ (∀ (c : Nat), s.pwr.main = .on → c < 3 →
        exec (.pwrCeilForce c) s = exec (.pwrCeilWrite c) s)
    ∧ (s.pwr.main = .on → s.keepHalted = true →
        exec .cerClose s = .next (s))
    ∧ (s.pwr.main = .on → s.spiresRun = true → s.pwr.seq = .none → s.get R.RST_BOOT_PHASE = 12 → 3 ≤ s.get R.PWR_CEIL_CEIL →
        25000 ≤ s.get R.PWR_BUDGET_BUDGET_US → s.get R.PWR_IDLE_DEEP_IDLE ≠ 0 → s.jsc.jobs = [] → s.pastBase (s.pwr.busyAt +
        s.get R.PWR_IDLE_DEEP_IDLE * 1000000) = true → (∀ p < 32, s.get (R.PWR_SPIRE_STATE_S p) = 2 ∧ (s.spire p).tr =
        .none) →
        exec .deepIdleExpiry s = .next (((s.set R.JSC_STATUS_OPEN 0).setPwr
          { s.pwr with woken := false, deepForced := false }).setSeq (.deep 1) 3))
    ∧ (s.pwr.main = .on → s.pwr.hold = true → s.pwr.seq = .none → s.get R.PWR_STATE_HOLD_READY = 0 → s.jsc.jobs = [] → s.get
        R.JRN_STATUS_OPEN = 0 → s.get R.JRN_STATUS_SEALED = 0 → (∀ d < 64, s.get (R.STB_DOM_FENCE_DRAINED d) = 1) →
        exec .holdReady s = .next (((s.sesCloseAll (fun _ => true) (some 0x0209)).set R.PWR_STATE_HOLD_READY 1).set
          R.MGT_ALERT_HOLD_READY 1))

/-- Reset sources (R113, R114, R123, R130), stated where a device reset has nothing left to send, seal or defer: each sets
its cause and admission closes, and at the next tick, which one reset serves for all sources given before it (R115), the
device boots again with an empty scheduler. The last boot steps and the lifecycle (R118, R122, R126): READY opens
admission, a confirmation clears ATTEMPTS and disarms the watchdog, RAISE raises MINVER to the running version, an advance
needs the key and the next state. What it takes from the model's own readings or choices is in log entries 4 and 12. -/
def Obligations.ResetAndBoot : Prop :=
  ∀ s : State,
    s.spiresRun = true →
    (s.pwr.seq = .none ∨ s.pwr.seq = .toReset → s.jsc.jobs = [] → s.net.tx = [] → s.get R.JRN_STATUS_OPEN = 0 → s.get
        R.TMP_PENDING_RESP = 0 → s.get R.TMP_PENDING_HALT = 0 → s.tmp.queue = [] → s.tmp.deferred = [] → s.regQ = [] →
        ∃ t, exec .nresetLow s = .next t ∧ t.get R.RST_CAUSE_NRESET = 1 ∧ t.pwr.seq = .toReset ∧ t.get R.JSC_STATUS_OPEN = 0
          ∧ t.pending = s.pending ∧ t.tick.get R.RST_CAUSE_NRESET = 1 ∧ t.tick.pwr.main = .on ∧ t.tick.pwr.seq = .none ∧
          t.tick.jsc = {})
    ∧ (s.pwr.seq = .none ∨ s.pwr.seq = .toReset → s.jsc.jobs = [] → s.net.tx = [] → s.get R.JRN_STATUS_OPEN = 0 → s.get
        R.TMP_PENDING_RESP = 0 → s.get R.TMP_PENDING_HALT = 0 → s.tmp.queue = [] → s.tmp.deferred = [] → s.regQ = [] →
        s.keepHalted = false →
        ∃ t, exec .swreset s = .next t ∧ t.get R.RST_CAUSE_KEEP = 1 ∧ t.pwr.seq = .toReset ∧ t.get R.JSC_STATUS_OPEN = 0 ∧
          t.pending = s.pending ∧ t.tick.get R.RST_CAUSE_KEEP = 1 ∧ t.tick.pwr.main = .on ∧ t.tick.pwr.seq = .none ∧
          t.tick.jsc = {})
    ∧ (s.pwr.seq = .none ∨ s.pwr.seq = .toReset → s.jsc.jobs = [] → s.net.tx = [] → s.get R.JRN_STATUS_OPEN = 0 → s.get
        R.TMP_PENDING_RESP = 0 → s.get R.TMP_PENDING_HALT = 0 → s.tmp.queue = [] → s.tmp.deferred = [] → s.regQ = [] →
        s.pwr.mgt = none →
        ∃ t, exec .resetDevice s = .next t ∧ t.get R.RST_CAUSE_MGT = 1 ∧ t.pwr.mgt = none ∧ t.get R.MGT_RESULT_STATUS = 0 ∧
          t.pwr.seq = .toReset ∧ t.get R.JSC_STATUS_OPEN = 0 ∧ t.pending = s.pending ∧ t.tick.get R.RST_CAUSE_MGT = 1 ∧
          t.tick.pwr.main = .on ∧ t.tick.pwr.seq = .none ∧ t.tick.jsc = {})
    ∧ (∀ (w : Rat), s.pwr.seq = .none ∨ s.pwr.seq = .toReset → s.jsc.jobs = [] → s.net.tx = [] → s.get R.JRN_STATUS_OPEN = 0
        → s.get R.TMP_PENDING_RESP = 0 → s.get R.TMP_PENDING_HALT = 0 → s.tmp.queue = [] → s.tmp.deferred = [] → s.regQ = []
        → s.pwr.wd = some w → s.pastBase (w + 30000000000) = true →
        ∃ t, exec .bootWatchdogExpiry s = .next t ∧ t.get R.RST_CAUSE_WATCHDOG = 1 ∧ t.pwr.seq = .toReset ∧ t.get
          R.JSC_STATUS_OPEN = 0 ∧ t.pending = s.pending ∧ t.tick.get R.RST_CAUSE_WATCHDOG = 1 ∧ t.tick.pwr.main = .on ∧
          t.tick.pwr.seq = .none ∧ t.tick.jsc = {})
    ∧ (s.get R.RST_BOOT_PHASE = 10 → s.pwr.seq = .none → s.linksUp = true → fld s.fed.section_ 0 1 = 0 → s.pwr.hold = false
        → s.get R.RST_LC_STATE = 2 → s.defect 10 = false →
        exec .bootReady s = .next (((((((s.set R.CLK_LOCK_SER0 1).set R.CLK_LOCK_SER1 1).set R.RST_BOOT_PHASE 12).set
          R.JSC_STATUS_OPEN 1).set R.MGT_ALERT_READY 1).set R.FED_STATUS_ROLE 0).setFed { s.fed with lastBeat := s.tnow }))
    ∧ (s.get R.RST_BOOT_PHASE = 10 → s.defect 10 = true →
        exec .bootReady s = .next (s.bootFail 10))
    ∧ (7 ≤ s.get R.RST_BOOT_PHASE → s.get R.RST_BOOT_PHASE ≤ 12 → s.get R.RST_BOOT_PHASE ≠ 9 → s.keepHalted = false →
        exec .rstConfirm s = .next ((s.set R.RST_BOOT_ATTEMPTS 0).setPwr { s.pwr with wd := none, confirmed := true }))
    ∧ (s.get R.RST_BOOT_PHASE = 9 → s.keepHalted = false →
        ∃ t, exec .rstConfirmRaise s = .next t ∧ t.get R.RST_BOOT_ATTEMPTS = 0 ∧ t.get R.RST_BOOT_PHASE = 10 ∧ t.get
          R.RST_FWVER_MINVER = max s.pwr.minver (s.get R.RST_FWVER_RUNVER) % 256 ∧ t.pwr.wd = none ∧ t.pwr.confirmed = true
          ∧ t.pwr.minver = max s.pwr.minver (s.get R.RST_FWVER_RUNVER) ∧ ({ t with pwr := s.pwr, regs := s.regs } : State) =
          s ∧ (∀ f : Fld, f.key ∉ [R.RST_BOOT_ATTEMPTS.key, R.RST_BOOT_PHASE.key, R.RST_FWVER_MINVER.key] → t.get f = s.get
          f))
    ∧ (∀ (key target : Nat), key < 2 ^ 16 → target < 4 → s.get R.RST_LC_BUSY = 0 → s.keepHalted = false →
        exec (.lifecycleAdvance key target) s = .next (if key = 0xA5C3 ∧ target = s.get R.RST_LC_STATE + 1 then (s.set
          R.RST_LC_BUSY 1).setPwr { s.pwr with lcNext := some target } else s.set R.RST_LC_REJECT 1))
    ∧ (∀ (n : Nat), s.pwr.lcNext = some n → n ≠ 3 → s.get R.RST_LC_STATE ≠ 0 →
        exec .fuseProgramEnd s = .next (((s.setPwr { s.pwr with lc := n, lcNext := none, blown := 0 }).set R.RST_LC_STATE
          n).set R.RST_LC_BUSY 0))
    ∧ (∀ (n : Nat), s.pwr.lcNext = some n → n = 1 → s.get R.RST_LC_STATE = 0 →
        ∃ t, exec .fuseProgramEnd s = .next t ∧ t.get R.RST_LC_STATE = 1 ∧ t.get R.RST_LC_BUSY = 0 ∧ t.get R.ENT_TEST_MODE =
          0 ∧ t.pwr.lc = 1 ∧ t.pwr.lcNext = none)
    ∧ (s.pwr.lcNext = some 3 →
        ∃ t, exec .fuseProgramEnd s = .next t ∧ t.get R.RST_LC_STATE = 3 ∧ t.get R.RST_LC_BUSY = 0 ∧ t.get
          R.RST_ROOT_DIK_VALID = 0 ∧ t.get R.RST_ROOT_SRK_VALID = 0 ∧ t.get R.JSC_STATUS_OPEN = 0 ∧ t.pwr.share = [] ∧
          t.pwr.lc = 3)

/-- The management port's commands (R130 to R132): each makes MGT_RESULT BUSY, keeps its code, argument and final status,
and ends at MGT_COMMAND_DONE. The management port's frames and the end of a command (R128 to R131, R576): a read answers
the words and the checksum, a write with a right checksum writes, one with a wrong checksum only counts, and a command's
end shows its status. What it takes from the model's own readings or choices is in log entry 11. -/
def Obligations.ManagementPort : Prop :=
  ∀ s : State,
    s.pwr.main = .on →
    (∀ (arg : Nat), s.pwr.mgt = none → arg ≤ 3 →
        exec (.bootSelect arg) s = .next (((s.set R.MGT_ARG_ARG arg).mgtBusy 3 arg 0).set R.RST_BOOT_OVERRIDE ((arg + 1) %
          4)))
    ∧ (∀ (m : Nat), s.pwr.mgt = none → m < 2 ^ 32 →
        ∃ t, exec (.clearAlert m) s = .next t ∧ t.pwr.mgt = some (5, m, 0) ∧ t.get R.MGT_RESULT_STATUS = 1 ∧ (m.testBit
          R.MGT_ALERT_TAMPER.lo = true → t.get R.MGT_ALERT_TAMPER = 0) ∧ (m.testBit R.MGT_ALERT_READY.lo = false → t.get
          R.MGT_ALERT_READY = s.get R.MGT_ALERT_READY) ∧ ({ t with pwr := s.pwr, regs := s.regs } : State) = s)
    ∧ (∀ (page : Nat), s.pwr.mgt = none → page < 2 ^ 32 →
        exec (.readEvidence page) s = .next ((s.set R.MGT_ARG_ARG page).mgtBusy 6 page (if page ≤ 15 then 0 else 2)))
    ∧ (∀ (off : Nat), s.pwr.mgt = none → off < 2 ^ 32 →
        exec (.recoverData off) s = .next ((s.set R.MGT_ARG_ARG off).mgtBusy 7 off (if s.get R.RST_BOOT_PHASE = 15 ∧ off <
          0x4000 then 0 else 2)))
    ∧ (∀ (len : Nat), s.pwr.mgt = none → len < 2 ^ 32 →
        exec (.recoverCommit len) s = .next ((s.set R.MGT_ARG_ARG len).mgtBusy 8 len (if s.get R.RST_BOOT_PHASE = 15 ∧ len ≤
          0x400000 then 0 else 2)))
    ∧ (s.pwr.mgt = none →
        exec .clearErr s = .next ((((s.mgtBusy 9 (s.get R.MGT_ARG_ARG) 0).set R.MGT_ERR_CRC 0).set R.MGT_ERR_FRAME 0).set
          R.MGT_ERR_OUTSIDE 0))
    ∧ (s.pwr.mgt = none → s.get R.RST_BOOT_PHASE = 13 → s.get R.ENT_STATUS_SEEDED = 0 → s.pwr.lc = 3 → s.defect 3 = false →
        s.pwr.blown < 2 →
        ∃ t, exec .tamperAck s = .next t ∧ t.get R.TMP_PENDING_HALT = 0 ∧ t.get R.TMP_PENDING_RESP = 0 ∧ t.get
          R.RST_BOOT_PHASE = 3 ∧ t.pwr.mgt = some (4, s.get R.MGT_ARG_ARG, 0) ∧ t.mem = s.mem ∧ t.pending = s.pending)
    ∧ (∀ (k : Nat), s.pwr.mgt = none → s.pwr.seq = .deep k → (s.get R.PWR_WAKE_EN_EN).testBit 1 = true →
        exec .wake s = .next (((s.mgtBusy 1 (s.get R.MGT_ARG_ARG) 0).set R.PWR_WAKE_SRC_MGT 1).setPwr
          { (s.mgtBusy 1 (s.get R.MGT_ARG_ARG) 0).pwr with woken := true }))
    ∧ (s.pwr.mgt = none → s.pwr.seq = .none → s.get R.PWR_STATE_DEV = 3 → (s.get R.PWR_WAKE_EN_EN).testBit 1 = true →
        exec .wake s = .next (((s.mgtBusy 1 (s.get R.MGT_ARG_ARG) 0).set R.PWR_WAKE_SRC_MGT 1).setSeq (.exit 1 5) 0))
    ∧ (∀ (k : Nat), s.pwr.mgt = none → s.pwr.seq = .deep k → (s.get R.PWR_WAKE_EN_EN).testBit 0 = true →
        exec .nwakeLow s = .next ((s.set R.PWR_WAKE_SRC_NWAKE 1).setPwr { s.pwr with woken := true }))
    ∧ (s.pwr.mgt = none → s.pwr.seq = .none → s.get R.PWR_STATE_DEV = 3 → (s.get R.PWR_WAKE_EN_EN).testBit 0 = true →
        exec .nwakeLow s = .next ((s.set R.PWR_WAKE_SRC_NWAKE 1).setSeq (.exit 1 5) 0))
    ∧ (∀ (a : Nat), a % 4 = 0 → inWindow a = true → a < 2 ^ 16 →
        exec (.mgtRead a 1 true) s = .next (s.setPwr { s.pwr with
              mgtOut := toLE 4 (s.windowWord a) ++ toLE 2 (mgtCrc (frameHead 0x0B a 1 ++ toLE 4 (s.windowWord a))) }))
    ∧ (∀ (v crc : Nat), v < 2 ^ 32 → crc < 2 ^ 16 → mgtCrc (frameHead 0x02 4 1 ++ toLE 4 v) = crc →
        exec (.mgtWrite 4 [v] crc true) s = .next (s.set R.MGT_ARG_ARG v))
    ∧ (∀ (a : Nat) (ws : List Nat) (crc : Nat), a % 4 = 0 → mgtCrc (frameHead 0x02 a ws.length ++ ws.flatMap (toLE 4)) ≠ crc
        % 65536 →
        exec (.mgtWrite a ws crc true) s = .next (s.count R.MGT_ERR_CRC))
    ∧ (exec .mgtQstat s = .next (s.setPwr { s.pwr with mgtOut := toLE 1 (s.plainReg 0xFF0003000C) }))
    ∧ (∀ (page : Nat), s.pwr.mgt = some (6, page, 0) →
        exec .mgtCommandDone s = .next ((s.setPwr { s.pwr with mgtData := s.evidencePage page, mgt := none }).set
          R.MGT_RESULT_STATUS 0))
    ∧ (∀ (code arg st : Nat), s.pwr.mgt = some (code, arg, st) → st ≠ 0 → code ≠ 2 →
        exec .mgtCommandDone s = .next ((s.setPwr { s.pwr with mgt := none }).set R.MGT_RESULT_STATUS st))

/-- Structure bitstreams (R149 to R165, R577): START begins an application, ABORT ends it before its edge, NONE ends boot
step 8, reloads begin and end, an old epoch drains, and the raises of minimum versions. A tick of the time base runs one
step of the loader: the copy with its hashes (step 1 of R158), the acceptance of R152 (step 2), the sections and the
course of R577 (step 3), the load, switch and stop edges of a domain, an amend's masks (R149), and the load and the end of
a whole application. What it takes from the model's own readings or choices is in log entries 1 and 14. -/
def Obligations.StructureCommands : Prop :=
  ∀ s : State,
    s.spiresRun = true →
    let cpy (a : StbApp) : List Byte × State := s.stbCopy (s.stbX ({ a with kind := (s.byte (a.src + 6)).toNat } :
        StbApp).dom) a.src a.stage a.len [] (a.len / 64 + 1)
    let stg (a : StbApp) : List Byte × State := s.stagedOf a
    let failed (t : State) (e : Nat × Nat) : Prop := t.stb.app = none ∧ t.get R.STB_STATUS_PHASE = 8 ∧ 65 ∈ t.irq ∧ (e.1 ≠ 0
        → t.get R.STB_ERR_CODE = e.1 % 2 ^ R.STB_ERR_CODE.wd ∧ t.get R.STB_ERR_DETAIL = e.2 % 65536)
    (∀ (ab : Bool) (d : Nat), d < 64 → s.stb.app = none → s.get R.STB_STATUS_BUSY = 0 → s.keepHalted = false →
        ∃ t, exec (.stbStart ab d) s = .next t ∧ t.stb.app = some {
              src := s.get R.STB_SRC_ADDR, len := s.get R.STB_LEN_LEN, stage := s.get R.STB_STAGE_ADDR, abrupt := ab,
              dome := d } ∧ t.get R.STB_STATUS_PHASE = 1 ∧ t.get R.STB_STATUS_BUSY = 1 ∧ t.get R.STB_ERR_CODE = 0 ∧ (∀ p, p
          < 32 → t.get (R.STB_SPIRE_LOADED_LOADED p) = 0) ∧ ({ t with stb := s.stb, regs := s.regs } : State) = s)
    ∧ (∀ (a : StbApp), s.stb.app = some a → s.stb.amend = none → a.edge = false → ¬ (a.kind = 0 ∧ a.phase = 4) →
        s.keepHalted = false →
        ∃ t, exec .stbAbort s = .next t ∧ t.stb.app = none ∧ t.get R.STB_STATUS_PHASE = 9 ∧ 65 ∈ t.irq ∧ (a.rules = true →
          t.get R.ART_STATUS_STB_HOLD = 0) ∧ ({ t with stb := s.stb, irq := s.irq, regs := s.regs } : State) = s)
    ∧ (s.get R.RST_BOOT_PHASE = 8 → s.stb.app = none → s.keepHalted = false →
        exec .stbNone s = .next ((s.set R.STB_STATUS_KEEPONLY 1).set R.RST_BOOT_PHASE (if s.pwr.confirmed then 10 else 9)))
    ∧ (∀ (p : Nat), p < 32 → s.reloadReady p = true → (∀ q < 32, (s.spire q).reload ≠ .loading) → (∀ q < p, s.reloadReady q
        = false) →
        ∃ t, exec (.spireReload p) s = .next t ∧ (t.spire p).reload = .loading ∧ (t.spire p).loaded = none ∧ t.mem = s.mem ∧
          t.jsc = s.jsc ∧ t.pending = s.pending ∧ (∀ q, q ≠ p → t.spire q = s.spire q))
    ∧ (∀ (p d : Nat), p < 32 → (s.spire p).reload = .loading → s.spireActive p = true → s.spireDome p = some d → d < 64 →
        s.get (R.STB_DOM_STATE_STATE d) = 2 →
        ∃ t, exec (.spireReloadEnd p) s = .next t ∧ (t.spire p).reload = .none ∧ (t.spire p).loaded = some (s.get
          (R.STB_DOM_STATE_EPOCH d)) ∧ t.get (R.STB_SPIRE_LOADED_LOADED p) = 1 ∧ t.jsc = s.jsc ∧ t.pending = s.pending)
    ∧ (∀ (d : Nat), d < 64 → s.get (R.STB_DOM_FENCE_DRAINED d) = 0 → s.domeIdle d true = true → s.get (R.STB_DOM_STATE_STATE
        d) = 2 → (s.dome d).after = 0 →
        exec (.domeDrained d) s = .next (((s.set (R.STB_DOM_FENCE_DRAINED d) 1).raise 67).setDome d
          { s.dome d with old := none }))
    ∧ (s.get R.STB_STATUS_BUSY = 0 → s.keepHalted = false →
        exec .stbRaiseWhole s = .next (((s.setFlc { s.flc with
              info := s.flc.info ++ [.minWhole (max (s.get R.STB_MINVER_MIN) (s.get R.STB_VERSION_VERSION))] }).setStb
          { s.stb with raise := [(none, max (s.get R.STB_MINVER_MIN) (s.get R.STB_VERSION_VERSION))] }).set
          R.STB_STATUS_BUSY 1))
    ∧ (∀ (d : Nat), d < 64 → s.get R.STB_STATUS_BUSY = 0 → s.keepHalted = false →
        exec (.stbRaiseDomv d) s = .next (((s.setFlc { s.flc with
              info := s.flc.info ++ [.minDome d (max (s.get (R.STB_DOM_MIN_MIN d)) (s.get (R.STB_DOM_VER_VERSION d)))] }).setStb
          { s.stb with raise := [(some d, max (s.get (R.STB_DOM_MIN_MIN d)) (s.get (R.STB_DOM_VER_VERSION d)))] }).set
          R.STB_STATUS_BUSY 1))
    ∧ (∀ (v : Nat), s.stb.app = none → s.stb.raise = [(none, v)] → s.flc.op = none → s.flc.info = [.minWhole v] →
        ∃ t, exec .stbRaiseDone s = .next t ∧ t.get R.STB_MINVER_MIN = v % 2 ^ R.STB_MINVER_MIN.wd ∧ t.get R.STB_STATUS_BUSY
          = 0 ∧ t.stb.raise = [] ∧ t.flc.info = [] ∧ ({ t with stb := s.stb, flc := s.flc, regs := s.regs } : State) = s ∧
          (∀ f : Fld, f.key ∉ [R.STB_MINVER_MIN.key, R.STB_STATUS_BUSY.key, R.FLC_STATUS_INTERNAL.key] → t.get f = s.get f))
    ∧ (s.stb.app = none → s.flc.op.isSome = true →
        exec .stbRaiseDone s = .next (s))
    ∧ (s.mainOn = true ∧ s.pending = [] ∧ s.clockEdge.spiresRun = true →
        step s = .next (((((s.clockEdge.regDrain.stbTick.flcTick.whenRuns State.heldGo).firingTick.seqTick).whenRuns fun s
          => s.sdAgain.rdSfgt).settleTick)))
    ∧ (∀ (a : StbApp), s.stb.app = some a ∧ s.stb.amend = none → a.phase = 1 ∧ a.amend = false → s.flashWaits a.src = false
        ∧ s.flashWaits (a.src + (a.len - 1)) = false →
        ∃ t, s.stbTick = t ∧ t.stb =
          { (cpy a).2.stb with app := some { a with kind := fld (cpy a).1 6 1, phase := 2, sums := marlSums (cpy a).1 } } ∧
          t.get R.STB_STATUS_PHASE = 2 ∧ (fld (cpy a).1 6 1 = 1 → t.get R.STB_STATUS_DOME = a.dome % 64) ∧ t.mem = (cpy
          a).2.mem ∧ t.jsc = (cpy a).2.jsc)
    ∧ (∀ (a : StbApp), s.stb.app = some a ∧ s.stb.amend = none → a.phase = 1 → s.flashWaits a.src = true →
        s.stbTick = (s))
    ∧ (∀ (a : StbApp), s.stb.app = some a ∧ s.stb.amend = none → a.phase = 1 ∧ a.amend = true → s.flashWaits a.src = false ∧
        s.flashWaits (a.src + (a.len - 1)) = false →
        ∃ t, s.stbTick = t ∧ (let r := s.stbCopy (s.stbX 0) a.src a.stage a.len [] (a.len / 64 + 1); fld r.1 6 1 ≠ 2 →
          failed t (0x090B, 0)))
    ∧ (∀ (a : StbApp), s.stb.app = some a ∧ (s.stagedOf a).2.stb.amend = none ∧ s.stb.amend = none → a.phase = 2 →
        ∃ t, s.stbTick = t ∧ (∀ e, (stg a).2.acceptance a (stg a).1 = some e → failed t e) ∧ ((stg a).2.acceptance a (stg
          a).1 = none → t = ((stg a).2.setStb { (stg a).2.stb with app := some { a with phase := 3 } }).set
          R.STB_STATUS_PHASE 3))
    ∧ (∀ (a : StbApp), s.stb.app = some a ∧ (s.stagedOf a).2.stb.amend = none ∧ s.stb.amend = none → a.phase = 3 ∧ a.edge =
        false ∧ a.course = 0 →
        ∃ t, s.stbTick = t ∧ (∀ e, marlSections (stg a).1 ((stg a).2.marlEnv (fld (stg a).1 7 1)) = some e → failed t e) ∧
          (marlSections (stg a).1 ((stg a).2.marlEnv (fld (stg a).1 7 1)) = none → a.kind ≠ 1 → t = ((stg a).2.setStb
          { (stg a).2.stb with app := some { a with phase := 4 } }).set R.STB_STATUS_PHASE 4) ∧ (marlSections (stg a).1
          ((stg a).2.marlEnv (fld (stg a).1 7 1)) = none → a.kind = 1 → a.dome ≠ fld (stg a).1 7 1 → failed t (0x090C, fld
          (stg a).1 7 1)))
    ∧ (∀ (a : StbApp) (al : Allot) (n k : Nat) (c : Content) (cs : List (Nat × Content)), s.stb.app = some a ∧ (s.stagedOf
        a).2.stb.amend = none ∧ s.stb.amend = none → a.phase = 3 ∧ a.edge = false ∧ a.course = 0 ∧ a.kind = 1 → (s.dome
        a.dome).allot = some al ∧ marlContents (s.stagedOf a).1 = (n, c) :: cs ∧ marlRules (s.stagedOf a).1 = none → a.dome
        = fld (s.stagedOf a).1 7 1 ∧ a.dome ≠ 0 → (s.get (R.STB_DOM_STATE_STATE a.dome) = 4 ∧ k = 1) ∨ (s.get
        (R.STB_DOM_STATE_STATE a.dome) = 2 ∧ k = if a.abrupt then 3 else 2) ∨ (s.get (R.STB_DOM_STATE_STATE a.dome) = 3 ∧ k
        = if a.abrupt then 3 else 0) ∨ (s.get (R.STB_DOM_STATE_STATE a.dome) < 2 ∧ k = 5) →
        ∃ t, s.stbTick = t ∧ (marlSections (stg a).1 ((stg a).2.marlEnv a.dome) = none → 1 ≤ k ∧ k ≤ 3 → t.stb.app = some
          { a with rules := false, course := k } ∧ t.stb.next = some c ∧ t.stb.nextImages = marlImages (stg a).1 c) ∧
          (marlSections (stg a).1 ((stg a).2.marlEnv a.dome) = none → k = 0 → failed t (0x0910, a.dome)) ∧ (marlSections
          (stg a).1 ((stg a).2.marlEnv a.dome) = none → k = 5 → failed t (0x090C, a.dome)))
    ∧ (∀ (a : StbApp) (c : Content), s.stb.app = some a ∧ s.stb.amend = none ∧ s.stb.next = some c → a.phase = 3 ∧ a.edge =
        false ∧ a.kind = 1 ∧ a.course ≠ 0 ∧ a.dome < 64 → s.get (R.STB_DOM_STATE_STATE a.dome) = 4 ∧ (s.dome a.dome).after =
        0 →
        ∃ t, s.stbTick = t ∧ t.get (R.STB_DOM_STATE_EPOCH a.dome) = (s.get (R.STB_DOM_STATE_EPOCH a.dome) + 1) % 2 ^
          (R.STB_DOM_STATE_EPOCH a.dome).wd ∧ (t.dome a.dome).content = some c ∧ t.stb.next = none ∧ t.get
          (R.STB_DOM_VER_VERSION a.dome) = c.version % 2 ^ 32 ∧ 66 ∈ t.irq ∧ (∀ p, p < 32 → c.spiresUsed.testBit p = true →
          s.get (R.FCU_RETIRED_RETIRED p) = 0 → (t.spire p).reload = .waiting ∧ t.get (R.STB_DOM_STATE_STATE a.dome) = 1) ∧
          (s.domeIdle a.dome false = false → t.get (R.STB_DOM_FENCE_DRAINED a.dome) = 0))
    ∧ (∀ (a : StbApp) (c : Content), s.stb.app = some a ∧ s.stb.amend = none ∧ s.stb.next = some c → a.phase = 3 ∧ a.edge =
        false ∧ a.kind = 1 ∧ a.course = 2 ∧ a.dome < 64 → s.get (R.STB_DOM_STATE_STATE a.dome) = 2 →
        ∃ t, s.stbTick = t ∧ t.get (R.STB_DOM_STATE_EPOCH a.dome) = (s.get (R.STB_DOM_STATE_EPOCH a.dome) + 1) % 2 ^
          (R.STB_DOM_STATE_EPOCH a.dome).wd ∧ t.get (R.STB_DOM_STATE_STATE a.dome) = 3 ∧ t.get (R.STB_DOM_FENCE_DRAINED
          a.dome) = 0 ∧ (t.dome a.dome).content = some c ∧ (t.dome a.dome).old = (s.dome a.dome).content ∧ t.stb.app = some
          { a with phase := 5, edge := true } ∧ 66 ∈ t.irq ∧ t.jsc.jobs = s.jsc.jobs)
    ∧ (∀ (a : StbApp), s.stb.app = some a ∧ s.stb.amend = none → a.phase = 3 ∧ a.edge = false ∧ a.kind = 1 ∧ a.course = 3 ∧
        a.dome < 64 → s.get (R.STB_DOM_STATE_STATE a.dome) = 2 ∨ s.get (R.STB_DOM_STATE_STATE a.dome) = 3 →
        ∃ t, s.stbTick = t ∧ t.get (R.STB_DOM_STATE_STATE a.dome) = 4 ∧ (t.dome a.dome).after = 1 ∧ t.stb.app = some
          { a with phase := 5, edge := true } ∧ 66 ∈ t.irq ∧ t.jsc.jobs.all (fun j => !(j.live && j.dome == a.dome)) = true
          ∧ t.mover.all (fun m => m.dome != a.dome || m.stop) = true)
    ∧ (∀ (a : StbApp) (b : List Byte), s.stb.app = some a ∧ (s.stagedOf a).2.stb.amend = none ∧ s.stb.amend = none → a.phase
        = 4 ∧ a.kind = 2 ∧ a.rules = false → sectOf (s.stagedOf a).1 7 = some b → s.get R.RST_LC_STATE = 1 ∨ s.get
        R.RST_ROOT_SRK_VALID = 0 →
        ∃ t, s.stbTick = t ∧ (∀ n, n < 17 → t.get (R.TMP_MASK_MASK n) = fld b n 1) ∧ t.get R.STB_STATUS_TAMPER_KEPT = 0 ∧
          t.stb.app = none ∧ t.get R.STB_STATUS_PHASE = 7 ∧ 64 ∈ t.irq)
    ∧ (∀ (a : StbApp) (b : List Byte), s.stb.app = some a ∧ (s.stagedOf a).2.stb.amend = none ∧ s.stb.amend = none → a.phase
        = 4 ∧ a.kind = 2 ∧ a.rules = false → sectOf (s.stagedOf a).1 7 = some b → s.get R.RST_LC_STATE ≠ 1 ∧ s.get
        R.RST_ROOT_SRK_VALID = 1 →
        ∃ t, s.stbTick = t ∧ (∀ n, n < 17 → t.get (R.TMP_MASK_MASK n) = (s.get (R.TMP_MASK_MASK n) ||| fld b n 1)) ∧ (t.get
          R.STB_STATUS_TAMPER_KEPT = if (List.range 17).all (fun n => decide ((s.get (R.TMP_MASK_MASK n) ||| fld b n 1) =
          fld b n 1)) then 0 else 1) ∧ t.stb.app = none ∧ t.get R.STB_STATUS_PHASE = 7 ∧ 64 ∈ t.irq)
    ∧ (∀ (a : StbApp), s.stb.app = some a ∧ (s.stagedOf a).2.stb.amend = none ∧ s.stb.amend = none → a.phase = 4 ∧ a.kind =
        0 ∧ a.course ≠ 4 →
        ∃ t, s.stbTick = t ∧ t.stb.app = some { a with course := 4, edge := true } ∧ t.get R.STB_STATUS_PHASE = 4 ∧ t.get
          R.STB_VERSION_VERSION = fld (stg a).1 8 4 ∧ (∀ d, d < 64 → (t.dome d).allot = ((marlAllots (stg
          a).1).reverse.find? (fun e => e.1 == d)).map (·.2)) ∧ t.memc.cmap = colourMap (marlAllots (stg a).1) ∧ t.artCur =
          ((marlRules (stg a).1).getD []).foldl (fun u e => tabSet {} u e.1 e.2) [])
    ∧ (∀ (a : StbApp), s.stb.app = some a ∧ s.stb.amend = none → a.phase = 4 ∧ a.kind = 0 ∧ a.course = 4 ∧ a.rules = false →
        s.flc.info.all (fun w => (match w with | .cmap _ => false | _ => true)) = true →
        ∃ t, s.stbTick = t ∧ t.stb.app = none ∧ t.get R.STB_STATUS_PHASE = 7 ∧ 64 ∈ t.irq ∧ (∀ d, d < 64 → t.get
          (R.STB_DOM_STATE_EPOCH d) = 0 ∧ t.get (R.STB_DOM_STATE_STATE d) = (if (s.dome d).allot.isNone then 0 else if
          (s.dome d).content.isSome then 2 else 4)) ∧ (t.get R.RST_BOOT_PHASE = if s.pwr.confirmed then 10 else 9))

/-- Jobs on their way to a core (R169 to R185, R228, R236, R238): a BEST request that policy admits is in flight with the
context's dome and epoch, a placed payload leaves its store, and a job that enters runs at its handler's entry with the
registers R228 gives it. A request that a check of R176 or a condition of R177 fails is refused with its code and DETAIL,
and a PROMISED one that can be placed is admitted with its core, its promise and the core's commitment (R184). Preemption,
assignment and the end of a job (R187 to R190, R219, R236, R238): a running BEST job is preempted by a ready PROMISED one,
its state going into the flight record; a preempted core resumes its BEST job when no PROMISED job waits, a free core
takes the BEST job of the dome whose turn it is, a spent cycle budget is a HANDLER_FAULT of reason 1, and a job whose
completion has left is no longer in flight. What it takes from the model's own readings or choices is in log entries 15
and 17. -/
def Obligations.Jobs : Prop :=
  ∀ s : State,
    s.spiresRun = true →
    let said (t : State) (i code num detail k : Nat) : State := (t.sesSend i (t.ctx i).cur.epoch 0x10 3 ([0x12, 0] ++ toLE 2
        code ++ toLE 4 num ++ toLE 4 detail ++ zeros 4)).next (R.JSC_REF_COUNT k)
    let refused (t : State) (i code num detail k : Nat) : State := (said t i code num detail k).setJsc
        { (said t i code num detail k).jsc with refJrn := false }
    (∀ (m : RxMsg) (s1 : State) (i : Nat) (r : JobReq) (h : Handler), s.takeMsg
        (fun m => m.kind == 0x10 && (match m.ctx with
            | some i => (s.ctx i).dome != 0
            | none => false)) = some (m, s1) → m.ctx = some i → jobParse m.body = some r → r.cls = 1 → s1.jobDup (s1.ctx
        i).sid r.jobnum = false → s1.jobPolicy (s1.ctx i) r = .inr h → s1.get R.JRN_STATUS_OPEN = 1 → 2 ≤ s1.get
        R.JRN_FREE_POSITIONS → s1.jsc.jobs = [] → 0 < s1.get (R.JSC_DOME_LIMIT_MAX (s1.ctx i).dome) → 0 < s1.get
        (R.JSC_BEST_MAX_MAX (s1.ctx i).dome) →
        ∃ t, exec .jobRequest s = .next t ∧ t.jsc.jobs.map (fun j => (j.cls, j.st, j.core, j.handler, j.jobnum)) = [(1,
          .admitted, none, r.handler, r.jobnum)] ∧ t.jsc.jobs.map (fun j => (j.h, j.handles, j.payload, j.dome)) = [(h,
          r.keys, r.payload, (s1.ctx i).dome)] ∧ t.jsc.jobs.map (fun j => (j.tAdm, j.epoch)) = [(s1.now, s1.get
          (R.STB_DOM_STATE_EPOCH (s1.ctx i).dome))] ∧ t.pending = s.pending)
    ∧ (∀ (m : RxMsg) (s1 : State) (i : Nat), s.takeMsg (fun m => m.kind == 0x10 && (match m.ctx with
            | some i => (s.ctx i).dome != 0
            | none => false)) = some (m, s1) → m.ctx = some i → jobParse m.body = none →
        exec .jobRequest s = .next (refused s1 i 0x0001 (if 8 ≤ m.body.length then fld m.body 4 4 else 0) 0 6))
    ∧ (∀ (m : RxMsg) (s1 : State) (i : Nat) (r : JobReq), s.takeMsg (fun m => m.kind == 0x10 && (match m.ctx with
            | some i => (s.ctx i).dome != 0
            | none => false)) = some (m, s1) → m.ctx = some i → jobParse m.body = some r → s1.jobDup (s1.ctx i).sid r.jobnum
        = true →
        exec .jobRequest s = .next (refused s1 i 0x0106 r.jobnum 0 5))
    ∧ (∀ (m : RxMsg) (s1 : State) (i : Nat) (r : JobReq), s.takeMsg (fun m => m.kind == 0x10 && (match m.ctx with
            | some i => (s.ctx i).dome != 0
            | none => false)) = some (m, s1) → m.ctx = some i → jobParse m.body = some r → s1.jobDup (s1.ctx i).sid r.jobnum
        = false → (s1.get (R.STB_DOM_STATE_STATE (s1.ctx i).dome) ≠ 2 ∧ s1.get (R.STB_DOM_STATE_STATE (s1.ctx i).dome) ≠ 3)
        ∨ s1.pwr.hold = true ∨ s1.get R.JSC_STATUS_OPEN = 0 →
        exec .jobRequest s = .next (refused s1 i 0x0103 r.jobnum 1 2))
    ∧ (∀ (m : RxMsg) (s1 : State) (i : Nat) (r : JobReq), s.takeMsg (fun m => m.kind == 0x10 && (match m.ctx with
            | some i => (s.ctx i).dome != 0
            | none => false)) = some (m, s1) → m.ctx = some i → jobParse m.body = some r → s1.jobDup (s1.ctx i).sid r.jobnum
        = false → s1.get (R.STB_DOM_STATE_STATE (s1.ctx i).dome) = 2 ∨ s1.get (R.STB_DOM_STATE_STATE (s1.ctx i).dome) = 3 →
        s1.pwr.hold = false ∧ s1.get R.JSC_STATUS_OPEN = 1 → (s1.dome (s1.ctx i).dome).content.bind (fun c => c.handler
        r.handler) = none →
        exec .jobRequest s = .next (refused s1 i 0x0103 r.jobnum 2 2))
    ∧ (∀ (m : RxMsg) (s1 : State) (i : Nat) (r : JobReq) (ct : Content) (h : Handler), s.takeMsg
        (fun m => m.kind == 0x10 && (match m.ctx with
            | some i => (s.ctx i).dome != 0
            | none => false)) = some (m, s1) → m.ctx = some i → jobParse m.body = some r → s1.jobDup (s1.ctx i).sid r.jobnum
        = false → s1.get (R.STB_DOM_STATE_STATE (s1.ctx i).dome) = 2 ∨ s1.get (R.STB_DOM_STATE_STATE (s1.ctx i).dome) = 3 →
        s1.pwr.hold = false ∧ s1.get R.JSC_STATUS_OPEN = 1 → (s1.dome (s1.ctx i).dome).content = some ct ∧ ct.handler
        r.handler = some h → h.classes.testBit r.cls = false →
        exec .jobRequest s = .next (refused s1 i 0x0103 r.jobnum 2 2))
    ∧ (∀ (m : RxMsg) (s1 : State) (i : Nat) (r : JobReq) (ct : Content) (h : Handler), s.takeMsg
        (fun m => m.kind == 0x10 && (match m.ctx with
            | some i => (s.ctx i).dome != 0
            | none => false)) = some (m, s1) → m.ctx = some i → jobParse m.body = some r → s1.jobDup (s1.ctx i).sid r.jobnum
        = false → s1.get (R.STB_DOM_STATE_STATE (s1.ctx i).dome) = 2 ∨ s1.get (R.STB_DOM_STATE_STATE (s1.ctx i).dome) = 3 →
        s1.pwr.hold = false ∧ s1.get R.JSC_STATUS_OPEN = 1 → (s1.dome (s1.ctx i).dome).content = some ct ∧ ct.handler
        r.handler = some h → h.classes.testBit r.cls = true ∧ (ct.cls (s1.ctx i).cls).isNone = true →
        exec .jobRequest s = .next (refused s1 i 0x0103 r.jobnum 3 2))
    ∧ (∀ (m : RxMsg) (s1 : State) (i : Nat) (r : JobReq) (ct : Content) (h : Handler), s.takeMsg
        (fun m => m.kind == 0x10 && (match m.ctx with
            | some i => (s.ctx i).dome != 0
            | none => false)) = some (m, s1) → m.ctx = some i → jobParse m.body = some r → s1.jobDup (s1.ctx i).sid r.jobnum
        = false → s1.get (R.STB_DOM_STATE_STATE (s1.ctx i).dome) = 2 ∨ s1.get (R.STB_DOM_STATE_STATE (s1.ctx i).dome) = 3 →
        s1.pwr.hold = false ∧ s1.get R.JSC_STATUS_OPEN = 1 → (s1.dome (s1.ctx i).dome).content = some ct ∧ ct.handler
        r.handler = some h → h.classes.testBit r.cls = true ∧ (ct.cls (s1.ctx i).cls).isSome = true → s1.payloadMax (s1.ctx
        i).dome h < r.payload.length ∨ h.keysMax < r.keys.length →
        exec .jobRequest s = .next (refused s1 i 0x0103 r.jobnum 4 2))
    ∧ (∀ (m : RxMsg) (s1 : State) (i : Nat) (r : JobReq) (ct : Content) (h : Handler), s.takeMsg
        (fun m => m.kind == 0x10 && (match m.ctx with
            | some i => (s.ctx i).dome != 0
            | none => false)) = some (m, s1) → m.ctx = some i → jobParse m.body = some r → s1.jobDup (s1.ctx i).sid r.jobnum
        = false → s1.get (R.STB_DOM_STATE_STATE (s1.ctx i).dome) = 2 ∨ s1.get (R.STB_DOM_STATE_STATE (s1.ctx i).dome) = 3 →
        s1.pwr.hold = false ∧ s1.get R.JSC_STATUS_OPEN = 1 → (s1.dome (s1.ctx i).dome).content = some ct ∧ ct.handler
        r.handler = some h → h.classes.testBit r.cls = true ∧ (ct.cls (s1.ctx i).cls).isSome = true → r.payload.length ≤
        s1.payloadMax (s1.ctx i).dome h ∧ r.keys.length ≤ h.keysMax ∧ r.regions &&& h.regions ≠ r.regions →
        exec .jobRequest s = .next (refused s1 i 0x0103 r.jobnum 5 2))
    ∧ (∀ (m : RxMsg) (s1 : State) (i : Nat) (r : JobReq) (ct : Content) (h : Handler), s.takeMsg
        (fun m => m.kind == 0x10 && (match m.ctx with
            | some i => (s.ctx i).dome != 0
            | none => false)) = some (m, s1) → m.ctx = some i → jobParse m.body = some r → s1.jobDup (s1.ctx i).sid r.jobnum
        = false → s1.get (R.STB_DOM_STATE_STATE (s1.ctx i).dome) = 2 ∨ s1.get (R.STB_DOM_STATE_STATE (s1.ctx i).dome) = 3 →
        s1.pwr.hold = false ∧ s1.get R.JSC_STATUS_OPEN = 1 → (s1.dome (s1.ctx i).dome).content = some ct ∧ ct.handler
        r.handler = some h → h.classes.testBit r.cls = true ∧ (ct.cls (s1.ctx i).cls).isSome = true → r.payload.length ≤
        s1.payloadMax (s1.ctx i).dome h ∧ r.keys.length ≤ h.keysMax ∧ r.regions &&& h.regions = r.regions → r.keys ≠ [] ∧
        s1.get R.RST_ROOT_SRK_VALID = 0 →
        exec .jobRequest s = .next (refused s1 i 0x0103 r.jobnum 7 2))
    ∧ (∀ (m : RxMsg) (s1 : State) (i : Nat) (r : JobReq) (ct : Content) (h : Handler), s.takeMsg
        (fun m => m.kind == 0x10 && (match m.ctx with
            | some i => (s.ctx i).dome != 0
            | none => false)) = some (m, s1) → m.ctx = some i → jobParse m.body = some r → s1.jobDup (s1.ctx i).sid r.jobnum
        = false → s1.get (R.STB_DOM_STATE_STATE (s1.ctx i).dome) = 2 ∨ s1.get (R.STB_DOM_STATE_STATE (s1.ctx i).dome) = 3 →
        s1.pwr.hold = false ∧ s1.get R.JSC_STATUS_OPEN = 1 → (s1.dome (s1.ctx i).dome).content = some ct ∧ ct.handler
        r.handler = some h → h.classes.testBit r.cls = true ∧ (ct.cls (s1.ctx i).cls).isSome = true → r.payload.length ≤
        s1.payloadMax (s1.ctx i).dome h ∧ r.keys.length ≤ h.keysMax ∧ r.regions &&& h.regions = r.regions → s1.get
        R.RST_ROOT_SRK_VALID = 1 ∧ r.keys.any (fun k => !s1.dirHas k (s1.ctx i).dome) = true →
        exec .jobRequest s = .next (refused s1 i 0x0103 r.jobnum 6 2))
    ∧ (∀ (m : RxMsg) (s1 : State) (i : Nat) (r : JobReq) (ct : Content) (h : Handler), s.takeMsg
        (fun m => m.kind == 0x10 && (match m.ctx with
            | some i => (s.ctx i).dome != 0
            | none => false)) = some (m, s1) → m.ctx = some i → jobParse m.body = some r → s1.jobDup (s1.ctx i).sid r.jobnum
        = false → s1.get (R.STB_DOM_STATE_STATE (s1.ctx i).dome) = 2 ∨ s1.get (R.STB_DOM_STATE_STATE (s1.ctx i).dome) = 3 →
        s1.pwr.hold = false ∧ s1.get R.JSC_STATUS_OPEN = 1 → (s1.dome (s1.ctx i).dome).content = some ct ∧ ct.handler
        r.handler = some h → h.classes.testBit r.cls = true ∧ (ct.cls (s1.ctx i).cls).isSome = true → r.payload.length ≤
        s1.payloadMax (s1.ctx i).dome h ∧ r.keys.length ≤ h.keysMax ∧ r.regions &&& h.regions = r.regions → r.keys = [] ∧
        r.cls = 0 ∧ s1.get R.TIME_STATUS_UNSET = 1 →
        exec .jobRequest s = .next (refused s1 i 0x0103 r.jobnum 8 2))
    ∧ (∀ (m : RxMsg) (s1 : State) (i : Nat) (r : JobReq) (h : Handler) (n : Nat), s.takeMsg
        (fun m => m.kind == 0x10 && (match m.ctx with
            | some i => (s.ctx i).dome != 0
            | none => false)) = some (m, s1) → m.ctx = some i → jobParse m.body = some r → s1.jobDup (s1.ctx i).sid r.jobnum
        = false → s1.jobPolicy (s1.ctx i) r = .inr h → r.cls = 0 ∧ (setBits 64 (r.uses h)).find? (fun n => s1.warming
        (s1.ctx i).dome n) = some n →
        exec .jobRequest s = .next (refused s1 i 0x0102 r.jobnum n 1))
    ∧ (∀ (m : RxMsg) (s1 : State) (i : Nat) (r : JobReq) (h : Handler), s.takeMsg
        (fun m => m.kind == 0x10 && (match m.ctx with
            | some i => (s.ctx i).dome != 0
            | none => false)) = some (m, s1) → m.ctx = some i → jobParse m.body = some r → s1.jobDup (s1.ctx i).sid r.jobnum
        = false → s1.jobPolicy (s1.ctx i) r = .inr h → r.cls = 0 → (setBits 64 (r.uses h)).find? (fun n => s1.warming
        (s1.ctx i).dome n) = none → s1.get R.JRN_STATUS_OPEN = 0 ∨ s1.get R.JRN_FREE_POSITIONS < 2 →
        exec .jobRequest s = .next (if s1.jsc.refJrn = true then said s1 i 0x0104 r.jobnum 0 3 else ((said s1 i 0x0104
          r.jobnum 0 3).setJsc { (said s1 i 0x0104 r.jobnum 0 3).jsc with refJrn := true }).cause R.JSC_EVENTS_CAUSE 80 83))
    ∧ (∀ (m : RxMsg) (s1 : State) (i : Nat) (r : JobReq) (h : Handler), s.takeMsg
        (fun m => m.kind == 0x10 && (match m.ctx with
            | some i => (s.ctx i).dome != 0
            | none => false)) = some (m, s1) → m.ctx = some i → jobParse m.body = some r → s1.jobDup (s1.ctx i).sid r.jobnum
        = false → s1.jobPolicy (s1.ctx i) r = .inr h → r.cls = 0 → (setBits 64 (r.uses h)).find? (fun n => s1.warming
        (s1.ctx i).dome n) = none → s1.get R.JRN_STATUS_OPEN = 1 ∧ 2 ≤ s1.get R.JRN_FREE_POSITIONS → s1.jsc.jobs.length <
        65536 ∧ s1.get (R.JSC_DOME_LIMIT_MAX (s1.ctx i).dome) ≤ (s1.jsc.jobs.filter (fun j => j.dome == (s1.ctx
        i).dome)).length →
        exec .jobRequest s = .next (refused s1 i 0x0101 r.jobnum 2 0))
    ∧ (∀ (m : RxMsg) (s1 : State) (i : Nat) (r : JobReq) (h : Handler), s.takeMsg
        (fun m => m.kind == 0x10 && (match m.ctx with
            | some i => (s.ctx i).dome != 0
            | none => false)) = some (m, s1) → m.ctx = some i → jobParse m.body = some r → s1.jobDup (s1.ctx i).sid r.jobnum
        = false → s1.jobPolicy (s1.ctx i) r = .inr h → r.cls = 0 → (setBits 64 (r.uses h)).find? (fun n => s1.warming
        (s1.ctx i).dome n) = none → s1.get R.JRN_STATUS_OPEN = 1 ∧ 2 ≤ s1.get R.JRN_FREE_POSITIONS → s1.jsc.jobs.length <
        65536 ∧ (s1.jsc.jobs.filter (fun j => j.dome == (s1.ctx i).dome)).length < s1.get (R.JSC_DOME_LIMIT_MAX (s1.ctx
        i).dome) → r.cls = 1 ∧ s1.get (R.JSC_BEST_MAX_MAX (s1.ctx i).dome) ≤ (s1.bestQueue (s1.ctx i).dome).length →
        exec .jobRequest s = .next (refused s1 i 0x0101 r.jobnum 3 0))
    ∧ (∀ (m : RxMsg) (s1 : State) (i : Nat) (r : JobReq) (h : Handler), s.takeMsg
        (fun m => m.kind == 0x10 && (match m.ctx with
            | some i => (s.ctx i).dome != 0
            | none => false)) = some (m, s1) → m.ctx = some i → jobParse m.body = some r → s1.jobDup (s1.ctx i).sid r.jobnum
        = false → s1.jobPolicy (s1.ctx i) r = .inr h → r.cls = 0 → (setBits 64 (r.uses h)).find? (fun n => s1.warming
        (s1.ctx i).dome n) = none → s1.get R.JRN_STATUS_OPEN = 1 ∧ 2 ≤ s1.get R.JRN_FREE_POSITIONS → s1.jsc.jobs.length <
        65536 ∧ (s1.jsc.jobs.filter (fun j => j.dome == (s1.ctx i).dome)).length < s1.get (R.JSC_DOME_LIMIT_MAX (s1.ctx
        i).dome) → r.cls = 0 ∧ (s1.acquireAll (s1.ctx i).dome (s1.get R.ART_EPOCH_CURRENT) (s1.get R.FED_EPOCH_CURRENT) []
        r.keys = none ∨ s1.bestCore s1.now (s1.terms (s1.ctx i) r h) (s1.ctx i) h = none ∨ h.pkeU ≠ 0 ∧ s1.pkeAvailable =
        false) →
        exec .jobRequest s = .next (refused s1 i 0x0101 r.jobnum 4 0))
    ∧ (∀ (m : RxMsg) (s1 : State) (i : Nat) (r : JobReq) (h : Handler) (slots : List Nat) (s2 : State) (p : Rat) (core :
        Nat), s.takeMsg (fun m => m.kind == 0x10 && (match m.ctx with
            | some i => (s.ctx i).dome != 0
            | none => false)) = some (m, s1) → m.ctx = some i → jobParse m.body = some r → s1.jobDup (s1.ctx i).sid r.jobnum
        = false → s1.jobPolicy (s1.ctx i) r = .inr h → r.cls = 0 → (setBits 64 (r.uses h)).find? (fun n => s1.warming
        (s1.ctx i).dome n) = none → s1.get R.JRN_STATUS_OPEN = 1 ∧ 2 ≤ s1.get R.JRN_FREE_POSITIONS → s1.jsc.jobs.length <
        65536 ∧ (s1.jsc.jobs.filter (fun j => j.dome == (s1.ctx i).dome)).length < s1.get (R.JSC_DOME_LIMIT_MAX (s1.ctx
        i).dome) → r.cls = 0 ∧ s1.acquireAll (s1.ctx i).dome (s1.get R.ART_EPOCH_CURRENT) (s1.get R.FED_EPOCH_CURRENT) []
        r.keys = some (slots, true, s2) ∧ (h.pkeU = 0 ∨ s1.pkeAvailable = true) → s1.bestCore s1.now (s1.terms (s1.ctx i) r
        h) (s1.ctx i) h = some (p, core) → r.deadline ≠ 0 ∧ (r.deadline : Rat) < ((p.ceil.toNat : Nat) : Rat) - s1.now →
        exec .jobRequest s = .next (refused s1 i 0x0105 r.jobnum (min ((((p.ceil.toNat : Nat) : Rat) - s1.now).ceil.toNat)
          0xFFFFFFFF) 4))
    ∧ (∀ (m : RxMsg) (s1 : State) (i : Nat) (r : JobReq) (h : Handler) (slots : List Nat) (s2 : State) (p : Rat) (core :
        Nat), s.takeMsg (fun m => m.kind == 0x10 && (match m.ctx with
            | some i => (s.ctx i).dome != 0
            | none => false)) = some (m, s1) → m.ctx = some i → jobParse m.body = some r → s1.jobDup (s1.ctx i).sid r.jobnum
        = false → s1.jobPolicy (s1.ctx i) r = .inr h → r.cls = 0 → (setBits 64 (r.uses h)).find? (fun n => s1.warming
        (s1.ctx i).dome n) = none → s1.get R.JRN_STATUS_OPEN = 1 ∧ 2 ≤ s1.get R.JRN_FREE_POSITIONS → s1.jsc.jobs.length <
        65536 ∧ (s1.jsc.jobs.filter (fun j => j.dome == (s1.ctx i).dome)).length < s1.get (R.JSC_DOME_LIMIT_MAX (s1.ctx
        i).dome) → r.cls = 0 ∧ s1.acquireAll (s1.ctx i).dome (s1.get R.ART_EPOCH_CURRENT) (s1.get R.FED_EPOCH_CURRENT) []
        r.keys = some (slots, true, s2) ∧ (h.pkeU = 0 ∨ s1.pkeAvailable = true) → s1.bestCore s1.now (s1.terms (s1.ctx i) r
        h) (s1.ctx i) h = some (p, core) → r.deadline = 0 ∧ s2.jsc.jobs = [] →
        ∃ t, exec .jobRequest s = .next t ∧ t.jsc.jobs.map (fun j => (j.cls, j.st, j.core, j.handler, j.jobnum)) = [(0,
          .admitted, some core, r.handler, r.jobnum)] ∧ t.jsc.jobs.map (fun j => (j.promise, j.slots, j.h, j.handles,
          j.payload)) = [(p.ceil.toNat, slots, h, r.keys, r.payload)] ∧ tabGet 0 t.jsc.commit core = p - (s1.terms (s1.ctx
          i) r h).g ∧ t.get R.JSC_LASTID_ID = t.jsc.jobs.foldl (fun n j => n + j.id) 0)
    ∧ (∀ (j : Job), s.jsc.jobs.find? (fun j => !j.placed && j.live) = some j →
        ∃ t, exec .payloadPlaced s = .next t ∧ t.jsc.jobs = s.jsc.jobs.map (fun k => if k.id = j.id then
          { k with placed := true, payload := [] } else k))
    ∧ (∀ (c : Nat) (j : Job), c < 512 → s.readyJob c = some j → (s.core c).phase = .idle → (s.core c).job = none →
        ∃ t, exec (.jobStart c) s = .next t ∧ (t.core c).phase = .running ∧ (t.core c).job = some j.id ∧ (t.core c).tier =
          j.cls ∧ (t.core c).pc = j.h.entry % 16384 ∧ (t.core c).pend = [] ∧ (t.core c).pbits = [] ∧ ((t.core c).reg
          4).toNat = j.payloadLen % 2 ^ 32 ∧ ((t.core c).reg 7).toNat = j.id % 2 ^ 32 ∧ t.jsc.jobs.all (fun k => k.id !=
          j.id || (k.st == .running && k.core == some c && k.cycles == 8)) = true ∧ (∀ d, d ≠ c → t.core d = s.core d))
    ∧ (∀ (c b : Nat) (j k : Job), c < 512 → s.readyJob c = some j → (s.core c).job = some b → s.job b = some k ∧ k.cls = 1 →
        (s.core c).phase = .running →
        ∃ t, exec (.jobStart c) s = .next t ∧ (t.core c).phase = .preempting ∧ (t.core c).job = none ∧ (t.core c).flightJob
          = some k.id ∧ (t.core c).flight = (s.core c).record ∧ (t.core c).flight.take 31 = (List.range 31).map (fun n =>
          BitVec.ofNat 32 (tabGet 0 (s.core c).regs (n + 1)).toNat) ∧ (t.core c).flight.getD 37 0 = BitVec.ofNat 32 ((s.core
          c).pc + (s.core c).target * 65536 + (s.core c).slots * 2 ^ 30) ∧ t.jsc.jobs = s.jsc.jobs.map (fun x => if x.id =
          k.id then { x with st := .preempted } else x) ∧ (∀ d, d ≠ c → t.core d = s.core d) ∧
          ({ t with cores := s.cores, jsc := s.jsc } : State) = s)
    ∧ (∀ (c b : Nat), (s.core c).phase = .preempting → s.readyJob c = none → (s.core c).flightJob = some b →
        exec (.preemptionEnd c) s = .next (s.setCore c { s.core c with phase := .resuming }))
    ∧ (∀ (c b : Nat), (s.core c).phase = .idle → (s.core c).job = none → (s.core c).flightJob = some b → s.readyJob c = none
        →
        exec (.bestResume c) s = .next (s.setCore c { s.core c with phase := .resuming }))
    ∧ (∀ (c b : Nat) (j : Job), (s.core c).phase = .resuming → (s.core c).flightJob = some b → s.job b = some j → j.wait =
        none →
        ∃ t, exec (.bestResumeEnd c) s = .next t ∧ t.core c = (s.core c).restore ∧ t.jsc.jobs.all (fun k => k.id != j.id ||
          k.wait.isSome || k.st == .running) = true ∧ (∀ d, d ≠ c → t.core d = s.core d) ∧
          ({ t with cores := s.cores, jsc := s.jsc } : State) = s)
    ∧ (∀ (c : Nat) (j : Job) (slots : List Nat), c < 512 → (s.core c).phase = .idle → (s.core c).job = none → (s.core
        c).flightJob = none → s.firstJob c = none → s.assigned c = none → s.jsc.turn < 64 → s.headFor c s.jsc.turn = some
        (j, slots, s) →
        ∃ t, exec (.bestAssign c) s = .next t ∧ t.jsc.turn = (j.dome + 1) % 64 ∧ t.jsc.jobs.all (fun k => k.id != j.id ||
          (k.core == some c && k.slots == slots)) = true)
    ∧ (∀ (c b : Nat) (j : Job), (s.core c).job = some b → s.job b = some j → j.st = .running → j.h.wcet ≤ j.cycles →
        ∃ t, exec (.cycleBudgetExpiry c) s = .next t ∧ 80 ∈ t.irq ∧ t.faultQ.any
          (fun m => m.source == 1 && m.addr == 1 && m.dome == j.dome && m.spire == j.spire) = true)
    ∧ (∀ (k : Nat) (m : TxMsg) (b : Nat) (j : Job), s.linkSends k = true → s.txNext k = some m → m.job = some b → s.job b =
        some j → m.done = 0 → j.id = b →
        ∃ t, exec (.completionTx k) s = .next t ∧ t.jsc.jobs.all (fun x => x.id != b) = true ∧ (j.cls = 0 → brokenCode
          j.status = false → (j.promise : Rat) < s.now → 82 ∈ t.irq))
    ∧ (∀ (p : Nat),
        exec (.scrubFreeze p) s = .next (s.setJsc { s.jsc with
              jobs := s.jsc.jobs.map (fun j => if j.st = .running ∧ j.core.map (· / 16) = some p then { j with cycles := j.cycles + 1 } else j) }))

/-- The journal (R196, R199 to R202): opening writes a GENESIS record, a block closes 1 µs after its first record, an
export moves the export position or sets BADEXP, a seal closes the journal for good. What it takes from the model's own
readings or choices is in log entry 16. -/
def Obligations.JournalCommands : Prop :=
  ∀ s : State,
    s.spiresRun = true →
    (s.get R.JRN_STATUS_OPEN = 0 → s.get R.JRN_STATUS_SEALED = 0 → 1 ≤ s.get R.JRN_SIZE_UNITS → s.get R.JRN_SIZE_UNITS ≤
        32768 → s.get R.JRN_SEAL_INFO_VALID = 0 → s.keepHalted = false →
        ∃ t, exec .journalOpen s = .next t ∧ t.get R.JRN_STATUS_OPEN = 1 ∧ t.get R.JRN_NEXT_SEQ_SEQ = 1 ∧ t.get
          R.JRN_EXPORT_SEQ = 2 ^ 64 - 1 ∧ t.jrn.block.length = 1 ∧ t.jrn.jobRecs = 0 ∧ t.jsc = s.jsc)
    ∧ (s.jrn.block ≠ [] → s.jrn.start + 1000 ≤ s.tnow → s.get R.JRN_NEXT_SEQ_SEQ < 2 ^ 64 - 1 →
        ∃ t, exec .blockClose s = .next t ∧ t.jrn.block = [] ∧ t.jrn.lastBlk = s.get R.JRN_NEXT_SEQ_SEQ + 1 ∧ t.get
          R.JRN_NEXT_SEQ_SEQ = s.get R.JRN_NEXT_SEQ_SEQ + 1 ∧ t.jsc = s.jsc)
    ∧ (∀ (seq : Nat), seq < 2 ^ 64 → seq < s.jrn.lastBlk → s.get R.JRN_EXPORT_SEQ = 2 ^ 64 - 1 ∨ s.get R.JRN_EXPORT_SEQ ≤
        seq → s.keepHalted = false →
        ∃ t, exec (.journalExport seq) s = .next t ∧ t.get R.JRN_EXPORT_SEQ = seq ∧
          ({ t with jrn := s.jrn, irq := s.irq, regs := s.regs } : State) = s)
    ∧ (∀ (seq : Nat), seq < 2 ^ 64 → s.jrn.lastBlk ≤ seq → s.keepHalted = false →
        exec (.journalExport seq) s = .next ((s.set R.JRN_STATUS_BADEXP 1).raise 387))
    ∧ (s.pwr.seq = .none → s.pwr.hold = true → s.jsc.jobs = [] → s.get R.JRN_STATUS_OPEN = 1 →
        ∃ t, exec .journalSeal s = .next t ∧ t.get R.JRN_STATUS_SEALED = 1 ∧ t.get R.JRN_STATUS_OPEN = 0 ∧ t.get
          R.JRN_SEAL_INFO_VALID = 1 ∧ t.get R.JRN_SEAL_INFO_CAUSE = 1 ∧ 386 ∈ t.irq ∧ t.jsc = s.jsc)

/-- REGISTER_WRITE (R12) at any register of the map: an RW field takes the value, a W1C field is cleared by a 1 and kept
by a 0, an RO field keeps its value, a register that has a command of its own is not commanded by it, a register whose
write stores something else than was written stores that, and a write in the TMP block spends an armed unlock (R449).
TRANSFER (R33 to R36, R319): a WRITE that every byte's rules allow stores its bytes, a READ answers them, a forbidden one
stores nothing, answers zeros and is told to the FCU with its first forbidden byte; the domain and the epoch are the
hardware's (R42, R46); what no agent may issue has no effect; a request whose check fails is answered with zeros and is
tamper BUSIC. In DDR the line's outcome is counted, corrected or told as R285 and R286 say; a write of flash is dropped
and counted, a read of its bank under operation waits; a register is read and written whole, another width or alignment is
a violation (R15, R16). What it takes from the model's own readings or choices is in log entries 3 and 9. -/
def Obligations.RegistersAndTransfers : Prop :=
  ∀ s : State,
    s.spiresRun = true →
    (∀ (a v : Nat) (w : Bool) (fs : List Fld), regAt a = some (w, fs) → s.commandWrite 0x200 a v = none → a ∉ [0xFF00010000,
        0xFF00010004, 0xFF00010034, 0xFF0002000C, 0xFF00030010, 0xFF00040010, 0xFF00040020, 0xFF000E0050, 0xFF00110008,
        0xFF00140000, 0xFF00140040, 0xFF00150000, 0xFF00170018, 0xFF00180008, 0xFF00180010] → s.keepHalted = false →
        ∃ t, exec (.registerWrite a v) s = .next t ∧ (∀ f ∈ fs, t.get f = (if f.acc = .rw then bitsOf v f.lo f.wd else if
          f.acc = .w1c then s.get f - (s.get f &&& bitsOf v f.lo f.wd) else s.get f)) ∧ (∀ f : Fld, f.key ∉ (fs.map (·.key))
          → t.get f = s.get f) ∧ t.tmp = (if 0xFF00080000 ≤ a ∧ a < 0xFF00090000 then { s.tmp with unlocked := false } else
          s.tmp) ∧ ({ t with tmp := s.tmp, regs := s.regs } : State) = s)
    ∧ (∀ (a v : Nat), (s.commandWrite 0x200 a v).isSome = true → a < 0xFF00161000 ∨ 0xFF00162000 ≤ a → s.keepHalted = false
        →
        exec (.registerWrite a v) s = .next (if 0xFF00080000 < a ∧ a < 0xFF00090000 ∧ a ≠ 0xFF00080010 then s.setTmp
          { s.tmp with unlocked := false } else s))
    ∧ (∀ (i v : Nat), 768 ≤ i ∧ i < 1024 → (s.get R.CLF_MBOX_OUT_OWN).testBit ((i - 768) / 128) = false → s.keepHalted =
        false →
        exec (.registerWrite (0xFF00161000 + 4 * i) v) s = .next (s.tagPut ((i - 512) * 4) (toLE 4 (v % 2 ^ 32))))
    ∧ (∀ (v : Nat), s.keepHalted = false →
        exec (.registerWrite 0xFF00010034 v) s = .next (s.set R.PWR_WAKE_EN_EN (v ||| 0x11)))
    ∧ (∀ (v : Nat), s.keepHalted = false →
        exec (.registerWrite 0xFF00030010 v) s = .next (s.set R.MGT_ALERT_EN_EN (v ||| 2)))
    ∧ (∀ (v : Nat), s.keepHalted = false →
        exec (.registerWrite 0xFF00040010 v) s = .next (s.set R.STB_SRC_ADDR (v % 2 ^ 40 / 64 * 64)))
    ∧ (∀ (v : Nat), s.keepHalted = false →
        exec (.registerWrite 0xFF00040020 v) s = .next (s.set R.STB_STAGE_ADDR (v % 2 ^ 40 / 2 ^ 21 * 2 ^ 21)))
    ∧ (∀ (v : Nat), s.keepHalted = false →
        exec (.registerWrite 0xFF000E0050 v) s = .next (s.set R.MEMC_KEYTAB_HI_COUNT (min (v % 2 ^ 25) (2 ^ 24))))
    ∧ (∀ (v : Nat), s.get R.SES_CTX_VALID = 0 → s.keepHalted = false →
        exec (.registerWrite 0xFF00110008 v) s = .next ((s.set R.SES_CTX_BASE (bitsOf v 30 10)).set R.SES_CTX_VALID (bitsOf
          v 63 1)))
    ∧ (∀ (a v : Nat), a = 0xFF00180008 ∧ s.get R.JRN_STATUS_OPEN = 1 ∨ a = 0xFF00180010 ∧ s.get R.JRN_STATUS_OPEN = 1 ∨ a =
        0xFF00110008 ∧ s.get R.SES_CTX_VALID = 1 ∨ a = 0xFF00140000 ∧ s.get (R.ICC_STATUS_BUSY 0) = 1 ∨ a = 0xFF00140040 ∧
        s.get (R.ICC_STATUS_BUSY 1) = 1 →
        exec (.registerWrite a v) s = .next (s))
    ∧ (∀ (v : Nat), v < 2 ^ 32 →
        exec (.registerWrite 0xFF000F0808 v) s = .next (s))
    ∧ (∀ (v : Nat), v < 2 ^ 32 → s.keepHalted = false →
        ∃ t, exec (.registerWrite 0xFF000F0800 v) s = .next t ∧ t.get R.MMU_RGN_SEL_REGION = v % 64 ∧ t.get
          R.MMU_RGN_SEL_DOME = v / 256 % 64 ∧ ({ t with regs := s.regs } : State) = s ∧ (∀ f : Fld, f.key ∉
          [R.MMU_RGN_SEL_REGION.key, R.MMU_RGN_SEL_DOME.key] → t.get f = s.get f))
    ∧ (∀ (v : Nat), v < 2 ^ 32 → s.keepHalted = false →
        ∃ t, exec (.registerWrite 0xFF00000000 v) s = .next t ∧ t.get R.RST_CAUSE_POWER = (if v.testBit 0 then 0 else s.get
          R.RST_CAUSE_POWER) ∧ t.get R.RST_CAUSE_WATCHDOG = (if v.testBit 5 then 0 else s.get R.RST_CAUSE_WATCHDOG) ∧ t.get
          R.RST_CAUSE_BEDROCK = s.get R.RST_CAUSE_BEDROCK ∧ ({ t with regs := s.regs } : State) = s ∧ (∀ f : Fld, f.key ∉
          [R.RST_CAUSE_POWER.key, R.RST_CAUSE_NRESET.key, R.RST_CAUSE_MGT.key, R.RST_CAUSE_FCU.key, R.RST_CAUSE_KEEP.key,
          R.RST_CAUSE_WATCHDOG.key] → t.get f = s.get f))
    ∧ (∀ (v : Nat), v < 2 ^ 32 →
        exec (.registerWrite 0xFF00000010 v) s = .next (s))
    ∧ (∀ (v : Nat), v < 2 ^ 64 → s.tmp.unlocked = true → s.keepHalted = false →
        exec (.registerWrite 0xFF0008000C v) s = .next (s.setTmp { s.tmp with unlocked := false }))
    ∧ (∀ (agent who job a len : Nat) (data : List Byte), isReg a = false → isDdr a = false → isFlash a = false →
        s.neverIssued agent 1 a data.length = false → s.judge {
            agent := agent, dom := s.stamped agent who, epoch := s.carried job,
            sp := if agentClass agent = 3 then who / 16 % 64 else 63 } 1 a data.length = none →
        exec (.transfer agent who job 1 a len data 0 none false) s = .next ((s.putBytes a data).answer agent []))
    ∧ (∀ (agent who job a n : Nat), isReg a = false → isDdr a = false → isFlash a = false → s.neverIssued agent 0 a n =
        false → s.judge {
            agent := agent, dom := s.stamped agent who, epoch := s.carried job,
            sp := if agentClass agent = 3 then who / 16 % 64 else 63 } 0 a n = none →
        exec (.transfer agent who job 0 a n [] 0 none false) s = .next (s.answer agent (s.bytes a n)))
    ∧ (∀ (agent who job a n : Nat), isDdr a = true ∧ 0 < n ∧ a % 64 + n ≤ 64 → s.lineState (lineOf a) = 0 → s.neverIssued
        agent 0 a n = false → s.judge {
            agent := agent, dom := s.stamped agent who, epoch := s.carried job,
            sp := if agentClass agent = 3 then who / 16 % 64 else 63 } 0 a n = none →
        exec (.transfer agent who job 0 a n [] 0 none false) s = .next (s.answer agent (s.bytes a n)))
    ∧ (∀ (agent who job a n : Nat), isDdr a = true ∧ 0 < n ∧ a % 64 + n ≤ 64 → s.neverIssued agent 0 a n = false → s.judge {
            agent := agent, dom := s.stamped agent who, epoch := s.carried job,
            sp := if agentClass agent = 3 then who / 16 % 64 else 63 } 0 a n = none →
        exec (.transfer agent who job 0 a n [] 1 none false) s = .next (((s.setLine (lineOf a) 0).set R.MEMC_CE_COUNT_COUNT
          (satInc R.MEMC_CE_COUNT_COUNT.wd (s.get R.MEMC_CE_COUNT_COUNT))).answer agent (s.bytes a n)))
    ∧ (∀ (agent who job a n : Nat), isDdr a = true ∧ 0 < n ∧ a % 64 + n ≤ 64 → s.get R.MEMC_UE_ADDR_VALID = 1 →
        s.neverIssued agent 0 a n = false → s.judge {
            agent := agent, dom := s.stamped agent who, epoch := s.carried job,
            sp := if agentClass agent = 3 then who / 16 % 64 else 63 } 0 a n = none →
        exec (.transfer agent who job 0 a n [] 2 none false) s = .next ((((s.setLine (lineOf a) 2).set R.MEMC_UE_COUNT_COUNT
          (satInc R.MEMC_UE_COUNT_COUNT.wd (s.get R.MEMC_UE_COUNT_COUNT))).report {
              source := 3, agent := agent % 1024, dome := s.stamped agent who, addr := lineOf a, type := 3,
              spire := agentSpire agent }).answer agent (zeros n)))
    ∧ (∀ (agent who job a n : Nat), isDdr a = true ∧ 0 < n ∧ a % 64 + n ≤ 64 → s.get R.MEMC_UE_ADDR_VALID = 0 →
        s.neverIssued agent 0 a n = false → s.judge {
            agent := agent, dom := s.stamped agent who, epoch := s.carried job,
            sp := if agentClass agent = 3 then who / 16 % 64 else 63 } 0 a n = none →
        ∃ t, exec (.transfer agent who job 0 a n [] 2 none false) s = .next t ∧ t.get R.MEMC_UE_ADDR_LINE = a / 64 ∧ t.get
          R.MEMC_UE_ADDR_VALID = 1 ∧ 224 ∈ t.irq ∧ t.reply = some { agent := agent, data := zeros n } ∧ t.mem = s.mem)
    ∧ (∀ (agent who job a n : Nat), isDdr a = true ∧ 0 < n ∧ a % 64 + n ≤ 64 → s.neverIssued agent 0 a n = false → s.judge {
            agent := agent, dom := s.stamped agent who, epoch := s.carried job,
            sp := if agentClass agent = 3 then who / 16 % 64 else 63 } 0 a n = none →
        exec (.transfer agent who job 0 a n [] 3 none false) s = .next ((((s.setLine (lineOf a) 3).set
          R.MEMC_TAG_COUNT_COUNT (satInc R.MEMC_TAG_COUNT_COUNT.wd (s.get R.MEMC_TAG_COUNT_COUNT))).tamper 13 (a /
          64)).answer agent (zeros n)))
    ∧ (∀ (agent who job a len : Nat) (data : List Byte), isDdr a = true ∧ 0 < data.length ∧ data.length < 64 ∧ a % 64 +
        data.length ≤ 64 → s.lineState (lineOf a) = 0 → s.neverIssued agent 1 a data.length = false → s.judge {
            agent := agent, dom := s.stamped agent who, epoch := s.carried job,
            sp := if agentClass agent = 3 then who / 16 % 64 else 63 } 1 a data.length = none →
        exec (.transfer agent who job 1 a len data 0 none false) s = .next ((s.putBytes a data).answer agent []))
    ∧ (∀ (agent who job a len : Nat) (data : List Byte), isDdr a = true ∧ data.length = 64 ∧ a % 64 = 0 → s.neverIssued
        agent 1 a data.length = false → s.judge {
            agent := agent, dom := s.stamped agent who, epoch := s.carried job,
            sp := if agentClass agent = 3 then who / 16 % 64 else 63 } 1 a data.length = none →
        exec (.transfer agent who job 1 a len data 0 none false) s = .next (((s.putBytes a data).setLine a 0).answer agent
          []))
    ∧ (∀ (agent who job a len : Nat) (data : List Byte), isDdr a = true ∧ 0 < data.length ∧ data.length < 64 ∧ a % 64 +
        data.length ≤ 64 → s.neverIssued agent 1 a data.length = false → s.judge {
            agent := agent, dom := s.stamped agent who, epoch := s.carried job,
            sp := if agentClass agent = 3 then who / 16 % 64 else 63 } 1 a data.length = none →
        ∃ t, exec (.transfer agent who job 1 a len data 2 none false) s = .next t ∧ t.mem = s.mem ∧ t.get
          R.MEMC_UE_COUNT_COUNT = satInc R.MEMC_UE_COUNT_COUNT.wd (s.get R.MEMC_UE_COUNT_COUNT) ∧ t.reply = some
          { agent := agent, data := [] })
    ∧ (∀ (agent who job a len : Nat) (data : List Byte), isFlash a = true → s.neverIssued agent 1 a data.length = false →
        s.judge {
            agent := agent, dom := s.stamped agent who, epoch := s.carried job,
            sp := if agentClass agent = 3 then who / 16 % 64 else 63 } 1 a data.length = none →
        exec (.transfer agent who job 1 a len data 0 none false) s = .next ((s.set R.FLC_STATUS_WIGNORED (satInc
          R.FLC_STATUS_WIGNORED.wd (s.get R.FLC_STATUS_WIGNORED))).answer agent []))
    ∧ (∀ (agent who job a n : Nat), isFlash a = true ∧ 0 < n ∧ a % 32 + n ≤ 32 → s.flc.op = none ∧ tabGet 0 s.flc.bad (a /
        32 * 32) = 0 → s.neverIssued agent 0 a n = false → s.judge {
            agent := agent, dom := s.stamped agent who, epoch := s.carried job,
            sp := if agentClass agent = 3 then who / 16 % 64 else 63 } 0 a n = none →
        exec (.transfer agent who job 0 a n [] 0 none false) s = .next (s.answer agent (s.bytes a n)))
    ∧ (∀ (agent who job a n : Nat), isFlash a = true ∧ s.flashWaits a = true → s.neverIssued agent 0 a n = false → s.judge {
            agent := agent, dom := s.stamped agent who, epoch := s.carried job,
            sp := if agentClass agent = 3 then who / 16 % 64 else 63 } 0 a n = none →
        exec (.transfer agent who job 0 a n [] 0 none false) s = .next (s.setFlc { s.flc with
              wait := s.flc.wait ++ [{ agent := agent, dom := s.stamped agent who, epoch := s.carried job, type := 0, addr := a, len := n, err := none }] }))
    ∧ (∀ (agent who job a n : Nat), isReg a = true ∧ regShape a n = 1 → s.neverIssued agent 0 a n = false → s.judge {
            agent := agent, dom := s.stamped agent who, epoch := s.carried job,
            sp := if agentClass agent = 3 then who / 16 % 64 else 63 } 0 a n = none →
        exec (.transfer agent who job 0 a n [] 0 none false) s = .next ((s.readEffect a true (n == 8)).answer agent (toLE n
          (s.regValue a))))
    ∧ (∀ (agent who job a n : Nat), isReg a = true ∧ regShape a n = 0 → s.neverIssued agent 0 a n = false → s.judge {
            agent := agent, dom := s.stamped agent who, epoch := s.carried job,
            sp := if agentClass agent = 3 then who / 16 % 64 else 63 } 0 a n = none →
        exec (.transfer agent who job 0 a n [] 0 none false) s = .next (s.answer agent (zeros n)))
    ∧ (∀ (agent who job a n : Nat), isReg a = true ∧ regShape a n = 4 → s.neverIssued agent 0 a n = false → s.judge {
            agent := agent, dom := s.stamped agent who, epoch := s.carried job,
            sp := if agentClass agent = 3 then who / 16 % 64 else 63 } 0 a n = none →
        exec (.transfer agent who job 0 a n [] 0 none false) s = .next ((s.violation {
              agent := agent, dom := s.stamped agent who, epoch := s.carried job,
              sp := if agentClass agent = 3 then who / 16 % 64 else 63 } 0 a).answer agent (zeros n)))
    ∧ (∀ (agent who job a len : Nat) (data : List Byte), isReg a = true ∧ regShape a data.length = 1 → s.neverIssued agent 1
        a data.length = false → s.judge {
            agent := agent, dom := s.stamped agent who, epoch := s.carried job,
            sp := if agentClass agent = 3 then who / 16 % 64 else 63 } 1 a data.length = none →
        exec (.transfer agent who job 1 a len data 0 none false) s = .next ((s.regWrite agent a (ofLE data)).answer agent
          []))
    ∧ (∀ (agent who job a len : Nat) (data : List Byte), isReg a = true ∧ 2 ≤ regShape a data.length → s.neverIssued agent 1
        a data.length = false → s.judge {
            agent := agent, dom := s.stamped agent who, epoch := s.carried job,
            sp := if agentClass agent = 3 then who / 16 % 64 else 63 } 1 a data.length = none →
        exec (.transfer agent who job 1 a len data 0 none false) s = .next ((s.violation {
              agent := agent, dom := s.stamped agent who, epoch := s.carried job,
              sp := if agentClass agent = 3 then who / 16 % 64 else 63 } 1 a).answer agent []))
    ∧ (∀ (who job a n b : Nat) (bus : Option BusErr), s.neverIssued 0x200 0 a n = false → s.judge
        { agent := 0x200, dom := 0, epoch := s.carried job } 0 a n = some b →
        exec (.transfer 0x200 who job 0 a n [] 0 bus false) s = .next ((s.report
          { source := 0, agent := 0x200, dome := 0, addr := b, type := 0, spire := 63 }).answer 0x200 (zeros n)))
    ∧ (∀ (who job a b len : Nat) (data : List Byte) (bus : Option BusErr), s.neverIssued 0x200 1 a data.length = false →
        s.judge { agent := 0x200, dom := 0, epoch := s.carried job } 1 a data.length = some b →
        exec (.transfer 0x200 who job 1 a len data 0 bus false) s = .next ((s.report
          { source := 0, agent := 0x200, dome := 0, addr := b, type := 1, spire := 63 }).answer 0x200 []))
    ∧ (∀ (agent who job type a n : Nat) (data : List Byte) (bus : Option BusErr), s.neverIssued agent type a (if type = 1
        then data.length else n) = true →
        exec (.transfer agent who job type a n data 0 bus false) s = .next (s))
    ∧ (∀ (agent who job a n beat side : Nat) (bits : List Byte), isFlash a = false → s.neverIssued agent 0 a n = false →
        s.judge {
            agent := agent, dom := s.stamped agent who, epoch := s.carried job,
            sp := if agentClass agent = 3 then who / 16 % 64 else 63 } 0 a n = none → busReceive (reqMsg {
            agent := agent, dom := s.stamped agent who, epoch := s.carried job,
            sp := if agentClass agent = 3 then who / 16 % 64 else 63 } 0 a n) bits = none →
        exec (.transfer agent who job 0 a n [] 0 (some ⟨0, beat, bits, side⟩) false) s = .next ((s.tamper 12 (side %
          1024)).answer agent (zeros n)))
    ∧ (∀ (agent who job type a n cond : Nat) (data : List Byte) (e : BusErr),
        exec (.transfer agent who job type a n data cond (some e) true) s = .next ({ s with bus := s.bus ++ [(agent, e)] }))
    ∧ (∀ (agent who job type a n cond : Nat) (data : List Byte),
        exec (.transfer agent who job type a n data cond none true) s = .next (s))

/-- DDR lines (R285, R287 to R289, R313): the patrol scrub passes over a clean line, raises vector 226 at the end of a
pass, and writes a correctable line back; a rekey is refused or begins with its fence undrained; CLEAR's sweep zeroes the
line under its pointer, REENCRYPT's keeps it. What it takes from the model's own readings or choices is in log entries 8
and 26. -/
def Obligations.DdrLines : Prop :=
  ∀ s : State,
    s.spiresRun = true →
    (s.get R.MEMC_SCRUB_PERIOD ≠ 0 → s.lineState (s.memc.scrub * 64) = 0 → s.memc.scrub + 1 ≠ 0x80000000 →
        ∃ t, exec (.patrolScrub 0) s = .next t ∧ t.memc = { s.memc with scrub := s.memc.scrub + 1 } ∧
          ({ t with memc := s.memc, free := s.free } : State) = s)
    ∧ (s.get R.MEMC_SCRUB_PERIOD ≠ 0 → s.lineState (s.memc.scrub * 64) = 0 → s.memc.scrub + 1 = 0x80000000 →
        ∃ t, exec (.patrolScrub 0) s = .next t ∧ t.memc = { s.memc with scrub := 0 } ∧ 226 ∈ t.irq ∧
          ({ t with memc := s.memc, free := s.free, irq := s.irq, regs := s.regs } : State) = s ∧ (∀ f : Fld, f.key ∉
          [R.MEMC_SCRUB_PASS_COUNT.key] → t.get f = s.get f))
    ∧ (s.get R.MEMC_SCRUB_PERIOD ≠ 0 → s.memc.scrub + 1 < 0x80000000 →
        ∃ t, exec (.patrolScrub 1) s = .next t ∧ t.lineState (s.memc.scrub * 64) = 0 ∧ t.get R.MEMC_CE_COUNT_COUNT = satInc
          R.MEMC_CE_COUNT_COUNT.wd (s.get R.MEMC_CE_COUNT_COUNT) ∧
          ({ t with memc := s.memc, free := s.free, regs := s.regs } : State) = s ∧ (∀ f : Fld, f.key ∉
          [R.MEMC_CE_COUNT_COUNT.key] → t.get f = s.get f))
    ∧ (∀ (c : Nat), c < 64 → s.memc.sweep.isSome = true ∨ s.get (R.MEMC_COLOUR_FENCE_DRAINED c) = 0 → s.keepHalted = false →
        exec (.recolourClear c) s = .next ((s.set R.MEMC_RECOLOUR_STATUS_ERR 0x0521).raise 227))
    ∧ (∀ (c : Nat), c < 64 → s.memc.sweep = none → s.get (R.MEMC_COLOUR_FENCE_DRAINED c) = 1 → s.clearAllowed c = true →
        s.keepHalted = false →
        ∃ t, exec (.recolourClear c) s = .next t ∧ t.memc =
          { s.memc with sweep := some { colour := c, reencrypt := false } } ∧ t.ent =
          { s.ent with reqs := s.ent.reqs ++ [.colour c] } ∧ t.get R.MEMC_RECOLOUR_STATUS_BUSY = 1 ∧ t.get
          R.MEMC_RECOLOUR_STATUS_COLOUR = c ∧ t.get R.MEMC_RECOLOUR_STATUS_ERR = 0 ∧ t.get (R.MEMC_COLOUR_FENCE_DRAINED c) =
          0 ∧ ({ t with memc := s.memc, ent := s.ent, regs := s.regs } : State) = s ∧ (∀ f : Fld, f.key ∉
          [R.MEMC_RECOLOUR_STATUS_BUSY.key, R.MEMC_RECOLOUR_STATUS_COLOUR.key, R.MEMC_RECOLOUR_STATUS_ERR.key,
          (R.MEMC_COLOUR_FENCE_DRAINED c).key] → t.get f = s.get f))
    ∧ (s.memc.sweep = none → s.get (R.MEMC_COLOUR_FENCE_DRAINED 0) = 1 → s.keepHalted = false →
        exec (.recolourClear 0) s = .next ((s.set R.MEMC_RECOLOUR_STATUS_ERR 0x0520).raise 227))
    ∧ (∀ (c : Nat), c < 64 → s.memc.sweep = none → s.get (R.MEMC_COLOUR_FENCE_DRAINED c) = 1 → s.keepHalted = false →
        ∃ t, exec (.recolourReencrypt c) s = .next t ∧ t.memc =
          { s.memc with sweep := some { colour := c, reencrypt := true } } ∧ t.ent =
          { s.ent with reqs := s.ent.reqs ++ [.colour c] } ∧ t.get R.MEMC_RECOLOUR_STATUS_BUSY = 1 ∧ t.get
          (R.MEMC_COLOUR_FENCE_DRAINED c) = 0 ∧ ({ t with memc := s.memc, ent := s.ent, regs := s.regs } : State) = s ∧ (∀ f
          : Fld, f.key ∉ [R.MEMC_RECOLOUR_STATUS_BUSY.key, R.MEMC_RECOLOUR_STATUS_COLOUR.key,
          R.MEMC_RECOLOUR_STATUS_ERR.key, (R.MEMC_COLOUR_FENCE_DRAINED c).key] → t.get f = s.get f))
    ∧ (∀ (c p : Nat), s.memc.sweep = some { colour := c, reencrypt := false } → s.get R.MEMC_STATUS_SWEEP = 1 → s.get
        R.MEMC_RECOLOUR_PTR_LINE = p → p < 0x80000000 → (p + 1) % 0x8000 ≠ 0 → (∀ d < 64, s.domeSt d ≠ 1 ∧ s.domeSt d ≠ 3) →
        ∃ t, exec (.sweepLine 0) s = .next t ∧ t.get R.MEMC_RECOLOUR_PTR_LINE = p + 1 ∧ (∀ a, 64 * p ≤ a ∧ a < 64 * p + 64 →
          t.byte a = memDefault a) ∧ (∀ a, a < 64 * p ∨ 64 * p + 64 ≤ a → t.byte a = s.byte a) ∧ t.lineState (p * 64) = 0 ∧
          ({ t with memc := s.memc, mem := s.mem, regs := s.regs } : State) = s ∧ (∀ f : Fld, f.key ∉
          [R.MEMC_RECOLOUR_PTR_LINE.key] → t.get f = s.get f))
    ∧ (∀ (c p : Nat), s.memc.sweep = some { colour := c, reencrypt := true } → s.get R.MEMC_STATUS_SWEEP = 1 → s.get
        R.MEMC_RECOLOUR_PTR_LINE = p → p < 0x80000000 → (p + 1) % 0x8000 ≠ 0 → s.lineState (p * 64) = 0 → (∀ d < 64,
        s.domeSt d ≠ 1 ∧ s.domeSt d ≠ 3) →
        ∃ t, exec (.sweepLine 0) s = .next t ∧ t.get R.MEMC_RECOLOUR_PTR_LINE = p + 1 ∧ (∀ a, t.byte a = s.byte a) ∧
          ({ t with memc := s.memc, mem := s.mem, free := s.free, regs := s.regs } : State) = s ∧ (∀ f : Fld, f.key ∉
          [R.MEMC_RECOLOUR_PTR_LINE.key] → t.get f = s.get f))

/-- Translation and restore (R290 to R300, R305 to R311): a table write stores its entry, a granule that ZEROes a resident
writable page writes 64 zero bytes, a lookup of nothing ends the descriptor with MV_INVALID, a waiting request is appended
as space frees and popped from the head, a FAULTED descriptor resumes once its leaf is RESIDENT, ARM arms a declared
region, a restore takes the lowest free lane and is refused when none is free or an entry into DEEP has begun (R572), and
a lane's end frees it: a restore whose checks pass writes its chunk and counts it, one that fails a check or meets
SRK_VALID 0 reports the code. A descriptor that ends writes its status word, with MV_INVALID or MV_READONLY and the bytes
moved before, or OK, and then sets its ticket's flags; one that is stopped writes nothing; IN and OUT copy a granule; an
ABSENT leaf of a BEST job makes the descriptor FAULTED, of a PROMISED one ends the job with reason 5. What it takes from
the model's own readings or choices is in log entry 27. -/
def Obligations.Translation : Prop :=
  ∀ s : State,
    s.spiresRun = true →
    let imgKey (u : State) (x : Restore) (decl : List Byte) : Option (List Byte) × State := u.imageKey x.dome (fld decl 0x24
        4)
    let imgLeaf (u : State) (x : Restore) (decl chunk : List Byte) : Option (Leaf × Nat) := (imgKey u x decl).2.restoreLeaf
        x.dome x.region decl (fld decl 8 8 + 65536 * fld chunk 0x0C 4)
    (∀ (v : Nat), v < 2 ^ 64 → s.tentry (s.get R.MMU_TADDR_INDEX) % 4 ≠ 2 → s.keepHalted = false →
        exec (.mmuTdataWrite v) s = .next
          ({ s with mmu := { s.mmu with table := tabSet 0 s.mmu.table (s.get R.MMU_TADDR_INDEX) v } }))
    ∧ (∀ (p ch : Nat) (d : MvDesc), ch < 4 → (s.mvOrder p)[ch]? = some d → d.stop = false → s.mvLeaf d (d.va + d.done) =
        none → d.statOk = false → s.job d.job = none →
        exec (.moverGranule p ch) s = .next ((s.report
          { source := 2, agent := 0x210 + d.spire, dome := d.dome, addr := d.va + d.done, spire := d.spire }).dropMv d))
    ∧ (∀ (p ch : Nat) (d : MvDesc) (j : Job) (c : Nat), ch < 4 → (s.mvOrder p)[ch]? = some d → d.stop = false → s.mvLeaf d
        (d.va + d.done) = none → d.statOk = true → (isDdr d.stat || isFlash d.stat || isReg d.stat || hitsInstr 1 d.stat 8)
        = false → s.judge d.xfer 1 d.stat 8 = none → s.bus.find? (fun e => e.1 == 0x210 + d.spire) = none → s.job d.job =
        some j → j.live = true → j.core = some c →
        ∃ t, exec (.moverGranule p ch) s = .next t ∧ t.bytes d.stat 8 = toLE 2 0x0503 ++ zeros 2 ++ toLE 4 d.done ∧ t.mover
          = s.mover.filter (fun (e : MvDesc) => !e.same d) ∧ t.core c = (s.core c).complete j.cls d.ticket true ∧ (t.job
          d.job).map (·.tickets) = some (j.tickets.filter (fun k => k.1 != d.ticket)) ∧ (∀ a, a < d.stat ∨ d.stat + 8 ≤ a →
          t.byte a = s.byte a) ∧ t.faultQ = s.faultQ ++
          [{ source := 2, agent := 0x210 + d.spire, dome := d.dome, addr := d.va + d.done, spire := d.spire, at_ := s.now }]
          ∧ ({ t with mem := s.mem, mover := s.mover, cores := s.cores, jsc := s.jsc, faultQ := s.faultQ } : State) = s)
    ∧ (∀ (p ch : Nat) (d : MvDesc) (j : Job) (c : Nat) (l : Leaf), ch < 4 → (s.mvOrder p)[ch]? = some d → d.stop = false →
        s.mvLeaf d (d.va + d.done) = some l → d.op ≠ 1 → l.entry.testBit 2 = false → d.statOk = true → (isDdr d.stat ||
        isFlash d.stat || isReg d.stat || hitsInstr 1 d.stat 8) = false → s.judge d.xfer 1 d.stat 8 = none → s.bus.find?
        (fun e => e.1 == 0x210 + d.spire) = none → s.job d.job = some j → j.live = true → j.core = some c →
        ∃ t, exec (.moverGranule p ch) s = .next t ∧ t.bytes d.stat 8 = toLE 2 0x0504 ++ zeros 2 ++ toLE 4 d.done ∧ t.mover
          = s.mover.filter (fun (e : MvDesc) => !e.same d) ∧ t.core c = (s.core c).complete j.cls d.ticket true ∧ (t.job
          d.job).map (·.tickets) = some (j.tickets.filter (fun k => k.1 != d.ticket)) ∧ (∀ a, a < d.stat ∨ d.stat + 8 ≤ a →
          t.byte a = s.byte a) ∧ t.faultQ = s.faultQ ++
          [{ source := 2, agent := 0x210 + d.spire, dome := d.dome, addr := d.va + d.done, spire := d.spire, at_ := s.now }]
          ∧ ({ t with mem := s.mem, mover := s.mover, cores := s.cores, jsc := s.jsc, faultQ := s.faultQ } : State) = s)
    ∧ (∀ (p ch : Nat) (d : MvDesc), ch < 4 → (s.mvOrder p)[ch]? = some d → d.stop = true →
        exec (.moverGranule p ch) s = .next (s.dropMv d))
    ∧ (∀ (p ch : Nat) (d : MvDesc) (l : Leaf) (j : Job), ch < 4 → (s.mvOrder p)[ch]? = some d → d.stop = false → s.mvLeaf d
        (d.va + d.done) = some l → d.op = 1 ∨ l.entry.testBit 2 = true → l.entry % 4 = 2 → s.job d.job = some j → j.cls = 1
        →
        exec (.moverGranule p ch) s = .next (((s.postReq d.dome (d.va + d.done) l).putMv
          { d with faulted := true, page := none }).raise (513 + 16 * d.spire)))
    ∧ (∀ (p ch : Nat) (d : MvDesc) (l : Leaf) (j : Job), ch < 4 → (s.mvOrder p)[ch]? = some d → d.stop = false → s.mvLeaf d
        (d.va + d.done) = some l → d.op = 1 ∨ l.entry.testBit 2 = true → l.entry % 4 = 2 → s.job d.job = some j → j.cls = 0
        →
        exec (.moverGranule p ch) s = .next ((s.postReq d.dome (d.va + d.done) l).handlerFault d.job 5))
    ∧ (∀ (p ch : Nat) (d : MvDesc) (j : Job) (c : Nat) (l : Leaf), ch < 4 → (s.mvOrder p)[ch]? = some d → d.stop = false →
        d.op = 3 → s.mvLeaf d (d.va + d.done) = some l → l.entry % 8 = 5 → l.big = false → isDdr (bitsOf l.entry 16 24 *
        65536 + (d.va + d.done) % 65536) = true → (d.va + d.done) % 64 = 0 → s.judge d.xfer 1 (bitsOf l.entry 16 24 * 65536
        + (d.va + d.done) % 65536) 64 = none → d.code = 0 → d.len ≤ d.done + 64 → d.statOk = true → (isDdr d.stat || isFlash
        d.stat || isReg d.stat || hitsInstr 1 d.stat 8) = false → s.judge d.xfer 1 d.stat 8 = none → s.bus.find? (fun e =>
        e.1 == 0x210 + d.spire) = none → s.job d.job = some j → j.live = true → j.core = some c →
        ∃ t, exec (.moverGranule p ch) s = .next t ∧ t.bytes (bitsOf l.entry 16 24 * 65536 + (d.va + d.done) % 65536) 64 =
          zeros 64 ∧ t.bytes d.stat 8 = toLE 2 0 ++ zeros 2 ++ toLE 4 (d.done + 64) ∧ t.mover = s.mover.filter (fun (e :
          MvDesc) => !e.same d) ∧ t.core c = (s.core c).complete j.cls d.ticket false ∧ (t.job d.job).map (·.tickets) = some
          (j.tickets.filter (fun k => k.1 != d.ticket)))
    ∧ (∀ (p ch : Nat) (d : MvDesc) (l : Leaf), ch < 4 → (s.mvOrder p)[ch]? = some d → d.stop = false → d.op = 2 → s.mvLeaf d
        (d.va + d.done) = some l → l.entry % 8 = 5 → l.big = false → isDdr (bitsOf l.entry 16 24 * 65536 + (d.va + d.done) %
        65536) = true → (d.va + d.done) % 64 = 0 → (isDdr (d.loc + d.done) || isFlash (d.loc + d.done) || isReg (d.loc +
        d.done)) = false → s.judge d.xfer 0 (d.loc + d.done) 64 = none → s.judge d.xfer 1 (bitsOf l.entry 16 24 * 65536 +
        (d.va + d.done) % 65536) 64 = none → s.bus.find? (fun e => e.1 == 0x210 + d.spire) = none → d.done + 64 < d.len →
        ∃ t, exec (.moverGranule p ch) s = .next t ∧ t.bytes (bitsOf l.entry 16 24 * 65536 + (d.va + d.done) % 65536) 64 =
          s.bytes (d.loc + d.done) 64 ∧ t.mover = s.mover.map (fun (e : MvDesc) => if e.same d then { d with
              done := d.done + 64, code := if d.code = 0 then 0 else d.code,
              page := some (pageNum (d.va + d.done) false, l.entry, false) } else e) ∧ t.get (R.SPR_MV_GRAN_COUNT d.spire) =
          satInc (R.SPR_MV_GRAN_COUNT d.spire).wd (s.get (R.SPR_MV_GRAN_COUNT d.spire)) ∧
          ({ t with mem := s.mem, memc := s.memc, mover := s.mover, regs := s.regs } : State) = s ∧ (∀ f : Fld, f.key ∉
          [(R.SPR_MV_GRAN_COUNT d.spire).key] → t.get f = s.get f))
    ∧ (∀ (p ch : Nat) (d : MvDesc) (l : Leaf), ch < 4 → (s.mvOrder p)[ch]? = some d → d.stop = false → d.op = 1 → s.mvLeaf d
        (d.va + d.done) = some l → l.entry % 4 = 1 → l.big = false → isDdr (bitsOf l.entry 16 24 * 65536 + (d.va + d.done) %
        65536) = true → (d.va + d.done) % 64 = 0 → (isDdr (d.loc + d.done) || isFlash (d.loc + d.done) || isReg (d.loc +
        d.done) || hitsInstr 1 (d.loc + d.done) 64) = false → s.judge d.xfer 0 (bitsOf l.entry 16 24 * 65536 + (d.va +
        d.done) % 65536) 64 = none → s.judge d.xfer 1 (d.loc + d.done) 64 = none → s.bus.find? (fun e => e.1 == 0x210 +
        d.spire) = none → d.done + 64 < d.len →
        ∃ t, exec (.moverGranule p ch) s = .next t ∧ t.bytes (d.loc + d.done) 64 = (s.rdO d.xfer (bitsOf l.entry 16 24 *
          65536 + (d.va + d.done) % 65536) 64).1 ∧ t.mover = s.mover.map (fun (e : MvDesc) => if e.same d then { d with
              done := d.done + 64,
              code := if d.code ≠ 0 then d.code else if (s.rdO d.xfer (bitsOf l.entry 16 24 * 65536 + (d.va + d.done) % 65536) 64).2.1 = 2 then 0x0505 else if (s.rdO d.xfer (bitsOf l.entry 16 24 * 65536 + (d.va + d.done) % 65536) 64).2.1 = 3 then 0x0506 else 0,
              page := some (pageNum (d.va + d.done) false, l.entry, false) } else e))
    ∧ (∀ (p ch : Nat) (d : MvDesc) (l : Leaf), ch < 4 → (s.mvOrder p)[ch]? = some d → d.stop = false → d.op = 3 → s.mvLeaf d
        (d.va + d.done) = some l → l.entry % 8 = 5 → l.big = false → isDdr (bitsOf l.entry 16 24 * 65536 + (d.va + d.done) %
        65536) = true → (d.va + d.done) % 64 = 0 → s.judge d.xfer 1 (bitsOf l.entry 16 24 * 65536 + (d.va + d.done) % 65536)
        64 = none → s.bus.find? (fun e => e.1 == 0x210 + d.spire) = none → d.done + 64 < d.len →
        ∃ t, exec (.moverGranule p ch) s = .next t ∧ t.bytes (bitsOf l.entry 16 24 * 65536 + (d.va + d.done) % 65536) 64 =
          zeros 64 ∧ t.mover = s.mover.map (fun (e : MvDesc) => if e.same d then { d with
              done := d.done + 64, code := if d.code = 0 then 0 else d.code,
              page := some (pageNum (d.va + d.done) false, l.entry, false) } else e) ∧ t.get (R.SPR_MV_GRAN_COUNT d.spire) =
          satInc (R.SPR_MV_GRAN_COUNT d.spire).wd (s.get (R.SPR_MV_GRAN_COUNT d.spire)) ∧
          ({ t with mem := s.mem, memc := s.memc, mover := s.mover, regs := s.regs } : State) = s ∧ (∀ f : Fld, f.key ∉
          [(R.SPR_MV_GRAN_COUNT d.spire).key] → t.get f = s.get f))
    ∧ (∀ (q : Nat × Nat) (qs : List (Nat × Nat)), s.mmu.wait = q :: qs → s.mmu.req.length < 4096 →
        ∃ t, exec .mmuReqAppend s = .next t ∧ t.mmu = { s.mmu with req := s.mmu.req ++ [q], wait := qs } ∧ (s.mmu.req = [] →
          240 ∈ t.irq) ∧ t.get R.MMU_STATUS_REQ_COUNT = s.mmu.req.length + 1 ∧ t.get R.MMU_STATUS_REQ_WAIT = (if qs = []
          then 0 else 1) ∧ ({ t with mmu := s.mmu, irq := s.irq, regs := s.regs } : State) = s ∧ (∀ f : Fld, f.key ∉
          [R.MMU_STATUS_REQ_COUNT.key, R.MMU_STATUS_REQ_WAIT.key] → t.get f = s.get f))
    ∧ (∀ (q : Nat × Nat) (qs : List (Nat × Nat)), s.mmu.req = q :: qs → qs.length < 4096 → s.keepHalted = false →
        ∃ t, exec .mmuReqPop s = .next t ∧ t.mmu = { s.mmu with req := qs } ∧ t.get R.MMU_STATUS_REQ_COUNT = qs.length ∧
          ({ t with mmu := s.mmu, regs := s.regs } : State) = s ∧ (∀ f : Fld, f.key ∉ [R.MMU_STATUS_REQ_COUNT.key,
          R.MMU_STATUS_REQ_WAIT.key] → t.get f = s.get f))
    ∧ (∀ (p n : Nat) (d : MvDesc) (l : Leaf), (s.mover.filter (fun (d : MvDesc) => d.spire == p && d.faulted))[n]? = some d
        → s.lookup d.dome (d.va + d.done) = some l →
        exec (.descriptorResume p n) s = .next (if l.entry % 4 = 1 then s.putMv { d with faulted := false } else s))
    ∧ ((s.region (s.get R.MMU_RGN_SEL_DOME) (s.get R.MMU_RGN_SEL_REGION)).isSome = true → s.keepHalted = false →
        ∃ t, exec .regionArm s = .next t ∧ t.armedR (s.get R.MMU_RGN_SEL_DOME) (s.get R.MMU_RGN_SEL_REGION) = true ∧
          t.mmu.table = s.mmu.table ∧ (s.warming (s.get R.MMU_RGN_SEL_DOME) (s.get R.MMU_RGN_SEL_REGION) = true →
          s.absentCount (s.get R.MMU_RGN_SEL_DOME) (s.get R.MMU_RGN_SEL_REGION) = 0 → 243 ∈ t.irq) ∧
          ({ t with mmu := s.mmu, irq := s.irq } : State) = s)
    ∧ (∀ (d r : Nat), d < 64 → r < 64 → s.deepEntry = false → tabFind s.mmu.lanes 0 = none → s.keepHalted = false →
        ∃ t, exec (.restoreGo d r) s = .next t ∧ tabFind t.mmu.lanes 0 = some
          { dome := d, region := r, src := s.get R.MMU_RST_SRC_ADDR * 64 } ∧ t.get R.MMU_RST_STATUS_BUSY0 = 1 ∧
          ({ t with mmu := s.mmu, regs := s.regs } : State) = s ∧ (∀ f : Fld, f.key ∉ [R.MMU_RST_STATUS_BUSY0.key,
          R.MMU_RST_STATUS_BUSY1.key] → t.get f = s.get f))
    ∧ (∀ (d r : Nat), d < 64 → r < 64 → s.deepEntry = true → s.keepHalted = false →
        exec (.restoreGo d r) s = .next ((s.set R.MMU_RST_STATUS_LAST 0x0514).raise 242))
    ∧ (∀ (d r : Nat), d < 64 → r < 64 → (tabFind s.mmu.lanes 0).isSome = true → (tabFind s.mmu.lanes 1).isSome = true →
        s.keepHalted = false →
        exec (.restoreGo d r) s = .next ((s.set R.MMU_RST_STATUS_LAST 0x0514).raise 242))
    ∧ (∀ (d r : Nat), d < 64 → r < 64 → s.deepEntry = false → (tabFind s.mmu.lanes 0).isSome = true → tabFind s.mmu.lanes 1
        = none → s.keepHalted = false →
        ∃ t, exec (.restoreGo d r) s = .next t ∧ tabFind t.mmu.lanes 1 = some
          { dome := d, region := r, src := s.get R.MMU_RST_SRC_ADDR * 64 } ∧ tabFind t.mmu.lanes 0 = tabFind s.mmu.lanes 0 ∧
          t.get R.MMU_RST_STATUS_BUSY1 = 1 ∧ ({ t with mmu := s.mmu, regs := s.regs } : State) = s ∧ (∀ f : Fld, f.key ∉
          [R.MMU_RST_STATUS_BUSY0.key, R.MMU_RST_STATUS_BUSY1.key] → t.get f = s.get f))
    ∧ (∀ (lane : Nat) (x : Restore), tabFind s.mmu.lanes lane = some x → s.get R.RST_ROOT_SRK_VALID = 0 →
        ∃ t, exec (.restoreEnd lane) s = .next t ∧ tabFind t.mmu.lanes lane = none ∧ t.get R.MMU_RST_STATUS_LAST = 0x0511 ∧
          242 ∈ t.irq ∧ ({ t with mmu := s.mmu, irq := s.irq, regs := s.regs } : State) = s ∧ (∀ f : Fld, f.key ∉
          [R.MMU_RST_STATUS_BUSY0.key, R.MMU_RST_STATUS_BUSY1.key, R.MMU_RST_STATUS_LAST.key] → t.get f = s.get f))
    ∧ (∀ (lane : Nat) (x : Restore) (decl chunk : List Byte) (u : State), tabFind s.mmu.lanes lane = some x → s.get
        R.RST_ROOT_SRK_VALID = 1 → s.region x.dome x.region = some decl → s.openDdr x.src 65616 = true → (s.restoreFree
        lane).restoreChunk x = (chunk, u) → chunkFormat decl (chunk.take 64) = true → (fld decl 0x10 8) % 64 = 0 → fld decl
        0x10 8 + 65536 * fld chunk 0x0C 4 + 65536 ≤ 0x2000000000 → s.get R.MMU_RST_DONE_COUNT < 2 ^ 64 - 1 →
        ∃ t, exec (.restoreEnd lane) s = .next t ∧ tabFind t.mmu.lanes lane = none ∧ ((imgKey u x decl).1 = none → t.get
          R.MMU_RST_STATUS_LAST = 0x0511 ∧ 242 ∈ t.irq) ∧ (∀ k, (imgKey u x decl).1 = some k → imgLeaf u x decl chunk = none
          → t.get R.MMU_RST_STATUS_LAST = 0x0512 ∧ 242 ∈ t.irq) ∧ (∀ k l, (imgKey u x decl).1 = some k → imgLeaf u x decl
          chunk = some l → (chunkPlain k chunk).2 = false → t.get R.MMU_RST_STATUS_LAST = 0x0513 ∧ 242 ∈ t.irq) ∧ (∀ k l
          bit, (imgKey u x decl).1 = some k → imgLeaf u x decl chunk = some (l, bit) → (chunkPlain k chunk).2 = true → t.get
          R.MMU_RST_STATUS_LAST = 0 ∧ 241 ∈ t.irq ∧ t.get R.MMU_RST_DONE_COUNT = s.get R.MMU_RST_DONE_COUNT + 1 ∧ t.tentry
          l.idx = restoredEntry decl l bit (fld decl 0x10 8 + 65536 * fld chunk 0x0C 4) ∧ t.bytes (fld decl 0x10 8 + 65536 *
          fld chunk 0x0C 4) 65536 = (chunkPlain k chunk).1))
    ∧ (∀ (lane : Nat) (x : Restore), tabFind s.mmu.lanes lane = some x → s.get R.RST_ROOT_SRK_VALID = 1 → s.region x.dome
        x.region = none →
        ∃ t, exec (.restoreEnd lane) s = .next t ∧ tabFind t.mmu.lanes lane = none ∧ t.get R.MMU_RST_STATUS_LAST = 0x0510 ∧
          242 ∈ t.irq ∧ ({ t with mmu := s.mmu, irq := s.irq, regs := s.regs } : State) = s ∧ (∀ f : Fld, f.key ∉
          [R.MMU_RST_STATUS_BUSY0.key, R.MMU_RST_STATUS_BUSY1.key, R.MMU_RST_STATUS_LAST.key] → t.get f = s.get f))

/-- The access-rule table (R322 to R325): COPY takes the bank from the keep until the copy ends, rule writes reach the
shadow of the keep alone, SWITCH makes the shadow current under the next epoch, the old epoch drains, and what is not
allowed is refused with vector 97. What it takes from the model's own readings or choices is in log entry 10. -/
def Obligations.AccessRules : Prop :=
  ∀ s : State,
    s.spiresRun = true →
    (s.get R.ART_FENCE_DRAINED = 1 → s.get R.ART_STATUS_STB_HOLD = 0 → s.get R.ART_STATUS_BOOTSET = 0 → s.get
        R.ART_STATUS_COPYING = 0 → s.keepHalted = false →
        exec .artCopy s = .next ((s.set R.ART_STATUS_OWNED 0).set R.ART_STATUS_COPYING 1))
    ∧ (s.get R.ART_FENCE_DRAINED = 0 ∨ s.get R.ART_STATUS_STB_HOLD = 1 ∨ s.get R.ART_STATUS_BOOTSET = 1 ∨ s.get
        R.ART_STATUS_COPYING = 1 → s.keepHalted = false →
        exec .artCopy s = .next ((s.set R.ART_EVENTS_REFUSED 1).raise 97))
    ∧ (s.get R.ART_STATUS_COPYING = 1 →
        exec .artCopyEnd s = .next (({ s with artShadow := s.artCur }.set R.ART_STATUS_COPYING 0).set R.ART_STATUS_OWNED 1))
    ∧ (∀ (v : Nat), v < 2 ^ 64 → s.get R.ART_STATUS_OWNED = 1 → s.keepHalted = false →
        exec (.artRuleWrite 3 v) s = .next ({ s with
              artShadow := tabSet {} s.artShadow (s.get R.ART_RSEL_INDEX) { (tabGet {} s.artShadow (s.get R.ART_RSEL_INDEX) : Rule) with rmask := v } }))
    ∧ (∀ (which v : Nat), which < 6 → s.get R.ART_STATUS_OWNED = 0 →
        exec (.artRuleWrite which v) s = .next (s))
    ∧ (s.get R.ART_STATUS_OWNED = 1 → s.get R.ART_STATUS_COPYING = 0 → s.get R.ART_STATUS_STB_HOLD = 0 → s.get
        R.ART_STATUS_BOOTSET = 0 → s.keepHalted = false →
        ∃ t, exec .artSwitch s = .next t ∧ t.artCur = s.artShadow ∧ t.artShadow = s.artCur ∧ t.get R.ART_EPOCH_CURRENT =
          (s.get R.ART_EPOCH_CURRENT + 1) % 2 ^ 16 ∧ t.get R.ART_EPOCH_DRAINING = s.get R.ART_EPOCH_CURRENT % 2 ^ 16 ∧ t.get
          R.ART_FENCE_DRAINED = 0 ∧ t.get R.ART_STATUS_OWNED = 0 ∧ 96 ∈ t.irq ∧
          ({ t with artCur := s.artCur, artShadow := s.artShadow, irq := s.irq, regs := s.regs } : State) = s ∧ (∀ f : Fld,
          f.key ∉ [R.ART_EPOCH_CURRENT.key, R.ART_EPOCH_DRAINING.key, R.ART_FENCE_DRAINED.key, R.ART_STATUS_OWNED.key,
          R.ART_EVENTS_SWITCHED.key] → t.get f = s.get f))
    ∧ (s.get R.ART_FENCE_DRAINED = 0 → s.artEpochFree (s.get R.ART_EPOCH_DRAINING) = true →
        exec .artDrained s = .next (((s.set R.ART_FENCE_DRAINED 1).set R.ART_EVENTS_DRAINED 1).raise 98))

/-- The fault collection unit (R328 to R337): of the waiting faults the one first by edge, agent and source is recorded
for its class and puts its pair into GRACE; the grace timer's end takes the pair to HELD and its next ladder step:
STOP_DOMAIN and RESET_DOMAIN break the dome's jobs, stop its movers and abandon its commands, and the dome is STOPPED, or
begins again with the next epoch, at once where nothing of it remains; RETIRE_SPIRE retires the spire of the fault and
stops a dome left without one; RESET_DEVICE is a reset, and a step that one subsumes, or that acts on dome 0, has no
effect (R333, R335); the quiet timer's end to NORMAL; an acknowledgement ends a grace; a retired spire has no jobs and is
counted as retired. What it takes from the model's own readings or choices is in log entry 10. -/
def Obligations.FaultCollection : Prop :=
  ∀ s : State,
    s.spiresRun = true →
    (∀ (m : FaultMsg), m ∈ s.faultQ → (∀ x ∈ s.faultQ, x = m ∨ m.before x = true) → m.source < 5 → m.dome < 64 →
        s.faultClass m.source < 4 → s.pairSt m.dome (s.faultClass m.source) = 0 →
        ∃ t, exec .faultRegister s = .next t ∧ t.faultQ = s.faultQ.erase m ∧ t.pairSt m.dome (s.faultClass m.source) = 1 ∧
          t.get (R.FCU_LAST_INFO_SOURCE (s.faultClass m.source)) = m.source ∧ t.get (R.FCU_LAST_ADDR_ADDR (s.faultClass
          m.source)) = m.addr % 2 ^ (R.FCU_LAST_ADDR_ADDR (s.faultClass m.source)).wd ∧ t.get (R.FCU_FIRST_INFO_VALID
          (s.faultClass m.source)) = 1 ∧ 112 ∈ t.irq ∧
          ({ t with faultQ := s.faultQ, fcu := s.fcu, irq := s.irq, regs := s.regs } : State) = s)
    ∧ (∀ (d k : Nat), d < 64 → k < 4 → s.pairSt d k = 1 → ((s.get (R.FCU_GRACE_US k) * 1000 : Nat) : Rat) + s.pwr.edge ≤
        s.pairRun d k → s.ladderCode k (s.get (R.FCU_DC_STATE_STEP d k)) = 0 →
        ∃ t, exec (.graceExpiry d k) s = .next t ∧ t.pairSt d k = 2 ∧ 117 ∈ t.irq ∧ tabFind t.fcu (d * 4 + k) = some s.tnow
          ∧ ({ t with fcu := s.fcu, irq := s.irq, regs := s.regs } : State) = s ∧ (∀ f : Fld, f.key ∉ [(R.FCU_DC_STATE_STATE
          d k).key, R.FCU_EVENTS_CAUSE.key] → t.get f = s.get f))
    ∧ (∀ (d k : Nat), d < 64 → k < 4 → s.pairSt d k = 1 → ((s.get (R.FCU_GRACE_US k) * 1000 : Nat) : Rat) + s.pwr.edge ≤
        s.pairRun d k → s.ladderCode k (s.get (R.FCU_DC_STATE_STEP d k)) = 5 → s.get (R.FCU_DC_STATE_STEP d k) < 4 →
        ∃ t, exec (.graceExpiry d k) s = .next t ∧ t.pairSt d k = 2 ∧ t.get (R.FCU_DC_STATE_STEP d k) = s.get
          (R.FCU_DC_STATE_STEP d k) + 1 ∧ 113 ∈ t.irq ∧ (t.get R.TMP_FLAGS_FLAG).testBit 15 = true)
    ∧ (∀ (d k : Nat), d < 64 ∧ k < 4 → s.pairSt d k = 1 → ((s.get (R.FCU_GRACE_US k) * 1000 : Nat) : Rat) + s.pwr.edge ≤
        s.pairRun d k → s.get (R.FCU_DC_STATE_STEP d k) < 4 ∧ s.ladderCode k (s.get (R.FCU_DC_STATE_STEP d k)) = 1 →
        s.pwr.seq ≠ .toReset → d ≠ 0 ∧ (s.domeSt d = 2 ∨ s.domeSt d = 3) ∧ s.stoppedNow d true = false ∧ s.domeApp d = none
        → (s.jsc.jobs.map (·.id)).Nodup →
        ∃ t, exec (.graceExpiry d k) s = .next t ∧ t.get (R.FCU_DC_STATE_STEP d k) = s.get (R.FCU_DC_STATE_STEP d k) + 1 ∧
          113 ∈ t.irq ∧ t.pairSt d k = 2 ∧ t.jsc.jobs.all (fun j => !(j.live && j.dome == d)) = true ∧ t.mover.all
          (fun m => m.dome != d || m.stop) = true ∧ t.cmds.all (fun (c : Cmd) => !(c.job == cerJob && c.dome == d)) = true ∧
          t.domeSt d = 4)
    ∧ (∀ (d k : Nat), d < 64 ∧ k < 4 → s.pairSt d k = 1 → ((s.get (R.FCU_GRACE_US k) * 1000 : Nat) : Rat) + s.pwr.edge ≤
        s.pairRun d k → s.get (R.FCU_DC_STATE_STEP d k) < 4 ∧ s.ladderCode k (s.get (R.FCU_DC_STATE_STEP d k)) = 2 →
        s.pwr.seq ≠ .toReset → d ≠ 0 ∧ (s.domeSt d = 2 ∨ s.domeSt d = 3) ∧ s.domeApp d = none → s.jsc.jobs = [] ∧ s.mover =
        [] ∧ s.cmds = [] →
        ∃ t, exec (.graceExpiry d k) s = .next t ∧ t.get (R.FCU_DC_STATE_STEP d k) = s.get (R.FCU_DC_STATE_STEP d k) + 1 ∧
          113 ∈ t.irq ∧ t.pairSt d k = 2 ∧ t.get (R.STB_DOM_STATE_EPOCH d) = (s.get (R.STB_DOM_STATE_EPOCH d) + 1) % 2 ^
          (R.STB_DOM_STATE_EPOCH d).wd ∧ (t.domeSt d = 1 ∨ t.domeSt d = 2) ∧ (∀ i, (s.ctx i).dome = d ∧ (s.ctx i).client =
          false → (t.ctx i).st = 0))
    ∧ (∀ (d k : Nat), d < 64 ∧ k < 4 → s.pairSt d k = 1 → ((s.get (R.FCU_GRACE_US k) * 1000 : Nat) : Rat) + s.pwr.edge ≤
        s.pairRun d k → s.get (R.FCU_DC_STATE_STEP d k) < 4 ∧ s.ladderCode k (s.get (R.FCU_DC_STATE_STEP d k)) = 2 →
        s.pwr.seq ≠ .toReset → d ≠ 0 ∧ (s.domeSt d = 2 ∨ s.domeSt d = 3) ∧ s.domeApp d = none → s.mover.any
        (fun m => m.dome == d) = true → (s.jsc.jobs.map (·.id)).Nodup →
        ∃ t, exec (.graceExpiry d k) s = .next t ∧ t.get (R.FCU_DC_STATE_STEP d k) = s.get (R.FCU_DC_STATE_STEP d k) + 1 ∧
          113 ∈ t.irq ∧ t.pairSt d k = 2 ∧ t.jsc.jobs.all (fun j => !(j.live && j.dome == d)) = true ∧ t.mover.all
          (fun m => m.dome != d || m.stop) = true ∧ t.cmds.all (fun (c : Cmd) => !(c.job == cerJob && c.dome == d)) = true ∧
          t.domeSt d = 4 ∧ (t.dome d).after = 2)
    ∧ (∀ (d k p : Nat), d < 64 ∧ k < 4 → s.pairSt d k = 1 → ((s.get (R.FCU_GRACE_US k) * 1000 : Nat) : Rat) + s.pwr.edge ≤
        s.pairRun d k → s.get (R.FCU_DC_STATE_STEP d k) < 4 ∧ s.ladderCode k (s.get (R.FCU_DC_STATE_STEP d k)) = 3 →
        s.pwr.seq ≠ .toReset → d ≠ 0 ∧ p = s.get (R.FCU_DC_STATE_TRIGGER d k) ∧ p < 32 ∧ s.get (R.FCU_RETIRED_RETIRED p) = 0
        → (s.jsc.jobs.map (·.id)).Nodup →
        ∃ t, exec (.graceExpiry d k) s = .next t ∧ t.get (R.FCU_DC_STATE_STEP d k) = s.get (R.FCU_DC_STATE_STEP d k) + 1 ∧
          113 ∈ t.irq ∧ t.pairSt d k = 2 ∧ t.get (R.FCU_RETIRED_RETIRED p) = 1 ∧ t.get (R.FCU_RETIRED_HIST_EVER p) = 1 ∧ 116
          ∈ t.irq ∧ t.jsc.jobs.all (fun j => !(j.live && j.core.map (· / 16) == some p)) = true ∧ t.mover.all
          (fun m => m.spire != p || m.stop) = true ∧ (t.spire p).loaded = none ∧ t.byte (sramAddr p 0) = 0 ∧ t.byte
          (coreAddr (16 * p + 15) 0x1FFFF) = 0)
    ∧ (∀ (d k : Nat), d < 64 ∧ k < 4 → s.pairSt d k = 1 → ((s.get (R.FCU_GRACE_US k) * 1000 : Nat) : Rat) + s.pwr.edge ≤
        s.pairRun d k → s.get (R.FCU_DC_STATE_STEP d k) < 4 ∧ s.ladderCode k (s.get (R.FCU_DC_STATE_STEP d k)) = 4 →
        s.pwr.seq = .none → s.jsc.jobs = [] ∧ s.net.tx = [] ∧ s.get R.JRN_STATUS_OPEN = 0 →
        ∃ t, exec (.graceExpiry d k) s = .next t ∧ t.get (R.FCU_DC_STATE_STEP d k) = s.get (R.FCU_DC_STATE_STEP d k) + 1 ∧
          113 ∈ t.irq ∧ t.pairSt d k = 2 ∧ t.pwr.seq = .toReset ∧ t.get R.RST_CAUSE_FCU = 1 ∧ t.get R.JSC_STATUS_OPEN = 0)
    ∧ (∀ (d k code : Nat), d < 64 ∧ k < 4 → s.pairSt d k = 1 → ((s.get (R.FCU_GRACE_US k) * 1000 : Nat) : Rat) + s.pwr.edge
        ≤ s.pairRun d k → s.get (R.FCU_DC_STATE_STEP d k) < 4 ∧ s.ladderCode k (s.get (R.FCU_DC_STATE_STEP d k)) = code → 1
        ≤ code ∧ code ≤ 3 ∧ (s.pwr.seq = .toReset ∨ d = 0) →
        ∃ t, exec (.graceExpiry d k) s = .next t ∧ 113 ∈ t.irq ∧ t.pairSt d k = 2 ∧ t.jsc = s.jsc ∧ t.domes = s.domes ∧
          t.spires = s.spires ∧ ({ t with fcu := s.fcu, irq := s.irq, regs := s.regs } : State) = s ∧ (∀ f : Fld, f.key ∉
          [(R.FCU_DC_STATE_STATE d k).key, (R.FCU_DC_STATE_STEP d k).key, R.FCU_EVENTS_CAUSE.key] → t.get f = s.get f))
    ∧ (∀ (d k : Nat), d < 64 → k < 4 → s.pairSt d k = 2 → ((s.get (R.FCU_QUIET_MS k) * 1000000 : Nat) : Rat) + s.pwr.edge ≤
        s.pairRun d k →
        ∃ t, exec (.quietExpiry d k) s = .next t ∧ t.pairSt d k = 0 ∧ t.get (R.FCU_DC_STATE_STEP d k) = 0 ∧ t.get
          (R.FCU_DC_STATE_FAULTS d k) = 0 ∧ 114 ∈ t.irq ∧ ({ t with irq := s.irq, regs := s.regs } : State) = s ∧ (∀ f :
          Fld, f.key ∉ [(R.FCU_DC_STATE_STATE d k).key, (R.FCU_DC_STATE_STEP d k).key, (R.FCU_DC_STATE_FAULTS d k).key,
          (R.FCU_RECOV_COUNT k).key, R.FCU_EVENTS_CAUSE.key] → t.get f = s.get f))
    ∧ (∀ (d k : Nat), d < 64 → k < 4 → s.pairSt d k = 1 → s.keepHalted = false →
        ∃ t, exec (.fcuAck d k) s = .next t ∧ t.pairSt d k = 2 ∧ tabFind t.fcu (d * 4 + k) = some s.tnow ∧
          ({ t with fcu := s.fcu, regs := s.regs } : State) = s ∧ (∀ f : Fld, f.key ∉ [(R.FCU_DC_STATE_STATE d k).key] →
          t.get f = s.get f))
    ∧ (∀ (p : Nat), p < 32 → s.get (R.FCU_RETIRED_RETIRED p) = 0 → (s.jsc.jobs.map (·.id)).Nodup → s.keepHalted = false →
        ∃ t, exec (.fcuRetire p) s = .next t ∧ t.get (R.FCU_RETIRED_RETIRED p) = 1 ∧ t.get (R.FCU_RETIRED_HIST_EVER p) = 1 ∧
          116 ∈ t.irq ∧ t.jsc.jobs.all (fun j => !(j.live && j.core.map (· / 16) == some p)) = true ∧ t.mover.all
          (fun m => m.spire != p || m.stop) = true ∧ (t.spire p).loaded = none ∧ t.byte (sramAddr p 0) = 0 ∧ t.byte
          (coreAddr (16 * p + 15) 0x1FFFF) = 0)
    ∧ (∀ (p d : Nat) (c : Content), p < 32 → s.get (R.FCU_RETIRED_RETIRED p) = 0 → s.spireDome p = some d ∧ d ≠ 0 ∧
        (s.domeSt d = 2 ∨ s.domeSt d = 3) ∧ s.domeApp d = none ∧ s.stoppedNow d true = false → (s.dome d).content = some c ∧
        s.usedSpires c = [p] → (s.jsc.jobs.map (·.id)).Nodup → s.keepHalted = false →
        ∃ t, exec (.fcuRetire p) s = .next t ∧ t.domeSt d = 4 ∧ t.jsc.jobs.all (fun j => !(j.live && j.dome == d)) = true)
    ∧ (∀ (p : Nat), p < 32 → s.get (R.FCU_RETIRED_RETIRED p) = 0 → s.jsc.jobs = [] → s.domes = [] → s.keepHalted = false →
        ∃ t, exec (.fcuRetire p) s = .next t ∧ t.get (R.FCU_RETIRED_RETIRED p) = 1 ∧ t.get (R.FCU_RETIRED_HIST_EVER p) = 1 ∧
          116 ∈ t.irq ∧ (t.spire p).loaded = none ∧ t.jsc = s.jsc)

/-- The AES and triple DES commands of the SYM pool (R345, R347, R359, R360): ECB, CBC, CTR and GCM encryption write their
output as they run and end OK; a MAC is written by the command's end; a verification ends OK or VERIFY_FAIL (0x0420), and
a GCM decryption that fails gives zeros. What it takes from the model's own readings or choices is in log entries 22 and
23. -/
def Obligations.SymmetricCommands : Prop :=
  ∀ (s : State) (e : Nat) (c : Cmd) (d : SymD),
    s.spiresRun = true →
    let i : List Byte × State := s.opnd c e d.inA d.inRead
    let x : List Byte × State := i.2.opnd c e d.aux d.auxRead
    let k : KeyMat := (s.keyAt c d.key0).mat
    let p (n : Nat) : Nat := fld d.param n 1
    let out (t : State) (o : List Byte) : Host.Outcome State Fault Refusal := .next (t.doneCmd c 0 o.length [(c.phys d.out,
        o)])
    let opened (t : State) (o : List Byte × Bool) : Host.Outcome State Fault Refusal := .next (t.doneCmd c (if o.2 then 0
        else 0x0420) (if o.2 then o.1 else zeros d.inLen).length [(c.phys d.out, if o.2 then o.1 else zeros d.inLen)])
    let verdict (t : State) (ok : Bool) : Host.Outcome State Fault Refusal := .next (t.doneCmd c (if ok then 0 else 0x0420)
        0 [])
    let stream (t : State) (o iv : List Byte) : Host.Outcome State Fault Refusal := .next ((t.cmdWrites c e ([(c.phys d.out,
        o)] ++ (if d.ivOut then [(c.phys d.aux, iv)] else []))).doneCmd c 0 o.length [])
    (s.symReady e (.ecb false) c d → algTdes (s.keyAt c d.key0).mat.alg = false →
        exec (.aesEcbEnc e) s = stream i.2 (ecb (aesEnc k.key) 16 i.1) [])
    ∧ (s.symReady e (.ecb true) c d → algTdes (s.keyAt c d.key0).mat.alg = false →
        exec (.aesEcbDec e) s = stream i.2 (ecb (aesDec k.key) 16 i.1) [])
    ∧ (s.symReady e (.cbc false) c d → algTdes (s.keyAt c d.key0).mat.alg = false →
        exec (.aesCbcEnc e) s = stream i.2 (cbcEncB (aesEnc k.key) (d.param.take 16) (blocks 16 i.1)).1 (cbcEncB (aesEnc
          k.key) (d.param.take 16) (blocks 16 i.1)).2)
    ∧ (s.symReady e (.cbc true) c d → algTdes (s.keyAt c d.key0).mat.alg = false →
        exec (.aesCbcDec e) s = stream i.2 (cbcDecB (aesDec k.key) (d.param.take 16) (blocks 16 i.1)).1 (cbcDecB (aesDec
          k.key) (d.param.take 16) (blocks 16 i.1)).2)
    ∧ (s.symReady e .ctr c d → algTdes (s.keyAt c d.key0).mat.alg = false →
        exec (.aesCtr e) s = stream i.2 (ctrB (aesEnc k.key) (d.param.take 16) (blocks 16 i.1)).1 (ctrB (aesEnc k.key)
          (d.param.take 16) (blocks 16 i.1)).2)
    ∧ (s.symReady e (.gcm false) c d → algTdes (s.keyAt c d.key0).mat.alg = false →
        exec (.aesGcmEnc e) s = stream x.2 ((gcmEnc (aesEnc k.key) (d.param.take 12) x.1 i.1).1 ++ (gcmEnc (aesEnc k.key)
          (d.param.take 12) x.1 i.1).2.take (p 12)) [])
    ∧ (s.symReady e (.gcm true) c d → algTdes (s.keyAt c d.key0).mat.alg = false →
        exec (.aesGcmDec e) s = opened x.2 (gcmDec (aesEnc k.key) (d.param.take 12) x.1 (i.1.take d.inLen) (i.1.drop
          d.inLen)))
    ∧ (s.symReady e (.cmac false) c d →
        exec (.aesCmacGen e) s = out i.2 ((aesCmac k.key i.1).take (p 0)))
    ∧ (s.symReady e (.cmac true) c d →
        exec (.aesCmacVer e) s = verdict x.2 ((aesCmac k.key i.1).take (p 0) == x.1))
    ∧ (s.symReady e (.tecb false) c d → algTdes (s.keyAt c d.key0).mat.alg = true →
        exec (.tdesEcbEnc e) s = stream i.2 (ecb (tdesEnc k.key) 8 i.1) [])
    ∧ (s.symReady e (.tecb true) c d → algTdes (s.keyAt c d.key0).mat.alg = true →
        exec (.tdesEcbDec e) s = stream i.2 (ecb (tdesDec k.key) 8 i.1) [])
    ∧ (s.symReady e (.tcbc false) c d → algTdes (s.keyAt c d.key0).mat.alg = true →
        exec (.tdesCbcEnc e) s = stream i.2 (cbcEncB (tdesEnc k.key) (d.param.take 8) (blocks 8 i.1)).1 (cbcEncB (tdesEnc
          k.key) (d.param.take 8) (blocks 8 i.1)).2)
    ∧ (s.symReady e (.tcbc true) c d → algTdes (s.keyAt c d.key0).mat.alg = true →
        exec (.tdesCbcDec e) s = stream i.2 (cbcDecB (tdesDec k.key) (d.param.take 8) (blocks 8 i.1)).1 (cbcDecB (tdesDec
          k.key) (d.param.take 8) (blocks 8 i.1)).2)
    ∧ (s.symReady e (.tmac false) c d → algTdes (s.keyAt c d.key0).mat.alg = true →
        exec (.tdesMacGen e) s = out i.2 ((if p 0 = 1 then isoMac1 (tdesEnc k.key) (isoPad (p 1) i.1) else isoMac3 k.key
          (isoPad (p 1) i.1)).take (p 2)))
    ∧ (s.symReady e (.tmac true) c d → algTdes (s.keyAt c d.key0).mat.alg = true →
        exec (.tdesMacVer e) s = verdict x.2 ((if p 0 = 1 then isoMac1 (tdesEnc k.key) (isoPad (p 1) i.1) else isoMac3 k.key
          (isoPad (p 1) i.1)).take (p 2) == x.1))

/-- The payment commands of the SYM pool (R348, R361 to R367): FF1 keeps the digits' number, a PIN block that does not
open ends PIN_FORMAT (0x0410), a PIN is written again under the other key, cryptograms and MACs are made or judged, a KSN
must be right (0x0411), and a key block is imported as an entry or refused (0x0430). What it takes from the model's own
readings or choices is in log entries 22 and 23. -/
def Obligations.PaymentCommands : Prop :=
  ∀ (s : State) (e : Nat) (c : Cmd) (d : SymD),
    s.spiresRun = true →
    let i : List Byte × State := s.opnd c e d.inA d.inRead
    let x : List Byte × State := i.2.opnd c e d.aux d.auxRead
    let k : KeyMat := (s.keyAt c d.key0).mat
    let k2 : KeyMat := (s.keyAt c d.key1).mat
    let p (n : Nat) : Nat := fld d.param n 1
    let pan (off len : Nat) : List Nat := panDigits (sliceB d.param off 10) len
    let wk (u : Nat) : List Byte := dukptKey k.key (d.param.take 12) (p 12) u
    let emv : List Byte := emvSession (p 0x1C == 0) (emvMaster (p 0x1C == 0) k.key (pan 2 (p 0)) (p 1)) (sliceB d.param 0x0C
        2)
    let arpc (prop : List Byte) : List Byte := emvArpc (p 0x1C == 0) emv (sliceB d.param 0x0E 8) (sliceB d.param 0x16 4) (p
        0x1A) prop
    let res : List Byte := tabGet [] s.pools.symRes e
    let drawn (t : State) (n : Nat) : State :=
        { t with pools := { s.pools with symRes := tabSet [] s.pools.symRes e (res.drop n) } }
    let written (t : State) (fmt : Nat) (pan pin : List Nat) : State := if (tabGet [] t.pools.symRes e).length < pinRandom
        fmt pin.length then (t.doneCmd c 0x0408 0 []).cause R.SYM_EVENTS_CAUSE 160 161 else ({ t with
            pools := { t.pools with symRes := tabSet [] t.pools.symRes e ((tabGet [] t.pools.symRes e).drop (pinRandom fmt pin.length)) } }
        : State).doneCmd c 0 (pinSeal fmt k2.enc pan (pinBuild fmt pin ((tabGet [] t.pools.symRes e).take (pinRandom fmt
        pin.length)))).length [(c.phys d.out, pinSeal fmt k2.enc pan (pinBuild fmt pin ((tabGet [] t.pools.symRes e).take
        (pinRandom fmt pin.length))))]
    let got : Option (List Nat) := pinParse (p 0) (pinOpen (p 0) k.dec (pan 4 (p 2)) i.1)
    let out (t : State) (o : List Byte) : Host.Outcome State Fault Refusal := .next (t.doneCmd c 0 o.length [(c.phys d.out,
        o)])
    let code (t : State) (n : Nat) : Host.Outcome State Fault Refusal := .next (t.doneCmd c n 0 [])
    (s.symReady e (.ff1 false) c d → (s.opnd c e d.inA d.inRead).1.all (fun b => decide (b.toNat < 10)) = true →
        exec (.ff1Enc e) s = out x.2 ((ff1Enc k.key x.1 (i.1.map (·.toNat))).map (BitVec.ofNat 8)))
    ∧ (s.symReady e (.ff1 true) c d → (s.opnd c e d.inA d.inRead).1.all (fun b => decide (b.toNat < 10)) = true →
        exec (.ff1Dec e) s = out x.2 ((ff1Dec k.key x.1 (i.1.map (·.toNat))).map (BitVec.ofNat 8)))
    ∧ (s.symReady e .pinTranslate c d →
        exec (.pinTranslate e) s = (match got with
              | none => code i.2 0x0410
              | some pin => .next (written i.2 (p 1) (pan 4 (p 2)) pin)))
    ∧ (s.symReady e .pvfVerify c d →
        exec (.pvfVerify e) s = (match got with
              | none => code i.2 0x0410
              | some pin => code i.2 (if pvf k2.key pin (pan 4 (p 2)) = fld d.param 16 8 then 0 else 0x0420)))
    ∧ (s.symReady e .pvfGenerate c d →
        exec (.pvfGenerate e) s = (match got with
              | none => code i.2 0x0410
              | some pin => out i.2 (toLE 8 (pvf k2.key pin (pan 4 (p 2))))))
    ∧ (s.symReady e .arqcVerify c d →
        exec (.arqcVerify e) s = (if emvArqc (p 0x1C == 0) emv i.1 = sliceB d.param 0x0E 8 then (if p 0x1B % 2 = 1 then out
          x.2 (arpc x.1) else code x.2 0) else code x.2 0x0420))
    ∧ (s.symReady e .arpcGenerate c d →
        exec (.arpcGenerate e) s = out (s.opnd c e d.aux d.auxRead).2 (arpc (s.opnd c e d.aux d.auxRead).1))
    ∧ (s.symReady e .dukptPin c d → ksnOk (d.param.take 12) = false →
        exec (.dukptPin e) s = code i.2 0x0411)
    ∧ (s.symReady e .dukptPin c d → ksnOk (d.param.take 12) = true →
        exec (.dukptPin e) s = (match pinParse 4 (pinOpen 4 (aesDec (wk 0x1000)) (pan 16 (p 14)) i.1) with
              | none => code i.2 0x0410
              | some pin => .next (written i.2 (p 13) (pan 16 (p 14)) pin)))
    ∧ (s.symReady e .dukptMac c d →
        exec (.dukptMacVer e) s = code x.2 (if ksnOk (d.param.take 12) = false then 0x0411 else if (aesCmac (wk 0x2000)
          i.1).take (p 13) = x.1 then 0 else 0x0420))
    ∧ (s.symReady e .dukptDec c d →
        exec (.dukptDec e) s = (if ksnOk (d.param.take 12) = false then code x.2 0x0411 else out x.2 (cbcDecB (aesDec (wk
          0x3000)) x.1 (blocks 16 i.1)).1))
    ∧ (s.symReady e .kbImport c d →
        exec (.kbImport e) s = (match (kbOpen false k.key i.1).bind kbMat with
              | none => code i.2 0x0430
              | some m => out i.2 (entryMake i.2.key.tkey c.dome m (d.param.take 4))))
    ∧ (∀ (u : List Byte) (l m : Byte), s.symReady e .kbExport c d → kbRow (s.keyAt c d.key0).mat.alg (s.keyAt c
        d.key0).mat.usage = some (u, l, m) → kbPad (s.keyAt c d.key0).mat.key.length ≤ (tabGet [] s.pools.symRes e).length →
        exec (.kbExport e) s = out (drawn s (kbPad k.key.length)) (kbMake k2.key u (d.param.take 2) k.key (res.take (kbPad
          k.key.length)) l m 0x45))

/-- A free engine takes the earliest waiting command of its pool, checked as it arrives (R342, R346), or resumes the one
in its own bank where no PROMISED command waits (R343); an engine of either pool yields its BEST command to the earliest
waiting one (R343); a command's end performs its output, writes the status word and counts it, or sets its error flag
alone where STATUS is wrong (R345). What it takes from the model's own readings or choices is in log entry 21. -/
def Obligations.PoolSchedule : Prop :=
  ∀ (s : State) (pool e : Nat) (c : Cmd),
    s.spiresRun = true →
    (pool < 2 → e < 32 → s.onEngine pool e = none → s.inBank pool e = none → earliest (s.waiting pool) = some c →
        s.poolCheck c = none →
        exec (.engineDispatch pool e) s = .next (s.putCmd { c with st := .running e, checked := true }))
    ∧ (∀ (code addr : Nat), pool < 2 → e < 32 → s.onEngine pool e = none → s.inBank pool e = none → earliest (s.waiting
        pool) = some c → s.poolCheck c = some (code, addr) →
        exec (.engineDispatch pool e) s = .next (((((s.putCmd { c with st := .running e }).putCmd
          { c with st := .running e, checked := true, code := some code }).count (refusedFld c.pool)).report
          { source := 4, agent := poolBase c.pool + e, dome := c.dome, addr := addr, spire := c.core / 16 }).poolEvent
          c.pool 0))
    ∧ (pool < 2 → e < 32 → s.onEngine pool e = none → s.inBank pool e = some c → s.promisedWaits pool = false →
        exec (.engineDispatch pool e) s = .next (s.putCmd { c with st := .running e }))
    ∧ (s.onEngine pool e = some c →
        exec (.engineDispatch pool e) s = .next (s))
    ∧ (∀ (b : Cmd), pool < 2 → e < 32 → s.yielder pool = some e → s.onEngine pool e = some b → earliest (s.waiting pool) =
        some c → (s.putCmd { b with st := .suspended e }).poolCheck c = none →
        exec (.symYield (32 * pool + e)) s = .next ((s.putCmd { b with st := .suspended e }).putCmd
          { c with st := .running e, checked := true }))
    ∧ (pool < 2 → e < 32 → s.yielder pool ≠ some e →
        exec (.symYield (32 * pool + e)) s = .next (s))
    ∧ (∀ (code : Nat), s.onEngine 0 e = some c → c.code = some code → c.statusOk = true → code ≠ 0x0420 → c.unit = false →
        exec (.symCommandEnd e) s = .next (((((s.dropCmd c).cmdWrites c e c.writes).wr (c.xfer e) (c.phys c.statusA) (toLE 2
          code ++ zeros 2 ++ toLE 4 c.outLen)).next R.SYM_CMDS_COUNT).completeTicket c.job c.ticket (code != 0)))
    ∧ (s.onEngine 0 e = some c → c.code = some 0x0420 → c.statusOk = true → c.unit = false →
        exec (.symCommandEnd e) s = .next ((((((s.dropCmd c).cmdWrites c e c.writes).wr (c.xfer e) (c.phys c.statusA)
          ([0x20, 4, 0, 0] ++ toLE 4 c.outLen)).next R.SYM_CMDS_COUNT).completeTicket c.job c.ticket true).next
          R.SYM_VFAIL_COUNT))
    ∧ (∀ (code : Nat), s.onEngine 0 e = some c → c.code = some code → c.statusOk = false → code ≠ 0x0420 → c.unit = false →
        exec (.symCommandEnd e) s = .next (((s.dropCmd c).cmdWrites c e c.writes).completeTicket c.job c.ticket true))
    ∧ (∀ (code : Nat), s.onEngine 1 e = some c → c.code = some code → c.statusOk = true → code ≠ 0x0420 → c.unit = false →
        exec (.digCommandEnd e) s = .next (((((s.dropCmd c).cmdWrites c e c.writes).wr (c.xfer e) (c.phys c.statusA) (toLE 2
          code ++ zeros 2 ++ toLE 4 c.outLen)).next R.DIG_CMDS_COUNT).completeTicket c.job c.ticket (code != 0)))

/-- HASH and HMAC write the digest of their input, HMAC_VERIFY judges it (R369); INIT writes a fresh record, UPDATE adds
input to an ACTIVE one and FINAL writes its digest and a FINISHED record (R370); a keyed record is sealed under the
context key (R371); a record that does not fit, or a keyed command without the context key (R424), ends CONTEXT (0x0440)
with a fault and vector 177. What it takes from the model's own readings or choices is in log entries 22 and 24. -/
def Obligations.DigestCommands : Prop :=
  ∀ (s : State) (e : Nat) (c : Cmd),
    s.spiresRun = true →
    let d : DigD := digDesc c.desc
    let i : List Byte × State := s.opnd c e d.inA d.inLen
    let k : List Byte × State := s.opnd c e d.ctx 256
    let ki : List Byte × State := k.2.opnd c e d.inA d.inLen
    let mac : List Byte × State := i.2.opnd c e d.ctx d.b3
    let key : List Byte := (s.keyAt c d.key).mat.key
    let record (st : Nat) (x : DigCtx) : List Byte := toLE 1 st ++ toLE 1 d.alg ++ toLE 1 0 ++ toLE 1 x.buf.length ++ zeros
        4 ++ x.body d.alg ++ zeros 32
    let plain : DigCtx := { len := 0, h := shaInit d.alg, buf := [] }
    let keyed : DigCtx := { plain with h := shaAbsorb d.alg (shaInit d.alg) ((hmacKey d.alg key).map (· ^^^ 0x36)) }
    let gone : DigCtx := { len := 0, h := [], buf := [] }
    let held : DigCtx := digRead d.alg (fld k.1 3 1) (sliceB k.1 8 216)
    let sealed (head : List Byte) (x : DigCtx) : State := ({ s with pools := { s.pools with seals := s.pools.seals + 1 } } :
        State).doneCmd c 0 0 [(c.phys d.ctx, head ++ (gcmEnc (aesEnc s.pools.digKey) (toLE 4 c.job ++ toLE 8 s.pools.seals)
        (head ++ toLE 1 c.dome ++ toLE 4 c.job ++ toLE 2 (c.slotAt d.key)) (x.body d.alg)).1 ++ (gcmEnc (aesEnc
        s.pools.digKey) (toLE 4 c.job ++ toLE 8 s.pools.seals) (head ++ toLE 1 c.dome ++ toLE 4 c.job ++ toLE 2 (c.slotAt
        d.key)) (x.body d.alg)).2 ++ (toLE 4 c.job ++ toLE 8 s.pools.seals) ++ zeros 4)]
    let bad (t : State) : State := ((t.doneCmd c 0x0440 0 []).report
        { source := 4, agent := 0x260 + e, dome := c.dome, addr := 0, spire := c.core / 16 }).cause R.DIG_EVENTS_CAUSE 176
        177
    (s.digReady e 1 c →
        exec (.hash e) s = .next (i.2.doneCmd c 0 (sha d.alg i.1).length [(c.phys d.out, sha d.alg i.1)]))
    ∧ (s.digReady e 2 c →
        exec (.hmac e) s = .next (i.2.doneCmd c 0 (hmac d.alg key i.1).length [(c.phys d.out, hmac d.alg key i.1)]))
    ∧ (s.digReady e 3 c →
        exec (.hmacVerify e) s = .next (mac.2.doneCmd c (if (hmac d.alg key i.1).take d.b3 = mac.1 then 0 else 0x0420) 0
          []))
    ∧ (s.digReady e 4 c → (digDesc c.desc).b3 % 2 = 0 →
        exec (.digInit e) s = .next (s.doneCmd c 0 0 [(c.phys d.ctx, record 1 plain)]))
    ∧ (s.digReady e 4 c → (digDesc c.desc).b3 % 2 = 1 → s.pools.digKey ≠ [] →
        exec (.digInit e) s = .next (sealed (toLE 1 1 ++ toLE 1 d.alg ++ [1, 0] ++ zeros 4) keyed))
    ∧ (s.digReady e 4 c → (digDesc c.desc).b3 % 2 = 1 → s.pools.digKey = [] → c.pool = 1 →
        exec (.digInit e) s = .next (bad s))
    ∧ (s.digReady e 5 c → (digDesc c.desc).b3 % 2 = 0 → fld (s.opnd c e (digDesc c.desc).ctx 256).1 0 1 = 1 → fld (s.opnd c
        e (digDesc c.desc).ctx 256).1 1 1 = (digDesc c.desc).alg → fld (s.opnd c e (digDesc c.desc).ctx 256).1 2 1 = 0 →
        exec (.digUpdate e) s = .next (ki.2.doneCmd c 0 0 [(c.phys d.ctx, record 1 (held.add d.alg ki.1))]))
    ∧ (s.digReady e 6 c → (digDesc c.desc).b3 % 2 = 0 → fld (s.opnd c e (digDesc c.desc).ctx 256).1 0 1 = 1 → fld (s.opnd c
        e (digDesc c.desc).ctx 256).1 1 1 = (digDesc c.desc).alg → fld (s.opnd c e (digDesc c.desc).ctx 256).1 2 1 = 0 →
        exec (.digFinal e) s = .next (ki.2.doneCmd c 0 (shaFinish d.alg (held.add d.alg ki.1).h (held.add d.alg ki.1).buf
          (held.add d.alg ki.1).len).length [(c.phys d.out, shaFinish d.alg (held.add d.alg ki.1).h (held.add d.alg
          ki.1).buf (held.add d.alg ki.1).len), (c.phys d.ctx, record 2 gone)]))
    ∧ (s.digReady e 6 c → (digDesc c.desc).b3 % 2 = 0 → fld (s.opnd c e (digDesc c.desc).ctx 256).1 0 1 ≠ 1 → fld (s.opnd c
        e (digDesc c.desc).ctx 256).1 0 1 ≠ 2 → c.pool = 1 →
        exec (.digFinal e) s = .next (bad ki.2))

/-- INSTALL, REPLACE and REMOVE start only where no install is busy; their end checks in R354's order (UNAVAILABLE 0x0453,
STATE 0x0451, PINNED 0x0452, FORMAT 0x0450) and changes the table and directory (outside the federation range), with
vector 208 or 209. PIN and UNPIN end with vector 210 (R357), with INSTALL_RANGE while SRK_VALID reads 0 (R572); a lane
reads the entry in its interval and leaves the slot READY, STALE or FAILED (R356). What it takes from the model's own
readings or choices is in log entry 25. -/
def Obligations.KeyTable : Prop :=
  ∀ (s : State) (i k : Nat),
    s.spiresRun = true →
    let src : List Byte × State := s.rd s.keyX (s.get R.KEY_INST_SRC_ADDR * 64) 64
    let word : List Byte × State := s.rd
        { agent := 0x2A4, dom := (s.slot k).dome, epoch := (s.slot k).art.getD (s.get R.ART_EPOCH_CURRENT) } (s.entryAddr
        (s.slot k).bank (s.slot k).index) 64
    let ended (t : State) (code : Nat) : State := (((t.setKey { t.key with inst := none }).set R.KEY_STATUS_INST_BUSY 0).set
        R.KEY_INST_STATUS_CODE code).cause R.KEY_EVENTS_CAUSE 208 (if code = 0 then 208 else 209)
    let bad (t : State) : State := ((t.setSlot k
        { t.slot k with st := 3, entry := none, pinned := false, stale := false, mat := {} }).count
        R.KEY_FETCH_FAIL_COUNT).cause R.KEY_EVENTS_CAUSE 208 211
    let pinned (t : State) (code : Nat) : State := (((t.setKey { t.key with pinWait := none }).set R.KEY_PIN_STATUS_BUSY
        0).set R.KEY_PIN_STATUS_CODE code).cause R.KEY_EVENTS_CAUSE 208 210
    (s.get R.KEY_STATUS_INST_BUSY = 0 → s.keepHalted = false →
        exec (.install i) s = .next ((s.setKey { s.key with inst := some (1, i % 2 ^ 24) }).set R.KEY_STATUS_INST_BUSY 1))
    ∧ (s.get R.KEY_STATUS_INST_BUSY = 0 → s.keepHalted = false →
        exec (.replace i) s = .next ((s.setKey { s.key with inst := some (2, i % 2 ^ 24) }).set R.KEY_STATUS_INST_BUSY 1))
    ∧ (s.get R.KEY_STATUS_INST_BUSY = 0 → s.keepHalted = false →
        exec (.remove i) s = .next ((s.setKey { s.key with inst := some (3, i % 2 ^ 24) }).set R.KEY_STATUS_INST_BUSY 1))
    ∧ (∀ (op : Nat), s.key.inst = some (op, i) → s.get R.RST_ROOT_SRK_VALID = 0 ∨ s.get R.MEMC_KEYTAB_HI_COUNT ≤ i →
        exec .keyInstDone s = .next (ended s 0x0453))
    ∧ (s.key.inst = some (1, i) → s.get R.RST_ROOT_SRK_VALID = 1 → i < s.get R.MEMC_KEYTAB_HI_COUNT → s.inFed i = false →
        s.dirByte i < 128 → (s.rd s.keyX (s.get R.KEY_INST_SRC_ADDR * 64) 64).2.fed = s.fed →
        exec .keyInstDone s = .next (match entryOpen src.2.key.tkey src.1 with
              | none => ended src.2 0x0450
              | some (d, _) => ended ((src.2.wr s.keyX (src.2.entryAddr 0 i) src.1).dirUpdate 0 i (128 + d)) 0))
    ∧ (∀ (op : Nat), s.key.inst = some (op, i) → s.get R.RST_ROOT_SRK_VALID = 1 → i < s.get R.MEMC_KEYTAB_HI_COUNT → s.inFed
        i = false → op = 1 ∧ 128 ≤ s.dirByte i % 256 ∨ op ≠ 1 ∧ s.dirByte i < 128 →
        exec .keyInstDone s = .next (ended s 0x0451))
    ∧ (∀ (op : Nat) (p : Nat × KSlot), s.key.inst = some (op, i) → op ≠ 1 → s.get R.RST_ROOT_SRK_VALID = 1 → i < s.get
        R.MEMC_KEYTAB_HI_COUNT → s.inFed i = false → 128 ≤ s.dirByte i % 256 → p ∈ s.key.slots → p.2.index = i → p.2.pinned
        = true → p.2.st ≠ 0 →
        exec .keyInstDone s = .next (ended s 0x0452))
    ∧ (s.key.inst = some (3, i) → s.get R.RST_ROOT_SRK_VALID = 1 → i < s.get R.MEMC_KEYTAB_HI_COUNT → s.inFed i = false →
        128 ≤ s.dirByte i % 256 → s.key.slots.all (fun p => p.2.index != i || !p.2.pinned) = true →
        exec .keyInstDone s = .next (ended ((s.wr s.keyX (s.entryAddr 0 i) (zeros 64)).dirUpdate 0 i 0) 0))
    ∧ (s.get R.KEY_PIN_STATUS_BUSY = 0 → s.get R.RST_ROOT_SRK_VALID = 0 → s.keepHalted = false →
        exec (.pin i) s = .next (pinned s 0x0453))
    ∧ (s.get R.KEY_PIN_STATUS_BUSY = 0 → s.get R.RST_ROOT_SRK_VALID = 0 → s.keepHalted = false →
        exec (.unpin i) s = .next (pinned s 0x0453))
    ∧ (s.get R.KEY_PIN_STATUS_BUSY = 0 → s.get R.RST_ROOT_SRK_VALID = 1 → s.dirByte (i % 2 ^ 24) < 128 → s.keepHalted =
        false →
        exec (.pin i) s = .next (pinned s 0x0455))
    ∧ (s.get R.KEY_PIN_STATUS_BUSY = 0 → s.get R.RST_ROOT_SRK_VALID = 1 → 128 ≤ s.dirByte (i % 2 ^ 24) % 256 → s.slotOf
        (s.dirByte (i % 2 ^ 24) % 64) (s.bankOfKey (i % 2 ^ 24)) (i % 2 ^ 24) = some k → (s.slot k).st = 2 → s.keepHalted =
        false →
        exec (.pin i) s = .next (pinned (s.setSlot k { s.slot k with pinned := true }) 0))
    ∧ (s.get R.KEY_PIN_STATUS_BUSY = 0 → s.get R.RST_ROOT_SRK_VALID = 1 → 128 ≤ s.dirByte (i % 2 ^ 24) % 256 → s.slotOf
        (s.dirByte (i % 2 ^ 24) % 64) (s.bankOfKey (i % 2 ^ 24)) (i % 2 ^ 24) = none → s.victim (s.dirByte (i % 2 ^ 24) %
        64) = none → s.keepHalted = false →
        exec (.pin i) s = .next (pinned s 0x0454))
    ∧ (∀ (p : Nat × KSlot), s.get R.KEY_PIN_STATUS_BUSY = 0 → s.get R.RST_ROOT_SRK_VALID = 1 → s.key.slots.find? (fun e =>
        e.2.index == i % 2 ^ 24 && e.2.pinned && e.2.st != 0) = some p → s.keepHalted = false →
        exec (.unpin i) s = .next (pinned (s.setSlot p.1 { p.2 with pinned := false }) 0))
    ∧ ((s.slot k).fetching = true → (s.slot k).entry = none →
        exec (.keyFetch k) s = .next ((word.2.setSlot k { s.slot k with entry := some word.1 }).next R.KEY_FETCH_COUNT))
    ∧ (∀ (en : List Byte), (s.slot k).st = 1 → (s.slot k).entry = some en → (s.slot k).stale = false → (s.slot k).refs ≠ 0 →
        s.key.pinWait ≠ some k →
        exec (.keyFetchEnd k) s = .next (match entryOpen s.key.tkey en with
              | some (d, m) => if d = (s.slot k).dome then s.setSlot k
                  { s.slot k with st := 2, mat := m, entry := none, stale := false } else bad s
              | none => bad s))
    ∧ (∀ (en : List Byte), (s.slot k).st = 1 → (s.slot k).entry = some en → (s.slot k).refs ≠ 0 → entryOpen s.key.tkey en =
        none → s.key.pinWait = some k →
        exec (.keyFetchEnd k) s = .next (pinned (((s.setSlot k
          { s.slot k with st := 3, entry := none, pinned := false, stale := false, mat := {} }).count
          R.KEY_FETCH_FAIL_COUNT).cause R.KEY_EVENTS_CAUSE 208 211) 0x0403))

/-- A PKE command that runs and has passed its checks ends its operation with the code and output that R386 to R399 give
it; OUT is written by its final ETU, and only with code OK (R378, R391). What it takes from the model's own readings or
choices is in log entry 21. -/
def Obligations.PublicKeyCompletion : Prop :=
  ∀ (s : State) (job ticket e : Nat) (c : Cmd),
    s.spiresRun = true →
    (s.pkReady job ticket e 0x01 c →
        exec (.modprog job ticket) s = .next (s.pkDone c (pkModprog (s.pkRun c))))
    ∧ (s.pkReady job ticket e 0x10 c →
        exec (.keygen job ticket) s = .next (s.pkDone c (pkKeygen (s.pkRun c))))
    ∧ (s.pkReady job ticket e 0x11 c →
        exec (.sign job ticket) s = .next (s.pkDone c (pkSign (s.pkRun c))))
    ∧ (s.pkReady job ticket e 0x12 c →
        exec (.verify job ticket) s = .next (s.pkDone c (pkVerify (s.pkRun c))))
    ∧ (s.pkReady job ticket e 0x13 c →
        exec (.agree job ticket) s = .next (s.pkDone c (pkAgree (s.pkRun c))))
    ∧ (s.pkReady job ticket e 0x14 c →
        exec (.publicKey job ticket) s = .next (s.pkDone c (pkPublic (s.pkRun c))))
    ∧ (s.pkReady job ticket e 0x18 c →
        exec (.curveCheck job ticket) s = .next (s.pkDone c (if curveSafe (recCurve (c.ins.getD 3 [])) then (0, recSeal
          s.pools.curveKey (c.ins.getD 3 []) c.dome) else (0x0301, []))))
    ∧ (s.pkReady job ticket e 0x20 c →
        exec (.rsaSign job ticket) s = .next (s.pkDone c (pkRsaSign (s.pkRun c))))
    ∧ (s.pkReady job ticket e 0x21 c →
        exec (.rsaVerify job ticket) s = .next (s.pkDone c (pkRsaVerify (s.pkRun c))))
    ∧ (s.pkReady job ticket e 0x22 c →
        exec (.rsaDecrypt job ticket) s = .next (s.pkDone c (pkRsaDecrypt (s.pkRun c))))
    ∧ (s.pkReady job ticket e 0x23 c →
        exec (.rsaEncrypt job ticket) s = .next (s.pkDone c (pkRsaEncrypt (s.pkRun c))))
    ∧ (s.pkReady job ticket e 0x30 c →
        exec (.pkImport job ticket) s = .next (s.pkDone c (pkImport (s.pkRun c))))

/-- A signature or agreement uses the key of the PKO, opened for its curve, dome and usage (R384, R386); a public key that
is no point of the curve, and a modulus that is even or 1, end PK_INPUT (0x0301); a signature that does not verify ends
PK_BADSIG (0x0305); PUBLIC returns the public key (R402). KEYGEN makes a PKO and its public key from the first candidate
in range, or ends PK_RANDOM (0x0306, R398); RSA_VERIFY and RSA_ENCRYPT take a public key with an odd modulus of k bytes
and an odd exponent from 65,537 on, and raise to it; PK_IMPORT makes a PKO from the private key of a key block under the
protection key (R388). What it takes from the model's own readings or choices is in log entries 22 and 24. -/
def Obligations.PublicKeyResults : Prop :=
  ∀ (s : State) (job ticket e : Nat) (c : Cmd),
    s.spiresRun = true → c.unit = false →
    let i (n : Nat) : List Byte := c.ins.getD n []
    let d : PkD := pkDesc c.desc
    let r : PkRun := s.pkRun c
    let pko (need f : Nat) : Option PrivKey := pkoOpen (s.keyAt c d.key).mat.key d.curve c.dome need f (i 1)
    let cand (cv : Curve) (k : Nat) : Nat := ofBE (r.rnd k ((bitLen cv.n + 7) / 8)) % 2 ^ bitLen cv.n
    (s.pkReady job ticket e 0x11 c → (pkDesc c.desc).curve = 8 →
        exec (.sign job ticket) s = .next (s.pkDone c
          (match pko 1 32 with | some (.ed sd _) => (0, edSign sd (i 0)) | _ => (0x0301, []))))
    ∧ (∀ (cv : Curve), s.pkReady job ticket e 0x11 c → namedCurve (pkDesc c.desc).curve = some cv →
        exec (.sign job ticket) s = .next (s.pkDone c (match pko 1 cv.f with
              | some (.wei k _ _) => (match ecdsaSign cv d.hash k (i 0) (r.rnd 0 32) with
                      | some (a, b) => (0, toBE cv.on a ++ toBE cv.on b)
                      | none => (0x0301, []))
              | _ => (0x0301, []))))
    ∧ (∀ (cv : Curve), s.pkReady job ticket e 0x12 c → namedCurve (pkDesc c.desc).curve = some cv → cv.point (c.ins.getD 2
        []) = none →
        exec (.verify job ticket) s = .next (s.pkDone c (0x0301, [])))
    ∧ (∀ (cv : Curve) (q : Nat × Nat), s.pkReady job ticket e 0x12 c → namedCurve (pkDesc c.desc).curve = some cv → cv.point
        (c.ins.getD 2 []) = some q → (c.ins.getD 3 []).length = 2 * cv.on →
        exec (.verify job ticket) s = .next (s.pkDone c (if ecdsaVerify cv (some q) (i 0) (ofBE ((i 3).take cv.on)) (ofBE
          ((i 3).drop cv.on)) then 0 else 0x0305, [])))
    ∧ (s.pkReady job ticket e 0x13 c → (pkDesc c.desc).curve = 9 →
        exec (.agree job ticket) s = .next (s.pkDone c (match pko 2 32 with
              | some (.mont k _) => (if allZero (x25519 k (i 2)) then (0x0301, []) else (0, x25519 k (i 2)))
              | _ => (0x0301, []))))
    ∧ (s.pkReady job ticket e 0x14 c → (pkDesc c.desc).curve = 8 ∨ (pkDesc c.desc).curve = 9 →
        exec (.publicKey job ticket) s = .next (s.pkDone c (match pko 0 32 with
              | some p => (0, p.pub 32 (rsaK d.curve))
              | none => (0x0301, []))))
    ∧ (s.pkReady job ticket e 0x20 c → fld (pkDesc c.desc).param 0 1 = 0 →
        exec (.rsaSign job ticket) s = .next (s.pkDone c (match pko 1 0 with
              | some (.rsa k) => (0, toBE (rsaK d.curve) (k.priv (ofBE (pkcs1Enc d.hash (rsaK d.curve) (i 0)) % k.n)))
              | _ => (0x0301, []))))
    ∧ (s.pkReady job ticket e 0x22 c →
        exec (.rsaDecrypt job ticket) s = .next (s.pkDone c (match pko 4 0 with
              | some (.rsa k) => (if k.n ≤ ofBE (i 0) then (0x0301, []) else match oaepDec d.hash (toBE (rsaK d.curve)
                  (k.priv (ofBE (i 0)))) with | some m => (0, m) | none => (0x0301, []))
              | _ => (0x0301, []))))
    ∧ (s.pkReady job ticket e 0x01 c → ofBE (sliceB (c.ins.getD 0 []) (32 * fld (pkDesc c.desc).param 0 1 * fld (pkDesc
        c.desc).param 4 1) (32 * fld (pkDesc c.desc).param 0 1)) % 2 = 0 ∨ ofBE (sliceB (c.ins.getD 0 []) (32 * fld (pkDesc
        c.desc).param 0 1 * fld (pkDesc c.desc).param 4 1) (32 * fld (pkDesc c.desc).param 0 1)) = 1 →
        exec (.modprog job ticket) s = .next (s.pkDone c (0x0301, [])))
    ∧ (s.pkReady job ticket e 0x18 c → curveSafe (recCurve (c.ins.getD 3 [])) = false →
        exec (.curveCheck job ticket) s = .next (s.pkDone c (0x0301, [])))
    ∧ (s.pkReady job ticket e 0x10 c → (pkDesc c.desc).curve = 9 →
        exec (.keygen job ticket) s = .next (s.pkDone c (r.make 2 32 (.mont (r.rnd 0 32) (x25519Public (r.rnd 0 32))))))
    ∧ (s.pkReady job ticket e 0x10 c → (pkDesc c.desc).curve = 8 →
        exec (.keygen job ticket) s = .next (s.pkDone c (r.make 1 32 (.ed (r.rnd 0 32) (edPublic (r.rnd 0 32))))))
    ∧ (∀ (cv : Curve), s.pkReady job ticket e 0x10 c → namedCurve (pkDesc c.desc).curve = some cv →
        exec (.keygen job ticket) s = .next (s.pkDone c
          (match ((List.range 128).map (cand cv)).find? (fun k => decide (1 ≤ k) && decide (k < cv.n)) with
              | none => (0x0306, [])
              | some k => (match cv.mul k cv.g with
                      | some (a, b) => r.make 3 cv.f (.wei k a b)
                      | none => (0x0301, [])))))
    ∧ (∀ (n x : Nat), s.pkReady job ticket e 0x21 c → fld (pkDesc c.desc).param 0 1 = 0 → ofBE ((c.ins.getD 2 []).take (rsaK
        (pkDesc c.desc).curve)) = n → ofBE ((c.ins.getD 2 []).drop (rsaK (pkDesc c.desc).curve)) = x → n % 2 = 1 ∧ bitLen n
        = 8 * rsaK (pkDesc c.desc).curve → x % 2 = 1 ∧ 65537 ≤ x ∧ x < 2 ^ 256 →
        exec (.rsaVerify job ticket) s = .next (s.pkDone c (if ofBE (i 3) < n ∧ toBE (rsaK d.curve) (powMod (ofBE (i 3)) x
          n) = pkcs1Enc d.hash (rsaK d.curve) (i 0) then 0 else 0x0305, [])))
    ∧ (∀ (n x : Nat), s.pkReady job ticket e 0x23 c → ofBE ((c.ins.getD 2 []).take (rsaK (pkDesc c.desc).curve)) = n → ofBE
        ((c.ins.getD 2 []).drop (rsaK (pkDesc c.desc).curve)) = x → n % 2 = 1 ∧ bitLen n = 8 * rsaK (pkDesc c.desc).curve →
        x % 2 = 1 ∧ 65537 ≤ x ∧ x < 2 ^ 256 →
        exec (.rsaEncrypt job ticket) s = .next (s.pkDone c (0, toBE (rsaK d.curve) (powMod (ofBE (oaepEnc d.hash (rsaK
          d.curve) (i 0) (r.rnd 0 (shaLen d.hash)))) x n))))
    ∧ (s.pkReady job ticket e 0x21 c → ofBE ((c.ins.getD 2 []).take (rsaK (pkDesc c.desc).curve)) % 2 = 0 ∨ ofBE
        ((c.ins.getD 2 []).drop (rsaK (pkDesc c.desc).curve)) < 65537 →
        exec (.rsaVerify job ticket) s = .next (s.pkDone c (0x0301, [])))
    ∧ (s.pkReady job ticket e 0x23 c → ofBE ((c.ins.getD 2 []).take (rsaK (pkDesc c.desc).curve)) % 2 = 0 ∨ ofBE
        ((c.ins.getD 2 []).drop (rsaK (pkDesc c.desc).curve)) < 65537 →
        exec (.rsaEncrypt job ticket) s = .next (s.pkDone c (0x0301, [])))
    ∧ (s.pkReady job ticket e 0x30 c →
        exec (.pkImport job ticket) s = .next (s.pkDone c
          (match importBlock (s.keyAt c d.key).mat.key d.curve (ofBE (r.rnd 0 64)) (i 0) with
              | some q => r.make q.1 (curveF d.curve) q.2
              | none => (0x0301, []))))

/-- At an ETU boundary the 32 engines go to the earliest held commands (R403), and a command whose descriptor is wrong is
refused with 0x0303 when it first reaches one (R389). The final ETU writes OUT and the status word (R378); a result whose
check failed is withheld: code 0x0302, no output, tamper source 14 and vector 193 (R399, R400). What it takes from the
model's own readings or choices is in log entry 24. -/
def Obligations.PkeScheduling : Prop :=
  ∀ (s : State) (c : Cmd),
    s.spiresRun = true →
    (∀ (e : Nat), s.cmds.all (fun d => d.pool == 2 && d.held && d.checked) = true → (s.cmds.map (fun d => (d.job,
        d.ticket))).Nodup → e < 32 → s.pkeOrder[e]? = some c →
        ∃ t, exec .pkeEtuSchedule s = .next t ∧ { c with st := .running e } ∈ t.cmds ∧ t.cmds.length = s.cmds.length ∧
          ({ t with cmds := s.cmds } : State) = s)
    ∧ (s.cmds = [c] → c.pool = 2 → c.promise.isSome = true → c.held = false → c.checked = false → s.fetching c = false →
        (pkDesc c.desc).descOk = false →
        exec .pkeEtuSchedule s = .next
          (((({ s with cmds := [{ c with held := true, st := .running 0, checked := true, code := some 0x0303 }] } :
          State).count R.PKE_REFUSED_COUNT).report
          { source := 4, agent := 0x280, dome := c.dome, addr := 0, spire := c.core / 16 }).cause R.PKE_EVENTS_CAUSE 192
          192))
    ∧ (∀ (job ticket e code : Nat), s.cmdOf job ticket = some c → c.pool = 2 → c.st = .running e → c.code = some code →
        c.statusOk = true → code ≠ 0x0301 ∧ code ≠ 0x0305 ∧ code ≠ 0x0306 → c.unit = false →
        exec (.pkeCommandEnd job ticket false) s = .next (((((s.dropCmd c).cmdWrites c e c.writes).wr (c.xfer e) (c.phys
          c.statusA) (toLE 2 code ++ zeros 2 ++ toLE 4 c.outLen)).next R.PKE_CMDS_COUNT).completeTicket c.job c.ticket (code
          != 0)))
    ∧ (∀ (job ticket e code : Nat), s.cmdOf job ticket = some c → c.pool = 2 → c.st = .running e → c.code = some code →
        c.proven = true → c.statusOk = true → (pkDesc c.desc).op ∈ [0x10, 0x11, 0x13, 0x20, 0x22, 0x30] → c.unit = false →
        exec (.pkeCommandEnd job ticket true) s = .next (((((((s.dropCmd c).wr (c.xfer e) (c.phys c.statusA) [0x02, 3, 0, 0,
          0, 0, 0, 0]).next R.PKE_CMDS_COUNT).completeTicket c.job c.ticket true).tamper 14 (0x280 + e + (pkDesc c.desc).op
          * 65536)).count R.PKE_WITHHELD_COUNT).cause R.PKE_EVENTS_CAUSE 192 193))
    ∧ (∀ (job ticket e : Nat), s.cmdOf job ticket = some c → c.pool = 2 → c.st = .running e → c.code = some 0x0305 →
        c.statusOk = true → c.unit = false →
        exec (.pkeCommandEnd job ticket false) s = .next ((((((s.dropCmd c).cmdWrites c e c.writes).wr (c.xfer e) (c.phys
          c.statusA) ([0x05, 3, 0, 0] ++ toLE 4 c.outLen)).next R.PKE_CMDS_COUNT).completeTicket c.job c.ticket true).next
          R.PKE_BADSIG_COUNT))

/-- A window of a pair that is ON and passes both tests gives its SHA-256 to the store (R415, R418); a run of 41 equal
bits fails the repetition test and 795 equal values the proportion test, each counted, with vector 145, and the eighth in
a row turns the pair OFF with vector 146; four good windows turn a pair that starts up ON (R416). The test modes act in
FACTORY only (R427). What it takes from the model's own readings or choices is in log entry 28. -/
def Obligations.EntropyHealth : Prop :=
  ∀ (s : State) (p : Nat) (bits : List Byte),
    s.spiresRun = true → p < 8 →
    ((s.scan p bits).best < 41 ∧ (s.scan p bits).ones < 795 ∧ 229 < (s.scan p bits).ones → s.get (R.ENT_PAIR_STAT_STATE p) =
        1 → s.get R.ENT_TEST_MODE = 0 → s.ent.store.length < 16 →
        ∃ t, exec (.entWindowEnd p bits) s = .next t ∧ t.ent.store = s.ent.store ++ [sha256 bits] ∧ t.get
          (R.ENT_PAIR_STAT_RUN p) = 0 ∧ (t.pair p).good = (s.pair p).good + 1 ∧ ({ t with ent := s.ent, regs := s.regs } :
          State) = s ∧ (∀ f : Fld, f.key ∉ [(R.ENT_PAIR_STAT_RUN p).key] → t.get f = s.get f))
    ∧ ((s.scan p bits).best < 41 ∧ (s.scan p bits).ones < 795 ∧ 229 < (s.scan p bits).ones → s.get (R.ENT_PAIR_STAT_STATE p)
        = 0 → s.get R.ENT_TEST_MODE = 0 → 3 ≤ (s.pair p).good →
        ∃ t, exec (.entWindowEnd p bits) s = .next t ∧ t.get (R.ENT_PAIR_STAT_STATE p) = 1 ∧ t.get (R.ENT_PAIR_STAT_RUN p) =
          0 ∧ t.ent.store = s.ent.store ∧ ({ t with ent := s.ent, regs := s.regs } : State) = s ∧ (∀ f : Fld, f.key ∉
          [(R.ENT_PAIR_STAT_RUN p).key, (R.ENT_PAIR_STAT_STATE p).key] → t.get f = s.get f))
    ∧ (41 ≤ (s.scan p bits).best → (s.scan p bits).ones < 795 ∧ 229 < (s.scan p bits).ones → s.get R.ENT_TEST_MODE = 0 →
        s.get (R.ENT_PAIR_STAT_RUN p) < 7 →
        ∃ t, exec (.entWindowEnd p bits) s = .next t ∧ t.get (R.ENT_RCT_FAIL_COUNT p) = satInc 32 (s.get
          (R.ENT_RCT_FAIL_COUNT p)) ∧ t.get (R.ENT_PAIR_STAT_RUN p) = s.get (R.ENT_PAIR_STAT_RUN p) + 1 ∧ t.ent.store =
          s.ent.store ∧ (t.pair p).good = 0 ∧ 145 ∈ t.irq ∧ ({ t with ent := s.ent, irq := s.irq, regs := s.regs } : State)
          = s ∧ (∀ f : Fld, f.key ∉ [(R.ENT_PAIR_STAT_RUN p).key, (R.ENT_RCT_FAIL_COUNT p).key, R.ENT_EVENTS_CAUSE.key] →
          t.get f = s.get f))
    ∧ ((s.scan p bits).best < 41 → 795 ≤ (s.scan p bits).ones → s.get R.ENT_TEST_MODE = 0 → s.get (R.ENT_PAIR_STAT_RUN p) =
        7 → s.get (R.ENT_PAIR_STAT_STATE p) ≠ 2 →
        ∃ t, exec (.entWindowEnd p bits) s = .next t ∧ t.get (R.ENT_APT_FAIL_COUNT p) = satInc 32 (s.get
          (R.ENT_APT_FAIL_COUNT p)) ∧ t.get (R.ENT_PAIR_STAT_RUN p) = 8 ∧ t.get (R.ENT_PAIR_STAT_STATE p) = 2 ∧ 145 ∈ t.irq
          ∧ 146 ∈ t.irq ∧ ({ t with ent := s.ent, irq := s.irq, regs := s.regs } : State) = s ∧ (∀ f : Fld, f.key ∉
          [(R.ENT_PAIR_STAT_RUN p).key, (R.ENT_PAIR_STAT_STATE p).key, (R.ENT_APT_FAIL_COUNT p).key, R.ENT_EVENTS_CAUSE.key]
          → t.get f = s.get f))
    ∧ (∀ (ones same : Nat), (s.pair p).ended = some (ones, same) → ones < 2 ^ 17 ∧ same < 2 ^ 17 →
        ∃ t, exec (.entEstimateBlock p) s = .next t ∧ t.get (R.ENT_BIAS_ONES p) = ones ∧ t.get (R.ENT_CORR_SAME p) = same ∧
          ({ t with ent := s.ent, regs := s.regs } : State) = s ∧ (∀ f : Fld, f.key ∉ [(R.ENT_BIAS_ONES p).key,
          (R.ENT_CORR_SAME p).key] → t.get f = s.get f))
    ∧ (s.get R.RST_LC_STATE = 0 → s.keepHalted = false →
        ∃ t, exec (.entTestRaw p) s = .next t ∧ t.get R.ENT_TEST_MODE = 1 ∧ t.get R.ENT_TEST_PAIR = p ∧ t.get
          R.ENT_STATUS_TEST = 1 ∧ ({ t with regs := s.regs } : State) = s ∧ (∀ f : Fld, f.key ∉ [R.ENT_TEST_MODE.key,
          R.ENT_TEST_PAIR.key, R.ENT_STATUS_TEST.key] → t.get f = s.get f))
    ∧ (s.get R.RST_LC_STATE = 0 → s.keepHalted = false →
        ∃ t, exec (.entTestPattern p) s = .next t ∧ t.get R.ENT_TEST_MODE = 2 ∧ t.get R.ENT_STATUS_TEST = 1 ∧ t.ent.store =
          (List.range s.ent.store.length).map (fun i => sha256 (toLE 4 i)) ∧ ({ t with ent := s.ent, regs := s.regs } :
          State) = s ∧ (∀ f : Fld, f.key ∉ [R.ENT_TEST_MODE.key, R.ENT_TEST_PAIR.key, R.ENT_STATUS_TEST.key] → t.get f =
          s.get f))
    ∧ (s.get R.RST_LC_STATE = 0 → s.keepHalted = false →
        ∃ t, exec (.entTestOff p) s = .next t ∧ t.get R.ENT_TEST_MODE = 0 ∧ t.get R.ENT_STATUS_TEST = 0 ∧ t.get
          R.ENT_STATUS_SEEDED = 0 ∧ ({ t with regs := s.regs } : State) = s ∧ (∀ f : Fld, f.key ∉ [R.ENT_TEST_MODE.key,
          R.ENT_TEST_PAIR.key, R.ENT_STATUS_TEST.key, R.ENT_STATUS_SEEDED.key] → t.get f = s.get f))
    ∧ (s.get R.RST_LC_STATE ≠ 0 →
        exec (.entTestRaw p) s = .next (s))
    ∧ (s.get R.RST_LC_STATE ≠ 0 →
        exec (.entTestPattern p) s = .next (s))
    ∧ (s.get R.RST_LC_STATE ≠ 0 →
        exec (.entTestOff p) s = .next (s))

/-- A due reseed takes two conditioned blocks, and ends a starvation with vector 148 (R419, R424); a waiting request is
served in R423's order, and without two blocks for a due reseed the DRBG is starved, vector 147; with a known-answer test
failed nothing is instantiated (R420). A keep request is refused with UNITS out of range (CODE 2) or before SEEDED (CODE
1), and ends with CODE 0 after its last line, vector 144 (R425). What it takes from the model's own readings or choices is
in log entry 28. -/
def Obligations.RandomService : Prop :=
  ∀ (s : State) (u : Nat),
    s.spiresRun = true →
    (s.get R.ENT_STATUS_SEEDED = 1 → s.ent.last + 100000000 ≤ s.tbase →
        exec .reseedDueTimer s = .next (s.setEnt { s.ent with due := true }))
    ∧ (s.keepHalted = false →
        exec .entReseed s = .next (s.setEnt { s.ent with due := true }))
    ∧ (∀ (a b : List Byte) (rest : List (List Byte)), s.get R.ENT_STATUS_SEEDED = 1 → s.ent.due = true → s.ent.store = a ::
        b :: rest → s.get R.ENT_STATUS_STARVED < 2 →
        ∃ t, exec .drbgReseed s = .next t ∧ t.ent.drbg = s.ent.drbg.reseed ((a ++ b).take 48) ∧ t.ent.store = rest ∧
          t.ent.due = false ∧ t.ent.gens = 0 ∧ t.get R.ENT_STATUS_STARVED = 0 ∧ (s.get R.ENT_STATUS_STARVED = 1 → 148 ∈
          t.irq) ∧ ({ t with ent := s.ent, irq := s.irq, regs := s.regs } : State) = s ∧ (∀ f : Fld, f.key ∉
          [R.ENT_RESEEDS_COUNT.key, R.ENT_STATUS_STARVED.key, R.ENT_EVENTS_CAUSE.key] → t.get f = s.get f))
    ∧ (∀ (a b : List Byte) (rest : List (List Byte)), s.get R.ENT_STATUS_SEEDED = 0 → s.get R.ENT_STATUS_STARVED = 0 →
        s.entHealthy = true → 5 ≤ s.get R.RST_BOOT_PHASE ∧ s.get R.RST_BOOT_PHASE ≤ 12 → s.katPass = true → s.ent.store = a
        :: b :: rest →
        ∃ t, exec .drbgReseed s = .next t ∧ t.ent.drbg = drbgNew ((a ++ b).take 48) s.entPers ∧ t.ent.store = rest ∧ t.get
          R.ENT_STATUS_SEEDED = 1 ∧ ({ t with ent := s.ent, regs := s.regs } : State) = s ∧ (∀ f : Fld, f.key ∉
          [R.ENT_RESEEDS_COUNT.key, R.ENT_STATUS_SEEDED.key] → t.get f = s.get f))
    ∧ (s.get R.ENT_STATUS_SEEDED = 0 → s.katPass = false →
        exec .drbgReseed s = .next (s))
    ∧ (s.get R.ENT_STATUS_SEEDED = 1 → s.get R.ENT_STATUS_TEST = 0 → s.get R.ENT_TEST_MODE = 0 → s.entWaits = true →
        s.ent.due = true → s.ent.store.length < 2 → s.get R.ENT_STATUS_STARVED = 0 → s.ent.ses = [] → s.ent.cards = [] →
        exec .drbgServe s = .next ((s.set R.ENT_STATUS_STARVED 1).cause R.ENT_EVENTS_CAUSE 144 147))
    ∧ (∀ (rs : List EntReq), s.get R.ENT_STATUS_SEEDED = 1 → s.get R.ENT_STATUS_TEST = 0 → s.ent.due = false → s.ent.reqs =
        .digKey :: rs → s.ent.ses = [] → s.ent.cards = [] →
        ∃ t, exec .drbgServe s = .next t ∧ t.pools.digKey = (s.ent.drbg.generate 32).1 ∧ t.ent.drbg = (s.ent.drbg.generate
          32).2 ∧ t.ent.reqs = rs ∧ ({ t with ent := s.ent, pools := s.pools, regs := s.regs } : State) = s ∧ (∀ f : Fld,
          f.key ∉ [R.ENT_BYTES_COUNT.key] → t.get f = s.get f))
    ∧ (s.get R.ENT_STATUS_SEEDED = 1 → s.get R.ENT_STATUS_TEST = 0 → s.ent.due = false → s.ent.reqs = [] →
        s.pools.pkeRes.length + 512 ≤ 4096 → s.ent.ses = [] → s.ent.cards = [] →
        ∃ t, exec .drbgServe s = .next t ∧ t.pools.pkeRes = s.pools.pkeRes ++ (s.ent.drbg.generate 512).1 ∧ t.ent.drbg =
          (s.ent.drbg.generate 512).2 ∧ ({ t with ent := s.ent, pools := s.pools, regs := s.regs } : State) = s ∧ (∀ f :
          Fld, f.key ∉ [R.ENT_BYTES_COUNT.key] → t.get f = s.get f))
    ∧ (s.get R.ENT_STATUS_REQ_BUSY = 0 → u % 2 ^ 11 = 0 ∨ 1024 < u % 2 ^ 11 → s.keepHalted = false →
        ∃ t, exec (.entReq u) s = .next t ∧ t.get R.ENT_REQ_STATUS_CODE = 2 ∧ 144 ∈ t.irq ∧
          ({ t with ent := s.ent, irq := s.irq, regs := s.regs } : State) = s ∧ (∀ f : Fld, f.key ∉
          [R.ENT_STATUS_REQ_BUSY.key, R.ENT_REQ_STATUS_CODE.key, R.ENT_EVENTS_CAUSE.key] → t.get f = s.get f))
    ∧ (s.get R.ENT_STATUS_REQ_BUSY = 0 → 0 < u ∧ u ≤ 1024 → s.get R.ENT_STATUS_SEEDED = 0 → s.keepHalted = false →
        ∃ t, exec (.entReq u) s = .next t ∧ t.get R.ENT_REQ_STATUS_CODE = 1 ∧ 144 ∈ t.irq ∧
          ({ t with ent := s.ent, irq := s.irq, regs := s.regs } : State) = s ∧ (∀ f : Fld, f.key ∉
          [R.ENT_STATUS_REQ_BUSY.key, R.ENT_REQ_STATUS_CODE.key, R.ENT_EVENTS_CAUSE.key] → t.get f = s.get f))
    ∧ (s.get R.ENT_STATUS_REQ_BUSY = 0 → 0 < u ∧ u ≤ 1024 → s.get R.ENT_STATUS_SEEDED = 1 → s.keepHalted = false →
        exec (.entReq u) s = .next ((s.setEnt
          { s.ent with keep := some (s.get R.ENT_REQ_ADDR_ADDR * 64, u), reqs := s.ent.reqs ++ [.keep], raw := [] }).set
          R.ENT_STATUS_REQ_BUSY 1))
    ∧ (∀ (a : Nat), s.ent.keep = some (a, 0) →
        ∃ t, exec .entReqDone s = .next t ∧ t.get R.ENT_REQ_STATUS_CODE = 0 ∧ t.get R.ENT_STATUS_REQ_BUSY = 0 ∧ t.ent.keep =
          none ∧ 144 ∈ t.irq ∧ ({ t with ent := s.ent, irq := s.irq, regs := s.regs } : State) = s ∧ (∀ f : Fld, f.key ∉
          [R.ENT_STATUS_REQ_BUSY.key, R.ENT_REQ_STATUS_CODE.key, R.ENT_EVENTS_CAUSE.key] → t.get f = s.get f))
    ∧ (s.get R.RST_BOOT_PHASE = 5 → s.get R.ENT_STATUS_SEEDED = 0 → s.pastBase (s.pwr.seedAt + 50000000) = true →
        exec .entSeedTimeout s = .next (s.bootFail 5))

/-- An event sets the source's sticky flag and counts; the first since its clearing leaves its tick (R435); while handling
is live it waits for its firing (R439), otherwise its mask is added to TMP_PENDING and the first event of each source is
kept (R441). The monitors of R430 to R433 fire their sources with the model's DETAIL. What it takes from the model's own
readings or choices is in log entry 29. -/
def Obligations.TamperEvents : Prop :=
  ∀ (s : State) (n : Nat),
    s.pwr.bedrock = true → n ≤ 3 →
    (∀ (pin : CasePin), s.tmp.live = true → pin ≠ .rest → (s.get R.TMP_FLAGS_FLAG).testBit (3 + n) = false →
        ∃ t, exec (.casePulse n pin) s = .next t ∧ t.get R.TMP_FLAGS_FLAG = (s.get R.TMP_FLAGS_FLAG ||| 2 ^ (3 + n)) % 2 ^
          17 ∧ t.get (R.TMP_COUNT_COUNT (3 + n)) = satInc 16 (s.get (R.TMP_COUNT_COUNT (3 + n))) ∧ t.get
          (R.TMP_FIRST_TS_TICKS (3 + n)) = s.get R.TIME_TSTAMP_TICKS % 2 ^ 48 ∧ t.tmp.pins.testBit (3 + n) = decide (pin =
          .high) ∧ t.tmp = { s.tmp with
              pins := t.tmp.pins,
              queue := s.tmp.queue ++ [{ src := 3 + n, ts := s.get R.TIME_TSTAMP_TICKS, dt := s.nowNs, dev := s.devNow }] }
          ∧ ({ t with tmp := s.tmp, regs := s.regs } : State) = s ∧ (∀ f : Fld, f.key ∉ [R.TMP_FLAGS_FLAG.key,
          (R.TMP_COUNT_COUNT (3 + n)).key, (R.TMP_FIRST_TS_TICKS (3 + n)).key] → t.get f = s.get f))
    ∧ (∀ (pin : CasePin), s.tmp.live = false → pin ≠ .rest → (s.get R.TMP_FLAGS_FLAG).testBit (3 + n) = true → tabFind
        s.tmp.deferred (3 + n) = none →
        ∃ t, exec (.casePulse n pin) s = .next t ∧ t.get R.TMP_FLAGS_FLAG = s.get R.TMP_FLAGS_FLAG % 2 ^ 17 ∧ t.get
          (R.TMP_COUNT_COUNT (3 + n)) = satInc 16 (s.get (R.TMP_COUNT_COUNT (3 + n))) ∧ t.get R.TMP_PENDING_RESP = (s.get
          R.TMP_PENDING_RESP ||| s.get (R.TMP_MASK_MASK (3 + n))) % 2 ^ 7 ∧ t.tmp.queue = s.tmp.queue ∧
          ({ t with tmp := s.tmp, regs := s.regs } : State) = s ∧ (∀ f : Fld, f.key ∉ [R.TMP_FLAGS_FLAG.key,
          (R.TMP_COUNT_COUNT (3 + n)).key, R.TMP_PENDING_RESP.key] → t.get f = s.get f))
    ∧ (exec (.casePulse n .rest) s = .next (s.pinLevel (3 + n) false))
    ∧ (∀ (lv : Nat), lv < 64 → s.tmp.compared = false → s.meshDiff lv = 0 →
        exec (.meshCompare lv) s = .next ((((s.setTmp { s.tmp with mesh := 0, compared := true }).pinLevel 0 false).pinLevel
          1 false).pinLevel 2 false))
    ∧ (∀ (lv m : Nat), lv < 64 → s.tmp.compared = false → s.meshDiff lv = m → m % 16 ≠ 0 → m.testBit 4 = false ∧ m.testBit 5
        = false →
        exec (.meshCompare lv) s = .next (((((s.setTmp { s.tmp with mesh := m, compared := true }).pinLevel 0 true).pinLevel
          1 false).pinLevel 2 false).tamper 0 (m % 16)))
    ∧ (∀ (lv : Nat), s.tmp.compared = true →
        exec (.meshCompare lv) s = .next (s))
    ∧ (∀ (diode : Nat), s.pwr.main = .on →
        exec (.lightDetect diode) s = .next (s.tamper 7 (diode % 256)))
    ∧ (∀ (rail : Nat) (high : Bool), s.pwr.main = .on → s.pwr.armed = true → rail < 7 →
        exec (.vglitchDetect rail high) s = .next ((s.tamper 8 (rail + if high then 256 else 0)).stopCause false))
    ∧ (∀ (rail : Nat) (high : Bool), s.pwr.armed = false →
        exec (.vglitchDetect rail high) s = .next (s))
    ∧ (∀ (rail : Nat) (high : Bool), s.pwr.main = .on → s.pwr.armed = true → rail < 7 →
        exec (.vrangeDetect rail high) s = .next ((s.tamper 9 (rail + if high then 256 else 0)).stopCause false))
    ∧ (∀ (rail : Nat) (high : Bool), s.pwr.armed = false →
        exec (.vrangeDetect rail high) s = .next (s))
    ∧ (s.pwr.main = .on →
        exec .refclkFail s = .next (s.tamper 10 1))
    ∧ (∀ (which : Nat), s.pwr.main = .on → 2 ≤ which ∧ which ≤ 5 → s.get R.PWR_STATE_DEV ≠ 3 ∨ which = 5 →
        exec (.pllUnlock which) s = .next (s.tamper 10 which))
    ∧ (∀ (tj : Nat), s.pwr.main = .on → s.pwr.tempWarn = none → tj < 4096 → tempOut tj = false →
        ∃ t, exec (.tempReading tj) s = .next t ∧ t.get R.MGT_TEMP_TJ = tj ∧ t.tmp = { s.tmp with tempBad := false } ∧
          ({ t with tmp := s.tmp, regs := s.regs } : State) = s ∧ (∀ f : Fld, f.key ∉ [R.MGT_TEMP_TJ.key] → t.get f = s.get
          f))
    ∧ (∀ (tj : Nat), s.pwr.main = .on → s.pwr.tempWarn = none → tj < 4096 → tempOut tj = true → s.tmp.tempBad = true →
        exec (.tempReading tj) s = .next ((s.set R.MGT_TEMP_TJ tj).tamper 11 tj))

/-- A firing raises vector 128 and executes each response of its mask (R437, R438): ALERT, one FCU fault of source TAMPER,
a LOG record at the next position with TMP_EVSEQ, KEYSTORE clearing the table key, the directory, the key cache and the
bedrock share, KEYCACHE the key cache, the digest key, the contexts of the PKE pool and the restores under way, SESSIONS
every session with a new context key; each of these three breaks the jobs in flight; and HOLD, which closes the JSC, sets
HALT and isolates the device at its end. What it takes from the model's own readings or choices is in log entry 29. -/
def Obligations.TamperResponses : Prop :=
  ∀ (s : State) (d : TEvt),
    s.mainOn = true → s.tmp.live = true → s.tmp.queue = [d] → s.tmp.run = none → s.asleep = false → s.deepEntry = false →
        d.src ≤ 15 →
    (s.get (R.TMP_MASK_MASK d.src) = 2 →
        ∃ t, exec (.tamperFiring ⟨1, 9⟩) s = .next t ∧ t.get R.MGT_ALERT_TAMPER = 1 ∧ 128 ∈ t.irq ∧ t.tmp =
          { s.tmp with queue := [] } ∧ ({ t with irq := s.irq, tmp := s.tmp, regs := s.regs } : State) = s ∧ (∀ f : Fld,
          f.key ∉ [R.MGT_ALERT_TAMPER.key, R.TMP_EVENTS_CAUSE.key] → t.get f = s.get f))
    ∧ (∀ (k : Nat), s.get (R.TMP_MASK_MASK d.src) = 2 → k < 7 →
        ∃ t, exec (.tamperFiring ⟨1, k⟩) s = .next t ∧ t.get R.MGT_ALERT_TAMPER = s.get R.MGT_ALERT_TAMPER ∧ t.tmp =
          { s.tmp with queue := [], run := some { es := [d], union := 2, step := max 1 (k + 1) } } ∧ 128 ∈ t.irq ∧
          ({ t with irq := s.irq, tmp := s.tmp, regs := s.regs } : State) = s ∧ (∀ f : Fld, f.key ∉ [R.TMP_EVENTS_CAUSE.key]
          → t.get f = s.get f))
    ∧ (s.get (R.TMP_MASK_MASK d.src) = 4 →
        ∃ t, exec (.tamperFiring ⟨1, 9⟩) s = .next t ∧ t.faultQ = s.faultQ ++
          [{ source := 6, agent := 0, dome := 0, addr := d.src, at_ := s.now }] ∧ 128 ∈ t.irq ∧ t.tmp =
          { s.tmp with queue := [] } ∧ ({ t with irq := s.irq, tmp := s.tmp, faultQ := s.faultQ, regs := s.regs } : State) =
          s ∧ (∀ f : Fld, f.key ∉ [R.TMP_EVENTS_CAUSE.key] → t.get f = s.get f))
    ∧ (s.get (R.TMP_MASK_MASK d.src) = 1 → tabFind s.tmp.lastRec d.src = none → s.tmp.logged < 15 →
        ∃ t, exec (.tamperFiring ⟨1, 9⟩) s = .next t ∧ t.tmp.queue = [] ∧ t.tmp.logged = s.tmp.logged + 1 ∧ t.get
          R.TMP_EVSEQ_SEQ = satInc 32 (s.get R.TMP_EVSEQ_SEQ) ∧ t.get (R.TMP_EVLOG_WORD s.tmp.logged 0) = s.get
          R.TMP_EVSEQ_SEQ % 2 ^ 32 ∧ t.get (R.TMP_EVLOG_WORD s.tmp.logged 1) = 1 + d.src * 256 + 0x10000 + (d.dev % 8 +
          s.get R.RST_LC_STATE * 16) % 256 * 0x1000000 ∧ 128 ∈ t.irq ∧ 129 ∈ t.irq ∧
          ({ t with irq := s.irq, tmp := s.tmp, regs := s.regs } : State) = s ∧ (∀ f : Fld, f.key ∉ [R.TMP_EVSEQ_SEQ.key,
          R.TMP_EVENTS_CAUSE.key, (R.TMP_EVLOG_WORD s.tmp.logged 0).key, (R.TMP_EVLOG_WORD s.tmp.logged 1).key,
          (R.TMP_EVLOG_WORD s.tmp.logged 2).key, (R.TMP_EVLOG_WORD s.tmp.logged 3).key, (R.TMP_EVLOG_WORD s.tmp.logged
          4).key, (R.TMP_EVLOG_WORD s.tmp.logged 5).key, (R.TMP_EVLOG_WORD s.tmp.logged 6).key, (R.TMP_EVLOG_WORD
          s.tmp.logged 7).key] → t.get f = s.get f))
    ∧ (s.get (R.TMP_MASK_MASK d.src) = 0x20 →
        ∃ t, exec (.tamperFiring ⟨1, 9⟩) s = .next t ∧ t.key.tkey = [] ∧ t.key.dir = [] ∧ t.key.slots = [] ∧ t.pwr.share =
          [] ∧ t.pools.digKey = [] ∧ t.get R.RST_ROOT_SRK_VALID = 0 ∧ 128 ∈ t.irq)
    ∧ (s.get (R.TMP_MASK_MASK d.src) = 0x10 →
        ∃ t, exec (.tamperFiring ⟨1, 9⟩) s = .next t ∧ t.key.slots = [] ∧ t.pools.digKey = [] ∧ t.mmu.lanes = [] ∧
          t.cmds.all (fun (c : Cmd) => c.pool != 2) = true ∧ t.cer = {} ∧ t.get R.JSC_STATUS_OPEN = b2n (s.jscReady) ∧ 128 ∈
          t.irq)
    ∧ (s.get (R.TMP_MASK_MASK d.src) = 8 →
        ∃ t, exec (.tamperFiring ⟨1, 9⟩) s = .next t ∧ (∀ i, (t.ctx i).st = 0) ∧ t.ses.inbox = [] ∧ t.ses.missQ = [] ∧ t.key
          = s.key ∧ t.get R.JSC_STATUS_OPEN = b2n (s.jscReady) ∧ 128 ∈ t.irq)
    ∧ (∀ (m : Nat) (j : Job), s.get (R.TMP_MASK_MASK d.src) = m → m = 8 ∨ m = 0x10 ∨ m = 0x20 ∨ m = 0x40 → s.jsc.jobs.filter
        (fun k => k.id == j.id) = [j] →
        ∃ t, exec (.tamperFiring ⟨1, 1⟩) s = .next t ∧ (t.jsc.jobs.filter (fun k => k.id == j.id)).all (fun k => !k.live) =
          true ∧ t.get R.JSC_STATUS_OPEN = 0)
    ∧ (s.get (R.TMP_MASK_MASK d.src) = 0x40 →
        ∃ t, exec (.tamperFiring ⟨1, 9⟩) s = .next t ∧ t.pwr.main = .isolated ∧ t.get R.TMP_PENDING_HALT = 1 ∧ t.get
          R.JSC_STATUS_OPEN = 0 ∧ t.get R.PWR_STATE_DEV = 4 ∧ t.tmp.live = false)

/-- A write of TMP_UNLOCK arms one clear if its KEY is 0x6B1D and its SEQ is that of TMP_EVSEQ, else nothing is armed and
vector 130 is raised; a clear spends it; clearing flags clears their counts and ticks and writes a CLEAR record; clearing
the log empties all 64 positions, and the CLEAR record becomes its first (R449). What it takes from the model's own
readings or choices is in log entry 29. -/
def Obligations.EvidenceClearing : Prop :=
  ∀ s : State,
    s.spiresRun = true →
    (∀ (key seq : Nat), key % 65536 = 0x6B1D → seq % 65536 = s.get R.TMP_EVSEQ_SEQ % 65536 → s.keepHalted = false →
        exec (.tmpUnlock key seq) s = .next (s.setTmp { s.tmp with unlocked := true }))
    ∧ (∀ (key seq : Nat), key % 65536 ≠ 0x6B1D ∨ seq % 65536 ≠ s.get R.TMP_EVSEQ_SEQ % 65536 → s.keepHalted = false →
        exec (.tmpUnlock key seq) s = .next ((s.setTmp { s.tmp with unlocked := false }).cause R.TMP_EVENTS_CAUSE 128 130))
    ∧ (∀ (v : Nat), s.tmp.unlocked = false → s.keepHalted = false →
        exec (.tmpFlagsClear v) s = .next (s.cause R.TMP_EVENTS_CAUSE 128 130))
    ∧ (∀ (n : Nat), n ≤ 16 → s.tmp.unlocked = true → s.tmp.logged < 15 → s.keepHalted = false →
        ∃ t, exec (.tmpFlagsClear (2 ^ n)) s = .next t ∧ (t.get R.TMP_FLAGS_FLAG).testBit n = false ∧ t.get
          (R.TMP_COUNT_COUNT n) = 0 ∧ t.get (R.TMP_FIRST_TS_TICKS n) = 0 ∧ t.tmp.unlocked = false ∧ t.tmp.logged =
          s.tmp.logged + 1 ∧ t.get R.TMP_EVSEQ_SEQ = satInc 32 (s.get R.TMP_EVSEQ_SEQ) ∧
          ({ t with irq := s.irq, tmp := s.tmp, regs := s.regs } : State) = s ∧ (∀ f : Fld, f.key ∉ [R.TMP_FLAGS_FLAG.key,
          (R.TMP_COUNT_COUNT n).key, (R.TMP_FIRST_TS_TICKS n).key, R.TMP_EVSEQ_SEQ.key, R.TMP_EVENTS_CAUSE.key,
          (R.TMP_EVLOG_WORD s.tmp.logged 0).key, (R.TMP_EVLOG_WORD s.tmp.logged 1).key, (R.TMP_EVLOG_WORD s.tmp.logged
          2).key, (R.TMP_EVLOG_WORD s.tmp.logged 3).key, (R.TMP_EVLOG_WORD s.tmp.logged 4).key, (R.TMP_EVLOG_WORD
          s.tmp.logged 5).key, (R.TMP_EVLOG_WORD s.tmp.logged 6).key, (R.TMP_EVLOG_WORD s.tmp.logged 7).key] → t.get f =
          s.get f))
    ∧ (s.tmp.unlocked = false → s.keepHalted = false →
        exec .evidenceClear s = .next (s.cause R.TMP_EVENTS_CAUSE 128 130))
    ∧ (s.tmp.unlocked = true → s.keepHalted = false →
        ∃ t, exec .evidenceClear s = .next t ∧ t.tmp = { s.tmp with unlocked := false, logged := 1, lastRec := [] } ∧ t.get
          (R.TMP_EVLOG_WORD 0 0) = s.get R.TMP_EVSEQ_SEQ % 2 ^ 32 ∧ t.get (R.TMP_EVLOG_WORD 0 1) % 65536 = 0xFF04 ∧ t.get
          (R.TMP_EVLOG_WORD 1 0) = 0 ∧ t.get (R.TMP_EVLOG_WORD 63 7) = 0 ∧ t.get R.TMP_EVSEQ_SEQ = satInc 32 (s.get
          R.TMP_EVSEQ_SEQ) ∧ ({ t with irq := s.irq, tmp := s.tmp, regs := s.regs } : State) = s)

/-- A link's loss and training change NET_LINK.UP with vectors 256 and 257 (R455); a frame is counted, and passed on as
R456's filter finds it, on a link that is up; ARP, neighbour and echo requests are answered (R457), echo at most 1,000
times a second; an unresolved next hop raises vector 258, and a neighbour entry expires (R457, R490); the egress scheduler
sends the frame chosen by R475, a session's to the peer and under the SEQ that stand as its first datagram leaves (R458).
What it takes from the model's own readings or choices is in log entry 30. -/
def Obligations.NetworkLinks : Prop :=
  ∀ (s : State) (k : Nat),
    s.spiresRun = true → k < 16 →
    let seen : State := { s with pwr := { s.pwr with busyAt := s.tbase } }
    let fec : State := seen.set (R.NET_FEC_CORR_COUNT k) (s.get (R.NET_FEC_CORR_COUNT k))
    let got : State := fec.next (R.NET_RX_FRAMES_COUNT k)
    let cut (m : TxMsg) : TxMsg := ({ m with frag := if m.done = 0 then s.fragLen m.peer.ip else m.frag } : TxMsg).stamped
        s.nowNs
    let now (i : Nat) (m : TxMsg) (x : SesEp) : TxMsg :=
        ({ m with peer := (s.ctx i).peer, frag := s.fragLen (s.ctx i).peer.ip, seq := x.tx } : TxMsg).stamped s.nowNs
    let gone (i : Nat) (m : TxMsg) (x : SesEp) (en : List Byte) : State := ((s.setCtx i ((s.ctx i).setEp
        { x with tx := x.tx + dgCount (now i m x).frag m.body.length })).setNet { s.net with
            tx := if 1 < dgCount (now i m x).frag m.body.length then s.net.tx.map (fun y => if y = m then { now i m x with done := 1 } else y) else s.net.tx.erase m,
            sent := tabIns s.net.sent k (s.now, udpFrame en (now i m x).peer (s.get R.NET_UDP_PORT) ((now i m x).datagram (now i m x).frag 0)) }).next
        (R.NET_TX_FRAMES_COUNT k)
    ((s.get R.NET_LINK_UP).testBit k = true → s.get R.NET_LINK_UP < 2 ^ 16 →
        ∃ t, exec (.linkDown k) s = .next t ∧ t.get R.NET_LINK_UP = s.get R.NET_LINK_UP - 2 ^ k ∧ t.get (R.NET_DOWNS_COUNT
          k) = satInc 32 (s.get (R.NET_DOWNS_COUNT k)) ∧ 256 ∈ t.irq ∧ ({ t with irq := s.irq, regs := s.regs } : State) = s
          ∧ (∀ f : Fld, f.key ∉ [R.NET_LINK_UP.key, (R.NET_DOWNS_COUNT k).key, R.NET_EVENTS_CAUSE.key] → t.get f = s.get f))
    ∧ (s.linkExists k = true → (s.get R.NET_LINK_UP).testBit k = false → s.get R.NET_LINK_UP < 2 ^ 16 → s.linksDark = false
        →
        ∃ t, exec (.linkUp k) s = .next t ∧ t.get R.NET_LINK_UP = s.get R.NET_LINK_UP + 2 ^ k ∧ 257 ∈ t.irq ∧
          ({ t with irq := s.irq, regs := s.regs } : State) = s ∧ (∀ f : Fld, f.key ∉ [R.NET_LINK_UP.key,
          R.NET_EVENTS_CAUSE.key] → t.get f = s.get f))
    ∧ (∀ (corr : Nat) (bad : Bool) (fr : List Byte), (s.get R.NET_LINK_UP).testBit k = false →
        exec (.frameReceive k corr bad fr) s = .next (s))
    ∧ (∀ (corr : Nat) (fr : List Byte), (s.get R.NET_LINK_UP).testBit k = true →
        ∃ t, exec (.frameReceive k corr true fr) s = .next t ∧ t.get (R.NET_FEC_UNCORR_COUNT k) = satInc 32 (s.get
          (R.NET_FEC_UNCORR_COUNT k)) ∧ t.get (R.NET_FEC_CORR_COUNT k) = (s.get (R.NET_FEC_CORR_COUNT k) + corr) % 2 ^ 64 ∧
          t.pwr = { s.pwr with busyAt := s.tbase } ∧ ({ t with pwr := s.pwr, regs := s.regs } : State) = s ∧ (∀ f : Fld,
          f.key ∉ [(R.NET_FEC_UNCORR_COUNT k).key, (R.NET_FEC_CORR_COUNT k).key] → t.get f = s.get f))
    ∧ (∀ (fr : List Byte), (s.get R.NET_LINK_UP).testBit k = true → 2 ^ 21 < s.rxHeld k + fr.length →
        exec (.frameReceive k 0 false fr) s = .next (fec.set (R.NET_DROP_COUNT k) (satInc 32 (s.get (R.NET_DROP_COUNT k)))))
    ∧ (∀ (fr en : List Byte), (s.get R.NET_LINK_UP).testBit k = true → s.linkEntry k = some en → s.rxHeld k + fr.length ≤ 2
        ^ 21 →
        exec (.frameReceive k 0 false fr) s = .next (match s.filterFrame k en fr with
              | .drop => fec.count (R.NET_DROP_COUNT k)
              | .udp p pay => got.rxDatagram p pay
              | .req kind => got.setNet { s.net with reqs := s.net.reqs ++ [{ link := k, kind := kind, frame := fr }] }
              | .neighbour ip mac => got.neighbour k ip mac
              | .other => got))
    ∧ (∀ (r : NetReq) (en : List Byte), s.net.reqs.find? (fun x => x.kind == 1) = some r → s.linkEntry r.link = some en →
        exec .arpRequest s = .next ((s.setNet { s.net with reqs := s.net.reqs.erase r }).sendRaw r.link (arpReply en
          r.frame)))
    ∧ (∀ (r : NetReq) (en : List Byte), s.net.reqs.find? (fun x => x.kind == 2) = some r → s.linkEntry r.link = some en →
        exec .neighbourSolicitation s = .next (match ndReply en r.frame with
              | some fr => (s.setNet { s.net with reqs := s.net.reqs.erase r }).sendRaw r.link fr
              | none => s.setNet { s.net with reqs := s.net.reqs.erase r }))
    ∧ (∀ (r : NetReq) (en : List Byte) (st : Rat) (n : Nat), s.net.reqs.find? (fun x => x.kind == 3) = some r → s.linkEntry
        r.link = some en → tabFind s.net.echo r.link = some (st, n) → n ≠ 0 → s.tnow < st + 1000000000 → n < 1000 →
        exec .echoRequest s = .next ((match echoReply en r.frame with
              | some fr => (s.setNet
                  { s.net with reqs := s.net.reqs.erase r, echo := tabIns s.net.echo r.link (st, n + 1) }).sendRaw r.link fr
              | none => s.setNet { s.net with reqs := s.net.reqs.erase r, echo := tabIns s.net.echo r.link (st, n + 1) })))
    ∧ (∀ (r : NetReq) (en : List Byte) (st : Rat) (n : Nat), s.net.reqs.find? (fun x => x.kind == 3) = some r → s.linkEntry
        r.link = some en → tabFind s.net.echo r.link = some (st, n) → s.tnow < st + 1000000000 → 1000 ≤ n →
        exec .echoRequest s = .next ((s.setNet { s.net with reqs := s.net.reqs.erase r }).count (R.NET_DROP_COUNT r.link)))
    ∧ (∀ (n : Neigh), s.net.solving.find? (fun x => s.past x.ends) = some n →
        ∃ t, exec .neighbourTimeout s = .next t ∧ t.net = { s.net with solving := s.net.solving.erase n } ∧ 258 ∈ t.irq ∧
          ({ t with net := s.net, irq := s.irq, regs := s.regs } : State) = s ∧ (∀ f : Fld, f.key ∉ [R.NET_EVENTS_CAUSE.key]
          → t.get f = s.get f))
    ∧ (∀ (n : Neigh), s.net.neigh.find? (fun x => decide (x.ends ≤ s.tnow)) = some n →
        exec .neighbourExpiry s = .next (s.setNet { s.net with neigh := s.net.neigh.erase n }))
    ∧ (∀ (m : TxMsg), s.linkSends k = true → s.txNext k = some m → m.raw ≠ [] → m.job = none →
        ∃ t, exec (.messageTx k) s = .next t ∧ tabFind t.net.sent k = some (s.now, m.raw) ∧ (m.done = 0 → t.net.tx =
          s.net.tx.erase m) ∧ t.get (R.NET_TX_FRAMES_COUNT k) = (s.get (R.NET_TX_FRAMES_COUNT k) + 1) % 2 ^ 64 ∧
          ({ t with net := s.net, regs := s.regs } : State) = s ∧ (∀ f : Fld, f.key ∉ [(R.NET_TX_FRAMES_COUNT k).key] →
          t.get f = s.get f))
    ∧ (∀ (m : TxMsg) (en : List Byte), s.linkSends k = true → s.linkEntry k = some en → s.txNext k = some m → m.raw = [] →
        m.job = none ∨ m.done ≠ 0 → m.ctx = none → s.findCtx m.sid k = none →
        ∃ t, exec (.messageTx k) s = .next t ∧ tabFind t.net.sent k = some (s.now, udpFrame en m.peer (s.get R.NET_UDP_PORT)
          ((cut m).datagram (cut m).frag m.done)) ∧ (dgCount (cut m).frag m.body.length ≤ m.done + 1 → t.net.tx =
          s.net.tx.erase m) ∧ t.get (R.NET_TX_FRAMES_COUNT k) = (s.get (R.NET_TX_FRAMES_COUNT k) + 1) % 2 ^ 64 ∧
          ({ t with net := s.net, regs := s.regs } : State) = s ∧ (∀ f : Fld, f.key ∉ [(R.NET_TX_FRAMES_COUNT k).key] →
          t.get f = s.get f))
    ∧ (∀ (m : TxMsg) (en : List Byte) (i : Nat) (x : SesEp), s.linkSends k = true → s.linkEntry k = some en → s.txNext k =
        some m → m.raw = [] ∧ m.job = none ∧ m.done = 0 → m.ctx = some i → (s.ctx i).st ≠ 0 ∧ (s.ctx i).sid = m.sid → (s.ctx
        i).ep m.epoch = some x →
        exec (.messageTx k) s = .next (match (gone i m x en).findCtx m.sid k with
              | some j => (gone i m x en).seqCheck j
              | none => gone i m x en))

/-- A partial message is discarded after 1 ms (R462); a fetched context serves its waiting datagram (R474). CLOSE closes
without a reply, PING is answered with PONG and QUERY with QUERY_REPLY (R470, R471), a session without datagrams for
IDLE_MS closes with WL_IDLE, and an APP message goes to the keep's ring with vector 276, and KEEP_TX sends the entry of
the keep's transmit ring in its session, or drops one without an open session of dome 0 (R476). What it takes from the
model's own readings or choices is in log entry 31. -/
def Obligations.SessionDatagrams : Prop :=
  ∀ (s : State) (m : RxMsg) (i : Nat),
    s.spiresRun = true →
    let pong (x : SesEp) : TxMsg := {
            peer := (s.ctx i).peer, prio := 4, sid := (s.ctx i).sid, kind := 0x0B, epoch := x.epoch, seq := x.tx,
            sec := trafficSec x.ms (s.ctx i).txDir x.epoch, ctx := some i }
    let ring : Nat := s.get R.SES_KRX_RING_ADDR * 16 + 16 * s.get R.SES_KRX_IDX_TAIL
    let kent (tail : Nat) : List Byte × State := (s.set R.SES_KTX_IDX_TAIL tail).rd s.sesX (s.get R.SES_KTX_RING_ADDR * 16 +
        16 * s.get R.SES_KTX_IDX_HEAD) 16
    let kmsg (tail h0 n : Nat) : List Byte × State := ((kent tail).2.set R.SES_KTX_IDX_HEAD ((h0 + 1) % n)).rd s.sesX (fld
        (kent tail).1 8 8) (fld (kent tail).1 4 4)
    let ptr : List Byte × State := (s.took m).rd s.sesX (ring + 8) 8
    (∀ (p : RxPart), s.ses.parts.find? (fun p => s.past (p.firstAt + 1000000)) = some p →
        ∃ t, exec .reassemblyTimeout s = .next t ∧ t.ses = { s.ses with parts := s.ses.parts.erase p } ∧ t.get
          R.SES_REASM_DROP_COUNT = satInc 32 (s.get R.SES_REASM_DROP_COUNT) ∧ ({ t with ses := s.ses, regs := s.regs } :
          State) = s ∧ (∀ f : Fld, f.key ∉ [R.SES_REASM_DROP_COUNT.key] → t.get f = s.get f))
    ∧ (∀ (p : Peer) (b : List Byte) (arr : Rat) (rest : List (Peer × List Byte × Rat)), s.ses.missQ = (p, b, arr) :: rest →
        fld b 1 1 ≠ 2 ∧ fld b 1 1 ≠ 0x11 → s.findCtx (fld b 4 4) p.link = some i → s.cacheFull = false →
        exec .contextFetch s = .next ((s.setSes { s.ses with missQ := rest }).rxCtx i p b arr))
    ∧ (s.hasMsg 0x09 m i →
        exec .close s = .next ((s.took m).sesClose i none))
    ∧ (∀ (x : SesEp), s.hasMsg 0x0A m i → (s.ctx i).ep (s.ctx i).cur.epoch = some x → s.ses.cache.contains i = true →
        ∃ t, exec .ping s = .next t ∧ t.net.tx = s.net.tx ++ [pong x] ∧ t.ctx i = s.ctx i ∧ t.ses.inbox = s.ses.inbox.erase
          m ∧ ({ t with net := s.net, ses := s.ses } : State) = s)
    ∧ (s.hasMsg 0x0B m i →
        exec .pong s = .next (s.took m))
    ∧ (s.hasMsg 0x0C m i →
        exec .query s = .next ((s.took m).sesSendCur i 0x0D 4 (s.queryReply i (fld m.body 0 4))))
    ∧ (s.hasMsg 0x10 m i → (s.ctx i).dome = 0 → s.fedMsg m = false → s.get R.SES_KRX_RING_ENTRIES = 0 ∨ (s.get
        R.SES_KRX_IDX_TAIL + 1) % s.get R.SES_KRX_RING_ENTRIES = s.get R.SES_KRX_IDX_HEAD →
        exec .app s = .next ((s.took m).count R.SES_CTX_DROP_COUNT))
    ∧ (s.hasMsg 0x10 m i → (s.ctx i).dome = 0 → s.fedMsg m = false → 1 < s.get R.SES_KRX_RING_ENTRIES → (s.get
        R.SES_KRX_IDX_TAIL + 1) % s.get R.SES_KRX_RING_ENTRIES ≠ s.get R.SES_KRX_IDX_HEAD →
        exec .app s = .next ((((ptr.2.wr s.sesX (ofLE ptr.1) m.body).wr s.sesX ring (toLE 4 m.sid ++ toLE 4
          m.body.length)).set R.SES_KRX_IDX_TAIL ((s.get R.SES_KRX_IDX_TAIL + 1) % s.get R.SES_KRX_RING_ENTRIES)).cause
          R.SES_EVENTS_CAUSE 272 276))
    ∧ ((s.ctx i).st = 2 → (s.ctx i).idleMs ≠ 0 → s.past ((s.ctx i).lastRx + ((s.ctx i).idleMs : Rat) * 1000000) = true →
        exec (.sessionIdle i) s = .next (s.sesClose i (some 0x0205)))
    ∧ ((s.ctx i).st ≠ 0 → (s.ctx i).eps ≠ [] → s.net.tx = [] → s.ses.cache.contains i = true →
        ∃ t, exec (.sessionIdle i) s = .next t ∧ ((s.ctx i).st ≠ 2 ∨ (s.ctx i).idleMs = 0 → t = s) ∧ ((s.ctx i).st = 2 ∧
          (s.ctx i).idleMs ≠ 0 ∧ s.past ((s.ctx i).lastRx + ((s.ctx i).idleMs : Rat) * 1000000) = true → t.ctx i =
          { gen := ((s.ctx i).gen + 1) % 2 ^ 14 } ∧ 273 ∈ t.irq ∧ t.net.tx.any (fun x => x.kind == 9 && x.sid == (s.ctx
          i).sid && x.body == [5, 2, 0, 0]) = true))
    ∧ (∀ (tail : Nat), s.get R.SES_KTX_RING_ENTRIES = 0 → s.keepHalted = false →
        ∃ t, exec (.keepTx tail) s = .next t ∧ t.get R.SES_KTX_IDX_TAIL = tail % 65536 ∧ ({ t with regs := s.regs } : State)
          = s ∧ (∀ f : Fld, f.key ∉ [R.SES_KTX_IDX_TAIL.key] → t.get f = s.get f))
    ∧ (∀ (tail : Nat), s.get R.SES_KTX_IDX_HEAD = 0 → s.get R.SES_KTX_RING_ENTRIES = 2 → tail = 1 → s.ses.ctxs.all (fun e =>
        e.2.st != 2) = true → (s.rd s.sesX (s.get R.SES_KTX_RING_ADDR * 16) 16).2 = s → s.keepHalted = false →
        ∃ t, exec (.keepTx tail) s = .next t ∧ t.get R.SES_KTX_IDX_TAIL = 1 ∧ t.get R.SES_KTX_IDX_HEAD = 1 ∧
          ({ t with free := s.free, irq := s.irq, faultQ := s.faultQ, tmp := s.tmp, regs := s.regs } : State) = s)
    ∧ (∀ (tail h0 sid len n : Nat) (e : Nat × Ses), tail = (h0 + 1) % n ∧ 1 < n ∧ n < 65536 ∧ h0 < n → s.get
        R.SES_KTX_IDX_HEAD = h0 ∧ s.get R.SES_KTX_RING_ENTRIES = n ∧ s.flc.op = none → sid = fld ((s.set R.SES_KTX_IDX_TAIL
        tail).rd s.sesX (s.get R.SES_KTX_RING_ADDR * 16 + 16 * h0) 16).1 0 4 ∧ len = fld ((s.set R.SES_KTX_IDX_TAIL tail).rd
        s.sesX (s.get R.SES_KTX_RING_ADDR * 16 + 16 * h0) 16).1 4 4 → s.ses.ctxs.find? (fun e => e.2.st == 2 && e.2.dome ==
        0 && e.2.sid == sid && !s.fedSes e.1) = some e → len ≤ 2 ^ 20 → s.keepHalted = false →
        exec (.keepTx tail) s = .next (((kmsg tail h0 n).2.sesSendCur e.1 0x10 4 (kmsg tail h0 n).1).seqCheck e.1))
    ∧ (∀ (tail h0 n : Nat), tail = (h0 + 1) % n ∧ 1 < n ∧ n < 65536 ∧ h0 < n → s.get R.SES_KTX_IDX_HEAD = h0 ∧ s.get
        R.SES_KTX_RING_ENTRIES = n ∧ s.flc.op = none → s.ses.ctxs.all (fun e => e.2.st != 2 || e.2.dome != 0 || e.2.sid !=
        fld ((s.set R.SES_KTX_IDX_TAIL tail).rd s.sesX (s.get R.SES_KTX_RING_ADDR * 16 + 16 * h0) 16).1 0 4 || s.fedSes e.1)
        = true ∨ 2 ^ 20 < fld ((s.set R.SES_KTX_IDX_TAIL tail).rd s.sesX (s.get R.SES_KTX_RING_ADDR * 16 + 16 * h0) 16).1 4
        4 → s.keepHalted = false →
        exec (.keepTx tail) s = .next ((kent tail).2.set R.SES_KTX_IDX_HEAD ((h0 + 1) % n)))

/-- A client's REKEY_REQ starts a rekey where one may start (R468, R469): random bytes are asked for; REKEY_ACK moves the
session to epoch E + 1; the old epoch drains once no job carries it, its keys gone and EPOCH_DONE sent; REKEY_ACK or
FINISH_C missing for 1 s closes the session with WL_REKEY_TIMEOUT (0x020A) or ends the handshake with WL_HANDSHAKE_TIMEOUT
(0x0204). What it takes from the model's own readings or choices is in log entry 31. -/
def Obligations.SessionKeys : Prop :=
  ∀ (s : State) (m : RxMsg) (i : Nat),
    s.spiresRun = true →
    let c : Ses := s.ctx i
    (s.hasMsg 0x07 m i → (s.ctx i).st = 2 ∧ (s.ctx i).client = false ∧ (s.ctx i).rekeySent = false ∧ (s.ctx i).drained =
        true ∧ (s.ctx i).want = .none →
        ∃ t, exec .rekeyReq s = .next t ∧ t.ctx i = { c with rekeyAsked := false, want := .rekey } ∧ t.ent.reqs = s.ent.reqs
          ++ [.ses i (if c.group = 1 then 40 else 56)] ∧ t.ses.inbox = s.ses.inbox.erase m ∧
          ({ t with ses := s.ses, ent := s.ent } : State) = s)
    ∧ (s.hasMsg 0x06 m i → (s.ctx i).client = false ∧ (s.ctx i).rekeySent = true ∧ m.epoch = (s.ctx i).cur.epoch →
        exec .rekeyAck s = .next (match ecdhZ (groupCurve c.group) c.priv m.body with
              | none => s.took m
              | some z => (s.took m).setCtx i { c with
                      eps := [{ epoch := (c.cur.epoch + 1) % 65536, ms := hkdfExtract c.cur.ms z }, c.cur],
                      drained := false, want := .none, rekeySent := false, priv := 0 }))
    ∧ (s.hasMsg 0x05 m i → (s.ctx i).st = 2 ∧ (s.ctx i).client = true ∧ (s.ctx i).want = .none ∧ (s.ctx i).drained = true →
        ∃ t, exec .rekey s = .next t ∧ t.ctx i = { c with want := .rekeyAck m.body } ∧ t.ent.reqs = s.ent.reqs ++ [.ses i
          (if fld m.body 0 1 = 1 then 40 else 56)] ∧ ({ t with ses := s.ses, ent := s.ent } : State) = s)
    ∧ (s.hasMsg 0x08 m i → (s.ctx i).client = true →
        exec .epochDone s = .next ((s.took m).setCtx i { c with eps := c.eps.take 1, drained := true }))
    ∧ ((s.ctx i).rekeySent = true → s.past ((s.ctx i).began + 1000000000) = true →
        exec (.rekeyTimeout i) s = .next (s.sesClose i (some 0x020A)))
    ∧ ((s.ctx i).st = 2 ∧ (s.ctx i).client = false ∧ (s.ctx i).drained = false ∧ (s.ctx i).rekeyAsked = false → s.sesOldFree
        i = true →
        exec (.sessionEpochDrained i) s = .next ((s.setCtx i { c with eps := c.eps.take 1, drained := true }).sesSendCur i
          0x08 2 []))
    ∧ ((s.ctx i).st = 1 ∧ (s.ctx i).want = .none ∧ (s.ctx i).client = false → s.past ((s.ctx i).began + 1000000000) = true →
        exec (.handshakeTimeout i) s = .next ((((s.sesFree i).send
          { peer := c.peer, prio := 2, kind := 0x11, body := [4, 2, 0, 0] })).cause R.SES_EVENTS_CAUSE 272 274))
    ∧ ((s.ctx i).st = 1 ∧ (s.ctx i).want ≠ .helloC ∧ (s.ctx i).client = true → s.past ((s.ctx i).began + 1000000000) = true
        →
        exec (.handshakeTimeout i) s = .next (s.sesFree i 0x0204))

/-- A client hello is dropped without a context area or with 256 handshakes under way, rejected with R467's code and
vector 274, or opens a HANDSHAKE context that asks for its random bytes; FINISH_C and HELLO_D have the PKE pool check the
signature, or compute Z, in a BEST command of dome 0, and are accepted exactly where the protected part opens and chain,
signature and finish are right (R465, R466); READY opens, with vector 272; a keep-opened session that fails ends with
vector 275 (R476). What it takes from the model's own readings or choices is in log entries 22 and 31. -/
def Obligations.SessionHandshakes : Prop :=
  ∀ (s : State) (m : RxMsg) (i : Nat),
    s.spiresRun = true →
    let c : Ses := s.ctx i
    let z : State := s.took m
    let crv : Curve := groupCurve c.group
    let clear : List Byte := m.body.take (33 + 2 * crv.f)
    let asked (op g : Nat) (ins : List (List Byte)) : Cmd := {
            pool := 2, job := 2 ^ 32 + i, ticket := 0, core := 1008, tier := 1, dome := 0,
            artEpoch := s.get R.ART_EPOCH_CURRENT, desc := [BitVec.ofNat 8 op, BitVec.ofNat 8 g] ++ zeros 62, ins := ins }
    let ended (k : Cmd) (_code : Nat) : State := (s.dropCmd k).next R.PKE_CMDS_COUNT
    let finish (u : State) (p : Peer) (sid : Nat) (root t2 : List Byte) : State := (u.setCtx i { c with
            sid := sid, root := root, peer := p, hs := [], trans := [], priv := 0, want := .none,
            eps := [{ ms := msOf c.hs (t2 ++ identitySign (sigDigest "c" t2) ++ hmac 2 (finKey c.hs "c") (sha 2 (t2 ++ identitySign (sigDigest "c" t2)))) }] }).send
        {
            peer := p, prio := 2, sid := sid, kind := 3,
            body := hsSeal c.hs "c" [] (chainPart (netChain s.net.section_) ++ identitySign (sigDigest "c" t2) ++ hmac 2 (finKey c.hs "c") (sha 2 (t2 ++ identitySign (sigDigest "c" t2)))) }
    let req (a : Nat) : List Byte × State := s.rd s.sesX a 64
    let opening (a : Nat) : State := (((req a).2.set R.SES_KOPEN_STATUS_CODE 0).set R.SES_KOPEN_STATUS_SID 0).set
        R.SES_KOPEN_STATUS_BUSY 1
    (s.ses.inbox.find? (fun x => x.kind == 1) = some m → s.get R.SES_CTX_VALID = 0 →
        exec .helloC s = .next (z))
    ∧ (s.ses.inbox.find? (fun x => x.kind == 1) = some m → s.get R.SES_CTX_VALID = 1 → 256 ≤ s.get R.SES_STATUS_HS →
        exec .helloC s = .next (z.count R.SES_HS_DROP_COUNT))
    ∧ (∀ (code : Nat), s.ses.inbox.find? (fun x => x.kind == 1) = some m → s.get R.SES_CTX_VALID = 1 → s.get R.SES_STATUS_HS
        < 256 → 40 ≤ m.body.length → (s.took m).helloCheck m = .inl code →
        exec .helloC s = .next ((z.send { peer := m.peer, prio := 2, kind := 0x11, body := toLE 2 code ++ [0, 0] }).cause
          R.SES_EVENTS_CAUSE 272 274))
    ∧ (∀ (en : List Byte) (k : Nat), s.ses.inbox.find? (fun x => x.kind == 1) = some m → s.get R.SES_CTX_VALID = 1 → s.get
        R.SES_STATUS_HS < 256 → 40 ≤ m.body.length → (s.took m).helloCheck m = .inr en → m.body.length = 41 + 2 *
        (groupCurve (fld m.body 0 1)).f → (s.took m).freeCtx = some k → (s.took m).cacheFull = false →
        ∃ t, exec .helloC s = .next t ∧ (t.ctx k).st = 1 ∧ (t.ctx k).sid = sidOf k (s.ctx k).gen ∧ (t.ctx k).dome = fld
          m.body 4 1 ∧ (t.ctx k).group = fld m.body 0 1 ∧ (t.ctx k).want = .helloD ∧ (t.ctx k).trans = m.body ∧ t.get
          R.SES_STATUS_HS = s.get R.SES_STATUS_HS + 1 ∧ t.ent.reqs = s.ent.reqs ++ [.ses k (32 + if fld m.body 0 1 = 1 then
          40 else 56)] ∧ ({ t with ses := s.ses, ent := s.ent, regs := s.regs } : State) = s ∧ (∀ f : Fld, f.key ∉
          [R.SES_STATUS_HS.key] → t.get f = s.get f))
    ∧ (s.hasMsg 0x02 m i → (s.ctx i).st = 1 ∧ (s.ctx i).client = true ∧ (s.ctx i).sid = 0 ∧ (s.ctx i).want = .none →
        exec .helloD s = .next ({ z.setCtx i { c with want := .zC m.peer m.sid m.body } with
              cmds := s.cmds ++ [asked 0x13 c.group [[], toBE crv.f c.priv, clear.drop 32, []]] }))
    ∧ (s.hasMsg 0x03 m i → (s.ctx i).st = 1 ∧ (s.ctx i).client = false ∧ (s.ctx i).hs ≠ [] ∧ (s.ctx i).want = .none →
        exec .finishC s = .next (match hsOpen c.hs "c" [] m.body with
              | none => z.next R.SES_TAGFAIL_COUNT
              | some prot => match chainAccept (protParts prot).1 c.anchor c.ownKey with
              | none => z.hsEnd i 0x0201
              | some (cert, root) => (z.setCtx i { c with
                      want := .sigC m.peer root (c.trans ++ chainPart (protParts prot).1 ++ (protParts prot).2.1) (protParts prot).2.2 }).sesVerify
                  i cert.key (sigDigest "c" (c.trans ++ chainPart (protParts prot).1)) (protParts prot).2.1))
    ∧ (∀ (k : Cmd) (e code : Nat) (p : Peer) (root t1 fin : List Byte), s.pkUnit i e k code → s.ses.pk = [] ∧ s.cer.ended =
        none → (s.ctx i).want = .sigC p root t1 fin →
        exec (.pkeCommandEnd (sesJob i) 0 false) s = .next (if code ≠ 0 ∨ hmac 2 (finKey c.hs "c") (sha 2 t1) ≠ fin then
          (ended k code).hsEnd i 0x020B else ((ended k code).sesOpened i
          { c with eps := [{ ms := msOf c.hs (t1 ++ fin) }], root := root, peer := p }).sesSendCur i 0x04 2 (toLE 4 c.sid ++
          zeros 4 ++ toLE 8 s.nowNs)))
    ∧ (∀ (k : Cmd) (e code : Nat) (p : Peer) (sid : Nat) (root t1 fin : List Byte), s.pkUnit i e k code → s.ses.pk = [] ∧
        s.cer.ended = none → (s.ctx i).want = .sigD p sid root t1 fin → code ≠ 0 ∨ hmac 2 (finKey (s.ctx i).hs "d") (sha 2
        t1) ≠ fin →
        exec (.pkeCommandEnd (sesJob i) 0 false) s = .next ((ended k code).sesFree i 0x020E))
    ∧ (∀ (k : Cmd) (e : Nat) (p : Peer) (sid : Nat) (root t1 fin : List Byte), s.pkUnit i e k 0 → s.ses.pk = [] ∧
        s.cer.ended = none → (s.ctx i).want = .sigD p sid root t1 fin → hmac 2 (finKey (s.ctx i).hs "d") (sha 2 t1) = fin →
        exec (.pkeCommandEnd (sesJob i) 0 false) s = .next (finish (ended k 0) p sid root (t1 ++ fin ++ chainPart (netChain
          s.net.section_))))
    ∧ (s.hasMsg 0x04 m i → (s.ctx i).st = 1 ∧ (s.ctx i).client = true → s.ses.kopen = some i → s.fed.tower = none →
        ∃ t, exec .ready s = .next t ∧ (t.ctx i).st = 2 ∧ (t.ctx i).counted = true ∧ t.ses.kopen = none ∧ t.get
          R.SES_KOPEN_STATUS_BUSY = 0 ∧ t.get R.SES_KOPEN_STATUS_CODE = 0 ∧ t.get R.SES_KOPEN_STATUS_SID = (s.ctx i).sid % 2
          ^ 32 ∧ 272 ∈ t.irq ∧ 275 ∈ t.irq ∧ ({ t with ses := s.ses, irq := s.irq, regs := s.regs } : State) = s ∧ (∀ f :
          Fld, f.key ∉ [R.SES_STATUS_HS.key, R.SES_STATUS_OPEN.key, R.SES_HANDSHAKES_COUNT.key, (R.SES_DOME_OPEN_COUNT
          0).key, R.SES_KOPEN_STATUS_BUSY.key, R.SES_KOPEN_STATUS_CODE.key, R.SES_KOPEN_STATUS_SID.key,
          R.SES_EVENTS_CAUSE.key] → t.get f = s.get f))
    ∧ (s.hasMsg 0x11 m i → (s.ctx i).st = 1 ∧ (s.ctx i).client = true → s.ses.kopen = some i →
        ∃ t, exec .reject s = .next t ∧ (t.ctx i).st = 0 ∧ t.ses.kopen = none ∧ t.get R.SES_KOPEN_STATUS_BUSY = 0 ∧ t.get
          R.SES_KOPEN_STATUS_CODE = 0x020E ∧ 275 ∈ t.irq)
    ∧ (∀ (addr : Nat), s.get R.SES_KOPEN_STATUS_BUSY = 1 →
        exec (.keepOpen addr) s = .next (s))
    ∧ (∀ (addr : Nat), s.get R.SES_KOPEN_STATUS_BUSY = 0 → addr % 64 = 0 ∧ addr < 2 ^ 40 → fld (s.rd s.sesX addr 64).1 20 1
        ≠ 1 ∧ fld (s.rd s.sesX addr 64).1 20 1 ≠ 2 → s.keepHalted = false →
        ∃ t, exec (.keepOpen addr) s = .next t ∧ t.get R.SES_KOPEN_STATUS_BUSY = 0 ∧ t.get R.SES_KOPEN_STATUS_CODE = 0x020C
          ∧ t.get R.SES_KOPEN_STATUS_SID = 0 ∧ 275 ∈ t.irq)
    ∧ (∀ (addr : Nat), s.get R.SES_KOPEN_STATUS_BUSY = 0 → addr % 64 = 0 ∧ addr < 2 ^ 40 → fld (s.rd s.sesX addr 64).1 20 1
        = 1 ∨ fld (s.rd s.sesX addr 64).1 20 1 = 2 → s.keepHalted = false →
        exec (.keepOpen addr) s = .next
          (match (opening addr).openTo { link := fld (req addr).1 18 1, ip := unmapped (sliceB (req addr).1 0 16), port := fld (req addr).1 16 2 } (fld (req addr).1 20 1) (netPeer s.net.section_ (fld (req addr).1 19 1)) false with
              | none => (((opening addr).set R.SES_KOPEN_STATUS_BUSY 0).set R.SES_KOPEN_STATUS_CODE 0x0203).cause
                  R.SES_EVENTS_CAUSE 272 275
              | some (k, u) => u.setSes { u.ses with kopen := some k }))

/-- The tower answers a JOIN of its federation with WELCOME, its keys and a member index, another with LEAVE (R479);
WELCOME and BEAT of the tower set the loss timer, the term and the member state, vectors 289 and 294 (R480, R481); a
member without a BEAT for LOSS_COUNT times HB_MS is LOST, vector 288, a standby without one for twice that long takes
over; READY_E counts each member once (R484). What it takes from the model's own readings or choices is in log entry 32.
-/
def Obligations.FederationMembers : Prop :=
  ∀ (s : State) (m : RxMsg) (i : Nat),
    s.spiresRun = true →
    let z : State := s.took m
    let c : Ses := s.ctx i
    let idx : Nat := lowestFree ((s.fed.members.filter (fun e => e.1 != i)).map (fun e => e.2.1)) 0 (s.fed.members.filter
        (fun e => e.1 != i)).length
    let when (x : RxMsg) (o : Nat) : Int := fld x.body o 8
    let twice (x : RxMsg) : Int := (when x 4 - when x 12) + ((x.at_.floor.toNat : Int) - when x 20)
    let trip (x : RxMsg) : Int := ((x.at_.floor.toNat : Int) - when x 4) - (when x 20 - when x 12)
    (s.hasFed 0x40 m i → s.fedServes = true → fld m.body 24 4 ≤ s.get R.FED_TERM_TERM → (s.ctx i).root = s.fedAnchor → fld
        m.body 4 4 = s.fedId → tabFind s.fed.members i = none → s.fedCount = 0 ∧ s.fed.next = none →
        exec .join s = .next (((z.setFed
          { s.fed with members := tabIns (s.fed.members.filter (fun e => e.1 != i)) i (idx, 0) }).set R.FED_MEMBERS_PRESENT
          (tabIns (s.fed.members.filter (fun e => e.1 != i)) i (idx, 0)).length).fedSend i 0x41 (toLE 4 (s.get
          R.FED_TERM_TERM) ++ toLE 4 (s.get R.FED_EPOCH_CURRENT) ++ zeros 12 ++ toLE 4 idx)))
    ∧ (s.hasFed 0x40 m i → s.fedServes = true → (s.ctx i).root ≠ s.fedAnchor ∨ fld m.body 4 4 ≠ s.fedId →
        exec .join s = .next (z.fedSend i 0x47 [1, 10, 0, 0]))
    ∧ (s.hasFed 0x41 m i → s.fed.tower = some i → s.get R.FED_TERM_TERM ≤ fld m.body 4 4 → s.fedServes = false →
        exec .welcome s = .next ((((z.setTerm (fld m.body 4 4)).set R.FED_STATUS_STATE 2).cause R.FED_EVENTS_CAUSE 288 289
          |>.setFed { s.fed with lastBeat := s.tnow, beaten := true, acting := s.fed.here }).takeAnnounce (fld m.body 8 4)
          (fld m.body 12 4) (fld m.body 16 8)))
    ∧ (s.hasFed 0x41 m i → s.fedServes = true → s.get R.FED_TERM_TERM < fld m.body 4 4 →
        exec .welcome s = .next (z.fedYield (fld m.body 4 4)))
    ∧ (s.hasFed 0x42 m i → s.fed.tower = some i → s.get R.FED_TERM_TERM = fld m.body 4 4 → s.get R.FED_EPOCH_CURRENT = fld
        m.body 8 4 → fld m.body 12 4 = 0 ∧ fld m.body 16 8 = 0 → s.get R.FED_STATUS_STATE = 3 →
        ∃ t, exec .beat s = .next t ∧ t.get R.FED_STATUS_STATE = 2 ∧ t.fed =
          { s.fed with lastBeat := s.tnow, beaten := true } ∧ 289 ∈ t.irq ∧ t.ses.inbox = s.ses.inbox.erase m ∧
          ({ t with fed := s.fed, irq := s.irq, ses := s.ses, regs := s.regs } : State) = s ∧ (∀ f : Fld, f.key ∉
          [R.FED_STATUS_STATE.key, R.FED_EVENTS_CAUSE.key] → t.get f = s.get f))
    ∧ (s.hasFed 0x42 m i → s.fed.tower = some i → fld m.body 4 4 < s.get R.FED_TERM_TERM →
        exec .beat s = .next (z))
    ∧ (s.hasFed 0x43 m i → s.fedServes = true →
        exec .timeQ s = .next (z.sesSend i c.cur.epoch 0x10 2 ([0x44, 0, 0, 0] ++ (sliceB m.body 4 8 ++ toLE 8
          m.at_.floor.toNat ++ zeros 8)) none 0 20))
    ∧ (s.hasFed 0x44 m i → s.fed.tower = some i →
        exec .timeR s = .next (((z.set R.FED_OFFSET_OFFSET ((twice m * 32768) % (2 ^ 64 : Int)).toNat).set R.FED_DELAY_NS
          (trip m % (2 ^ 32 : Int)).toNat).set R.FED_STATUS_SYNC (if (twice m).natAbs ≤ 20000 then 1 else 0)))
    ∧ (∀ (k e : Nat), s.hasFed 0x46 m i → tabFind s.fed.members i = some (k, e) → s.fed.next = some (fld m.body 4 4) → e ≠
        fld m.body 4 4 + 1 →
        exec .readyE s = .next ((z.setFed { s.fed with members := tabIns s.fed.members i (k, fld m.body 4 4 + 1) }).set
          R.FED_READY_COUNT (s.get R.FED_READY_COUNT + 1)))
    ∧ (s.hasFed 0x47 m i →
        exec .leave s = .next ((if s.fed.tower = some i then (z.set R.FED_STATUS_STATE 3).setFed
          { s.fed with alt := s.fed.acting } else z).sesClose i none))
    ∧ (∀ (k : Nat), s.fedServes = true → s.fed.members = [(i, (k, 0))] →
        exec .beatTimer s = .next (s.fedSend i 0x42 (toLE 4 (s.get R.FED_TERM_TERM) ++ toLE 4 (s.get R.FED_EPOCH_CURRENT) ++
          s.announced ++ toLE 8 s.nowNs)))
    ∧ (s.get R.FED_STATUS_STATE = 2 ∨ s.get R.FED_STATUS_STATE = 3 → s.fed.beaten = false → s.fed.tower = some i →
        exec .timeQTimer s = .next (((s.count R.FED_MISSED_COUNT).setFed { s.fed with beaten := false }).sesSend i
          c.cur.epoch 0x10 2 ([0x43, 0, 0, 0] ++ zeros 8) none 0 4))
    ∧ (s.get R.FED_STATUS_STATE = 2 → s.past (s.fed.lastBeat + s.lossNs) = true →
        exec .memberLossTimeout s = .next (((s.set R.FED_STATUS_STATE 3).setFed { s.fed with alt := s.fed.acting }).cause
          R.FED_EVENTS_CAUSE 288 288))
    ∧ (s.get R.FED_STATUS_STATE = 3 → s.fed.tower = none →
        exec .fedRetry s = .next (s.fedOpen s.fed.alt))
    ∧ (s.get R.FED_STATUS_ROLE = 3 → 1 ≤ s.get R.FED_STATUS_STATE ∧ s.get R.FED_STATUS_STATE ≤ 3 → s.past (s.fed.lastBeat +
        2 * s.lossNs) = true → s.get R.FED_TERM_TERM < 2 ^ 32 - 1 →
        ∃ t, exec .standbyTakeover s = .next t ∧ t.get R.FED_STATUS_STATE = 4 ∧ t.get R.FED_TERM_TERM = s.get
          R.FED_TERM_TERM + 1 ∧ 294 ∈ t.irq ∧ ({ t with irq := s.irq, regs := s.regs } : State) = s ∧ (∀ f : Fld, f.key ∉
          [R.FED_STATUS_STATE.key, R.FED_TERM_TERM.key, R.FED_EVENTS_CAUSE.key] → t.get f = s.get f))
    ∧ (s.get R.FED_STATUS_ROLE = 2 → s.fedServes = false → s.fed.tower = none → s.get R.FED_TERM_TERM < 2 ^ 32 - 1 →
        s.keepHalted = false →
        ∃ t, exec .reclaim s = .next t ∧ t.get R.FED_STATUS_STATE = 5 ∧ t.get R.FED_TERM_TERM = s.get R.FED_TERM_TERM + 1 ∧
          294 ∈ t.irq ∧ ({ t with irq := s.irq, regs := s.regs } : State) = s ∧ (∀ f : Fld, f.key ∉ [R.FED_STATUS_STATE.key,
          R.FED_TERM_TERM.key, R.FED_EVENTS_CAUSE.key] → t.get f = s.get f))

/-- A KEYSET is discarded whole, with FED_KCV (R487), where an entry is wrong, and where its epoch is not being staged,
else its entries are wrapped into the staging bank (R483); it waits while that bank's old epoch drains (the model's
reading, log 32); ANNOUNCE is refused with 0x0A02, 0x0A03 or 0x0A04 (R484); at T_A the banks exchange roles where STAGED
is set, vector 290, else the member is BEHIND, vector 293, as where the fence is not drained; when no job carries the old
epoch its bank is zeroed, vector 291 (R485). What it takes from the model's own readings or choices is in log entry 32. -/
def Obligations.FederationKeys : Prop :=
  ∀ (s : State) (m : RxMsg) (i : Nat),
    s.spiresRun = true →
    (s.hasFed 0x45 m i → s.fed.tower = some i → s.fedServes = false → s.fed.next = some (fld m.body 4 4) → s.get
        R.FED_FENCE_DRAINED = 1 → (ksParse m.body).all s.ksOk = false →
        exec .keyset s = .next ((s.took m).set R.FED_CMD_CODE 0x0A05))
    ∧ (s.get R.FED_FENCE_DRAINED = 0 →
        exec .keyset s = .next (s))
    ∧ (∀ (e : Nat), s.get R.FED_FENCE_DRAINED = 1 → s.hasFed 0x45 m i → s.fed.next = some e → e ≠ fld m.body 4 4 →
        exec .keyset s = .next (s.took m))
    ∧ (s.hasFed 0x45 m i → s.fed.tower = some i → s.fedServes = false → s.fed.next = some (fld m.body 4 4) → s.get
        R.FED_FENCE_DRAINED = 1 → s.get R.FED_STATUS_STAGED = 1 → s.fed.stage = some (fld m.body 4 4) → (ksParse m.body).all
        s.ksOk = true →
        exec .keyset s = .next ((ksParse m.body).foldl (fun (u : State) en => (u.wr u.keyX (u.entryAddr (1 - s.fed.bank)
          en.1) (entryMake u.key.tkey en.2.1 en.2.2.1 [])).dirUpdate (1 - s.fed.bank) en.1 (128 + en.2.1)) (s.took m)))
    ∧ (s.fedServes = true → s.get R.FED_FENCE_DRAINED = 0 → s.keepHalted = false →
        exec .announce s = .next (s.set R.FED_CMD_CODE 0x0A02))
    ∧ (s.fedServes = true → s.get R.FED_FENCE_DRAINED = 1 → s.get R.FED_STATUS_STAGED = 0 → s.fedCount ≠ 0 → s.keepHalted =
        false →
        exec .announce s = .next (s.set R.FED_CMD_CODE 0x0A03))
    ∧ (s.fedServes = true → s.get R.FED_FENCE_DRAINED = 1 → s.get R.FED_STATUS_STAGED = 1 → (s.get R.FED_NEXT_T_A : Rat) <
        s.now + 4 * s.hbNs → s.keepHalted = false →
        exec .announce s = .next (s.set R.FED_CMD_CODE 0x0A04))
    ∧ (s.fedServes = true → s.get R.FED_FENCE_DRAINED = 1 → s.get R.FED_STATUS_STAGED = 1 → s.now + 4 * s.hbNs ≤ (s.get
        R.FED_NEXT_T_A : Rat) → s.fed.members = [] → s.get R.FED_EPOCH_CURRENT < 2 ^ 32 - 1 → s.keepHalted = false →
        ∃ t, exec .announce s = .next t ∧ t.fed = { s.fed with next := some (s.get R.FED_EPOCH_CURRENT + 1) } ∧ t.get
          R.FED_CMD_CODE = 0 ∧ t.get R.FED_READY_COUNT = 0 ∧ ({ t with fed := s.fed, regs := s.regs } : State) = s ∧ (∀ f :
          Fld, f.key ∉ [R.FED_CMD_CODE.key, R.FED_READY_COUNT.key] → t.get f = s.get f))
    ∧ (∀ (e : Nat), s.fed.next = some e → (s.get R.FED_NEXT_T_A : Rat) ≤ s.now → s.get R.FED_FENCE_DRAINED = 1 → s.get
        R.FED_STATUS_STAGED = 1 → e < 2 ^ 32 →
        ∃ t, exec .fedSwitch s = .next t ∧ t.fed =
          { s.fed with bank := 1 - s.fed.bank, old := s.get R.FED_EPOCH_CURRENT, next := none, stage := none } ∧ t.get
          R.FED_EPOCH_CURRENT = e ∧ t.get R.FED_FENCE_DRAINED = 0 ∧ t.get R.FED_STATUS_STAGED = 0 ∧ t.get
          R.FED_STATUS_BEHIND = 0 ∧ 290 ∈ t.irq ∧ ({ t with fed := s.fed, irq := s.irq, regs := s.regs } : State) = s ∧ (∀ f
          : Fld, f.key ∉ [R.FED_EPOCH_CURRENT.key, R.FED_FENCE_DRAINED.key, R.FED_STATUS_STAGED.key,
          R.FED_STATUS_BEHIND.key, R.FED_EVENTS_CAUSE.key] → t.get f = s.get f))
    ∧ (∀ (e : Nat), s.fed.next = some e → (s.get R.FED_NEXT_T_A : Rat) ≤ s.now → s.get R.FED_STATUS_STAGED = 0 ∨ s.get
        R.FED_FENCE_DRAINED = 0 → s.get R.FED_STATUS_BEHIND = 0 →
        exec .fedSwitch s = .next ((s.set R.FED_STATUS_BEHIND 1).cause R.FED_EVENTS_CAUSE 288 293))
    ∧ (s.get R.FED_FENCE_DRAINED = 0 → s.fed.next = none → s.jsc.jobs.all (fun j => !(j.live && j.fepoch == s.fed.old)) =
        true → s.fedCount = 1 →
        exec .fedEpochDrained s = .next ((((s.wr s.keyX (s.entryAddr (1 - s.fed.bank) s.fedFirst) (zeros 64)).dirUpdate (1 -
          s.fed.bank) s.fedFirst 0).set R.FED_FENCE_DRAINED 1).cause R.FED_EVENTS_CAUSE 288 291))

/-- A command is refused with vector 305 and FL_BUSY, FL_RANGE, FL_TWIN, FL_NOT_BLANK, FL_SECTOR, FL_NOT_RUNNING or
FL_NOT_SUSPENDED in R498 to R503's order; else PROGRAM takes its page from the DDR, ERASE marks its sector in the ledger,
and each begins; SUSPEND and RESUME set and clear SUSPENDED; SWAP begins a write of the twin pointer (R510). What it takes
from the model's own readings or choices is in log entry 33. -/
def Obligations.FlashCommands : Prop :=
  ∀ (s : State) (half : Nat),
    s.spiresRun = true →
    let a : Nat := s.get R.FLC_ADDR_OFFSET
    let src : List Byte × State := s.rd { agent := 0x2B0, dom := 0, epoch := s.get R.ART_EPOCH_CURRENT } (s.get
        R.FLC_SRC_ADDR * 64) 512
    let line : List Byte × State := s.rd { agent := 0x2B0, dom := 0, epoch := s.get R.ART_EPOCH_CURRENT } (s.get
        R.FLC_SRC_ADDR * 64) 256
    let refused (code : Nat) : State := (s.set R.FLC_RESULT_CODE code).cause R.FLC_EVENTS_CAUSE 304 305
    let begun (t : State) (o : FlOp) : State := (((t.setFlc { t.flc with op := some o }).set R.FLC_STATUS_BUSY 1).set
        R.FLC_STATUS_BANK (o.addr / 0x8000000)).set R.FLC_RESULT_PULSES 0
    (s.flcBusy = true → s.keepHalted = false →
        exec (.program half) s = .next (refused 0x0601))
    ∧ (s.flcBusy = false → s.get R.FLC_ADDR_OFFSET % 512 ≠ 0 → s.keepHalted = false →
        exec (.program 0) s = .next (refused 0x0603))
    ∧ (s.flcBusy = false → s.get R.FLC_ADDR_OFFSET % 512 = 0 → isDdr (s.get R.FLC_SRC_ADDR * 64) = true → s.inTwin (s.get
        R.FLC_ADDR_OFFSET) = false → (s.sector (s.get R.FLC_ADDR_OFFSET / 0x10000)).1 ≠ 2 → s.blank (s.get
        R.FLC_ADDR_OFFSET) 512 = false → s.keepHalted = false →
        exec (.program 0) s = .next (refused 0x0602))
    ∧ (s.flcBusy = false → s.get R.FLC_ADDR_OFFSET % 512 = 0 → isDdr (s.get R.FLC_SRC_ADDR * 64) = true → s.inTwin (s.get
        R.FLC_ADDR_OFFSET) = false → (s.sector (s.get R.FLC_ADDR_OFFSET / 0x10000)).1 ≠ 2 → s.blank (s.get
        R.FLC_ADDR_OFFSET) 512 = true → s.keepHalted = false →
        exec (.program 0) s = .next (begun (src.2.fetchDrop a 512)
          { op := 1, addr := a, size := 512, data := src.1, phase := 1 }))
    ∧ (s.flcBusy = false → half = 1 ∨ half = 2 → s.get R.FLC_ADDR_OFFSET % 256 = 0 → isDdr (s.get R.FLC_SRC_ADDR * 64) =
        true → s.inTwin (s.get R.FLC_ADDR_OFFSET / 512 * 512 + (half - 1) * 256) = false → (s.sector ((s.get
        R.FLC_ADDR_OFFSET / 512 * 512 + (half - 1) * 256) / 0x10000)).1 ≠ 2 → s.blank (s.get R.FLC_ADDR_OFFSET / 512 * 512 +
        (half - 1) * 256) 256 = true → s.keepHalted = false →
        exec (.program half) s = .next (begun (line.2.fetchDrop (a / 512 * 512) 512)
          { op := 1, addr := a / 512 * 512 + (half - 1) * 256, size := 256, data := line.1, phase := 1 }))
    ∧ (s.flcBusy = false → s.get R.FLC_ADDR_OFFSET % 0x10000 = 0 → s.inTwin (s.get R.FLC_ADDR_OFFSET) = true → s.keepHalted
        = false →
        exec .erase s = .next (refused 0x0604))
    ∧ (s.flcBusy = false → s.get R.FLC_ADDR_OFFSET % 0x10000 = 0 → s.inTwin (s.get R.FLC_ADDR_OFFSET) = false → s.keepHalted
        = false →
        exec .erase s = .next (begun (s.fetchDrop a 0x10000) { op := 2, addr := a, size := 0x10000 }))
    ∧ (s.flcBusy = false → s.get R.FLC_ADDR_OFFSET % 0x10000 = 0 → s.keepHalted = false →
        exec .blankCheck s = .next (begun s { op := 3, addr := a, size := 0x10000 }))
    ∧ (s.flc.op ≠ none → s.get R.FLC_STATUS_SCANNED = 1 → s.get R.FLC_STATUS_SUSPENDED = 0 ∧ s.get
        R.FLC_STATUS_AUTOSUSPENDED = 0 → s.keepHalted = false →
        exec .suspend s = .next ((((s.set R.FLC_STATUS_SUSPENDED 1).set R.FLC_SUSP_COUNT_COUNT ((s.get
          R.FLC_SUSP_COUNT_COUNT + 1) % 2 ^ 64)).set R.FLC_RESULT_CODE 0).flashServeAll))
    ∧ (s.flc.op = none → s.get R.FLC_STATUS_SCANNED = 1 → s.keepHalted = false →
        exec .suspend s = .next (refused 0x0608))
    ∧ (s.get R.FLC_STATUS_SCANNED = 1 → s.get R.FLC_STATUS_SUSPENDED = 1 → s.flc.int = none → s.keepHalted = false →
        ∃ t, exec .resume s = .next t ∧ t.get R.FLC_STATUS_SUSPENDED = 0 ∧ t.get R.FLC_RESULT_CODE = 0 ∧
          ({ t with regs := s.regs } : State) = s ∧ (∀ f : Fld, f.key ∉ [R.FLC_STATUS_SUSPENDED.key, R.FLC_RESULT_CODE.key]
          → t.get f = s.get f))
    ∧ (s.get R.FLC_STATUS_SCANNED = 1 → s.get R.FLC_STATUS_SUSPENDED = 0 → s.flc.int = none → s.keepHalted = false →
        exec .resume s = .next (refused 0x0609))
    ∧ (s.flcBusy = false → s.keepHalted = false →
        exec (.swap half) s = .next (begun s { op := 6, addr := 0, twin := half % 2 }))

/-- Where neither a suspension nor a stop holds it (R504, R505): a pulse that verifies ends a page's program with its
data, sends an erase on to its ERASE_END entry over erased cells, and a swap's commit word puts its record in effect; an
unverified pulse leaves the target indeterminate, and the 40th of a program and the 200th of an erase end in FL_PROGRAM
(0x0605) and FL_ERASE (0x0606). A blank check ends, a hold-off expires, a record that waits is written and a full ledger
is compacted. What it takes from the model's own readings or choices is in log entry 33. -/
def Obligations.FlashProgress : Prop :=
  ∀ (s : State) (o : FlOp),
    s.spiresRun = true →
    let pulsed : State := (s.setFlc { s.flc with op := some { o with pulses := o.pulses + 1 } }).set R.FLC_RESULT_PULSES
        (min (o.pulses + 1) 255)
    let ended (t : State) (code v : Nat) : State := ((((((t.setFlc { t.flc with op := none }).set R.FLC_STATUS_BUSY 0).set
        R.FLC_STATUS_SUSPENDED 0).set R.FLC_STATUS_AUTOSUSPENDED 0).set R.FLC_RESULT_CODE code).cause R.FLC_EVENTS_CAUSE 304
        v).flashServeAll
    let entered (t : State) (n : Nat) : State := t.setFlc { t.flc with op := some { o with phase := n } }
    (s.flc.op = some o → o.op = 1 → o.phase = 1 → s.flcStill = false →
        exec (.flashPulseEnd true) s = .next (ended ((pulsed.putBytes (flashAddr o.addr) o.data).cleanLines o.addr o.size) 0
          304))
    ∧ (s.flc.op = some o → o.op = 2 → o.phase = 0 → s.flcStill = false →
        exec (.flashPulseEnd true) s = .next ((entered s 1).ledgerAdd
          { sector := o.addr / 0x10000, ends := false, count := (s.sector (o.addr / 0x10000)).2, ok := true }))
    ∧ (s.flc.op = some o → o.op = 2 → o.phase = 1 → s.flcStill = false →
        exec (.flashPulseEnd true) s = .next ((pulsed.eraseCells o.addr 0x10000).setFlc
          { (pulsed.eraseCells o.addr 0x10000).flc with op := some { o with pulses := o.pulses + 1, phase := 2 } }))
    ∧ (s.flc.op = some o → o.op = 2 → o.phase = 2 → s.flcStill = false → (s.sector (o.addr / 0x10000)).2 < 99999 →
        exec (.flashPulseEnd true) s = .next (ended (s.ledgerAdd
          { sector := o.addr / 0x10000, ends := true, count := (s.sector (o.addr / 0x10000)).2 + 1, ok := true }) 0 304))
    ∧ (s.flc.op = some o → o.op = 6 → o.phase = 0 → s.flcStill = false →
        exec (.flashPulseEnd true) s = .next (entered s 1))
    ∧ (s.flc.op = some o → o.op = 6 → o.phase = 1 → s.flcStill = false →
        exec (.flashPulseEnd true) s = .next (ended (pulsed.infoDone (.twin o.twin)) 0 304))
    ∧ (s.flc.op = some o → o.op = 1 → o.phase = 1 → s.flcStill = false → 39 ≤ o.pulses →
        exec (.flashPulseEnd false) s = .next (ended (pulsed.indeterminate o.addr o.size) 0x0605 305))
    ∧ (s.flc.op = some o → o.op = 2 → o.phase = 1 → s.flcStill = false → 199 ≤ o.pulses →
        exec (.flashPulseEnd false) s = .next (ended (pulsed.indeterminate o.addr o.size) 0x0606 305))
    ∧ (∀ (b : Bool), s.flc.op = some o → s.flcStill = true →
        exec (.flashPulseEnd b) s = .next (s))
    ∧ (s.flc.op = some o → o.op = 3 → s.flcStill = false →
        exec .blankCheckEnd s = .next (if s.blank o.addr o.size then ended s 0 304 else ended s 0x0602 305))
    ∧ (s.get R.FLC_STATUS_AUTOSUSPENDED = 1 → s.flc.lastRead + (1000 * max 1 (s.get R.FLC_CTRL_HOLDOFF_US) : Nat) ≤ s.tnow →
        exec .holdoffExpiry s = .next (s.set R.FLC_STATUS_AUTOSUSPENDED 0))
    ∧ (∀ (v : InfoW) (vs : List InfoW), s.flc.info = v :: vs → s.flc.op = none →
        exec .infoRecordWrite s = .next (((s.infoDone v).setFlc { (s.infoDone v).flc with info := vs, int := none }).set
          R.FLC_STATUS_INTERNAL 0))
    ∧ (s.flc.op ≠ none →
        exec .infoRecordWrite s = .next (s))
    ∧ (s.flc.op = none → s.flc.ledgerFull = true →
        ∃ t, exec .ledgerCompaction s = .next t ∧ t.flc.halves = [(1 - s.flc.half,
          { snap := some s.flc.ledger, entries := [] })] ∧ t.flc.half = 1 - s.flc.half ∧ t.flc.ledger = s.flc.ledger ∧
          t.flc.int = none ∧ t.get R.FLC_STATUS_INTERNAL = 0 ∧ ({ t with flc := s.flc, regs := s.regs } : State) = s ∧ (∀ f
          : Fld, f.key ∉ [R.FLC_STATUS_INTERNAL.key] → t.get f = s.get f))
    ∧ (s.flc.ledgerFull = false →
        exec .ledgerCompaction s = .next (s))

/-- A card registered present or removed raises vector 322, and a removal ends a running command with ICC_REMOVED (R516,
R521). ACTIVATE and EXCHANGE are refused without a card (0x0701) or while the slot is busy (0x0708), else begin the
activation with the default factors or send the APDU read from BUF; DEACTIVATE switches the card off (R521); an allowed
clock stop stops CLK (R520). A character of an ATR that is not complete is kept (R517); one with a parity error is
repeated up to RETRY times (R519); under T=0 a NULL byte changes nothing, an ACK moves the remaining data, and the status
bytes end the exchange with the response written at BUF + 0x100; under T=1 characters are gathered to a block (R519). What
it takes from the model's own readings or choices is in log entry 34. -/
def Obligations.ContactCards : Prop :=
  ∀ (s : State) (n : Nat),
    n < 2 →
    let off (t : State) : State := ((((t.setIcc n
        { t.iccSlot n with ven := false, rst := false, clk := 0, io := false, clkStop := false }).set (R.ICC_STATUS_ACTIVE
        n) 0).set (R.ICC_STATUS_CLKSTOP n) 0).set (R.ICC_STATUS_FI n) 0).set (R.ICC_STATUS_DI n) 0
    let apdu (len : Nat) : List Byte × State := s.rd (s.iccX n) (s.get (R.ICC_BUF_ADDR n) * 512) len
    let coded (t : State) (code rlen v : Nat) : State := ((t.set (R.ICC_RESULT_CODE n) code).set (R.ICC_RESULT_RLEN n)
        rlen).cause R.ICC_EVENTS_CAUSE 320 v
    let ended (t : State) (code rlen v : Nat) : State := coded ((t.setIcc n
        { t.iccSlot n with cmd := 0, phase := .idle, rx := [], bad := false, reps := 0, eph := 0 }).set (R.ICC_STATUS_BUSY
        n) 0) code rlen v
    let k : Icc := { s.iccSlot n with reps := 0, repAt := none }
    let good : State := s.setIcc n k
    let data (b : Byte) : List Byte := (s.iccSlot n).resp.take 256 ++ [0x90, b]
    (s.mainOn = true → s.spiresRun = true → s.get (R.ICC_STATUS_PRESENT n) = 0 → s.keepHalted = false →
        exec (.iccActivate n) s = .next (coded s 0x0701 0 320))
    ∧ (s.mainOn = true → s.spiresRun = true → s.get (R.ICC_STATUS_PRESENT n) = 1 → s.get (R.ICC_STATUS_BUSY n) = 1 →
        s.keepHalted = false →
        exec (.iccActivate n) s = .next (coded s 0x0708 0 320))
    ∧ (s.mainOn = true → s.spiresRun = true → s.get (R.ICC_STATUS_PRESENT n) = 1 → s.get (R.ICC_STATUS_BUSY n) = 0 →
        s.keepHalted = false →
        ∃ t, exec (.iccActivate n) s = .next t ∧ t.iccSlot n = { s.iccSlot n with
              cmd := 1, one := s.get (R.ICC_CFG_CLASS n) == 0 || s.get (R.ICC_CFG_CLASS n) == 3, phase := .atr, ven := true,
              rst := true, clk := 2, io := true, rx := [], bad := false, reps := 0 } ∧ t.get (R.ICC_STATUS_BUSY n) = 1 ∧
          t.get (R.ICC_STATUS_ACTIVE n) = 0 ∧ t.get (R.ICC_STATUS_CLKSTOP n) = 0 ∧ t.get (R.ICC_STATUS_CLASS n) = (if s.get
          (R.ICC_CFG_CLASS n) = 2 then 1 else 0) ∧ t.get (R.ICC_STATUS_PROTO n) = 0 ∧ t.get (R.ICC_STATUS_FI n) = 1 ∧ t.get
          (R.ICC_STATUS_DI n) = 1 ∧ ({ t with icc := s.icc, regs := s.regs } : State) = s ∧ (∀ f : Fld, f.key ∉
          [(R.ICC_STATUS_BUSY n).key, (R.ICC_STATUS_ACTIVE n).key, (R.ICC_STATUS_CLKSTOP n).key, (R.ICC_STATUS_CLASS n).key,
          (R.ICC_STATUS_PROTO n).key, (R.ICC_STATUS_FI n).key, (R.ICC_STATUS_DI n).key] → t.get f = s.get f))
    ∧ (∀ (len : Nat), s.mainOn = true → s.spiresRun = true → s.get (R.ICC_STATUS_PRESENT n) = 0 → s.keepHalted = false →
        exec (.iccExchange n len) s = .next (coded s 0x0701 0 321))
    ∧ (∀ (len : Nat), s.mainOn = true → s.spiresRun = true → s.get (R.ICC_STATUS_PRESENT n) = 1 → s.get (R.ICC_STATUS_BUSY
        n) = 0 → 4 ≤ len ∧ len ≤ 261 → s.keepHalted = false →
        exec (.iccExchange n len) s = .next ((((apdu len).2.updIcc n (fun k => { k with cmd := 2 })).set (R.ICC_STATUS_BUSY
          n) 1).iccApdu n (apdu len).1))
    ∧ (s.mainOn = true → s.spiresRun = true → s.get (R.ICC_STATUS_PRESENT n) = 1 → s.get (R.ICC_STATUS_BUSY n) = 0 →
        s.keepHalted = false →
        exec (.iccDeactivate n) s = .next (off ((s.set (R.ICC_RESULT_CODE n) 0).set (R.ICC_RESULT_RLEN n) 0)))
    ∧ (s.mainOn = true → s.spiresRun = true → s.get (R.ICC_STATUS_PRESENT n) = 1 → s.get (R.ICC_STATUS_BUSY n) = 1 →
        (s.iccSlot n).cmd = 2 → s.keepHalted = false →
        exec (.iccDeactivate n) s = .next (off (ended s 0x0702 0 321)))
    ∧ (s.mainOn = true → s.spiresRun = true → s.get (R.ICC_STATUS_ACTIVE n) = 1 ∧ (s.iccSlot n).clkStop = true ∧ s.get
        (R.ICC_STATUS_BUSY n) = 0 →
        exec (.iccClockStop n) s = .next ((s.setIcc n
          { s.iccSlot n with clk := if (s.iccSlot n).clkHigh then 1 else 0 }).set (R.ICC_STATUS_CLKSTOP n) 1))
    ∧ (s.mainOn = true → s.get (R.ICC_STATUS_PRESENT n) = 0 →
        ∃ t, exec (.iccCardPresent n) s = .next t ∧ t.get (R.ICC_STATUS_PRESENT n) = 1 ∧ 322 ∈ t.irq ∧
          ({ t with irq := s.irq, regs := s.regs } : State) = s ∧ (∀ f : Fld, f.key ∉ [(R.ICC_STATUS_PRESENT n).key,
          R.ICC_EVENTS_CAUSE.key] → t.get f = s.get f))
    ∧ (s.mainOn = true → s.get (R.ICC_STATUS_PRESENT n) = 1 → s.get (R.ICC_STATUS_BUSY n) = 1 → (s.iccSlot n).cmd = 2 →
        exec (.iccCardRemoved n) s = .next (((off (ended s 0x0702 0 321)).set (R.ICC_STATUS_PRESENT n) 0).cause
          R.ICC_EVENTS_CAUSE 320 322))
    ∧ (s.mainOn = true → s.get (R.ICC_STATUS_PRESENT n) = 1 → s.get (R.ICC_STATUS_BUSY n) = 0 →
        exec (.iccCardRemoved n) s = .next (((off s).set (R.ICC_STATUS_PRESENT n) 0).cause R.ICC_EVENTS_CAUSE 320 322))
    ∧ (s.mainOn = true → s.spiresRun = true → (s.iccSlot n).phase = .retry →
        ∃ t, exec (.iccClassRetry n) s = .next t ∧ t.iccSlot n = { s.iccSlot n with
              phase := .atr, ven := true, rst := true, clk := 2, io := true, rx := [], bad := false, reps := 0 } ∧ t.get
          (R.ICC_STATUS_CLASS n) = 1 ∧ t.get (R.ICC_STATUS_CLKSTOP n) = 0 ∧ ({ t with icc := s.icc, regs := s.regs } :
          State) = s ∧ (∀ f : Fld, f.key ∉ [(R.ICC_STATUS_CLASS n).key, (R.ICC_STATUS_CLKSTOP n).key, (R.ICC_STATUS_PROTO
          n).key, (R.ICC_STATUS_FI n).key, (R.ICC_STATUS_DI n).key] → t.get f = s.get f))
    ∧ (s.mainOn = true → s.spiresRun = true → (s.iccSlot n).phase = .t0 ∨ (s.iccSlot n).phase = .t1 ∨ (s.iccSlot n).phase =
        .pps ∨ (s.iccSlot n).phase = .ifs → (s.iccSlot n).cmd = 2 →
        exec (.iccWaitTimeout n) s = .next (off (ended s 0x0704 0 321)))
    ∧ (s.mainOn = true → s.spiresRun = true → (s.iccSlot n).phase = .atr → (s.iccSlot n).one = true → s.get
        (R.ICC_STATUS_CLASS n) = 0 →
        exec (.iccWaitTimeout n) s = .next ((off s).updIcc n (fun k => { k with phase := .retry, rx := [] })))
    ∧ (∀ (b : Byte), s.spiresRun = true → (s.iccSlot n).phase = .atr → atrParse ((s.iccSlot n).rx ++ [b]) = none →
        (s.iccSlot n).rx.length < 33 →
        ∃ t, exec (.iccCharacterReceive n b 0) s = .next t ∧ t.iccSlot n = { k with rx := k.rx ++ [b] } ∧
          ({ t with icc := s.icc } : State) = s)
    ∧ (∀ (b : Byte), s.spiresRun = true → (s.iccSlot n).phase = .t0 ∨ (s.iccSlot n).phase = .atr → (s.iccSlot n).repAt =
        none → (s.iccSlot n).reps < s.get (R.ICC_CFG_RETRY n) →
        ∃ t, exec (.iccCharacterReceive n b 1) s = .next t ∧ t.iccSlot n =
          { s.iccSlot n with reps := (s.iccSlot n).reps + 1, repAt := none } ∧ t.get (R.ICC_REPEAT_COUNT n) = satInc 32
          (s.get (R.ICC_REPEAT_COUNT n)) ∧ ({ t with icc := s.icc, regs := s.regs } : State) = s ∧ (∀ f : Fld, f.key ∉
          [(R.ICC_REPEAT_COUNT n).key] → t.get f = s.get f))
    ∧ (∀ (b : Byte), s.spiresRun = true → (s.iccSlot n).phase = .t0 → (s.iccSlot n).cmd = 2 → b.toNat < (s.iccSlot
        n).tx.length → (s.iccSlot n).repAt = some b.toNat → s.get (R.ICC_CFG_RETRY n) ≤ (s.iccSlot n).reps →
        exec (.iccCharacterReceive n b 2) s = .next (((((s.setIcc n
          { s.iccSlot n with cmd := 0, phase := .idle, rx := [], bad := false, reps := 0, eph := 0 }).set (R.ICC_STATUS_BUSY
          n) 0).set (R.ICC_RESULT_CODE n) 0x0705).set (R.ICC_RESULT_RLEN n) 0).cause R.ICC_EVENTS_CAUSE 320 321))
    ∧ (∀ (b : Byte), s.spiresRun = true → (s.iccSlot n).phase = .t0 → (s.iccSlot n).wait = .proc → b = 0x60 →
        exec (.iccCharacterReceive n b 0) s = .next (good))
    ∧ (∀ (b : Byte), s.spiresRun = true → (s.iccSlot n).phase = .t0 → (s.iccSlot n).wait = .proc → fld (s.iccSlot n).hdr 1 1
        = b.toNat → b.toNat / 16 ≠ 6 ∧ b.toNat / 16 ≠ 9 → (s.iccSlot n).left ≠ [] →
        ∃ t, exec (.iccCharacterReceive n b 0) s = .next t ∧ t.iccSlot n =
          { k with left := k.left.drop 256, tx := k.left.take 256, rx := [], bad := false } ∧ ({ t with icc := s.icc } :
          State) = s)
    ∧ (∀ (b : Byte) (m : Nat), s.spiresRun = true → (s.iccSlot n).phase = .t0 → (s.iccSlot n).wait = .data m → 1 < m →
        ∃ t, exec (.iccCharacterReceive n b 0) s = .next t ∧ t.iccSlot n =
          { k with resp := k.resp ++ [b], wait := .data (m - 1) } ∧ ({ t with icc := s.icc } : State) = s)
    ∧ (∀ (b : Byte), s.spiresRun = true → (s.iccSlot n).phase = .t0 → (s.iccSlot n).wait = .sw2 0x90 → (s.iccSlot n).cmd = 2
        →
        exec (.iccCharacterReceive n b 0) s = .next ((good.wr (good.iccX n) (s.get (R.ICC_BUF_ADDR n) * 512 + 0x100) (data
          b)).iccEnd n 0 (data b).length))
    ∧ (∀ (b : Byte), s.spiresRun = true → (s.iccSlot n).phase = .t1 → (s.iccSlot n).rx.length < 2 →
        ∃ t, exec (.iccCharacterReceive n b 0) s = .next t ∧ t.iccSlot n =
          { s.iccSlot n with rx := (s.iccSlot n).rx ++ [b] } ∧ ({ t with icc := s.icc } : State) = s)

/-- OPEN is accepted in IDLE for 2 to 8 components of a share not yet held, or of an import key for a dome (R522), in no
DECOMMISSION (R567); COMPONENT asks for its random bytes (R523); FINISH checks the count and the KCV and makes the share
valid, by its check value, or the import key (R524); CLOSE and 600 s without a command return to IDLE (R526); IMPORT reads
a key block, with the domain of the last component's slot (the model's choice, log 35), and submits it to its pool (R525);
each ends with vector 323. What it takes from the model's own readings or choices is in log entry 35. -/
def Obligations.Ceremony : Prop :=
  ∀ s : State,
    s.mainOn = true →
    let coded (t : State) (code : Nat) : State := (t.set R.ICC_CER_STATUS_CODE code).cause R.ICC_EVENTS_CAUSE 320 323
    let idle : State := ({ s with cer := {}, cmds := s.cmds.filter (fun (c : Cmd) => c.job != cerJob) }.set
        R.ICC_CER_STATUS_STATE 0).set R.ICC_CER_STATUS_GOT 0
    let touched : State := { s with cer := { s.cer with last := s.tbase } }
    let x : Xfer := { agent := 0x2B1, dom := s.get (R.ICC_CFG_DOME (s.cer.slot % 2)), epoch := s.get R.ART_EPOCH_CURRENT }
    let line : List Byte × State := touched.rd x (s.get R.ICC_CER_KB_ADDR * 64) (s.get R.ICC_CER_KB_LEN)
    let read : State := { line.2 with cer := { line.2.cer with out := s.get R.ICC_CER_KB_ADDR * 64 + 0x1000 } }
    (∀ (n : Nat), s.spiresRun = true → s.get R.ICC_CER_STATUS_STATE = 0 → 2 ≤ n ∧ n ≤ 8 → s.get R.RST_ROOT_SRK_VALID = 0 →
        s.get R.RST_LC_STATE = 1 ∨ s.get R.RST_LC_STATE = 2 → s.keepHalted = false →
        exec (.cerOpen 1 n 0) s = .next (coded
          (({ s with cer := { acc := zeros 32, target := 1, n := n, last := s.tbase } }.set R.ICC_CER_STATUS_STATE 1).set
          R.ICC_CER_STATUS_GOT 0) 0))
    ∧ (∀ (n d : Nat), s.spiresRun = true → s.get R.ICC_CER_STATUS_STATE = 0 → 2 ≤ n ∧ n ≤ 8 → 1 ≤ d ∧ d ≤ 63 → s.get
        R.RST_LC_STATE ≠ 3 → s.keepHalted = false →
        exec (.cerOpen 2 n d) s = .next (coded
          (({ s with cer := { acc := zeros 32, target := 2, n := n, dome := d, last := s.tbase } }.set
          R.ICC_CER_STATUS_STATE 1).set R.ICC_CER_STATUS_GOT 0) 0))
    ∧ (∀ (target n d : Nat), s.spiresRun = true → s.get R.ICC_CER_STATUS_STATE ≠ 0 ∨ n = 1 ∨ n = 9 ∨ s.get R.RST_LC_STATE =
        3 → n < 16 → s.keepHalted = false →
        exec (.cerOpen target n d) s = .next (coded s 0x0710))
    ∧ (∀ (n i : Nat), s.spiresRun = true → n < 2 ∧ i ≤ 7 → s.get (R.ICC_STATUS_PRESENT n) = 1 → s.get (R.ICC_STATUS_BUSY n)
        = 0 → (s.iccSlot (1 - n)).cmd ≠ 4 → s.get R.ICC_CER_STATUS_STATE = 1 → (s.get R.ICC_CER_STATUS_GOT).testBit i =
        false → s.keepHalted = false →
        ∃ t, exec (.iccComponent n i) s = .next t ∧ t.ent.reqs = s.ent.reqs ++ [.comb n] ∧ t.iccSlot n =
          { s.iccSlot n with cmd := 4, phase := .random, comp := i } ∧ t.get (R.ICC_STATUS_BUSY n) = 1 ∧ t.cer =
          { s.cer with last := s.tbase, slot := n } ∧ ({ t with ent := s.ent, icc := s.icc, cer := s.cer, regs := s.regs } :
          State) = s ∧ (∀ f : Fld, f.key ∉ [(R.ICC_STATUS_BUSY n).key] → t.get f = s.get f))
    ∧ (∀ (n i : Nat), s.spiresRun = true → n < 2 ∧ i < 16 → s.get (R.ICC_STATUS_PRESENT n) = 1 → s.get (R.ICC_STATUS_BUSY n)
        = 0 → (s.iccSlot (1 - n)).cmd ≠ 4 → s.get R.ICC_CER_STATUS_STATE = 1 → 7 < i ∨ (s.get R.ICC_CER_STATUS_GOT).testBit
        i = true → s.keepHalted = false →
        exec (.iccComponent n i) s = .next (((touched.set (R.ICC_RESULT_CODE n) 0x0711).set (R.ICC_RESULT_RLEN n) 0).cause
          R.ICC_EVENTS_CAUSE 320 321))
    ∧ (s.spiresRun = true → s.get R.ICC_CER_STATUS_STATE ≠ 1 ∨ (setBits 8 (s.get R.ICC_CER_STATUS_GOT)).length ≠ s.cer.n →
        s.keepHalted = false →
        exec .cerFinish s = .next (coded s 0x0710))
    ∧ (s.spiresRun = true → s.get R.ICC_CER_STATUS_STATE = 1 → (setBits 8 (s.get R.ICC_CER_STATUS_GOT)).length = s.cer.n →
        s.cer.target = 2 → s.keepHalted = false →
        exec .cerFinish s = .next (if ofLE (kcv 3 s.cer.acc) = s.get R.ICC_CER_KCV_KCV then coded
          ({ s with cer := { s.cer with acc := [], importKey := s.cer.acc } }.set R.ICC_CER_STATUS_STATE 2) 0 else coded
          idle 0x0712))
    ∧ (s.spiresRun = true → s.get R.ICC_CER_STATUS_STATE = 1 → (setBits 8 (s.get R.ICC_CER_STATUS_GOT)).length = s.cer.n →
        s.cer.target = 1 → s.flc.srk = none → s.keepHalted = false →
        exec .cerFinish s = .next (if ofLE (kcv 3 s.cer.acc) = s.get R.ICC_CER_KCV_KCV then coded ({ idle with
              pwr := { s.pwr with share := s.cer.acc },
              flc := { s.flc with info := s.flc.info ++ [InfoW.srk (rootCheck s.cer.acc)] } }.rootValid s.cer.acc) 0 else
          coded idle 0x0712))
    ∧ (∀ (v : Nat), s.spiresRun = true → s.get R.ICC_CER_STATUS_STATE = 1 → (setBits 8 (s.get R.ICC_CER_STATUS_GOT)).length
        = s.cer.n → s.cer.target = 1 → s.flc.srk = some v → s.keepHalted = false →
        exec .cerFinish s = .next (if ofLE (kcv 3 s.cer.acc) ≠ s.get R.ICC_CER_KCV_KCV then coded idle 0x0712 else if
          rootCheck s.cer.acc = v then coded ({ idle with pwr := { s.pwr with share := s.cer.acc } }.rootValid s.cer.acc) 0
          else coded idle 0x0713))
    ∧ (s.spiresRun = true → s.keepHalted = false →
        exec .cerClose s = .next (coded idle 0))
    ∧ (s.get R.ICC_CER_STATUS_STATE ≠ 0 → s.cer.last + 600000000000 + 5 / 8 ≤ s.tbase →
        exec .ceremonyTimeout s = .next (idle))
    ∧ (s.spiresRun = true → s.get R.ICC_CER_STATUS_STATE ≠ 2 ∨ s.cmds.any (fun (c : Cmd) => c.job == cerJob) = true →
        s.keepHalted = false →
        exec .cerImport s = .next (coded touched 0x0710))
    ∧ (s.spiresRun = true → s.get R.ICC_CER_STATUS_STATE = 2 → s.cmds.any (fun (c : Cmd) => c.job == cerJob) = false →
        s.flashWaits (s.get R.ICC_CER_KB_ADDR * 64) = false → isPrivateBlock line.1 = false → s.keepHalted = false →
        exec .cerImport s = .next (read.cerSubmit 0 0x38 [line.1]))
    ∧ (s.spiresRun = true → s.get R.ICC_CER_STATUS_STATE = 2 → s.cmds.any (fun (c : Cmd) => c.job == cerJob) = false →
        s.flashWaits (s.get R.ICC_CER_KB_ADDR * 64) = false → isPrivateBlock line.1 = true → s.keepHalted = false →
        exec .cerImport s = .next (read.cerWrap.2.2.cerSubmit 2 0x30 [line.1, toLE 2 read.cerWrap.1, [], read.cerWrap.2.1]))

/-- Presence and removal raise vector 338, and a removal ends the operation with SD_REMOVED. A command finds the host busy
(SD_BUSY), no card or an unidentified one (SD_NO_CARD), or begins. INIT asks for the voltage switch as SDH_CFG.UHS and
NO_UHS allow; each response of the card takes the next step of R529; a failed switch powers the card off, and NO_UHS is
set when the repeated identification has ended; the mode ends INIT with READY. SLEEP deselects an SD card and stops its
clock. READ and WRITE refuse a range beyond the capacity, and otherwise move COUNT blocks one response at a time between
SDH_ADDR and the card, DONE counting them. A block that fails its CRC is repeated up to RETRIES times; beyond that the
operation ends with SD_CRC. A card status with an error bit ends it with SD_CARD_ERROR, and an expired wait with
SD_TIMEOUT. What it takes from the model's own readings or choices is in log entry 36. -/
def Obligations.RemovableCard : Prop :=
  ∀ s : State,
    let coded (t : State) (code : Nat) : State := (t.set R.SDH_RESULT_CODE code).cause R.SDH_EVENTS_CAUSE 336 (if code = 0
        then 336 else 337)
    let left (t u : State) : State := if (t.sdh.op = 7 ∨ t.sdh.op = 12) ∧ t.get R.SDH_RPMB_PEND_VALID = 1 then u.cause
        R.SDH_EVENTS_CAUSE 336 339 else u
    let ended (t : State) (code : Nat) : State := left t (coded ((t.setSdh { t.sdh with
            op := 0, phase := .idle, tries := 0, buf := [], todo := [], key := [], heads := [], cmds := [], fell := false }).set
        R.SDH_STATUS_BUSY 0) code)
    let begun (t : State) (op : Nat) (ph : SdPhase) : State := ((t.setSdh { t.sdh with
            op := op, phase := ph, tries := 0, buf := [], todo := [], key := [], heads := [], cmds := [], clkOff := false }).set
        R.SDH_STATUS_BUSY 1).set R.SDH_RESULT_DONE 0
    let off (t : State) : State := ((((((t.setSdh { t.sdh with
            ven := false, cap := 0, woke := false, rca := 0, bytes := false, cmd23 := false, wide := false, clkOff := false }).set
        R.SDH_STATUS_READY 0).set R.SDH_STATUS_V18 0).set R.SDH_STATUS_TYPE 0).set R.SDH_STATUS_MODE 0).set
        R.SDH_STATUS_RPMB 0).set R.SDH_STATUS_SLEEP 0
    let phase (t : State) (ph : SdPhase) : State := t.setSdh { t.sdh with phase := ph }
    let sends (t : State) (ws : List (Nat × Nat)) : State := t.setSdh
        { t.sdh with cmds := ws.map fun (w : Nat × Nat) => sdCommand w.1 w.2 }
    let identify (t : State) : State := sends t [(0, 0), (8, 0x1AA), (55, 0), (41, if t.sdh.s18r then 0x41FF8000 else
        0x40FF8000), (0, 0), (1, 0x40FF8000)]
    let address (t : State) (type : Nat) : State := sends (t.setSdh { t.sdh with phase := .select, rca := 1 }) [(2, 0), (3,
        if type = 2 then 0x10000 else 0), (9, 0x10000), (7, 0x10000)]
    let failed : State := (off s).setSdh
        { (off s).sdh with phase := .off, s18r := false, offAt := s.tbase, cmds := [], fell := true }
    let kept : State := if s.sdh.fell = true then s.set R.SDH_STATUS_NO_UHS 1 else s
    let x : Xfer := { agent := 0x2B2, dom := s.get R.SDH_CFG_DOME, epoch := s.get R.ART_EPOCH_CURRENT }
    let moves (t : State) (read : Bool) (b n : Nat) : State := t.setSdh { t.sdh with
            cmds := (if n = 1 then [(if read then 17 else 24, if t.sdh.bytes then 512 * b else b)] else if t.sdh.cmd23 then [(23, n), (if read then 18 else 25, if t.sdh.bytes then 512 * b else b)] else [(if read then 18 else 25, if t.sdh.bytes then 512 * b else b), (12, 0)]).map fun (w : Nat × Nat) => sdCommand w.1 w.2 }
    let addr : Nat := s.get R.SDH_ADDR_ADDR * 512 + 512 * s.get R.SDH_RESULT_DONE
    let moved (t : State) : State := (t.setSdh { t.sdh with tries := 0, blk := t.sdh.blk + 1 }).set R.SDH_RESULT_DONE (s.get
        R.SDH_RESULT_DONE + 1)
    let fetched (t : State) (a : Nat) : State := (t.rd
        { agent := 0x2B2, dom := t.get R.SDH_CFG_DOME, epoch := t.get R.ART_EPOCH_CURRENT } a 512).2.setSdh
        { (t.rd { agent := 0x2B2, dom := t.get R.SDH_CFG_DOME, epoch := t.get R.ART_EPOCH_CURRENT } a 512).2.sdh with
            sent := (t.rd { agent := 0x2B2, dom := t.get R.SDH_CFG_DOME, epoch := t.get R.ART_EPOCH_CURRENT } a 512).1 }
    (s.mainOn = true → s.get R.SDH_STATUS_PRESENT = 0 →
        exec .sdCardPresent s = .next ((s.set R.SDH_STATUS_PRESENT 1).cause R.SDH_EVENTS_CAUSE 336 338))
    ∧ (s.mainOn = true → s.get R.SDH_STATUS_PRESENT = 1 → s.sdh.phase = .idle →
        exec .sdCardRemoved s = .next ((((off s).set R.SDH_STATUS_PRESENT 0).set R.SDH_STATUS_NO_UHS 0).cause
          R.SDH_EVENTS_CAUSE 336 338))
    ∧ (s.mainOn = true → s.get R.SDH_STATUS_PRESENT = 1 → s.sdh.phase ≠ .idle ∧ s.sdh.phase ≠ .commit →
        exec .sdCardRemoved s = .next ((((off (ended s 0x0721)).set R.SDH_STATUS_PRESENT 0).set R.SDH_STATUS_NO_UHS 0).cause
          R.SDH_EVENTS_CAUSE 336 338))
    ∧ (∀ (c : Instr), s.mainOn = true → s.spiresRun = true → c ∈ [.sdhInit, .sdhRead, .sdhWrite, .sleep, .awake,
        .rpmbCounter, .rpmbWrite, .rpmbRead, .rpmbKey, .csaWrite 1, .csaRead 1, .settle, .powerOff] → s.get
        R.SDH_STATUS_BUSY = 1 → s.keepHalted = false →
        exec c s = .next (coded s 0x072B))
    ∧ (∀ (c : Instr), s.mainOn = true → s.spiresRun = true → c ∈ [.sdhInit, .sdhRead, .sdhWrite, .sleep, .awake,
        .rpmbCounter, .rpmbWrite, .rpmbRead, .rpmbKey, .csaWrite 1, .csaRead 1, .settle, .powerOff] → s.get
        R.SDH_STATUS_BUSY = 0 ∧ s.get R.SDH_STATUS_PRESENT = 0 → s.keepHalted = false →
        exec c s = .next (coded s 0x0720))
    ∧ (∀ (c : Instr), s.mainOn = true → s.spiresRun = true → c ∈ [.sdhRead, .sdhWrite, .sleep, .awake, .rpmbCounter,
        .rpmbWrite, .rpmbRead, .rpmbKey, .csaWrite 1, .csaRead 1, .settle] → s.get R.SDH_STATUS_BUSY = 0 ∧ s.get
        R.SDH_STATUS_READY = 0 → s.keepHalted = false →
        exec c s = .next (coded s 0x0720))
    ∧ (s.mainOn = true → s.spiresRun = true → s.get R.SDH_STATUS_BUSY = 0 ∧ s.get R.SDH_STATUS_PRESENT = 1 → s.keepHalted =
        false →
        exec .sdhInit s = .next (identify ((begun (off s) 1 .identify).setSdh { (begun (off s) 1 .identify).sdh with
              ven := true, s18r := s.get R.SDH_CFG_UHS == 1 && s.get R.SDH_STATUS_NO_UHS != 1 })))
    ∧ (∀ (data : List Byte), s.mainOn = true → s.spiresRun = true → s.sdh.phase = .identify → fld data 0 1 = 1 ∧ fld data 1
        1 = 1 ∧ s.sdh.s18r = true →
        exec (.sdResponse 0 ⟨data, sdCrc7 data⟩) s = .next (sends (phase (s.set R.SDH_STATUS_TYPE 1) .switch) [(11, 0)]))
    ∧ (∀ (data : List Byte) (crc : Nat), s.mainOn = true → s.spiresRun = true → s.sdh.phase = .identify → fld data 0 1 = 2 ∨
        fld data 0 1 = 1 ∧ crc = sdCrc7 data ∧ (fld data 1 1 ≠ 1 ∨ s.sdh.s18r = false) →
        exec (.sdResponse 0 ⟨data, crc⟩) s = .next (address (s.set R.SDH_STATUS_TYPE (fld data 0 1)) (fld data 0 1)))
    ∧ (∀ (data : List Byte) (crc : Nat), s.mainOn = true → s.spiresRun = true → s.sdh.phase = .identify →
        exec (.sdResponse 3 ⟨data, crc⟩) s = .next (ended s 0x0726))
    ∧ (∀ (data : List Byte), s.mainOn = true → s.spiresRun = true → s.sdh.phase = .switch →
        exec (.sdResponse 0 ⟨data, sdCrc7 data⟩) s = .next (address (s.set R.SDH_STATUS_V18 1) (s.get R.SDH_STATUS_TYPE)))
    ∧ (∀ (kind crc : Nat) (data : List Byte), s.mainOn = true → s.spiresRun = true → s.sdh.phase = .switch → kind ≠ 0 ∨ crc
        ≠ sdCrc7 data →
        exec (.sdResponse kind ⟨data, crc⟩) s = .next (failed))
    ∧ (∀ (data : List Byte), s.mainOn = true → s.spiresRun = true → s.sdh.phase = .select →
        ∃ t, exec (.sdResponse 0 ⟨data, sdCrc7 data⟩) s = .next t ∧ t.get R.SDH_CID_LO_CID = ofBE (fitBytes 16 data) % 2 ^
          64 ∧ t.get R.SDH_CID_HI_CID = ofBE (fitBytes 16 data) / 2 ^ 64 % 2 ^ 64 ∧ t.get R.SDH_STATUS_RPMB = (if s.get
          R.SDH_STATUS_TYPE = 2 ∧ fld data 20 1 % 2 = 1 then 1 else 0) ∧ t.sdh = { s.sdh with
              phase := .mode, cap := fld data 16 4, buf := [BitVec.ofNat 8 (fld data 21 1)],
              rca := if s.get R.SDH_STATUS_TYPE = 1 then fld data 22 2 else 1, wide := s.get R.SDH_CFG_WIDTH == 1,
              bytes := fld data 20 1 / 2 % 2 == 1, cmd23 := fld data 20 1 / 4 % 2 == 1, cmds := t.sdh.cmds } ∧ (s.get
          R.SDH_STATUS_TYPE = 1 → t.sdh.cmds.take 2 = [sdCommand 55 (fld data 22 2 * 0x10000), sdCommand 6 (if s.get
          R.SDH_CFG_WIDTH = 1 then 2 else 0)]) ∧ (s.get R.SDH_STATUS_TYPE ≠ 1 → t.sdh.cmds.take 1 = [sdCommand 6 (if s.get
          R.SDH_CFG_WIDTH = 1 then 0x03B70100 else 0x03B70000)]) ∧ ({ t with sdh := s.sdh, regs := s.regs } : State) = s ∧
          (∀ f : Fld, f.key ∉ [R.SDH_CID_LO_CID.key, R.SDH_CID_HI_CID.key, R.SDH_STATUS_RPMB.key] → t.get f = s.get f))
    ∧ (∀ (data : List Byte), s.mainOn = true → s.spiresRun = true → s.sdh.phase = .mode →
        exec (.sdResponse 0 ⟨data, sdCrc7 data⟩) s = .next (ended ((kept.set R.SDH_STATUS_MODE (sdMode (fld s.sdh.buf 0 1)
          (s.get R.SDH_CFG_MAXMODE) (s.is R.SDH_STATUS_V18))).set R.SDH_STATUS_READY 1) 0))
    ∧ (∀ (data : List Byte) (crc : Nat), s.mainOn = true → s.spiresRun = true → s.sdh.phase = .select ∨ s.sdh.phase = .mode
        ∨ s.sdh.phase = .command ∨ s.sdh.phase = .sleep ∨ s.sdh.phase = .identify ∧ fld data 0 1 = 1 → crc ≠ sdCrc7 data →
        exec (.sdResponse 0 ⟨data, crc⟩) s = .next (ended s 0x0723))
    ∧ (s.mainOn = true → s.spiresRun = true → s.get R.SDH_STATUS_BUSY = 0 ∧ s.get R.SDH_STATUS_PRESENT = 1 ∧ s.get
        R.SDH_STATUS_READY = 1 → s.get R.SDH_STATUS_TYPE = 1 → s.keepHalted = false →
        exec .sleep s = .next ((sends ((ended (begun s 4 .sleep) 0).setSdh
          { (ended (begun s 4 .sleep) 0).sdh with clkOff := true }) [(7, 0)]).set R.SDH_STATUS_SLEEP 1))
    ∧ (s.mainOn = true → s.spiresRun = true → s.get R.SDH_STATUS_BUSY = 0 ∧ s.get R.SDH_STATUS_PRESENT = 1 ∧ s.get
        R.SDH_STATUS_READY = 1 → s.get R.SDH_STATUS_TYPE ≠ 1 → s.keepHalted = false →
        exec .sleep s = .next (sends (begun s 4 .sleep) [(5, s.sdh.rca * 0x10000 + 0x8000)]))
    ∧ (s.mainOn = true → s.spiresRun = true → s.get R.SDH_STATUS_BUSY = 0 ∧ s.get R.SDH_STATUS_PRESENT = 1 ∧ s.get
        R.SDH_STATUS_READY = 1 → s.keepHalted = false →
        exec .awake s = .next (sends (begun s 5 .sleep) [(if s.get R.SDH_STATUS_TYPE = 1 then 7 else 5, s.sdh.rca *
          0x10000)]))
    ∧ (∀ (data : List Byte), s.mainOn = true → s.spiresRun = true → s.sdh.phase = .sleep →
        exec (.sdResponse 0 ⟨data, sdCrc7 data⟩) s = .next (ended (s.set R.SDH_STATUS_SLEEP (if s.sdh.op = 4 then 1 else 0))
          0))
    ∧ (s.mainOn = true → s.spiresRun = true → s.get R.SDH_STATUS_BUSY = 0 ∧ s.get R.SDH_STATUS_PRESENT = 1 → s.keepHalted =
        false →
        exec .powerOff s = .next (coded ((off s).set R.SDH_RESULT_DONE 0) 0))
    ∧ (∀ (c : Instr) (op : Nat), s.spiresRun = true → (c, op) ∈ [(.sdhRead, 2), (.sdhWrite, 3)] → s.get R.SDH_STATUS_BUSY =
        0 ∧ s.get R.SDH_STATUS_PRESENT = 1 ∧ s.get R.SDH_STATUS_READY = 1 → s.get R.SDH_COUNT_BLOCKS = 0 ∨ s.sdh.cap < s.get
        R.SDH_ARG_BLOCK + s.get R.SDH_COUNT_BLOCKS → s.keepHalted = false →
        exec c s = .next (ended (begun s op .command) 0x0725))
    ∧ (s.spiresRun = true → s.get R.SDH_STATUS_BUSY = 0 ∧ s.get R.SDH_STATUS_PRESENT = 1 ∧ s.get R.SDH_STATUS_READY = 1 → 0
        < s.get R.SDH_COUNT_BLOCKS ∧ s.get R.SDH_ARG_BLOCK + s.get R.SDH_COUNT_BLOCKS ≤ s.sdh.cap → s.keepHalted = false →
        exec .sdhRead s = .next (moves ((begun s 2 .command).setSdh
          { (begun s 2 .command).sdh with blk := s.get R.SDH_ARG_BLOCK }) true (s.get R.SDH_ARG_BLOCK) (s.get
          R.SDH_COUNT_BLOCKS)))
    ∧ (s.spiresRun = true → s.get R.SDH_STATUS_BUSY = 0 ∧ s.get R.SDH_STATUS_PRESENT = 1 ∧ s.get R.SDH_STATUS_READY = 1 → 0
        < s.get R.SDH_COUNT_BLOCKS ∧ s.get R.SDH_ARG_BLOCK + s.get R.SDH_COUNT_BLOCKS ≤ s.sdh.cap → s.keepHalted = false →
        exec .sdhWrite s = .next (moves ((begun s 3 .command).setSdh
          { (begun s 3 .command).sdh with blk := s.get R.SDH_ARG_BLOCK }) false (s.get R.SDH_ARG_BLOCK) (s.get
          R.SDH_COUNT_BLOCKS)))
    ∧ (∀ (data : List Byte), s.spiresRun = true → s.sdh.phase = .command ∧ s.sdh.op = 2 →
        exec (.sdResponse 0 ⟨data, sdCrc7 data⟩) s = .next (s.setSdh { s.sdh with phase := .block }))
    ∧ (∀ (data : List Byte), s.spiresRun = true → s.sdh.phase = .command ∧ s.sdh.op = 3 → s.flashWaits (s.get
        R.SDH_ADDR_ADDR * 512) = false →
        exec (.sdResponse 0 ⟨data, sdCrc7 data⟩) s = .next (fetched (s.setSdh { s.sdh with phase := .block }) addr))
    ∧ (∀ (data : List Byte), s.spiresRun = true → s.sdh.phase = .block ∧ s.sdh.op = 2 →
        exec (.sdResponse 0 ⟨data, s.sdCheck data⟩) s = .next (if s.get R.SDH_RESULT_DONE + 1 = s.get R.SDH_COUNT_BLOCKS
          then ended (moved (s.wr x addr (fitBytes 512 data))) 0 else moved (s.wr x addr (fitBytes 512 data))))
    ∧ (∀ (data : List Byte) (crc : Nat), s.spiresRun = true → s.sdh.phase = .block ∧ s.sdh.op = 3 → s.get R.SDH_RESULT_DONE
        + 1 = s.get R.SDH_COUNT_BLOCKS → s.flashWaits (s.get R.SDH_ADDR_ADDR * 512) = false →
        exec (.sdResponse 0 ⟨data, crc⟩) s = .next (ended (moved s) 0))
    ∧ (∀ (data : List Byte) (crc : Nat), s.spiresRun = true → s.sdh.phase = .block ∧ s.sdh.op = 3 → s.get R.SDH_RESULT_DONE
        + 1 ≠ s.get R.SDH_COUNT_BLOCKS → s.flashWaits (s.get R.SDH_ADDR_ADDR * 512) = false →
        exec (.sdResponse 0 ⟨data, crc⟩) s = .next (fetched (moved s) (s.get R.SDH_ADDR_ADDR * 512 + 512 * ((s.get
          R.SDH_RESULT_DONE + 1) % 65536))))
    ∧ (∀ (data : List Byte) (crc : Nat), s.spiresRun = true → s.sdh.phase = .block ∧ s.sdh.op = 2 ∧ crc ≠ s.sdCheck data →
        s.sdh.tries < s.get R.SDH_CFG_RETRIES →
        exec (.sdResponse 0 ⟨data, crc⟩) s = .next (moves ((s.setSdh { s.sdh with tries := s.sdh.tries + 1 }).set
          R.SDH_CRC_RETRY_COUNT (satInc 32 (s.get R.SDH_CRC_RETRY_COUNT))) true s.sdh.blk 1))
    ∧ (∀ (data : List Byte) (crc : Nat), s.spiresRun = true → s.sdh.phase = .block ∧ s.sdh.op = 3 → s.sdh.tries < s.get
        R.SDH_CFG_RETRIES →
        exec (.sdResponse 1 ⟨data, crc⟩) s = .next (moves ((s.setSdh { s.sdh with tries := s.sdh.tries + 1 }).set
          R.SDH_CRC_RETRY_COUNT (satInc 32 (s.get R.SDH_CRC_RETRY_COUNT))) false s.sdh.blk 1))
    ∧ (∀ (data : List Byte) (crc : Nat), s.spiresRun = true → s.sdIn data = .blocks ∧ crc ≠ s.sdCheck data → s.get
        R.SDH_CFG_RETRIES ≤ s.sdh.tries →
        exec (.sdResponse 0 ⟨data, crc⟩) s = .next (ended s 0x0723))
    ∧ (∀ (data : List Byte), s.spiresRun = true → s.sdh.phase ≠ .idle ∧ s.sdh.phase ≠ .off ∧ s.sdh.phase ≠ .switch ∧
        s.sdh.phase ≠ .commit →
        exec (.sdResponse 2 ⟨data, sdCrc7 data⟩) s = .next (ended s 0x0724))
    ∧ (s.spiresRun = true → s.sdh.phase ≠ .idle ∧ s.sdh.phase ≠ .off ∧ s.sdh.phase ≠ .switch ∧ s.sdh.phase ≠ .commit →
        exec .sdWaitTimeout s = .next (ended s 0x0722))
    ∧ (s.spiresRun = true → s.sdh.phase = .switch →
        ∃ t, exec .sdWaitTimeout s = .next t ∧ t.sdh.phase = .off ∧ t.sdh.ven = false ∧ t.sdh.s18r = false ∧ t.sdh.offAt =
          s.tbase ∧ t.sdh.fell = true)

/-- Each RPMB command checks the card, the pending write, the range and the key, and sends its first frame; the card's
frames must verify, or the operation ends with SD_AUTH. RPMB_WRITE records what is pending before it sends its frames, and
SETTLE decides a pending write by the card's counter and data. CSA_READ accepts only the record of the area's counter
whose tag verifies; CSA_WRITE writes the next counter's record to the other position, reads it back, and commits the
counter to flash last. The frame layout is taken from JEDEC e.MMC. What it takes from the model's own readings or choices
is in log entries 22 and 36. -/
def Obligations.CardSealed : Prop :=
  ∀ s : State,
    s.spiresRun = true →
    let coded (t : State) (code : Nat) : State := (t.set R.SDH_RESULT_CODE code).cause R.SDH_EVENTS_CAUSE 336 (if code = 0
        then 336 else 337)
    let left (t u : State) : State := if (t.sdh.op = 7 ∨ t.sdh.op = 12) ∧ t.get R.SDH_RPMB_PEND_VALID = 1 then u.cause
        R.SDH_EVENTS_CAUSE 336 339 else u
    let ended (t : State) (code : Nat) : State := left t (coded ((t.setSdh { t.sdh with
            op := 0, phase := .idle, tries := 0, buf := [], todo := [], key := [], heads := [], cmds := [], fell := false }).set
        R.SDH_STATUS_BUSY 0) code)
    let begun (t : State) (op : Nat) (ph : SdPhase) : State := ((t.setSdh { t.sdh with
            op := op, phase := ph, tries := 0, buf := [], todo := [], key := [], heads := [], cmds := [], clkOff := false }).set
        R.SDH_STATUS_BUSY 1).set R.SDH_RESULT_DONE 0
    let x : Xfer := { agent := 0x2B2, dom := s.get R.SDH_CFG_DOME, epoch := s.get R.ART_EPOCH_CURRENT }
    let buf : Nat := s.get R.SDH_ADDR_ADDR * 512
    let n : Nat := s.get R.SDH_COUNT_BLOCKS
    let cid : Nat := s.get R.SDH_CID_HI_CID * 2 ^ 64 + s.get R.SDH_CID_LO_CID
    let nonce (t : State) : List Byte := toLE 8 t.nowNs ++ toLE 8 (t.sdh.reads % 2 ^ 64)
    let rpmb (t : State) (reliable : Bool) (w r : Nat) : State := t.setSdh { t.sdh with
            cmds := ([(23, if reliable then w + 0x80000000 else w), (25, 0)] ++ (if reliable then [(23, 1), (25, 0)] else []) ++ [(23, r), (18, 0)]).map fun (w : Nat × Nat) => sdCommand w.1 w.2 }
    let ask (t : State) (ph : SdPhase) (addr count type : Nat) : State := rpmb (t.setSdh { t.sdh with
            nonce := nonce t, reads := (t.sdh.reads + 1) % 2 ^ 64, phase := ph,
            sent := rpmbFrame [] [] (nonce t) 0 addr count type }) false 1 (if type = 4 then count else 1)
    let keyed (t : State) (key : List Byte) : State := t.setSdh { t.sdh with key := key }
    let asked (op : Nat) (go : State → State) : State := (match (begun s op .counter).rpmbKey with
            | (none, t) => ended t 0x0727
            | (some key, t) => go (keyed t key))
    let moves (t : State) (read : Bool) (b n : Nat) : State := t.setSdh { t.sdh with
            cmds := (if n = 1 then [(if read then 17 else 24, if t.sdh.bytes then 512 * b else b)] else if t.sdh.cmd23 then [(23, n), (if read then 18 else 25, if t.sdh.bytes then 512 * b else b)] else [(if read then 18 else 25, if t.sdh.bytes then 512 * b else b), (12, 0)]).map fun (w : Nat × Nat) => sdCommand w.1 w.2 }
    let area (p : Nat) : Nat := s.get R.SDH_ARG_BLOCK + p * (n + 1)
    let now (a : Nat) : Nat := tabGet 0 s.flc.csa a
    let open_ (a : Nat) (c : Nat) (head data : List Byte) : Option (List Byte) := csaOpen s.sdh.key head data a c
    (∀ (c : Instr) (op : Nat), (c, op) ∈ [(.rpmbCounter, 6), (.rpmbWrite, 7), (.rpmbRead, 8), (.rpmbKey, 9), (.settle, 12)]
        → s.get R.SDH_STATUS_BUSY = 0 ∧ s.get R.SDH_STATUS_PRESENT = 1 ∧ s.get R.SDH_STATUS_READY = 1 → s.get
        R.SDH_STATUS_RPMB ≠ 1 → (op = 12 → s.get R.SDH_RPMB_PEND_VALID = 0 ∨ cid = s.sdh.pendCid) → s.keepHalted = false →
        exec c s = .next (ended (begun s op .counter) 0x0726))
    ∧ (∀ (c : Instr) (op : Nat), (c, op) ∈ [(.rpmbCounter, 6), (.rpmbWrite, 7), (.rpmbRead, 8), (.rpmbKey, 9)] → s.get
        R.SDH_STATUS_BUSY = 0 ∧ s.get R.SDH_STATUS_PRESENT = 1 ∧ s.get R.SDH_STATUS_READY = 1 → s.get R.SDH_STATUS_RPMB = 1
        ∧ s.get R.SDH_RPMB_PEND_VALID = 1 → s.keepHalted = false →
        exec c s = .next (ended (begun s op .counter) 0x0729))
    ∧ (s.get R.SDH_STATUS_BUSY = 0 ∧ s.get R.SDH_STATUS_PRESENT = 1 ∧ s.get R.SDH_STATUS_READY = 1 → s.get R.SDH_STATUS_RPMB
        = 1 ∧ s.get R.SDH_RPMB_PEND_VALID = 0 → s.keepHalted = false →
        exec .rpmbCounter s = .next (asked 6 fun t => ask t .counter 0 0 2))
    ∧ (s.get R.SDH_STATUS_BUSY = 0 ∧ s.get R.SDH_STATUS_PRESENT = 1 ∧ s.get R.SDH_STATUS_READY = 1 → s.get R.SDH_STATUS_RPMB
        = 1 ∧ s.get R.SDH_RPMB_PEND_VALID = 0 → 0 < s.get R.SDH_COUNT_BLOCKS ∧ s.get R.SDH_ARG_BLOCK + s.get
        R.SDH_COUNT_BLOCKS ≤ 65536 → s.keepHalted = false →
        exec .rpmbWrite s = .next (asked 7 fun t => ask t .counter 0 0 2))
    ∧ (s.get R.SDH_STATUS_BUSY = 0 ∧ s.get R.SDH_STATUS_PRESENT = 1 ∧ s.get R.SDH_STATUS_READY = 1 → s.get R.SDH_STATUS_RPMB
        = 1 ∧ s.get R.SDH_RPMB_PEND_VALID = 0 → 0 < s.get R.SDH_COUNT_BLOCKS ∧ s.get R.SDH_ARG_BLOCK + s.get
        R.SDH_COUNT_BLOCKS ≤ 65536 → s.keepHalted = false →
        exec .rpmbRead s = .next (asked 8 fun t => ask t .frames (s.get R.SDH_ARG_BLOCK) n 4))
    ∧ (s.get R.SDH_STATUS_BUSY = 0 ∧ s.get R.SDH_STATUS_PRESENT = 1 ∧ s.get R.SDH_STATUS_READY = 1 → s.get R.SDH_STATUS_RPMB
        = 1 ∧ s.get R.SDH_RPMB_PEND_VALID = 0 → s.keepHalted = false →
        exec .rpmbKey s = .next (asked 9 fun t => rpmb (t.setSdh
          { t.sdh with phase := .result, sent := rpmbFrame t.sdh.key [] [] 0 0 0 1 }) true 1 1))
    ∧ (s.get R.SDH_STATUS_BUSY = 0 ∧ s.get R.SDH_STATUS_PRESENT = 1 ∧ s.get R.SDH_STATUS_READY = 1 → s.get
        R.SDH_RPMB_PEND_VALID = 1 → s.sdh.pendCid ≠ s.get R.SDH_CID_HI_CID * 2 ^ 64 + s.get R.SDH_CID_LO_CID → s.keepHalted
        = false →
        exec .settle s = .next (ended (begun s 12 .counter) 0x072A))
    ∧ (s.get R.SDH_STATUS_BUSY = 0 ∧ s.get R.SDH_STATUS_PRESENT = 1 ∧ s.get R.SDH_STATUS_READY = 1 → s.get R.SDH_STATUS_RPMB
        = 1 ∧ s.get R.SDH_RPMB_PEND_VALID = 1 → s.sdh.pendCid = s.get R.SDH_CID_HI_CID * 2 ^ 64 + s.get R.SDH_CID_LO_CID → 0
        < s.get R.SDH_COUNT_BLOCKS ∧ s.get R.SDH_ARG_BLOCK + s.get R.SDH_COUNT_BLOCKS ≤ 65536 → s.keepHalted = false →
        exec .settle s = .next (asked 12 fun t => ask t .counter 0 0 2))
    ∧ (∀ (data : List Byte), s.sdh.phase = .counter ∧ s.sdh.op = 6 →
        exec (.sdResponse 0 ⟨data, s.sdCheck data⟩) s = .next (if rpmbOk s.sdh.key s.sdh.nonce [data] 0x0200 = true then
          ended (s.setSdh { s.sdh with counter := ofBE (sliceB data 500 4) }) 0 else ended s 0x0728))
    ∧ (∀ (data : List Byte), s.sdh.phase = .counter ∧ s.sdh.op = 7 →
        exec (.sdResponse 0 ⟨data, s.sdCheck data⟩) s = (if rpmbOk s.sdh.key s.sdh.nonce [data] 0x0200 = true then
          (match (s.setSdh { s.sdh with counter := ofBE (sliceB data 500 4) }).rd x buf (256 * n), rpmbWriteFrames s.sdh.key ((s.setSdh { s.sdh with counter := ofBE (sliceB data 500 4) }).rd x buf (256 * n)).1 (ofBE (sliceB data 500 4)) (s.get R.SDH_ARG_BLOCK) n with
              | (_, t), fs => .next (rpmb (((t.set R.SDH_RPMB_PEND_COUNTER (ofBE (sliceB data 500 4) + 1)).set
                  R.SDH_RPMB_PEND_VALID 1).setSdh { t.sdh with
                      phase := .result, sent := fs.flatten, pendMac := sliceB (fs.getLastD []) 196 32, pendCid := cid })
                  true n 1)) else .next (ended s 0x0728)))
    ∧ (∀ (data : List Byte), s.sdh.phase = .counter ∧ s.sdh.op = 12 →
        ∃ t, exec (.sdResponse 0 ⟨data, s.sdCheck data⟩) s = .next t ∧ (rpmbOk s.sdh.key s.sdh.nonce [data] 0x0200 = false →
          t = ended s 0x0728) ∧ (rpmbOk s.sdh.key s.sdh.nonce [data] 0x0200 = true → ofBE (sliceB data 500 4) = s.get
          R.SDH_RPMB_PEND_COUNTER → t = ask (s.setSdh { s.sdh with counter := ofBE (sliceB data 500 4) }) .frames (s.get
          R.SDH_ARG_BLOCK) n 4) ∧ (rpmbOk s.sdh.key s.sdh.nonce [data] 0x0200 = true → ofBE (sliceB data 500 4) ≠ s.get
          R.SDH_RPMB_PEND_COUNTER → (ofBE (sliceB data 500 4) + 1) % 2 ^ 32 = s.get R.SDH_RPMB_PEND_COUNTER → t = ended
          ((s.setSdh { s.sdh with counter := ofBE (sliceB data 500 4) }).set R.SDH_RPMB_PEND_VALID 0) 0x0729))
    ∧ (∀ (data : List Byte), s.sdh.phase = .frames ∧ s.sdh.op = 8 →
        exec (.sdResponse 0 ⟨data, s.sdCheck data⟩) s = .next (if rpmbOk s.sdh.key s.sdh.nonce (rpmbSplit data) 0x0400 =
          true ∧ (rpmbSplit data).length = n then ended ((s.wr x buf ((rpmbSplit data).flatMap fun f => sliceB f 228
          256)).set R.SDH_RESULT_DONE n) 0 else ended s 0x0728))
    ∧ (∀ (data : List Byte), s.sdh.phase = .frames ∧ s.sdh.op = 12 →
        ∃ t, exec (.sdResponse 0 ⟨data, s.sdCheck data⟩) s = .next t ∧ (¬ (rpmbOk s.sdh.key s.sdh.nonce (rpmbSplit data)
          0x0400 = true ∧ (rpmbSplit data).length = n) → t = ended s 0x0728) ∧ (rpmbOk s.sdh.key s.sdh.nonce (rpmbSplit
          data) 0x0400 = true ∧ (rpmbSplit data).length = n → (s.rd x buf (n * 256)).1 = (rpmbSplit data).flatMap (fun f =>
          sliceB f 228 256) → t = ended ((s.rd x buf (n * 256)).2.set R.SDH_RPMB_PEND_VALID 0) 0))
    ∧ (∀ (data : List Byte), s.sdh.phase = .result ∧ s.sdh.op = 7 →
        exec (.sdResponse 0 ⟨data, s.sdCheck data⟩) s = .next (if rpmbOk s.sdh.key [] [data] 0x0300 = true ∧ ofBE (sliceB
          data 500 4) = s.get R.SDH_RPMB_PEND_COUNTER then ended ((s.set R.SDH_RPMB_PEND_VALID 0).set R.SDH_RESULT_DONE n) 0
          else ended s 0x0728))
    ∧ (∀ (data : List Byte), s.sdh.phase = .result ∧ s.sdh.op = 9 →
        exec (.sdResponse 0 ⟨data, s.sdCheck data⟩) s = .next (ended s (if data.length = 512 ∧ ofBE (sliceB data 508 2) = 0
          ∧ ofBE (sliceB data 510 2) = 0x0100 then 0 else 0x0728)))
    ∧ (∀ (c : Instr) (op a : Nat), a < 16 ∧ (c, op) ∈ [(.csaWrite a, 10), (.csaRead a, 11)] → s.get R.SDH_STATUS_BUSY = 0 ∧
        s.get R.SDH_STATUS_PRESENT = 1 ∧ s.get R.SDH_STATUS_READY = 1 → s.get R.SDH_COUNT_BLOCKS = 0 ∨ 2048 < s.get
        R.SDH_COUNT_BLOCKS ∨ s.sdh.cap < s.get R.SDH_ARG_BLOCK + 2 * (s.get R.SDH_COUNT_BLOCKS + 1) → s.keepHalted = false →
        exec c s = .next (ended (begun s op (.header 0)) 0x0725))
    ∧ (∀ (a : Nat), a < 16 → s.get R.SDH_STATUS_BUSY = 0 ∧ s.get R.SDH_STATUS_PRESENT = 1 ∧ s.get R.SDH_STATUS_READY = 1 → 0
        < s.get R.SDH_COUNT_BLOCKS ∧ s.get R.SDH_COUNT_BLOCKS ≤ 2048 ∧ s.get R.SDH_ARG_BLOCK + 2 * (s.get R.SDH_COUNT_BLOCKS
        + 1) ≤ s.sdh.cap → s.keepHalted = false →
        exec (.csaWrite a) s = .next ((match (begun s 10 (.header 0)).csaKey with
              | (none, t) => ended t 0x0727
              | (some key, t) => moves (t.setSdh { t.sdh with key := key, area := a, blk := area 0 }) true (area 0) 1)))
    ∧ (∀ (a : Nat), a < 16 → s.get R.SDH_STATUS_BUSY = 0 ∧ s.get R.SDH_STATUS_PRESENT = 1 ∧ s.get R.SDH_STATUS_READY = 1 → 0
        < s.get R.SDH_COUNT_BLOCKS ∧ s.get R.SDH_COUNT_BLOCKS ≤ 2048 ∧ s.get R.SDH_ARG_BLOCK + 2 * (s.get R.SDH_COUNT_BLOCKS
        + 1) ≤ s.sdh.cap → s.keepHalted = false →
        exec (.csaRead a) s = .next ((match (begun s 11 (.header 0)).csaKey with
              | (none, t) => ended t 0x0727
              | (some key, t) => moves (t.setSdh { t.sdh with key := key, area := a, blk := area 0 }) true (area 0) 1)))
    ∧ (∀ (data : List Byte), s.sdh.phase = .header 0 →
        exec (.sdResponse 0 ⟨data, s.sdCheck data⟩) s = .next (moves (s.setSdh
          { s.sdh with heads := s.sdh.heads ++ [data], tries := 0, phase := .header 1, blk := area 1 }) true (area 1) 1))
    ∧ (∀ (data head : List Byte), s.sdh.phase = .header 1 ∧ s.sdh.op = 11 ∧ s.sdh.heads = [head] →
        ∃ t, exec (.sdResponse 0 ⟨data, s.sdCheck data⟩) s = .next t ∧ (csaMatch head s.sdh.area (now s.sdh.area) n = true →
          t = moves (s.setSdh
          { s.sdh with heads := [head, data], tries := 0, phase := .data 0, buf := [], blk := area 0 + 1 }) true (area 0 +
          1) n) ∧ (csaMatch head s.sdh.area (now s.sdh.area) n = false → csaMatch data s.sdh.area (now s.sdh.area) n = true
          → t = moves (s.setSdh
          { s.sdh with heads := [head, data], tries := 0, phase := .data 1, buf := [], blk := area 1 + 1 }) true (area 1 +
          1) n) ∧ (csaMatch head s.sdh.area (now s.sdh.area) n = false → csaMatch data s.sdh.area (now s.sdh.area) n = false
          → t = ended s 0x0729))
    ∧ (∀ (data head : List Byte), s.sdh.phase = .header 1 ∧ s.sdh.op = 10 ∧ s.sdh.heads = [head] →
        ∃ t, exec (.sdResponse 0 ⟨data, s.sdCheck data⟩) s = .next t ∧ t.sdh.phase = .csaWrite ∧ t.sdh.counter = (now
          s.sdh.area + 1) % 2 ^ 64 ∧ t.sdh.blk = (if csaMatch head s.sdh.area (now s.sdh.area) n = true then area 1 else
          area 0) + 1 ∧ t.sdh.todo = (gcmEnc (aesEnc s.sdh.key) (csaIv s.sdh.area ((now s.sdh.area + 1) % 2 ^ 64)) (csaHead
          s.sdh.area ((now s.sdh.area + 1) % 2 ^ 64) n) (s.rd x buf (512 * n)).1).1 ++ fitBytes 512 (csaHead s.sdh.area
          ((now s.sdh.area + 1) % 2 ^ 64) n ++ (gcmEnc (aesEnc s.sdh.key) (csaIv s.sdh.area ((now s.sdh.area + 1) % 2 ^ 64))
          (csaHead s.sdh.area ((now s.sdh.area + 1) % 2 ^ 64) n) (s.rd x buf (512 * n)).1).2) ∧ t.sdh.sent = t.sdh.todo.take
          512)
    ∧ (∀ (data : List Byte) (crc : Nat), s.sdh.phase = .csaWrite → 512 < s.sdh.todo.length →
        ∃ t, exec (.sdResponse 0 ⟨data, crc⟩) s = .next t ∧ t.sdh.todo = s.sdh.todo.drop 512 ∧ t.sdh.sent = (s.sdh.todo.drop
          512).take 512 ∧ t.sdh.phase = .csaWrite ∧ t.sdh.tries = 0 ∧ t.get R.SDH_RESULT_DONE = (s.get R.SDH_RESULT_DONE +
          1) % 65536 ∧ ({ t with sdh := s.sdh, regs := s.regs } : State) = s ∧ (∀ f : Fld, f.key ∉ [R.SDH_RESULT_DONE.key] →
          t.get f = s.get f))
    ∧ (∀ (data : List Byte) (crc : Nat), s.sdh.phase = .csaWrite → s.sdh.todo.length ≤ 512 →
        exec (.sdResponse 0 ⟨data, crc⟩) s = .next (moves ((s.set R.SDH_RESULT_DONE (s.get R.SDH_RESULT_DONE + 1)).setSdh
          { s.sdh with
              phase := .verify, todo := [], buf := [], tries := 0,
              blk := area (if csaMatch (s.sdh.heads.getD 0 []) s.sdh.area (now s.sdh.area) n = true then 1 else 0) }) true
          (area (if csaMatch (s.sdh.heads.getD 0 []) s.sdh.area (now s.sdh.area) n = true then 1 else 0)) (n + 1)))
    ∧ (∀ (data : List Byte), s.sdh.phase = .verify → s.sdh.buf.length + 512 = 512 * (s.get R.SDH_COUNT_BLOCKS + 1) →
        exec (.sdResponse 0 ⟨data, s.sdCheck data⟩) s =
          (match csaMatch ((s.sdh.buf ++ fitBytes 512 data).take 512) s.sdh.area s.sdh.counter n && (open_ s.sdh.area s.sdh.counter ((s.sdh.buf ++ fitBytes 512 data).take 512) ((s.sdh.buf ++ fitBytes 512 data).drop 512)).isSome with
              | true => .next ((s.setSdh
                  { s.sdh with buf := [], tries := 0, blk := s.sdh.blk + 1, phase := .commit }).setFlc
                  { s.flc with info := s.flc.info ++ [.csa s.sdh.area s.sdh.counter] })
              | false => .next (ended (s.setSdh
                  { s.sdh with buf := s.sdh.buf ++ fitBytes 512 data, tries := 0, blk := s.sdh.blk + 1 }) 0x0728)))
    ∧ (s.sdh.phase = .commit → s.flc.op = none ∧ s.flc.info.contains (.csa s.sdh.area s.sdh.counter) = true →
        exec .csaCommit s = .next (ended (((s.infoDone (.csa s.sdh.area s.sdh.counter)).setFlc
          { (s.infoDone (.csa s.sdh.area s.sdh.counter)).flc with
              info := s.flc.info.erase (.csa s.sdh.area s.sdh.counter), int := none }).set R.FLC_STATUS_INTERNAL 0) 0))
    ∧ (s.sdh.phase = .commit → s.flc.info.contains (.csa s.sdh.area s.sdh.counter) = false →
        exec .csaCommit s = .next (ended s 0))
    ∧ (s.sdh.phase = .commit → s.flc.op ≠ none ∧ s.flc.info.contains (.csa s.sdh.area s.sdh.counter) = true →
        exec .csaCommit s = .next (s))
    ∧ (∀ (p : Nat) (data : List Byte), s.sdh.phase = .data p → s.sdh.buf.length + 512 = 512 * s.get R.SDH_COUNT_BLOCKS →
        ∃ t, exec (.sdResponse 0 ⟨data, s.sdCheck data⟩) s = .next t ∧ (∀ pt, open_ s.sdh.area (now s.sdh.area)
          (s.sdh.heads.getD p []) (s.sdh.buf ++ fitBytes 512 data) = some pt → t = ended (((s.setSdh
          { s.sdh with buf := s.sdh.buf ++ fitBytes 512 data, tries := 0, blk := s.sdh.blk + 1 }).set R.SDH_RESULT_DONE
          (s.get R.SDH_RESULT_DONE + 1)).wr x buf pt) 0) ∧ (open_ s.sdh.area (now s.sdh.area) (s.sdh.heads.getD p [])
          (s.sdh.buf ++ fitBytes 512 data) = none → p ≠ 0 → t = ended ((s.setSdh
          { s.sdh with buf := s.sdh.buf ++ fitBytes 512 data, tries := 0, blk := s.sdh.blk + 1 }).set R.SDH_RESULT_DONE
          (s.get R.SDH_RESULT_DONE + 1)) 0x0729))

/-- A command written while one runs ends with CL_BUSY and one not allowed with CL_STATE. FIELD_ON, FIELD_OFF, which
forgets the card, and DEACTIVATE act as R546 says; ACTIVATE takes the card's frames through WUPA, the cascade levels, RATS
and PPS (R547). No ATQA gives CL_NO_CARD; any later failure ends with CL_TIMEOUT or CL_PROTOCOL and resets the card by
turning the carrier off for 6 ms (R548). What it takes from the model's own readings or choices is in log entry 37. -/
def Obligations.BadgeReader : Prop :=
  ∀ s : State,
    s.spiresRun = true →
    let coded (t : State) (code rlen : Nat) : State := ((t.set R.CLF_RRESULT_CODE code).set R.CLF_RRESULT_RLEN rlen).cause
        R.CLF_EVENTS_CAUSE 352 352
    let ended (t : State) (code rlen : Nat) : State := coded ((t.setReader
        { t.reader with cmd := 0, phase := .idle, tries := 0, k := [], rndI := [], resp := [], left := [] }).set
        R.CLF_STATUS_RBUSY 0) code rlen
    let alone (t : State) : State := (t.setReader { t.reader with session := none }).set R.CLF_STATUS_RSESSION 0
    let off (t : State) : State := ((((((((((t.setReader {}).set R.CLF_STATUS_RSESSION 0).set R.CLF_STATUS_RCARD 0).set
        R.CLF_UID_UID 0).set R.CLF_UIDX_UID 0).set R.CLF_UIDX_LEN 0).set R.CLF_UIDX_SAK 0).set R.CLF_BADGE_ID_ID 0).set
        R.CLF_STATUS_CARRIER 0).set R.CLF_STATUS_RBUSY 0).set R.CLF_STATUS_MULTI 0
    let fail (t : State) (code : Nat) : State := (off (ended t code 0)).setReader { phase := .reset, at_ := s.tbase }
    let run (t : State) (cmd : Nat) (ph : RdPhase) (tx : List Byte) : State := (t.setReader
        { t.reader with cmd := cmd, phase := ph, tx := tx, tries := 0, wtx := 1, at_ := s.tbase }).set R.CLF_STATUS_RBUSY 1
    let heard : State := s.setReader { s.reader with wtx := 1, at_ := s.tbase }
    let active (t : State) : State := ended ((t.setReader { t.reader with bn := 0, session := none }).set R.CLF_STATUS_RCARD
        1) 0 0
    (∀ (c : Instr), c ∈ [.fieldOn, .clfActivate, .clfExchange 5, .clfAuth, .secureExchange 5, .clfDeactivate, .fieldOff] →
        s.reader.cmd ≠ 0 → s.keepHalted = false →
        exec c s = .next (coded s 0x0809 0))
    ∧ (∀ (c : Instr) (f : Fld) (v : Nat), (c, f, v) ∈ [(.fieldOn, R.CLF_STATUS_CARRIER, 1), (.clfActivate,
        R.CLF_STATUS_CARRIER, 0), (.clfActivate, R.CLF_STATUS_RCARD, 1), (.clfExchange 5, R.CLF_STATUS_RCARD, 0), (.clfAuth,
        R.CLF_STATUS_RCARD, 0), (.secureExchange 5, R.CLF_STATUS_RSESSION, 0), (.clfDeactivate, R.CLF_STATUS_RCARD, 0)] →
        s.reader.cmd = 0 → s.get f = v → s.keepHalted = false →
        exec c s = .next (coded s 0x080A 0))
    ∧ (s.reader.cmd = 0 → s.get R.CLF_STATUS_CARRIER = 0 ∧ s.get R.CLF_STATUS_FIELD = 1 → s.keepHalted = false →
        exec .fieldOn s = .next (coded s 0x0801 0))
    ∧ (s.reader.cmd = 0 → s.get R.CLF_STATUS_CARRIER = 0 ∧ s.get R.CLF_STATUS_FIELD = 0 → s.keepHalted = false →
        exec .fieldOn s = .next (run ((s.setReader {}).set R.CLF_STATUS_CARRIER 1) 1 .guard []))
    ∧ (s.reader.phase = .guard → s.reader.at_ + 5100000 + 5 / 8 ≤ s.tbase →
        exec .carrierGuardEnd s = .next (ended s 0 0))
    ∧ (s.reader.cmd = 0 → s.keepHalted = false →
        exec .fieldOff s = .next (coded (off s) 0 0))
    ∧ (s.reader.phase = .reset → s.reader.at_ + 6000000 + 5 / 8 ≤ s.tbase → s.get R.CLF_STATUS_FIELD = 0 →
        exec .carrierResetEnd s = .next ((s.setReader { s.reader with phase := .idle }).set R.CLF_STATUS_CARRIER 1))
    ∧ (s.reader.phase = .reset → s.reader.at_ + 6000000 + 5 / 8 ≤ s.tbase → s.get R.CLF_STATUS_FIELD = 1 →
        exec .carrierResetEnd s = .next (((((({ s with
              reader := { s.reader with phase := .idle },
              tag := { s.tag with phase := .idle, hand := none, session := none } } : State).set R.CLF_STATUS_TSESSION
          0).set R.CLF_STATUS_FIELD 0).cause R.CLF_EVENTS_CAUSE 352 353).set R.CLF_STATUS_CARRIER 1)))
    ∧ (s.reader.cmd = 0 → s.get R.CLF_STATUS_RCARD = 1 → s.keepHalted = false →
        exec .clfDeactivate s = .next (run (alone s) 6 .deselect [0xC2]))
    ∧ (∀ (coll : Option Nat), s.reader.phase = .deselect →
        exec (.clfFrameReceive [0xC2] (crcA [0xC2]) coll) s = .next (ended ((alone heard).set R.CLF_STATUS_RCARD 0) 0 0))
    ∧ (∀ (bs : List Byte) (coll : Option Nat) (crc : Nat), s.reader.phase = .deselect ∧ s.reader.tries < 2 → crc ≠ crcA bs ∨
        bs ≠ [0xC2] →
        exec (.clfFrameReceive bs crc coll) s = .next (heard.setReader { heard.reader with
              tries := s.reader.tries + 1,
              tx := [BitVec.ofNat 8 ((if s.reader.chain = true then 0xA2 else 0xB2) + s.reader.bn)] }))
    ∧ (s.reader.cmd = 0 → s.get R.CLF_STATUS_CARRIER = 1 ∧ s.get R.CLF_STATUS_RCARD = 0 → s.keepHalted = false →
        exec .clfActivate s = .next (((s.setReader { s.reader with
              cmd := 2, phase := .atqa, tx := [0x52], tries := 0, wtx := 1, at_ := s.tbase, level := 1, uid := [],
              part := [], fwi := 4, sfgi := 0 }).set R.CLF_STATUS_MULTI 0).set R.CLF_STATUS_RBUSY 1))
    ∧ (s.reader.phase = .atqa → s.reader.at_ + s.rdWait + 5 / 8 ≤ s.tbase →
        exec .clfFwtExpiry s = .next (ended heard 0x0802 0))
    ∧ (s.reader.phase ∈ [.anticoll, .select, .ats, .pps] → s.reader.at_ + s.rdWait + 5 / 8 ≤ s.tbase →
        exec .clfFwtExpiry s = .next (fail heard 0x0803))
    ∧ (∀ (bs : List Byte) (crc : Nat) (coll : Option Nat), s.reader.phase = .atqa →
        exec (.clfFrameReceive bs crc coll) s = .next (s.setReader
          { s.reader with wtx := 1, at_ := s.tbase, part := [], phase := .anticoll, tx := [selCode s.reader.level, 0x20] }))
    ∧ (∀ (bs : List Byte) (crc : Nat) (c : Nat), s.reader.phase = .anticoll → c < 32 →
        exec (.clfFrameReceive bs crc (some c)) s = .next ((s.set R.CLF_STATUS_MULTI 1).setReader { s.reader with
              wtx := 1, at_ := s.tbase, part := toLE 5 (ofLE (fitBytes 5 bs) % 2 ^ c + 2 ^ c), phase := .anticoll,
              tx := [selCode s.reader.level, BitVec.ofNat 8 (0x20 + (c + 1) / 8 * 16 + (c + 1) % 8)] ++ (toLE 5 (ofLE (fitBytes 5 bs) % 2 ^ c + 2 ^ c)).take (roundUp (c + 1) 8 / 8) }))
    ∧ (∀ (bs : List Byte) (crc : Nat), s.reader.phase = .anticoll → bs.length = 5 ∧ bs.foldl (· ^^^ ·) 0 = (0 : Byte) →
        exec (.clfFrameReceive bs crc none) s = .next (s.setReader { s.reader with
              wtx := 1, at_ := s.tbase, part := bs, phase := .select, tx := [selCode s.reader.level, 0x70] ++ bs }))
    ∧ (∀ (bs : List Byte) (crc : Nat), s.reader.phase = .anticoll → ¬ (bs.length = 5 ∧ bs.foldl (· ^^^ ·) 0 = (0 : Byte)) →
        exec (.clfFrameReceive bs crc none) s = .next (fail heard 0x0804))
    ∧ (∀ (sak : Byte) (coll : Option Nat), s.reader.phase = .select → sak.getLsbD 2 = true ∧ s.reader.level < 3 ∧
        s.reader.part.head? = some 0x88 →
        exec (.clfFrameReceive [sak] (crcA [sak]) coll) s = .next (s.setReader { s.reader with
              wtx := 1, at_ := s.tbase, level := s.reader.level + 1, uid := s.reader.uid ++ sliceB s.reader.part 1 3,
              part := [], phase := .anticoll, tx := [selCode (s.reader.level + 1), 0x20] }))
    ∧ (∀ (sak : Byte) (coll : Option Nat), s.reader.phase = .select → sak.getLsbD 2 = false ∧ sak.getLsbD 5 = true →
        ∃ t, exec (.clfFrameReceive [sak] (crcA [sak]) coll) s = .next t ∧ t.get R.CLF_UID_UID = ofLE ((s.reader.uid ++
          s.reader.part.take 4).take 8) % 2 ^ 64 ∧ t.get R.CLF_UIDX_UID = ofLE ((s.reader.uid ++ s.reader.part.take 4).drop
          8) % 2 ^ 16 ∧ t.get R.CLF_UIDX_LEN = (s.reader.uid ++ s.reader.part.take 4).length % 16 ∧ t.get R.CLF_UIDX_SAK =
          sak.toNat ∧ t.reader = { s.reader with
              wtx := 1, at_ := s.tbase, uid := s.reader.uid ++ s.reader.part.take 4, phase := .ats, tx := [0xE0, 0x80] } ∧
          ({ t with reader := s.reader, regs := s.regs } : State) = s ∧ (∀ f : Fld, f.key ∉ [R.CLF_UID_UID.key,
          R.CLF_UIDX_UID.key, R.CLF_UIDX_LEN.key, R.CLF_UIDX_SAK.key] → t.get f = s.get f))
    ∧ (∀ (sak : Byte) (coll : Option Nat), s.reader.phase = .select → sak.getLsbD 2 = false ∧ sak.getLsbD 5 = false →
        ∃ t, exec (.clfFrameReceive [sak] (crcA [sak]) coll) s = .next t ∧ t.get R.CLF_RRESULT_CODE = 0x0805 ∧ t.reader.cmd
          = 0 ∧ t.reader.tx = [0x50, 0x00])
    ∧ (∀ (bs : List Byte) (coll : Option Nat), s.reader.phase = .ats → bs = [0x01] →
        exec (.clfFrameReceive bs (crcA bs) coll) s = .next (active (s.setReader
          { s.reader with wtx := 1, at_ := s.tbase, fsc := 32, rate := 0, fwi := 4, sfgi := 0 })))
    ∧ (∀ (t0 ta tb : Byte) (coll : Option Nat), s.reader.phase = .ats → t0.toNat / 16 = 3 ∧ tb.toNat % 16 = 0 →
        exec (.clfFrameReceive [4, t0, ta, tb] (crcA [4, t0, ta, tb]) coll) s = .next
          ((match heard.setReader { heard.reader with fsc := fscOf (t0.toNat % 16), rate := bestRate ta.toNat (s.get R.CLF_RCFG_MAXRATE), fwi := if tb.toNat / 16 = 15 then 4 else tb.toNat / 16, sfgi := 0 } with
              | t => if t.reader.rate = 0 then active t else t.setReader
                  { t.reader with phase := .pps, tx := [0xD0, 0x11, BitVec.ofNat 8 (t.reader.rate * 5)] })))
    ∧ (∀ (t0 ta tb : Byte) (coll : Option Nat), s.reader.phase = .ats → t0.toNat / 16 = 3 ∧ 1 ≤ tb.toNat % 16 ∧ tb.toNat %
        16 ≤ 14 →
        exec (.clfFrameReceive [4, t0, ta, tb] (crcA [4, t0, ta, tb]) coll) s = .next (heard.setReader { heard.reader with
              phase := .sfgt, fsc := fscOf (t0.toNat % 16), rate := bestRate ta.toNat (s.get R.CLF_RCFG_MAXRATE),
              fwi := if tb.toNat / 16 = 15 then 4 else tb.toNat / 16, sfgi := tb.toNat % 16 }))
    ∧ (∀ (coll : Option Nat), s.reader.phase = .pps →
        exec (.clfFrameReceive [0xD0] (crcA [0xD0]) coll) s = .next (active heard))
    ∧ (∀ (bs : List Byte) (coll : Option Nat) (crc : Nat), s.reader.phase ∈ [.select, .ats, .pps] → crc ≠ crcA bs →
        exec (.clfFrameReceive bs crc coll) s = .next (fail heard 0x0804))

/-- EXCHANGE sends the APDU of RBUF in I-blocks and writes the response at +0x200. A bad block, or none in time, is
answered at most twice, then the command fails. AUTH needs an AES-128 key with USAGE ENC and DEC, sends 16 random bytes,
checks MAC_R and answers MAC_I, and opens the session under SK; SECURE_EXCHANGE protects its APDU with AES-CCM, and a
response that fails the tag ends the session with CL_SESSION. What it takes from the model's own readings or choices is in
log entries 22 and 37. -/
def Obligations.BadgeExchanges : Prop :=
  ∀ s : State,
    s.spiresRun = true →
    let coded (t : State) (code rlen : Nat) : State := ((t.set R.CLF_RRESULT_CODE code).set R.CLF_RRESULT_RLEN rlen).cause
        R.CLF_EVENTS_CAUSE 352 352
    let ended (t : State) (code rlen : Nat) : State := coded ((t.setReader
        { t.reader with cmd := 0, phase := .idle, tries := 0, k := [], rndI := [], resp := [], left := [] }).set
        R.CLF_STATUS_RBUSY 0) code rlen
    let alone (t : State) : State := (t.setReader { t.reader with session := none }).set R.CLF_STATUS_RSESSION 0
    let run (t : State) (cmd : Nat) (ph : RdPhase) : State := (t.setReader
        { t.reader with cmd := cmd, phase := ph, tx := [], tries := 0, wtx := 1, at_ := s.tbase }).set R.CLF_STATUS_RBUSY 1
    let block (k : Reader) (more : Bool) (inf : List Byte) : List Byte := BitVec.ofNat 8 (2 + k.bn + (if more = true then 16
        else 0)) :: inf
    let first (t : State) (use : RdUse) (a : List Byte) : State := t.setReader { t.reader with
            use := use, left := a.drop (t.reader.fsc - 3), resp := [], chain := false, tries := 0, phase := .block,
            at_ := s.tbase, tx := block t.reader (!(a.drop (t.reader.fsc - 3)).isEmpty) (a.take (t.reader.fsc - 3)),
            lastI := block t.reader (!(a.drop (t.reader.fsc - 3)).isEmpty) (a.take (t.reader.fsc - 3)) }
    let x : Xfer := { agent := 0x2B3, dom := 0, epoch := s.get R.ART_EPOCH_CURRENT }
    let buf : Nat := s.get R.CLF_RBUF_ADDR * 1024
    let resp (t : State) (bs : List Byte) : State := ended (t.wr x (buf + 0x200) (bs.take 512)) 0 (bs.take 512).length
    let all (inf : List Byte) : List Byte := s.reader.resp ++ inf
    let took (inf : List Byte) : Reader :=
        { s.reader with resp := all inf, bn := 1 - s.reader.bn, tries := 0, chain := false, wtx := 1, at_ := s.tbase }
    (∀ (clen : Nat), s.reader.cmd = 0 → s.get R.CLF_STATUS_RCARD = 1 → 4 ≤ clen ∧ clen ≤ 512 → s.flashWaits buf = false →
        s.keepHalted = false →
        exec (.clfExchange clen) s = .next ((match s.rd x buf clen with | (a, t) => first (run t 3 .block) .plain a)))
    ∧ (s.reader.cmd = 0 → s.get R.CLF_STATUS_RCARD = 1 → s.keepHalted = false →
        exec .clfAuth s = .next ((match s.keyRead 0 (s.get R.CLF_RKEY_INDEX) with
              | (some m, t) => (if m.alg = 1 ∧ m.usage = 3 then (run
                  { t with ent := { t.ent with reqs := t.ent.reqs ++ [.badge] } } 4 .random).setReader
                  { (run t 4 .random).reader with k := m.key } else coded t 0x0807 0)
              | (none, t) => coded t 0x0807 0)))
    ∧ (∀ (clen : Nat) (b : Badge), s.reader.cmd = 0 → s.get R.CLF_STATUS_RSESSION = 1 ∧ s.reader.session = some b → 4 ≤ clen
        ∧ clen ≤ 512 → s.flashWaits buf = false → s.keepHalted = false →
        exec (.secureExchange clen) s = .next ((match s.rd x buf clen with
              | (a, t) => first ((run t 5 .block).setReader
                  { (run t 5 .block).reader with head := 0x84 :: sliceB a 1 3, session := some { b with ci := b.ci + 1 } })
                  .secure (secureApdu (0x84 :: sliceB a 1 3) (ccmSeal b.sk (badgeNonce 1 b.ci b.rnd) (0x84 :: sliceB a 1 3)
                  (apduData a))))))
    ∧ (∀ (pcb : Byte) (inf : List Byte) (coll : Option Nat), s.reader.phase = .block ∧ s.reader.use = .plain → pcb &&& 0xFE
        = 0x02 ∧ pcb.toNat % 2 = s.reader.bn ∧ s.reader.left = [] →
        exec (.clfFrameReceive (pcb :: inf) (crcA (pcb :: inf)) coll) s = .next (resp (s.setReader (took inf)) (all inf)))
    ∧ (∀ (pcb : Byte) (inf : List Byte) (coll : Option Nat), s.reader.phase = .block → pcb &&& 0xFE = 0x12 ∧ pcb.toNat % 2 =
        s.reader.bn ∧ s.reader.left = [] →
        exec (.clfFrameReceive (pcb :: inf) (crcA (pcb :: inf)) coll) s = .next (s.setReader
          { took inf with chain := true, tx := [BitVec.ofNat 8 (0xA2 + (1 - s.reader.bn))] }))
    ∧ (∀ (pcb : Byte) (coll : Option Nat), s.reader.phase = .block → pcb &&& 0xFE = 0xA2 ∧ pcb.toNat % 2 = s.reader.bn ∧
        s.reader.left ≠ [] →
        ∃ t, exec (.clfFrameReceive [pcb] (crcA [pcb]) coll) s = .next t ∧ t.reader.bn = 1 - s.reader.bn ∧ t.reader.tries =
          0 ∧ t.reader.phase = .block ∧ t.reader.left = s.reader.left.drop (s.reader.fsc - 3) ∧ t.reader.tx = block t.reader
          (!t.reader.left.isEmpty) (s.reader.left.take (s.reader.fsc - 3)) ∧ ({ t with reader := s.reader } : State) = s)
    ∧ (∀ (m : Byte) (coll : Option Nat), s.reader.phase = .block → 1 ≤ m.toNat % 64 ∧ m.toNat % 64 ≤ 59 →
        exec (.clfFrameReceive [0xF2, m] (crcA [0xF2, m]) coll) s = .next (s.setReader
          { s.reader with tx := [0xF2, BitVec.ofNat 8 (m.toNat % 64)], wtx := m.toNat % 64, at_ := s.tbase }))
    ∧ (∀ (bs : List Byte) (coll : Option Nat) (crc : Nat), s.reader.phase = .block ∧ s.reader.tries < 2 → crc ≠ crcA bs →
        exec (.clfFrameReceive bs crc coll) s = .next (s.setReader { s.reader with
              wtx := 1, at_ := s.tbase, tries := s.reader.tries + 1,
              tx := [BitVec.ofNat 8 ((if s.reader.chain = true then 0xA2 else 0xB2) + s.reader.bn)] }))
    ∧ (s.reader.phase = .block ∧ s.reader.tries < 2 → s.reader.at_ + s.rdWait + 5 / 8 ≤ s.tbase →
        exec .clfFwtExpiry s = .next (s.setReader { s.reader with
              wtx := 1, at_ := s.tbase, tries := s.reader.tries + 1,
              tx := [BitVec.ofNat 8 ((if s.reader.chain = true then 0xA2 else 0xB2) + s.reader.bn)] }))
    ∧ (s.reader.phase = .block ∧ 2 ≤ s.reader.tries → s.reader.at_ + s.rdWait + 5 / 8 ≤ s.tbase →
        ∃ t, exec .clfFwtExpiry s = .next t ∧ t.get R.CLF_RRESULT_CODE = 0x0803 ∧ t.get R.CLF_STATUS_CARRIER = 0 ∧ t.get
          R.CLF_STATUS_RCARD = 0 ∧ t.reader = { phase := .reset, at_ := s.tbase })
    ∧ (∀ (pcb : Byte) (inf : List Byte) (coll : Option Nat), s.reader.phase = .block ∧ s.reader.use = .begin → pcb &&& 0xFE
        = 0x02 ∧ pcb.toNat % 2 = s.reader.bn ∧ s.reader.left = [] ∧ (s.reader.resp ++ inf).length = 42 →
        ∃ t, exec (.clfFrameReceive (pcb :: inf) (crcA (pcb :: inf)) coll) s = .next t ∧ ((all inf).drop 40 = [0x90, 0x00] ∧
          sliceB (all inf) 24 16 = badgeMac s.reader.k 1 s.reader.rndI ((all inf).take 16) (sliceB (all inf) 16 8) → t =
          first (s.setReader { took inf with head := (all inf).take 16 ++ sliceB (all inf) 16 8 }) .finish ([0x80, 0xA2, 0,
          0, 0x10] ++ badgeMac s.reader.k 2 ((all inf).take 16) s.reader.rndI (sliceB (all inf) 16 8))) ∧ (¬ ((all inf).drop
          40 = [0x90, 0x00] ∧ sliceB (all inf) 24 16 = badgeMac s.reader.k 1 s.reader.rndI ((all inf).take 16) (sliceB (all
          inf) 16 8)) → t = ended ((alone (s.setReader { took inf with tx := [0xC2] })).set R.CLF_STATUS_RCARD 0) 0x0806 0))
    ∧ (∀ (pcb : Byte) (inf : List Byte) (coll : Option Nat), s.reader.phase = .block ∧ s.reader.use = .finish → pcb &&& 0xFE
        = 0x02 ∧ pcb.toNat % 2 = s.reader.bn ∧ s.reader.left = [] ∧ s.reader.resp ++ inf = [0x90, 0x00] →
        exec (.clfFrameReceive (pcb :: inf) (crcA (pcb :: inf)) coll) s = .next (ended (((s.setReader { took inf with
              session := some { sk := badgeMac s.reader.k 3 s.reader.rndI (s.reader.head.take 16) [], rnd := s.reader.rndI.take 8 } }).set
          R.CLF_STATUS_RSESSION 1).set R.CLF_BADGE_ID_ID (ofLE (s.reader.head.drop 16))) 0 0))
    ∧ (∀ (pcb : Byte) (inf : List Byte) (coll : Option Nat) (b : Badge), s.reader.phase = .block ∧ s.reader.use = .secure ∧
        s.reader.session = some b → pcb &&& 0xFE = 0x02 ∧ pcb.toNat % 2 = s.reader.bn ∧ s.reader.left = [] → b.ci <
        0xFFFFFFFF ∧ b.cr < 0xFFFFFFFE ∧ s.reader.head.getD 1 0 ≠ 0xA3 →
        exec (.clfFrameReceive (pcb :: inf) (crcA (pcb :: inf)) coll) s =
          (match if (all inf).drop ((all inf).length - 2) = [0x90, 0x00] then ccmOpen b.sk (badgeNonce 2 b.cr b.rnd) s.reader.head ((all inf).take ((all inf).length - 2)) else none with
              | some pt => .next (resp (s.setReader { took inf with session := some { b with cr := b.cr + 1 } }) pt)
              | none => .next (ended (alone (s.setReader (took inf))) 0x0808 0)))

/-- FDET rises and falls with the field, takes the UID's three bytes and ends the session (R544, R552, R560). The tag
answers REQA, WUPA, anticollision, SELECT and RATS with the values of R552, and beneath its APDUs the blocks of ISO/IEC
14443-4 (the model's reading of that standard, log 38). AUTH_BEGIN answers 6983 without a tag key, with a KEYSTORE
response pending or during a back-off, and AUTH_FINISH opens the session or starts a back-off (R550, R554). A tag key is
loaded only from a fitting entry (R553). What it takes from the model's own readings or choices is in log entries 22 and
38. -/
def Obligations.BadgeTag : Prop :=
  ∀ s : State,
    let none_ (t : State) : State := (t.setTag { t.tag with session := none }).set R.CLF_STATUS_TSESSION 0
    let sw (t : State) (d : List Byte) (w : Nat) : State := t.setTag { t.tag with out := d ++ toBE 2 w }
    let id : List Byte := toLE 8 (if s.pwr.devKnown = true then devId else 0)
    let uid : List Byte := 0x08 :: toLE 3 s.tag.uid
    let bcc : Byte := uid.foldl (· ^^^ ·) 0
    (s.pwr.bedrock = true ∧ (s.get R.PWR_WAKE_EN_EN).testBit 2 = false → s.get R.CLF_STATUS_FIELD = 0 ∧ s.get
        R.CLF_STATUS_CARRIER = 0 →
        exec .fieldDetect s = .next ((((s.setTag { s.tag with uid := s.tmp.lfsr % 2 ^ 24, phase := .idle }).set
          R.CLF_STATUS_FIELD 1).set R.CLF_FIELDS_COUNT (satInc 32 (s.get R.CLF_FIELDS_COUNT))).clfEvent 353))
    ∧ (s.get R.CLF_STATUS_FIELD = 1 →
        exec .fieldLoss s = .next (((none_ (s.setTag { s.tag with phase := .idle, hand := none })).set R.CLF_STATUS_FIELD
          0).clfEvent 353))
    ∧ (exec .fieldCollapse s = .next (none_ (s.setTag { s.tag with phase := .idle, hand := none })))
    ∧ (∀ (bs : List Byte), s.tagOn = true ∧ s.tag.phase = .idle → bs = [0x26] ∨ bs = [0x52] →
        exec (.tagFrameReceive bs) s = .next (s.setTag
          { s.tag with phase := .ready, wasHalted := false, out := [0x04, 0x00] }))
    ∧ (s.tagOn = true ∧ s.tag.phase = .halt →
        exec (.tagFrameReceive [0x26]) s = .next (s.setTag { s.tag with out := [] }))
    ∧ (s.tagOn = true ∧ s.tag.phase = .halt →
        exec (.tagFrameReceive [0x52]) s = .next (s.setTag
          { s.tag with phase := .ready, wasHalted := true, out := [0x04, 0x00] }))
    ∧ (s.tagOn = true ∧ s.tag.phase = .ready →
        exec (.tagFrameReceive [0x93, 0x20]) s = .next (s.setTag { s.tag with phase := .ready, out := uid ++ [bcc] }))
    ∧ (∀ (bs : List Byte), s.tagOn = true ∧ s.tag.phase = .ready → bs.length = 5 →
        exec (.tagFrameReceive (0x93 :: 0x70 :: bs)) s = .next (s.setTag { s.tag with
              phase := if bs = uid ++ [bcc] then .active else if s.tag.wasHalted = true then .halt else .idle,
              out := if bs = uid ++ [bcc] then [0x20] else [] }))
    ∧ (∀ (p : Byte), s.tagOn = true ∧ s.tag.phase = .active → p.toNat % 16 = 0 →
        exec (.tagFrameReceive [0xE0, p]) s = .next (s.setTag
          { s.tag with phase := .iso, iso := { fsd := fsdSize (p.toNat / 16) }, out := [0x05, 0x78, 0x00, 0x80, 0x00] }))
    ∧ (s.tagOn = true ∧ s.tag.phase = .active →
        exec (.tagFrameReceive [0x50, 0x00]) s = .next (s.setTag { s.tag with phase := .halt, out := [] }))
    ∧ (s.tagOn = true ∧ s.tag.phase = .iso →
        exec (.tagFrameReceive [0xC2]) s = .next ((none_ s).setTag { (none_ s).tag with phase := .halt, out := [0xC2] }))
    ∧ (∀ (pcb : Byte) (inf : List Byte), s.tagOn = true ∧ s.tag.phase = .iso → pcb &&& 0xFE = 0x12 ∧ inf.length ≤ 253 →
        exec (.tagFrameReceive (pcb :: inf)) s = .next (s.setTag { s.tag with
              iso := { s.tag.iso with bn := 1 - s.tag.iso.bn, rx := s.tag.iso.rx ++ inf, left := [], last := [BitVec.ofNat 8 (0xA2 + (1 - s.tag.iso.bn))] },
              out := [BitVec.ofNat 8 (0xA2 + (1 - s.tag.iso.bn))] }))
    ∧ (∀ (pcb : Byte), s.tagOn = true ∧ s.tag.phase = .iso → pcb &&& 0xEE = 0xA2 ∧ pcb.toNat % 2 = s.tag.iso.bn →
        exec (.tagFrameReceive [pcb]) s = .next (s.setTag { s.tag with out := s.tag.iso.last }))
    ∧ (∀ (pcb : Byte), s.tagOn = true ∧ s.tag.phase = .iso → pcb &&& 0xFE = 0xB2 ∧ pcb.toNat % 2 ≠ s.tag.iso.bn →
        exec (.tagFrameReceive [pcb]) s = .next (s.setTag { s.tag with
              iso := { s.tag.iso with last := [BitVec.ofNat 8 (0xA2 + s.tag.iso.bn)] },
              out := [BitVec.ofNat 8 (0xA2 + s.tag.iso.bn)] }))
    ∧ (∀ (pcb : Byte), s.tagOn = true ∧ s.tag.phase = .iso → pcb &&& 0xFE = 0xA2 ∧ pcb.toNat % 2 ≠ s.tag.iso.bn ∧
        s.tag.iso.left ≠ [] →
        ∃ t, exec (.tagFrameReceive [pcb]) s = .next t ∧ t.tag.iso.bn = 1 - s.tag.iso.bn ∧ t.tag.iso.left =
          s.tag.iso.left.drop (s.tag.iso.fsd - 3) ∧ t.tag.out = BitVec.ofNat 8 (2 + t.tag.iso.bn + (if t.tag.iso.left = []
          then 0 else 16)) :: s.tag.iso.left.take (s.tag.iso.fsd - 3) ∧ t.tag.iso.last = t.tag.out ∧
          ({ t with tag := s.tag } : State) = s)
    ∧ (∀ (pcb p : Byte), s.tagOn = true ∧ s.tag.phase = .iso ∧ s.tag.iso.rx = [] ∧ s.tag.iso.fsd = 256 → pcb &&& 0xFE = 0x02
        ∧ p.toNat < 16 →
        ∃ t, exec (.tagFrameReceive [pcb, 0x80, 0xB0, p, 0, 0x80]) s = .next t ∧ t.tag.iso.bn = 1 - s.tag.iso.bn ∧ t.tag.out
          = BitVec.ofNat 8 (2 + t.tag.iso.bn) :: (s.tagPage p.toNat ++ [0x90, 0x00]) ∧ ({ t with tag := s.tag } : State) =
          s)
    ∧ (∀ (bs : List Byte), s.tagOn = false →
        exec (.tagFrameReceive bs) s = .next (s))
    ∧ (∀ (data jitter : List Byte), s.tagOn = true ∧ s.tag.phase = .iso → data.length = 16 → s.tag.key ≠ [] ∧ (s.get
        R.TMP_PENDING_RESP).testBit 5 = false ∧ s.get R.CLF_STATUS_BACKOFF = 0 →
        ∃ t, exec (.authBegin 0x80 0 0 data (some 0x28) jitter) s = .next t ∧ t.tag.c = (s.tag.c + 1) % 2 ^ 64 ∧ t.tag.hand
          = some (data, badgeMac s.tag.key 4 (toLE 8 ((s.tag.c + 1) % 2 ^ 64)) (fitBytes 16 jitter) []) ∧ t.tag.out =
          badgeMac s.tag.key 4 (toLE 8 ((s.tag.c + 1) % 2 ^ 64)) (fitBytes 16 jitter) [] ++ id ++ badgeMac s.tag.key 1 data
          (badgeMac s.tag.key 4 (toLE 8 ((s.tag.c + 1) % 2 ^ 64)) (fitBytes 16 jitter) []) id ++ [0x90, 0x00] ∧
          ({ t with tag := s.tag } : State) = s)
    ∧ (∀ (data jitter : List Byte), s.tagOn = true ∧ s.tag.phase = .iso → data.length = 16 → s.tag.key = [] ∨ (s.get
        R.TMP_PENDING_RESP).testBit 5 = true ∨ (s.get R.CLF_STATUS_BACKOFF = 1 ∧ s.get R.TIME_TSTAMP_TICKS < s.tag.backoff +
        32768) →
        exec (.authBegin 0x80 0 0 data (some 0x28) jitter) s = .next (sw s [] 0x6983))
    ∧ (∀ (data ri rr : List Byte), s.tagOn = true ∧ s.tag.phase = .iso → data.length = 16 ∧ s.tag.key ≠ [] → s.tag.hand =
        some (ri, rr) →
        ∃ t, exec (.authFinish 0x80 0 0 data) s = .next t ∧ (data = badgeMac s.tag.key 2 rr ri id → t = sw ((s.setTag
          { s.tag with hand := none, session := some { sk := badgeMac s.tag.key 3 ri rr [], rnd := ri.take 8 } }).set
          R.CLF_STATUS_TSESSION 1) [] 0x9000) ∧ (data ≠ badgeMac s.tag.key 2 rr ri id → t = sw ((((s.setTag
          { s.tag with hand := none, backoff := s.get R.TIME_TSTAMP_TICKS }).set R.CLF_STATUS_BACKOFF 1).set
          R.CLF_AUTHFAIL_COUNT (satInc 16 (s.get R.CLF_AUTHFAIL_COUNT))).clfEvent 356) [] 0x6982))
    ∧ (s.tag.backoff + 32768 ≤ s.get R.TIME_TSTAMP_TICKS →
        exec .tagBackoffExpiry s = .next (s.set R.CLF_STATUS_BACKOFF 0))
    ∧ (∀ (i : Nat), s.spiresRun = true → i < 2 ^ 24 → s.keepHalted = false →
        exec (.tagKeyLoad i) s = .next (s.setTag { s.tag with load := some i }))
    ∧ (∀ (i : Nat), s.spiresRun = true → s.tag.load = some i →
        exec .tagKeyLoadEnd s = .next ((match (s.setTag { s.tag with load := none }).keyRead 0 i with
              | (some m, t) => (if m.alg = 1 ∧ m.usage = 3 then (((t.setTag { t.tag with key := m.key }).set
                  R.CLF_TKEY_STATUS_LOADED 1).set R.CLF_TKEY_STATUS_CODE 0).clfEvent 357 else (t.set R.CLF_TKEY_STATUS_CODE
                  0x0807).clfEvent 357)
              | (none, t) => (t.set R.CLF_TKEY_STATUS_CODE 0x0807).clfEvent 357)))
    ∧ (s.spiresRun = true → s.keepHalted = false →
        exec .tagKeyClear s = .next ((s.setTag { s.tag with key := [] }).set R.CLF_TKEY_STATUS_LOADED 0))

/-- In clear, only pages 0 to 15 can be read; the session's commands need the session's protection (6982), and a tag
failure ends it (6988). Under the session READ answers a page, STATUS the mailbox, WRITE fills the fill buffer, COMMIT
gives it to the keep with the next SEQ, ACK returns an OUT buffer and END closes the session; each answer is sealed and
counted. The keep releases IN buffers and publishes OUT buffers. All four hand-overs are latched, and take effect on the
next bedrock edge, whose TSTAMP a header carries (R559, R560). What it takes from the model's own readings or choices is
in log entries 22 and 38. -/
def Obligations.TagMailbox : Prop :=
  ∀ s : State,
    let sw (t : State) (d : List Byte) (w : Nat) : State := t.setTag { t.tag with out := d ++ toBE 2 w }
    let none_ (t : State) : State := (t.setTag { t.tag with session := none }).set R.CLF_STATUS_TSESSION 0
    let aad (ins p1 p2 : Nat) : List Byte := [0x84, BitVec.ofNat 8 ins, BitVec.ofNat 8 p1, BitVec.ofNat 8 p2]
    let answered (b : Badge) (ins p1 p2 : Nat) (t : State) (d : List Byte) (w : Nat) : State := sw ((t.setTag
        { t.tag with session := some { b with ci := b.ci + 1, cr := b.cr + 1 } }).set R.CLF_STATUS_TSESSION 1) (ccmSeal b.sk
        (badgeNonce 2 b.cr b.rnd) (aad ins p1 p2) (d ++ toBE 2 w)) 0x9000
    let opened (b : Badge) (ins p1 p2 : Nat) (data : List Byte) : Option (List Byte) := ccmOpen b.sk (badgeNonce 1 b.ci
        b.rnd) (aad ins p1 p2) data
    let put (t : State) (off : Nat) (bs : List Byte) : State := t.setTag
        { t.tag with mem := ((List.range bs.length).zip bs).foldl (fun m e => tabSet 0 m (off + e.1) e.2) t.tag.mem }
    let asked (a : MboxAsk) : State := s.setTag { s.tag with asked := s.tag.asked ++ [a] }
    let at_ (t : State) (off n : Nat) : List Byte := (List.range n).map fun (i : Nat) => tabGet 0 t.tag.mem (off + i)
    (∀ (p1 : Nat), s.tagOn = true ∧ s.tag.phase = .iso → p1 < 16 →
        exec (.tagRead 0x80 p1 0 [] (some 0x80)) s = .next (sw s (s.tagPage p1) 0x9000))
    ∧ (∀ (c : Instr), s.tagOn = true ∧ s.tag.phase = .iso → c ∈ [.tagRead 0x80 16 0 [] (some 0x80), .status 0x80 0 0 [],
        .tagWrite 0x80 0 16 [1], .commit 0x80 0 0 [0, 0], .ack 0x80 0 0 [], .endSession 0x80 0 0 []] →
        exec c s = .next (sw s [] 0x6982))
    ∧ (∀ (p1 : Nat) (data : List Byte) (b : Badge) (le : Option Nat), s.tagOn = true ∧ s.tag.phase = .iso ∧ s.tag.session =
        some b → p1 < 32 ∧ b.ci < 0xFFFFFFFE ∧ b.cr < 0xFFFFFFFE →
        ∃ t, exec (.tagRead 0x84 p1 0 data le) s = .next t ∧ (opened b 0xB0 p1 0 data = some [] → t = answered b 0xB0 p1 0 s
          (s.tagPage p1) 0x9000) ∧ (opened b 0xB0 p1 0 data = none → t = sw (none_ s) [] 0x6988))
    ∧ (∀ (data : List Byte) (b : Badge), s.tagOn = true ∧ s.tag.phase = .iso ∧ s.tag.session = some b → b.ci < 0xFFFFFFFE ∧
        b.cr < 0xFFFFFFFE →
        ∃ t, exec (.status 0x84 0 0 data) s = .next t ∧ (opened b 0xC0 0 0 data = some [] → t = answered b 0xC0 0 0 s (toLE
          1 (s.get R.CLF_MBOX_IN_OWN + s.get R.CLF_MBOX_OUT_OWN * 4) ++ toLE 1 (s.get R.CLF_MBOX_FILL) ++ toLE 1 (s.get
          R.CLF_MBOX_LATEST) ++ [0] ++ toLE 4 (s.get R.CLF_MB_SEQ_IN_SEQ) ++ toLE 4 (s.get R.CLF_MB_SEQ_OUT_SEQ) ++ toLE 2
          (s.get R.CLF_AUTHFAIL_COUNT) ++ [0, 0]) 0x9000) ∧ (opened b 0xC0 0 0 data = none → t = sw (none_ s) [] 0x6988))
    ∧ (∀ (p1 p2 : Nat) (data : List Byte) (b : Badge), s.tagOn = true ∧ s.tag.phase = .iso ∧ s.tag.session = some b → b.ci <
        0xFFFFFFFE ∧ b.cr < 0xFFFFFFFE ∧ p2 < 256 ∧ 16 ≤ p1 * 256 + p2 ∧ p1 * 256 + p2 ≤ 511 → (s.get
        R.CLF_MBOX_IN_OWN).testBit (s.get R.CLF_MBOX_FILL) = false ∧ s.tag.asked = [] →
        ∃ t, exec (.tagWrite 0x84 p1 p2 data) s = .next t ∧ (opened b 0xD6 p1 p2 data = none → t = sw (none_ s) [] 0x6988) ∧
          (∀ pt, opened b 0xD6 p1 p2 data = some pt → 1 ≤ pt.length → pt.length ≤ 128 → p1 * 256 + p2 + pt.length ≤ 512 → t
          = answered b 0xD6 p1 p2 (put s (s.get R.CLF_MBOX_FILL * 512 + (p1 * 256 + p2)) pt) [] 0x9000))
    ∧ (∀ (data : List Byte) (b : Badge), s.tagOn = true ∧ s.tag.phase = .iso ∧ s.tag.session = some b ∧ s.tag.asked = [] →
        b.ci < 0xFFFFFFFE ∧ b.cr < 0xFFFFFFFE ∧ s.get R.CLF_MBOX_FILL = 0 ∧ s.get R.CLF_MBOX_IN_OWN = 0 →
        ∃ t, exec (.commit 0x84 0 0 data) s = .next t ∧ (opened b 0xD8 0 0 data = none → t = sw (none_ s) [] 0x6988) ∧ (∀
          pt, opened b 0xD8 0 0 data = some pt → pt.length = 2 → ofLE pt ≤ 496 → t = answered b 0xD8 0 0 (asked (.commit 0
          (ofLE pt))) [] 0x9000))
    ∧ (∀ (p1 : Nat) (data : List Byte) (b : Badge), s.tagOn = true ∧ s.tag.phase = .iso ∧ s.tag.session = some b → b.ci <
        0xFFFFFFFE ∧ b.cr < 0xFFFFFFFE ∧ p1 < 2 ∧ (s.get R.CLF_MBOX_OUT_OWN).testBit p1 = true ∧ s.tag.asked = [] →
        ∃ t, exec (.ack 0x84 p1 0 data) s = .next t ∧ (opened b 0xDA p1 0 data = none → t = sw (none_ s) [] 0x6988) ∧
          (opened b 0xDA p1 0 data = some [] → t = answered b 0xDA p1 0 (asked (.ack p1)) [] 0x9000))
    ∧ (∀ (data : List Byte) (b : Badge), s.tagOn = true ∧ s.tag.phase = .iso ∧ s.tag.session = some b →
        ∃ t, exec (.endSession 0x84 0 0 data) s = .next t ∧ (opened b 0xA3 0 0 data = none → t = sw (none_ s) [] 0x6988) ∧
          (opened b 0xA3 0 0 data = some [] → t.tag.session = none ∧ t.get R.CLF_STATUS_TSESSION = 0 ∧ t.tag.out = ccmSeal
          b.sk (badgeNonce 2 b.cr b.rnd) (aad 0xA3 0 0) [0x90, 0x00] ++ [0x90, 0x00]))
    ∧ (∀ (m : Nat), s.spiresRun = true → m < 4 → s.keepHalted = false →
        exec (.mailboxRelease m) s = .next (asked (.release m)))
    ∧ (∀ (m len : Nat), s.spiresRun = true → m < 4 ∧ len < 512 → s.keepHalted = false →
        exec (.mailboxPublish m len) s = .next (asked (.publish m len)))
    ∧ (∀ (len : Nat), s.pending = [] ∧ s.mainOn = false ∧ s.pwr.bedrock = true ∧ s.pwr.main = .off → s.tag.asked = [.commit
        0 len] ∧ s.get R.CLF_MBOX_IN_OWN = 0 ∧ s.get R.TIME_TSTAMP_TICKS < 2 ^ 48 - 1 →
        ∃ t, step s = .next t ∧ t.get R.CLF_MBOX_IN_OWN = 1 ∧ t.get R.CLF_MBOX_FILL = 1 ∧ t.get R.CLF_MB_SEQ_IN_SEQ = (s.get
          R.CLF_MB_SEQ_IN_SEQ + 1) % 2 ^ 32 ∧ at_ t 0 16 = toLE 4 (t.get R.CLF_MB_SEQ_IN_SEQ) ++ toLE 2 len ++ [0, 0] ++
          toLE 6 (s.get R.TIME_TSTAMP_TICKS + 1) ++ [0, 0] ∧ t.tag.asked = [] ∧ t.tag.committed = true)
    ∧ (s.pending = [] ∧ s.mainOn = false ∧ s.pwr.bedrock = true → s.tag.asked = [.ack 0, .release 2] ∧ s.get
        R.CLF_MBOX_IN_OWN = 3 ∧ s.get R.CLF_MBOX_FILL < 2 ∧ s.get R.CLF_MBOX_OUT_OWN = 1 →
        ∃ t, step s = .next t ∧ t.get R.CLF_MBOX_IN_OWN = 1 ∧ t.get R.CLF_MBOX_FILL = 1 ∧ t.get R.CLF_MBOX_OUT_OWN = 0 ∧
          t.tag.asked = [])
    ∧ (∀ (len : Nat), s.pending = [] ∧ s.mainOn = false ∧ s.pwr.bedrock = true → s.tag.asked = [.publish 2 len] ∧ s.get
        R.CLF_MBOX_OUT_OWN = 0 ∧ len ≤ 496 ∧ s.get R.TIME_TSTAMP_TICKS < 2 ^ 48 - 1 →
        ∃ t, step s = .next t ∧ t.get R.CLF_MBOX_OUT_OWN = 2 ∧ t.get R.CLF_MBOX_LATEST = 1 ∧ t.get R.CLF_MB_SEQ_OUT_SEQ =
          (s.get R.CLF_MB_SEQ_OUT_SEQ + 1) % 2 ^ 32 ∧ at_ t 1536 16 = toLE 4 (t.get R.CLF_MB_SEQ_OUT_SEQ) ++ toLE 2 len ++
          [0, 0] ++ toLE 6 (s.get R.TIME_TSTAMP_TICKS + 1) ++ [0, 0] ∧ t.tag.asked = [])
end

