-- ==== Sys2Proof/Laws/State.lean ====
section
/-!
SUPPORT. What the named updates of the state leave as it was: for each update one lemma per field of State, and what
a register field and a byte of memory read after it.
-/

namespace Sys2Proof.Machine

section
variable (s : State) (f : Fld) (v : Nat)
@[simp] theorem set_mem : (s.set f v |>.mem) = s.mem := rfl
@[simp] theorem set_irq : (s.set f v |>.irq) = s.irq := rfl
@[simp] theorem set_pending : (s.set f v |>.pending) = s.pending := rfl
@[simp] theorem set_free : (s.set f v |>.free) = s.free := rfl
@[simp] theorem set_latch : (s.set f v |>.latch) = s.latch := rfl
@[simp] theorem set_reply : (s.set f v |>.reply) = s.reply := rfl
@[simp] theorem set_bus : (s.set f v |>.bus) = s.bus := rfl
@[simp] theorem set_regQ : (s.set f v |>.regQ) = s.regQ := rfl
@[simp] theorem set_artCur : (s.set f v |>.artCur) = s.artCur := rfl
@[simp] theorem set_artShadow : (s.set f v |>.artShadow) = s.artShadow := rfl
@[simp] theorem set_faultQ : (s.set f v |>.faultQ) = s.faultQ := rfl
@[simp] theorem set_cores : (s.set f v |>.cores) = s.cores := rfl
@[simp] theorem set_spires : (s.set f v |>.spires) = s.spires := rfl
@[simp] theorem set_domes : (s.set f v |>.domes) = s.domes := rfl
@[simp] theorem set_tmp : (s.set f v |>.tmp) = s.tmp := rfl
@[simp] theorem set_memc : (s.set f v |>.memc) = s.memc := rfl
@[simp] theorem set_mmu : (s.set f v |>.mmu) = s.mmu := rfl
@[simp] theorem set_mover : (s.set f v |>.mover) = s.mover := rfl
@[simp] theorem set_cmds : (s.set f v |>.cmds) = s.cmds := rfl
@[simp] theorem set_key : (s.set f v |>.key) = s.key := rfl
@[simp] theorem set_pools : (s.set f v |>.pools) = s.pools := rfl
@[simp] theorem set_ent : (s.set f v |>.ent) = s.ent := rfl
@[simp] theorem set_jsc : (s.set f v |>.jsc) = s.jsc := rfl
@[simp] theorem set_jrn : (s.set f v |>.jrn) = s.jrn := rfl
@[simp] theorem set_net : (s.set f v |>.net) = s.net := rfl
@[simp] theorem set_ses : (s.set f v |>.ses) = s.ses := rfl
@[simp] theorem set_fed : (s.set f v |>.fed) = s.fed := rfl
@[simp] theorem set_fcu : (s.set f v |>.fcu) = s.fcu := rfl
@[simp] theorem set_pwr : (s.set f v |>.pwr) = s.pwr := rfl
@[simp] theorem set_stb : (s.set f v |>.stb) = s.stb := rfl
@[simp] theorem set_flc : (s.set f v |>.flc) = s.flc := rfl
@[simp] theorem set_icc : (s.set f v |>.icc) = s.icc := rfl
@[simp] theorem set_cer : (s.set f v |>.cer) = s.cer := rfl
@[simp] theorem set_sdh : (s.set f v |>.sdh) = s.sdh := rfl
@[simp] theorem set_reader : (s.set f v |>.reader) = s.reader := rfl
@[simp] theorem set_tag : (s.set f v |>.tag) = s.tag := rfl
@[simp] theorem set_byte (x : Nat) : (s.set f v |>.byte x) = s.byte x := rfl
end

section
variable (s : State) (v : Nat)
@[simp] theorem raise_regs : (s.raise v |>.regs) = s.regs := rfl
@[simp] theorem raise_mem : (s.raise v |>.mem) = s.mem := rfl
@[simp] theorem raise_pending : (s.raise v |>.pending) = s.pending := rfl
@[simp] theorem raise_free : (s.raise v |>.free) = s.free := rfl
@[simp] theorem raise_latch : (s.raise v |>.latch) = s.latch := rfl
@[simp] theorem raise_reply : (s.raise v |>.reply) = s.reply := rfl
@[simp] theorem raise_bus : (s.raise v |>.bus) = s.bus := rfl
@[simp] theorem raise_regQ : (s.raise v |>.regQ) = s.regQ := rfl
@[simp] theorem raise_artCur : (s.raise v |>.artCur) = s.artCur := rfl
@[simp] theorem raise_artShadow : (s.raise v |>.artShadow) = s.artShadow := rfl
@[simp] theorem raise_faultQ : (s.raise v |>.faultQ) = s.faultQ := rfl
@[simp] theorem raise_cores : (s.raise v |>.cores) = s.cores := rfl
@[simp] theorem raise_spires : (s.raise v |>.spires) = s.spires := rfl
@[simp] theorem raise_domes : (s.raise v |>.domes) = s.domes := rfl
@[simp] theorem raise_tmp : (s.raise v |>.tmp) = s.tmp := rfl
@[simp] theorem raise_memc : (s.raise v |>.memc) = s.memc := rfl
@[simp] theorem raise_mmu : (s.raise v |>.mmu) = s.mmu := rfl
@[simp] theorem raise_mover : (s.raise v |>.mover) = s.mover := rfl
@[simp] theorem raise_cmds : (s.raise v |>.cmds) = s.cmds := rfl
@[simp] theorem raise_key : (s.raise v |>.key) = s.key := rfl
@[simp] theorem raise_pools : (s.raise v |>.pools) = s.pools := rfl
@[simp] theorem raise_ent : (s.raise v |>.ent) = s.ent := rfl
@[simp] theorem raise_jsc : (s.raise v |>.jsc) = s.jsc := rfl
@[simp] theorem raise_jrn : (s.raise v |>.jrn) = s.jrn := rfl
@[simp] theorem raise_net : (s.raise v |>.net) = s.net := rfl
@[simp] theorem raise_ses : (s.raise v |>.ses) = s.ses := rfl
@[simp] theorem raise_fed : (s.raise v |>.fed) = s.fed := rfl
@[simp] theorem raise_fcu : (s.raise v |>.fcu) = s.fcu := rfl
@[simp] theorem raise_pwr : (s.raise v |>.pwr) = s.pwr := rfl
@[simp] theorem raise_stb : (s.raise v |>.stb) = s.stb := rfl
@[simp] theorem raise_flc : (s.raise v |>.flc) = s.flc := rfl
@[simp] theorem raise_icc : (s.raise v |>.icc) = s.icc := rfl
@[simp] theorem raise_cer : (s.raise v |>.cer) = s.cer := rfl
@[simp] theorem raise_sdh : (s.raise v |>.sdh) = s.sdh := rfl
@[simp] theorem raise_reader : (s.raise v |>.reader) = s.reader := rfl
@[simp] theorem raise_tag : (s.raise v |>.tag) = s.tag := rfl
@[simp] theorem raise_get (r : Fld) : (s.raise v |>.get r) = s.get r := rfl
@[simp] theorem raise_byte (x : Nat) : (s.raise v |>.byte x) = s.byte x := rfl
end

section
variable (s : State) (a : Nat) (b : Byte)
@[simp] theorem putByte_regs : (s.putByte a b |>.regs) = s.regs := rfl
@[simp] theorem putByte_irq : (s.putByte a b |>.irq) = s.irq := rfl
@[simp] theorem putByte_pending : (s.putByte a b |>.pending) = s.pending := rfl
@[simp] theorem putByte_free : (s.putByte a b |>.free) = s.free := rfl
@[simp] theorem putByte_latch : (s.putByte a b |>.latch) = s.latch := rfl
@[simp] theorem putByte_reply : (s.putByte a b |>.reply) = s.reply := rfl
@[simp] theorem putByte_bus : (s.putByte a b |>.bus) = s.bus := rfl
@[simp] theorem putByte_regQ : (s.putByte a b |>.regQ) = s.regQ := rfl
@[simp] theorem putByte_artCur : (s.putByte a b |>.artCur) = s.artCur := rfl
@[simp] theorem putByte_artShadow : (s.putByte a b |>.artShadow) = s.artShadow := rfl
@[simp] theorem putByte_faultQ : (s.putByte a b |>.faultQ) = s.faultQ := rfl
@[simp] theorem putByte_cores : (s.putByte a b |>.cores) = s.cores := rfl
@[simp] theorem putByte_spires : (s.putByte a b |>.spires) = s.spires := rfl
@[simp] theorem putByte_domes : (s.putByte a b |>.domes) = s.domes := rfl
@[simp] theorem putByte_tmp : (s.putByte a b |>.tmp) = s.tmp := rfl
@[simp] theorem putByte_memc : (s.putByte a b |>.memc) = s.memc := rfl
@[simp] theorem putByte_mmu : (s.putByte a b |>.mmu) = s.mmu := rfl
@[simp] theorem putByte_mover : (s.putByte a b |>.mover) = s.mover := rfl
@[simp] theorem putByte_cmds : (s.putByte a b |>.cmds) = s.cmds := rfl
@[simp] theorem putByte_key : (s.putByte a b |>.key) = s.key := rfl
@[simp] theorem putByte_pools : (s.putByte a b |>.pools) = s.pools := rfl
@[simp] theorem putByte_ent : (s.putByte a b |>.ent) = s.ent := rfl
@[simp] theorem putByte_jsc : (s.putByte a b |>.jsc) = s.jsc := rfl
@[simp] theorem putByte_jrn : (s.putByte a b |>.jrn) = s.jrn := rfl
@[simp] theorem putByte_net : (s.putByte a b |>.net) = s.net := rfl
@[simp] theorem putByte_ses : (s.putByte a b |>.ses) = s.ses := rfl
@[simp] theorem putByte_fed : (s.putByte a b |>.fed) = s.fed := rfl
@[simp] theorem putByte_fcu : (s.putByte a b |>.fcu) = s.fcu := rfl
@[simp] theorem putByte_pwr : (s.putByte a b |>.pwr) = s.pwr := rfl
@[simp] theorem putByte_stb : (s.putByte a b |>.stb) = s.stb := rfl
@[simp] theorem putByte_flc : (s.putByte a b |>.flc) = s.flc := rfl
@[simp] theorem putByte_icc : (s.putByte a b |>.icc) = s.icc := rfl
@[simp] theorem putByte_cer : (s.putByte a b |>.cer) = s.cer := rfl
@[simp] theorem putByte_sdh : (s.putByte a b |>.sdh) = s.sdh := rfl
@[simp] theorem putByte_reader : (s.putByte a b |>.reader) = s.reader := rfl
@[simp] theorem putByte_tag : (s.putByte a b |>.tag) = s.tag := rfl
@[simp] theorem putByte_get (r : Fld) : (s.putByte a b |>.get r) = s.get r := rfl
end

section
variable (s : State) (a n : Nat)
@[simp] theorem dropBytes_regs : (s.dropBytes a n |>.regs) = s.regs := rfl
@[simp] theorem dropBytes_irq : (s.dropBytes a n |>.irq) = s.irq := rfl
@[simp] theorem dropBytes_pending : (s.dropBytes a n |>.pending) = s.pending := rfl
@[simp] theorem dropBytes_free : (s.dropBytes a n |>.free) = s.free := rfl
@[simp] theorem dropBytes_latch : (s.dropBytes a n |>.latch) = s.latch := rfl
@[simp] theorem dropBytes_reply : (s.dropBytes a n |>.reply) = s.reply := rfl
@[simp] theorem dropBytes_bus : (s.dropBytes a n |>.bus) = s.bus := rfl
@[simp] theorem dropBytes_regQ : (s.dropBytes a n |>.regQ) = s.regQ := rfl
@[simp] theorem dropBytes_artCur : (s.dropBytes a n |>.artCur) = s.artCur := rfl
@[simp] theorem dropBytes_artShadow : (s.dropBytes a n |>.artShadow) = s.artShadow := rfl
@[simp] theorem dropBytes_faultQ : (s.dropBytes a n |>.faultQ) = s.faultQ := rfl
@[simp] theorem dropBytes_cores : (s.dropBytes a n |>.cores) = s.cores := rfl
@[simp] theorem dropBytes_spires : (s.dropBytes a n |>.spires) = s.spires := rfl
@[simp] theorem dropBytes_domes : (s.dropBytes a n |>.domes) = s.domes := rfl
@[simp] theorem dropBytes_tmp : (s.dropBytes a n |>.tmp) = s.tmp := rfl
@[simp] theorem dropBytes_memc : (s.dropBytes a n |>.memc) = s.memc := rfl
@[simp] theorem dropBytes_mmu : (s.dropBytes a n |>.mmu) = s.mmu := rfl
@[simp] theorem dropBytes_mover : (s.dropBytes a n |>.mover) = s.mover := rfl
@[simp] theorem dropBytes_cmds : (s.dropBytes a n |>.cmds) = s.cmds := rfl
@[simp] theorem dropBytes_key : (s.dropBytes a n |>.key) = s.key := rfl
@[simp] theorem dropBytes_pools : (s.dropBytes a n |>.pools) = s.pools := rfl
@[simp] theorem dropBytes_ent : (s.dropBytes a n |>.ent) = s.ent := rfl
@[simp] theorem dropBytes_jsc : (s.dropBytes a n |>.jsc) = s.jsc := rfl
@[simp] theorem dropBytes_jrn : (s.dropBytes a n |>.jrn) = s.jrn := rfl
@[simp] theorem dropBytes_net : (s.dropBytes a n |>.net) = s.net := rfl
@[simp] theorem dropBytes_ses : (s.dropBytes a n |>.ses) = s.ses := rfl
@[simp] theorem dropBytes_fed : (s.dropBytes a n |>.fed) = s.fed := rfl
@[simp] theorem dropBytes_fcu : (s.dropBytes a n |>.fcu) = s.fcu := rfl
@[simp] theorem dropBytes_pwr : (s.dropBytes a n |>.pwr) = s.pwr := rfl
@[simp] theorem dropBytes_stb : (s.dropBytes a n |>.stb) = s.stb := rfl
@[simp] theorem dropBytes_flc : (s.dropBytes a n |>.flc) = s.flc := rfl
@[simp] theorem dropBytes_icc : (s.dropBytes a n |>.icc) = s.icc := rfl
@[simp] theorem dropBytes_cer : (s.dropBytes a n |>.cer) = s.cer := rfl
@[simp] theorem dropBytes_sdh : (s.dropBytes a n |>.sdh) = s.sdh := rfl
@[simp] theorem dropBytes_reader : (s.dropBytes a n |>.reader) = s.reader := rfl
@[simp] theorem dropBytes_tag : (s.dropBytes a n |>.tag) = s.tag := rfl
@[simp] theorem dropBytes_get (r : Fld) : (s.dropBytes a n |>.get r) = s.get r := rfl
end

section
variable (s : State) (c : Nat) (k : Core)
@[simp] theorem setCore_regs : (s.setCore c k |>.regs) = s.regs := rfl
@[simp] theorem setCore_mem : (s.setCore c k |>.mem) = s.mem := rfl
@[simp] theorem setCore_irq : (s.setCore c k |>.irq) = s.irq := rfl
@[simp] theorem setCore_pending : (s.setCore c k |>.pending) = s.pending := rfl
@[simp] theorem setCore_free : (s.setCore c k |>.free) = s.free := rfl
@[simp] theorem setCore_latch : (s.setCore c k |>.latch) = s.latch := rfl
@[simp] theorem setCore_reply : (s.setCore c k |>.reply) = s.reply := rfl
@[simp] theorem setCore_bus : (s.setCore c k |>.bus) = s.bus := rfl
@[simp] theorem setCore_regQ : (s.setCore c k |>.regQ) = s.regQ := rfl
@[simp] theorem setCore_artCur : (s.setCore c k |>.artCur) = s.artCur := rfl
@[simp] theorem setCore_artShadow : (s.setCore c k |>.artShadow) = s.artShadow := rfl
@[simp] theorem setCore_faultQ : (s.setCore c k |>.faultQ) = s.faultQ := rfl
@[simp] theorem setCore_spires : (s.setCore c k |>.spires) = s.spires := rfl
@[simp] theorem setCore_domes : (s.setCore c k |>.domes) = s.domes := rfl
@[simp] theorem setCore_tmp : (s.setCore c k |>.tmp) = s.tmp := rfl
@[simp] theorem setCore_memc : (s.setCore c k |>.memc) = s.memc := rfl
@[simp] theorem setCore_mmu : (s.setCore c k |>.mmu) = s.mmu := rfl
@[simp] theorem setCore_mover : (s.setCore c k |>.mover) = s.mover := rfl
@[simp] theorem setCore_cmds : (s.setCore c k |>.cmds) = s.cmds := rfl
@[simp] theorem setCore_key : (s.setCore c k |>.key) = s.key := rfl
@[simp] theorem setCore_pools : (s.setCore c k |>.pools) = s.pools := rfl
@[simp] theorem setCore_ent : (s.setCore c k |>.ent) = s.ent := rfl
@[simp] theorem setCore_jsc : (s.setCore c k |>.jsc) = s.jsc := rfl
@[simp] theorem setCore_jrn : (s.setCore c k |>.jrn) = s.jrn := rfl
@[simp] theorem setCore_net : (s.setCore c k |>.net) = s.net := rfl
@[simp] theorem setCore_ses : (s.setCore c k |>.ses) = s.ses := rfl
@[simp] theorem setCore_fed : (s.setCore c k |>.fed) = s.fed := rfl
@[simp] theorem setCore_fcu : (s.setCore c k |>.fcu) = s.fcu := rfl
@[simp] theorem setCore_pwr : (s.setCore c k |>.pwr) = s.pwr := rfl
@[simp] theorem setCore_stb : (s.setCore c k |>.stb) = s.stb := rfl
@[simp] theorem setCore_flc : (s.setCore c k |>.flc) = s.flc := rfl
@[simp] theorem setCore_icc : (s.setCore c k |>.icc) = s.icc := rfl
@[simp] theorem setCore_cer : (s.setCore c k |>.cer) = s.cer := rfl
@[simp] theorem setCore_sdh : (s.setCore c k |>.sdh) = s.sdh := rfl
@[simp] theorem setCore_reader : (s.setCore c k |>.reader) = s.reader := rfl
@[simp] theorem setCore_tag : (s.setCore c k |>.tag) = s.tag := rfl
@[simp] theorem setCore_get (r : Fld) : (s.setCore c k |>.get r) = s.get r := rfl
@[simp] theorem setCore_byte (x : Nat) : (s.setCore c k |>.byte x) = s.byte x := rfl
end

section
variable (s : State) (p : Nat) (k : Spire)
@[simp] theorem setSpire_regs : (s.setSpire p k |>.regs) = s.regs := rfl
@[simp] theorem setSpire_mem : (s.setSpire p k |>.mem) = s.mem := rfl
@[simp] theorem setSpire_irq : (s.setSpire p k |>.irq) = s.irq := rfl
@[simp] theorem setSpire_pending : (s.setSpire p k |>.pending) = s.pending := rfl
@[simp] theorem setSpire_free : (s.setSpire p k |>.free) = s.free := rfl
@[simp] theorem setSpire_latch : (s.setSpire p k |>.latch) = s.latch := rfl
@[simp] theorem setSpire_reply : (s.setSpire p k |>.reply) = s.reply := rfl
@[simp] theorem setSpire_bus : (s.setSpire p k |>.bus) = s.bus := rfl
@[simp] theorem setSpire_regQ : (s.setSpire p k |>.regQ) = s.regQ := rfl
@[simp] theorem setSpire_artCur : (s.setSpire p k |>.artCur) = s.artCur := rfl
@[simp] theorem setSpire_artShadow : (s.setSpire p k |>.artShadow) = s.artShadow := rfl
@[simp] theorem setSpire_faultQ : (s.setSpire p k |>.faultQ) = s.faultQ := rfl
@[simp] theorem setSpire_cores : (s.setSpire p k |>.cores) = s.cores := rfl
@[simp] theorem setSpire_domes : (s.setSpire p k |>.domes) = s.domes := rfl
@[simp] theorem setSpire_tmp : (s.setSpire p k |>.tmp) = s.tmp := rfl
@[simp] theorem setSpire_memc : (s.setSpire p k |>.memc) = s.memc := rfl
@[simp] theorem setSpire_mmu : (s.setSpire p k |>.mmu) = s.mmu := rfl
@[simp] theorem setSpire_mover : (s.setSpire p k |>.mover) = s.mover := rfl
@[simp] theorem setSpire_cmds : (s.setSpire p k |>.cmds) = s.cmds := rfl
@[simp] theorem setSpire_key : (s.setSpire p k |>.key) = s.key := rfl
@[simp] theorem setSpire_pools : (s.setSpire p k |>.pools) = s.pools := rfl
@[simp] theorem setSpire_ent : (s.setSpire p k |>.ent) = s.ent := rfl
@[simp] theorem setSpire_jsc : (s.setSpire p k |>.jsc) = s.jsc := rfl
@[simp] theorem setSpire_jrn : (s.setSpire p k |>.jrn) = s.jrn := rfl
@[simp] theorem setSpire_net : (s.setSpire p k |>.net) = s.net := rfl
@[simp] theorem setSpire_ses : (s.setSpire p k |>.ses) = s.ses := rfl
@[simp] theorem setSpire_fed : (s.setSpire p k |>.fed) = s.fed := rfl
@[simp] theorem setSpire_fcu : (s.setSpire p k |>.fcu) = s.fcu := rfl
@[simp] theorem setSpire_pwr : (s.setSpire p k |>.pwr) = s.pwr := rfl
@[simp] theorem setSpire_stb : (s.setSpire p k |>.stb) = s.stb := rfl
@[simp] theorem setSpire_flc : (s.setSpire p k |>.flc) = s.flc := rfl
@[simp] theorem setSpire_icc : (s.setSpire p k |>.icc) = s.icc := rfl
@[simp] theorem setSpire_cer : (s.setSpire p k |>.cer) = s.cer := rfl
@[simp] theorem setSpire_sdh : (s.setSpire p k |>.sdh) = s.sdh := rfl
@[simp] theorem setSpire_reader : (s.setSpire p k |>.reader) = s.reader := rfl
@[simp] theorem setSpire_tag : (s.setSpire p k |>.tag) = s.tag := rfl
@[simp] theorem setSpire_get (r : Fld) : (s.setSpire p k |>.get r) = s.get r := rfl
@[simp] theorem setSpire_byte (x : Nat) : (s.setSpire p k |>.byte x) = s.byte x := rfl
end

section
variable (s : State) (d : Nat) (k : Dome)
@[simp] theorem setDome_regs : (s.setDome d k |>.regs) = s.regs := rfl
@[simp] theorem setDome_mem : (s.setDome d k |>.mem) = s.mem := rfl
@[simp] theorem setDome_irq : (s.setDome d k |>.irq) = s.irq := rfl
@[simp] theorem setDome_pending : (s.setDome d k |>.pending) = s.pending := rfl
@[simp] theorem setDome_free : (s.setDome d k |>.free) = s.free := rfl
@[simp] theorem setDome_latch : (s.setDome d k |>.latch) = s.latch := rfl
@[simp] theorem setDome_reply : (s.setDome d k |>.reply) = s.reply := rfl
@[simp] theorem setDome_bus : (s.setDome d k |>.bus) = s.bus := rfl
@[simp] theorem setDome_regQ : (s.setDome d k |>.regQ) = s.regQ := rfl
@[simp] theorem setDome_artCur : (s.setDome d k |>.artCur) = s.artCur := rfl
@[simp] theorem setDome_artShadow : (s.setDome d k |>.artShadow) = s.artShadow := rfl
@[simp] theorem setDome_faultQ : (s.setDome d k |>.faultQ) = s.faultQ := rfl
@[simp] theorem setDome_cores : (s.setDome d k |>.cores) = s.cores := rfl
@[simp] theorem setDome_spires : (s.setDome d k |>.spires) = s.spires := rfl
@[simp] theorem setDome_tmp : (s.setDome d k |>.tmp) = s.tmp := rfl
@[simp] theorem setDome_memc : (s.setDome d k |>.memc) = s.memc := rfl
@[simp] theorem setDome_mmu : (s.setDome d k |>.mmu) = s.mmu := rfl
@[simp] theorem setDome_mover : (s.setDome d k |>.mover) = s.mover := rfl
@[simp] theorem setDome_cmds : (s.setDome d k |>.cmds) = s.cmds := rfl
@[simp] theorem setDome_key : (s.setDome d k |>.key) = s.key := rfl
@[simp] theorem setDome_pools : (s.setDome d k |>.pools) = s.pools := rfl
@[simp] theorem setDome_ent : (s.setDome d k |>.ent) = s.ent := rfl
@[simp] theorem setDome_jsc : (s.setDome d k |>.jsc) = s.jsc := rfl
@[simp] theorem setDome_jrn : (s.setDome d k |>.jrn) = s.jrn := rfl
@[simp] theorem setDome_net : (s.setDome d k |>.net) = s.net := rfl
@[simp] theorem setDome_ses : (s.setDome d k |>.ses) = s.ses := rfl
@[simp] theorem setDome_fed : (s.setDome d k |>.fed) = s.fed := rfl
@[simp] theorem setDome_fcu : (s.setDome d k |>.fcu) = s.fcu := rfl
@[simp] theorem setDome_pwr : (s.setDome d k |>.pwr) = s.pwr := rfl
@[simp] theorem setDome_stb : (s.setDome d k |>.stb) = s.stb := rfl
@[simp] theorem setDome_flc : (s.setDome d k |>.flc) = s.flc := rfl
@[simp] theorem setDome_icc : (s.setDome d k |>.icc) = s.icc := rfl
@[simp] theorem setDome_cer : (s.setDome d k |>.cer) = s.cer := rfl
@[simp] theorem setDome_sdh : (s.setDome d k |>.sdh) = s.sdh := rfl
@[simp] theorem setDome_reader : (s.setDome d k |>.reader) = s.reader := rfl
@[simp] theorem setDome_tag : (s.setDome d k |>.tag) = s.tag := rfl
@[simp] theorem setDome_get (r : Fld) : (s.setDome d k |>.get r) = s.get r := rfl
@[simp] theorem setDome_byte (x : Nat) : (s.setDome d k |>.byte x) = s.byte x := rfl
end

section
variable (s : State) (n : Nat) (k : Icc)
@[simp] theorem setIcc_regs : (s.setIcc n k |>.regs) = s.regs := rfl
@[simp] theorem setIcc_mem : (s.setIcc n k |>.mem) = s.mem := rfl
@[simp] theorem setIcc_irq : (s.setIcc n k |>.irq) = s.irq := rfl
@[simp] theorem setIcc_pending : (s.setIcc n k |>.pending) = s.pending := rfl
@[simp] theorem setIcc_free : (s.setIcc n k |>.free) = s.free := rfl
@[simp] theorem setIcc_latch : (s.setIcc n k |>.latch) = s.latch := rfl
@[simp] theorem setIcc_reply : (s.setIcc n k |>.reply) = s.reply := rfl
@[simp] theorem setIcc_bus : (s.setIcc n k |>.bus) = s.bus := rfl
@[simp] theorem setIcc_regQ : (s.setIcc n k |>.regQ) = s.regQ := rfl
@[simp] theorem setIcc_artCur : (s.setIcc n k |>.artCur) = s.artCur := rfl
@[simp] theorem setIcc_artShadow : (s.setIcc n k |>.artShadow) = s.artShadow := rfl
@[simp] theorem setIcc_faultQ : (s.setIcc n k |>.faultQ) = s.faultQ := rfl
@[simp] theorem setIcc_cores : (s.setIcc n k |>.cores) = s.cores := rfl
@[simp] theorem setIcc_spires : (s.setIcc n k |>.spires) = s.spires := rfl
@[simp] theorem setIcc_domes : (s.setIcc n k |>.domes) = s.domes := rfl
@[simp] theorem setIcc_tmp : (s.setIcc n k |>.tmp) = s.tmp := rfl
@[simp] theorem setIcc_memc : (s.setIcc n k |>.memc) = s.memc := rfl
@[simp] theorem setIcc_mmu : (s.setIcc n k |>.mmu) = s.mmu := rfl
@[simp] theorem setIcc_mover : (s.setIcc n k |>.mover) = s.mover := rfl
@[simp] theorem setIcc_cmds : (s.setIcc n k |>.cmds) = s.cmds := rfl
@[simp] theorem setIcc_key : (s.setIcc n k |>.key) = s.key := rfl
@[simp] theorem setIcc_pools : (s.setIcc n k |>.pools) = s.pools := rfl
@[simp] theorem setIcc_ent : (s.setIcc n k |>.ent) = s.ent := rfl
@[simp] theorem setIcc_jsc : (s.setIcc n k |>.jsc) = s.jsc := rfl
@[simp] theorem setIcc_jrn : (s.setIcc n k |>.jrn) = s.jrn := rfl
@[simp] theorem setIcc_net : (s.setIcc n k |>.net) = s.net := rfl
@[simp] theorem setIcc_ses : (s.setIcc n k |>.ses) = s.ses := rfl
@[simp] theorem setIcc_fed : (s.setIcc n k |>.fed) = s.fed := rfl
@[simp] theorem setIcc_fcu : (s.setIcc n k |>.fcu) = s.fcu := rfl
@[simp] theorem setIcc_pwr : (s.setIcc n k |>.pwr) = s.pwr := rfl
@[simp] theorem setIcc_stb : (s.setIcc n k |>.stb) = s.stb := rfl
@[simp] theorem setIcc_flc : (s.setIcc n k |>.flc) = s.flc := rfl
@[simp] theorem setIcc_cer : (s.setIcc n k |>.cer) = s.cer := rfl
@[simp] theorem setIcc_sdh : (s.setIcc n k |>.sdh) = s.sdh := rfl
@[simp] theorem setIcc_reader : (s.setIcc n k |>.reader) = s.reader := rfl
@[simp] theorem setIcc_tag : (s.setIcc n k |>.tag) = s.tag := rfl
@[simp] theorem setIcc_get (r : Fld) : (s.setIcc n k |>.get r) = s.get r := rfl
@[simp] theorem setIcc_byte (x : Nat) : (s.setIcc n k |>.byte x) = s.byte x := rfl
end

section
variable (s : State) (i : Nat) (g : Job → Job)
@[simp] theorem updJob_regs : (s.updJob i g |>.regs) = s.regs := rfl
@[simp] theorem updJob_mem : (s.updJob i g |>.mem) = s.mem := rfl
@[simp] theorem updJob_irq : (s.updJob i g |>.irq) = s.irq := rfl
@[simp] theorem updJob_pending : (s.updJob i g |>.pending) = s.pending := rfl
@[simp] theorem updJob_free : (s.updJob i g |>.free) = s.free := rfl
@[simp] theorem updJob_latch : (s.updJob i g |>.latch) = s.latch := rfl
@[simp] theorem updJob_reply : (s.updJob i g |>.reply) = s.reply := rfl
@[simp] theorem updJob_bus : (s.updJob i g |>.bus) = s.bus := rfl
@[simp] theorem updJob_regQ : (s.updJob i g |>.regQ) = s.regQ := rfl
@[simp] theorem updJob_artCur : (s.updJob i g |>.artCur) = s.artCur := rfl
@[simp] theorem updJob_artShadow : (s.updJob i g |>.artShadow) = s.artShadow := rfl
@[simp] theorem updJob_faultQ : (s.updJob i g |>.faultQ) = s.faultQ := rfl
@[simp] theorem updJob_cores : (s.updJob i g |>.cores) = s.cores := rfl
@[simp] theorem updJob_spires : (s.updJob i g |>.spires) = s.spires := rfl
@[simp] theorem updJob_domes : (s.updJob i g |>.domes) = s.domes := rfl
@[simp] theorem updJob_tmp : (s.updJob i g |>.tmp) = s.tmp := rfl
@[simp] theorem updJob_memc : (s.updJob i g |>.memc) = s.memc := rfl
@[simp] theorem updJob_mmu : (s.updJob i g |>.mmu) = s.mmu := rfl
@[simp] theorem updJob_mover : (s.updJob i g |>.mover) = s.mover := rfl
@[simp] theorem updJob_cmds : (s.updJob i g |>.cmds) = s.cmds := rfl
@[simp] theorem updJob_key : (s.updJob i g |>.key) = s.key := rfl
@[simp] theorem updJob_pools : (s.updJob i g |>.pools) = s.pools := rfl
@[simp] theorem updJob_ent : (s.updJob i g |>.ent) = s.ent := rfl
@[simp] theorem updJob_jrn : (s.updJob i g |>.jrn) = s.jrn := rfl
@[simp] theorem updJob_net : (s.updJob i g |>.net) = s.net := rfl
@[simp] theorem updJob_ses : (s.updJob i g |>.ses) = s.ses := rfl
@[simp] theorem updJob_fed : (s.updJob i g |>.fed) = s.fed := rfl
@[simp] theorem updJob_fcu : (s.updJob i g |>.fcu) = s.fcu := rfl
@[simp] theorem updJob_pwr : (s.updJob i g |>.pwr) = s.pwr := rfl
@[simp] theorem updJob_stb : (s.updJob i g |>.stb) = s.stb := rfl
@[simp] theorem updJob_flc : (s.updJob i g |>.flc) = s.flc := rfl
@[simp] theorem updJob_icc : (s.updJob i g |>.icc) = s.icc := rfl
@[simp] theorem updJob_cer : (s.updJob i g |>.cer) = s.cer := rfl
@[simp] theorem updJob_sdh : (s.updJob i g |>.sdh) = s.sdh := rfl
@[simp] theorem updJob_reader : (s.updJob i g |>.reader) = s.reader := rfl
@[simp] theorem updJob_tag : (s.updJob i g |>.tag) = s.tag := rfl
@[simp] theorem updJob_get (r : Fld) : (s.updJob i g |>.get r) = s.get r := rfl
@[simp] theorem updJob_byte (x : Nat) : (s.updJob i g |>.byte x) = s.byte x := rfl
end

section
variable (s : State) (m : FaultMsg)
@[simp] theorem report_regs : (s.report m |>.regs) = s.regs := rfl
@[simp] theorem report_mem : (s.report m |>.mem) = s.mem := rfl
@[simp] theorem report_irq : (s.report m |>.irq) = s.irq := rfl
@[simp] theorem report_pending : (s.report m |>.pending) = s.pending := rfl
@[simp] theorem report_free : (s.report m |>.free) = s.free := rfl
@[simp] theorem report_latch : (s.report m |>.latch) = s.latch := rfl
@[simp] theorem report_reply : (s.report m |>.reply) = s.reply := rfl
@[simp] theorem report_bus : (s.report m |>.bus) = s.bus := rfl
@[simp] theorem report_regQ : (s.report m |>.regQ) = s.regQ := rfl
@[simp] theorem report_artCur : (s.report m |>.artCur) = s.artCur := rfl
@[simp] theorem report_artShadow : (s.report m |>.artShadow) = s.artShadow := rfl
@[simp] theorem report_cores : (s.report m |>.cores) = s.cores := rfl
@[simp] theorem report_spires : (s.report m |>.spires) = s.spires := rfl
@[simp] theorem report_domes : (s.report m |>.domes) = s.domes := rfl
@[simp] theorem report_tmp : (s.report m |>.tmp) = s.tmp := rfl
@[simp] theorem report_memc : (s.report m |>.memc) = s.memc := rfl
@[simp] theorem report_mmu : (s.report m |>.mmu) = s.mmu := rfl
@[simp] theorem report_mover : (s.report m |>.mover) = s.mover := rfl
@[simp] theorem report_cmds : (s.report m |>.cmds) = s.cmds := rfl
@[simp] theorem report_key : (s.report m |>.key) = s.key := rfl
@[simp] theorem report_pools : (s.report m |>.pools) = s.pools := rfl
@[simp] theorem report_ent : (s.report m |>.ent) = s.ent := rfl
@[simp] theorem report_jsc : (s.report m |>.jsc) = s.jsc := rfl
@[simp] theorem report_jrn : (s.report m |>.jrn) = s.jrn := rfl
@[simp] theorem report_net : (s.report m |>.net) = s.net := rfl
@[simp] theorem report_ses : (s.report m |>.ses) = s.ses := rfl
@[simp] theorem report_fed : (s.report m |>.fed) = s.fed := rfl
@[simp] theorem report_fcu : (s.report m |>.fcu) = s.fcu := rfl
@[simp] theorem report_pwr : (s.report m |>.pwr) = s.pwr := rfl
@[simp] theorem report_stb : (s.report m |>.stb) = s.stb := rfl
@[simp] theorem report_flc : (s.report m |>.flc) = s.flc := rfl
@[simp] theorem report_icc : (s.report m |>.icc) = s.icc := rfl
@[simp] theorem report_cer : (s.report m |>.cer) = s.cer := rfl
@[simp] theorem report_sdh : (s.report m |>.sdh) = s.sdh := rfl
@[simp] theorem report_reader : (s.report m |>.reader) = s.reader := rfl
@[simp] theorem report_tag : (s.report m |>.tag) = s.tag := rfl
@[simp] theorem report_get (r : Fld) : (s.report m |>.get r) = s.get r := rfl
@[simp] theorem report_byte (x : Nat) : (s.report m |>.byte x) = s.byte x := rfl
end

section
variable (s : State) (a : Nat) (d : List Byte)
@[simp] theorem answer_regs : (s.answer a d |>.regs) = s.regs := rfl
@[simp] theorem answer_mem : (s.answer a d |>.mem) = s.mem := rfl
@[simp] theorem answer_irq : (s.answer a d |>.irq) = s.irq := rfl
@[simp] theorem answer_pending : (s.answer a d |>.pending) = s.pending := rfl
@[simp] theorem answer_free : (s.answer a d |>.free) = s.free := rfl
@[simp] theorem answer_latch : (s.answer a d |>.latch) = s.latch := rfl
@[simp] theorem answer_bus : (s.answer a d |>.bus) = s.bus := rfl
@[simp] theorem answer_regQ : (s.answer a d |>.regQ) = s.regQ := rfl
@[simp] theorem answer_artCur : (s.answer a d |>.artCur) = s.artCur := rfl
@[simp] theorem answer_artShadow : (s.answer a d |>.artShadow) = s.artShadow := rfl
@[simp] theorem answer_faultQ : (s.answer a d |>.faultQ) = s.faultQ := rfl
@[simp] theorem answer_cores : (s.answer a d |>.cores) = s.cores := rfl
@[simp] theorem answer_spires : (s.answer a d |>.spires) = s.spires := rfl
@[simp] theorem answer_domes : (s.answer a d |>.domes) = s.domes := rfl
@[simp] theorem answer_tmp : (s.answer a d |>.tmp) = s.tmp := rfl
@[simp] theorem answer_memc : (s.answer a d |>.memc) = s.memc := rfl
@[simp] theorem answer_mmu : (s.answer a d |>.mmu) = s.mmu := rfl
@[simp] theorem answer_mover : (s.answer a d |>.mover) = s.mover := rfl
@[simp] theorem answer_cmds : (s.answer a d |>.cmds) = s.cmds := rfl
@[simp] theorem answer_key : (s.answer a d |>.key) = s.key := rfl
@[simp] theorem answer_pools : (s.answer a d |>.pools) = s.pools := rfl
@[simp] theorem answer_ent : (s.answer a d |>.ent) = s.ent := rfl
@[simp] theorem answer_jsc : (s.answer a d |>.jsc) = s.jsc := rfl
@[simp] theorem answer_jrn : (s.answer a d |>.jrn) = s.jrn := rfl
@[simp] theorem answer_net : (s.answer a d |>.net) = s.net := rfl
@[simp] theorem answer_ses : (s.answer a d |>.ses) = s.ses := rfl
@[simp] theorem answer_fed : (s.answer a d |>.fed) = s.fed := rfl
@[simp] theorem answer_fcu : (s.answer a d |>.fcu) = s.fcu := rfl
@[simp] theorem answer_pwr : (s.answer a d |>.pwr) = s.pwr := rfl
@[simp] theorem answer_stb : (s.answer a d |>.stb) = s.stb := rfl
@[simp] theorem answer_flc : (s.answer a d |>.flc) = s.flc := rfl
@[simp] theorem answer_icc : (s.answer a d |>.icc) = s.icc := rfl
@[simp] theorem answer_cer : (s.answer a d |>.cer) = s.cer := rfl
@[simp] theorem answer_sdh : (s.answer a d |>.sdh) = s.sdh := rfl
@[simp] theorem answer_reader : (s.answer a d |>.reader) = s.reader := rfl
@[simp] theorem answer_tag : (s.answer a d |>.tag) = s.tag := rfl
@[simp] theorem answer_get (r : Fld) : (s.answer a d |>.get r) = s.get r := rfl
@[simp] theorem answer_byte (x : Nat) : (s.answer a d |>.byte x) = s.byte x := rfl
end

section
variable (s : State) (c : Cmd)
@[simp] theorem putCmd_regs : (s.putCmd c |>.regs) = s.regs := rfl
@[simp] theorem putCmd_mem : (s.putCmd c |>.mem) = s.mem := rfl
@[simp] theorem putCmd_irq : (s.putCmd c |>.irq) = s.irq := rfl
@[simp] theorem putCmd_pending : (s.putCmd c |>.pending) = s.pending := rfl
@[simp] theorem putCmd_free : (s.putCmd c |>.free) = s.free := rfl
@[simp] theorem putCmd_latch : (s.putCmd c |>.latch) = s.latch := rfl
@[simp] theorem putCmd_reply : (s.putCmd c |>.reply) = s.reply := rfl
@[simp] theorem putCmd_bus : (s.putCmd c |>.bus) = s.bus := rfl
@[simp] theorem putCmd_regQ : (s.putCmd c |>.regQ) = s.regQ := rfl
@[simp] theorem putCmd_artCur : (s.putCmd c |>.artCur) = s.artCur := rfl
@[simp] theorem putCmd_artShadow : (s.putCmd c |>.artShadow) = s.artShadow := rfl
@[simp] theorem putCmd_faultQ : (s.putCmd c |>.faultQ) = s.faultQ := rfl
@[simp] theorem putCmd_cores : (s.putCmd c |>.cores) = s.cores := rfl
@[simp] theorem putCmd_spires : (s.putCmd c |>.spires) = s.spires := rfl
@[simp] theorem putCmd_domes : (s.putCmd c |>.domes) = s.domes := rfl
@[simp] theorem putCmd_tmp : (s.putCmd c |>.tmp) = s.tmp := rfl
@[simp] theorem putCmd_memc : (s.putCmd c |>.memc) = s.memc := rfl
@[simp] theorem putCmd_mmu : (s.putCmd c |>.mmu) = s.mmu := rfl
@[simp] theorem putCmd_mover : (s.putCmd c |>.mover) = s.mover := rfl
@[simp] theorem putCmd_key : (s.putCmd c |>.key) = s.key := rfl
@[simp] theorem putCmd_pools : (s.putCmd c |>.pools) = s.pools := rfl
@[simp] theorem putCmd_ent : (s.putCmd c |>.ent) = s.ent := rfl
@[simp] theorem putCmd_jsc : (s.putCmd c |>.jsc) = s.jsc := rfl
@[simp] theorem putCmd_jrn : (s.putCmd c |>.jrn) = s.jrn := rfl
@[simp] theorem putCmd_net : (s.putCmd c |>.net) = s.net := rfl
@[simp] theorem putCmd_ses : (s.putCmd c |>.ses) = s.ses := rfl
@[simp] theorem putCmd_fed : (s.putCmd c |>.fed) = s.fed := rfl
@[simp] theorem putCmd_fcu : (s.putCmd c |>.fcu) = s.fcu := rfl
@[simp] theorem putCmd_pwr : (s.putCmd c |>.pwr) = s.pwr := rfl
@[simp] theorem putCmd_stb : (s.putCmd c |>.stb) = s.stb := rfl
@[simp] theorem putCmd_flc : (s.putCmd c |>.flc) = s.flc := rfl
@[simp] theorem putCmd_icc : (s.putCmd c |>.icc) = s.icc := rfl
@[simp] theorem putCmd_cer : (s.putCmd c |>.cer) = s.cer := rfl
@[simp] theorem putCmd_sdh : (s.putCmd c |>.sdh) = s.sdh := rfl
@[simp] theorem putCmd_reader : (s.putCmd c |>.reader) = s.reader := rfl
@[simp] theorem putCmd_tag : (s.putCmd c |>.tag) = s.tag := rfl
@[simp] theorem putCmd_get (r : Fld) : (s.putCmd c |>.get r) = s.get r := rfl
@[simp] theorem putCmd_byte (x : Nat) : (s.putCmd c |>.byte x) = s.byte x := rfl
end

section
variable (s : State) (c : Cmd)
@[simp] theorem dropCmd_regs : (s.dropCmd c |>.regs) = s.regs := rfl
@[simp] theorem dropCmd_mem : (s.dropCmd c |>.mem) = s.mem := rfl
@[simp] theorem dropCmd_irq : (s.dropCmd c |>.irq) = s.irq := rfl
@[simp] theorem dropCmd_pending : (s.dropCmd c |>.pending) = s.pending := rfl
@[simp] theorem dropCmd_free : (s.dropCmd c |>.free) = s.free := rfl
@[simp] theorem dropCmd_latch : (s.dropCmd c |>.latch) = s.latch := rfl
@[simp] theorem dropCmd_reply : (s.dropCmd c |>.reply) = s.reply := rfl
@[simp] theorem dropCmd_bus : (s.dropCmd c |>.bus) = s.bus := rfl
@[simp] theorem dropCmd_regQ : (s.dropCmd c |>.regQ) = s.regQ := rfl
@[simp] theorem dropCmd_artCur : (s.dropCmd c |>.artCur) = s.artCur := rfl
@[simp] theorem dropCmd_artShadow : (s.dropCmd c |>.artShadow) = s.artShadow := rfl
@[simp] theorem dropCmd_faultQ : (s.dropCmd c |>.faultQ) = s.faultQ := rfl
@[simp] theorem dropCmd_cores : (s.dropCmd c |>.cores) = s.cores := rfl
@[simp] theorem dropCmd_spires : (s.dropCmd c |>.spires) = s.spires := rfl
@[simp] theorem dropCmd_domes : (s.dropCmd c |>.domes) = s.domes := rfl
@[simp] theorem dropCmd_tmp : (s.dropCmd c |>.tmp) = s.tmp := rfl
@[simp] theorem dropCmd_memc : (s.dropCmd c |>.memc) = s.memc := rfl
@[simp] theorem dropCmd_mmu : (s.dropCmd c |>.mmu) = s.mmu := rfl
@[simp] theorem dropCmd_mover : (s.dropCmd c |>.mover) = s.mover := rfl
@[simp] theorem dropCmd_key : (s.dropCmd c |>.key) = s.key := rfl
@[simp] theorem dropCmd_pools : (s.dropCmd c |>.pools) = s.pools := rfl
@[simp] theorem dropCmd_ent : (s.dropCmd c |>.ent) = s.ent := rfl
@[simp] theorem dropCmd_jsc : (s.dropCmd c |>.jsc) = s.jsc := rfl
@[simp] theorem dropCmd_jrn : (s.dropCmd c |>.jrn) = s.jrn := rfl
@[simp] theorem dropCmd_net : (s.dropCmd c |>.net) = s.net := rfl
@[simp] theorem dropCmd_ses : (s.dropCmd c |>.ses) = s.ses := rfl
@[simp] theorem dropCmd_fed : (s.dropCmd c |>.fed) = s.fed := rfl
@[simp] theorem dropCmd_fcu : (s.dropCmd c |>.fcu) = s.fcu := rfl
@[simp] theorem dropCmd_pwr : (s.dropCmd c |>.pwr) = s.pwr := rfl
@[simp] theorem dropCmd_stb : (s.dropCmd c |>.stb) = s.stb := rfl
@[simp] theorem dropCmd_flc : (s.dropCmd c |>.flc) = s.flc := rfl
@[simp] theorem dropCmd_icc : (s.dropCmd c |>.icc) = s.icc := rfl
@[simp] theorem dropCmd_cer : (s.dropCmd c |>.cer) = s.cer := rfl
@[simp] theorem dropCmd_sdh : (s.dropCmd c |>.sdh) = s.sdh := rfl
@[simp] theorem dropCmd_reader : (s.dropCmd c |>.reader) = s.reader := rfl
@[simp] theorem dropCmd_tag : (s.dropCmd c |>.tag) = s.tag := rfl
@[simp] theorem dropCmd_get (r : Fld) : (s.dropCmd c |>.get r) = s.get r := rfl
@[simp] theorem dropCmd_byte (x : Nat) : (s.dropCmd c |>.byte x) = s.byte x := rfl
end

section
variable (s : State) (k : Jsc)
@[simp] theorem setJsc_regs : (s.setJsc k |>.regs) = s.regs := rfl
@[simp] theorem setJsc_mem : (s.setJsc k |>.mem) = s.mem := rfl
@[simp] theorem setJsc_irq : (s.setJsc k |>.irq) = s.irq := rfl
@[simp] theorem setJsc_pending : (s.setJsc k |>.pending) = s.pending := rfl
@[simp] theorem setJsc_free : (s.setJsc k |>.free) = s.free := rfl
@[simp] theorem setJsc_latch : (s.setJsc k |>.latch) = s.latch := rfl
@[simp] theorem setJsc_reply : (s.setJsc k |>.reply) = s.reply := rfl
@[simp] theorem setJsc_bus : (s.setJsc k |>.bus) = s.bus := rfl
@[simp] theorem setJsc_regQ : (s.setJsc k |>.regQ) = s.regQ := rfl
@[simp] theorem setJsc_artCur : (s.setJsc k |>.artCur) = s.artCur := rfl
@[simp] theorem setJsc_artShadow : (s.setJsc k |>.artShadow) = s.artShadow := rfl
@[simp] theorem setJsc_faultQ : (s.setJsc k |>.faultQ) = s.faultQ := rfl
@[simp] theorem setJsc_cores : (s.setJsc k |>.cores) = s.cores := rfl
@[simp] theorem setJsc_spires : (s.setJsc k |>.spires) = s.spires := rfl
@[simp] theorem setJsc_domes : (s.setJsc k |>.domes) = s.domes := rfl
@[simp] theorem setJsc_tmp : (s.setJsc k |>.tmp) = s.tmp := rfl
@[simp] theorem setJsc_memc : (s.setJsc k |>.memc) = s.memc := rfl
@[simp] theorem setJsc_mmu : (s.setJsc k |>.mmu) = s.mmu := rfl
@[simp] theorem setJsc_mover : (s.setJsc k |>.mover) = s.mover := rfl
@[simp] theorem setJsc_cmds : (s.setJsc k |>.cmds) = s.cmds := rfl
@[simp] theorem setJsc_key : (s.setJsc k |>.key) = s.key := rfl
@[simp] theorem setJsc_pools : (s.setJsc k |>.pools) = s.pools := rfl
@[simp] theorem setJsc_ent : (s.setJsc k |>.ent) = s.ent := rfl
@[simp] theorem setJsc_jsc : (s.setJsc k |>.jsc) = k := rfl
@[simp] theorem setJsc_jrn : (s.setJsc k |>.jrn) = s.jrn := rfl
@[simp] theorem setJsc_net : (s.setJsc k |>.net) = s.net := rfl
@[simp] theorem setJsc_ses : (s.setJsc k |>.ses) = s.ses := rfl
@[simp] theorem setJsc_fed : (s.setJsc k |>.fed) = s.fed := rfl
@[simp] theorem setJsc_fcu : (s.setJsc k |>.fcu) = s.fcu := rfl
@[simp] theorem setJsc_pwr : (s.setJsc k |>.pwr) = s.pwr := rfl
@[simp] theorem setJsc_stb : (s.setJsc k |>.stb) = s.stb := rfl
@[simp] theorem setJsc_flc : (s.setJsc k |>.flc) = s.flc := rfl
@[simp] theorem setJsc_icc : (s.setJsc k |>.icc) = s.icc := rfl
@[simp] theorem setJsc_cer : (s.setJsc k |>.cer) = s.cer := rfl
@[simp] theorem setJsc_sdh : (s.setJsc k |>.sdh) = s.sdh := rfl
@[simp] theorem setJsc_reader : (s.setJsc k |>.reader) = s.reader := rfl
@[simp] theorem setJsc_tag : (s.setJsc k |>.tag) = s.tag := rfl
@[simp] theorem setJsc_get (r : Fld) : (s.setJsc k |>.get r) = s.get r := rfl
@[simp] theorem setJsc_byte (x : Nat) : (s.setJsc k |>.byte x) = s.byte x := rfl
end

section
variable (s : State) (k : Pwr)
@[simp] theorem setPwr_regs : (s.setPwr k |>.regs) = s.regs := rfl
@[simp] theorem setPwr_mem : (s.setPwr k |>.mem) = s.mem := rfl
@[simp] theorem setPwr_irq : (s.setPwr k |>.irq) = s.irq := rfl
@[simp] theorem setPwr_pending : (s.setPwr k |>.pending) = s.pending := rfl
@[simp] theorem setPwr_free : (s.setPwr k |>.free) = s.free := rfl
@[simp] theorem setPwr_latch : (s.setPwr k |>.latch) = s.latch := rfl
@[simp] theorem setPwr_reply : (s.setPwr k |>.reply) = s.reply := rfl
@[simp] theorem setPwr_bus : (s.setPwr k |>.bus) = s.bus := rfl
@[simp] theorem setPwr_regQ : (s.setPwr k |>.regQ) = s.regQ := rfl
@[simp] theorem setPwr_artCur : (s.setPwr k |>.artCur) = s.artCur := rfl
@[simp] theorem setPwr_artShadow : (s.setPwr k |>.artShadow) = s.artShadow := rfl
@[simp] theorem setPwr_faultQ : (s.setPwr k |>.faultQ) = s.faultQ := rfl
@[simp] theorem setPwr_cores : (s.setPwr k |>.cores) = s.cores := rfl
@[simp] theorem setPwr_spires : (s.setPwr k |>.spires) = s.spires := rfl
@[simp] theorem setPwr_domes : (s.setPwr k |>.domes) = s.domes := rfl
@[simp] theorem setPwr_tmp : (s.setPwr k |>.tmp) = s.tmp := rfl
@[simp] theorem setPwr_memc : (s.setPwr k |>.memc) = s.memc := rfl
@[simp] theorem setPwr_mmu : (s.setPwr k |>.mmu) = s.mmu := rfl
@[simp] theorem setPwr_mover : (s.setPwr k |>.mover) = s.mover := rfl
@[simp] theorem setPwr_cmds : (s.setPwr k |>.cmds) = s.cmds := rfl
@[simp] theorem setPwr_key : (s.setPwr k |>.key) = s.key := rfl
@[simp] theorem setPwr_pools : (s.setPwr k |>.pools) = s.pools := rfl
@[simp] theorem setPwr_ent : (s.setPwr k |>.ent) = s.ent := rfl
@[simp] theorem setPwr_jsc : (s.setPwr k |>.jsc) = s.jsc := rfl
@[simp] theorem setPwr_jrn : (s.setPwr k |>.jrn) = s.jrn := rfl
@[simp] theorem setPwr_net : (s.setPwr k |>.net) = s.net := rfl
@[simp] theorem setPwr_ses : (s.setPwr k |>.ses) = s.ses := rfl
@[simp] theorem setPwr_fed : (s.setPwr k |>.fed) = s.fed := rfl
@[simp] theorem setPwr_fcu : (s.setPwr k |>.fcu) = s.fcu := rfl
@[simp] theorem setPwr_pwr : (s.setPwr k |>.pwr) = k := rfl
@[simp] theorem setPwr_stb : (s.setPwr k |>.stb) = s.stb := rfl
@[simp] theorem setPwr_flc : (s.setPwr k |>.flc) = s.flc := rfl
@[simp] theorem setPwr_icc : (s.setPwr k |>.icc) = s.icc := rfl
@[simp] theorem setPwr_cer : (s.setPwr k |>.cer) = s.cer := rfl
@[simp] theorem setPwr_sdh : (s.setPwr k |>.sdh) = s.sdh := rfl
@[simp] theorem setPwr_reader : (s.setPwr k |>.reader) = s.reader := rfl
@[simp] theorem setPwr_tag : (s.setPwr k |>.tag) = s.tag := rfl
@[simp] theorem setPwr_get (r : Fld) : (s.setPwr k |>.get r) = s.get r := rfl
@[simp] theorem setPwr_byte (x : Nat) : (s.setPwr k |>.byte x) = s.byte x := rfl
end

section
variable (s : State) (k : Ent)
@[simp] theorem setEnt_regs : (s.setEnt k |>.regs) = s.regs := rfl
@[simp] theorem setEnt_mem : (s.setEnt k |>.mem) = s.mem := rfl
@[simp] theorem setEnt_irq : (s.setEnt k |>.irq) = s.irq := rfl
@[simp] theorem setEnt_pending : (s.setEnt k |>.pending) = s.pending := rfl
@[simp] theorem setEnt_free : (s.setEnt k |>.free) = s.free := rfl
@[simp] theorem setEnt_latch : (s.setEnt k |>.latch) = s.latch := rfl
@[simp] theorem setEnt_reply : (s.setEnt k |>.reply) = s.reply := rfl
@[simp] theorem setEnt_bus : (s.setEnt k |>.bus) = s.bus := rfl
@[simp] theorem setEnt_regQ : (s.setEnt k |>.regQ) = s.regQ := rfl
@[simp] theorem setEnt_artCur : (s.setEnt k |>.artCur) = s.artCur := rfl
@[simp] theorem setEnt_artShadow : (s.setEnt k |>.artShadow) = s.artShadow := rfl
@[simp] theorem setEnt_faultQ : (s.setEnt k |>.faultQ) = s.faultQ := rfl
@[simp] theorem setEnt_cores : (s.setEnt k |>.cores) = s.cores := rfl
@[simp] theorem setEnt_spires : (s.setEnt k |>.spires) = s.spires := rfl
@[simp] theorem setEnt_domes : (s.setEnt k |>.domes) = s.domes := rfl
@[simp] theorem setEnt_tmp : (s.setEnt k |>.tmp) = s.tmp := rfl
@[simp] theorem setEnt_memc : (s.setEnt k |>.memc) = s.memc := rfl
@[simp] theorem setEnt_mmu : (s.setEnt k |>.mmu) = s.mmu := rfl
@[simp] theorem setEnt_mover : (s.setEnt k |>.mover) = s.mover := rfl
@[simp] theorem setEnt_cmds : (s.setEnt k |>.cmds) = s.cmds := rfl
@[simp] theorem setEnt_key : (s.setEnt k |>.key) = s.key := rfl
@[simp] theorem setEnt_pools : (s.setEnt k |>.pools) = s.pools := rfl
@[simp] theorem setEnt_ent : (s.setEnt k |>.ent) = k := rfl
@[simp] theorem setEnt_jsc : (s.setEnt k |>.jsc) = s.jsc := rfl
@[simp] theorem setEnt_jrn : (s.setEnt k |>.jrn) = s.jrn := rfl
@[simp] theorem setEnt_net : (s.setEnt k |>.net) = s.net := rfl
@[simp] theorem setEnt_ses : (s.setEnt k |>.ses) = s.ses := rfl
@[simp] theorem setEnt_fed : (s.setEnt k |>.fed) = s.fed := rfl
@[simp] theorem setEnt_fcu : (s.setEnt k |>.fcu) = s.fcu := rfl
@[simp] theorem setEnt_pwr : (s.setEnt k |>.pwr) = s.pwr := rfl
@[simp] theorem setEnt_stb : (s.setEnt k |>.stb) = s.stb := rfl
@[simp] theorem setEnt_flc : (s.setEnt k |>.flc) = s.flc := rfl
@[simp] theorem setEnt_icc : (s.setEnt k |>.icc) = s.icc := rfl
@[simp] theorem setEnt_cer : (s.setEnt k |>.cer) = s.cer := rfl
@[simp] theorem setEnt_sdh : (s.setEnt k |>.sdh) = s.sdh := rfl
@[simp] theorem setEnt_reader : (s.setEnt k |>.reader) = s.reader := rfl
@[simp] theorem setEnt_tag : (s.setEnt k |>.tag) = s.tag := rfl
@[simp] theorem setEnt_get (r : Fld) : (s.setEnt k |>.get r) = s.get r := rfl
@[simp] theorem setEnt_byte (x : Nat) : (s.setEnt k |>.byte x) = s.byte x := rfl
end

section
variable (s : State) (k : Fed)
@[simp] theorem setFed_regs : (s.setFed k |>.regs) = s.regs := rfl
@[simp] theorem setFed_mem : (s.setFed k |>.mem) = s.mem := rfl
@[simp] theorem setFed_irq : (s.setFed k |>.irq) = s.irq := rfl
@[simp] theorem setFed_pending : (s.setFed k |>.pending) = s.pending := rfl
@[simp] theorem setFed_free : (s.setFed k |>.free) = s.free := rfl
@[simp] theorem setFed_latch : (s.setFed k |>.latch) = s.latch := rfl
@[simp] theorem setFed_reply : (s.setFed k |>.reply) = s.reply := rfl
@[simp] theorem setFed_bus : (s.setFed k |>.bus) = s.bus := rfl
@[simp] theorem setFed_regQ : (s.setFed k |>.regQ) = s.regQ := rfl
@[simp] theorem setFed_artCur : (s.setFed k |>.artCur) = s.artCur := rfl
@[simp] theorem setFed_artShadow : (s.setFed k |>.artShadow) = s.artShadow := rfl
@[simp] theorem setFed_faultQ : (s.setFed k |>.faultQ) = s.faultQ := rfl
@[simp] theorem setFed_cores : (s.setFed k |>.cores) = s.cores := rfl
@[simp] theorem setFed_spires : (s.setFed k |>.spires) = s.spires := rfl
@[simp] theorem setFed_domes : (s.setFed k |>.domes) = s.domes := rfl
@[simp] theorem setFed_tmp : (s.setFed k |>.tmp) = s.tmp := rfl
@[simp] theorem setFed_memc : (s.setFed k |>.memc) = s.memc := rfl
@[simp] theorem setFed_mmu : (s.setFed k |>.mmu) = s.mmu := rfl
@[simp] theorem setFed_mover : (s.setFed k |>.mover) = s.mover := rfl
@[simp] theorem setFed_cmds : (s.setFed k |>.cmds) = s.cmds := rfl
@[simp] theorem setFed_key : (s.setFed k |>.key) = s.key := rfl
@[simp] theorem setFed_pools : (s.setFed k |>.pools) = s.pools := rfl
@[simp] theorem setFed_ent : (s.setFed k |>.ent) = s.ent := rfl
@[simp] theorem setFed_jsc : (s.setFed k |>.jsc) = s.jsc := rfl
@[simp] theorem setFed_jrn : (s.setFed k |>.jrn) = s.jrn := rfl
@[simp] theorem setFed_net : (s.setFed k |>.net) = s.net := rfl
@[simp] theorem setFed_ses : (s.setFed k |>.ses) = s.ses := rfl
@[simp] theorem setFed_fed : (s.setFed k |>.fed) = k := rfl
@[simp] theorem setFed_fcu : (s.setFed k |>.fcu) = s.fcu := rfl
@[simp] theorem setFed_pwr : (s.setFed k |>.pwr) = s.pwr := rfl
@[simp] theorem setFed_stb : (s.setFed k |>.stb) = s.stb := rfl
@[simp] theorem setFed_flc : (s.setFed k |>.flc) = s.flc := rfl
@[simp] theorem setFed_icc : (s.setFed k |>.icc) = s.icc := rfl
@[simp] theorem setFed_cer : (s.setFed k |>.cer) = s.cer := rfl
@[simp] theorem setFed_sdh : (s.setFed k |>.sdh) = s.sdh := rfl
@[simp] theorem setFed_reader : (s.setFed k |>.reader) = s.reader := rfl
@[simp] theorem setFed_tag : (s.setFed k |>.tag) = s.tag := rfl
@[simp] theorem setFed_get (r : Fld) : (s.setFed k |>.get r) = s.get r := rfl
@[simp] theorem setFed_byte (x : Nat) : (s.setFed k |>.byte x) = s.byte x := rfl
end

section
variable (s : State) (k : Flc)
@[simp] theorem setFlc_regs : (s.setFlc k |>.regs) = s.regs := rfl
@[simp] theorem setFlc_mem : (s.setFlc k |>.mem) = s.mem := rfl
@[simp] theorem setFlc_irq : (s.setFlc k |>.irq) = s.irq := rfl
@[simp] theorem setFlc_pending : (s.setFlc k |>.pending) = s.pending := rfl
@[simp] theorem setFlc_free : (s.setFlc k |>.free) = s.free := rfl
@[simp] theorem setFlc_latch : (s.setFlc k |>.latch) = s.latch := rfl
@[simp] theorem setFlc_reply : (s.setFlc k |>.reply) = s.reply := rfl
@[simp] theorem setFlc_bus : (s.setFlc k |>.bus) = s.bus := rfl
@[simp] theorem setFlc_regQ : (s.setFlc k |>.regQ) = s.regQ := rfl
@[simp] theorem setFlc_artCur : (s.setFlc k |>.artCur) = s.artCur := rfl
@[simp] theorem setFlc_artShadow : (s.setFlc k |>.artShadow) = s.artShadow := rfl
@[simp] theorem setFlc_faultQ : (s.setFlc k |>.faultQ) = s.faultQ := rfl
@[simp] theorem setFlc_cores : (s.setFlc k |>.cores) = s.cores := rfl
@[simp] theorem setFlc_spires : (s.setFlc k |>.spires) = s.spires := rfl
@[simp] theorem setFlc_domes : (s.setFlc k |>.domes) = s.domes := rfl
@[simp] theorem setFlc_tmp : (s.setFlc k |>.tmp) = s.tmp := rfl
@[simp] theorem setFlc_memc : (s.setFlc k |>.memc) = s.memc := rfl
@[simp] theorem setFlc_mmu : (s.setFlc k |>.mmu) = s.mmu := rfl
@[simp] theorem setFlc_mover : (s.setFlc k |>.mover) = s.mover := rfl
@[simp] theorem setFlc_cmds : (s.setFlc k |>.cmds) = s.cmds := rfl
@[simp] theorem setFlc_key : (s.setFlc k |>.key) = s.key := rfl
@[simp] theorem setFlc_pools : (s.setFlc k |>.pools) = s.pools := rfl
@[simp] theorem setFlc_ent : (s.setFlc k |>.ent) = s.ent := rfl
@[simp] theorem setFlc_jsc : (s.setFlc k |>.jsc) = s.jsc := rfl
@[simp] theorem setFlc_jrn : (s.setFlc k |>.jrn) = s.jrn := rfl
@[simp] theorem setFlc_net : (s.setFlc k |>.net) = s.net := rfl
@[simp] theorem setFlc_ses : (s.setFlc k |>.ses) = s.ses := rfl
@[simp] theorem setFlc_fed : (s.setFlc k |>.fed) = s.fed := rfl
@[simp] theorem setFlc_fcu : (s.setFlc k |>.fcu) = s.fcu := rfl
@[simp] theorem setFlc_pwr : (s.setFlc k |>.pwr) = s.pwr := rfl
@[simp] theorem setFlc_stb : (s.setFlc k |>.stb) = s.stb := rfl
@[simp] theorem setFlc_flc : (s.setFlc k |>.flc) = k := rfl
@[simp] theorem setFlc_icc : (s.setFlc k |>.icc) = s.icc := rfl
@[simp] theorem setFlc_cer : (s.setFlc k |>.cer) = s.cer := rfl
@[simp] theorem setFlc_sdh : (s.setFlc k |>.sdh) = s.sdh := rfl
@[simp] theorem setFlc_reader : (s.setFlc k |>.reader) = s.reader := rfl
@[simp] theorem setFlc_tag : (s.setFlc k |>.tag) = s.tag := rfl
@[simp] theorem setFlc_get (r : Fld) : (s.setFlc k |>.get r) = s.get r := rfl
@[simp] theorem setFlc_byte (x : Nat) : (s.setFlc k |>.byte x) = s.byte x := rfl
end

section
variable (s : State) (k : Jrn)
@[simp] theorem setJrn_regs : (s.setJrn k |>.regs) = s.regs := rfl
@[simp] theorem setJrn_mem : (s.setJrn k |>.mem) = s.mem := rfl
@[simp] theorem setJrn_irq : (s.setJrn k |>.irq) = s.irq := rfl
@[simp] theorem setJrn_pending : (s.setJrn k |>.pending) = s.pending := rfl
@[simp] theorem setJrn_free : (s.setJrn k |>.free) = s.free := rfl
@[simp] theorem setJrn_latch : (s.setJrn k |>.latch) = s.latch := rfl
@[simp] theorem setJrn_reply : (s.setJrn k |>.reply) = s.reply := rfl
@[simp] theorem setJrn_bus : (s.setJrn k |>.bus) = s.bus := rfl
@[simp] theorem setJrn_regQ : (s.setJrn k |>.regQ) = s.regQ := rfl
@[simp] theorem setJrn_artCur : (s.setJrn k |>.artCur) = s.artCur := rfl
@[simp] theorem setJrn_artShadow : (s.setJrn k |>.artShadow) = s.artShadow := rfl
@[simp] theorem setJrn_faultQ : (s.setJrn k |>.faultQ) = s.faultQ := rfl
@[simp] theorem setJrn_cores : (s.setJrn k |>.cores) = s.cores := rfl
@[simp] theorem setJrn_spires : (s.setJrn k |>.spires) = s.spires := rfl
@[simp] theorem setJrn_domes : (s.setJrn k |>.domes) = s.domes := rfl
@[simp] theorem setJrn_tmp : (s.setJrn k |>.tmp) = s.tmp := rfl
@[simp] theorem setJrn_memc : (s.setJrn k |>.memc) = s.memc := rfl
@[simp] theorem setJrn_mmu : (s.setJrn k |>.mmu) = s.mmu := rfl
@[simp] theorem setJrn_mover : (s.setJrn k |>.mover) = s.mover := rfl
@[simp] theorem setJrn_cmds : (s.setJrn k |>.cmds) = s.cmds := rfl
@[simp] theorem setJrn_key : (s.setJrn k |>.key) = s.key := rfl
@[simp] theorem setJrn_pools : (s.setJrn k |>.pools) = s.pools := rfl
@[simp] theorem setJrn_ent : (s.setJrn k |>.ent) = s.ent := rfl
@[simp] theorem setJrn_jsc : (s.setJrn k |>.jsc) = s.jsc := rfl
@[simp] theorem setJrn_jrn : (s.setJrn k |>.jrn) = k := rfl
@[simp] theorem setJrn_net : (s.setJrn k |>.net) = s.net := rfl
@[simp] theorem setJrn_ses : (s.setJrn k |>.ses) = s.ses := rfl
@[simp] theorem setJrn_fed : (s.setJrn k |>.fed) = s.fed := rfl
@[simp] theorem setJrn_fcu : (s.setJrn k |>.fcu) = s.fcu := rfl
@[simp] theorem setJrn_pwr : (s.setJrn k |>.pwr) = s.pwr := rfl
@[simp] theorem setJrn_stb : (s.setJrn k |>.stb) = s.stb := rfl
@[simp] theorem setJrn_flc : (s.setJrn k |>.flc) = s.flc := rfl
@[simp] theorem setJrn_icc : (s.setJrn k |>.icc) = s.icc := rfl
@[simp] theorem setJrn_cer : (s.setJrn k |>.cer) = s.cer := rfl
@[simp] theorem setJrn_sdh : (s.setJrn k |>.sdh) = s.sdh := rfl
@[simp] theorem setJrn_reader : (s.setJrn k |>.reader) = s.reader := rfl
@[simp] theorem setJrn_tag : (s.setJrn k |>.tag) = s.tag := rfl
@[simp] theorem setJrn_get (r : Fld) : (s.setJrn k |>.get r) = s.get r := rfl
@[simp] theorem setJrn_byte (x : Nat) : (s.setJrn k |>.byte x) = s.byte x := rfl
end

section
variable (s : State) (k : KeyU)
@[simp] theorem setKey_regs : (s.setKey k |>.regs) = s.regs := rfl
@[simp] theorem setKey_mem : (s.setKey k |>.mem) = s.mem := rfl
@[simp] theorem setKey_irq : (s.setKey k |>.irq) = s.irq := rfl
@[simp] theorem setKey_pending : (s.setKey k |>.pending) = s.pending := rfl
@[simp] theorem setKey_free : (s.setKey k |>.free) = s.free := rfl
@[simp] theorem setKey_latch : (s.setKey k |>.latch) = s.latch := rfl
@[simp] theorem setKey_reply : (s.setKey k |>.reply) = s.reply := rfl
@[simp] theorem setKey_bus : (s.setKey k |>.bus) = s.bus := rfl
@[simp] theorem setKey_regQ : (s.setKey k |>.regQ) = s.regQ := rfl
@[simp] theorem setKey_artCur : (s.setKey k |>.artCur) = s.artCur := rfl
@[simp] theorem setKey_artShadow : (s.setKey k |>.artShadow) = s.artShadow := rfl
@[simp] theorem setKey_faultQ : (s.setKey k |>.faultQ) = s.faultQ := rfl
@[simp] theorem setKey_cores : (s.setKey k |>.cores) = s.cores := rfl
@[simp] theorem setKey_spires : (s.setKey k |>.spires) = s.spires := rfl
@[simp] theorem setKey_domes : (s.setKey k |>.domes) = s.domes := rfl
@[simp] theorem setKey_tmp : (s.setKey k |>.tmp) = s.tmp := rfl
@[simp] theorem setKey_memc : (s.setKey k |>.memc) = s.memc := rfl
@[simp] theorem setKey_mmu : (s.setKey k |>.mmu) = s.mmu := rfl
@[simp] theorem setKey_mover : (s.setKey k |>.mover) = s.mover := rfl
@[simp] theorem setKey_cmds : (s.setKey k |>.cmds) = s.cmds := rfl
@[simp] theorem setKey_key : (s.setKey k |>.key) = k := rfl
@[simp] theorem setKey_pools : (s.setKey k |>.pools) = s.pools := rfl
@[simp] theorem setKey_ent : (s.setKey k |>.ent) = s.ent := rfl
@[simp] theorem setKey_jsc : (s.setKey k |>.jsc) = s.jsc := rfl
@[simp] theorem setKey_jrn : (s.setKey k |>.jrn) = s.jrn := rfl
@[simp] theorem setKey_net : (s.setKey k |>.net) = s.net := rfl
@[simp] theorem setKey_ses : (s.setKey k |>.ses) = s.ses := rfl
@[simp] theorem setKey_fed : (s.setKey k |>.fed) = s.fed := rfl
@[simp] theorem setKey_fcu : (s.setKey k |>.fcu) = s.fcu := rfl
@[simp] theorem setKey_pwr : (s.setKey k |>.pwr) = s.pwr := rfl
@[simp] theorem setKey_stb : (s.setKey k |>.stb) = s.stb := rfl
@[simp] theorem setKey_flc : (s.setKey k |>.flc) = s.flc := rfl
@[simp] theorem setKey_icc : (s.setKey k |>.icc) = s.icc := rfl
@[simp] theorem setKey_cer : (s.setKey k |>.cer) = s.cer := rfl
@[simp] theorem setKey_sdh : (s.setKey k |>.sdh) = s.sdh := rfl
@[simp] theorem setKey_reader : (s.setKey k |>.reader) = s.reader := rfl
@[simp] theorem setKey_tag : (s.setKey k |>.tag) = s.tag := rfl
@[simp] theorem setKey_get (r : Fld) : (s.setKey k |>.get r) = s.get r := rfl
@[simp] theorem setKey_byte (x : Nat) : (s.setKey k |>.byte x) = s.byte x := rfl
end

section
variable (s : State) (k : Net)
@[simp] theorem setNet_regs : (s.setNet k |>.regs) = s.regs := rfl
@[simp] theorem setNet_mem : (s.setNet k |>.mem) = s.mem := rfl
@[simp] theorem setNet_irq : (s.setNet k |>.irq) = s.irq := rfl
@[simp] theorem setNet_pending : (s.setNet k |>.pending) = s.pending := rfl
@[simp] theorem setNet_free : (s.setNet k |>.free) = s.free := rfl
@[simp] theorem setNet_latch : (s.setNet k |>.latch) = s.latch := rfl
@[simp] theorem setNet_reply : (s.setNet k |>.reply) = s.reply := rfl
@[simp] theorem setNet_bus : (s.setNet k |>.bus) = s.bus := rfl
@[simp] theorem setNet_regQ : (s.setNet k |>.regQ) = s.regQ := rfl
@[simp] theorem setNet_artCur : (s.setNet k |>.artCur) = s.artCur := rfl
@[simp] theorem setNet_artShadow : (s.setNet k |>.artShadow) = s.artShadow := rfl
@[simp] theorem setNet_faultQ : (s.setNet k |>.faultQ) = s.faultQ := rfl
@[simp] theorem setNet_cores : (s.setNet k |>.cores) = s.cores := rfl
@[simp] theorem setNet_spires : (s.setNet k |>.spires) = s.spires := rfl
@[simp] theorem setNet_domes : (s.setNet k |>.domes) = s.domes := rfl
@[simp] theorem setNet_tmp : (s.setNet k |>.tmp) = s.tmp := rfl
@[simp] theorem setNet_memc : (s.setNet k |>.memc) = s.memc := rfl
@[simp] theorem setNet_mmu : (s.setNet k |>.mmu) = s.mmu := rfl
@[simp] theorem setNet_mover : (s.setNet k |>.mover) = s.mover := rfl
@[simp] theorem setNet_cmds : (s.setNet k |>.cmds) = s.cmds := rfl
@[simp] theorem setNet_key : (s.setNet k |>.key) = s.key := rfl
@[simp] theorem setNet_pools : (s.setNet k |>.pools) = s.pools := rfl
@[simp] theorem setNet_ent : (s.setNet k |>.ent) = s.ent := rfl
@[simp] theorem setNet_jsc : (s.setNet k |>.jsc) = s.jsc := rfl
@[simp] theorem setNet_jrn : (s.setNet k |>.jrn) = s.jrn := rfl
@[simp] theorem setNet_net : (s.setNet k |>.net) = k := rfl
@[simp] theorem setNet_ses : (s.setNet k |>.ses) = s.ses := rfl
@[simp] theorem setNet_fed : (s.setNet k |>.fed) = s.fed := rfl
@[simp] theorem setNet_fcu : (s.setNet k |>.fcu) = s.fcu := rfl
@[simp] theorem setNet_pwr : (s.setNet k |>.pwr) = s.pwr := rfl
@[simp] theorem setNet_stb : (s.setNet k |>.stb) = s.stb := rfl
@[simp] theorem setNet_flc : (s.setNet k |>.flc) = s.flc := rfl
@[simp] theorem setNet_icc : (s.setNet k |>.icc) = s.icc := rfl
@[simp] theorem setNet_cer : (s.setNet k |>.cer) = s.cer := rfl
@[simp] theorem setNet_sdh : (s.setNet k |>.sdh) = s.sdh := rfl
@[simp] theorem setNet_reader : (s.setNet k |>.reader) = s.reader := rfl
@[simp] theorem setNet_tag : (s.setNet k |>.tag) = s.tag := rfl
@[simp] theorem setNet_get (r : Fld) : (s.setNet k |>.get r) = s.get r := rfl
@[simp] theorem setNet_byte (x : Nat) : (s.setNet k |>.byte x) = s.byte x := rfl
end

section
variable (s : State) (k : Sdh)
@[simp] theorem setSdh_regs : (s.setSdh k |>.regs) = s.regs := rfl
@[simp] theorem setSdh_mem : (s.setSdh k |>.mem) = s.mem := rfl
@[simp] theorem setSdh_irq : (s.setSdh k |>.irq) = s.irq := rfl
@[simp] theorem setSdh_pending : (s.setSdh k |>.pending) = s.pending := rfl
@[simp] theorem setSdh_free : (s.setSdh k |>.free) = s.free := rfl
@[simp] theorem setSdh_latch : (s.setSdh k |>.latch) = s.latch := rfl
@[simp] theorem setSdh_reply : (s.setSdh k |>.reply) = s.reply := rfl
@[simp] theorem setSdh_bus : (s.setSdh k |>.bus) = s.bus := rfl
@[simp] theorem setSdh_regQ : (s.setSdh k |>.regQ) = s.regQ := rfl
@[simp] theorem setSdh_artCur : (s.setSdh k |>.artCur) = s.artCur := rfl
@[simp] theorem setSdh_artShadow : (s.setSdh k |>.artShadow) = s.artShadow := rfl
@[simp] theorem setSdh_faultQ : (s.setSdh k |>.faultQ) = s.faultQ := rfl
@[simp] theorem setSdh_cores : (s.setSdh k |>.cores) = s.cores := rfl
@[simp] theorem setSdh_spires : (s.setSdh k |>.spires) = s.spires := rfl
@[simp] theorem setSdh_domes : (s.setSdh k |>.domes) = s.domes := rfl
@[simp] theorem setSdh_tmp : (s.setSdh k |>.tmp) = s.tmp := rfl
@[simp] theorem setSdh_memc : (s.setSdh k |>.memc) = s.memc := rfl
@[simp] theorem setSdh_mmu : (s.setSdh k |>.mmu) = s.mmu := rfl
@[simp] theorem setSdh_mover : (s.setSdh k |>.mover) = s.mover := rfl
@[simp] theorem setSdh_cmds : (s.setSdh k |>.cmds) = s.cmds := rfl
@[simp] theorem setSdh_key : (s.setSdh k |>.key) = s.key := rfl
@[simp] theorem setSdh_pools : (s.setSdh k |>.pools) = s.pools := rfl
@[simp] theorem setSdh_ent : (s.setSdh k |>.ent) = s.ent := rfl
@[simp] theorem setSdh_jsc : (s.setSdh k |>.jsc) = s.jsc := rfl
@[simp] theorem setSdh_jrn : (s.setSdh k |>.jrn) = s.jrn := rfl
@[simp] theorem setSdh_net : (s.setSdh k |>.net) = s.net := rfl
@[simp] theorem setSdh_ses : (s.setSdh k |>.ses) = s.ses := rfl
@[simp] theorem setSdh_fed : (s.setSdh k |>.fed) = s.fed := rfl
@[simp] theorem setSdh_fcu : (s.setSdh k |>.fcu) = s.fcu := rfl
@[simp] theorem setSdh_pwr : (s.setSdh k |>.pwr) = s.pwr := rfl
@[simp] theorem setSdh_stb : (s.setSdh k |>.stb) = s.stb := rfl
@[simp] theorem setSdh_flc : (s.setSdh k |>.flc) = s.flc := rfl
@[simp] theorem setSdh_icc : (s.setSdh k |>.icc) = s.icc := rfl
@[simp] theorem setSdh_cer : (s.setSdh k |>.cer) = s.cer := rfl
@[simp] theorem setSdh_sdh : (s.setSdh k |>.sdh) = k := rfl
@[simp] theorem setSdh_reader : (s.setSdh k |>.reader) = s.reader := rfl
@[simp] theorem setSdh_tag : (s.setSdh k |>.tag) = s.tag := rfl
@[simp] theorem setSdh_get (r : Fld) : (s.setSdh k |>.get r) = s.get r := rfl
@[simp] theorem setSdh_byte (x : Nat) : (s.setSdh k |>.byte x) = s.byte x := rfl
end

section
variable (s : State) (k : SesU)
@[simp] theorem setSes_regs : (s.setSes k |>.regs) = s.regs := rfl
@[simp] theorem setSes_mem : (s.setSes k |>.mem) = s.mem := rfl
@[simp] theorem setSes_irq : (s.setSes k |>.irq) = s.irq := rfl
@[simp] theorem setSes_pending : (s.setSes k |>.pending) = s.pending := rfl
@[simp] theorem setSes_free : (s.setSes k |>.free) = s.free := rfl
@[simp] theorem setSes_latch : (s.setSes k |>.latch) = s.latch := rfl
@[simp] theorem setSes_reply : (s.setSes k |>.reply) = s.reply := rfl
@[simp] theorem setSes_bus : (s.setSes k |>.bus) = s.bus := rfl
@[simp] theorem setSes_regQ : (s.setSes k |>.regQ) = s.regQ := rfl
@[simp] theorem setSes_artCur : (s.setSes k |>.artCur) = s.artCur := rfl
@[simp] theorem setSes_artShadow : (s.setSes k |>.artShadow) = s.artShadow := rfl
@[simp] theorem setSes_faultQ : (s.setSes k |>.faultQ) = s.faultQ := rfl
@[simp] theorem setSes_cores : (s.setSes k |>.cores) = s.cores := rfl
@[simp] theorem setSes_spires : (s.setSes k |>.spires) = s.spires := rfl
@[simp] theorem setSes_domes : (s.setSes k |>.domes) = s.domes := rfl
@[simp] theorem setSes_tmp : (s.setSes k |>.tmp) = s.tmp := rfl
@[simp] theorem setSes_memc : (s.setSes k |>.memc) = s.memc := rfl
@[simp] theorem setSes_mmu : (s.setSes k |>.mmu) = s.mmu := rfl
@[simp] theorem setSes_mover : (s.setSes k |>.mover) = s.mover := rfl
@[simp] theorem setSes_cmds : (s.setSes k |>.cmds) = s.cmds := rfl
@[simp] theorem setSes_key : (s.setSes k |>.key) = s.key := rfl
@[simp] theorem setSes_pools : (s.setSes k |>.pools) = s.pools := rfl
@[simp] theorem setSes_ent : (s.setSes k |>.ent) = s.ent := rfl
@[simp] theorem setSes_jsc : (s.setSes k |>.jsc) = s.jsc := rfl
@[simp] theorem setSes_jrn : (s.setSes k |>.jrn) = s.jrn := rfl
@[simp] theorem setSes_net : (s.setSes k |>.net) = s.net := rfl
@[simp] theorem setSes_ses : (s.setSes k |>.ses) = k := rfl
@[simp] theorem setSes_fed : (s.setSes k |>.fed) = s.fed := rfl
@[simp] theorem setSes_fcu : (s.setSes k |>.fcu) = s.fcu := rfl
@[simp] theorem setSes_pwr : (s.setSes k |>.pwr) = s.pwr := rfl
@[simp] theorem setSes_stb : (s.setSes k |>.stb) = s.stb := rfl
@[simp] theorem setSes_flc : (s.setSes k |>.flc) = s.flc := rfl
@[simp] theorem setSes_icc : (s.setSes k |>.icc) = s.icc := rfl
@[simp] theorem setSes_cer : (s.setSes k |>.cer) = s.cer := rfl
@[simp] theorem setSes_sdh : (s.setSes k |>.sdh) = s.sdh := rfl
@[simp] theorem setSes_reader : (s.setSes k |>.reader) = s.reader := rfl
@[simp] theorem setSes_tag : (s.setSes k |>.tag) = s.tag := rfl
@[simp] theorem setSes_get (r : Fld) : (s.setSes k |>.get r) = s.get r := rfl
@[simp] theorem setSes_byte (x : Nat) : (s.setSes k |>.byte x) = s.byte x := rfl
end

section
variable (s : State) (k : Stb)
@[simp] theorem setStb_regs : (s.setStb k |>.regs) = s.regs := rfl
@[simp] theorem setStb_mem : (s.setStb k |>.mem) = s.mem := rfl
@[simp] theorem setStb_irq : (s.setStb k |>.irq) = s.irq := rfl
@[simp] theorem setStb_pending : (s.setStb k |>.pending) = s.pending := rfl
@[simp] theorem setStb_free : (s.setStb k |>.free) = s.free := rfl
@[simp] theorem setStb_latch : (s.setStb k |>.latch) = s.latch := rfl
@[simp] theorem setStb_reply : (s.setStb k |>.reply) = s.reply := rfl
@[simp] theorem setStb_bus : (s.setStb k |>.bus) = s.bus := rfl
@[simp] theorem setStb_regQ : (s.setStb k |>.regQ) = s.regQ := rfl
@[simp] theorem setStb_artCur : (s.setStb k |>.artCur) = s.artCur := rfl
@[simp] theorem setStb_artShadow : (s.setStb k |>.artShadow) = s.artShadow := rfl
@[simp] theorem setStb_faultQ : (s.setStb k |>.faultQ) = s.faultQ := rfl
@[simp] theorem setStb_cores : (s.setStb k |>.cores) = s.cores := rfl
@[simp] theorem setStb_spires : (s.setStb k |>.spires) = s.spires := rfl
@[simp] theorem setStb_domes : (s.setStb k |>.domes) = s.domes := rfl
@[simp] theorem setStb_tmp : (s.setStb k |>.tmp) = s.tmp := rfl
@[simp] theorem setStb_memc : (s.setStb k |>.memc) = s.memc := rfl
@[simp] theorem setStb_mmu : (s.setStb k |>.mmu) = s.mmu := rfl
@[simp] theorem setStb_mover : (s.setStb k |>.mover) = s.mover := rfl
@[simp] theorem setStb_cmds : (s.setStb k |>.cmds) = s.cmds := rfl
@[simp] theorem setStb_key : (s.setStb k |>.key) = s.key := rfl
@[simp] theorem setStb_pools : (s.setStb k |>.pools) = s.pools := rfl
@[simp] theorem setStb_ent : (s.setStb k |>.ent) = s.ent := rfl
@[simp] theorem setStb_jsc : (s.setStb k |>.jsc) = s.jsc := rfl
@[simp] theorem setStb_jrn : (s.setStb k |>.jrn) = s.jrn := rfl
@[simp] theorem setStb_net : (s.setStb k |>.net) = s.net := rfl
@[simp] theorem setStb_ses : (s.setStb k |>.ses) = s.ses := rfl
@[simp] theorem setStb_fed : (s.setStb k |>.fed) = s.fed := rfl
@[simp] theorem setStb_fcu : (s.setStb k |>.fcu) = s.fcu := rfl
@[simp] theorem setStb_pwr : (s.setStb k |>.pwr) = s.pwr := rfl
@[simp] theorem setStb_stb : (s.setStb k |>.stb) = k := rfl
@[simp] theorem setStb_flc : (s.setStb k |>.flc) = s.flc := rfl
@[simp] theorem setStb_icc : (s.setStb k |>.icc) = s.icc := rfl
@[simp] theorem setStb_cer : (s.setStb k |>.cer) = s.cer := rfl
@[simp] theorem setStb_sdh : (s.setStb k |>.sdh) = s.sdh := rfl
@[simp] theorem setStb_reader : (s.setStb k |>.reader) = s.reader := rfl
@[simp] theorem setStb_tag : (s.setStb k |>.tag) = s.tag := rfl
@[simp] theorem setStb_get (r : Fld) : (s.setStb k |>.get r) = s.get r := rfl
@[simp] theorem setStb_byte (x : Nat) : (s.setStb k |>.byte x) = s.byte x := rfl
end

section
variable (s : State) (k : Tag)
@[simp] theorem setTag_regs : (s.setTag k |>.regs) = s.regs := rfl
@[simp] theorem setTag_mem : (s.setTag k |>.mem) = s.mem := rfl
@[simp] theorem setTag_irq : (s.setTag k |>.irq) = s.irq := rfl
@[simp] theorem setTag_pending : (s.setTag k |>.pending) = s.pending := rfl
@[simp] theorem setTag_free : (s.setTag k |>.free) = s.free := rfl
@[simp] theorem setTag_latch : (s.setTag k |>.latch) = s.latch := rfl
@[simp] theorem setTag_reply : (s.setTag k |>.reply) = s.reply := rfl
@[simp] theorem setTag_bus : (s.setTag k |>.bus) = s.bus := rfl
@[simp] theorem setTag_regQ : (s.setTag k |>.regQ) = s.regQ := rfl
@[simp] theorem setTag_artCur : (s.setTag k |>.artCur) = s.artCur := rfl
@[simp] theorem setTag_artShadow : (s.setTag k |>.artShadow) = s.artShadow := rfl
@[simp] theorem setTag_faultQ : (s.setTag k |>.faultQ) = s.faultQ := rfl
@[simp] theorem setTag_cores : (s.setTag k |>.cores) = s.cores := rfl
@[simp] theorem setTag_spires : (s.setTag k |>.spires) = s.spires := rfl
@[simp] theorem setTag_domes : (s.setTag k |>.domes) = s.domes := rfl
@[simp] theorem setTag_tmp : (s.setTag k |>.tmp) = s.tmp := rfl
@[simp] theorem setTag_memc : (s.setTag k |>.memc) = s.memc := rfl
@[simp] theorem setTag_mmu : (s.setTag k |>.mmu) = s.mmu := rfl
@[simp] theorem setTag_mover : (s.setTag k |>.mover) = s.mover := rfl
@[simp] theorem setTag_cmds : (s.setTag k |>.cmds) = s.cmds := rfl
@[simp] theorem setTag_key : (s.setTag k |>.key) = s.key := rfl
@[simp] theorem setTag_pools : (s.setTag k |>.pools) = s.pools := rfl
@[simp] theorem setTag_ent : (s.setTag k |>.ent) = s.ent := rfl
@[simp] theorem setTag_jsc : (s.setTag k |>.jsc) = s.jsc := rfl
@[simp] theorem setTag_jrn : (s.setTag k |>.jrn) = s.jrn := rfl
@[simp] theorem setTag_net : (s.setTag k |>.net) = s.net := rfl
@[simp] theorem setTag_ses : (s.setTag k |>.ses) = s.ses := rfl
@[simp] theorem setTag_fed : (s.setTag k |>.fed) = s.fed := rfl
@[simp] theorem setTag_fcu : (s.setTag k |>.fcu) = s.fcu := rfl
@[simp] theorem setTag_pwr : (s.setTag k |>.pwr) = s.pwr := rfl
@[simp] theorem setTag_stb : (s.setTag k |>.stb) = s.stb := rfl
@[simp] theorem setTag_flc : (s.setTag k |>.flc) = s.flc := rfl
@[simp] theorem setTag_icc : (s.setTag k |>.icc) = s.icc := rfl
@[simp] theorem setTag_cer : (s.setTag k |>.cer) = s.cer := rfl
@[simp] theorem setTag_sdh : (s.setTag k |>.sdh) = s.sdh := rfl
@[simp] theorem setTag_reader : (s.setTag k |>.reader) = s.reader := rfl
@[simp] theorem setTag_tag : (s.setTag k |>.tag) = k := rfl
@[simp] theorem setTag_get (r : Fld) : (s.setTag k |>.get r) = s.get r := rfl
@[simp] theorem setTag_byte (x : Nat) : (s.setTag k |>.byte x) = s.byte x := rfl
end

section
variable (s : State) (k : Tmp)
@[simp] theorem setTmp_regs : (s.setTmp k |>.regs) = s.regs := rfl
@[simp] theorem setTmp_mem : (s.setTmp k |>.mem) = s.mem := rfl
@[simp] theorem setTmp_irq : (s.setTmp k |>.irq) = s.irq := rfl
@[simp] theorem setTmp_pending : (s.setTmp k |>.pending) = s.pending := rfl
@[simp] theorem setTmp_free : (s.setTmp k |>.free) = s.free := rfl
@[simp] theorem setTmp_latch : (s.setTmp k |>.latch) = s.latch := rfl
@[simp] theorem setTmp_reply : (s.setTmp k |>.reply) = s.reply := rfl
@[simp] theorem setTmp_bus : (s.setTmp k |>.bus) = s.bus := rfl
@[simp] theorem setTmp_regQ : (s.setTmp k |>.regQ) = s.regQ := rfl
@[simp] theorem setTmp_artCur : (s.setTmp k |>.artCur) = s.artCur := rfl
@[simp] theorem setTmp_artShadow : (s.setTmp k |>.artShadow) = s.artShadow := rfl
@[simp] theorem setTmp_faultQ : (s.setTmp k |>.faultQ) = s.faultQ := rfl
@[simp] theorem setTmp_cores : (s.setTmp k |>.cores) = s.cores := rfl
@[simp] theorem setTmp_spires : (s.setTmp k |>.spires) = s.spires := rfl
@[simp] theorem setTmp_domes : (s.setTmp k |>.domes) = s.domes := rfl
@[simp] theorem setTmp_tmp : (s.setTmp k |>.tmp) = k := rfl
@[simp] theorem setTmp_memc : (s.setTmp k |>.memc) = s.memc := rfl
@[simp] theorem setTmp_mmu : (s.setTmp k |>.mmu) = s.mmu := rfl
@[simp] theorem setTmp_mover : (s.setTmp k |>.mover) = s.mover := rfl
@[simp] theorem setTmp_cmds : (s.setTmp k |>.cmds) = s.cmds := rfl
@[simp] theorem setTmp_key : (s.setTmp k |>.key) = s.key := rfl
@[simp] theorem setTmp_pools : (s.setTmp k |>.pools) = s.pools := rfl
@[simp] theorem setTmp_ent : (s.setTmp k |>.ent) = s.ent := rfl
@[simp] theorem setTmp_jsc : (s.setTmp k |>.jsc) = s.jsc := rfl
@[simp] theorem setTmp_jrn : (s.setTmp k |>.jrn) = s.jrn := rfl
@[simp] theorem setTmp_net : (s.setTmp k |>.net) = s.net := rfl
@[simp] theorem setTmp_ses : (s.setTmp k |>.ses) = s.ses := rfl
@[simp] theorem setTmp_fed : (s.setTmp k |>.fed) = s.fed := rfl
@[simp] theorem setTmp_fcu : (s.setTmp k |>.fcu) = s.fcu := rfl
@[simp] theorem setTmp_pwr : (s.setTmp k |>.pwr) = s.pwr := rfl
@[simp] theorem setTmp_stb : (s.setTmp k |>.stb) = s.stb := rfl
@[simp] theorem setTmp_flc : (s.setTmp k |>.flc) = s.flc := rfl
@[simp] theorem setTmp_icc : (s.setTmp k |>.icc) = s.icc := rfl
@[simp] theorem setTmp_cer : (s.setTmp k |>.cer) = s.cer := rfl
@[simp] theorem setTmp_sdh : (s.setTmp k |>.sdh) = s.sdh := rfl
@[simp] theorem setTmp_reader : (s.setTmp k |>.reader) = s.reader := rfl
@[simp] theorem setTmp_tag : (s.setTmp k |>.tag) = s.tag := rfl
@[simp] theorem setTmp_get (r : Fld) : (s.setTmp k |>.get r) = s.get r := rfl
@[simp] theorem setTmp_byte (x : Nat) : (s.setTmp k |>.byte x) = s.byte x := rfl
end

section
variable (s : State) (k : Reader)
@[simp] theorem setReader_regs : (s.setReader k |>.regs) = s.regs := rfl
@[simp] theorem setReader_mem : (s.setReader k |>.mem) = s.mem := rfl
@[simp] theorem setReader_irq : (s.setReader k |>.irq) = s.irq := rfl
@[simp] theorem setReader_pending : (s.setReader k |>.pending) = s.pending := rfl
@[simp] theorem setReader_free : (s.setReader k |>.free) = s.free := rfl
@[simp] theorem setReader_latch : (s.setReader k |>.latch) = s.latch := rfl
@[simp] theorem setReader_reply : (s.setReader k |>.reply) = s.reply := rfl
@[simp] theorem setReader_bus : (s.setReader k |>.bus) = s.bus := rfl
@[simp] theorem setReader_regQ : (s.setReader k |>.regQ) = s.regQ := rfl
@[simp] theorem setReader_artCur : (s.setReader k |>.artCur) = s.artCur := rfl
@[simp] theorem setReader_artShadow : (s.setReader k |>.artShadow) = s.artShadow := rfl
@[simp] theorem setReader_faultQ : (s.setReader k |>.faultQ) = s.faultQ := rfl
@[simp] theorem setReader_cores : (s.setReader k |>.cores) = s.cores := rfl
@[simp] theorem setReader_spires : (s.setReader k |>.spires) = s.spires := rfl
@[simp] theorem setReader_domes : (s.setReader k |>.domes) = s.domes := rfl
@[simp] theorem setReader_tmp : (s.setReader k |>.tmp) = s.tmp := rfl
@[simp] theorem setReader_memc : (s.setReader k |>.memc) = s.memc := rfl
@[simp] theorem setReader_mmu : (s.setReader k |>.mmu) = s.mmu := rfl
@[simp] theorem setReader_mover : (s.setReader k |>.mover) = s.mover := rfl
@[simp] theorem setReader_cmds : (s.setReader k |>.cmds) = s.cmds := rfl
@[simp] theorem setReader_key : (s.setReader k |>.key) = s.key := rfl
@[simp] theorem setReader_pools : (s.setReader k |>.pools) = s.pools := rfl
@[simp] theorem setReader_ent : (s.setReader k |>.ent) = s.ent := rfl
@[simp] theorem setReader_jsc : (s.setReader k |>.jsc) = s.jsc := rfl
@[simp] theorem setReader_jrn : (s.setReader k |>.jrn) = s.jrn := rfl
@[simp] theorem setReader_net : (s.setReader k |>.net) = s.net := rfl
@[simp] theorem setReader_ses : (s.setReader k |>.ses) = s.ses := rfl
@[simp] theorem setReader_fed : (s.setReader k |>.fed) = s.fed := rfl
@[simp] theorem setReader_fcu : (s.setReader k |>.fcu) = s.fcu := rfl
@[simp] theorem setReader_pwr : (s.setReader k |>.pwr) = s.pwr := rfl
@[simp] theorem setReader_stb : (s.setReader k |>.stb) = s.stb := rfl
@[simp] theorem setReader_flc : (s.setReader k |>.flc) = s.flc := rfl
@[simp] theorem setReader_icc : (s.setReader k |>.icc) = s.icc := rfl
@[simp] theorem setReader_cer : (s.setReader k |>.cer) = s.cer := rfl
@[simp] theorem setReader_sdh : (s.setReader k |>.sdh) = s.sdh := rfl
@[simp] theorem setReader_reader : (s.setReader k |>.reader) = k := rfl
@[simp] theorem setReader_tag : (s.setReader k |>.tag) = s.tag := rfl
@[simp] theorem setReader_get (r : Fld) : (s.setReader k |>.get r) = s.get r := rfl
@[simp] theorem setReader_byte (x : Nat) : (s.setReader k |>.byte x) = s.byte x := rfl
end

end Sys2Proof.Machine
end

