-- ==== Sys2Proof/Laws/Tables.lean ====
section
/-!
SUPPORT. Laws of the sparse tables: reading what was written, and keys that stay in rising order.
-/

namespace Sys2Proof.Machine

variable {α : Type}

@[simp] theorem tabFind_tabIns_same (t : List (Nat × α)) (x : Nat) (v : α) : tabFind (tabIns t x v) x = some v := by
  induction t with
  | nil => simp [tabIns, tabFind]
  | cons e t ih =>
    obtain ⟨k, w⟩ := e
    simp only [tabIns]
    split
    · simp [tabFind]
    · split
      · simp [tabFind]
      · rename_i h1 h2
        simp [tabFind, Ne.symm h2, ih]

theorem tabFind_tabIns_ne (t : List (Nat × α)) {x y : Nat} (v : α) (h : x ≠ y) :
    tabFind (tabIns t x v) y = tabFind t y := by
  induction t with
  | nil => simp [tabIns, tabFind, h]
  | cons e t ih =>
    obtain ⟨k, w⟩ := e
    simp only [tabIns]
    split
    · simp [tabFind, h]
    · split
      · rename_i h2
        subst h2
        simp [tabFind, h]
      · simp [tabFind, ih]

@[simp] theorem tabFind_tabDel_same (t : List (Nat × α)) (x : Nat) : tabFind (tabDel t x) x = none := by
  induction t with
  | nil => rfl
  | cons e t ih =>
    obtain ⟨k, w⟩ := e
    by_cases h : k = x
    · simpa [tabDel, h] using ih
    · simpa [tabDel, h, tabFind] using ih

theorem tabFind_tabDel_ne (t : List (Nat × α)) {x y : Nat} (h : x ≠ y) : tabFind (tabDel t x) y = tabFind t y := by
  induction t with
  | nil => rfl
  | cons e t ih =>
    obtain ⟨k, w⟩ := e
    by_cases hk : k = x
    · subst hk
      simpa [tabDel, tabFind, h] using ih
    · simp only [tabDel, List.filter, ne_eq, hk, not_false_eq_true, decide_true, tabFind]
      split
      · rfl
      · exact ih

@[simp] theorem tabGet_tabSet_same [DecidableEq α] (d : α) (t : List (Nat × α)) (x : Nat) (v : α) :
    tabGet d (tabSet d t x v) x = v := by
  unfold tabSet tabGet
  split
  · simp_all
  · simp

theorem tabGet_tabSet_ne [DecidableEq α] (d : α) (t : List (Nat × α)) {x y : Nat} (v : α) (h : x ≠ y) :
    tabGet d (tabSet d t x v) y = tabGet d t y := by
  unfold tabSet tabGet
  split
  · rw [tabFind_tabDel_ne t h]
  · rw [tabFind_tabIns_ne t v h]

/-- A sorted table's tail is sorted. -/
theorem tabSorted_tail {e : Nat × α} {t : List (Nat × α)} (h : tabSorted (e :: t) = true) : tabSorted t = true := by
  cases t with
  | nil => rfl
  | cons b t => simp only [tabSorted, Bool.and_eq_true] at h; exact h.2

/-- A table is sorted when its tail is and its first key is below every key of the tail. -/
theorem tabSorted_cons (e : Nat × α) (t : List (Nat × α)) :
    tabSorted (e :: t) = true ↔ (∀ x ∈ t, e.1 < x.1) ∧ tabSorted t = true := by
  induction t generalizing e with
  | nil => simp [tabSorted]
  | cons b t ih =>
    simp only [tabSorted, Bool.and_eq_true, decide_eq_true_eq, List.mem_cons, forall_eq_or_imp]
    constructor
    · rintro ⟨h1, h2⟩
      exact ⟨⟨h1, fun x hx => lt_trans h1 (((ih b).1 h2).1 x hx)⟩, h2⟩
    · rintro ⟨⟨h1, _⟩, h2⟩
      exact ⟨h1, h2⟩

/-- Entries may be dropped. -/
theorem tabSorted_filter (t : List (Nat × α)) (p : Nat × α → Bool) (h : tabSorted t = true) :
    tabSorted (t.filter p) = true := by
  induction t with
  | nil => rfl
  | cons e t ih =>
    rw [tabSorted_cons] at h
    by_cases hp : p e = true
    · rw [List.filter_cons_of_pos hp, tabSorted_cons]
      exact ⟨fun x hx => h.1 x (List.mem_of_mem_filter hx), ih h.2⟩
    · rw [List.filter_cons_of_neg hp]
      exact ih h.2

/-- What is listed after an insertion is the new entry or was listed before. -/
theorem mem_tabIns {t : List (Nat × α)} {x : Nat} {v : α} {e : Nat × α} (h : e ∈ tabIns t x v) : e = (x, v) ∨ e ∈ t := by
  induction t with
  | nil => simpa [tabIns] using h
  | cons b t ih =>
    obtain ⟨k, w⟩ := b
    simp only [tabIns] at h
    split at h
    · simpa using h
    · split at h
      · rcases List.mem_cons.1 h with h | h
        · exact .inl h
        · exact .inr (List.mem_cons_of_mem _ h)
      · rcases List.mem_cons.1 h with h | h
        · exact .inr (h ▸ List.mem_cons_self ..)
        · exact (ih h).imp id (List.mem_cons_of_mem _)

/-- An insertion keeps the order. -/
theorem tabSorted_tabIns (t : List (Nat × α)) (x : Nat) (v : α) (h : tabSorted t = true) : tabSorted (tabIns t x v) = true := by
  induction t with
  | nil => rfl
  | cons e t ih =>
    obtain ⟨k, w⟩ := e
    have h' := h
    rw [tabSorted_cons] at h'
    simp only [tabIns]
    split
    · rename_i hk
      rw [tabSorted_cons]
      refine ⟨fun y hy => ?_, h⟩
      rcases List.mem_cons.1 hy with hy | hy
      · exact hy ▸ hk
      · exact lt_trans hk (h'.1 y hy)
    · split
      · rename_i hx
        subst hx
        rw [tabSorted_cons]
        exact ⟨h'.1, h'.2⟩
      · rename_i h1 h2
        rw [tabSorted_cons]
        refine ⟨fun y hy => ?_, ih h'.2⟩
        rcases mem_tabIns hy with rfl | hy
        · show k < x; omega
        · exact h'.1 y hy

theorem tabSorted_tabSet [DecidableEq α] (d : α) (t : List (Nat × α)) (x : Nat) (v : α) (h : tabSorted t = true) :
    tabSorted (tabSet d t x v) = true := by
  unfold tabSet
  split
  · exact tabSorted_filter t _ h
  · exact tabSorted_tabIns t x v h

end Sys2Proof.Machine
end

