-- ==== Sys2Proof/Laws/Fields.lean ====
section
/-!
SUPPORT. Laws of register fields and of memory bytes: what a read gives after a write, and that every write of memory
keeps its canonical form.
-/

namespace Sys2Proof.Machine

/-! ### Register fields -/

/-- A field reads as what was last written to it, cut to its width. -/
@[simp] theorem get_set_same (s : State) (f : Fld) (v : Nat) : (s.set f v).get f = v % 2 ^ f.wd := by
  unfold State.set State.get
  split
  · rename_i h; simp [h]
  · simp

/-- A write of one field leaves every other. -/
theorem get_set_ne (s : State) (f g : Fld) (v : Nat) (h : f.key ≠ g.key) : (s.set f v).get g = s.get g := by
  unfold State.set State.get
  split
  · simp [tabFind_tabDel_ne _ h]
  · simp [tabFind_tabIns_ne _ _ h]

/-- The value of a field after a write of some field. -/
theorem get_set (s : State) (f g : Fld) (v : Nat) :
    (s.set f v).get g = if f.key = g.key then (if v % 2 ^ f.wd = f.rst then g.rst else v % 2 ^ f.wd) else s.get g := by
  split
  · rename_i h
    unfold State.set State.get
    split <;> simp [← h]
  · rename_i h
    exact get_set_ne s f g v h

@[simp] theorem cause_get_other (s : State) (f g : Fld) (b v : Nat) (h : f.key ≠ g.key) : (s.cause f b v).get g = s.get g := by
  unfold State.cause
  rw [raise_get]
  exact get_set_ne _ _ _ _ h

/-! ### Memory -/

/-- A byte reads as what was last written to it. -/
@[simp] theorem byte_putByte_same (s : State) (a : Nat) (b : Byte) : (s.putByte a b).byte a = b := by
  simp [State.putByte, State.byte]

/-- A write of one byte leaves every other. -/
theorem byte_putByte_ne (s : State) {a x : Nat} (b : Byte) (h : a ≠ x) : (s.putByte a b).byte x = s.byte x := by
  unfold State.putByte State.byte
  unfold tabSet tabGet
  dsimp only
  split
  · rw [tabFind_tabDel_ne _ h]
  · rw [tabFind_tabIns_ne _ _ h]

/-- Writing bytes leaves every byte outside them. -/
theorem byte_putBytes_outside (s : State) (a x : Nat) (bs : List Byte) (h : x < a ∨ a + bs.length ≤ x) :
    (s.putBytes a bs).byte x = s.byte x := by
  induction bs generalizing s a with
  | nil => rfl
  | cons b bs ih =>
    simp only [List.length_cons] at h
    rw [State.putBytes, ih _ _ (by omega), byte_putByte_ne _ _ (by omega)]

/-- Bytes read back as they were written. -/
theorem byte_putBytes_inside (s : State) (a i : Nat) (bs : List Byte) (h : i < bs.length) :
    (s.putBytes a bs).byte (a + i) = bs[i] := by
  induction bs generalizing s a i with
  | nil => simp at h
  | cons b bs ih =>
    rw [State.putBytes]
    cases i with
    | zero => rw [byte_putBytes_outside _ _ _ _ (by omega)]; simp
    | succ i =>
      have h' : i < bs.length := by simpa using h
      have := ih (s.putByte a b) (a + 1) i h'
      simpa [Nat.add_assoc, Nat.add_comm 1 i] using this

/-- Writing bytes changes memory alone. -/
theorem putBytes_eq_mem (s : State) (a : Nat) (bs : List Byte) : s.putBytes a bs = { s with mem := (s.putBytes a bs).mem } := by
  induction bs generalizing s a with
  | nil => rfl
  | cons b bs ih => rw [State.putBytes, ih]; rfl

@[simp] theorem putBytes_get (s : State) (a : Nat) (bs : List Byte) (f : Fld) : (s.putBytes a bs).get f = s.get f := by
  rw [putBytes_eq_mem]; rfl

/-- The canonical form of a table of bytes, entry by entry. -/
theorem wf_iff (m : List Host.Cell) :
    Memory.wf m = true ↔ tabSorted m = true ∧ ∀ c ∈ m, c.2 ≠ memDefault c.1 := by
  simp [Memory.wf]

theorem wf_filter (m : List Host.Cell) (p : Host.Cell → Bool) (h : Memory.wf m = true) : Memory.wf (m.filter p) = true := by
  rw [wf_iff] at *
  exact ⟨tabSorted_filter m p h.1, fun c hc => h.2 c (List.mem_of_mem_filter hc)⟩

theorem wf_tabSet (m : List Host.Cell) (a : Nat) (b : Byte) (h : Memory.wf m = true) :
    Memory.wf (tabSet (memDefault a) m a b) = true := by
  rw [wf_iff] at *
  refine ⟨tabSorted_tabSet _ _ _ _ h.1, fun c hc => ?_⟩
  unfold tabSet at hc
  split at hc
  · exact h.2 c (List.mem_of_mem_filter hc)
  · rename_i hb
    rcases mem_tabIns hc with rfl | hc
    · exact hb
    · exact h.2 c hc

/-- Every write of memory keeps its canonical form. -/
theorem putByte_wf (s : State) (a : Nat) (b : Byte) (h : Memory.wf s.mem = true) : Memory.wf (s.putByte a b).mem = true :=
  wf_tabSet _ _ _ h

theorem putBytes_wf (s : State) (a : Nat) (bs : List Byte) (h : Memory.wf s.mem = true) :
    Memory.wf (s.putBytes a bs).mem = true := by
  induction bs generalizing s a with
  | nil => exact h
  | cons b bs ih => exact ih _ _ (putByte_wf s a b h)

theorem dropBytes_wf (s : State) (a n : Nat) (h : Memory.wf s.mem = true) : Memory.wf (s.dropBytes a n).mem = true :=
  wf_filter _ _ h

end Sys2Proof.Machine
end

