-- ==== Sys2Proof/Tests/Slice0.lean ====
section
/-!
SUPPORT. The model's own tests: an ill-formed command for each check of WellFormed, words of the spec's encodings, results of
the spec's worked examples, and, for every statement with hypotheses, a state and operands that meet each of its clauses.
-/

set_option Elab.async false
set_option linter.unusedVariables false

namespace Sys2Proof.Tests
open Sys2Proof Sys2Proof.Machine

/-! ### States the tests start from -/

/-- Main power on, nothing else changed from reset. -/
def wOn : State := { State.reset with pwr := { State.reset.pwr with main := .on } }
/-- The state after `ns` more nanoseconds of the time base. -/
def wLater (s : State) (ns : Nat) : State := s.setPwr { s.pwr with edges := s.pwr.edges + ns * 8 / 5 + 8 }
/-- A PROMISED job running on core 0. -/
def wJob : Job :=
  { id := 1, cls := 0, handler := 3, jobnum := 9, session := 1, dome := 2, epoch := 1, core := some 0, st := .running
    handles := [1], cycles := 8
    h := { wcet := 1000, symU := 100, digU := 100, pkeU := 100000, moverBytes := 4096, egressBytes := 1000 } }
/-- Spire `p` owned by dome 2, ACTIVE and idle, all power states allowed. -/
def wSpire (p : Nat) : State :=
  ((((wOn.setDome 2 { allot := some { spires := 2 ^ p } }).set R.PWR_IDLE_DOZE_IDLE 1).set R.PWR_IDLE_NAP_IDLE 1).set
    R.PWR_CEIL_CEIL 3).set R.PWR_BUDGET_BUDGET_US 60
/-- Every spire in NAP, DEEP allowed. -/
def wDeep : State :=
  (List.range 32).foldl (fun (s : State) p => s.set (R.PWR_SPIRE_STATE_S p) 2)
    ((((wOn.set R.RST_BOOT_PHASE 12).set R.PWR_CEIL_CEIL 3).set R.PWR_BUDGET_BUDGET_US 25000).set R.PWR_IDLE_DEEP_IDLE 1)
/-- A placed PROMISED job bound to core 0, whose spire is ACTIVE. -/
def wReady : State :=
  (wOn.setCore 0 { phase := .idle }).setJsc
    { jobs := [{ wJob with st := .admitted, placed := true, h := { wJob.h with entry := 100 } }] }
/-- A handler that takes both classes, and a content with it for clients of class 1. -/
def wHandler : Handler := { id := 3, classes := 3, spires := 8, wcet := 1000, payloadMax := 512, keysMax := 4, egressBytes := 1000 }
/-- A NETWORK section with link 0, IPv4 10.0.0.1/24. -/
def wSection : List Byte :=
  zeros 8 ++ [1] ++ zeros 7 ++ [0, 1, 0, 0, 2, 0, 0, 0, 0, 1, 24, 0, 10, 0, 0, 1] ++ zeros 48
/-- A peer on link 0. -/
def wPeer : Peer := { link := 0, mac := [2, 0, 0, 0, 0, 9], ip := [10, 0, 0, 9], port := 7000 }
/-- An open session of dome `d` in context 0. -/
def wSes (d : Nat) : Ses := { st := 2, sid := 0, dome := d, cls := 1, peer := wPeer, eps := [{ ms := zeros 48 }], counted := false }
/-- Link 0 up, dome 2 READY with a content, an open session of dome 2, the journal open. -/
def wNet : State :=
  ((((((((wSpire 3).setNet { section_ := wSection }).setSes { ctxs := [(0, wSes 2)], cache := [0] }).set R.NET_LINK_UP 1).set
    R.NET_UDP_MTU 1500).set R.JRN_STATUS_OPEN 1).set R.JRN_FREE_POSITIONS 2).set (R.STB_DOM_STATE_STATE 2) 2).setDome 2
    { allot := some { spires := 8 }, content := some { handlers := [wHandler], classes := [[1, 0]] } }
/-- A BEST request of handler 3, number 9. -/
def wBest : List Byte := [0x10, 1, 3, 0, 9, 0, 0, 0] ++ zeros 24
def wMsg : RxMsg := { ctx := some 0, kind := 0x10, peer := wPeer, body := wBest, at_ := 0 }
def wBestReq : JobReq := { cls := 1, handler := 3, jobnum := 9, deadline := 0, regions := 0, keys := [], payload := [] }
def wAsk : State :=
  ((wNet.set R.JSC_STATUS_OPEN 1).set (R.JSC_DOME_LIMIT_MAX 2) 1).set (R.JSC_BEST_MAX_MAX 2) 1
def wDone : Job := { wJob with st := .done, status := 0 }
def wTx : TxMsg := { peer := wPeer, prio := 1, job := some 1, kind := 0x10, body := zeros 32 }
def wIdle : State :=
  (wNet.setSpire 3 { loaded := some 0 }).setJsc { turn := 2, jobs := [{ wJob with cls := 1, st := .admitted, core := none, epoch := 0, h := wHandler, handles := [] }] }
/-- Requests: of one key, with region 0, PROMISED, PROMISED due in 1 ns. -/
def wKeyBody : List Byte := [0x10, 1, 3, 0, 9, 0, 0, 0] ++ zeros 16 ++ [1] ++ zeros 7 ++ toLE 4 5 ++ zeros 4
def wKeyReq : JobReq := { wBestReq with keys := [5] }
def wRegBody : List Byte := [0x10, 1, 3, 0, 9, 0, 0, 0] ++ zeros 8 ++ [1] ++ zeros 15
def wProBody : List Byte := [0x10, 0, 3, 0, 9, 0, 0, 0] ++ zeros 24
def wDueBody : List Byte := [0x10, 0, 3, 0, 9, 0, 0, 0, 1] ++ zeros 23
/-- Dome 2 with a content, or with a handler for clients of class 1; requests of it. -/
def wAskW (c : Content) : State := wAsk.setDome 2 { allot := some { spires := 8 }, content := some c }
def wAskC (h : Handler) : State := wAskW { handlers := [h], classes := [[1, 0]] }
def wAskB (b : List Byte) (h : Handler) : State := (wAskC h).setSes { wAsk.ses with inbox := [{ wMsg with body := b }] }
def wAskP (s : State) : State := s.setSes { s.ses with inbox := [{ wMsg with body := wProBody }] }
def wAskD (s : State) : State := s.setSes { s.ses with inbox := [{ wMsg with body := wDueBody }] }
def wDup : State := wAsk.setJsc { jobs := [{ wJob with session := 0, jobnum := 9 }] }
/-- The time is set, with and without a spire that holds the handler; with a region of it not armed. -/
def wProm0 : State := wAsk.set R.TIME_STATUS_UNSET 0
def wProm : State :=
  ((wProm0.setSpire 3 { loaded := some 0 }).set (R.STB_DOM_STATE_EPOCH 2) 0).setDome 2
    { allot := some { spires := 8, lanes := 1 }, content := some { handlers := [wHandler], classes := [[1, 0]] } }
def wWarm : State := (wAskW { handlers := [{ wHandler with regions := 1 }], classes := [[1, 0]], regions := [zeros 64] }).set R.TIME_STATUS_UNSET 0
/-- The access rules in force, one of which lets the keep use the first 4 KiB of spire 0's SRAM. -/
def wRules : State :=
  { (wOn.set R.ART_STATUS_BOOTSET 0).set R.ART_FENCE_DRAINED 1 with
    artCur := [(0, { base := 0xE000000, pages := 1, classes := 2, rmask := 1, wmask := 1, xmask := 0 })] }
/-- Rules that let the keep use DDR's first 64 KiB, flash and registers. -/
def wOpen : State :=
  { wOn.set R.ART_STATUS_BOOTSET 0 with artCur := [(0, { base := 0, pages := 16, classes := 2, rmask := 1, wmask := 1 }), (1, { base := 0xF000000, pages := 16, classes := 2, rmask := 1, wmask := 1 })] }
/-- A descriptor of dome 2 that zeroes. -/
def wMv : MvDesc := { job := 7, ticket := 1, spire := 0, core := 0, tier := 0, dome := 2, artEpoch := 0, op := 1, len := 64, va := 64, loc := 0, stat := 0, statOk := false }
/-- Dome 2 maps the page at 0 to the writable page at 0x3_0000, and the movers may write it. -/
def wMover : State :=
  { ((wRules.set (R.MMU_ROOT_VALID 2) 1).set (R.MMU_ROOT_INDEX 2) 0) with
    artCur := [(0, { base := 0, pages := 256, classes := 4, rmask := 4, wmask := 4, xmask := 0 })]
    mmu := { table := [(0, 3 + 0x10000 * 512), (512, 3 + 0x10000 * 1024), (1024, 3 + 0x10000 * 1536), (1536, 5 + 0x10000 * 3)] }
    mover := [{ wMv with op := 3, len := 128 }] }
/-- A descriptor of job 7 with its status word in spire 0's SRAM. -/
def wMvS : MvDesc := { wMv with stat := 0xE000000040, loc := 0xE000001000, statOk := true }
/-- Job 7 runs on core 0 and has the one descriptor out; the mover may write its spire's SRAM. -/
def wMv1 : State :=
  { wRules.setJsc { jobs := [{ wJob with id := 7, tickets := [(1, 0)] }] } with
    artCur := [(0, { base := 0xE000000, pages := 2, classes := 4, rmask := 4, wmask := 4, xmask := 0 }), (1, { base := 0, pages := 256, classes := 4, rmask := 4, wmask := 4, xmask := 0 })], mover := [wMvS] }
/-- The same with an operation, where the page at 0 of dome 2 has a leaf. -/
def wMvAt (op leaf : Nat) : State :=
  { (wMv1.set (R.MMU_ROOT_VALID 2) 1).set (R.MMU_ROOT_INDEX 2) 0 with
    mmu := { table := [(0, 3 + 0x10000 * 512), (512, 3 + 0x10000 * 1024), (1024, 3 + 0x10000 * 1536), (1536, leaf)] }
    mover := [{ wMvS with op := op }] }
/-- The same with a copy of two granules. -/
def wMvCopy (op : Nat) : State := { wMvAt op 0x30005 with mover := [{ wMvS with op := op, len := 128 }] }
/-- A declaration of one 64 KiB page at DDR address 0x40000, with the image key of index 7. -/
def wDecl : List Byte := zeros 16 ++ toLE 8 0x40000 ++ toLE 8 0x10000 ++ zeros 4 ++ toLE 4 7 ++ zeros 24
def wRst : Restore := { dome := 2, region := 0, src := 0x100000 }
/-- Dome 2 has that region, its page is SEALED ABSENT, and a chunk of zeros lies in lane 0's buffer. -/
def wChunk : State :=
  { (((wRules.set R.RST_ROOT_SRK_VALID 1).set (R.MMU_ROOT_VALID 2) 1).setDome 2 { content := some { regions := [wDecl] } }) with
    mmu := { lanes := [(0, wRst)], table := [(0, 3 + 0x10000 * 512), (512, 3 + 0x10000 * 1024), (1024, 3 + 0x10000 * 1536), (1536, 0x2000000000012)] }
    mem := [(0x100000, 0x53), (0x100001, 0x4C), (0x100002, 0x43), (0x100003, 0x48), (0x100012, 1)] }
def wMemc (m : Memc) : State := { wOn with memc := m }
/-- Key slots 5 and 6 READY with keys of an algorithm. -/
def wKeys (alg usage : Nat) : KeyU :=
  { slots := [(5, { st := 2, mat := { alg := alg, usage := usage, key := zeros (if alg = 4 ∨ alg = 1 then 16 else 32) } }), (6, { st := 2, mat := { alg := 4, key := zeros 16 } })] }
/-- A SYM command on engine 31 with no operands. -/
def wSymC (op : Nat) : Cmd :=
  { pool := 0, job := 1, ticket := 2, core := 0, tier := 0, dome := 2, artEpoch := 0, desc := [BitVec.ofNat 8 op, 0, 0, 1] ++ zeros 60, slots := [5, 6], st := .running 31, checked := true }
def wSymD (op : SymOp) : SymD :=
  { op := op, ivOut := false, flags := 0, key0 := 0, key1 := 1, status := 0, inA := 0, inLen := 0, out := 0, aux := 0, auxLen := 0, zero := 0, param := zeros 32 }
def wSym (op alg : Nat) : State := { wOn with key := wKeys alg 0x100, cmds := [wSymC op], pools := { symRes := [(31, zeros 64)] } }
/-- Rules that let the SYM engines read core 0's image area for dome 2. -/
def wEng : State := { wOn.set R.ART_STATUS_BOOTSET 0 with artCur := [(0, { base := 0xE800000, pages := 64, classes := 8, rmask := 4, wmask := 4 })] }
/-- A DUKPT command whose KSN has a counter of 1. -/
def wDukC : Cmd :=
  { wSymC 0x30 with desc := [0x30, 0, 0, 1] ++ zeros 28 ++ zeros 11 ++ [1] ++ zeros 20 }
def wDukD : SymD := { wSymD .dukptPin with param := zeros 11 ++ [1] ++ zeros 20 }
/-- A pair of dome 2 and class `k` 1 in GRACE, its time over, with a ladder of one step; spire 0 is the dome's only one and runs its job. -/
def wLadder (code k : Nat) : State :=
  { ((((((((wOn.set (R.FCU_DC_STATE_STATE 2 1) 1).set (R.FCU_GRACE_US 1) 0).set (R.FCU_LADDER_STEPS 1) code).set (R.STB_DOM_STATE_STATE 2) k).set
      (R.FCU_DC_STATE_TRIGGER 2 1) 0).setDome 2 { allot := some { spires := 1 }, content := some { spiresUsed := 1 } }).setJsc
      { jobs := [wJob] }).setCore 0 { phase := .running, job := some 1 }) with fcu := [(9, -1)] }
/-- An application of 256 bytes, and one of dome 2; images of one section, TAMPER or a CONTENT of dome 2. -/
def wApp : StbApp := { src := 0, len := 256, stage := 0x1000, abrupt := false, dome := 2 }
def wStb (a : StbApp) : State := wOn.setStb { app := some a }
def wStaged (a : StbApp) (img : List Byte) : State :=
  { (wStb a).set R.ART_STATUS_BOOTSET 0 with artCur := [(0, { base := 0, pages := 64, classes := 0xFFFFFFFF, rmask := 0x5, wmask := 0x5 })] }.putBytes 0x1000 img
def wStbDom : StbApp := { wApp with phase := 3, kind := 1 }
def wCont : Content := { spiresUsed := 8, version := 9 }
def wAmendApp : StbApp := { wApp with phase := 4, kind := 2 }
def wMasks : List Byte := [1, 2, 3, 4, 5, 6, 7, 8, 9, 10, 11, 12, 13, 14, 15, 16, 17]
def wImg1 (kind dome type len : Nat) : List Byte :=
  zeros 6 ++ [BitVec.ofNat 8 kind, BitVec.ofNat 8 dome] ++ zeros 8 ++ [1] ++ zeros 111 ++ [BitVec.ofNat 8 type, 0, 0, 0, 192, 0, 0, 0, BitVec.ofNat 8 len] ++ zeros 55
def wDomImg : List Byte := wImg1 1 2 2 64 ++ [2] ++ zeros 63
def wAmend : State := wStaged wAmendApp (wImg1 2 0 7 17 ++ wMasks ++ zeros 47)

/-- A DIG command on engine 31 with no input, SHA-256, STATUS at the start of the scratch. -/
def wDigC (op : Nat) : Cmd :=
  { pool := 1, job := 1, ticket := 2, core := 0, tier := 0, dome := 2, artEpoch := 0, desc := [BitVec.ofNat 8 op, 1, 0, 0, 0, 0, 1, 0] ++ zeros 8 ++ (if op = 4 ∨ op = 5 then zeros 4 else [0x20, 0, 1, 0]) ++ (if op < 4 then zeros 4 else [0, 1, 1, 0]) ++ zeros 8, slots := [5, 6], st := .running 31, checked := true }
/-- The same with KEYED set. -/
def wDigK (op : Nat) : Cmd := { wDigC op with desc := [BitVec.ofNat 8 op, 1, 0, 1, 0, 0, 1, 0] ++ zeros 8 ++ [0x20, 0, 1, 0, 0, 1, 1, 0] ++ zeros 8 }
def wDig (op : Nat) : State := { wOn with cmds := [wDigC op] }
/-- The same, with a record whose STATE is `st` at CTX. -/
def wDigR (op st : Nat) : State := { wEng.putBytes (coreAddr 0 0x10100) [BitVec.ofNat 8 st, 1] with cmds := [wDigC op] }
def wQueue (op : Nat) : State := { wOn with cmds := [{ wDigC op with st := .waiting, checked := false }] }
/-- An AES ECB encryption on engine 31 with nothing to encrypt, STATUS at the start of the scratch. -/
def wEcb : Cmd := { wSymC 1 with desc := [1, 0, 0, 0, 0, 0, 1, 0] ++ zeros 8 ++ [0x20, 0, 1, 0] ++ zeros 44 }
/-- Every SYM engine runs a BEST command, and a PROMISED one waits. -/
def wYield : State :=
  { wOn with key := wKeys 1 1, cmds := (List.range 32).map (fun e => { wSymC 1 with job := e, st := .running e }) ++ [{ wEcb with job := 50, promise := some 9, st := .waiting, checked := false }] }
/-- An install command on index 7: 1 installs it from the DDR line at 0x1000, 2 finds it installed already, 3 removes it, 4 finds it
pinned. -/
def wInst (op : Nat) : State :=
  { (((wRules.set R.RST_ROOT_SRK_VALID 1).set R.MEMC_KEYTAB_HI_COUNT 16).set R.KEY_INST_SRC_ADDR 64) with
    artCur := [(0, { base := 0, pages := 64, classes := 0xFFFFFFFF, rmask := 1, wmask := 1 })]
    key := { tkey := zeros 32, inst := some (if op = 2 then 1 else if op = 4 then 3 else op, 7), dir := if op = 1 then [] else [(7, 130)], slots := if op = 4 then [(9, { st := 2, index := 7, pinned := true })] else [] } }
/-- Index 7 is installed for dome 2, whose partition is slot 5; the slot holds it, READY (2) or FETCHING (1). -/
def wPart (st : Nat) : State :=
  { (wOn.set (R.KEY_PART_FIRST 2) 5).set (R.KEY_PART_COUNT 2) 1 with key := { dir := [(7, 130)], slots := [(5, { st := st, index := 7, dome := 2 })] } }
/-- The lane has read the entry of slot 5. -/
def wGot : State :=
  { wOn with key := { tkey := zeros 32, slots := [(5, { st := 1, index := 7, refs := 1, dome := 2, entry := some [] })] } }

/-- A PKE command on engine 4, STATUS at the start of the scratch. -/
def wPkC (op curve : Nat) : Cmd :=
  { pool := 2, job := 1, ticket := 2, core := 0, tier := 0, dome := 2, artEpoch := 0, slots := [5], st := .running 4, checked := true
    desc := [BitVec.ofNat 8 op, BitVec.ofNat 8 curve, 0, 1, 0, 0, 1, 0] ++ zeros 56 }
def wPk (op curve : Nat) : State := { wOn with cmds := [wPkC op curve] }
/-- A verification on P-256 under the base point. -/
def wPkV : Cmd := { wPkC 0x12 1 with ins := [zeros 32, [], 4 :: (toBE 32 curveP256.gx ++ toBE 32 curveP256.gy), zeros 64] }
/-- An RSA command of k = 32 bytes with a public key, its input and signature zero. -/
def wPkRsa (op : Nat) : Cmd := { wPkC op 4 with ins := [zeros 32, [], toBE 32 (2 ^ 255 + 1) ++ toBE 3 65537, zeros 32] }
/-- Pair 3 in a state, with RUN failed windows behind it and 3 good ones. -/
def wPair (st run : Nat) : State :=
  ((wOn.set (R.ENT_PAIR_STAT_STATE 3) st).set (R.ENT_PAIR_STAT_RUN 3) run).setPair 3 { good := 3 }
/-- Two conditioned blocks, a reseed due, seeded and starved. -/
def wStore : State :=
  { (wOn.set R.ENT_STATUS_SEEDED 1).set R.ENT_STATUS_STARVED 1 with ent := { store := [zeros 32, zeros 32], due := true } }

/-- Main power on and tamper handling live. -/
def wLive : State := { wOn with tmp := { live := true } }
/-- LIGHT waits for its firing, with a mask. -/
def wArmed : State := wLive.setPwr { wLive.pwr with armed := true }
def wFire (mask : Nat) : State := { wOn.set (R.TMP_MASK_MASK 7) mask with tmp := { live := true, queue := [{ src := 7 }] } }

/-- A received message of a kind in context 0. -/
def wIn (kind : Nat) : RxMsg := { ctx := some 0, kind := kind, peer := wPeer, body := zeros 64, at_ := 0 }
/-- That message in an open session of dome `d`. -/
def wInbox (kind d : Nat) : State :=
  wNet.setSes { ctxs := [(0, wSes d)], cache := [0], inbox := [if kind = 1 then { wIn 1 with ctx := none } else wIn kind] }
/-- Rules that let every class use the first 256 KiB of DDR for dome 0. -/
def wDdr : State := { wNet.set R.ART_STATUS_BOOTSET 0 with artCur := [(0, { base := 0, pages := 64, classes := 0xFFFFFFFF, rmask := 1, wmask := 1 })] }
/-- The keep asks for a session of group 1 from the line at 0x1000; dome 0 may hold 4. -/
def wAsked : State := (wDdr.putBytes (0x1000 + 20) [1]).setDome 0 { allot := some { spires := 1, sessions := 4 } }
/-- One entry in the keep's transmit ring, for no open session. -/
def wKtx : State := (wDdr.setSes {}).set R.SES_KTX_RING_ENTRIES 2
/-- A client hello of group 1 for class 1 of dome 2. -/
def wHi : RxMsg :=
  { ctx := none, kind := 1, peer := wPeer, body := [1, 0, 1, 0, 2, 0, 0, 0] ++ zeros 32 ++ 4 :: (toBE 32 curveP256.gx ++ toBE 32 curveP256.gy), at_ := 0 }
/-- The class: link 0 allowed, up to 8 sessions. -/
def wCls : List Byte := [1, 0, 0, 0, 1, 0, 0, 0, 8, 0, 0, 0] ++ zeros 52
def wHello : State :=
  ((wNet.set R.SES_CTX_VALID 1).setSes { ctxs := [(0, wSes 2)], cache := [0], inbox := [wHi] }).setDome 2
    { allot := some { spires := 8, sessions := 8 }, content := some { handlers := [wHandler], classes := [wCls] } }
/-- A message of session 0, dome 2, that waits for egress. -/
def wSm : TxMsg := { peer := wPeer, prio := 4, kind := 0x0B, ctx := some 0, sec := zeros 44 }
/-- The PKE command of context 0 has its code. -/
def wSigCmd : Cmd := { pool := 2, job := 2 ^ 32, ticket := 0, core := 1008, tier := 1, dome := 0, artEpoch := 0, desc := unitDesc 0x12 1, st := .running 4, code := some 0 }
def wSigOf (c : Ses) : State := { wNet.setSes { ctxs := [(0, c)], cache := [0] } with cmds := [wSigCmd] }
def wSig : State := wSigOf { wSes 2 with st := 1, want := .sigC wPeer (zeros 48) (zeros 8) [] }
def wSigD : State := wSigOf { wSes 0 with st := 1, client := true, want := .sigD wPeer 7 (zeros 48) (zeros 8) [] }
def wSigF : State := wSigOf { wSes 0 with st := 1, client := true, want := .sigD wPeer 7 (zeros 48) (zeros 8) (hmac 2 (finKey [] "d") (sha 2 (zeros 8))) }
/-- A received federation message of a type in context 0. -/
def wFm (ty : Nat) : RxMsg := { wIn 0x10 with body := BitVec.ofNat 8 ty :: zeros 63 }
/-- A WELCOME of TERM 1. -/
def wTm : RxMsg := { wIn 0x10 with body := [0x41, 0, 0, 0, 1] ++ zeros 59 }
/-- That message in an open session of dome 0. -/
def wFeds (ty : Nat) : State := wNet.setSes { ctxs := [(0, { wSes 0 with root := zeros 48 })], cache := [0], inbox := [wFm ty] }
/-- At the tower of federation 0, HB_MS 1 and LOSS_COUNT 3, where the session is a member's for all but JOIN. -/
def wTower (ty : Nat) : State :=
  ((wFeds ty).set R.FED_STATUS_STATE 5).setFed { section_ := [2, 3, 1, 0] ++ zeros 124, members := if ty = 0x40 then [] else [(0, (0, 0))] }
/-- At a worker in a state, in its session with the tower. -/
def wMember (ty st : Nat) : State :=
  ((wFeds ty).set R.FED_STATUS_STATE st).setFed { section_ := [1, 3, 1, 0] ++ zeros 124, tower := some 0 }
/-- A KEYSET of one entry: the AES key of zeros for dome 2, with a wrong KCV. -/
def wKs : RxMsg := { wIn 0x10 with body := [0x45] ++ zeros 11 ++ [1, 0, 0, 0] ++ [2, 1, 16, 0, 1, 0, 0, 0] ++ zeros 40 }
/-- A member that stages epoch 0. -/
def wStaging : State :=
  (((wMember 0x45 2).set R.FED_FENCE_DRAINED 1).set R.FED_STATUS_STAGED 1).setFed { (wMember 0x45 2).fed with next := some 0 }
def wDrain : State :=
  ((wTower 0x46).set R.FED_FENCE_DRAINED 0).setFed { section_ := [2, 3, 1, 0] ++ zeros 28 ++ [1] ++ zeros 95 }
/-- The receive buffer of link 0 holds 2 MiB. -/
def wFull21 : State := wNet.setNet { wNet.net with reqs := [{ link := 0, kind := 1, frame := zeros (2 ^ 21) }] }
def wKsend : State :=
  (((wDdr.setSes { ctxs := [(0, { wSes 0 with sid := 5 })], cache := [0] }).set R.SES_KTX_RING_ENTRIES 2).set R.SES_KTX_RING_ADDR 0x100).putBytes
    0x1000 ([5, 0, 0, 0, 4, 0, 0, 0, 0, 0x20, 0, 0, 0, 0, 0, 0])

/-- The flash is scanned; FLC_ADDR names the page at 16 MiB. -/
def wFlash : State := (wOn.set R.FLC_STATUS_SCANNED 1).set R.FLC_ADDR_OFFSET 0x1000000
/-- A program of 64 bytes at 16 MiB. -/
def wPage : FlOp := { op := 1, addr := 0x1000000, size := 64, data := zeros 64, phase := 1 }
/-- An operation runs. -/
def wFlop (op : Nat) : State := wFlash.setFlc { op := some { wPage with op := op } }
/-- The ledger's current half is full: a snapshot, and entries for the rest. -/
def wFull : State :=
  wFlash.setFlc { halves := [(0, { snap := some [], entries := List.replicate 8191 { sector := 1, ends := true, count := 1, ok := true } })] }

/-- A card in slot 1, whose slot runs a command (0 none). -/
def wCard (op : Nat) : State := (wOn.set (R.ICC_STATUS_PRESENT 1) 1).setIcc 1 { cmd := op }
/-- Both components of a ceremony for a target have been taken. -/
def wCer (target : Nat) : State :=
  { (wOn.set R.ICC_CER_STATUS_STATE 1).set R.ICC_CER_STATUS_GOT 3 with cer := { acc := zeros 32, target := target, n := 2, dome := if target = 2 then 3 else 0 } }
/-- A key block of usage S0 lies at 0 of the DDR, open to dome 3, whose import key is there. -/
def wKb : State :=
  { (((((wCer 2).set (R.ICC_CFG_DOME 0) 3).set R.ICC_CER_STATUS_STATE 2).set R.ICC_CER_KB_LEN 16).set R.ART_STATUS_BOOTSET 0).putBytes 5 [0x53, 0x30] with
    artCur := [(0, { base := 0, pages := 64, classes := 0xFFFFFFFF, rmask := 8, wmask := 8 })] }

/-- An identified card of 100 blocks, the host running an operation in a phase. -/
def wSd (op : Nat) (ph : SdPhase) : State :=
  ((wOn.set R.SDH_STATUS_PRESENT 1).set R.SDH_STATUS_READY 1).setSdh { op := op, phase := ph, ven := true, cap := 100 }
/-- An MMC card with an RPMB. -/
def wRpmb (op : Nat) (ph : SdPhase) : State := ((wSd op ph).set R.SDH_STATUS_TYPE 2).set R.SDH_STATUS_RPMB 1

/-- The carrier on, the reader running a command in a phase. -/
def wRd (cmd : Nat) (ph : RdPhase) : State := (wOn.set R.CLF_STATUS_CARRIER 1).setReader { cmd := cmd, phase := ph }
/-- The same, six seconds later on the time base. -/
def late (s : State) : State := wLater s 6000000000
def wBadge : Badge := { sk := zeros 16, rnd := zeros 8 }
/-- A card active, with a session. -/
def wSess : State :=
  (((wRd 0 .idle).set R.CLF_STATUS_RCARD 1).set R.CLF_STATUS_RSESSION 1).setReader { session := some wBadge }
/-- Bedrock runs with no field. -/
def wField : State := { wOn with pwr := { wOn.pwr with bedrock := true } }
/-- An outside field, the tag in a phase of its protocol. -/
def wTag (ph : TagPhase) : State := ((wField.set R.CLF_STATUS_FIELD 1).set R.CLF_CTRL_TAG_EN 1).setTag { phase := ph }
/-- Main power off and a field, hand-overs of the mailbox waiting. -/
def wAskedOff (as : List MboxAsk) : State := { State.reset with pwr := { State.reset.pwr with bedrock := true }, tag := { asked := as } }
/-- The tag with a session. -/
def wTagS : State := ((wTag .iso).set R.CLF_STATUS_TSESSION 1).setTag { phase := .iso, session := some wBadge }

/-- What waits in the receive buffer of link 0 with one request. -/
theorem wFull21_held (f : List Byte) :
    State.rxHeld (wNet.setNet { wNet.net with reqs := [{ link := 0, kind := 1, frame := f }] }) 0 = 0 + (f.length + 0) + 0 :=
  rfl

/-- A disturbance of a message's integrity code alone is found, whatever the code's initial value (R33). -/
theorem busReceive_code (m : List Byte) (e : Byte) (h : e ≠ 0) : busReceive m (zeros m.length ++ [e]) = none := by
  have hx : xorB m (zeros m.length) = m := by
    induction m with
    | nil => rfl
    | cons a t ih => simpa [xorB, zeros, List.replicate_succ] using ih
  obtain ⟨a, b, hb⟩ : ∃ a b, busCode m = [a, b] := ⟨_, _, rfl⟩
  have hf : fitBytes (m.length + 2) (zeros m.length ++ [e]) = zeros m.length ++ [e, 0] := by
    simp [fitBytes, zeros, List.take_append]
  have hr : xorB (m ++ busCode m) (fitBytes (m.length + 2) (zeros m.length ++ [e])) = m ++ [a ^^^ e, b] := by
    rw [hf, hb]
    unfold xorB at hx ⊢
    rw [List.zipWith_append (by simp [zeros]), hx]
    simp
  unfold busReceive
  rw [hr]
  simpa [hb] using h

theorem bytes_length (s : State) (a n : Nat) : (s.bytes a n).length = n := by simp [State.bytes]

theorem bytes_slice (s : State) (a n o m : Nat) (h : o + m ≤ n) : sliceB (s.bytes a n) o m = s.bytes (a + o) m := by
  apply List.ext_getElem
  · simp [sliceB, State.bytes]; omega
  · intro i h1 h2
    simp [sliceB, State.bytes, Nat.add_assoc]

theorem bytes_append (s : State) (a m n : Nat) : s.bytes a m ++ s.bytes (a + m) n = s.bytes a (m + n) := by
  simp [State.bytes, List.range_add, Nat.add_assoc, Function.comp_def]

theorem bytes_take (s : State) (a n m : Nat) (h : m ≤ n) : (s.bytes a n).take m = s.bytes a m := by
  simpa [sliceB] using bytes_slice s a n 0 m (by omega)

theorem readLine_clean (s : State) (h : s.memc.bad = []) (l g d : Nat) : s.readLine l g d = (s.bytes l 64, 0, s) := by
  simp [State.readLine, State.lineState, h, tabGet, tabFind]

theorem readDdr_none (s : State) (g d a : Nat) : ∀ k, s.readDdr g d a 0 k = ([], 0, s)
  | 0 => rfl
  | _ + 1 => by simp [State.readDdr]

/-- DDR without a bad line reads as what it holds. -/
theorem readDdr_clean (s : State) (h : s.memc.bad = []) (g d : Nat) : ∀ k a n, a % 64 = 0 → n ≤ 64 * k →
    s.readDdr g d a n k = (s.bytes a n, 0, s) := by
  intro k
  induction k with
  | zero => intro a n _ hn; obtain rfl : n = 0 := by omega
            rfl
  | succ k ih =>
    intro a n ha hn
    by_cases h0 : n = 0
    · subst h0; exact readDdr_none s g d a _
    have hl : lineOf a = a := by simp [lineOf]; omega
    simp only [State.readDdr, if_neg h0, hl, readLine_clean s h]
    rcases Nat.lt_or_ge 64 n with h64 | h64
    · have hm : min n (a + 64 - a) = 64 := by omega
      rw [hm, ih (a + 64) (n - 64) (by omega) (by omega), Nat.sub_self, bytes_slice _ _ _ _ _ (by omega)]
      simp [bytes_append, Nat.add_sub_cancel' (Nat.le_of_lt h64)]
    · have hm : min n (a + 64 - a) = n := by omega
      rw [hm, Nat.sub_self, Nat.sub_self, bytes_slice _ _ _ _ _ (by omega), readDdr_none]
      simp

theorem bytes_congr {s t : State} (h : s.mem = t.mem) (a n : Nat) : s.bytes a n = t.bytes a n := by
  simp [State.bytes, State.byte, h]

theorem restoreChunk_clean (s : State) (h : s.memc.bad = []) (x : Restore) (hx : x.src % 64 = 0) :
    s.restoreChunk x = (s.bytes x.src 65616, s.memAgent.2) := by
  unfold State.restoreChunk
  rw [readDdr_clean s.memAgent.2 h _ _ _ _ _ hx (by omega), bytes_congr (s := s.memAgent.2) (t := s) rfl]

/-- A state and operands for the clause of Translation on a chunk that is read. -/
theorem wChunk_meets : wChunk.spiresRun = true ∧ tabFind wChunk.mmu.lanes 0 = some wRst
    ∧ wChunk.get R.RST_ROOT_SRK_VALID = 1 ∧ wChunk.region wRst.dome wRst.region = some wDecl
    ∧ wChunk.openDdr wRst.src 65616 = true
    ∧ (wChunk.restoreFree 0).restoreChunk wRst = (wChunk.bytes 0x100000 65616, (wChunk.restoreFree 0).memAgent.2)
    ∧ chunkFormat wDecl ((wChunk.bytes 0x100000 65616).take 64) = true ∧ (fld wDecl 0x10 8) % 64 = 0
    ∧ fld wDecl 0x10 8 + 65536 * fld (wChunk.bytes 0x100000 65616) 0x0C 4 + 65536 ≤ 0x2000000000
    ∧ wChunk.get R.MMU_RST_DONE_COUNT < 2 ^ 64 - 1 := by
  refine ⟨by decide +kernel, by decide +kernel, by decide +kernel, by decide +kernel, by decide +kernel, ?_, ?_, by decide +kernel,
    ?_, by decide +kernel⟩
  · rw [restoreChunk_clean _ rfl _ rfl, bytes_congr (s := wChunk.restoreFree 0) (t := wChunk) rfl,
      show wRst.src = 0x100000 from rfl]
  · rw [bytes_take _ _ _ _ (by omega)]; decide +kernel
  · unfold fld; rw [bytes_slice _ _ _ _ _ (by omega)]; decide +kernel

/-! ### Well-formedness: every check refuses a command that fails it -/

theorem test_wf_refuses_1 : ∀ i ∈ ([
    .registerWrite (2 ^ 40) 0, .registerWrite 0 (2 ^ 64), .transfer 1024 0 0 0 0 0 [] 0 none false,
    .transfer 0 (2 ^ 18) 0 0 0 0 [] 0 none false, .transfer 0 0 (2 ^ 64) 0 0 0 [] 0 none false,
    .transfer 0 0 0 3 0 0 [] 0 none false, .transfer 0 0 0 0 (2 ^ 40) 0 [] 0 none false,
    .transfer 0 0 0 0 0 0 [] 5 none false, .timeSet (2 ^ 64), .dozeIdleExpiry 32, .napIdleExpiry 32,
    .spireTransitionEnd 32, .pwrCeilWrite 8, .pwrCeilForce 8, .pwrBudgetWrite (2 ^ 16), .lifecycleAdvance (2 ^ 16) 0,
    .lifecycleAdvance 0 4, .mgtRead (2 ^ 16) 1 false, .mgtRead 0 0 false, .mgtRead 0 65 false,
    .mgtWrite (2 ^ 16) [] 0 false, .mgtWrite 0 (List.replicate 65 0) 0 false, .mgtWrite 0 [] (2 ^ 16) false,
    .bootSelect (2 ^ 32), .clearAlert (2 ^ 32), .readEvidence (2 ^ 32), .recoverCommit (2 ^ 32), .stbStart false 64,
    .spireReload 32, .spireReloadEnd 32, .domeDrained 64, .stbRaiseDomv 64, .jobStart 512, .preemptionEnd 512,
    .bestAssign 512, .bestResume 512, .bestResumeEnd 512, .cycleBudgetExpiry 512, .completionTx 16,
    .journalExport (2 ^ 64), .scrubFreeze 32, .waitb 512 0, .waitb 0 65536, .exit 512 0 0, .exit 0 32 0, .exit 0 0 32,
    .add 512 0 0 0, .add 0 32 0 0, .add 0 0 32 0, .add 0 0 0 32, .sub 512 0 0 0, .sub 0 32 0 0, .sub 0 0 32 0,
    .sub 0 0 0 32, .and 512 0 0 0, .and 0 32 0 0, .and 0 0 32 0, .and 0 0 0 32, .or 512 0 0 0, .or 0 32 0 0, .or 0 0 32 0,
    .or 0 0 0 32, .xor 512 0 0 0, .xor 0 32 0 0, .xor 0 0 32 0] : List Instr), i.wf = false := by decide +kernel

theorem test_wf_refuses_2 : ∀ i ∈ ([
    .xor 0 0 0 32, .andn 512 0 0 0, .andn 0 32 0 0, .andn 0 0 32 0, .andn 0 0 0 32, .orn 512 0 0 0, .orn 0 32 0 0,
    .orn 0 0 32 0, .orn 0 0 0 32, .nor 512 0 0 0, .nor 0 32 0 0, .nor 0 0 32 0, .nor 0 0 0 32, .min 512 0 0 0,
    .min 0 32 0 0, .min 0 0 32 0, .min 0 0 0 32, .max 512 0 0 0, .max 0 32 0 0, .max 0 0 32 0, .max 0 0 0 32,
    .minu 512 0 0 0, .minu 0 32 0 0, .minu 0 0 32 0, .minu 0 0 0 32, .maxu 512 0 0 0, .maxu 0 32 0 0, .maxu 0 0 32 0,
    .maxu 0 0 0 32, .clz 512 0 0, .clz 0 32 0, .clz 0 0 32, .popc 512 0 0, .popc 0 32 0, .popc 0 0 32, .bswap 512 0 0,
    .bswap 0 32 0, .bswap 0 0 32, .shl 512 0 0 0, .shl 0 32 0 0, .shl 0 0 32 0, .shl 0 0 0 32, .shr 512 0 0 0,
    .shr 0 32 0 0, .shr 0 0 32 0, .shr 0 0 0 32, .sha 512 0 0 0, .sha 0 32 0 0, .sha 0 0 32 0, .sha 0 0 0 32,
    .ror 512 0 0 0, .ror 0 32 0 0, .ror 0 0 32 0, .ror 0 0 0 32, .shli 512 0 0 0, .shli 0 32 0 0, .shli 0 0 32 0,
    .shli 0 0 0 32, .shri 512 0 0 0, .shri 0 32 0 0, .shri 0 0 32 0, .shri 0 0 0 32, .shai 512 0 0 0, .shai 0 32 0 0,
    .shai 0 0 32 0] : List Instr), i.wf = false := by decide +kernel

theorem test_wf_refuses_3 : ∀ i ∈ ([
    .shai 0 0 0 32, .rori 512 0 0 0, .rori 0 32 0 0, .rori 0 0 32 0, .rori 0 0 0 32, .addi 512 0 0 0, .addi 0 32 0 0,
    .addi 0 0 32 0, .addi 0 0 0 65536, .andi 512 0 0 0, .andi 0 32 0 0, .andi 0 0 32 0, .andi 0 0 0 65536, .ori 512 0 0 0,
    .ori 0 32 0 0, .ori 0 0 32 0, .ori 0 0 0 65536, .xori 512 0 0 0, .xori 0 32 0 0, .xori 0 0 32 0, .xori 0 0 0 65536,
    .movhi 512 0 0, .movhi 0 32 0, .movhi 0 0 65536, .ext 512 0 0 0 1 false, .ext 0 32 0 0 1 false, .ext 0 0 32 0 1 false,
    .ext 0 0 0 32 1 false, .ext 0 0 0 0 0 false, .ext 0 0 0 0 33 false, .ins 512 0 0 0 1, .ins 0 32 0 0 1, .ins 0 0 32 0 1,
    .ins 0 0 0 32 1, .ins 0 0 0 0 0, .ins 0 0 0 0 33, .sel 512 0 0 0 0, .sel 0 32 0 0 0, .sel 0 0 32 0 0, .sel 0 0 0 32 0,
    .sel 0 0 0 0 2048, .mul 512 0 0 0, .mul 0 32 0 0, .mul 0 0 32 0, .mul 0 0 0 32, .mulh 512 0 0 0, .mulh 0 32 0 0,
    .mulh 0 0 32 0, .mulh 0 0 0 32, .mulhu 512 0 0 0, .mulhu 0 32 0 0, .mulhu 0 0 32 0, .mulhu 0 0 0 32, .div 512 0 0 0,
    .div 0 32 0 0, .div 0 0 32 0, .div 0 0 0 32, .divu 512 0 0 0, .divu 0 32 0 0, .divu 0 0 32 0, .divu 0 0 0 32,
    .rem 512 0 0 0, .rem 0 32 0 0, .rem 0 0 32 0, .rem 0 0 0 32] : List Instr), i.wf = false := by decide +kernel

theorem test_wf_refuses_4 : ∀ i ∈ ([
    .remu 512 0 0 0, .remu 0 32 0 0, .remu 0 0 32 0, .remu 0 0 0 32, .cmp 512 0 0 0 0, .cmp 0 12 0 0 0, .cmp 0 0 4096 0 0,
    .cmp 0 0 0 32 0, .cmp 0 0 0 0 32, .cmpi 512 0 0 0 0, .cmpi 0 8 0 0 0, .cmpi 0 0 4096 0 0, .cmpi 0 0 0 32 0,
    .cmpi 0 0 0 0 512, .bset 512 0, .bset 0 65536, .bclr 512 0, .bclr 0 65536, .binv 512 0, .binv 0 65536, .band 512 0 0,
    .band 0 4096 0, .band 0 0 4096, .bor 512 0 0, .bor 0 4096 0, .bor 0 0 4096, .bxor 512 0 0, .bxor 0 4096 0,
    .bxor 0 0 4096, .bandn 512 0 0, .bandn 0 4096 0, .bandn 0 0 4096, .bfr 512 0 1 0, .bfr 0 32 1 0, .bfr 0 0 0 0,
    .bfr 0 0 33 0, .bfr 0 0 1 65536, .tas 512 0 0, .tas 0 32 0, .tas 0 0 28672, .tac 512 0 0, .tac 0 32 0, .tac 0 0 28672,
    .ldB 512 0 0 0, .ldB 0 32 0 0, .ldB 0 0 32 0, .ldB 0 0 0 65536, .ldBu 512 0 0 0, .ldBu 0 32 0 0, .ldBu 0 0 32 0,
    .ldBu 0 0 0 65536, .ldH 512 0 0 0, .ldH 0 32 0 0, .ldH 0 0 32 0, .ldH 0 0 0 65536, .ldHu 512 0 0 0, .ldHu 0 32 0 0,
    .ldHu 0 0 32 0, .ldHu 0 0 0 65536, .ldW 512 0 0 0, .ldW 0 32 0 0, .ldW 0 0 32 0, .ldW 0 0 0 65536, .ldD 512 0 0 0,
    .ldD 0 32 0 0] : List Instr), i.wf = false := by decide +kernel

theorem test_wf_refuses_5 : ∀ i ∈ ([
    .ldD 0 0 32 0, .ldD 0 0 0 65536, .stB 512 0 0 0, .stB 0 32 0 0, .stB 0 0 32 0, .stB 0 0 0 65536, .stH 512 0 0 0,
    .stH 0 32 0 0, .stH 0 0 32 0, .stH 0 0 0 65536, .stW 512 0 0 0, .stW 0 32 0 0, .stW 0 0 32 0, .stW 0 0 0 65536,
    .stD 512 0 0 0, .stD 0 32 0 0, .stD 0 0 32 0, .stD 0 0 0 65536, .lut 512 0 0 0, .lut 0 32 0 0, .lut 0 0 32 0,
    .lut 0 0 0 32, .luti 512 0 0 0, .luti 0 32 0 0, .luti 0 0 32 0, .luti 0 0 0 32, .ctlut 512 0 0 0 1 0 false,
    .ctlut 0 32 0 0 1 0 false, .ctlut 0 0 32 0 1 0 false, .ctlut 0 0 0 32 1 0 false, .ctlut 0 0 0 0 0 0 false,
    .ctlut 0 0 0 0 65 0 false, .ctlut 0 0 0 0 1 3 false, .j 512 0, .j 0 16384, .jal 512 0 0, .jal 0 32 0, .jal 0 0 16384,
    .jr 512 0, .jr 0 32, .jalr 512 0 0, .jalr 0 32 0, .jalr 0 0 32, .bt 512 0 0, .bt 0 4096 0, .bt 0 0 16384, .bf 512 0 0,
    .bf 0 4096 0, .bf 0 0 16384, .bz 512 0 0, .bz 0 32 0, .bz 0 0 16384, .bnz 512 0 0, .bnz 0 32 0, .bnz 0 0 16384,
    .loop 512 0 0 0, .loop 0 3 0 0, .loop 0 0 16384 0, .loop 0 0 0 1024, .loopr 512 0 0 0, .loopr 0 3 0 0,
    .loopr 0 0 16384 0, .loopr 0 0 0 32, .mflb 512 0 0, .mflb 0 3 0] : List Instr), i.wf = false := by decide +kernel

theorem test_wf_refuses_6 : ∀ i ∈ ([
    .mflb 0 0 32, .mfle 512 0 0, .mfle 0 3 0, .mfle 0 0 32, .mflc 512 0 0, .mflc 0 3 0, .mflc 0 0 32, .mtlc 512 0 0,
    .mtlc 0 3 0, .mtlc 0 0 32, .submit 512 0 0 0, .submit 0 4 0 0, .submit 0 0 256 0, .submit 0 0 0 32, .nop 512,
    .trap 512 0, .trap 0 256, .cx 512 0 0 0 0 0, .cx 0 16 0 0 0 0, .cx 0 0 32 0 0 0, .cx 0 0 0 32 0 0, .cx 0 0 0 0 32 0,
    .cx 0 0 0 0 0 128, .illegal 512, .patrolScrub 4, .recolourClear 64, .recolourReencrypt 64, .sweepLine 4,
    .mmuTdataWrite (2 ^ 64), .moverGranule 32 0, .moverGranule 0 4, .descriptorResume 32 0, .descriptorResume 0 256,
    .restoreGo 64 0, .restoreGo 0 64, .restoreEnd 2, .artRuleWrite 6 0, .artRuleWrite 0 (2 ^ 64), .graceExpiry 64 0,
    .graceExpiry 0 4, .quietExpiry 64 0, .quietExpiry 0 4, .fcuAck 64 0, .fcuAck 0 4, .fcuRetire 32, .engineDispatch 2 0,
    .engineDispatch 0 32, .symYield 64, .symCommandEnd 32, .digCommandEnd 32, .aesEcbEnc 32, .aesEcbDec 32, .aesCbcEnc 32,
    .aesCbcDec 32, .aesCtr 32, .aesGcmEnc 32, .aesGcmDec 32, .aesCmacGen 32, .aesCmacVer 32, .tdesEcbEnc 32,
    .tdesEcbDec 32, .tdesCbcEnc 32, .tdesCbcDec 32, .tdesMacGen 32, .tdesMacVer 32] : List Instr), i.wf = false := by decide +kernel

theorem test_wf_refuses_7 : ∀ i ∈ ([
    .ff1Enc 32, .ff1Dec 32, .pinTranslate 32, .pvfVerify 32, .pvfGenerate 32, .arqcVerify 32, .arpcGenerate 32,
    .dukptPin 32, .dukptMacVer 32, .dukptDec 32, .kbImport 32, .kbExport 32, .hash 32, .hmac 32, .hmacVerify 32,
    .digInit 32, .digUpdate 32, .digFinal 32, .install (2 ^ 24), .replace (2 ^ 24), .remove (2 ^ 24), .pin (2 ^ 24),
    .unpin (2 ^ 24), .keyFetch 8192, .keyFetchEnd 8192, .pkeCommandEnd (2 ^ 33) 0 false, .pkeCommandEnd 0 256 false,
    .modprog (2 ^ 33) 0, .modprog 0 256, .keygen (2 ^ 33) 0, .keygen 0 256, .sign (2 ^ 33) 0, .sign 0 256,
    .verify (2 ^ 33) 0, .verify 0 256, .agree (2 ^ 33) 0, .agree 0 256, .publicKey (2 ^ 33) 0, .publicKey 0 256,
    .curveCheck (2 ^ 33) 0, .curveCheck 0 256, .rsaSign (2 ^ 33) 0, .rsaSign 0 256, .rsaVerify (2 ^ 33) 0,
    .rsaVerify 0 256, .rsaDecrypt (2 ^ 33) 0, .rsaDecrypt 0 256, .rsaEncrypt (2 ^ 33) 0, .rsaEncrypt 0 256,
    .pkImport (2 ^ 33) 0, .pkImport 0 256, .entWindowEnd 8 (zeros 128), .entWindowEnd 0 [], .entEstimateBlock 8,
    .entReq (2 ^ 11), .entTestRaw 8, .entTestPattern 8, .entTestOff 8, .meshCompare 64, .casePulse 4 .rest,
    .lightDetect 256, .vglitchDetect 7 false, .vrangeDetect 7 false, .pllUnlock 1, .pllUnlock 6] : List Instr), i.wf = false := by decide +kernel

theorem test_wf_refuses_8 : ∀ i ∈ ([
    .tempReading 4096, .tmpUnlock (2 ^ 16) 0, .tmpUnlock 0 (2 ^ 16), .tmpFlagsClear (2 ^ 17), .linkDown 16, .linkUp 16,
    .frameReceive 16 0 false [], .messageTx 16, .handshakeTimeout (2 ^ 18), .rekeyTimeout (2 ^ 18), .sessionIdle (2 ^ 18),
    .sessionEpochDrained (2 ^ 18), .keepOpen (2 ^ 40), .keepTx (2 ^ 16), .recoverData (2 ^ 32), .program 4, .swap 2,
    .iccActivate 2, .iccExchange 2 0, .iccExchange 0 512, .iccDeactivate 2, .iccComponent 2 0, .iccComponent 0 16,
    .iccCharacterReceive 2 0 0, .iccCharacterReceive 0 0 3, .iccWaitTimeout 2, .iccClassRetry 2, .iccClockStop 2,
    .iccCardPresent 2, .iccCardRemoved 2, .cerOpen 4 0 0, .cerOpen 0 16 0, .cerOpen 0 0 64, .csaWrite 16, .csaRead 16,
    .clfExchange 1024, .secureExchange 1024, .authBegin 256 0 0 [] none (zeros 16), .authBegin 0 256 0 [] none (zeros 16),
    .authBegin 0 0 256 [] none (zeros 16), .authBegin 0 0 0 [] none [], .authFinish 256 0 0 [], .authFinish 0 256 0 [],
    .authFinish 0 0 256 [], .endSession 256 0 0 [], .endSession 0 256 0 [], .endSession 0 0 256 [],
    .tagRead 256 0 0 [] none, .tagRead 0 256 0 [] none, .tagRead 0 0 256 [] none, .status 256 0 0 [], .status 0 256 0 [],
    .status 0 0 256 [], .tagWrite 256 0 0 [], .tagWrite 0 256 0 [], .tagWrite 0 0 256 [], .commit 256 0 0 [],
    .commit 0 256 0 [], .commit 0 0 256 [], .ack 256 0 0 [], .ack 0 256 0 [], .ack 0 0 256 [], .tagKeyLoad (2 ^ 24),
    .mailboxRelease 4, .mailboxPublish 4 0] : List Instr), i.wf = false := by decide +kernel

theorem test_wf_refuses_9 : ∀ i ∈ ([
    .mailboxPublish 0 512, .transfer 0 0 0 0 0 0 [] 0 (some ⟨3, 0, [], 0⟩) false,
    .transfer 0 0 0 0 0 0 [] 0 (some ⟨0, 0, [], 1024⟩) false, .mainPowerUp ⟨false, 2 ^ 18⟩, .tamperFiring ⟨0, 0⟩,
    .tamperFiring ⟨0, 10⟩] : List Instr), i.wf = false := by decide +kernel

theorem test_wf_accepts : (Instr.mgtRead 65535 64 true).wf = true ∧ (Instr.ext 511 31 31 31 32 true).wf = true
    ∧ (Instr.transfer 1023 63 65535 2 (2 ^ 40 - 1) 0 [] 4 (some ⟨2, 0, [], 1023⟩) true).wf = true := by decide

/-! ### Encodings (spec/08_core_instructions.md, the worked example of encodings, and the layouts) -/

theorem test_encodings : decodeCore 0x04830000 = some (.alu .add 4 3 0) ∧ decodeCore 0x5001CA64 = some (.cmpi .ltu 7 5 100)
    ∧ decodeCore 0xD001C120 = some (.bt 7 0x120) ∧ decodeCore 0x91010040 = some (.load .w 8 1 0x40)
    ∧ decodeCore 0xEC050009 = some (.submit 0 5 9) ∧ decodeCore 0xF04A5800 = some (.exit 10 11) := by decide

theorem test_layouts :
    decodeCore 0b000010_00011_00001_00010_0000000_0010 = some (.shift .sha 3 1 2)
    ∧ decodeCore 0b000011_00011_00001_00010_0000000_0100 = some (.muldiv .div 3 1 2)
    ∧ decodeCore 0b000100_00011_00001_1111111111111111 = some (.aluI .add 3 1 65535)
    ∧ decodeCore 0b00110101000000000111010000100010 = some (.cmp .ltu 29 1 2)
    ∧ decodeCore 0b011000_1000000000_0000000000000101 = some (.bitop .binv 5)
    ∧ decodeCore 0b101010_00011_00001_0000000000001000 = some (.store .w 3 1 8)
    ∧ decodeCore 0b110000_000000000000_00000001100100 = some (.j 100)
    ∧ decodeCore 0b111000_01_00000000001010_0000000011 = some (.loop 1 10 3)
    ∧ decodeCore 0b111100_00_000000000000000000000000 = some .nop ∧ decodeCore 0 = none := by decide

theorem test_encode : encodeCore (.alu .add 4 3 0) = 0x04830000 ∧ encodeCore (.exit 10 11) = 0xF04A5800 := by decide

/-! ### Worked examples of the spec -/

/-- The score curve of chapter 8: header 0x0061_0005, five entries. -/
theorem test_luti_curve : (lutiOp 0x00610005 ([0, 400, 1000, 1900, 2000].flatMap (toLE 2)) 0x2700#32).toNat = 1394
    ∧ (lutiOp 0x00610005 ([0, 400, 1000, 1900, 2000].flatMap (toLE 2)) 0x3FFF#32).toNat = 2000
    ∧ (lutiOp 0x00610005 ([0, 400, 1000, 1900, 2000].flatMap (toLE 2)) 0x4100#32).toNat = 2000 := by decide +kernel

/-- The feature hash of chapter 8: SHR, XOR, MUL and SHR over A = 0x0001_0002 give 0xAC5. -/
theorem test_cx_hash : cxRun 0x10002#32 0#32 0 [0x242020000000000000, 0x146000000000000000, 0x408700045D9F3B0000, 0x260828000000000000] = 0xAC5#32 := by decide +kernel

/-- CRC-32 of "123456789" as IEEE 802.3 has it. -/
theorem test_crc32 : crc32 [0x31, 0x32, 0x33, 0x34, 0x35, 0x36, 0x37, 0x38, 0x39] = 0xCBF43926 := by decide +kernel

/-- AES-128 of FIPS 197, appendix C.1. -/
theorem test_aes128 : aesEnc ((List.range 16).map (BitVec.ofNat 8)) ((List.range 16).map (fun i => BitVec.ofNat 8 (i * 17)))
    = [0x69, 0xC4, 0xE0, 0xD8, 0x6A, 0x7B, 0x04, 0x30, 0xD8, 0xCD, 0xB7, 0x80, 0x70, 0xB4, 0xC5, 0x5A] := by decide +kernel

/-- Command words of the SD specification: CMD0, CMD17 at block 0 and CMD8 with its check pattern; the check value of CRC-16 with
0x1021 from 0 over "123456789". -/
theorem test_sd_words : sdCommand 0 0 = 0x400000000095 ∧ sdCommand 17 0 = 0x510000000055 ∧ sdCommand 8 0x1AA = 0x48000001AA87
    ∧ sdBlockCrc false false [0x31, 0x32, 0x33, 0x34, 0x35, 0x36, 0x37, 0x38, 0x39] = [0x31C3] := by decide +kernel

/-- CRC_A of ISO/IEC 14443-3, annex B: 0x00 0x00 gives 0xA0 0x1E, and 0x12 0x34 gives 0x26 0xCF. -/
theorem test_crc_a : crcA [0x00, 0x00] = 0x1EA0 ∧ crcA [0x12, 0x34] = 0xCF26 := by decide +kernel

/-! ### A step -/

theorem test_step_takes_front : (match step { wOn with pending := [.crystalFail, .bootReady] } with | .next t => t.pending | _ => [])
    = [.bootReady] := by decide +kernel

theorem test_reset_memory_canonical : Memory.wf State.reset.mem = true := by decide

/-! ### What the statements' hypotheses ask for can be met -/

/-- Core 0 about to issue the word `w` for a job, its own fields as given. -/
def wIss (w : Nat) (k : Core := {}) (j : Job := wJob) (pc : Nat := 5) : State :=
  ({ (wOn.set R.ART_STATUS_BOOTSET 0).set R.ART_FENCE_DRAINED 1 with
      cores := [(0, { k with phase := .running, job := some 1, pc := pc, tier := 0 })]
      artCur := [(0, { base := 0xE000000, pages := 64, classes := 1, rmask := 4, wmask := 0 })]
      jsc := { wOn.jsc with jobs := [j] } } : State).putBytes (coreAddr 0 (0x20000 + 4 * pc)) (toLE 4 w)

/-- Core 0 about to issue an instruction with registers. -/
def wOp (op : Op) (regs : List (Nat × W32)) : State := wIss (encodeCore op) { regs := regs }
def wRegs : List (Nat × W32) := [(1, 0x80000005#32), (2, 7#32)]
/-- Level 0 active, its body from 3 to 90, three passes left. -/
def wLoop : List (Nat × W32) := [(1, 9#32), (32, 3#32), (33, 90#32), (34, 3#32)]
/-- The descriptor of a mover ZERO of 64 bytes at the scratch range. -/
def wMvDesc : List Byte := [3, 0, 0, 0] ++ toLE 4 64 ++ toLE 8 0x4000 ++ toLE 4 0x10000 ++ toLE 4 0x10000 ++ zeros 8
/-- A submission with the descriptor at 0x1_0000. -/
def wSub (pool : Nat) (desc : List Byte) (j : Job := wJob) : State :=
  (wIss (encodeCore (.submit pool 9 1)) { regs := [(1, 0x10000#32)] } j).putBytes (coreAddr 0 0x10000) desc

/-- Core 0 about to issue a NOP at the end of level 1, `n` passes of which are left. -/
def wEnd (n : W32) : State := wIss (encodeCore .nop) { regs := [(35, 2#32), (36, 5#32), (37, n)] }
def wSlot (n : Nat) : State := wIss (encodeCore .nop) { slots := n, target := 9 }

theorem met_AluInstructions : ∀ op ∈ [Op.alu .add 3 1 2, .alu .sub 3 1 2, .alu .band 3 1 2, .alu .bor 3 1 2, .alu .bxor 3 1 2,
    .alu .andn 3 1 2, .alu .orn 3 1 2, .alu .nor 3 1 2, .alu .smin 3 1 2, .alu .smax 3 1 2, .alu .umin 3 1 2, .alu .umax 0 1 2,
    .alu .clz 3 1 0, .alu .popc 3 1 0, .alu .bswap 3 1 0, .aluI .add 3 1 65535, .aluI .band 3 1 65535, .aluI .bor 3 1 0,
    .aluI .bxor 31 1 65535, .movhi 3 65535, .sel 3 1 2 2047], (wOp op wRegs).issues 0 wJob op := by
  unfold State.issues; decide +kernel

theorem met_ShiftMulDivInstructions : ∀ op ∈ [Op.shift .shl 3 1 2, .shift .shr 3 1 2, .shift .sha 3 1 2, .shift .ror 3 1 2,
    .shiftI .shl 3 1 31, .shiftI .shr 3 1 31, .shiftI .sha 3 1 31, .shiftI .ror 3 1 31, .ext 3 1 31 32 false, .ext 3 1 31 32 true,
    .ins 3 1 31 32, .muldiv .mul 3 1 2, .muldiv .mulh 3 1 2, .muldiv .mulhu 3 1 2, .muldiv .div 3 1 0, .muldiv .divu 3 1 2,
    .muldiv .rem 3 1 2, .muldiv .remu 3 1 0], (wOp op wRegs).issues 0 wJob op := by
  unfold State.issues; decide +kernel

theorem met_BitInstructions : (∀ n ∈ List.range 12, ∃ f, decCond n = some f
      ∧ (wOp (.cmp f 4095 1 2) wRegs).issues 0 wJob (.cmp f 4095 1 2))
    ∧ (∀ op ∈ [Op.bitop .bset 4095, .bitop .bclr 4095, .bitop .binv 0, .bitop .bset 4096, .bitop .bclr 4096, .bitop .binv 32767,
        .blog .band 4095 1, .blog .bor 4095 1, .blog .bxor 4095 1, .blog .bandn 4095 1, .bfr 3 16 49152, .atom true 3 28671,
        .atom false 3 28671], (wOp op wRegs).issues 0 wJob op) := by
  refine ⟨fun n h => ?_, by unfold State.issues; decide +kernel⟩
  fin_cases h <;> exact ⟨_, rfl, by unfold State.issues; decide +kernel⟩

theorem met_BitLogic : ∀ op ∈ [Op.blog .band 4095 1, .blog .bor 4095 1, .blog .bxor 4095 1, .blog .bandn 4095 1],
    (wOp op wRegs).issues 0 wJob op := by
  unfold State.issues; decide +kernel

theorem met_CompareImmediate : ∀ n ∈ List.range 8, ∃ f, decCond n = some f ∧ (511 : Nat) < 512
    ∧ (wOp (.cmpi f 4095 1 511) wRegs).issues 0 wJob (.cmpi f 4095 1 511) := by
  intro n h
  fin_cases h <;> exact ⟨_, rfl, by decide, by unfold State.issues; decide +kernel⟩

/-- The same, with a rule for the job's dome on spire 0's SRAM that lets it read and store (`w` 4), or no rule (0). -/
def wSram (op : Op) (w : Nat) (a : W32 := 0x10000000#32) : State :=
  { wOp op [(1, a)] with artCur := [(0, { base := 0xE000000, pages := 64, classes := 1, rmask := w, wmask := w })] }

theorem met_LoadInstructions : (∀ f ∈ [LdF.b, .bu, .h, .hu, .w, .d], (65528 : Nat) < 65536
      ∧ coreRegion (effAddr ((wOp (.load f 4 1 65528) [(1, 0x17FF8#32)]).core 0).age 1 65528) = 1
      ∧ (wOp (.load f 4 1 65528) [(1, 0x17FF8#32)]).issues 0 wJob (.load f 4 1 65528))
    ∧ (∀ e ∈ [(LdF.b, 1), (.bu, 1), (.h, 2), (.hu, 2), (.w, 4), (.d, 8)],
      coreRegion (effAddr ((wSram (.load e.1 4 1 8) 4).core 0).age 1 8) = 4
      ∧ (wSram (.load e.1 4 1 8) 4).judge (coreX 0 wJob) 0 (sramAddr 0 8) e.2 = none
      ∧ (wSram (.load e.1 4 1 8) 4).bus.find? (fun e => e.1 == 0) = none
      ∧ (wSram (.load e.1 4 1 8) 4).issues 0 wJob (.load e.1 4 1 8)
      ∧ (wSram (.load e.1 4 1 8) 0).judge (coreX 0 wJob) 0 (sramAddr 0 8) e.2 = some (sramAddr 0 8)
      ∧ (wSram (.load e.1 4 1 8) 0).issues 0 wJob (.load e.1 4 1 8)
      ∧ coreRegion (effAddr ((wSram (.load e.1 4 1 8) 4 0x20000000#32).core 0).age 1 8) = 5
      ∧ (wSram (.load e.1 4 1 8) 4 0x20000000#32).issues 0 wJob (.load e.1 4 1 8)) := by
  unfold State.issues; decide +kernel

theorem met_StoreInstructions : (∀ f ∈ [StF.b, .h, .w, .d], (65528 : Nat) < 65536
      ∧ coreRegion (effAddr ((wOp (.store f 4 1 65528) [(1, 0x17FF8#32)]).core 0).age 1 65528) = 1
      ∧ ((wOp (.store f 4 1 65528) [(1, 0x17FF8#32)]).core 0).age.slots = 0
      ∧ (∀ l, l < 3 → ((wOp (.store f 4 1 65528) [(1, 0x17FF8#32)]).core 0).age.active l = false)
      ∧ (wOp (.store f 4 1 65528) [(1, 0x17FF8#32)]).issues 0 wJob (.store f 4 1 65528))
    ∧ (∀ e ∈ [(StF.b, 1), (.h, 2), (.w, 4), (.d, 8)],
      coreRegion (effAddr ((wSram (.store e.1 4 1 8) 4).core 0).age 1 8) = 4
      ∧ (wSram (.store e.1 4 1 8) 4).judge (coreX 0 wJob) 1 (sramAddr 0 8) e.2 = none
      ∧ (wSram (.store e.1 4 1 8) 4).bus.find? (fun e => e.1 == 0) = none
      ∧ ((wSram (.store e.1 4 1 8) 4).core 0).age.slots = 0
      ∧ (∀ l, l < 3 → ((wSram (.store e.1 4 1 8) 4).core 0).age.active l = false)
      ∧ (wSram (.store e.1 4 1 8) 4).issues 0 wJob (.store e.1 4 1 8)
      ∧ (wSram (.store e.1 4 1 8) 0).judge (coreX 0 wJob) 1 (sramAddr 0 8) e.2 = some (sramAddr 0 8)
      ∧ (wSram (.store e.1 4 1 8) 0).issues 0 wJob (.store e.1 4 1 8)
      ∧ coreRegion (effAddr ((wSram (.store e.1 4 1 8) 4 0x20000000#32).core 0).age 1 8) = 5
      ∧ (wSram (.store e.1 4 1 8) 4 0x20000000#32).issues 0 wJob (.store e.1 4 1 8)) := by
  unfold State.issues; decide +kernel

theorem met_TableInstructions : (∀ op ∈ [Op.lut 3 1 2, .luti 3 1 2, .ctlut 3 1 2 64 2 true],
      (wOp op [(1, 0x10000#32), (2, 7#32)]).issues 0 wJob op)
    ∧ ((wOp (.cx 15 3 1 2 127) wRegs).set (R.SPR_CX_ENTRY_LEN 0 15) 1).issues 0 wJob (.cx 15 3 1 2 127) := by
  unfold State.issues; decide +kernel

theorem met_BranchInstructions : ∀ op ∈ [Op.j 16383, .jal 31 16383, .jr 1, .jalr 31 1, .bt 5 16383, .bf 5 0, .bz 1 16383, .bnz 1 0],
    (∀ l, l < 3 → ((wOp op wRegs).core 0).age.active l = false) ∧ (wOp op wRegs).issues 0 wJob op := by
  unfold State.issues; decide +kernel

theorem met_LoopInstructions : (∀ op ∈ [Op.loop 2 16383 1023, .loop 2 7 0, .loopr 2 7 1, .mflb 0 3, .mfle 0 3, .mflc 0 3, .mtlc 0 1],
      (wOp op [(1, 0x1FFFF#32)]).issues 0 wJob op)
    ∧ (wOp (.mtlc 0 1) wLoop).issues 0 wJob (.mtlc 0 1) ∧ tabGet 0 ((wOp (.mtlc 0 1) wLoop).core 0).age.regs 34 ≠ 0
    ∧ (wOp (.mtlc 0 1) [(1, 9#32)]).issues 0 wJob (.mtlc 0 1) ∧ tabGet 0 ((wOp (.mtlc 0 1) [(1, 9#32)]).core 0).age.regs 34 = 0
    ∧ (((wOp (.mtlc 0 1) [(1, 9#32)]).core 0).age.reg 1).toNat % 65536 ≠ 0 := by
  unfold State.issues; decide +kernel

theorem met_SequencingRule :
    (wSlot 0).issues 0 wJob .nop ∧ ((wSlot 0).core 0).age.pend = [] ∧ ((wSlot 0).core 0).age.slots = 0
      ∧ tabGet 0 ((wSlot 0).core 0).age.regs 34 = 0 ∧ tabGet 0 ((wSlot 0).core 0).age.regs 37 = 0
      ∧ tabGet 0 ((wSlot 0).core 0).age.regs 40 = 0 ∧ (wSlot 2).issues 0 wJob .nop ∧ ((wSlot 2).core 0).age.pend = []
      ∧ ((wSlot 2).core 0).age.slots = 2 ∧ tabGet 0 ((wSlot 2).core 0).age.regs 34 = 0
      ∧ tabGet 0 ((wSlot 2).core 0).age.regs 37 = 0 ∧ tabGet 0 ((wSlot 2).core 0).age.regs 40 = 0
      ∧ (wSlot 1).issues 0 wJob .nop ∧ ((wSlot 1).core 0).age.pend = [] ∧ ((wSlot 1).core 0).age.slots = 1
      ∧ tabGet 0 ((wSlot 1).core 0).age.regs 34 = 0 ∧ tabGet 0 ((wSlot 1).core 0).age.regs 37 = 0
      ∧ tabGet 0 ((wSlot 1).core 0).age.regs 40 = 0 ∧ (wEnd 3).issues 0 wJob .nop ∧ ((wEnd 3).core 0).age.pend = []
      ∧ ((wEnd 3).core 0).age.slots = 0 ∧ tabGet 0 ((wEnd 3).core 0).age.regs 34 = 0
      ∧ tabGet 0 ((wEnd 3).core 0).age.regs 40 = 0 ∧ tabGet 0 ((wEnd 3).core 0).age.regs 37 = 3
      ∧ (tabGet 0 ((wEnd 3).core 0).age.regs 36).toNat = ((wEnd 3).core 0).age.pc ∧ (wEnd 1).issues 0 wJob .nop
      ∧ ((wEnd 1).core 0).age.pend = [] ∧ ((wEnd 1).core 0).age.slots = 0 ∧ tabGet 0 ((wEnd 1).core 0).age.regs 34 = 0
      ∧ tabGet 0 ((wEnd 1).core 0).age.regs 40 = 0 ∧ tabGet 0 ((wEnd 1).core 0).age.regs 37 = 1
      ∧ (tabGet 0 ((wEnd 1).core 0).age.regs 36).toNat = ((wEnd 1).core 0).age.pc := by
  unfold State.issues; repeat' apply And.intro
  all_goals decide +kernel

theorem met_InstructionIndices :
    (({ pc := 16383, target := 16383 } : Core).pc < 16384 ∧ ({ pc := 16383, target := 16383 } : Core).target < 16384
      ∧ ∀ l, l < 3 → ({ pc := 16383, target := 16383 } : Core).lval l 0 < 16384)
    ∧ (wIss (encodeCore .nop) {} wJob 16383).issues 0 wJob .nop ∧ ((wIss (encodeCore .nop) {} wJob 16383).core 0).pc = 16383
    ∧ ((wIss (encodeCore .nop) {} wJob 16383).core 0).slots = 0
    ∧ (∀ l, l < 3 → ((wIss (encodeCore .nop) {} wJob 16383).core 0).age.active l = false)
    ∧ (wIss 0).spiresRun = true ∧ (wIss 0).issuer 0 = some wJob ∧ (wIss 0).job wJob.id = some wJob ∧ (wIss 0).fetchWord 0 = 0
    ∧ wJob.cycles + 1 < wJob.h.wcet := by
  unfold State.issues; decide +kernel

/-- The job's session is open, and a result of 3,584 bytes is more than its handler may send. -/
def wOver (op : Op) : State :=
  (wOp op [(1, 0xAFF#32), (2, 3584#32)]).setSes { ctxs := [(0, { wSes 2 with sid := 1 })], cache := [0] }

theorem met_SystemInstructions :
    (wOp .nop wRegs).issues 0 wJob .nop
    ∧ (wIss (encodeCore (.waitb 33023)) { events := [(255, true)] }).issues 0 wJob (.waitb 33023)
    ∧ ((wIss (encodeCore (.waitb 33023)) { events := [(255, true)] }).core 0).age.done 255 = true
    ∧ (wIss (encodeCore (.waitb 32768)) {} { wJob with tickets := [(0, 3)] }).issues 0 { wJob with tickets := [(0, 3)] } (.waitb 32768)
    ∧ ((wIss (encodeCore (.waitb 32768)) {} { wJob with tickets := [(0, 3)] }).core 0).age.done 0 = false
    ∧ (∀ pool ∈ [0, 1, 2], (wSub pool (zeros 64)).issues 0 wJob (.submit pool 9 1)
      ∧ cmdUnits pool ((wSub pool (zeros 64)).localBytes 0 ((wSub pool (zeros 64)).core 0).age 0x10000 (descLen pool))
        ≤ (if pool = 0 then wJob.h.symU - wJob.symUsed else if pool = 1 then wJob.h.digU - wJob.digUsed else wJob.h.pkeU - wJob.pkeUsed))
    ∧ (wSub 0 (zeros 64) { wJob with symUsed := 100 }).issues 0 { wJob with symUsed := 100 } (.submit 0 9 1)
    ∧ (wSub 0 (zeros 64) { wJob with symUsed := 100 }).job 1 = some { wJob with symUsed := 100 }
    ∧ 0 < cmdUnits 0 ((wSub 0 (zeros 64) { wJob with symUsed := 100 }).localBytes 0
        ((wSub 0 (zeros 64) { wJob with symUsed := 100 }).core 0).age 0x10000 (descLen 0))
    ∧ (wSub 3 wMvDesc).issues 0 wJob (.submit 3 9 1)
    ∧ mvCheck ((wSub 3 wMvDesc).localBytes 0 ((wSub 3 wMvDesc).core 0).age 0x10000 (descLen 3)) = 0
    ∧ wJob.moverUsed + fld ((wSub 3 wMvDesc).localBytes 0 ((wSub 3 wMvDesc).core 0).age 0x10000 (descLen 3)) 4 4 ≤ wJob.h.moverBytes
    ∧ (wSub 3 wMvDesc { wJob with moverUsed := 4096 }).issues 0 { wJob with moverUsed := 4096 } (.submit 3 9 1)
    ∧ (wOp (.exit 1 2) [(1, 0xAFF#32), (2, 3584#32)]).issues 0 wJob (.exit 1 2)
    ∧ (wOp (.exit 1 2) [(1, 0xAFF#32), (2, 3584#32)]).egressOver wJob 3584 = false
    ∧ (wOp (.exit 1 2) [(1, 0x100#32), (2, 3584#32)]).issues 0 wJob (.exit 1 2)
    ∧ (wOp (.exit 1 2) [(1, 0x100#32), (2, 3584#32)]).job wJob.id = some wJob
    ∧ (wOver (.exit 1 2)).issues 0 wJob (.exit 1 2) ∧ (wOver (.exit 1 2)).job wJob.id = some wJob
    ∧ (wOver (.exit 1 2)).egressOver wJob 3584 = true
    ∧ (wSub 3 wMvDesc { wJob with moverUsed := 4096 }).job 1 = some { wJob with moverUsed := 4096 } := by
  unfold State.issues; decide +kernel

theorem met_ExceptionEntry :
    (∀ e ∈ [(Op.j 9, 0x03, ({ slots := 1 } : Core)), (.loop 0 5 2, 0x04, {}), (.muldiv .div 3 1 2, 0x09, { divBusy := 2 }),
        (.load .w 3 1 2, 0x05, {}), (.store .w 3 1 0, 0x07, {}), (.bitop .bset 32768, 0x0E, {}), (.waitb 0, 0x0F, {}),
        (.exit 1 2, 0x11, { regs := [(2, 3585#32)] }), (.trap 255, 0x12, {})],
      (wIss (encodeCore e.1) e.2.2).spiresRun = true ∧ (wIss (encodeCore e.1) e.2.2).issuer 0 = some wJob
      ∧ (wIss (encodeCore e.1) e.2.2).job wJob.id = some wJob ∧ wJob.cycles + 1 < wJob.h.wcet
      ∧ decodeCore ((wIss (encodeCore e.1) e.2.2).fetchWord 0) = some e.1
      ∧ (wIss (encodeCore e.1) e.2.2).exception 0 ((wIss (encodeCore e.1) e.2.2).core 0).age wJob e.1 = some e.2.1)
    ∧ (wSub 0 (zeros 64) { wJob with tickets := [(9, 0)] }).exception 0 ((wSub 0 (zeros 64)).core 0).age { wJob with tickets := [(9, 0)] }
        (.submit 0 9 1) = some 0x0D
    ∧ decodeCore ((wIss 0).fetchWord 0) = none := by
  decide +kernel

theorem met_DistanceRule : ({} : Core).pend = [] ∧ (0 < 31 ∧ 31 < 32) ∧ (0 < 127 ∧ 127 < 128) ∧ (126 ≤ 127 ∧ 0 < 126) := by decide

theorem met_CoreWordsRoundTrip : (Op.cx 15 31 31 31 127).wf = true
    ∧ decodeCore (encodeCore (.cx 15 31 31 31 127)) = some (.cx 15 31 31 31 127) ∧ encodeCore (.cx 15 31 31 31 127) < 2 ^ 32 := by
  decide +kernel

theorem met_StepRunsFront : ({ wOn with pending := [.swreset] } : State).pending = .swreset :: [] ∧ State.reset.pending = [] := by decide +kernel

theorem met_ResetState : R.PWR_CEIL_CEIL.key ≠ R.RST_LC_STATE.key := by decide

theorem met_MemoryStaysCanonical : Memory.wf State.reset.mem = true ∧ step { wOn with pending := [.swreset] } = .next (match
    step { wOn with pending := [.swreset] } with | .next t => t | _ => wOn) := by
  refine ⟨by decide, rfl⟩

/-- A state and operands for every clause of SuppliesAndClocks. -/
theorem met_SuppliesAndClocks :
    (∃ (s : State) (d : Nat), d < 2 ^ 18 ∧ s.pwr.main = .off ∧ s.pwr.bedrock = true)
    ∧ (∃ (s : State) (d : Nat), d < 2 ^ 18 ∧ s.pwr.main = .off ∧ s.pwr.bedrock = true ∧ s.pwr.lostDue = false ∧ s.pwr.blown
        < 2 ∧ s.get R.TMP_PENDING_RESP = 0 ∧ s.tmp.deferred = [] ∧ s.get R.TMP_PENDING_HALT = 0)
    ∧ (∃ (s : State), s.pwr.main = .waiting ∧ s.pwr.bedrock = true ∧ s.pwr.lostDue = false ∧ s.pwr.blown < 2 ∧ s.get
        R.TMP_PENDING_RESP = 0 ∧ s.tmp.deferred = [] ∧ s.get R.TMP_PENDING_HALT = 0)
    ∧ (∃ (s : State), s.pwr.main = .waiting)
    ∧ (∃ (s : State), s.pwr.main = .isolated)
    ∧ (∃ (s : State), s.pwr.bedrock = false)
    ∧ (∃ (s : State), s.pwr.bedrock = true ∧ s.get R.CLK_XTAL_ONRC = 0 ∧ s.tmp.live = true)
    ∧ (∃ (s : State), s.pwr.bedrock = true)
    ∧ (∃ (s : State), s.pwr.bedrock = true ∧ s.pwr.main = .on ∧ s.get R.TIME_TSTAMP_TICKS % 32768 = 0 ∧ s.get
        R.CLK_XTAL_ONRC = 0)
    ∧ (∃ (s : State) (v : Nat), v < 2 ^ 64 ∧ s.spiresRun = true ∧ s.get R.TIME_STATUS_UNSET = 1 ∧ s.pwr.setDone = false ∧
        s.keepHalted = false)
    ∧ (∃ (s : State) (v : Nat), s.spiresRun = true ∧ (s.get R.TIME_STATUS_UNSET = 0 ∨ s.pwr.setDone = true))
    ∧ (∃ (s : State) (k : Nat), s.pwr.bedrock = true ∧ s.pwr.main = .on ∧ s.pwr.seq = .deep k ∧ (s.get
        R.PWR_WAKE_EN_EN).testBit 3 = true ∧ s.get R.TIME_ALARM_TICKS = s.get R.TIME_TSTAMP_TICKS ∧ s.get R.TIME_ALARM_TICKS
        ≠ 0)
    ∧ (∃ (s : State), s.pwr.bedrock = true ∧ s.pwr.main = .on ∧ s.pwr.seq = .none ∧ s.get R.PWR_STATE_DEV = 3 ∧ (s.get
        R.PWR_WAKE_EN_EN).testBit 3 = true ∧ s.get R.TIME_ALARM_TICKS = s.get R.TIME_TSTAMP_TICKS ∧ s.get R.TIME_ALARM_TICKS
        ≠ 0) :=
  ⟨⟨State.reset, 2 ^ 18 - 1, by decide +kernel⟩,
   ⟨State.reset.setPwr { State.reset.pwr with lostDue := false }, 2, by decide +kernel⟩,
   ⟨State.reset.setPwr { main := .waiting, lostDue := false }, by decide +kernel⟩,
   ⟨State.reset.setPwr { main := .waiting }, by decide +kernel⟩,
   ⟨State.reset.setPwr { main := .isolated }, by decide +kernel⟩,
   ⟨wOn.setPwr { wOn.pwr with bedrock := false }, by decide +kernel⟩,
   ⟨wOn.setTmp { live := true }, by decide +kernel⟩,
   ⟨wOn.set R.CLK_XTAL_ONRC 1, by decide +kernel⟩,
   ⟨wOn.set R.TIME_TSTAMP_TICKS 65536, by decide +kernel⟩,
   ⟨wOn.set R.TIME_STATUS_UNSET 1, 2 ^ 64 - 1, by decide +kernel⟩,
   ⟨wOn.set R.TIME_STATUS_UNSET 0, 5, by decide +kernel⟩,
   ⟨(((((wOn.setPwr { wOn.pwr with seq := .deep 1 }).set R.PWR_WAKE_EN_EN 8).set R.TIME_ALARM_TICKS 77).set
       R.TIME_TSTAMP_TICKS 77).set R.RST_BOOT_PHASE 12).set R.RST_LC_STATE 2, 1, by decide +kernel⟩,
   ⟨(((wOn.set R.PWR_STATE_DEV 3).set R.PWR_WAKE_EN_EN 8).set R.TIME_ALARM_TICKS 77).set R.TIME_TSTAMP_TICKS 77,
       by decide +kernel⟩⟩

/-- A state and operands for every clause of PowerStates. -/
theorem met_PowerStates :
    (∃ (s : State) (p : Nat), s.spiresRun = true ∧ p < 32 ∧ s.spireBusy p = false ∧ s.get R.PWR_IDLE_DOZE_IDLE ≠ 0 ∧
        (s.spire p).tr = .none ∧ (s.spire p).reload = .none ∧ (s.spire p).idleMet = 0 ∧ s.get (R.PWR_SPIRE_STATE_S p) = 0 ∧
        1 ≤ s.deepest p ∧ s.spireUnowned p = false)
    ∧ (∃ (s : State) (p : Nat), s.spiresRun = true ∧ p < 32 ∧ s.spireBusy p = false ∧ s.get R.PWR_IDLE_NAP_IDLE ≠ 0 ∧
        (s.spire p).tr = .none ∧ (s.spire p).reload = .none ∧ s.get (R.PWR_SPIRE_STATE_S p) = 1 ∧ s.deepest p = 2)
    ∧ (∃ (s : State) (p st : Nat), s.spiresRun = true ∧ p < 32 ∧ st < 3 ∧ (s.spire p).tr = .entering st ∧ s.spireWant p = st
        ∧ ((∀ k < 16, s.assigned (16 * p + k) = none)))
    ∧ (∃ (s : State) (p st : Nat), s.spiresRun = true ∧ p < 32 ∧ (s.spire p).tr = .leaving st ∧ s.spireBusy p = true ∧ ((∀ k
        < 16, s.assigned (16 * p + k) = none)))
    ∧ (∃ (s : State) (c : Nat), s.pwr.main = .on ∧ c < 8)
    ∧ (∃ (s : State) (us : Nat), s.pwr.main = .on ∧ us < 2 ^ 16)
    ∧ (∃ (s : State) (c : Nat), s.pwr.main = .on ∧ 4 ≤ c ∧ c < 8 ∧ s.pwr.seq = .toReset ∧ s.jsc.jobs = [] ∧ s.net.tx = [] ∧
        s.get R.JRN_STATUS_OPEN = 0)
    ∧ (∃ (s : State) (c : Nat), s.pwr.main = .on ∧ 4 ≤ c ∧ c < 8 ∧ s.pwr.seq = .none ∧ s.jsc.jobs = [] ∧ s.net.tx = [] ∧
        s.get R.JRN_STATUS_OPEN = 0 ∧ s.get R.PWR_FORCED_CNT_COUNT < 0xFFFFFFFF)
    ∧ (∃ (s : State) (c : Nat), s.pwr.main = .on ∧ 4 ≤ c ∧ c < 8 ∧ s.pwr.seq = .none ∧ s.net.tx = [] ∧ s.jsc.jobs.all (fun j
        => !j.live) = true ∧ s.get R.JRN_STATUS_OPEN = 1)
    ∧ (∃ (s : State), s.pwr.main = .on ∧ s.pwr.seq = .none ∧ s.spiresRun = true ∧ s.jsc.jobs = [] ∧ s.net.tx = [])
    ∧ (∃ (s : State) (c : Nat), s.pwr.main = .on ∧ c < 3)
    ∧ (∃ (s : State), s.pwr.main = .on ∧ s.keepHalted = true)
    ∧ (∃ (s : State), s.pwr.main = .on ∧ s.spiresRun = true ∧ s.pwr.seq = .none ∧ s.get R.RST_BOOT_PHASE = 12 ∧ 3 ≤ s.get
        R.PWR_CEIL_CEIL ∧ 25000 ≤ s.get R.PWR_BUDGET_BUDGET_US ∧ s.get R.PWR_IDLE_DEEP_IDLE ≠ 0 ∧ s.jsc.jobs = [] ∧
        s.pastBase (s.pwr.busyAt + s.get R.PWR_IDLE_DEEP_IDLE * 1000000) = true ∧ ((∀ p < 32, s.get (R.PWR_SPIRE_STATE_S p)
        = 2 ∧ (s.spire p).tr = .none)))
    ∧ (∃ (s : State), s.pwr.main = .on ∧ s.pwr.hold = true ∧ s.pwr.seq = .none ∧ s.get R.PWR_STATE_HOLD_READY = 0 ∧
        s.jsc.jobs = [] ∧ s.get R.JRN_STATUS_OPEN = 0 ∧ s.get R.JRN_STATUS_SEALED = 0 ∧ ((∀ d < 64, s.get
        (R.STB_DOM_FENCE_DRAINED d) = 1))) :=
  ⟨⟨wSpire 3, 3, by decide +kernel⟩,
   ⟨(wSpire 3).set (R.PWR_SPIRE_STATE_S 3) 1, 3, by decide +kernel⟩,
   ⟨((wSpire 3).setSpire 3 { tr := .entering 1, idleMet := 1 }).set (R.PWR_SPIRE_STATE_S 3) 3, 3, 1, by decide +kernel⟩,
   ⟨(((wSpire 3).setSpire 3 { tr := .leaving 1 }).set (R.PWR_SPIRE_STATE_S 3) 1).setJsc
       { jobs := [{ wJob with core := some 49 }] }, 3, 1, by decide +kernel⟩,
   ⟨wOn, 7, by decide +kernel⟩,
   ⟨wOn, 65535, by decide +kernel⟩,
   ⟨wOn.setPwr { wOn.pwr with seq := .toReset }, 4, by decide +kernel⟩,
   ⟨wOn, 4, by decide +kernel⟩,
   ⟨(wOn.set R.JRN_STATUS_OPEN 1).setJsc { jobs := [{ wJob with st := .done }] }, 7, by decide +kernel⟩,
   ⟨wOn, by decide +kernel⟩,
   ⟨wOn, 2, by decide +kernel⟩,
   ⟨wOn.setPwr { wOn.pwr with seq := .deep 4 }, by decide +kernel⟩,
   ⟨wLater wDeep 3000000, by decide +kernel⟩,
   ⟨wOn.setPwr { wOn.pwr with hold := true }, by decide +kernel⟩⟩

/-- A state and operands for every clause of ResetAndBoot. -/
theorem met_ResetAndBoot :
    (∃ (s : State), s.spiresRun = true ∧ (s.pwr.seq = .none ∨ s.pwr.seq = .toReset) ∧ s.jsc.jobs = [] ∧ s.net.tx = [] ∧
        s.get R.JRN_STATUS_OPEN = 0 ∧ s.get R.TMP_PENDING_RESP = 0 ∧ s.get R.TMP_PENDING_HALT = 0 ∧ s.tmp.queue = [] ∧
        s.tmp.deferred = [] ∧ s.regQ = [])
    ∧ (∃ (s : State), s.spiresRun = true ∧ (s.pwr.seq = .none ∨ s.pwr.seq = .toReset) ∧ s.jsc.jobs = [] ∧ s.net.tx = [] ∧
        s.get R.JRN_STATUS_OPEN = 0 ∧ s.get R.TMP_PENDING_RESP = 0 ∧ s.get R.TMP_PENDING_HALT = 0 ∧ s.tmp.queue = [] ∧
        s.tmp.deferred = [] ∧ s.regQ = [] ∧ s.keepHalted = false)
    ∧ (∃ (s : State), s.spiresRun = true ∧ (s.pwr.seq = .none ∨ s.pwr.seq = .toReset) ∧ s.jsc.jobs = [] ∧ s.net.tx = [] ∧
        s.get R.JRN_STATUS_OPEN = 0 ∧ s.get R.TMP_PENDING_RESP = 0 ∧ s.get R.TMP_PENDING_HALT = 0 ∧ s.tmp.queue = [] ∧
        s.tmp.deferred = [] ∧ s.regQ = [] ∧ s.pwr.mgt = none)
    ∧ (∃ (s : State) (w : Rat), s.spiresRun = true ∧ (s.pwr.seq = .none ∨ s.pwr.seq = .toReset) ∧ s.jsc.jobs = [] ∧ s.net.tx
        = [] ∧ s.get R.JRN_STATUS_OPEN = 0 ∧ s.get R.TMP_PENDING_RESP = 0 ∧ s.get R.TMP_PENDING_HALT = 0 ∧ s.tmp.queue = []
        ∧ s.tmp.deferred = [] ∧ s.regQ = [] ∧ s.pwr.wd = some w ∧ s.pastBase (w + 30000000000) = true)
    ∧ (∃ (s : State), s.spiresRun = true ∧ s.get R.RST_BOOT_PHASE = 10 ∧ s.pwr.seq = .none ∧ s.linksUp = true ∧ fld
        s.fed.section_ 0 1 = 0 ∧ s.pwr.hold = false ∧ s.get R.RST_LC_STATE = 2 ∧ s.defect 10 = false)
    ∧ (∃ (s : State), s.spiresRun = true ∧ s.get R.RST_BOOT_PHASE = 10 ∧ s.defect 10 = true)
    ∧ (∃ (s : State), s.spiresRun = true ∧ 7 ≤ s.get R.RST_BOOT_PHASE ∧ s.get R.RST_BOOT_PHASE ≤ 12 ∧ s.get R.RST_BOOT_PHASE
        ≠ 9 ∧ s.keepHalted = false)
    ∧ (∃ (s : State), s.spiresRun = true ∧ s.get R.RST_BOOT_PHASE = 9 ∧ s.keepHalted = false)
    ∧ (∃ (s : State) (key target : Nat), s.spiresRun = true ∧ key < 2 ^ 16 ∧ target < 4 ∧ s.get R.RST_LC_BUSY = 0 ∧
        s.keepHalted = false)
    ∧ (∃ (s : State) (n : Nat), s.spiresRun = true ∧ s.pwr.lcNext = some n ∧ n ≠ 3 ∧ s.get R.RST_LC_STATE ≠ 0)
    ∧ (∃ (s : State) (n : Nat), s.spiresRun = true ∧ s.pwr.lcNext = some n ∧ n = 1 ∧ s.get R.RST_LC_STATE = 0)
    ∧ (∃ (s : State), s.spiresRun = true ∧ s.pwr.lcNext = some 3) :=
  ⟨⟨wOn, by decide +kernel⟩,
   ⟨wOn, by decide +kernel⟩,
   ⟨wOn, by decide +kernel⟩,
   ⟨wLater (wOn.setPwr { wOn.pwr with wd := some 0 }) 30000000001, 0, by decide +kernel⟩,
   ⟨(wOn.set R.RST_BOOT_PHASE 10).set R.RST_LC_STATE 2, by decide +kernel⟩,
   ⟨(wOn.set R.RST_BOOT_PHASE 10).setPwr { wOn.pwr with defects := 1024 }, by decide +kernel⟩,
   ⟨wOn.set R.RST_BOOT_PHASE 7, by decide +kernel⟩,
   ⟨wOn.set R.RST_BOOT_PHASE 9, by decide +kernel⟩,
   ⟨wOn, 0xA5C3, 2, by decide +kernel⟩,
   ⟨(wOn.setPwr { wOn.pwr with lcNext := some 2 }).set R.RST_LC_STATE 1, 2, by decide +kernel⟩,
   ⟨(wOn.setPwr { wOn.pwr with lc := 0, lcNext := some 1 }).set R.RST_LC_STATE 0, 1, by decide +kernel⟩,
   ⟨(wOn.setPwr { wOn.pwr with lcNext := some 3 }).set R.RST_LC_STATE 2, by decide +kernel⟩⟩

/-- A state and operands for every clause of ManagementPort. -/
theorem met_ManagementPort :
    (∃ (s : State) (arg : Nat), s.pwr.main = .on ∧ s.pwr.mgt = none ∧ arg ≤ 3)
    ∧ (∃ (s : State) (m : Nat), s.pwr.main = .on ∧ s.pwr.mgt = none ∧ m < 2 ^ 32)
    ∧ (∃ (s : State) (page : Nat), s.pwr.main = .on ∧ s.pwr.mgt = none ∧ page < 2 ^ 32)
    ∧ (∃ (s : State) (off : Nat), s.pwr.main = .on ∧ s.pwr.mgt = none ∧ off < 2 ^ 32)
    ∧ (∃ (s : State) (len : Nat), s.pwr.main = .on ∧ s.pwr.mgt = none ∧ len < 2 ^ 32)
    ∧ (∃ (s : State), s.pwr.main = .on ∧ s.pwr.mgt = none)
    ∧ (∃ (s : State), s.pwr.main = .on ∧ s.pwr.mgt = none ∧ s.get R.RST_BOOT_PHASE = 13 ∧ s.get R.ENT_STATUS_SEEDED = 0 ∧
        s.pwr.lc = 3 ∧ s.defect 3 = false ∧ s.pwr.blown < 2)
    ∧ (∃ (s : State) (k : Nat), s.pwr.main = .on ∧ s.pwr.mgt = none ∧ s.pwr.seq = .deep k ∧ (s.get R.PWR_WAKE_EN_EN).testBit
        1 = true)
    ∧ (∃ (s : State), s.pwr.main = .on ∧ s.pwr.mgt = none ∧ s.pwr.seq = .none ∧ s.get R.PWR_STATE_DEV = 3 ∧ (s.get
        R.PWR_WAKE_EN_EN).testBit 1 = true)
    ∧ (∃ (s : State) (k : Nat), s.pwr.main = .on ∧ s.pwr.mgt = none ∧ s.pwr.seq = .deep k ∧ (s.get R.PWR_WAKE_EN_EN).testBit
        0 = true)
    ∧ (∃ (s : State), s.pwr.main = .on ∧ s.pwr.mgt = none ∧ s.pwr.seq = .none ∧ s.get R.PWR_STATE_DEV = 3 ∧ (s.get
        R.PWR_WAKE_EN_EN).testBit 0 = true)
    ∧ (∃ (s : State) (a : Nat), s.pwr.main = .on ∧ a % 4 = 0 ∧ inWindow a = true ∧ a < 2 ^ 16)
    ∧ (∃ (s : State) (v crc : Nat), s.pwr.main = .on ∧ v < 2 ^ 32 ∧ crc < 2 ^ 16 ∧ mgtCrc (frameHead 0x02 4 1 ++ toLE 4 v) =
        crc)
    ∧ (∃ (s : State) (a : Nat) (ws : List Nat) (crc : Nat), s.pwr.main = .on ∧ a % 4 = 0 ∧ mgtCrc (frameHead 0x02 a
        ws.length ++ ws.flatMap (toLE 4)) ≠ crc % 65536)
    ∧ (∃ (s : State), s.pwr.main = .on)
    ∧ (∃ (s : State) (page : Nat), s.pwr.main = .on ∧ s.pwr.mgt = some (6, page, 0))
    ∧ (∃ (s : State) (code arg st : Nat), s.pwr.main = .on ∧ s.pwr.mgt = some (code, arg, st) ∧ st ≠ 0 ∧ code ≠ 2) :=
  ⟨⟨wOn, 3, by decide +kernel⟩,
   ⟨wOn.set R.MGT_ALERT_READY 1, 2 ^ 32 - 1, by decide +kernel⟩,
   ⟨wOn, 16, by decide +kernel⟩,
   ⟨wOn, 0x4000, by decide +kernel⟩,
   ⟨wOn, 0x400000, by decide +kernel⟩,
   ⟨wOn.set R.MGT_ERR_CRC 3, by decide +kernel⟩,
   ⟨(wOn.set R.RST_BOOT_PHASE 13).setPwr { wOn.pwr with lc := 3 }, by decide +kernel⟩,
   ⟨(wOn.set R.PWR_WAKE_EN_EN 2).setPwr { wOn.pwr with seq := .deep 4 }, 4, by decide +kernel⟩,
   ⟨(wOn.set R.PWR_WAKE_EN_EN 2).set R.PWR_STATE_DEV 3, by decide +kernel⟩,
   ⟨(wOn.set R.PWR_WAKE_EN_EN 1).setPwr { wOn.pwr with seq := .deep 1 }, 1, by decide +kernel⟩,
   ⟨(wOn.set R.PWR_WAKE_EN_EN 1).set R.PWR_STATE_DEV 3, by decide +kernel⟩,
   ⟨wOn, 0, by decide +kernel⟩,
   ⟨wOn, 5, mgtCrc (frameHead 0x02 4 1 ++ toLE 4 5), by decide +kernel⟩,
   ⟨wOn, 4, [5], mgtCrc (frameHead 0x02 4 1 ++ toLE 4 5) + 1, by decide +kernel⟩,
   ⟨wOn, by decide +kernel⟩,
   ⟨wOn.setPwr { wOn.pwr with mgt := some (6, 3, 0) }, 3, by decide +kernel⟩,
   ⟨wOn.setPwr { wOn.pwr with mgt := some (8, 3, 2) }, 8, 3, 2, by decide +kernel⟩⟩

/-- A state and operands for every clause of StructureCommands. -/
theorem met_StructureCommands :
    (∃ (s : State) (ab : Bool) (d : Nat), s.spiresRun = true ∧ d < 64 ∧ s.stb.app = none ∧ s.get R.STB_STATUS_BUSY = 0 ∧
        s.keepHalted = false)
    ∧ (∃ (s : State) (a : StbApp), s.spiresRun = true ∧ s.stb.app = some a ∧ s.stb.amend = none ∧ a.edge = false ∧ ¬ (a.kind
        = 0 ∧ a.phase = 4) ∧ s.keepHalted = false)
    ∧ (∃ (s : State), s.spiresRun = true ∧ s.get R.RST_BOOT_PHASE = 8 ∧ s.stb.app = none ∧ s.keepHalted = false)
    ∧ (∃ (s : State) (p : Nat), s.spiresRun = true ∧ p < 32 ∧ s.reloadReady p = true ∧ ((∀ q < 32, (s.spire q).reload ≠
        .loading)) ∧ ((∀ q < p, s.reloadReady q = false)))
    ∧ (∃ (s : State) (p d : Nat), s.spiresRun = true ∧ p < 32 ∧ (s.spire p).reload = .loading ∧ s.spireActive p = true ∧
        s.spireDome p = some d ∧ d < 64 ∧ s.get (R.STB_DOM_STATE_STATE d) = 2)
    ∧ (∃ (s : State) (d : Nat), s.spiresRun = true ∧ d < 64 ∧ s.get (R.STB_DOM_FENCE_DRAINED d) = 0 ∧ s.domeIdle d true =
        true ∧ s.get (R.STB_DOM_STATE_STATE d) = 2 ∧ (s.dome d).after = 0)
    ∧ (∃ (s : State), s.spiresRun = true ∧ s.get R.STB_STATUS_BUSY = 0 ∧ s.keepHalted = false)
    ∧ (∃ (s : State) (d : Nat), s.spiresRun = true ∧ d < 64 ∧ s.get R.STB_STATUS_BUSY = 0 ∧ s.keepHalted = false)
    ∧ (∃ (s : State) (v : Nat), s.spiresRun = true ∧ s.stb.app = none ∧ s.stb.raise = [(none, v)] ∧ s.flc.op = none ∧
        s.flc.info = [.minWhole v])
    ∧ (∃ (s : State), s.spiresRun = true ∧ s.stb.app = none ∧ s.flc.op.isSome = true)
    ∧ (∃ (s : State), s.spiresRun = true ∧ s.mainOn = true ∧ s.pending = [] ∧ s.clockEdge.spiresRun = true)
    ∧ (∃ (s : State) (a : StbApp), s.spiresRun = true ∧ s.stb.app = some a ∧ s.stb.amend = none ∧ a.phase = 1 ∧ a.amend =
        false ∧ s.flashWaits a.src = false ∧ s.flashWaits (a.src + (a.len - 1)) = false)
    ∧ (∃ (s : State) (a : StbApp), s.spiresRun = true ∧ s.stb.app = some a ∧ s.stb.amend = none ∧ a.phase = 1 ∧ s.flashWaits
        a.src = true)
    ∧ (∃ (s : State) (a : StbApp), s.spiresRun = true ∧ s.stb.app = some a ∧ s.stb.amend = none ∧ a.phase = 1 ∧ a.amend =
        true ∧ s.flashWaits a.src = false ∧ s.flashWaits (a.src + (a.len - 1)) = false)
    ∧ (∃ (s : State) (a : StbApp), s.spiresRun = true ∧ s.stb.app = some a ∧ (s.stagedOf a).2.stb.amend = none ∧ s.stb.amend
        = none ∧ a.phase = 2)
    ∧ (∃ (s : State) (a : StbApp), s.spiresRun = true ∧ s.stb.app = some a ∧ (s.stagedOf a).2.stb.amend = none ∧ s.stb.amend
        = none ∧ a.phase = 3 ∧ a.edge = false ∧ a.course = 0)
    ∧ (∃ (s : State) (a : StbApp) (al : Allot) (n k : Nat) (c : Content) (cs : List (Nat × Content)), s.spiresRun = true ∧
        s.stb.app = some a ∧ (s.stagedOf a).2.stb.amend = none ∧ s.stb.amend = none ∧ a.phase = 3 ∧ a.edge = false ∧
        a.course = 0 ∧ a.kind = 1 ∧ (s.dome a.dome).allot = some al ∧ marlContents (s.stagedOf a).1 = (n, c) :: cs ∧
        marlRules (s.stagedOf a).1 = none ∧ a.dome = fld (s.stagedOf a).1 7 1 ∧ a.dome ≠ 0 ∧ ((s.get (R.STB_DOM_STATE_STATE
        a.dome) = 4 ∧ k = 1) ∨ (s.get (R.STB_DOM_STATE_STATE a.dome) = 2 ∧ k = if a.abrupt then 3 else 2) ∨ (s.get
        (R.STB_DOM_STATE_STATE a.dome) = 3 ∧ k = if a.abrupt then 3 else 0) ∨ (s.get (R.STB_DOM_STATE_STATE a.dome) < 2 ∧ k
        = 5)))
    ∧ (∃ (s : State) (a : StbApp) (c : Content), s.spiresRun = true ∧ s.stb.app = some a ∧ s.stb.amend = none ∧ s.stb.next =
        some c ∧ a.phase = 3 ∧ a.edge = false ∧ a.kind = 1 ∧ a.course ≠ 0 ∧ a.dome < 64 ∧ s.get (R.STB_DOM_STATE_STATE
        a.dome) = 4 ∧ (s.dome a.dome).after = 0)
    ∧ (∃ (s : State) (a : StbApp) (c : Content), s.spiresRun = true ∧ s.stb.app = some a ∧ s.stb.amend = none ∧ s.stb.next =
        some c ∧ a.phase = 3 ∧ a.edge = false ∧ a.kind = 1 ∧ a.course = 2 ∧ a.dome < 64 ∧ s.get (R.STB_DOM_STATE_STATE
        a.dome) = 2)
    ∧ (∃ (s : State) (a : StbApp), s.spiresRun = true ∧ s.stb.app = some a ∧ s.stb.amend = none ∧ a.phase = 3 ∧ a.edge =
        false ∧ a.kind = 1 ∧ a.course = 3 ∧ a.dome < 64 ∧ (s.get (R.STB_DOM_STATE_STATE a.dome) = 2 ∨ s.get
        (R.STB_DOM_STATE_STATE a.dome) = 3))
    ∧ (∃ (s : State) (a : StbApp) (b : List Byte), s.spiresRun = true ∧ s.stb.app = some a ∧ (s.stagedOf a).2.stb.amend =
        none ∧ s.stb.amend = none ∧ a.phase = 4 ∧ a.kind = 2 ∧ a.rules = false ∧ sectOf (s.stagedOf a).1 7 = some b ∧ (s.get
        R.RST_LC_STATE = 1 ∨ s.get R.RST_ROOT_SRK_VALID = 0))
    ∧ (∃ (s : State) (a : StbApp) (b : List Byte), s.spiresRun = true ∧ s.stb.app = some a ∧ (s.stagedOf a).2.stb.amend =
        none ∧ s.stb.amend = none ∧ a.phase = 4 ∧ a.kind = 2 ∧ a.rules = false ∧ sectOf (s.stagedOf a).1 7 = some b ∧ s.get
        R.RST_LC_STATE ≠ 1 ∧ s.get R.RST_ROOT_SRK_VALID = 1)
    ∧ (∃ (s : State) (a : StbApp), s.spiresRun = true ∧ s.stb.app = some a ∧ (s.stagedOf a).2.stb.amend = none ∧ s.stb.amend
        = none ∧ a.phase = 4 ∧ a.kind = 0 ∧ a.course ≠ 4)
    ∧ (∃ (s : State) (a : StbApp), s.spiresRun = true ∧ s.stb.app = some a ∧ s.stb.amend = none ∧ a.phase = 4 ∧ a.kind = 0 ∧
        a.course = 4 ∧ a.rules = false ∧ s.flc.info.all (fun w => (match w with | .cmap _ => false | _ => true)) = true) :=
  ⟨⟨wOn.set (R.STB_SPIRE_LOADED_LOADED 31) 1, true, 63, by decide +kernel⟩,
   ⟨wOn.setStb {
           app := some { src := 0, len := 64, stage := 0, abrupt := false, dome := 2, kind := 1, phase := 2, rules := true } },
       { src := 0, len := 64, stage := 0, abrupt := false, dome := 2, kind := 1, phase := 2, rules := true },
       by decide +kernel⟩,
   ⟨wOn.set R.RST_BOOT_PHASE 8, by decide +kernel⟩,
   ⟨(wSpire 3).setSpire 3 { reload := .waiting }, 3, by decide +kernel⟩,
   ⟨((wSpire 3).setSpire 3 { reload := .loading }).set (R.STB_DOM_STATE_STATE 2) 2, 3, 2, by decide +kernel⟩,
   ⟨(wOn.set (R.STB_DOM_STATE_STATE 5) 2).set (R.STB_DOM_FENCE_DRAINED 5) 0, 5, by decide +kernel⟩,
   ⟨wOn.set R.STB_VERSION_VERSION 9, by decide +kernel⟩,
   ⟨wOn.set (R.STB_DOM_VER_VERSION 63) 9, 63, by decide +kernel⟩,
   ⟨(wOn.setStb { raise := [(none, 9)] }).setFlc { wOn.flc with info := [.minWhole 9] }, 9, by decide +kernel⟩,
   ⟨wOn.setFlc { wOn.flc with op := some { op := 1, addr := 0 } }, by decide +kernel⟩,
   ⟨wOn, by decide +kernel⟩,
   ⟨wStb wApp, wApp, by decide +kernel⟩,
   ⟨((wStb { wApp with src := 0xF000000000 }).setFlc { op := some { op := 1, addr := 0 } }).set R.FLC_CTRL_AUTOSUSP 0,
       { wApp with src := 0xF000000000 }, by decide +kernel⟩,
   ⟨wStb { wApp with amend := true }, { wApp with amend := true }, by decide +kernel⟩,
   ⟨wStb { wApp with phase := 2 }, { wApp with phase := 2 }, by decide +kernel⟩,
   ⟨wStb { wApp with phase := 3 }, { wApp with phase := 3 }, by decide +kernel⟩,
   ⟨((wStaged wStbDom wDomImg).setDome 2 { allot := some { spires := 8 } }).set (R.STB_DOM_STATE_STATE 2) 4, wStbDom,
       { spires := 8 }, 2, 1, {}, [], by decide +kernel⟩,
   ⟨((wStb { wStbDom with course := 1 }).setStb { app := some { wStbDom with course := 1 }, next := some wCont }).set
       (R.STB_DOM_STATE_STATE 2) 4, { wStbDom with course := 1 }, wCont, by decide +kernel⟩,
   ⟨((wStb { wStbDom with course := 2 }).setStb { app := some { wStbDom with course := 2 }, next := some wCont }).set
       (R.STB_DOM_STATE_STATE 2) 2, { wStbDom with course := 2 }, wCont, by decide +kernel⟩,
   ⟨((wStb { wStbDom with course := 3 }).set (R.STB_DOM_STATE_STATE 2) 2).setJsc { jobs := [wJob] },
       { wStbDom with course := 3 }, by decide +kernel⟩,
   ⟨wAmend, wAmendApp, wMasks, by decide +kernel⟩,
   ⟨(wAmend.set R.RST_LC_STATE 2).set R.RST_ROOT_SRK_VALID 1, wAmendApp, wMasks, by decide +kernel⟩,
   ⟨wStb { wApp with phase := 4 }, { wApp with phase := 4 }, by decide +kernel⟩,
   ⟨(wStb { wApp with phase := 4, course := 4, edge := true }).set R.RST_BOOT_PHASE 8,
       { wApp with phase := 4, course := 4, edge := true }, by decide +kernel⟩⟩

/-- A state and operands for every clause of Jobs. -/
theorem met_Jobs :
    (∃ (s : State) (m : RxMsg) (s1 : State) (i : Nat) (r : JobReq) (h : Handler), s.spiresRun = true ∧ s.takeMsg
        (fun m => m.kind == 0x10 && (match m.ctx with
            | some i => (s.ctx i).dome != 0
            | none => false)) = some (m, s1) ∧ m.ctx = some i ∧ jobParse m.body = some r ∧ r.cls = 1 ∧ s1.jobDup (s1.ctx
        i).sid r.jobnum = false ∧ s1.jobPolicy (s1.ctx i) r = .inr h ∧ s1.get R.JRN_STATUS_OPEN = 1 ∧ 2 ≤ s1.get
        R.JRN_FREE_POSITIONS ∧ s1.jsc.jobs = [] ∧ 0 < s1.get (R.JSC_DOME_LIMIT_MAX (s1.ctx i).dome) ∧ 0 < s1.get
        (R.JSC_BEST_MAX_MAX (s1.ctx i).dome))
    ∧ (∃ (s : State) (m : RxMsg) (s1 : State) (i : Nat), s.spiresRun = true ∧ s.takeMsg
        (fun m => m.kind == 0x10 && (match m.ctx with
            | some i => (s.ctx i).dome != 0
            | none => false)) = some (m, s1) ∧ m.ctx = some i ∧ jobParse m.body = none)
    ∧ (∃ (s : State) (m : RxMsg) (s1 : State) (i : Nat) (r : JobReq), s.spiresRun = true ∧ s.takeMsg
        (fun m => m.kind == 0x10 && (match m.ctx with
            | some i => (s.ctx i).dome != 0
            | none => false)) = some (m, s1) ∧ m.ctx = some i ∧ jobParse m.body = some r ∧ s1.jobDup (s1.ctx i).sid r.jobnum
        = true)
    ∧ (∃ (s : State) (m : RxMsg) (s1 : State) (i : Nat) (r : JobReq), s.spiresRun = true ∧ s.takeMsg
        (fun m => m.kind == 0x10 && (match m.ctx with
            | some i => (s.ctx i).dome != 0
            | none => false)) = some (m, s1) ∧ m.ctx = some i ∧ jobParse m.body = some r ∧ s1.jobDup (s1.ctx i).sid r.jobnum
        = false ∧ ((s1.get (R.STB_DOM_STATE_STATE (s1.ctx i).dome) ≠ 2 ∧ s1.get (R.STB_DOM_STATE_STATE (s1.ctx i).dome) ≠ 3)
        ∨ s1.pwr.hold = true ∨ s1.get R.JSC_STATUS_OPEN = 0))
    ∧ (∃ (s : State) (m : RxMsg) (s1 : State) (i : Nat) (r : JobReq), s.spiresRun = true ∧ s.takeMsg
        (fun m => m.kind == 0x10 && (match m.ctx with
            | some i => (s.ctx i).dome != 0
            | none => false)) = some (m, s1) ∧ m.ctx = some i ∧ jobParse m.body = some r ∧ s1.jobDup (s1.ctx i).sid r.jobnum
        = false ∧ (s1.get (R.STB_DOM_STATE_STATE (s1.ctx i).dome) = 2 ∨ s1.get (R.STB_DOM_STATE_STATE (s1.ctx i).dome) = 3)
        ∧ s1.pwr.hold = false ∧ s1.get R.JSC_STATUS_OPEN = 1 ∧ (s1.dome (s1.ctx i).dome).content.bind (fun c => c.handler
        r.handler) = none)
    ∧ (∃ (s : State) (m : RxMsg) (s1 : State) (i : Nat) (r : JobReq) (ct : Content) (h : Handler), s.spiresRun = true ∧
        s.takeMsg (fun m => m.kind == 0x10 && (match m.ctx with
            | some i => (s.ctx i).dome != 0
            | none => false)) = some (m, s1) ∧ m.ctx = some i ∧ jobParse m.body = some r ∧ s1.jobDup (s1.ctx i).sid r.jobnum
        = false ∧ (s1.get (R.STB_DOM_STATE_STATE (s1.ctx i).dome) = 2 ∨ s1.get (R.STB_DOM_STATE_STATE (s1.ctx i).dome) = 3)
        ∧ s1.pwr.hold = false ∧ s1.get R.JSC_STATUS_OPEN = 1 ∧ (s1.dome (s1.ctx i).dome).content = some ct ∧ ct.handler
        r.handler = some h ∧ h.classes.testBit r.cls = false)
    ∧ (∃ (s : State) (m : RxMsg) (s1 : State) (i : Nat) (r : JobReq) (ct : Content) (h : Handler), s.spiresRun = true ∧
        s.takeMsg (fun m => m.kind == 0x10 && (match m.ctx with
            | some i => (s.ctx i).dome != 0
            | none => false)) = some (m, s1) ∧ m.ctx = some i ∧ jobParse m.body = some r ∧ s1.jobDup (s1.ctx i).sid r.jobnum
        = false ∧ (s1.get (R.STB_DOM_STATE_STATE (s1.ctx i).dome) = 2 ∨ s1.get (R.STB_DOM_STATE_STATE (s1.ctx i).dome) = 3)
        ∧ s1.pwr.hold = false ∧ s1.get R.JSC_STATUS_OPEN = 1 ∧ (s1.dome (s1.ctx i).dome).content = some ct ∧ ct.handler
        r.handler = some h ∧ h.classes.testBit r.cls = true ∧ (ct.cls (s1.ctx i).cls).isNone = true)
    ∧ (∃ (s : State) (m : RxMsg) (s1 : State) (i : Nat) (r : JobReq) (ct : Content) (h : Handler), s.spiresRun = true ∧
        s.takeMsg (fun m => m.kind == 0x10 && (match m.ctx with
            | some i => (s.ctx i).dome != 0
            | none => false)) = some (m, s1) ∧ m.ctx = some i ∧ jobParse m.body = some r ∧ s1.jobDup (s1.ctx i).sid r.jobnum
        = false ∧ (s1.get (R.STB_DOM_STATE_STATE (s1.ctx i).dome) = 2 ∨ s1.get (R.STB_DOM_STATE_STATE (s1.ctx i).dome) = 3)
        ∧ s1.pwr.hold = false ∧ s1.get R.JSC_STATUS_OPEN = 1 ∧ (s1.dome (s1.ctx i).dome).content = some ct ∧ ct.handler
        r.handler = some h ∧ h.classes.testBit r.cls = true ∧ (ct.cls (s1.ctx i).cls).isSome = true ∧ (s1.payloadMax (s1.ctx
        i).dome h < r.payload.length ∨ h.keysMax < r.keys.length))
    ∧ (∃ (s : State) (m : RxMsg) (s1 : State) (i : Nat) (r : JobReq) (ct : Content) (h : Handler), s.spiresRun = true ∧
        s.takeMsg (fun m => m.kind == 0x10 && (match m.ctx with
            | some i => (s.ctx i).dome != 0
            | none => false)) = some (m, s1) ∧ m.ctx = some i ∧ jobParse m.body = some r ∧ s1.jobDup (s1.ctx i).sid r.jobnum
        = false ∧ (s1.get (R.STB_DOM_STATE_STATE (s1.ctx i).dome) = 2 ∨ s1.get (R.STB_DOM_STATE_STATE (s1.ctx i).dome) = 3)
        ∧ s1.pwr.hold = false ∧ s1.get R.JSC_STATUS_OPEN = 1 ∧ (s1.dome (s1.ctx i).dome).content = some ct ∧ ct.handler
        r.handler = some h ∧ h.classes.testBit r.cls = true ∧ (ct.cls (s1.ctx i).cls).isSome = true ∧ r.payload.length ≤
        s1.payloadMax (s1.ctx i).dome h ∧ r.keys.length ≤ h.keysMax ∧ r.regions &&& h.regions ≠ r.regions)
    ∧ (∃ (s : State) (m : RxMsg) (s1 : State) (i : Nat) (r : JobReq) (ct : Content) (h : Handler), s.spiresRun = true ∧
        s.takeMsg (fun m => m.kind == 0x10 && (match m.ctx with
            | some i => (s.ctx i).dome != 0
            | none => false)) = some (m, s1) ∧ m.ctx = some i ∧ jobParse m.body = some r ∧ s1.jobDup (s1.ctx i).sid r.jobnum
        = false ∧ (s1.get (R.STB_DOM_STATE_STATE (s1.ctx i).dome) = 2 ∨ s1.get (R.STB_DOM_STATE_STATE (s1.ctx i).dome) = 3)
        ∧ s1.pwr.hold = false ∧ s1.get R.JSC_STATUS_OPEN = 1 ∧ (s1.dome (s1.ctx i).dome).content = some ct ∧ ct.handler
        r.handler = some h ∧ h.classes.testBit r.cls = true ∧ (ct.cls (s1.ctx i).cls).isSome = true ∧ r.payload.length ≤
        s1.payloadMax (s1.ctx i).dome h ∧ r.keys.length ≤ h.keysMax ∧ r.regions &&& h.regions = r.regions ∧ r.keys ≠ [] ∧
        s1.get R.RST_ROOT_SRK_VALID = 0)
    ∧ (∃ (s : State) (m : RxMsg) (s1 : State) (i : Nat) (r : JobReq) (ct : Content) (h : Handler), s.spiresRun = true ∧
        s.takeMsg (fun m => m.kind == 0x10 && (match m.ctx with
            | some i => (s.ctx i).dome != 0
            | none => false)) = some (m, s1) ∧ m.ctx = some i ∧ jobParse m.body = some r ∧ s1.jobDup (s1.ctx i).sid r.jobnum
        = false ∧ (s1.get (R.STB_DOM_STATE_STATE (s1.ctx i).dome) = 2 ∨ s1.get (R.STB_DOM_STATE_STATE (s1.ctx i).dome) = 3)
        ∧ s1.pwr.hold = false ∧ s1.get R.JSC_STATUS_OPEN = 1 ∧ (s1.dome (s1.ctx i).dome).content = some ct ∧ ct.handler
        r.handler = some h ∧ h.classes.testBit r.cls = true ∧ (ct.cls (s1.ctx i).cls).isSome = true ∧ r.payload.length ≤
        s1.payloadMax (s1.ctx i).dome h ∧ r.keys.length ≤ h.keysMax ∧ r.regions &&& h.regions = r.regions ∧ s1.get
        R.RST_ROOT_SRK_VALID = 1 ∧ r.keys.any (fun k => !s1.dirHas k (s1.ctx i).dome) = true)
    ∧ (∃ (s : State) (m : RxMsg) (s1 : State) (i : Nat) (r : JobReq) (ct : Content) (h : Handler), s.spiresRun = true ∧
        s.takeMsg (fun m => m.kind == 0x10 && (match m.ctx with
            | some i => (s.ctx i).dome != 0
            | none => false)) = some (m, s1) ∧ m.ctx = some i ∧ jobParse m.body = some r ∧ s1.jobDup (s1.ctx i).sid r.jobnum
        = false ∧ (s1.get (R.STB_DOM_STATE_STATE (s1.ctx i).dome) = 2 ∨ s1.get (R.STB_DOM_STATE_STATE (s1.ctx i).dome) = 3)
        ∧ s1.pwr.hold = false ∧ s1.get R.JSC_STATUS_OPEN = 1 ∧ (s1.dome (s1.ctx i).dome).content = some ct ∧ ct.handler
        r.handler = some h ∧ h.classes.testBit r.cls = true ∧ (ct.cls (s1.ctx i).cls).isSome = true ∧ r.payload.length ≤
        s1.payloadMax (s1.ctx i).dome h ∧ r.keys.length ≤ h.keysMax ∧ r.regions &&& h.regions = r.regions ∧ r.keys = [] ∧
        r.cls = 0 ∧ s1.get R.TIME_STATUS_UNSET = 1)
    ∧ (∃ (s : State) (m : RxMsg) (s1 : State) (i : Nat) (r : JobReq) (h : Handler) (n : Nat), s.spiresRun = true ∧ s.takeMsg
        (fun m => m.kind == 0x10 && (match m.ctx with
            | some i => (s.ctx i).dome != 0
            | none => false)) = some (m, s1) ∧ m.ctx = some i ∧ jobParse m.body = some r ∧ s1.jobDup (s1.ctx i).sid r.jobnum
        = false ∧ s1.jobPolicy (s1.ctx i) r = .inr h ∧ r.cls = 0 ∧ (setBits 64 (r.uses h)).find? (fun n => s1.warming
        (s1.ctx i).dome n) = some n)
    ∧ (∃ (s : State) (m : RxMsg) (s1 : State) (i : Nat) (r : JobReq) (h : Handler), s.spiresRun = true ∧ s.takeMsg
        (fun m => m.kind == 0x10 && (match m.ctx with
            | some i => (s.ctx i).dome != 0
            | none => false)) = some (m, s1) ∧ m.ctx = some i ∧ jobParse m.body = some r ∧ s1.jobDup (s1.ctx i).sid r.jobnum
        = false ∧ s1.jobPolicy (s1.ctx i) r = .inr h ∧ (r.cls = 0 → (setBits 64 (r.uses h)).find? (fun n => s1.warming
        (s1.ctx i).dome n) = none) ∧ (s1.get R.JRN_STATUS_OPEN = 0 ∨ s1.get R.JRN_FREE_POSITIONS < 2))
    ∧ (∃ (s : State) (m : RxMsg) (s1 : State) (i : Nat) (r : JobReq) (h : Handler), s.spiresRun = true ∧ s.takeMsg
        (fun m => m.kind == 0x10 && (match m.ctx with
            | some i => (s.ctx i).dome != 0
            | none => false)) = some (m, s1) ∧ m.ctx = some i ∧ jobParse m.body = some r ∧ s1.jobDup (s1.ctx i).sid r.jobnum
        = false ∧ s1.jobPolicy (s1.ctx i) r = .inr h ∧ (r.cls = 0 → (setBits 64 (r.uses h)).find? (fun n => s1.warming
        (s1.ctx i).dome n) = none) ∧ s1.get R.JRN_STATUS_OPEN = 1 ∧ 2 ≤ s1.get R.JRN_FREE_POSITIONS ∧ s1.jsc.jobs.length <
        65536 ∧ s1.get (R.JSC_DOME_LIMIT_MAX (s1.ctx i).dome) ≤ (s1.jsc.jobs.filter (fun j => j.dome == (s1.ctx
        i).dome)).length)
    ∧ (∃ (s : State) (m : RxMsg) (s1 : State) (i : Nat) (r : JobReq) (h : Handler), s.spiresRun = true ∧ s.takeMsg
        (fun m => m.kind == 0x10 && (match m.ctx with
            | some i => (s.ctx i).dome != 0
            | none => false)) = some (m, s1) ∧ m.ctx = some i ∧ jobParse m.body = some r ∧ s1.jobDup (s1.ctx i).sid r.jobnum
        = false ∧ s1.jobPolicy (s1.ctx i) r = .inr h ∧ (r.cls = 0 → (setBits 64 (r.uses h)).find? (fun n => s1.warming
        (s1.ctx i).dome n) = none) ∧ s1.get R.JRN_STATUS_OPEN = 1 ∧ 2 ≤ s1.get R.JRN_FREE_POSITIONS ∧ s1.jsc.jobs.length <
        65536 ∧ (s1.jsc.jobs.filter (fun j => j.dome == (s1.ctx i).dome)).length < s1.get (R.JSC_DOME_LIMIT_MAX (s1.ctx
        i).dome) ∧ r.cls = 1 ∧ s1.get (R.JSC_BEST_MAX_MAX (s1.ctx i).dome) ≤ (s1.bestQueue (s1.ctx i).dome).length)
    ∧ (∃ (s : State) (m : RxMsg) (s1 : State) (i : Nat) (r : JobReq) (h : Handler), s.spiresRun = true ∧ s.takeMsg
        (fun m => m.kind == 0x10 && (match m.ctx with
            | some i => (s.ctx i).dome != 0
            | none => false)) = some (m, s1) ∧ m.ctx = some i ∧ jobParse m.body = some r ∧ s1.jobDup (s1.ctx i).sid r.jobnum
        = false ∧ s1.jobPolicy (s1.ctx i) r = .inr h ∧ (r.cls = 0 → (setBits 64 (r.uses h)).find? (fun n => s1.warming
        (s1.ctx i).dome n) = none) ∧ s1.get R.JRN_STATUS_OPEN = 1 ∧ 2 ≤ s1.get R.JRN_FREE_POSITIONS ∧ s1.jsc.jobs.length <
        65536 ∧ (s1.jsc.jobs.filter (fun j => j.dome == (s1.ctx i).dome)).length < s1.get (R.JSC_DOME_LIMIT_MAX (s1.ctx
        i).dome) ∧ (r.cls = 0 ∧ (s1.acquireAll (s1.ctx i).dome (s1.get R.ART_EPOCH_CURRENT) (s1.get R.FED_EPOCH_CURRENT) []
        r.keys = none ∨ s1.bestCore s1.now (s1.terms (s1.ctx i) r h) (s1.ctx i) h = none ∨ h.pkeU ≠ 0 ∧ s1.pkeAvailable =
        false)))
    ∧ (∃ (s : State) (m : RxMsg) (s1 : State) (i : Nat) (r : JobReq) (h : Handler) (slots : List Nat) (s2 : State) (p : Rat)
        (core : Nat), s.spiresRun = true ∧ s.takeMsg (fun m => m.kind == 0x10 && (match m.ctx with
            | some i => (s.ctx i).dome != 0
            | none => false)) = some (m, s1) ∧ m.ctx = some i ∧ jobParse m.body = some r ∧ s1.jobDup (s1.ctx i).sid r.jobnum
        = false ∧ s1.jobPolicy (s1.ctx i) r = .inr h ∧ (r.cls = 0 → (setBits 64 (r.uses h)).find? (fun n => s1.warming
        (s1.ctx i).dome n) = none) ∧ s1.get R.JRN_STATUS_OPEN = 1 ∧ 2 ≤ s1.get R.JRN_FREE_POSITIONS ∧ s1.jsc.jobs.length <
        65536 ∧ (s1.jsc.jobs.filter (fun j => j.dome == (s1.ctx i).dome)).length < s1.get (R.JSC_DOME_LIMIT_MAX (s1.ctx
        i).dome) ∧ (r.cls = 0 ∧ s1.acquireAll (s1.ctx i).dome (s1.get R.ART_EPOCH_CURRENT) (s1.get R.FED_EPOCH_CURRENT) []
        r.keys = some (slots, true, s2) ∧ (h.pkeU = 0 ∨ s1.pkeAvailable = true)) ∧ s1.bestCore s1.now (s1.terms (s1.ctx i) r
        h) (s1.ctx i) h = some (p, core) ∧ r.deadline ≠ 0 ∧ (r.deadline : Rat) < ((p.ceil.toNat : Nat) : Rat) - s1.now)
    ∧ (∃ (s : State) (m : RxMsg) (s1 : State) (i : Nat) (r : JobReq) (h : Handler) (slots : List Nat) (s2 : State) (p : Rat)
        (core : Nat), s.spiresRun = true ∧ s.takeMsg (fun m => m.kind == 0x10 && (match m.ctx with
            | some i => (s.ctx i).dome != 0
            | none => false)) = some (m, s1) ∧ m.ctx = some i ∧ jobParse m.body = some r ∧ s1.jobDup (s1.ctx i).sid r.jobnum
        = false ∧ s1.jobPolicy (s1.ctx i) r = .inr h ∧ (r.cls = 0 → (setBits 64 (r.uses h)).find? (fun n => s1.warming
        (s1.ctx i).dome n) = none) ∧ s1.get R.JRN_STATUS_OPEN = 1 ∧ 2 ≤ s1.get R.JRN_FREE_POSITIONS ∧ s1.jsc.jobs.length <
        65536 ∧ (s1.jsc.jobs.filter (fun j => j.dome == (s1.ctx i).dome)).length < s1.get (R.JSC_DOME_LIMIT_MAX (s1.ctx
        i).dome) ∧ (r.cls = 0 ∧ s1.acquireAll (s1.ctx i).dome (s1.get R.ART_EPOCH_CURRENT) (s1.get R.FED_EPOCH_CURRENT) []
        r.keys = some (slots, true, s2) ∧ (h.pkeU = 0 ∨ s1.pkeAvailable = true)) ∧ s1.bestCore s1.now (s1.terms (s1.ctx i) r
        h) (s1.ctx i) h = some (p, core) ∧ r.deadline = 0 ∧ s2.jsc.jobs = [])
    ∧ (∃ (s : State) (j : Job), s.spiresRun = true ∧ s.jsc.jobs.find? (fun j => !j.placed && j.live) = some j)
    ∧ (∃ (s : State) (c : Nat) (j : Job), s.spiresRun = true ∧ c < 512 ∧ s.readyJob c = some j ∧ (s.core c).phase = .idle ∧
        (s.core c).job = none)
    ∧ (∃ (s : State) (c b : Nat) (j k : Job), s.spiresRun = true ∧ c < 512 ∧ s.readyJob c = some j ∧ (s.core c).job = some b
        ∧ s.job b = some k ∧ k.cls = 1 ∧ (s.core c).phase = .running)
    ∧ (∃ (s : State) (c b : Nat), s.spiresRun = true ∧ (s.core c).phase = .preempting ∧ s.readyJob c = none ∧ (s.core
        c).flightJob = some b)
    ∧ (∃ (s : State) (c b : Nat), s.spiresRun = true ∧ (s.core c).phase = .idle ∧ (s.core c).job = none ∧ (s.core
        c).flightJob = some b ∧ s.readyJob c = none)
    ∧ (∃ (s : State) (c b : Nat) (j : Job), s.spiresRun = true ∧ (s.core c).phase = .resuming ∧ (s.core c).flightJob = some
        b ∧ s.job b = some j ∧ j.wait = none)
    ∧ (∃ (s : State) (c : Nat) (j : Job) (slots : List Nat), s.spiresRun = true ∧ c < 512 ∧ (s.core c).phase = .idle ∧
        (s.core c).job = none ∧ (s.core c).flightJob = none ∧ s.firstJob c = none ∧ s.assigned c = none ∧ s.jsc.turn < 64 ∧
        s.headFor c s.jsc.turn = some (j, slots, s))
    ∧ (∃ (s : State) (c b : Nat) (j : Job), s.spiresRun = true ∧ (s.core c).job = some b ∧ s.job b = some j ∧ j.st =
        .running ∧ j.h.wcet ≤ j.cycles)
    ∧ (∃ (s : State) (k : Nat) (m : TxMsg) (b : Nat) (j : Job), s.spiresRun = true ∧ s.linkSends k = true ∧ s.txNext k =
        some m ∧ m.job = some b ∧ s.job b = some j ∧ m.done = 0 ∧ j.id = b)
    ∧ (∃ (s : State) (p : Nat), s.spiresRun = true) :=
  ⟨⟨wAsk.setSes { wAsk.ses with inbox := [wMsg] }, wMsg, wAsk, 0, wBestReq, wHandler, by decide +kernel⟩,
   ⟨wAsk.setSes { wAsk.ses with inbox := [{ wMsg with body := zeros 3 }] }, { wMsg with body := zeros 3 }, wAsk, 0,
       by decide +kernel⟩,
   ⟨wDup.setSes { wDup.ses with inbox := [wMsg] }, wMsg, wDup, 0, wBestReq, by decide +kernel⟩,
   ⟨wNet.setSes { wNet.ses with inbox := [wMsg] }, wMsg, wNet, 0, wBestReq, by decide +kernel⟩,
   ⟨(wAskW { }).setSes { (wAskW { }).ses with inbox := [wMsg] }, wMsg, wAskW { }, 0, wBestReq, by decide +kernel⟩,
   ⟨(wAskC { wHandler with classes := 1 }).setSes { (wAskC { wHandler with classes := 1 }).ses with inbox := [wMsg] }, wMsg,
       wAskC { wHandler with classes := 1 }, 0, wBestReq,
       { handlers := [{ wHandler with classes := 1 }], classes := [[1, 0]] }, { wHandler with classes := 1 },
       by decide +kernel⟩,
   ⟨(wAskW { handlers := [wHandler] }).setSes { (wAskW { handlers := [wHandler] }).ses with inbox := [wMsg] }, wMsg, wAskW
       { handlers := [wHandler] }, 0, wBestReq, { handlers := [wHandler] }, wHandler, by decide +kernel⟩,
   ⟨wAskB wKeyBody { wHandler with keysMax := 0 }, { wMsg with body := wKeyBody }, wAskC { wHandler with keysMax := 0 }, 0,
       wKeyReq, { handlers := [{ wHandler with keysMax := 0 }], classes := [[1, 0]] }, { wHandler with keysMax := 0 },
       by decide +kernel⟩,
   ⟨wAskB wRegBody wHandler, { wMsg with body := wRegBody }, wAskC wHandler, 0, { wBestReq with regions := 1 },
       { handlers := [wHandler], classes := [[1, 0]] }, wHandler, by decide +kernel⟩,
   ⟨wAskB wKeyBody wHandler, { wMsg with body := wKeyBody }, wAskC wHandler, 0, wKeyReq,
       { handlers := [wHandler], classes := [[1, 0]] }, wHandler, by decide +kernel⟩,
   ⟨(wAskB wKeyBody wHandler).set R.RST_ROOT_SRK_VALID 1, { wMsg with body := wKeyBody }, (wAskC wHandler).set
       R.RST_ROOT_SRK_VALID 1, 0, wKeyReq, { handlers := [wHandler], classes := [[1, 0]] }, wHandler, by decide +kernel⟩,
   ⟨wAskB wProBody wHandler, { wMsg with body := wProBody }, wAskC wHandler, 0, { wBestReq with cls := 0 },
       { handlers := [wHandler], classes := [[1, 0]] }, wHandler, by decide +kernel⟩,
   ⟨wAskP wWarm, { wMsg with body := wProBody }, wWarm, 0, { wBestReq with cls := 0 }, { wHandler with regions := 1 }, 0,
       by decide +kernel⟩,
   ⟨(wAsk.set R.JRN_STATUS_OPEN 0).setSes { (wAsk.set R.JRN_STATUS_OPEN 0).ses with inbox := [wMsg] }, wMsg, wAsk.set
       R.JRN_STATUS_OPEN 0, 0, wBestReq, wHandler, by decide +kernel⟩,
   ⟨(wAsk.set (R.JSC_DOME_LIMIT_MAX 2) 0).setSes { (wAsk.set (R.JSC_DOME_LIMIT_MAX 2) 0).ses with inbox := [wMsg] }, wMsg,
       wAsk.set (R.JSC_DOME_LIMIT_MAX 2) 0, 0, wBestReq, wHandler, by decide +kernel⟩,
   ⟨(wAsk.set (R.JSC_BEST_MAX_MAX 2) 0).setSes { (wAsk.set (R.JSC_BEST_MAX_MAX 2) 0).ses with inbox := [wMsg] }, wMsg,
       wAsk.set (R.JSC_BEST_MAX_MAX 2) 0, 0, wBestReq, wHandler, by decide +kernel⟩,
   ⟨wAskP wProm0, { wMsg with body := wProBody }, wProm0, 0, { wBestReq with cls := 0 }, wHandler, by decide +kernel⟩,
   ⟨wAskD wProm, { wMsg with body := wDueBody }, wProm, 0, { wBestReq with cls := 0, deadline := 1 }, wHandler, [], wProm,
       50929 / 25, 48, by decide +kernel⟩,
   ⟨wAskP wProm, { wMsg with body := wProBody }, wProm, 0, { wBestReq with cls := 0 }, wHandler, [], wProm, 50929 / 25, 48,
       by decide +kernel⟩,
   ⟨wOn.setJsc { jobs := [wJob] }, wJob, by decide +kernel⟩,
   ⟨wReady, 0, { wJob with st := .admitted, placed := true, h := { wJob.h with entry := 100 } }, by decide +kernel⟩,
   ⟨(wReady.setCore 0 { phase := .running, job := some 5, pc := 77 }).setJsc
       { jobs := wReady.jsc.jobs ++ [{ wJob with id := 5, cls := 1 }] }, 0, 5,
       { wJob with st := .admitted, placed := true, h := { wJob.h with entry := 100 } }, { wJob with id := 5, cls := 1 },
       by decide +kernel⟩,
   ⟨wOn.setCore 0 { phase := .preempting, flightJob := some 1 }, 0, 1, by decide +kernel⟩,
   ⟨wOn.setCore 0 { flightJob := some 1 }, 0, 1, by decide +kernel⟩,
   ⟨(wOn.setCore 0 { phase := .resuming, flightJob := some 1 }).setJsc { jobs := [{ wJob with cls := 1 }] }, 0, 1,
       { wJob with cls := 1 }, by decide +kernel⟩,
   ⟨wIdle, 48, { wJob with cls := 1, st := .admitted, core := none, epoch := 0, h := wHandler, handles := [] }, [],
       by decide +kernel⟩,
   ⟨(wOn.setCore 0 { phase := .running, job := some 1 }).setJsc { jobs := [{ wJob with cycles := 1000 }] }, 0, 1,
       { wJob with cycles := 1000 }, by decide +kernel⟩,
   ⟨(wNet.setJsc { jobs := [wDone] }).setNet { section_ := wSection, tx := [wTx] }, 0, wTx, 1, wDone, by decide +kernel⟩,
   ⟨wOn, 3, by decide +kernel⟩⟩

/-- A state and operands for every clause of JournalCommands. -/
theorem met_JournalCommands :
    (∃ (s : State), s.spiresRun = true ∧ s.get R.JRN_STATUS_OPEN = 0 ∧ s.get R.JRN_STATUS_SEALED = 0 ∧ 1 ≤ s.get
        R.JRN_SIZE_UNITS ∧ s.get R.JRN_SIZE_UNITS ≤ 32768 ∧ s.get R.JRN_SEAL_INFO_VALID = 0 ∧ s.keepHalted = false)
    ∧ (∃ (s : State), s.spiresRun = true ∧ s.jrn.block ≠ [] ∧ s.jrn.start + 1000 ≤ s.tnow ∧ s.get R.JRN_NEXT_SEQ_SEQ < 2 ^
        64 - 1)
    ∧ (∃ (s : State) (seq : Nat), s.spiresRun = true ∧ seq < 2 ^ 64 ∧ seq < s.jrn.lastBlk ∧ (s.get R.JRN_EXPORT_SEQ = 2 ^ 64
        - 1 ∨ s.get R.JRN_EXPORT_SEQ ≤ seq) ∧ s.keepHalted = false)
    ∧ (∃ (s : State) (seq : Nat), s.spiresRun = true ∧ seq < 2 ^ 64 ∧ s.jrn.lastBlk ≤ seq ∧ s.keepHalted = false)
    ∧ (∃ (s : State), s.spiresRun = true ∧ s.pwr.seq = .none ∧ s.pwr.hold = true ∧ s.jsc.jobs = [] ∧ s.get R.JRN_STATUS_OPEN
        = 1) :=
  ⟨⟨wOn.set R.JRN_SIZE_UNITS 1, by decide +kernel⟩,
   ⟨((wOn.setJrn { block := [zeros 128] }).set R.TIME_DTIME_NS 1000).set R.JRN_SIZE_UNITS 1, by decide +kernel⟩,
   ⟨(wOn.setJrn { lastBlk := 9 }).set R.JRN_EXPORT_SEQ 8, 8, by decide +kernel⟩,
   ⟨wOn.setJrn { lastBlk := 9 }, 9, by decide +kernel⟩,
   ⟨((wOn.setPwr { wOn.pwr with hold := true }).set R.JRN_STATUS_OPEN 1).set R.JRN_SIZE_UNITS 1, by decide +kernel⟩⟩

/-- A state and operands for every clause of RegistersAndTransfers. -/
theorem met_RegistersAndTransfers :
    (∃ (s : State) (a v : Nat) (w : Bool) (fs : List Fld), s.spiresRun = true ∧ regAt a = some (w, fs) ∧ s.commandWrite
        0x200 a v = none ∧ a ∉ [0xFF00010000, 0xFF00010004, 0xFF00010034, 0xFF0002000C, 0xFF00030010, 0xFF00040010,
        0xFF00040020, 0xFF000E0050, 0xFF00110008, 0xFF00140000, 0xFF00140040, 0xFF00150000, 0xFF00170018, 0xFF00180008,
        0xFF00180010] ∧ s.keepHalted = false)
    ∧ (∃ (s : State) (a v : Nat), s.spiresRun = true ∧ (s.commandWrite 0x200 a v).isSome = true ∧ (a < 0xFF00161000 ∨
        0xFF00162000 ≤ a) ∧ s.keepHalted = false)
    ∧ (∃ (s : State) (i v : Nat), s.spiresRun = true ∧ 768 ≤ i ∧ i < 1024 ∧ (s.get R.CLF_MBOX_OUT_OWN).testBit ((i - 768) /
        128) = false ∧ s.keepHalted = false)
    ∧ (∃ (s : State) (v : Nat), s.spiresRun = true ∧ s.keepHalted = false)
    ∧ (∃ (s : State) (v : Nat), s.spiresRun = true ∧ s.keepHalted = false)
    ∧ (∃ (s : State) (v : Nat), s.spiresRun = true ∧ s.keepHalted = false)
    ∧ (∃ (s : State) (v : Nat), s.spiresRun = true ∧ s.keepHalted = false)
    ∧ (∃ (s : State) (v : Nat), s.spiresRun = true ∧ s.keepHalted = false)
    ∧ (∃ (s : State) (v : Nat), s.spiresRun = true ∧ s.get R.SES_CTX_VALID = 0 ∧ s.keepHalted = false)
    ∧ (∃ (s : State) (a v : Nat), s.spiresRun = true ∧ (a = 0xFF00180008 ∧ s.get R.JRN_STATUS_OPEN = 1 ∨ a = 0xFF00180010 ∧
        s.get R.JRN_STATUS_OPEN = 1 ∨ a = 0xFF00110008 ∧ s.get R.SES_CTX_VALID = 1 ∨ a = 0xFF00140000 ∧ s.get
        (R.ICC_STATUS_BUSY 0) = 1 ∨ a = 0xFF00140040 ∧ s.get (R.ICC_STATUS_BUSY 1) = 1))
    ∧ (∃ (s : State) (v : Nat), s.spiresRun = true ∧ v < 2 ^ 32)
    ∧ (∃ (s : State) (v : Nat), s.spiresRun = true ∧ v < 2 ^ 32 ∧ s.keepHalted = false)
    ∧ (∃ (s : State) (v : Nat), s.spiresRun = true ∧ v < 2 ^ 32 ∧ s.keepHalted = false)
    ∧ (∃ (s : State) (v : Nat), s.spiresRun = true ∧ v < 2 ^ 32)
    ∧ (∃ (s : State) (v : Nat), s.spiresRun = true ∧ v < 2 ^ 64 ∧ s.tmp.unlocked = true ∧ s.keepHalted = false)
    ∧ (∃ (s : State) (agent who job a len : Nat) (data : List Byte), s.spiresRun = true ∧ isReg a = false ∧ isDdr a = false
        ∧ isFlash a = false ∧ s.neverIssued agent 1 a data.length = false ∧ s.judge {
            agent := agent, dom := s.stamped agent who, epoch := s.carried job,
            sp := if agentClass agent = 3 then who / 16 % 64 else 63 } 1 a data.length = none)
    ∧ (∃ (s : State) (agent who job a n : Nat), s.spiresRun = true ∧ isReg a = false ∧ isDdr a = false ∧ isFlash a = false ∧
        s.neverIssued agent 0 a n = false ∧ s.judge {
            agent := agent, dom := s.stamped agent who, epoch := s.carried job,
            sp := if agentClass agent = 3 then who / 16 % 64 else 63 } 0 a n = none)
    ∧ (∃ (s : State) (agent who job a n : Nat), s.spiresRun = true ∧ isDdr a = true ∧ 0 < n ∧ a % 64 + n ≤ 64 ∧ s.lineState
        (lineOf a) = 0 ∧ s.neverIssued agent 0 a n = false ∧ s.judge {
            agent := agent, dom := s.stamped agent who, epoch := s.carried job,
            sp := if agentClass agent = 3 then who / 16 % 64 else 63 } 0 a n = none)
    ∧ (∃ (s : State) (agent who job a n : Nat), s.spiresRun = true ∧ isDdr a = true ∧ 0 < n ∧ a % 64 + n ≤ 64 ∧
        s.neverIssued agent 0 a n = false ∧ s.judge {
            agent := agent, dom := s.stamped agent who, epoch := s.carried job,
            sp := if agentClass agent = 3 then who / 16 % 64 else 63 } 0 a n = none)
    ∧ (∃ (s : State) (agent who job a n : Nat), s.spiresRun = true ∧ isDdr a = true ∧ 0 < n ∧ a % 64 + n ≤ 64 ∧ s.get
        R.MEMC_UE_ADDR_VALID = 1 ∧ s.neverIssued agent 0 a n = false ∧ s.judge {
            agent := agent, dom := s.stamped agent who, epoch := s.carried job,
            sp := if agentClass agent = 3 then who / 16 % 64 else 63 } 0 a n = none)
    ∧ (∃ (s : State) (agent who job a n : Nat), s.spiresRun = true ∧ isDdr a = true ∧ 0 < n ∧ a % 64 + n ≤ 64 ∧ s.get
        R.MEMC_UE_ADDR_VALID = 0 ∧ s.neverIssued agent 0 a n = false ∧ s.judge {
            agent := agent, dom := s.stamped agent who, epoch := s.carried job,
            sp := if agentClass agent = 3 then who / 16 % 64 else 63 } 0 a n = none)
    ∧ (∃ (s : State) (agent who job a n : Nat), s.spiresRun = true ∧ isDdr a = true ∧ 0 < n ∧ a % 64 + n ≤ 64 ∧
        s.neverIssued agent 0 a n = false ∧ s.judge {
            agent := agent, dom := s.stamped agent who, epoch := s.carried job,
            sp := if agentClass agent = 3 then who / 16 % 64 else 63 } 0 a n = none)
    ∧ (∃ (s : State) (agent who job a len : Nat) (data : List Byte), s.spiresRun = true ∧ isDdr a = true ∧ 0 < data.length ∧
        data.length < 64 ∧ a % 64 + data.length ≤ 64 ∧ s.lineState (lineOf a) = 0 ∧ s.neverIssued agent 1 a data.length =
        false ∧ s.judge {
            agent := agent, dom := s.stamped agent who, epoch := s.carried job,
            sp := if agentClass agent = 3 then who / 16 % 64 else 63 } 1 a data.length = none)
    ∧ (∃ (s : State) (agent who job a len : Nat) (data : List Byte), s.spiresRun = true ∧ isDdr a = true ∧ data.length = 64
        ∧ a % 64 = 0 ∧ s.neverIssued agent 1 a data.length = false ∧ s.judge {
            agent := agent, dom := s.stamped agent who, epoch := s.carried job,
            sp := if agentClass agent = 3 then who / 16 % 64 else 63 } 1 a data.length = none)
    ∧ (∃ (s : State) (agent who job a len : Nat) (data : List Byte), s.spiresRun = true ∧ isDdr a = true ∧ 0 < data.length ∧
        data.length < 64 ∧ a % 64 + data.length ≤ 64 ∧ s.neverIssued agent 1 a data.length = false ∧ s.judge {
            agent := agent, dom := s.stamped agent who, epoch := s.carried job,
            sp := if agentClass agent = 3 then who / 16 % 64 else 63 } 1 a data.length = none)
    ∧ (∃ (s : State) (agent who job a len : Nat) (data : List Byte), s.spiresRun = true ∧ isFlash a = true ∧ s.neverIssued
        agent 1 a data.length = false ∧ s.judge {
            agent := agent, dom := s.stamped agent who, epoch := s.carried job,
            sp := if agentClass agent = 3 then who / 16 % 64 else 63 } 1 a data.length = none)
    ∧ (∃ (s : State) (agent who job a n : Nat), s.spiresRun = true ∧ isFlash a = true ∧ 0 < n ∧ a % 32 + n ≤ 32 ∧ s.flc.op =
        none ∧ tabGet 0 s.flc.bad (a / 32 * 32) = 0 ∧ s.neverIssued agent 0 a n = false ∧ s.judge {
            agent := agent, dom := s.stamped agent who, epoch := s.carried job,
            sp := if agentClass agent = 3 then who / 16 % 64 else 63 } 0 a n = none)
    ∧ (∃ (s : State) (agent who job a n : Nat), s.spiresRun = true ∧ isFlash a = true ∧ s.flashWaits a = true ∧
        s.neverIssued agent 0 a n = false ∧ s.judge {
            agent := agent, dom := s.stamped agent who, epoch := s.carried job,
            sp := if agentClass agent = 3 then who / 16 % 64 else 63 } 0 a n = none)
    ∧ (∃ (s : State) (agent who job a n : Nat), s.spiresRun = true ∧ isReg a = true ∧ regShape a n = 1 ∧ s.neverIssued agent
        0 a n = false ∧ s.judge {
            agent := agent, dom := s.stamped agent who, epoch := s.carried job,
            sp := if agentClass agent = 3 then who / 16 % 64 else 63 } 0 a n = none)
    ∧ (∃ (s : State) (agent who job a n : Nat), s.spiresRun = true ∧ isReg a = true ∧ regShape a n = 0 ∧ s.neverIssued agent
        0 a n = false ∧ s.judge {
            agent := agent, dom := s.stamped agent who, epoch := s.carried job,
            sp := if agentClass agent = 3 then who / 16 % 64 else 63 } 0 a n = none)
    ∧ (∃ (s : State) (agent who job a n : Nat), s.spiresRun = true ∧ isReg a = true ∧ regShape a n = 4 ∧ s.neverIssued agent
        0 a n = false ∧ s.judge {
            agent := agent, dom := s.stamped agent who, epoch := s.carried job,
            sp := if agentClass agent = 3 then who / 16 % 64 else 63 } 0 a n = none)
    ∧ (∃ (s : State) (agent who job a len : Nat) (data : List Byte), s.spiresRun = true ∧ isReg a = true ∧ regShape a
        data.length = 1 ∧ s.neverIssued agent 1 a data.length = false ∧ s.judge {
            agent := agent, dom := s.stamped agent who, epoch := s.carried job,
            sp := if agentClass agent = 3 then who / 16 % 64 else 63 } 1 a data.length = none)
    ∧ (∃ (s : State) (agent who job a len : Nat) (data : List Byte), s.spiresRun = true ∧ isReg a = true ∧ 2 ≤ regShape a
        data.length ∧ s.neverIssued agent 1 a data.length = false ∧ s.judge {
            agent := agent, dom := s.stamped agent who, epoch := s.carried job,
            sp := if agentClass agent = 3 then who / 16 % 64 else 63 } 1 a data.length = none)
    ∧ (∃ (s : State) (who job a n b : Nat) (bus : Option BusErr), s.spiresRun = true ∧ s.neverIssued 0x200 0 a n = false ∧
        s.judge { agent := 0x200, dom := 0, epoch := s.carried job } 0 a n = some b)
    ∧ (∃ (s : State) (who job a b len : Nat) (data : List Byte) (bus : Option BusErr), s.spiresRun = true ∧ s.neverIssued
        0x200 1 a data.length = false ∧ s.judge { agent := 0x200, dom := 0, epoch := s.carried job } 1 a data.length = some
        b)
    ∧ (∃ (s : State) (agent who job type a n : Nat) (data : List Byte) (bus : Option BusErr), s.spiresRun = true ∧
        s.neverIssued agent type a (if type = 1 then data.length else n) = true)
    ∧ (∃ (s : State) (agent who job a n beat side : Nat) (bits : List Byte), s.spiresRun = true ∧ isFlash a = false ∧
        s.neverIssued agent 0 a n = false ∧ s.judge {
            agent := agent, dom := s.stamped agent who, epoch := s.carried job,
            sp := if agentClass agent = 3 then who / 16 % 64 else 63 } 0 a n = none ∧ busReceive (reqMsg {
            agent := agent, dom := s.stamped agent who, epoch := s.carried job,
            sp := if agentClass agent = 3 then who / 16 % 64 else 63 } 0 a n) bits = none)
    ∧ (∃ (s : State) (agent who job type a n cond : Nat) (data : List Byte) (e : BusErr), s.spiresRun = true)
    ∧ (∃ (s : State) (agent who job type a n cond : Nat) (data : List Byte), s.spiresRun = true) :=
  ⟨⟨wOn.set R.RST_CAUSE_POWER 1, 0xFF00000000, 1, false, [R.RST_CAUSE_POWER, R.RST_CAUSE_NRESET, R.RST_CAUSE_MGT,
      R.RST_CAUSE_FCU, R.RST_CAUSE_KEEP, R.RST_CAUSE_WATCHDOG, R.RST_CAUSE_BEDROCK], by decide +kernel⟩,
   ⟨wOn, 0xFF0008000C, 1, by decide +kernel⟩,
   ⟨wOn, 1023, 2 ^ 33 + 5, by decide +kernel⟩,
   ⟨wOn, 2, by decide +kernel⟩,
   ⟨wOn, 0, by decide +kernel⟩,
   ⟨wOn, 0x1FF, by decide +kernel⟩,
   ⟨wOn, 0x3FFFFF, by decide +kernel⟩,
   ⟨wOn, 0x1FFFFFF, by decide +kernel⟩,
   ⟨wOn, 2 ^ 63, by decide +kernel⟩,
   ⟨wOn.set R.JRN_STATUS_OPEN 1, 0xFF00180008, 5, by decide +kernel⟩,
   ⟨wOn, 2 ^ 32 - 1, by decide +kernel⟩,
   ⟨wOn, 2 ^ 32 - 1, by decide +kernel⟩,
   ⟨(wOn.set R.RST_CAUSE_POWER 1).set R.RST_CAUSE_WATCHDOG 1, 2 ^ 32 - 1, by decide +kernel⟩,
   ⟨wOn, 2 ^ 32 - 1, by decide +kernel⟩,
   ⟨wOn.setTmp { unlocked := true }, 2 ^ 32 - 1, by decide +kernel⟩,
   ⟨wRules, 0x200, 0, 0, 0xE000000000, 0, [1, 2], by decide +kernel⟩,
   ⟨wRules, 0x200, 0, 0, 0xE000000000, 2, by decide +kernel⟩,
   ⟨wOpen, 0x200, 0, 0, 64, 2, by decide +kernel⟩,
   ⟨wOpen, 0x200, 0, 0, 126, 2, by decide +kernel⟩,
   ⟨wOpen.set R.MEMC_UE_ADDR_VALID 1, 0x200, 0, 0, 64, 2, by decide +kernel⟩,
   ⟨wOpen, 0x200, 0, 0, 64, 2, by decide +kernel⟩,
   ⟨wOpen, 0x200, 0, 0, 64, 2, by decide +kernel⟩,
   ⟨wOpen, 0x200, 0, 0, 62, 0, [1, 2], by decide +kernel⟩,
   ⟨wOpen, 0x200, 0, 0, 64, 0, zeros 64, by decide +kernel⟩,
   ⟨wOpen, 0x200, 0, 0, 62, 0, [1, 2], by decide +kernel⟩,
   ⟨wOpen, 0x200, 0, 0, 0xF000000000, 0, [1, 2], by decide +kernel⟩,
   ⟨wOpen, 0x200, 0, 0, 0xF000000000, 2, by decide +kernel⟩,
   ⟨(wOpen.set R.FLC_CTRL_AUTOSUSP 0).setFlc { op := some { op := 2, addr := 0 } }, 0x200, 0, 0, 0xF000000000, 2,
       by decide +kernel⟩,
   ⟨wOpen, 0x200, 0, 0, 0xFF00000000, 4, by decide +kernel⟩,
   ⟨wOpen, 0x200, 0, 0, 0xFF0000F000, 4, by decide +kernel⟩,
   ⟨wOpen, 0x200, 0, 0, 0xFF00000000, 2, by decide +kernel⟩,
   ⟨wOpen, 0x200, 0, 0, 0xFF00000000, 0, [1, 0, 0, 0], by decide +kernel⟩,
   ⟨wOpen, 0x200, 0, 0, 0xFF00000000, 0, [1, 0], by decide +kernel⟩,
   ⟨wRules, 0, 0, 0xE000000FFF, 2, 0xE000001000, none, by decide +kernel⟩,
   ⟨wRules, 0, 0, 0xE000000FFF, 0xE000001000, 0, [1, 2], none, by decide +kernel⟩,
   ⟨wRules, 0x2A0, 3, 0, 2, 0, 4, [], none, by decide +kernel⟩,
   ⟨wRules, 0x200, 0, 0, 0xE000000000, 2, 0, 0x2D0, zeros 15 ++ [1],
       by decide +kernel, by decide +kernel, by decide +kernel, by decide +kernel, busReceive_code _ 1 (by decide)⟩,
   ⟨wRules, 0x2D0, 0, 0, 0, 0, 0, 0, [], ⟨0, 0, [1], 0x2D0⟩, by decide +kernel⟩,
   ⟨wRules, 0x2D0, 0, 0, 0, 0, 0, 0, [], by decide +kernel⟩⟩

/-- A state and operands for every clause of DdrLines. -/
theorem met_DdrLines :
    (∃ (s : State), s.spiresRun = true ∧ s.get R.MEMC_SCRUB_PERIOD ≠ 0 ∧ s.lineState (s.memc.scrub * 64) = 0 ∧ s.memc.scrub
        + 1 ≠ 0x80000000)
    ∧ (∃ (s : State), s.spiresRun = true ∧ s.get R.MEMC_SCRUB_PERIOD ≠ 0 ∧ s.lineState (s.memc.scrub * 64) = 0 ∧
        s.memc.scrub + 1 = 0x80000000)
    ∧ (∃ (s : State), s.spiresRun = true ∧ s.get R.MEMC_SCRUB_PERIOD ≠ 0 ∧ s.memc.scrub + 1 < 0x80000000)
    ∧ (∃ (s : State) (c : Nat), s.spiresRun = true ∧ c < 64 ∧ (s.memc.sweep.isSome = true ∨ s.get
        (R.MEMC_COLOUR_FENCE_DRAINED c) = 0) ∧ s.keepHalted = false)
    ∧ (∃ (s : State) (c : Nat), s.spiresRun = true ∧ c < 64 ∧ s.memc.sweep = none ∧ s.get (R.MEMC_COLOUR_FENCE_DRAINED c) =
        1 ∧ s.clearAllowed c = true ∧ s.keepHalted = false)
    ∧ (∃ (s : State), s.spiresRun = true ∧ s.memc.sweep = none ∧ s.get (R.MEMC_COLOUR_FENCE_DRAINED 0) = 1 ∧ s.keepHalted =
        false)
    ∧ (∃ (s : State) (c : Nat), s.spiresRun = true ∧ c < 64 ∧ s.memc.sweep = none ∧ s.get (R.MEMC_COLOUR_FENCE_DRAINED c) =
        1 ∧ s.keepHalted = false)
    ∧ (∃ (s : State) (c p : Nat), s.spiresRun = true ∧ s.memc.sweep = some { colour := c, reencrypt := false } ∧ s.get
        R.MEMC_STATUS_SWEEP = 1 ∧ s.get R.MEMC_RECOLOUR_PTR_LINE = p ∧ p < 0x80000000 ∧ (p + 1) % 0x8000 ≠ 0 ∧ ((∀ d < 64,
        s.domeSt d ≠ 1 ∧ s.domeSt d ≠ 3)))
    ∧ (∃ (s : State) (c p : Nat), s.spiresRun = true ∧ s.memc.sweep = some { colour := c, reencrypt := true } ∧ s.get
        R.MEMC_STATUS_SWEEP = 1 ∧ s.get R.MEMC_RECOLOUR_PTR_LINE = p ∧ p < 0x80000000 ∧ (p + 1) % 0x8000 ≠ 0 ∧ s.lineState
        (p * 64) = 0 ∧ ((∀ d < 64, s.domeSt d ≠ 1 ∧ s.domeSt d ≠ 3))) :=
  ⟨⟨wOn.set R.MEMC_SCRUB_PERIOD 1, by decide +kernel⟩,
   ⟨(wMemc { scrub := 0x7FFFFFFF }).set R.MEMC_SCRUB_PERIOD 1, by decide +kernel⟩,
   ⟨wOn.set R.MEMC_SCRUB_PERIOD 1, by decide +kernel⟩,
   ⟨wOn.set (R.MEMC_COLOUR_FENCE_DRAINED 63) 0, 63, by decide +kernel⟩,
   ⟨wOn.set (R.MEMC_COLOUR_FENCE_DRAINED 63) 1, 63, by decide +kernel⟩,
   ⟨wOn.set (R.MEMC_COLOUR_FENCE_DRAINED 0) 1, by decide +kernel⟩,
   ⟨wOn.set (R.MEMC_COLOUR_FENCE_DRAINED 0) 1, 0, by decide +kernel⟩,
   ⟨((wMemc { sweep := some { colour := 3, reencrypt := false } }).set R.MEMC_STATUS_SWEEP 1).set R.MEMC_RECOLOUR_PTR_LINE
       32766, 3, 32766, by decide +kernel⟩,
   ⟨((wMemc { sweep := some { colour := 3, reencrypt := true } }).set R.MEMC_STATUS_SWEEP 1).set R.MEMC_RECOLOUR_PTR_LINE
       32766, 3, 32766, by decide +kernel⟩⟩

/-- A state and operands for every clause of Translation. -/
theorem met_Translation :
    (∃ (s : State) (v : Nat), s.spiresRun = true ∧ v < 2 ^ 64 ∧ s.tentry (s.get R.MMU_TADDR_INDEX) % 4 ≠ 2 ∧ s.keepHalted =
        false)
    ∧ (∃ (s : State) (p ch : Nat) (d : MvDesc), s.spiresRun = true ∧ ch < 4 ∧ (s.mvOrder p)[ch]? = some d ∧ d.stop = false ∧
        s.mvLeaf d (d.va + d.done) = none ∧ d.statOk = false ∧ s.job d.job = none)
    ∧ (∃ (s : State) (p ch : Nat) (d : MvDesc) (j : Job) (c : Nat), s.spiresRun = true ∧ ch < 4 ∧ (s.mvOrder p)[ch]? = some
        d ∧ d.stop = false ∧ s.mvLeaf d (d.va + d.done) = none ∧ d.statOk = true ∧ (isDdr d.stat || isFlash d.stat || isReg
        d.stat || hitsInstr 1 d.stat 8) = false ∧ s.judge d.xfer 1 d.stat 8 = none ∧ s.bus.find? (fun e => e.1 == 0x210 +
        d.spire) = none ∧ s.job d.job = some j ∧ j.live = true ∧ j.core = some c)
    ∧ (∃ (s : State) (p ch : Nat) (d : MvDesc) (j : Job) (c : Nat) (l : Leaf), s.spiresRun = true ∧ ch < 4 ∧ (s.mvOrder
        p)[ch]? = some d ∧ d.stop = false ∧ s.mvLeaf d (d.va + d.done) = some l ∧ d.op ≠ 1 ∧ l.entry.testBit 2 = false ∧
        d.statOk = true ∧ (isDdr d.stat || isFlash d.stat || isReg d.stat || hitsInstr 1 d.stat 8) = false ∧ s.judge d.xfer
        1 d.stat 8 = none ∧ s.bus.find? (fun e => e.1 == 0x210 + d.spire) = none ∧ s.job d.job = some j ∧ j.live = true ∧
        j.core = some c)
    ∧ (∃ (s : State) (p ch : Nat) (d : MvDesc), s.spiresRun = true ∧ ch < 4 ∧ (s.mvOrder p)[ch]? = some d ∧ d.stop = true)
    ∧ (∃ (s : State) (p ch : Nat) (d : MvDesc) (l : Leaf) (j : Job), s.spiresRun = true ∧ ch < 4 ∧ (s.mvOrder p)[ch]? = some
        d ∧ d.stop = false ∧ s.mvLeaf d (d.va + d.done) = some l ∧ (d.op = 1 ∨ l.entry.testBit 2 = true) ∧ l.entry % 4 = 2 ∧
        s.job d.job = some j ∧ j.cls = 1)
    ∧ (∃ (s : State) (p ch : Nat) (d : MvDesc) (l : Leaf) (j : Job), s.spiresRun = true ∧ ch < 4 ∧ (s.mvOrder p)[ch]? = some
        d ∧ d.stop = false ∧ s.mvLeaf d (d.va + d.done) = some l ∧ (d.op = 1 ∨ l.entry.testBit 2 = true) ∧ l.entry % 4 = 2 ∧
        s.job d.job = some j ∧ j.cls = 0)
    ∧ (∃ (s : State) (p ch : Nat) (d : MvDesc) (j : Job) (c : Nat) (l : Leaf), s.spiresRun = true ∧ ch < 4 ∧ (s.mvOrder
        p)[ch]? = some d ∧ d.stop = false ∧ d.op = 3 ∧ s.mvLeaf d (d.va + d.done) = some l ∧ l.entry % 8 = 5 ∧ l.big = false
        ∧ isDdr (bitsOf l.entry 16 24 * 65536 + (d.va + d.done) % 65536) = true ∧ (d.va + d.done) % 64 = 0 ∧ s.judge d.xfer
        1 (bitsOf l.entry 16 24 * 65536 + (d.va + d.done) % 65536) 64 = none ∧ d.code = 0 ∧ d.len ≤ d.done + 64 ∧ d.statOk =
        true ∧ (isDdr d.stat || isFlash d.stat || isReg d.stat || hitsInstr 1 d.stat 8) = false ∧ s.judge d.xfer 1 d.stat 8
        = none ∧ s.bus.find? (fun e => e.1 == 0x210 + d.spire) = none ∧ s.job d.job = some j ∧ j.live = true ∧ j.core = some
        c)
    ∧ (∃ (s : State) (p ch : Nat) (d : MvDesc) (l : Leaf), s.spiresRun = true ∧ ch < 4 ∧ (s.mvOrder p)[ch]? = some d ∧
        d.stop = false ∧ d.op = 2 ∧ s.mvLeaf d (d.va + d.done) = some l ∧ l.entry % 8 = 5 ∧ l.big = false ∧ isDdr (bitsOf
        l.entry 16 24 * 65536 + (d.va + d.done) % 65536) = true ∧ (d.va + d.done) % 64 = 0 ∧ (isDdr (d.loc + d.done) ||
        isFlash (d.loc + d.done) || isReg (d.loc + d.done)) = false ∧ s.judge d.xfer 0 (d.loc + d.done) 64 = none ∧ s.judge
        d.xfer 1 (bitsOf l.entry 16 24 * 65536 + (d.va + d.done) % 65536) 64 = none ∧ s.bus.find? (fun e => e.1 == 0x210 +
        d.spire) = none ∧ d.done + 64 < d.len)
    ∧ (∃ (s : State) (p ch : Nat) (d : MvDesc) (l : Leaf), s.spiresRun = true ∧ ch < 4 ∧ (s.mvOrder p)[ch]? = some d ∧
        d.stop = false ∧ d.op = 1 ∧ s.mvLeaf d (d.va + d.done) = some l ∧ l.entry % 4 = 1 ∧ l.big = false ∧ isDdr (bitsOf
        l.entry 16 24 * 65536 + (d.va + d.done) % 65536) = true ∧ (d.va + d.done) % 64 = 0 ∧ (isDdr (d.loc + d.done) ||
        isFlash (d.loc + d.done) || isReg (d.loc + d.done) || hitsInstr 1 (d.loc + d.done) 64) = false ∧ s.judge d.xfer 0
        (bitsOf l.entry 16 24 * 65536 + (d.va + d.done) % 65536) 64 = none ∧ s.judge d.xfer 1 (d.loc + d.done) 64 = none ∧
        s.bus.find? (fun e => e.1 == 0x210 + d.spire) = none ∧ d.done + 64 < d.len)
    ∧ (∃ (s : State) (p ch : Nat) (d : MvDesc) (l : Leaf), s.spiresRun = true ∧ ch < 4 ∧ (s.mvOrder p)[ch]? = some d ∧
        d.stop = false ∧ d.op = 3 ∧ s.mvLeaf d (d.va + d.done) = some l ∧ l.entry % 8 = 5 ∧ l.big = false ∧ isDdr (bitsOf
        l.entry 16 24 * 65536 + (d.va + d.done) % 65536) = true ∧ (d.va + d.done) % 64 = 0 ∧ s.judge d.xfer 1 (bitsOf
        l.entry 16 24 * 65536 + (d.va + d.done) % 65536) 64 = none ∧ s.bus.find? (fun e => e.1 == 0x210 + d.spire) = none ∧
        d.done + 64 < d.len)
    ∧ (∃ (s : State) (q : Nat × Nat) (qs : List (Nat × Nat)), s.spiresRun = true ∧ s.mmu.wait = q :: qs ∧ s.mmu.req.length <
        4096)
    ∧ (∃ (s : State) (q : Nat × Nat) (qs : List (Nat × Nat)), s.spiresRun = true ∧ s.mmu.req = q :: qs ∧ qs.length < 4096 ∧
        s.keepHalted = false)
    ∧ (∃ (s : State) (p n : Nat) (d : MvDesc) (l : Leaf), s.spiresRun = true ∧ (s.mover.filter (fun (d : MvDesc) => d.spire
        == p && d.faulted))[n]? = some d ∧ s.lookup d.dome (d.va + d.done) = some l)
    ∧ (∃ (s : State), s.spiresRun = true ∧ (s.region (s.get R.MMU_RGN_SEL_DOME) (s.get R.MMU_RGN_SEL_REGION)).isSome = true
        ∧ s.keepHalted = false)
    ∧ (∃ (s : State) (d r : Nat), s.spiresRun = true ∧ d < 64 ∧ r < 64 ∧ s.deepEntry = false ∧ tabFind s.mmu.lanes 0 = none
        ∧ s.keepHalted = false)
    ∧ (∃ (s : State) (d r : Nat), s.spiresRun = true ∧ d < 64 ∧ r < 64 ∧ s.deepEntry = true ∧ s.keepHalted = false)
    ∧ (∃ (s : State) (d r : Nat), s.spiresRun = true ∧ d < 64 ∧ r < 64 ∧ (tabFind s.mmu.lanes 0).isSome = true ∧ (tabFind
        s.mmu.lanes 1).isSome = true ∧ s.keepHalted = false)
    ∧ (∃ (s : State) (d r : Nat), s.spiresRun = true ∧ d < 64 ∧ r < 64 ∧ s.deepEntry = false ∧ (tabFind s.mmu.lanes
        0).isSome = true ∧ tabFind s.mmu.lanes 1 = none ∧ s.keepHalted = false)
    ∧ (∃ (s : State) (lane : Nat) (x : Restore), s.spiresRun = true ∧ tabFind s.mmu.lanes lane = some x ∧ s.get
        R.RST_ROOT_SRK_VALID = 0)
    ∧ (∃ (s : State) (lane : Nat) (x : Restore) (decl chunk : List Byte) (u : State), s.spiresRun = true ∧ tabFind
        s.mmu.lanes lane = some x ∧ s.get R.RST_ROOT_SRK_VALID = 1 ∧ s.region x.dome x.region = some decl ∧ s.openDdr x.src
        65616 = true ∧ (s.restoreFree lane).restoreChunk x = (chunk, u) ∧ chunkFormat decl (chunk.take 64) = true ∧ (fld
        decl 0x10 8) % 64 = 0 ∧ fld decl 0x10 8 + 65536 * fld chunk 0x0C 4 + 65536 ≤ 0x2000000000 ∧ s.get
        R.MMU_RST_DONE_COUNT < 2 ^ 64 - 1)
    ∧ (∃ (s : State) (lane : Nat) (x : Restore), s.spiresRun = true ∧ tabFind s.mmu.lanes lane = some x ∧ s.get
        R.RST_ROOT_SRK_VALID = 1 ∧ s.region x.dome x.region = none) :=
  ⟨⟨wOn.set R.MMU_TADDR_INDEX 7, 2 ^ 64 - 1, by decide +kernel⟩,
   ⟨{ wOn with mover := [wMv] }, 0, 0, wMv, by decide +kernel⟩,
   ⟨wMv1, 0, 0, wMvS, { wJob with id := 7, tickets := [(1, 0)] }, 0, by decide +kernel⟩,
   ⟨wMvAt 3 0x30001, 0, 0, { wMvS with op := 3 }, { wJob with id := 7, tickets := [(1, 0)] }, 0,
       { idx := 1536, entry := 0x30001, big := false }, by decide +kernel⟩,
   ⟨{ wOn with mover := [{ wMv with stop := true }] }, 0, 0, { wMv with stop := true }, by decide +kernel⟩,
   ⟨(wMvAt 1 2).updJob 7 (fun j => { j with cls := 1 }), 0, 0, { wMvS with op := 1 },
       { idx := 1536, entry := 2, big := false }, { wJob with id := 7, cls := 1, tickets := [(1, 0)] }, by decide +kernel⟩,
   ⟨wMvAt 1 2, 0, 0, { wMvS with op := 1 }, { idx := 1536, entry := 2, big := false },
       { wJob with id := 7, tickets := [(1, 0)] }, by decide +kernel⟩,
   ⟨(wMvAt 3 0x30005), 0, 0, { wMvS with op := 3 }, { wJob with id := 7, tickets := [(1, 0)] }, 0,
       { idx := 1536, entry := 0x30005, big := false }, by decide +kernel⟩,
   ⟨wMvCopy 2, 0, 0, { wMvS with op := 2, len := 128 }, { idx := 1536, entry := 0x30005, big := false }, by decide +kernel⟩,
   ⟨wMvCopy 1, 0, 0, { wMvS with op := 1, len := 128 }, { idx := 1536, entry := 0x30005, big := false }, by decide +kernel⟩,
   ⟨wMover, 0, 0, { wMv with op := 3, len := 128, va := 64 }, { idx := 1536, entry := 5 + 0x10000 * 3, big := false },
       by decide +kernel⟩,
   ⟨{ wOn with mmu := { wait := [(2, 65536)] } }, (2, 65536), [], by decide +kernel⟩,
   ⟨{ wOn with mmu := { req := [(2, 65536)] } }, (2, 65536), [], by decide +kernel⟩,
   ⟨{ wMover with mover := [{ wMv with faulted := true }] }, 0, 0, { wMv with faulted := true },
       { idx := 1536, entry := 5 + 0x10000 * 3, big := false }, by decide +kernel⟩,
   ⟨((wOn.setDome 2 { content := some { regions := [zeros 64] } }).set R.MMU_RGN_SEL_DOME 2).set R.MMU_RGN_SEL_REGION 0,
       by decide +kernel⟩,
   ⟨wOn, 63, 63, by decide +kernel⟩,
   ⟨{ wOn with pwr := { wOn.pwr with seq := .deep 1 } }, 63, 63, by decide +kernel⟩,
   ⟨{ wOn with
           mmu := { lanes := [(0, { dome := 1, region := 0, src := 0 }), (1, { dome := 1, region := 1, src := 0 })] } }, 63,
       63, by decide +kernel⟩,
   ⟨{ wOn with mmu := { lanes := [(0, { dome := 1, region := 0, src := 0 })] } }, 63, 63, by decide +kernel⟩,
   ⟨{ wOn with mmu := { lanes := [(0, { dome := 1, region := 0, src := 0 })] } }, 0, { dome := 1, region := 0, src := 0 },
       by decide +kernel⟩,
   ⟨wChunk, 0, wRst, wDecl, wChunk.bytes 0x100000 65616, (wChunk.restoreFree 0).memAgent.2, wChunk_meets⟩,
   ⟨{ wOn.set R.RST_ROOT_SRK_VALID 1 with mmu := { lanes := [(0, { dome := 1, region := 0, src := 0 })] } }, 0,
       { dome := 1, region := 0, src := 0 }, by decide +kernel⟩⟩

/-- A state and operands for every clause of AccessRules. -/
theorem met_AccessRules :
    (∃ (s : State), s.spiresRun = true ∧ s.get R.ART_FENCE_DRAINED = 1 ∧ s.get R.ART_STATUS_STB_HOLD = 0 ∧ s.get
        R.ART_STATUS_BOOTSET = 0 ∧ s.get R.ART_STATUS_COPYING = 0 ∧ s.keepHalted = false)
    ∧ (∃ (s : State), s.spiresRun = true ∧ (s.get R.ART_FENCE_DRAINED = 0 ∨ s.get R.ART_STATUS_STB_HOLD = 1 ∨ s.get
        R.ART_STATUS_BOOTSET = 1 ∨ s.get R.ART_STATUS_COPYING = 1) ∧ s.keepHalted = false)
    ∧ (∃ (s : State), s.spiresRun = true ∧ s.get R.ART_STATUS_COPYING = 1)
    ∧ (∃ (s : State) (v : Nat), s.spiresRun = true ∧ v < 2 ^ 64 ∧ s.get R.ART_STATUS_OWNED = 1 ∧ s.keepHalted = false)
    ∧ (∃ (s : State) (which v : Nat), s.spiresRun = true ∧ which < 6 ∧ s.get R.ART_STATUS_OWNED = 0)
    ∧ (∃ (s : State), s.spiresRun = true ∧ s.get R.ART_STATUS_OWNED = 1 ∧ s.get R.ART_STATUS_COPYING = 0 ∧ s.get
        R.ART_STATUS_STB_HOLD = 0 ∧ s.get R.ART_STATUS_BOOTSET = 0 ∧ s.keepHalted = false)
    ∧ (∃ (s : State), s.spiresRun = true ∧ s.get R.ART_FENCE_DRAINED = 0 ∧ s.artEpochFree (s.get R.ART_EPOCH_DRAINING) =
        true) :=
  ⟨⟨wRules, by decide +kernel⟩,
   ⟨wRules.set R.ART_STATUS_COPYING 1, by decide +kernel⟩,
   ⟨wRules.set R.ART_STATUS_COPYING 1, by decide +kernel⟩,
   ⟨wRules.set R.ART_STATUS_OWNED 1, 2 ^ 64 - 1, by decide +kernel⟩,
   ⟨wRules, 5, 1, by decide +kernel⟩,
   ⟨wRules.set R.ART_STATUS_OWNED 1, by decide +kernel⟩,
   ⟨wRules.set R.ART_FENCE_DRAINED 0, by decide +kernel⟩⟩

/-- A state and operands for every clause of FaultCollection. -/
theorem met_FaultCollection :
    (∃ (s : State) (m : FaultMsg), s.spiresRun = true ∧ m ∈ s.faultQ ∧ ((∀ x ∈ s.faultQ, x = m ∨ m.before x = true)) ∧
        m.source < 5 ∧ m.dome < 64 ∧ s.faultClass m.source < 4 ∧ s.pairSt m.dome (s.faultClass m.source) = 0)
    ∧ (∃ (s : State) (d k : Nat), s.spiresRun = true ∧ d < 64 ∧ k < 4 ∧ s.pairSt d k = 1 ∧ ((s.get (R.FCU_GRACE_US k) * 1000
        : Nat) : Rat) + s.pwr.edge ≤ s.pairRun d k ∧ s.ladderCode k (s.get (R.FCU_DC_STATE_STEP d k)) = 0)
    ∧ (∃ (s : State) (d k : Nat), s.spiresRun = true ∧ d < 64 ∧ k < 4 ∧ s.pairSt d k = 1 ∧ ((s.get (R.FCU_GRACE_US k) * 1000
        : Nat) : Rat) + s.pwr.edge ≤ s.pairRun d k ∧ s.ladderCode k (s.get (R.FCU_DC_STATE_STEP d k)) = 5 ∧ s.get
        (R.FCU_DC_STATE_STEP d k) < 4)
    ∧ (∃ (s : State) (d k : Nat), s.spiresRun = true ∧ d < 64 ∧ k < 4 ∧ s.pairSt d k = 1 ∧ ((s.get (R.FCU_GRACE_US k) * 1000
        : Nat) : Rat) + s.pwr.edge ≤ s.pairRun d k ∧ s.get (R.FCU_DC_STATE_STEP d k) < 4 ∧ s.ladderCode k (s.get
        (R.FCU_DC_STATE_STEP d k)) = 1 ∧ s.pwr.seq ≠ .toReset ∧ (d ≠ 0 ∧ (s.domeSt d = 2 ∨ s.domeSt d = 3) ∧ s.stoppedNow d
        true = false ∧ s.domeApp d = none) ∧ (s.jsc.jobs.map (·.id)).Nodup)
    ∧ (∃ (s : State) (d k : Nat), s.spiresRun = true ∧ d < 64 ∧ k < 4 ∧ s.pairSt d k = 1 ∧ ((s.get (R.FCU_GRACE_US k) * 1000
        : Nat) : Rat) + s.pwr.edge ≤ s.pairRun d k ∧ s.get (R.FCU_DC_STATE_STEP d k) < 4 ∧ s.ladderCode k (s.get
        (R.FCU_DC_STATE_STEP d k)) = 2 ∧ s.pwr.seq ≠ .toReset ∧ (d ≠ 0 ∧ (s.domeSt d = 2 ∨ s.domeSt d = 3) ∧ s.domeApp d =
        none) ∧ s.jsc.jobs = [] ∧ s.mover = [] ∧ s.cmds = [])
    ∧ (∃ (s : State) (d k : Nat), s.spiresRun = true ∧ d < 64 ∧ k < 4 ∧ s.pairSt d k = 1 ∧ ((s.get (R.FCU_GRACE_US k) * 1000
        : Nat) : Rat) + s.pwr.edge ≤ s.pairRun d k ∧ s.get (R.FCU_DC_STATE_STEP d k) < 4 ∧ s.ladderCode k (s.get
        (R.FCU_DC_STATE_STEP d k)) = 2 ∧ s.pwr.seq ≠ .toReset ∧ (d ≠ 0 ∧ (s.domeSt d = 2 ∨ s.domeSt d = 3) ∧ s.domeApp d =
        none) ∧ s.mover.any (fun m => m.dome == d) = true ∧ (s.jsc.jobs.map (·.id)).Nodup)
    ∧ (∃ (s : State) (d k p : Nat), s.spiresRun = true ∧ d < 64 ∧ k < 4 ∧ s.pairSt d k = 1 ∧ ((s.get (R.FCU_GRACE_US k) *
        1000 : Nat) : Rat) + s.pwr.edge ≤ s.pairRun d k ∧ s.get (R.FCU_DC_STATE_STEP d k) < 4 ∧ s.ladderCode k (s.get
        (R.FCU_DC_STATE_STEP d k)) = 3 ∧ s.pwr.seq ≠ .toReset ∧ d ≠ 0 ∧ p = s.get (R.FCU_DC_STATE_TRIGGER d k) ∧ p < 32 ∧
        s.get (R.FCU_RETIRED_RETIRED p) = 0 ∧ (s.jsc.jobs.map (·.id)).Nodup)
    ∧ (∃ (s : State) (d k : Nat), s.spiresRun = true ∧ d < 64 ∧ k < 4 ∧ s.pairSt d k = 1 ∧ ((s.get (R.FCU_GRACE_US k) * 1000
        : Nat) : Rat) + s.pwr.edge ≤ s.pairRun d k ∧ s.get (R.FCU_DC_STATE_STEP d k) < 4 ∧ s.ladderCode k (s.get
        (R.FCU_DC_STATE_STEP d k)) = 4 ∧ s.pwr.seq = .none ∧ s.jsc.jobs = [] ∧ s.net.tx = [] ∧ s.get R.JRN_STATUS_OPEN = 0)
    ∧ (∃ (s : State) (d k code : Nat), s.spiresRun = true ∧ d < 64 ∧ k < 4 ∧ s.pairSt d k = 1 ∧ ((s.get (R.FCU_GRACE_US k) *
        1000 : Nat) : Rat) + s.pwr.edge ≤ s.pairRun d k ∧ s.get (R.FCU_DC_STATE_STEP d k) < 4 ∧ s.ladderCode k (s.get
        (R.FCU_DC_STATE_STEP d k)) = code ∧ (1 ≤ code ∧ code ≤ 3 ∧ (s.pwr.seq = .toReset ∨ d = 0)))
    ∧ (∃ (s : State) (d k : Nat), s.spiresRun = true ∧ d < 64 ∧ k < 4 ∧ s.pairSt d k = 2 ∧ ((s.get (R.FCU_QUIET_MS k) *
        1000000 : Nat) : Rat) + s.pwr.edge ≤ s.pairRun d k)
    ∧ (∃ (s : State) (d k : Nat), s.spiresRun = true ∧ d < 64 ∧ k < 4 ∧ s.pairSt d k = 1 ∧ s.keepHalted = false)
    ∧ (∃ (s : State) (p : Nat), s.spiresRun = true ∧ p < 32 ∧ s.get (R.FCU_RETIRED_RETIRED p) = 0 ∧ (s.jsc.jobs.map
        (·.id)).Nodup ∧ s.keepHalted = false)
    ∧ (∃ (s : State) (p d : Nat) (c : Content), s.spiresRun = true ∧ p < 32 ∧ s.get (R.FCU_RETIRED_RETIRED p) = 0 ∧
        (s.spireDome p = some d ∧ d ≠ 0 ∧ (s.domeSt d = 2 ∨ s.domeSt d = 3) ∧ s.domeApp d = none ∧ s.stoppedNow d true =
        false) ∧ (s.dome d).content = some c ∧ s.usedSpires c = [p] ∧ (s.jsc.jobs.map (·.id)).Nodup ∧ s.keepHalted = false)
    ∧ (∃ (s : State) (p : Nat), s.spiresRun = true ∧ p < 32 ∧ s.get (R.FCU_RETIRED_RETIRED p) = 0 ∧ s.jsc.jobs = [] ∧
        s.domes = [] ∧ s.keepHalted = false) :=
  ⟨⟨{ wOn with
          faultQ := [{ source := 2, agent := 9, dome := 2, addr := 1, spire := 0 }, { source := 1, agent := 0, dome := 2, addr := 1, spire := 0 }] },
      { source := 1, agent := 0, dome := 2, addr := 1, spire := 0 }, by decide +kernel⟩,
   ⟨{ (((wOn.set (R.FCU_DC_STATE_STATE 2 1) 1).set (R.FCU_GRACE_US 1) 0).set (R.FCU_DC_STATE_STEP 2 1) 4) with
           fcu := [(9, -1)] }, 2, 1, by decide +kernel⟩,
   ⟨{ (((wOn.set (R.FCU_DC_STATE_STATE 2 1) 1).set (R.FCU_GRACE_US 1) 0).set (R.FCU_LADDER_STEPS 1) 5) with
           fcu := [(9, -1)] }, 2, 1, by decide +kernel⟩,
   ⟨wLadder 1 2, 2, 1, by decide +kernel⟩,
   ⟨(wLadder 2 2).setJsc {}, 2, 1, by decide +kernel⟩,
   ⟨{ wLadder 2 2 with mover := [wMv] }, 2, 1, by decide +kernel⟩,
   ⟨wLadder 3 2, 2, 1, 0, by decide +kernel⟩,
   ⟨(wLadder 4 2).setJsc {}, 2, 1, by decide +kernel⟩,
   ⟨(wLadder 1 2).setPwr { wOn.pwr with seq := .toReset }, 2, 1, 1, by decide +kernel⟩,
   ⟨{ ((wOn.set (R.FCU_DC_STATE_STATE 2 1) 2).set (R.FCU_QUIET_MS 1) 0) with fcu := [(9, -1)] }, 2, 1, by decide +kernel⟩,
   ⟨wOn.set (R.FCU_DC_STATE_STATE 2 1) 1, 2, 1, by decide +kernel⟩,
   ⟨wLadder 3 2, 0, by decide +kernel⟩,
   ⟨wLadder 3 2, 0, 2, { spiresUsed := 1 }, by decide +kernel⟩,
   ⟨wOn, 31, by decide +kernel⟩⟩

/-- A state and operands for every clause of SymmetricCommands. -/
theorem met_SymmetricCommands :
    (∃ (s : State) (e : Nat) (c : Cmd) (d : SymD), s.spiresRun = true ∧ s.symReady e (.ecb false) c d ∧ algTdes (s.keyAt c
        d.key0).mat.alg = false)
    ∧ (∃ (s : State) (e : Nat) (c : Cmd) (d : SymD), s.spiresRun = true ∧ s.symReady e (.ecb true) c d ∧ algTdes (s.keyAt c
        d.key0).mat.alg = false)
    ∧ (∃ (s : State) (e : Nat) (c : Cmd) (d : SymD), s.spiresRun = true ∧ s.symReady e (.cbc false) c d ∧ algTdes (s.keyAt c
        d.key0).mat.alg = false)
    ∧ (∃ (s : State) (e : Nat) (c : Cmd) (d : SymD), s.spiresRun = true ∧ s.symReady e (.cbc true) c d ∧ algTdes (s.keyAt c
        d.key0).mat.alg = false)
    ∧ (∃ (s : State) (e : Nat) (c : Cmd) (d : SymD), s.spiresRun = true ∧ s.symReady e .ctr c d ∧ algTdes (s.keyAt c
        d.key0).mat.alg = false)
    ∧ (∃ (s : State) (e : Nat) (c : Cmd) (d : SymD), s.spiresRun = true ∧ s.symReady e (.gcm false) c d ∧ algTdes (s.keyAt c
        d.key0).mat.alg = false)
    ∧ (∃ (s : State) (e : Nat) (c : Cmd) (d : SymD), s.spiresRun = true ∧ s.symReady e (.gcm true) c d ∧ algTdes (s.keyAt c
        d.key0).mat.alg = false)
    ∧ (∃ (s : State) (e : Nat) (c : Cmd) (d : SymD), s.spiresRun = true ∧ s.symReady e (.cmac false) c d)
    ∧ (∃ (s : State) (e : Nat) (c : Cmd) (d : SymD), s.spiresRun = true ∧ s.symReady e (.cmac true) c d)
    ∧ (∃ (s : State) (e : Nat) (c : Cmd) (d : SymD), s.spiresRun = true ∧ s.symReady e (.tecb false) c d ∧ algTdes (s.keyAt
        c d.key0).mat.alg = true)
    ∧ (∃ (s : State) (e : Nat) (c : Cmd) (d : SymD), s.spiresRun = true ∧ s.symReady e (.tecb true) c d ∧ algTdes (s.keyAt c
        d.key0).mat.alg = true)
    ∧ (∃ (s : State) (e : Nat) (c : Cmd) (d : SymD), s.spiresRun = true ∧ s.symReady e (.tcbc false) c d ∧ algTdes (s.keyAt
        c d.key0).mat.alg = true)
    ∧ (∃ (s : State) (e : Nat) (c : Cmd) (d : SymD), s.spiresRun = true ∧ s.symReady e (.tcbc true) c d ∧ algTdes (s.keyAt c
        d.key0).mat.alg = true)
    ∧ (∃ (s : State) (e : Nat) (c : Cmd) (d : SymD), s.spiresRun = true ∧ s.symReady e (.tmac false) c d ∧ algTdes (s.keyAt
        c d.key0).mat.alg = true)
    ∧ (∃ (s : State) (e : Nat) (c : Cmd) (d : SymD), s.spiresRun = true ∧ s.symReady e (.tmac true) c d ∧ algTdes (s.keyAt c
        d.key0).mat.alg = true) :=
  ⟨⟨wSym 1 3, 31, wSymC 1, wSymD (.ecb false), by decide +kernel⟩,
   ⟨wSym 2 3, 31, wSymC 2, wSymD (.ecb true), by decide +kernel⟩,
   ⟨wSym 3 3, 31, wSymC 3, wSymD (.cbc false), by decide +kernel⟩,
   ⟨wSym 4 3, 31, wSymC 4, wSymD (.cbc true), by decide +kernel⟩,
   ⟨wSym 5 3, 31, wSymC 5, wSymD .ctr, by decide +kernel⟩,
   ⟨wSym 6 3, 31, wSymC 6, wSymD (.gcm false), by decide +kernel⟩,
   ⟨wSym 7 3, 31, wSymC 7, wSymD (.gcm true), by decide +kernel⟩,
   ⟨wSym 8 3, 31, wSymC 8, wSymD (.cmac false), by decide +kernel⟩,
   ⟨wSym 9 3, 31, wSymC 9, wSymD (.cmac true), by decide +kernel⟩,
   ⟨wSym 0x10 4, 31, wSymC 0x10, wSymD (.tecb false), by decide +kernel⟩,
   ⟨wSym 0x11 4, 31, wSymC 0x11, wSymD (.tecb true), by decide +kernel⟩,
   ⟨wSym 0x12 4, 31, wSymC 0x12, wSymD (.tcbc false), by decide +kernel⟩,
   ⟨wSym 0x13 4, 31, wSymC 0x13, wSymD (.tcbc true), by decide +kernel⟩,
   ⟨wSym 0x14 4, 31, wSymC 0x14, wSymD (.tmac false), by decide +kernel⟩,
   ⟨wSym 0x15 4, 31, wSymC 0x15, wSymD (.tmac true), by decide +kernel⟩⟩

/-- A state and operands for every clause of PaymentCommands. -/
theorem met_PaymentCommands :
    (∃ (s : State) (e : Nat) (c : Cmd) (d : SymD), s.spiresRun = true ∧ s.symReady e (.ff1 false) c d ∧ (s.opnd c e d.inA
        d.inRead).1.all (fun b => decide (b.toNat < 10)) = true)
    ∧ (∃ (s : State) (e : Nat) (c : Cmd) (d : SymD), s.spiresRun = true ∧ s.symReady e (.ff1 true) c d ∧ (s.opnd c e d.inA
        d.inRead).1.all (fun b => decide (b.toNat < 10)) = true)
    ∧ (∃ (s : State) (e : Nat) (c : Cmd) (d : SymD), s.spiresRun = true ∧ s.symReady e .pinTranslate c d)
    ∧ (∃ (s : State) (e : Nat) (c : Cmd) (d : SymD), s.spiresRun = true ∧ s.symReady e .pvfVerify c d)
    ∧ (∃ (s : State) (e : Nat) (c : Cmd) (d : SymD), s.spiresRun = true ∧ s.symReady e .pvfGenerate c d)
    ∧ (∃ (s : State) (e : Nat) (c : Cmd) (d : SymD), s.spiresRun = true ∧ s.symReady e .arqcVerify c d)
    ∧ (∃ (s : State) (e : Nat) (c : Cmd) (d : SymD), s.spiresRun = true ∧ s.symReady e .arpcGenerate c d)
    ∧ (∃ (s : State) (e : Nat) (c : Cmd) (d : SymD), s.spiresRun = true ∧ s.symReady e .dukptPin c d ∧ ksnOk (d.param.take
        12) = false)
    ∧ (∃ (s : State) (e : Nat) (c : Cmd) (d : SymD), s.spiresRun = true ∧ s.symReady e .dukptPin c d ∧ ksnOk (d.param.take
        12) = true)
    ∧ (∃ (s : State) (e : Nat) (c : Cmd) (d : SymD), s.spiresRun = true ∧ s.symReady e .dukptMac c d)
    ∧ (∃ (s : State) (e : Nat) (c : Cmd) (d : SymD), s.spiresRun = true ∧ s.symReady e .dukptDec c d)
    ∧ (∃ (s : State) (e : Nat) (c : Cmd) (d : SymD), s.spiresRun = true ∧ s.symReady e .kbImport c d)
    ∧ (∃ (s : State) (e : Nat) (c : Cmd) (d : SymD) (u : List Byte) (l m : Byte), s.spiresRun = true ∧ s.symReady e
        .kbExport c d ∧ kbRow (s.keyAt c d.key0).mat.alg (s.keyAt c d.key0).mat.usage = some (u, l, m) ∧ kbPad (s.keyAt c
        d.key0).mat.key.length ≤ (tabGet [] s.pools.symRes e).length) :=
  ⟨⟨wSym 0x18 3, 31, wSymC 0x18, wSymD (.ff1 false), by decide +kernel⟩,
   ⟨wSym 0x19 3, 31, wSymC 0x19, wSymD (.ff1 true), by decide +kernel⟩,
   ⟨wSym 0x20 4, 31, wSymC 0x20, wSymD .pinTranslate, by decide +kernel⟩,
   ⟨wSym 0x21 3, 31, wSymC 0x21, wSymD .pvfVerify, by decide +kernel⟩,
   ⟨wSym 0x22 3, 31, wSymC 0x22, wSymD .pvfGenerate, by decide +kernel⟩,
   ⟨wSym 0x28 3, 31, wSymC 0x28, wSymD .arqcVerify, by decide +kernel⟩,
   ⟨wSym 0x29 3, 31, wSymC 0x29, wSymD .arpcGenerate, by decide +kernel⟩,
   ⟨wSym 0x30 3, 31, wSymC 0x30, wSymD .dukptPin, by decide +kernel⟩,
   ⟨{ wOn with key := wKeys 1 0, cmds := [wDukC] }, 31, wDukC, wDukD, by decide +kernel⟩,
   ⟨wSym 0x31 3, 31, wSymC 0x31, wSymD .dukptMac, by decide +kernel⟩,
   ⟨wSym 0x32 3, 31, wSymC 0x32, wSymD .dukptDec, by decide +kernel⟩,
   ⟨wSym 0x38 3, 31, wSymC 0x38, wSymD .kbImport, by decide +kernel⟩,
   ⟨wSym 0x39 3, 31, wSymC 0x39, wSymD .kbExport, [0x4B, 0x30], 0x41, 0x42, by decide +kernel⟩⟩

/-- A state and operands for every clause of PoolSchedule. -/
theorem met_PoolSchedule :
    (∃ (s : State) (pool e : Nat) (c : Cmd), s.spiresRun = true ∧ pool < 2 ∧ e < 32 ∧ s.onEngine pool e = none ∧ s.inBank
        pool e = none ∧ earliest (s.waiting pool) = some c ∧ s.poolCheck c = none)
    ∧ (∃ (s : State) (pool e : Nat) (c : Cmd) (code addr : Nat), s.spiresRun = true ∧ pool < 2 ∧ e < 32 ∧ s.onEngine pool e
        = none ∧ s.inBank pool e = none ∧ earliest (s.waiting pool) = some c ∧ s.poolCheck c = some (code, addr))
    ∧ (∃ (s : State) (pool e : Nat) (c : Cmd), s.spiresRun = true ∧ pool < 2 ∧ e < 32 ∧ s.onEngine pool e = none ∧ s.inBank
        pool e = some c ∧ s.promisedWaits pool = false)
    ∧ (∃ (s : State) (pool e : Nat) (c : Cmd), s.spiresRun = true ∧ s.onEngine pool e = some c)
    ∧ (∃ (s : State) (pool e : Nat) (c : Cmd) (b : Cmd), s.spiresRun = true ∧ pool < 2 ∧ e < 32 ∧ s.yielder pool = some e ∧
        s.onEngine pool e = some b ∧ earliest (s.waiting pool) = some c ∧ (s.putCmd { b with st := .suspended e }).poolCheck
        c = none)
    ∧ (∃ (s : State) (pool e : Nat) (c : Cmd), s.spiresRun = true ∧ pool < 2 ∧ e < 32 ∧ s.yielder pool ≠ some e)
    ∧ (∃ (s : State) (pool e : Nat) (c : Cmd) (code : Nat), s.spiresRun = true ∧ s.onEngine 0 e = some c ∧ c.code = some
        code ∧ c.statusOk = true ∧ code ≠ 0x0420 ∧ c.unit = false)
    ∧ (∃ (s : State) (pool e : Nat) (c : Cmd), s.spiresRun = true ∧ s.onEngine 0 e = some c ∧ c.code = some 0x0420 ∧
        c.statusOk = true ∧ c.unit = false)
    ∧ (∃ (s : State) (pool e : Nat) (c : Cmd) (code : Nat), s.spiresRun = true ∧ s.onEngine 0 e = some c ∧ c.code = some
        code ∧ c.statusOk = false ∧ code ≠ 0x0420 ∧ c.unit = false)
    ∧ (∃ (s : State) (pool e : Nat) (c : Cmd) (code : Nat), s.spiresRun = true ∧ s.onEngine 1 e = some c ∧ c.code = some
        code ∧ c.statusOk = true ∧ code ≠ 0x0420 ∧ c.unit = false) :=
  ⟨⟨wQueue 0x01, 1, 3, { wDigC 0x01 with st := .waiting, checked := false }, by decide +kernel⟩,
   ⟨wQueue 0x09, 1, 3, { wDigC 0x09 with st := .waiting, checked := false }, 0x0401, 0, by decide +kernel⟩,
   ⟨{ wOn with cmds := [{ wDigC 1 with st := .suspended 3 }] }, 1, 3, { wDigC 1 with st := .suspended 3 },
       by decide +kernel⟩,
   ⟨{ wOn with cmds := [wDigC 1] }, 1, 31, wDigC 1, by decide +kernel⟩,
   ⟨wYield, 0, 31, { wEcb with job := 50, promise := some 9, st := .waiting, checked := false }, { wSymC 1 with job := 31 },
       by decide +kernel⟩,
   ⟨wOn, 1, 31, wDigC 1, by decide +kernel⟩,
   ⟨{ wEng with cmds := [{ wEcb with code := some 0 }] }, 0, 31, { wEcb with code := some 0 }, 0, by decide +kernel⟩,
   ⟨{ wEng with cmds := [{ wEcb with code := some 0x0420 }] }, 0, 31, { wEcb with code := some 0x0420 }, by decide +kernel⟩,
   ⟨{ wEng with cmds := [{ wSymC 1 with code := some 0x0401 }] }, 0, 31, { wSymC 1 with code := some 0x0401 }, 0x0401,
       by decide +kernel⟩,
   ⟨{ wEng with cmds := [{ wDigC 1 with code := some 0 }] }, 0, 31, { wDigC 1 with code := some 0 }, 0, by decide +kernel⟩⟩

/-- A state and operands for every clause of DigestCommands. -/
theorem met_DigestCommands :
    (∃ (s : State) (e : Nat) (c : Cmd), s.spiresRun = true ∧ s.digReady e 1 c)
    ∧ (∃ (s : State) (e : Nat) (c : Cmd), s.spiresRun = true ∧ s.digReady e 2 c)
    ∧ (∃ (s : State) (e : Nat) (c : Cmd), s.spiresRun = true ∧ s.digReady e 3 c)
    ∧ (∃ (s : State) (e : Nat) (c : Cmd), s.spiresRun = true ∧ s.digReady e 4 c ∧ (digDesc c.desc).b3 % 2 = 0)
    ∧ (∃ (s : State) (e : Nat) (c : Cmd), s.spiresRun = true ∧ s.digReady e 4 c ∧ (digDesc c.desc).b3 % 2 = 1 ∧
        s.pools.digKey ≠ [])
    ∧ (∃ (s : State) (e : Nat) (c : Cmd), s.spiresRun = true ∧ s.digReady e 4 c ∧ (digDesc c.desc).b3 % 2 = 1 ∧
        s.pools.digKey = [] ∧ c.pool = 1)
    ∧ (∃ (s : State) (e : Nat) (c : Cmd), s.spiresRun = true ∧ s.digReady e 5 c ∧ (digDesc c.desc).b3 % 2 = 0 ∧ fld (s.opnd
        c e (digDesc c.desc).ctx 256).1 0 1 = 1 ∧ fld (s.opnd c e (digDesc c.desc).ctx 256).1 1 1 = (digDesc c.desc).alg ∧
        fld (s.opnd c e (digDesc c.desc).ctx 256).1 2 1 = 0)
    ∧ (∃ (s : State) (e : Nat) (c : Cmd), s.spiresRun = true ∧ s.digReady e 6 c ∧ (digDesc c.desc).b3 % 2 = 0 ∧ fld (s.opnd
        c e (digDesc c.desc).ctx 256).1 0 1 = 1 ∧ fld (s.opnd c e (digDesc c.desc).ctx 256).1 1 1 = (digDesc c.desc).alg ∧
        fld (s.opnd c e (digDesc c.desc).ctx 256).1 2 1 = 0)
    ∧ (∃ (s : State) (e : Nat) (c : Cmd), s.spiresRun = true ∧ s.digReady e 6 c ∧ (digDesc c.desc).b3 % 2 = 0 ∧ fld (s.opnd
        c e (digDesc c.desc).ctx 256).1 0 1 ≠ 1 ∧ fld (s.opnd c e (digDesc c.desc).ctx 256).1 0 1 ≠ 2 ∧ c.pool = 1) :=
  ⟨⟨wDig 1, 31, wDigC 1, by decide +kernel⟩,
   ⟨wDig 2, 31, wDigC 2, by decide +kernel⟩,
   ⟨wDig 3, 31, wDigC 3, by decide +kernel⟩,
   ⟨wDig 4, 31, wDigC 4, by decide +kernel⟩,
   ⟨{ wOn with cmds := [wDigK 4], pools := { digKey := zeros 32 } }, 31, wDigK 4, by decide +kernel⟩,
   ⟨{ wOn with cmds := [wDigK 4] }, 31, wDigK 4, by decide +kernel⟩,
   ⟨wDigR 5 1, 31, wDigC 5, by decide +kernel⟩,
   ⟨wDigR 6 1, 31, wDigC 6, by decide +kernel⟩,
   ⟨wDigR 6 3, 31, wDigC 6, by decide +kernel⟩⟩

/-- A state and operands for every clause of KeyTable. -/
theorem met_KeyTable :
    (∃ (s : State) (i k : Nat), s.spiresRun = true ∧ s.get R.KEY_STATUS_INST_BUSY = 0 ∧ s.keepHalted = false)
    ∧ (∃ (s : State) (i k : Nat), s.spiresRun = true ∧ s.get R.KEY_STATUS_INST_BUSY = 0 ∧ s.keepHalted = false)
    ∧ (∃ (s : State) (i k : Nat), s.spiresRun = true ∧ s.get R.KEY_STATUS_INST_BUSY = 0 ∧ s.keepHalted = false)
    ∧ (∃ (s : State) (i k : Nat) (op : Nat), s.spiresRun = true ∧ s.key.inst = some (op, i) ∧ (s.get R.RST_ROOT_SRK_VALID =
        0 ∨ s.get R.MEMC_KEYTAB_HI_COUNT ≤ i))
    ∧ (∃ (s : State) (i k : Nat), s.spiresRun = true ∧ s.key.inst = some (1, i) ∧ s.get R.RST_ROOT_SRK_VALID = 1 ∧ i < s.get
        R.MEMC_KEYTAB_HI_COUNT ∧ s.inFed i = false ∧ s.dirByte i < 128 ∧ (s.rd s.keyX (s.get R.KEY_INST_SRC_ADDR * 64)
        64).2.fed = s.fed)
    ∧ (∃ (s : State) (i k : Nat) (op : Nat), s.spiresRun = true ∧ s.key.inst = some (op, i) ∧ s.get R.RST_ROOT_SRK_VALID = 1
        ∧ i < s.get R.MEMC_KEYTAB_HI_COUNT ∧ s.inFed i = false ∧ (op = 1 ∧ 128 ≤ s.dirByte i % 256 ∨ op ≠ 1 ∧ s.dirByte i <
        128))
    ∧ (∃ (s : State) (i k : Nat) (op : Nat) (p : Nat × KSlot), s.spiresRun = true ∧ s.key.inst = some (op, i) ∧ op ≠ 1 ∧
        s.get R.RST_ROOT_SRK_VALID = 1 ∧ i < s.get R.MEMC_KEYTAB_HI_COUNT ∧ s.inFed i = false ∧ 128 ≤ s.dirByte i % 256 ∧ p
        ∈ s.key.slots ∧ p.2.index = i ∧ p.2.pinned = true ∧ p.2.st ≠ 0)
    ∧ (∃ (s : State) (i k : Nat), s.spiresRun = true ∧ s.key.inst = some (3, i) ∧ s.get R.RST_ROOT_SRK_VALID = 1 ∧ i < s.get
        R.MEMC_KEYTAB_HI_COUNT ∧ s.inFed i = false ∧ 128 ≤ s.dirByte i % 256 ∧ s.key.slots.all (fun p => p.2.index != i ||
        !p.2.pinned) = true)
    ∧ (∃ (s : State) (i k : Nat), s.spiresRun = true ∧ s.get R.KEY_PIN_STATUS_BUSY = 0 ∧ s.get R.RST_ROOT_SRK_VALID = 0 ∧
        s.keepHalted = false)
    ∧ (∃ (s : State) (i k : Nat), s.spiresRun = true ∧ s.get R.KEY_PIN_STATUS_BUSY = 0 ∧ s.get R.RST_ROOT_SRK_VALID = 0 ∧
        s.keepHalted = false)
    ∧ (∃ (s : State) (i k : Nat), s.spiresRun = true ∧ s.get R.KEY_PIN_STATUS_BUSY = 0 ∧ s.get R.RST_ROOT_SRK_VALID = 1 ∧
        s.dirByte (i % 2 ^ 24) < 128 ∧ s.keepHalted = false)
    ∧ (∃ (s : State) (i k : Nat), s.spiresRun = true ∧ s.get R.KEY_PIN_STATUS_BUSY = 0 ∧ s.get R.RST_ROOT_SRK_VALID = 1 ∧
        128 ≤ s.dirByte (i % 2 ^ 24) % 256 ∧ s.slotOf (s.dirByte (i % 2 ^ 24) % 64) (s.bankOfKey (i % 2 ^ 24)) (i % 2 ^ 24)
        = some k ∧ (s.slot k).st = 2 ∧ s.keepHalted = false)
    ∧ (∃ (s : State) (i k : Nat), s.spiresRun = true ∧ s.get R.KEY_PIN_STATUS_BUSY = 0 ∧ s.get R.RST_ROOT_SRK_VALID = 1 ∧
        128 ≤ s.dirByte (i % 2 ^ 24) % 256 ∧ s.slotOf (s.dirByte (i % 2 ^ 24) % 64) (s.bankOfKey (i % 2 ^ 24)) (i % 2 ^ 24)
        = none ∧ s.victim (s.dirByte (i % 2 ^ 24) % 64) = none ∧ s.keepHalted = false)
    ∧ (∃ (s : State) (i k : Nat) (p : Nat × KSlot), s.spiresRun = true ∧ s.get R.KEY_PIN_STATUS_BUSY = 0 ∧ s.get
        R.RST_ROOT_SRK_VALID = 1 ∧ s.key.slots.find? (fun e => e.2.index == i % 2 ^ 24 && e.2.pinned && e.2.st != 0) = some
        p ∧ s.keepHalted = false)
    ∧ (∃ (s : State) (i k : Nat), s.spiresRun = true ∧ (s.slot k).fetching = true ∧ (s.slot k).entry = none)
    ∧ (∃ (s : State) (i k : Nat) (en : List Byte), s.spiresRun = true ∧ (s.slot k).st = 1 ∧ (s.slot k).entry = some en ∧
        (s.slot k).stale = false ∧ (s.slot k).refs ≠ 0 ∧ s.key.pinWait ≠ some k)
    ∧ (∃ (s : State) (i k : Nat) (en : List Byte), s.spiresRun = true ∧ (s.slot k).st = 1 ∧ (s.slot k).entry = some en ∧
        (s.slot k).refs ≠ 0 ∧ entryOpen s.key.tkey en = none ∧ s.key.pinWait = some k) :=
  ⟨⟨wOn, 7, 5, by decide +kernel⟩,
   ⟨wOn, 7, 5, by decide +kernel⟩,
   ⟨wOn, 7, 5, by decide +kernel⟩,
   ⟨{ wOn with key := { inst := some (1, 7) } }, 7, 5, 1, by decide +kernel⟩,
   ⟨wInst 1, 7, 5, by decide +kernel⟩,
   ⟨wInst 2, 7, 5, 1, by decide +kernel⟩,
   ⟨wInst 4, 7, 5, 3, (9, { st := 2, index := 7, pinned := true }), by decide +kernel⟩,
   ⟨wInst 3, 7, 5, by decide +kernel⟩,
   ⟨wOn, 7, 5, by decide +kernel⟩,
   ⟨wOn, 7, 5, by decide +kernel⟩,
   ⟨wOn.set R.RST_ROOT_SRK_VALID 1, 7, 5, by decide +kernel⟩,
   ⟨(wPart 2).set R.RST_ROOT_SRK_VALID 1, 7, 5, by decide +kernel⟩,
   ⟨{ wOn.set R.RST_ROOT_SRK_VALID 1 with key := { dir := [(7, 130)] } }, 7, 5, by decide +kernel⟩,
   ⟨wInst 4, 7, 5, (9, { st := 2, index := 7, pinned := true }), by decide +kernel⟩,
   ⟨wPart 1, 7, 5, by decide +kernel⟩,
   ⟨wGot, 7, 5, [], by decide +kernel⟩,
   ⟨{ wOn with
           key := { pinWait := some 5, slots := [(5, { st := 1, index := 7, refs := 1, dome := 2, entry := some [] })] } },
       7, 5, [], by decide +kernel⟩⟩

/-- A state and operands for every clause of PublicKeyCompletion. -/
theorem met_PublicKeyCompletion :
    (∃ (s : State) (job ticket e : Nat) (c : Cmd), s.spiresRun = true ∧ s.pkReady job ticket e 0x01 c)
    ∧ (∃ (s : State) (job ticket e : Nat) (c : Cmd), s.spiresRun = true ∧ s.pkReady job ticket e 0x10 c)
    ∧ (∃ (s : State) (job ticket e : Nat) (c : Cmd), s.spiresRun = true ∧ s.pkReady job ticket e 0x11 c)
    ∧ (∃ (s : State) (job ticket e : Nat) (c : Cmd), s.spiresRun = true ∧ s.pkReady job ticket e 0x12 c)
    ∧ (∃ (s : State) (job ticket e : Nat) (c : Cmd), s.spiresRun = true ∧ s.pkReady job ticket e 0x13 c)
    ∧ (∃ (s : State) (job ticket e : Nat) (c : Cmd), s.spiresRun = true ∧ s.pkReady job ticket e 0x14 c)
    ∧ (∃ (s : State) (job ticket e : Nat) (c : Cmd), s.spiresRun = true ∧ s.pkReady job ticket e 0x18 c)
    ∧ (∃ (s : State) (job ticket e : Nat) (c : Cmd), s.spiresRun = true ∧ s.pkReady job ticket e 0x20 c)
    ∧ (∃ (s : State) (job ticket e : Nat) (c : Cmd), s.spiresRun = true ∧ s.pkReady job ticket e 0x21 c)
    ∧ (∃ (s : State) (job ticket e : Nat) (c : Cmd), s.spiresRun = true ∧ s.pkReady job ticket e 0x22 c)
    ∧ (∃ (s : State) (job ticket e : Nat) (c : Cmd), s.spiresRun = true ∧ s.pkReady job ticket e 0x23 c)
    ∧ (∃ (s : State) (job ticket e : Nat) (c : Cmd), s.spiresRun = true ∧ s.pkReady job ticket e 0x30 c) :=
  ⟨⟨wPk 0x01 0, 1, 2, 4, wPkC 0x01 0, by decide +kernel⟩,
   ⟨wPk 0x10 1, 1, 2, 4, wPkC 0x10 1, by decide +kernel⟩,
   ⟨wPk 0x11 1, 1, 2, 4, wPkC 0x11 1, by decide +kernel⟩,
   ⟨wPk 0x12 1, 1, 2, 4, wPkC 0x12 1, by decide +kernel⟩,
   ⟨wPk 0x13 1, 1, 2, 4, wPkC 0x13 1, by decide +kernel⟩,
   ⟨wPk 0x14 1, 1, 2, 4, wPkC 0x14 1, by decide +kernel⟩,
   ⟨wPk 0x18 0x81, 1, 2, 4, wPkC 0x18 0x81, by decide +kernel⟩,
   ⟨wPk 0x20 0x20, 1, 2, 4, wPkC 0x20 0x20, by decide +kernel⟩,
   ⟨wPk 0x21 0x20, 1, 2, 4, wPkC 0x21 0x20, by decide +kernel⟩,
   ⟨wPk 0x22 0x20, 1, 2, 4, wPkC 0x22 0x20, by decide +kernel⟩,
   ⟨wPk 0x23 0x20, 1, 2, 4, wPkC 0x23 0x20, by decide +kernel⟩,
   ⟨wPk 0x30 1, 1, 2, 4, wPkC 0x30 1, by decide +kernel⟩⟩

/-- A state and operands for every clause of PublicKeyResults. -/
theorem met_PublicKeyResults :
    (∃ (s : State) (job ticket e : Nat) (c : Cmd), s.spiresRun = true ∧ c.unit = false ∧ s.pkReady job ticket e 0x11 c ∧
        (pkDesc c.desc).curve = 8)
    ∧ (∃ (s : State) (job ticket e : Nat) (c : Cmd) (cv : Curve), s.spiresRun = true ∧ c.unit = false ∧ s.pkReady job ticket
        e 0x11 c ∧ namedCurve (pkDesc c.desc).curve = some cv)
    ∧ (∃ (s : State) (job ticket e : Nat) (c : Cmd) (cv : Curve), s.spiresRun = true ∧ c.unit = false ∧ s.pkReady job ticket
        e 0x12 c ∧ namedCurve (pkDesc c.desc).curve = some cv ∧ cv.point (c.ins.getD 2 []) = none)
    ∧ (∃ (s : State) (job ticket e : Nat) (c : Cmd) (cv : Curve) (q : Nat × Nat), s.spiresRun = true ∧ c.unit = false ∧
        s.pkReady job ticket e 0x12 c ∧ namedCurve (pkDesc c.desc).curve = some cv ∧ cv.point (c.ins.getD 2 []) = some q ∧
        (c.ins.getD 3 []).length = 2 * cv.on)
    ∧ (∃ (s : State) (job ticket e : Nat) (c : Cmd), s.spiresRun = true ∧ c.unit = false ∧ s.pkReady job ticket e 0x13 c ∧
        (pkDesc c.desc).curve = 9)
    ∧ (∃ (s : State) (job ticket e : Nat) (c : Cmd), s.spiresRun = true ∧ c.unit = false ∧ s.pkReady job ticket e 0x14 c ∧
        ((pkDesc c.desc).curve = 8 ∨ (pkDesc c.desc).curve = 9))
    ∧ (∃ (s : State) (job ticket e : Nat) (c : Cmd), s.spiresRun = true ∧ c.unit = false ∧ s.pkReady job ticket e 0x20 c ∧
        fld (pkDesc c.desc).param 0 1 = 0)
    ∧ (∃ (s : State) (job ticket e : Nat) (c : Cmd), s.spiresRun = true ∧ c.unit = false ∧ s.pkReady job ticket e 0x22 c)
    ∧ (∃ (s : State) (job ticket e : Nat) (c : Cmd), s.spiresRun = true ∧ c.unit = false ∧ s.pkReady job ticket e 0x01 c ∧
        (ofBE (sliceB (c.ins.getD 0 []) (32 * fld (pkDesc c.desc).param 0 1 * fld (pkDesc c.desc).param 4 1) (32 * fld
        (pkDesc c.desc).param 0 1)) % 2 = 0 ∨ ofBE (sliceB (c.ins.getD 0 []) (32 * fld (pkDesc c.desc).param 0 1 * fld
        (pkDesc c.desc).param 4 1) (32 * fld (pkDesc c.desc).param 0 1)) = 1))
    ∧ (∃ (s : State) (job ticket e : Nat) (c : Cmd), s.spiresRun = true ∧ c.unit = false ∧ s.pkReady job ticket e 0x18 c ∧
        curveSafe (recCurve (c.ins.getD 3 [])) = false)
    ∧ (∃ (s : State) (job ticket e : Nat) (c : Cmd), s.spiresRun = true ∧ c.unit = false ∧ s.pkReady job ticket e 0x10 c ∧
        (pkDesc c.desc).curve = 9)
    ∧ (∃ (s : State) (job ticket e : Nat) (c : Cmd), s.spiresRun = true ∧ c.unit = false ∧ s.pkReady job ticket e 0x10 c ∧
        (pkDesc c.desc).curve = 8)
    ∧ (∃ (s : State) (job ticket e : Nat) (c : Cmd) (cv : Curve), s.spiresRun = true ∧ c.unit = false ∧ s.pkReady job ticket
        e 0x10 c ∧ namedCurve (pkDesc c.desc).curve = some cv)
    ∧ (∃ (s : State) (job ticket e : Nat) (c : Cmd) (n x : Nat), s.spiresRun = true ∧ c.unit = false ∧ s.pkReady job ticket
        e 0x21 c ∧ fld (pkDesc c.desc).param 0 1 = 0 ∧ ofBE ((c.ins.getD 2 []).take (rsaK (pkDesc c.desc).curve)) = n ∧ ofBE
        ((c.ins.getD 2 []).drop (rsaK (pkDesc c.desc).curve)) = x ∧ n % 2 = 1 ∧ bitLen n = 8 * rsaK (pkDesc c.desc).curve ∧
        x % 2 = 1 ∧ 65537 ≤ x ∧ x < 2 ^ 256)
    ∧ (∃ (s : State) (job ticket e : Nat) (c : Cmd) (n x : Nat), s.spiresRun = true ∧ c.unit = false ∧ s.pkReady job ticket
        e 0x23 c ∧ ofBE ((c.ins.getD 2 []).take (rsaK (pkDesc c.desc).curve)) = n ∧ ofBE ((c.ins.getD 2 []).drop (rsaK
        (pkDesc c.desc).curve)) = x ∧ n % 2 = 1 ∧ bitLen n = 8 * rsaK (pkDesc c.desc).curve ∧ x % 2 = 1 ∧ 65537 ≤ x ∧ x < 2
        ^ 256)
    ∧ (∃ (s : State) (job ticket e : Nat) (c : Cmd), s.spiresRun = true ∧ c.unit = false ∧ s.pkReady job ticket e 0x21 c ∧
        (ofBE ((c.ins.getD 2 []).take (rsaK (pkDesc c.desc).curve)) % 2 = 0 ∨ ofBE ((c.ins.getD 2 []).drop (rsaK (pkDesc
        c.desc).curve)) < 65537))
    ∧ (∃ (s : State) (job ticket e : Nat) (c : Cmd), s.spiresRun = true ∧ c.unit = false ∧ s.pkReady job ticket e 0x23 c ∧
        (ofBE ((c.ins.getD 2 []).take (rsaK (pkDesc c.desc).curve)) % 2 = 0 ∨ ofBE ((c.ins.getD 2 []).drop (rsaK (pkDesc
        c.desc).curve)) < 65537))
    ∧ (∃ (s : State) (job ticket e : Nat) (c : Cmd), s.spiresRun = true ∧ c.unit = false ∧ s.pkReady job ticket e 0x30 c) :=
  ⟨⟨wPk 0x11 8, 1, 2, 4, wPkC 0x11 8, by decide +kernel⟩,
   ⟨wPk 0x11 1, 1, 2, 4, wPkC 0x11 1, curveP256, by decide +kernel⟩,
   ⟨wPk 0x12 1, 1, 2, 4, wPkC 0x12 1, curveP256, by decide +kernel⟩,
   ⟨{ wOn with cmds := [wPkV] }, 1, 2, 4, wPkV, curveP256, (curveP256.gx, curveP256.gy), by decide +kernel⟩,
   ⟨wPk 0x13 9, 1, 2, 4, wPkC 0x13 9, by decide +kernel⟩,
   ⟨wPk 0x14 9, 1, 2, 4, wPkC 0x14 9, by decide +kernel⟩,
   ⟨wPk 0x20 0x20, 1, 2, 4, wPkC 0x20 0x20, by decide +kernel⟩,
   ⟨wPk 0x22 0x20, 1, 2, 4, wPkC 0x22 0x20, by decide +kernel⟩,
   ⟨wPk 0x01 0, 1, 2, 4, wPkC 0x01 0, by decide +kernel⟩,
   ⟨wPk 0x18 0x81, 1, 2, 4, wPkC 0x18 0x81, by decide +kernel⟩,
   ⟨wPk 0x10 9, 1, 2, 4, wPkC 0x10 9, by decide +kernel⟩,
   ⟨wPk 0x10 8, 1, 2, 4, wPkC 0x10 8, by decide +kernel⟩,
   ⟨wPk 0x10 1, 1, 2, 4, wPkC 0x10 1, curveP256, by decide +kernel⟩,
   ⟨{ wOn with cmds := [wPkRsa 0x21] }, 1, 2, 4, wPkRsa 0x21, 2 ^ 255 + 1, 65537, by decide +kernel⟩,
   ⟨{ wOn with cmds := [wPkRsa 0x23] }, 1, 2, 4, wPkRsa 0x23, 2 ^ 255 + 1, 65537, by decide +kernel⟩,
   ⟨wPk 0x21 0x20, 1, 2, 4, wPkC 0x21 0x20, by decide +kernel⟩,
   ⟨wPk 0x23 0x20, 1, 2, 4, wPkC 0x23 0x20, by decide +kernel⟩,
   ⟨wPk 0x30 1, 1, 2, 4, wPkC 0x30 1, by decide +kernel⟩⟩

/-- A state and operands for every clause of PkeScheduling. -/
theorem met_PkeScheduling :
    (∃ (s : State) (c : Cmd) (e : Nat), s.spiresRun = true ∧ s.cmds.all (fun d => d.pool == 2 && d.held && d.checked) = true
        ∧ (s.cmds.map (fun d => (d.job, d.ticket))).Nodup ∧ e < 32 ∧ s.pkeOrder[e]? = some c)
    ∧ (∃ (s : State) (c : Cmd), s.spiresRun = true ∧ s.cmds = [c] ∧ c.pool = 2 ∧ c.promise.isSome = true ∧ c.held = false ∧
        c.checked = false ∧ s.fetching c = false ∧ (pkDesc c.desc).descOk = false)
    ∧ (∃ (s : State) (c : Cmd) (job ticket e code : Nat), s.spiresRun = true ∧ s.cmdOf job ticket = some c ∧ c.pool = 2 ∧
        c.st = .running e ∧ c.code = some code ∧ c.statusOk = true ∧ code ≠ 0x0301 ∧ code ≠ 0x0305 ∧ code ≠ 0x0306 ∧ c.unit
        = false)
    ∧ (∃ (s : State) (c : Cmd) (job ticket e code : Nat), s.spiresRun = true ∧ s.cmdOf job ticket = some c ∧ c.pool = 2 ∧
        c.st = .running e ∧ c.code = some code ∧ c.proven = true ∧ c.statusOk = true ∧ (pkDesc c.desc).op ∈ [0x10, 0x11,
        0x13, 0x20, 0x22, 0x30] ∧ c.unit = false)
    ∧ (∃ (s : State) (c : Cmd) (job ticket e : Nat), s.spiresRun = true ∧ s.cmdOf job ticket = some c ∧ c.pool = 2 ∧ c.st =
        .running e ∧ c.code = some 0x0305 ∧ c.statusOk = true ∧ c.unit = false) :=
  ⟨⟨{ wOn with cmds := [{ wPkC 1 0 with held := true }] }, { wPkC 1 0 with held := true }, 0, by decide +kernel⟩,
   ⟨{ wOn with cmds := [{ wPkC 0x99 0 with promise := some 9, st := .waiting, checked := false }] },
       { wPkC 0x99 0 with promise := some 9, st := .waiting, checked := false }, by decide +kernel⟩,
   ⟨{ wEng with cmds := [{ wPkC 0x12 8 with code := some 0 }] }, { wPkC 0x12 8 with code := some 0 }, 1, 2, 4, 0,
       by decide +kernel⟩,
   ⟨{ wEng with cmds := [{ wPkC 0x11 8 with code := some 0, proven := true }] },
       { wPkC 0x11 8 with code := some 0, proven := true }, 1, 2, 4, 0, by decide +kernel⟩,
   ⟨{ wEng with cmds := [{ wPkC 0x12 8 with code := some 0x0305 }] }, { wPkC 0x12 8 with code := some 0x0305 }, 1, 2, 4,
       by decide +kernel⟩⟩

/-- A state and operands for every clause of EntropyHealth. -/
theorem met_EntropyHealth :
    (∃ (s : State) (p : Nat) (bits : List Byte), s.spiresRun = true ∧ p < 8 ∧ (s.scan p bits).best < 41 ∧ (s.scan p
        bits).ones < 795 ∧ 229 < (s.scan p bits).ones ∧ s.get (R.ENT_PAIR_STAT_STATE p) = 1 ∧ s.get R.ENT_TEST_MODE = 0 ∧
        s.ent.store.length < 16)
    ∧ (∃ (s : State) (p : Nat) (bits : List Byte), s.spiresRun = true ∧ p < 8 ∧ (s.scan p bits).best < 41 ∧ (s.scan p
        bits).ones < 795 ∧ 229 < (s.scan p bits).ones ∧ s.get (R.ENT_PAIR_STAT_STATE p) = 0 ∧ s.get R.ENT_TEST_MODE = 0 ∧ 3
        ≤ (s.pair p).good)
    ∧ (∃ (s : State) (p : Nat) (bits : List Byte), s.spiresRun = true ∧ p < 8 ∧ 41 ≤ (s.scan p bits).best ∧ (s.scan p
        bits).ones < 795 ∧ 229 < (s.scan p bits).ones ∧ s.get R.ENT_TEST_MODE = 0 ∧ s.get (R.ENT_PAIR_STAT_RUN p) < 7)
    ∧ (∃ (s : State) (p : Nat) (bits : List Byte), s.spiresRun = true ∧ p < 8 ∧ (s.scan p bits).best < 41 ∧ 795 ≤ (s.scan p
        bits).ones ∧ s.get R.ENT_TEST_MODE = 0 ∧ s.get (R.ENT_PAIR_STAT_RUN p) = 7 ∧ s.get (R.ENT_PAIR_STAT_STATE p) ≠ 2)
    ∧ (∃ (s : State) (p : Nat) (bits : List Byte) (ones same : Nat), s.spiresRun = true ∧ p < 8 ∧ (s.pair p).ended = some
        (ones, same) ∧ ones < 2 ^ 17 ∧ same < 2 ^ 17)
    ∧ (∃ (s : State) (p : Nat) (bits : List Byte), s.spiresRun = true ∧ p < 8 ∧ s.get R.RST_LC_STATE = 0 ∧ s.keepHalted =
        false)
    ∧ (∃ (s : State) (p : Nat) (bits : List Byte), s.spiresRun = true ∧ p < 8 ∧ s.get R.RST_LC_STATE = 0 ∧ s.keepHalted =
        false)
    ∧ (∃ (s : State) (p : Nat) (bits : List Byte), s.spiresRun = true ∧ p < 8 ∧ s.get R.RST_LC_STATE = 0 ∧ s.keepHalted =
        false)
    ∧ (∃ (s : State) (p : Nat) (bits : List Byte), s.spiresRun = true ∧ p < 8 ∧ s.get R.RST_LC_STATE ≠ 0)
    ∧ (∃ (s : State) (p : Nat) (bits : List Byte), s.spiresRun = true ∧ p < 8 ∧ s.get R.RST_LC_STATE ≠ 0)
    ∧ (∃ (s : State) (p : Nat) (bits : List Byte), s.spiresRun = true ∧ p < 8 ∧ s.get R.RST_LC_STATE ≠ 0) :=
  ⟨⟨wPair 1 0, 3, List.replicate 128 0x5A, by decide +kernel⟩,
   ⟨wPair 0 0, 3, List.replicate 128 0x5A, by decide +kernel⟩,
   ⟨wPair 1 0, 3, zeros 6 ++ List.replicate 122 0x5A, by decide +kernel⟩,
   ⟨wPair 1 7, 3, List.replicate 128 0xFE, by decide +kernel⟩,
   ⟨wOn.setPair 3 { ended := some (30000, 32000) }, 3, [], 30000, 32000, by decide +kernel⟩,
   ⟨wOn.set R.RST_LC_STATE 0, 3, [], by decide +kernel⟩,
   ⟨wOn.set R.RST_LC_STATE 0, 3, [], by decide +kernel⟩,
   ⟨wOn.set R.RST_LC_STATE 0, 3, [], by decide +kernel⟩,
   ⟨wOn, 3, [], by decide +kernel⟩,
   ⟨wOn, 3, [], by decide +kernel⟩,
   ⟨wOn, 3, [], by decide +kernel⟩⟩

/-- A state and operands for every clause of RandomService. -/
theorem met_RandomService :
    (∃ (s : State) (u : Nat), s.spiresRun = true ∧ s.get R.ENT_STATUS_SEEDED = 1 ∧ s.ent.last + 100000000 ≤ s.tbase)
    ∧ (∃ (s : State) (u : Nat), s.spiresRun = true ∧ s.keepHalted = false)
    ∧ (∃ (s : State) (u : Nat) (a b : List Byte) (rest : List (List Byte)), s.spiresRun = true ∧ s.get R.ENT_STATUS_SEEDED =
        1 ∧ s.ent.due = true ∧ s.ent.store = a :: b :: rest ∧ s.get R.ENT_STATUS_STARVED < 2)
    ∧ (∃ (s : State) (u : Nat) (a b : List Byte) (rest : List (List Byte)), s.spiresRun = true ∧ s.get R.ENT_STATUS_SEEDED =
        0 ∧ s.get R.ENT_STATUS_STARVED = 0 ∧ s.entHealthy = true ∧ 5 ≤ s.get R.RST_BOOT_PHASE ∧ s.get R.RST_BOOT_PHASE ≤ 12
        ∧ s.katPass = true ∧ s.ent.store = a :: b :: rest)
    ∧ (∃ (s : State) (u : Nat), s.spiresRun = true ∧ s.get R.ENT_STATUS_SEEDED = 0 ∧ s.katPass = false)
    ∧ (∃ (s : State) (u : Nat), s.spiresRun = true ∧ s.get R.ENT_STATUS_SEEDED = 1 ∧ s.get R.ENT_STATUS_TEST = 0 ∧ s.get
        R.ENT_TEST_MODE = 0 ∧ s.entWaits = true ∧ s.ent.due = true ∧ s.ent.store.length < 2 ∧ s.get R.ENT_STATUS_STARVED = 0
        ∧ s.ent.ses = [] ∧ s.ent.cards = [])
    ∧ (∃ (s : State) (u : Nat) (rs : List EntReq), s.spiresRun = true ∧ s.get R.ENT_STATUS_SEEDED = 1 ∧ s.get
        R.ENT_STATUS_TEST = 0 ∧ s.ent.due = false ∧ s.ent.reqs = .digKey :: rs ∧ s.ent.ses = [] ∧ s.ent.cards = [])
    ∧ (∃ (s : State) (u : Nat), s.spiresRun = true ∧ s.get R.ENT_STATUS_SEEDED = 1 ∧ s.get R.ENT_STATUS_TEST = 0 ∧ s.ent.due
        = false ∧ s.ent.reqs = [] ∧ s.pools.pkeRes.length + 512 ≤ 4096 ∧ s.ent.ses = [] ∧ s.ent.cards = [])
    ∧ (∃ (s : State) (u : Nat), s.spiresRun = true ∧ s.get R.ENT_STATUS_REQ_BUSY = 0 ∧ (u % 2 ^ 11 = 0 ∨ 1024 < u % 2 ^ 11)
        ∧ s.keepHalted = false)
    ∧ (∃ (s : State) (u : Nat), s.spiresRun = true ∧ s.get R.ENT_STATUS_REQ_BUSY = 0 ∧ 0 < u ∧ u ≤ 1024 ∧ s.get
        R.ENT_STATUS_SEEDED = 0 ∧ s.keepHalted = false)
    ∧ (∃ (s : State) (u : Nat), s.spiresRun = true ∧ s.get R.ENT_STATUS_REQ_BUSY = 0 ∧ 0 < u ∧ u ≤ 1024 ∧ s.get
        R.ENT_STATUS_SEEDED = 1 ∧ s.keepHalted = false)
    ∧ (∃ (s : State) (u : Nat) (a : Nat), s.spiresRun = true ∧ s.ent.keep = some (a, 0))
    ∧ (∃ (s : State) (u : Nat), s.spiresRun = true ∧ s.get R.RST_BOOT_PHASE = 5 ∧ s.get R.ENT_STATUS_SEEDED = 0 ∧ s.pastBase
        (s.pwr.seedAt + 50000000) = true) :=
  ⟨⟨wLater (wOn.set R.ENT_STATUS_SEEDED 1) 100000000, 5, by decide +kernel⟩,
   ⟨wOn, 5, by decide +kernel⟩,
   ⟨wStore, 5, zeros 32, zeros 32, [], by decide +kernel⟩,
   ⟨((List.range 4).foldl (fun (s : State) k => s.set (R.ENT_PAIR_STAT_STATE k) 1) ((wStore.set R.ENT_STATUS_STARVED 0).set
       R.RST_BOOT_PHASE 5)).set R.ENT_STATUS_SEEDED 0, 5, zeros 32, zeros 32, [], by decide +kernel⟩,
   ⟨wOn.setPwr { wOn.pwr with defects := 2 ^ 16 }, 5, by decide +kernel⟩,
   ⟨{ wOn.set R.ENT_STATUS_SEEDED 1 with ent := { due := true } }, 5, by decide +kernel⟩,
   ⟨{ wOn.set R.ENT_STATUS_SEEDED 1 with ent := { reqs := [.digKey] } }, 5, [], by decide +kernel⟩,
   ⟨wOn.set R.ENT_STATUS_SEEDED 1, 5, by decide +kernel⟩,
   ⟨wOn, 0, by decide +kernel⟩,
   ⟨wOn, 5, by decide +kernel⟩,
   ⟨wOn.set R.ENT_STATUS_SEEDED 1, 5, by decide +kernel⟩,
   ⟨{ wOn with ent := { keep := some (64, 0) } }, 5, 64, by decide +kernel⟩,
   ⟨wLater (wOn.set R.RST_BOOT_PHASE 5) 50000001, 5, by decide +kernel⟩⟩

/-- A state and operands for every clause of TamperEvents. -/
theorem met_TamperEvents :
    (∃ (s : State) (n : Nat) (pin : CasePin), s.pwr.bedrock = true ∧ n ≤ 3 ∧ s.tmp.live = true ∧ pin ≠ .rest ∧ (s.get
        R.TMP_FLAGS_FLAG).testBit (3 + n) = false)
    ∧ (∃ (s : State) (n : Nat) (pin : CasePin), s.pwr.bedrock = true ∧ n ≤ 3 ∧ s.tmp.live = false ∧ pin ≠ .rest ∧ (s.get
        R.TMP_FLAGS_FLAG).testBit (3 + n) = true ∧ tabFind s.tmp.deferred (3 + n) = none)
    ∧ (∃ (s : State) (n : Nat), s.pwr.bedrock = true ∧ n ≤ 3)
    ∧ (∃ (s : State) (n : Nat) (lv : Nat), s.pwr.bedrock = true ∧ n ≤ 3 ∧ lv < 64 ∧ s.tmp.compared = false ∧ s.meshDiff lv =
        0)
    ∧ (∃ (s : State) (n : Nat) (lv m : Nat), s.pwr.bedrock = true ∧ n ≤ 3 ∧ lv < 64 ∧ s.tmp.compared = false ∧ s.meshDiff lv
        = m ∧ m % 16 ≠ 0 ∧ m.testBit 4 = false ∧ m.testBit 5 = false)
    ∧ (∃ (s : State) (n : Nat) (lv : Nat), s.pwr.bedrock = true ∧ n ≤ 3 ∧ s.tmp.compared = true)
    ∧ (∃ (s : State) (n : Nat) (diode : Nat), s.pwr.bedrock = true ∧ n ≤ 3 ∧ s.pwr.main = .on)
    ∧ (∃ (s : State) (n : Nat) (rail : Nat) (high : Bool), s.pwr.bedrock = true ∧ n ≤ 3 ∧ s.pwr.main = .on ∧ s.pwr.armed =
        true ∧ rail < 7)
    ∧ (∃ (s : State) (n : Nat) (rail : Nat) (high : Bool), s.pwr.bedrock = true ∧ n ≤ 3 ∧ s.pwr.armed = false)
    ∧ (∃ (s : State) (n : Nat) (rail : Nat) (high : Bool), s.pwr.bedrock = true ∧ n ≤ 3 ∧ s.pwr.main = .on ∧ s.pwr.armed =
        true ∧ rail < 7)
    ∧ (∃ (s : State) (n : Nat) (rail : Nat) (high : Bool), s.pwr.bedrock = true ∧ n ≤ 3 ∧ s.pwr.armed = false)
    ∧ (∃ (s : State) (n : Nat), s.pwr.bedrock = true ∧ n ≤ 3 ∧ s.pwr.main = .on)
    ∧ (∃ (s : State) (n : Nat) (which : Nat), s.pwr.bedrock = true ∧ n ≤ 3 ∧ s.pwr.main = .on ∧ 2 ≤ which ∧ which ≤ 5 ∧
        (s.get R.PWR_STATE_DEV ≠ 3 ∨ which = 5))
    ∧ (∃ (s : State) (n : Nat) (tj : Nat), s.pwr.bedrock = true ∧ n ≤ 3 ∧ s.pwr.main = .on ∧ s.pwr.tempWarn = none ∧ tj <
        4096 ∧ tempOut tj = false)
    ∧ (∃ (s : State) (n : Nat) (tj : Nat), s.pwr.bedrock = true ∧ n ≤ 3 ∧ s.pwr.main = .on ∧ s.pwr.tempWarn = none ∧ tj <
        4096 ∧ tempOut tj = true ∧ s.tmp.tempBad = true) :=
  ⟨⟨{ wLive with pwr := { wOn.pwr with bedrock := true } }, 2, .pulse, by decide +kernel⟩,
   ⟨{ State.reset with pwr := { State.reset.pwr with bedrock := true }, tmp := {} }.set R.TMP_FLAGS_FLAG 0x20, 2, .high,
       by decide +kernel⟩,
   ⟨wLive, 2, by decide +kernel⟩,
   ⟨{ State.reset with tmp := { State.reset.tmp with lfsr := 0 } }, 0, 0,
       by decide, by decide, by decide, by decide, by simp [State.meshDiff]⟩,
   ⟨{ State.reset with tmp := { State.reset.tmp with lfsr := 0 } }, 0, 3, 3,
       by decide, by decide, by decide, by decide, by simp [State.meshDiff, List.range, List.range.loop, Nat.testBit], by decide, by decide, by decide⟩,
   ⟨{ State.reset with tmp := { State.reset.tmp with compared := true } }, 0, 3, by decide +kernel⟩,
   ⟨wLive, 0, 3, by decide +kernel⟩,
   ⟨wArmed, 0, 3, true, by decide +kernel⟩,
   ⟨wLive, 0, 3, true, by decide +kernel⟩,
   ⟨wArmed, 0, 3, true, by decide +kernel⟩,
   ⟨wLive, 0, 3, true, by decide +kernel⟩,
   ⟨wLive, 0, by decide +kernel⟩,
   ⟨wLive, 0, 5, by decide +kernel⟩,
   ⟨wLive, 0, 100, by decide +kernel⟩,
   ⟨{ wLive with tmp := { live := true, tempBad := true } }, 0, 500, by decide +kernel⟩⟩

/-- A state and operands for every clause of TamperResponses. -/
theorem met_TamperResponses :
    (∃ (s : State) (d : TEvt), s.mainOn = true ∧ s.tmp.live = true ∧ s.tmp.queue = [d] ∧ s.tmp.run = none ∧ s.asleep = false
        ∧ s.deepEntry = false ∧ d.src ≤ 15 ∧ s.get (R.TMP_MASK_MASK d.src) = 2)
    ∧ (∃ (s : State) (d : TEvt) (k : Nat), s.mainOn = true ∧ s.tmp.live = true ∧ s.tmp.queue = [d] ∧ s.tmp.run = none ∧
        s.asleep = false ∧ s.deepEntry = false ∧ d.src ≤ 15 ∧ s.get (R.TMP_MASK_MASK d.src) = 2 ∧ k < 7)
    ∧ (∃ (s : State) (d : TEvt), s.mainOn = true ∧ s.tmp.live = true ∧ s.tmp.queue = [d] ∧ s.tmp.run = none ∧ s.asleep =
        false ∧ s.deepEntry = false ∧ d.src ≤ 15 ∧ s.get (R.TMP_MASK_MASK d.src) = 4)
    ∧ (∃ (s : State) (d : TEvt), s.mainOn = true ∧ s.tmp.live = true ∧ s.tmp.queue = [d] ∧ s.tmp.run = none ∧ s.asleep =
        false ∧ s.deepEntry = false ∧ d.src ≤ 15 ∧ s.get (R.TMP_MASK_MASK d.src) = 1 ∧ tabFind s.tmp.lastRec d.src = none ∧
        s.tmp.logged < 15)
    ∧ (∃ (s : State) (d : TEvt), s.mainOn = true ∧ s.tmp.live = true ∧ s.tmp.queue = [d] ∧ s.tmp.run = none ∧ s.asleep =
        false ∧ s.deepEntry = false ∧ d.src ≤ 15 ∧ s.get (R.TMP_MASK_MASK d.src) = 0x20)
    ∧ (∃ (s : State) (d : TEvt), s.mainOn = true ∧ s.tmp.live = true ∧ s.tmp.queue = [d] ∧ s.tmp.run = none ∧ s.asleep =
        false ∧ s.deepEntry = false ∧ d.src ≤ 15 ∧ s.get (R.TMP_MASK_MASK d.src) = 0x10)
    ∧ (∃ (s : State) (d : TEvt), s.mainOn = true ∧ s.tmp.live = true ∧ s.tmp.queue = [d] ∧ s.tmp.run = none ∧ s.asleep =
        false ∧ s.deepEntry = false ∧ d.src ≤ 15 ∧ s.get (R.TMP_MASK_MASK d.src) = 8)
    ∧ (∃ (s : State) (d : TEvt) (m : Nat) (j : Job), s.mainOn = true ∧ s.tmp.live = true ∧ s.tmp.queue = [d] ∧ s.tmp.run =
        none ∧ s.asleep = false ∧ s.deepEntry = false ∧ d.src ≤ 15 ∧ s.get (R.TMP_MASK_MASK d.src) = m ∧ (m = 8 ∨ m = 0x10 ∨
        m = 0x20 ∨ m = 0x40) ∧ s.jsc.jobs.filter (fun k => k.id == j.id) = [j])
    ∧ (∃ (s : State) (d : TEvt), s.mainOn = true ∧ s.tmp.live = true ∧ s.tmp.queue = [d] ∧ s.tmp.run = none ∧ s.asleep =
        false ∧ s.deepEntry = false ∧ d.src ≤ 15 ∧ s.get (R.TMP_MASK_MASK d.src) = 0x40) :=
  ⟨⟨wFire 2, { src := 7 }, by decide +kernel⟩,
   ⟨wFire 2, { src := 7 }, 6, by decide +kernel⟩,
   ⟨wFire 4, { src := 7 }, by decide +kernel⟩,
   ⟨wFire 1, { src := 7 }, by decide +kernel⟩,
   ⟨wFire 0x20, { src := 7 }, by decide +kernel⟩,
   ⟨wFire 0x10, { src := 7 }, by decide +kernel⟩,
   ⟨wFire 8, { src := 7 }, by decide +kernel⟩,
   ⟨(wFire 8).setJsc { jobs := [wJob] }, { src := 7 }, 8, wJob, by decide +kernel⟩,
   ⟨wFire 0x40, { src := 7 }, by decide +kernel⟩⟩

/-- A state and operands for every clause of EvidenceClearing. -/
theorem met_EvidenceClearing :
    (∃ (s : State) (key seq : Nat), s.spiresRun = true ∧ key % 65536 = 0x6B1D ∧ seq % 65536 = s.get R.TMP_EVSEQ_SEQ % 65536
        ∧ s.keepHalted = false)
    ∧ (∃ (s : State) (key seq : Nat), s.spiresRun = true ∧ (key % 65536 ≠ 0x6B1D ∨ seq % 65536 ≠ s.get R.TMP_EVSEQ_SEQ %
        65536) ∧ s.keepHalted = false)
    ∧ (∃ (s : State) (v : Nat), s.spiresRun = true ∧ s.tmp.unlocked = false ∧ s.keepHalted = false)
    ∧ (∃ (s : State) (n : Nat), s.spiresRun = true ∧ n ≤ 16 ∧ s.tmp.unlocked = true ∧ s.tmp.logged < 15 ∧ s.keepHalted =
        false)
    ∧ (∃ (s : State), s.spiresRun = true ∧ s.tmp.unlocked = false ∧ s.keepHalted = false)
    ∧ (∃ (s : State), s.spiresRun = true ∧ s.tmp.unlocked = true ∧ s.keepHalted = false) :=
  ⟨⟨wOn, 0x6B1D, 0, by decide +kernel⟩,
   ⟨wOn, 0x6B1D, 1, by decide +kernel⟩,
   ⟨wOn, 4, by decide +kernel⟩,
   ⟨(wOn.setTmp { unlocked := true }).set R.TMP_FLAGS_FLAG 0x80, 7, by decide +kernel⟩,
   ⟨wOn, by decide +kernel⟩,
   ⟨wOn.setTmp { unlocked := true, logged := 20 }, by decide +kernel⟩⟩

/-- A state and operands for every clause of NetworkLinks. -/
theorem met_NetworkLinks :
    (∃ (s : State) (k : Nat), s.spiresRun = true ∧ k < 16 ∧ (s.get R.NET_LINK_UP).testBit k = true ∧ s.get R.NET_LINK_UP < 2
        ^ 16)
    ∧ (∃ (s : State) (k : Nat), s.spiresRun = true ∧ k < 16 ∧ s.linkExists k = true ∧ (s.get R.NET_LINK_UP).testBit k =
        false ∧ s.get R.NET_LINK_UP < 2 ^ 16 ∧ s.linksDark = false)
    ∧ (∃ (s : State) (k : Nat) (corr : Nat) (bad : Bool) (fr : List Byte), s.spiresRun = true ∧ k < 16 ∧ (s.get
        R.NET_LINK_UP).testBit k = false)
    ∧ (∃ (s : State) (k : Nat) (corr : Nat) (fr : List Byte), s.spiresRun = true ∧ k < 16 ∧ (s.get R.NET_LINK_UP).testBit k
        = true)
    ∧ (∃ (s : State) (k : Nat) (fr : List Byte), s.spiresRun = true ∧ k < 16 ∧ (s.get R.NET_LINK_UP).testBit k = true ∧ 2 ^
        21 < s.rxHeld k + fr.length)
    ∧ (∃ (s : State) (k : Nat) (fr en : List Byte), s.spiresRun = true ∧ k < 16 ∧ (s.get R.NET_LINK_UP).testBit k = true ∧
        s.linkEntry k = some en ∧ s.rxHeld k + fr.length ≤ 2 ^ 21)
    ∧ (∃ (s : State) (k : Nat) (r : NetReq) (en : List Byte), s.spiresRun = true ∧ k < 16 ∧ s.net.reqs.find? (fun x =>
        x.kind == 1) = some r ∧ s.linkEntry r.link = some en)
    ∧ (∃ (s : State) (k : Nat) (r : NetReq) (en : List Byte), s.spiresRun = true ∧ k < 16 ∧ s.net.reqs.find? (fun x =>
        x.kind == 2) = some r ∧ s.linkEntry r.link = some en)
    ∧ (∃ (s : State) (k : Nat) (r : NetReq) (en : List Byte) (st : Rat) (n : Nat), s.spiresRun = true ∧ k < 16 ∧
        s.net.reqs.find? (fun x => x.kind == 3) = some r ∧ s.linkEntry r.link = some en ∧ tabFind s.net.echo r.link = some
        (st, n) ∧ n ≠ 0 ∧ s.tnow < st + 1000000000 ∧ n < 1000)
    ∧ (∃ (s : State) (k : Nat) (r : NetReq) (en : List Byte) (st : Rat) (n : Nat), s.spiresRun = true ∧ k < 16 ∧
        s.net.reqs.find? (fun x => x.kind == 3) = some r ∧ s.linkEntry r.link = some en ∧ tabFind s.net.echo r.link = some
        (st, n) ∧ s.tnow < st + 1000000000 ∧ 1000 ≤ n)
    ∧ (∃ (s : State) (k : Nat) (n : Neigh), s.spiresRun = true ∧ k < 16 ∧ s.net.solving.find? (fun x => s.past x.ends) =
        some n)
    ∧ (∃ (s : State) (k : Nat) (n : Neigh), s.spiresRun = true ∧ k < 16 ∧ s.net.neigh.find? (fun x => decide (x.ends ≤
        s.tnow)) = some n)
    ∧ (∃ (s : State) (k : Nat) (m : TxMsg), s.spiresRun = true ∧ k < 16 ∧ s.linkSends k = true ∧ s.txNext k = some m ∧ m.raw
        ≠ [] ∧ m.job = none)
    ∧ (∃ (s : State) (k : Nat) (m : TxMsg) (en : List Byte), s.spiresRun = true ∧ k < 16 ∧ s.linkSends k = true ∧
        s.linkEntry k = some en ∧ s.txNext k = some m ∧ m.raw = [] ∧ (m.job = none ∨ m.done ≠ 0) ∧ m.ctx = none ∧ s.findCtx
        m.sid k = none)
    ∧ (∃ (s : State) (k : Nat) (m : TxMsg) (en : List Byte) (i : Nat) (x : SesEp), s.spiresRun = true ∧ k < 16 ∧ s.linkSends
        k = true ∧ s.linkEntry k = some en ∧ s.txNext k = some m ∧ m.raw = [] ∧ m.job = none ∧ m.done = 0 ∧ m.ctx = some i ∧
        (s.ctx i).st ≠ 0 ∧ (s.ctx i).sid = m.sid ∧ (s.ctx i).ep m.epoch = some x) :=
  ⟨⟨wNet.set R.NET_LINK_UP 0x8000, 15, by decide +kernel⟩,
   ⟨wOn.set (R.NET_PORT_MODE_MODE 3) 3, 15, by decide +kernel⟩,
   ⟨wOn, 15, 0, false, [], by decide +kernel⟩,
   ⟨wNet, 0, 3, [], by decide +kernel⟩,
   ⟨wFull21, 0, [1],
       by decide +kernel, by decide, by decide +kernel, by rw [wFull21, wFull21_held, zeros, List.length_replicate]; decide⟩,
   ⟨wNet, 0, [], wSection.drop 16, by decide +kernel⟩,
   ⟨wNet.setNet { wNet.net with reqs := [{ link := 0, kind := 1, frame := zeros 64 }] }, 0,
       { link := 0, kind := 1, frame := zeros 64 }, wSection.drop 16, by decide +kernel⟩,
   ⟨wNet.setNet { wNet.net with reqs := [{ link := 0, kind := 2, frame := zeros 64 }] }, 0,
       { link := 0, kind := 2, frame := zeros 64 }, wSection.drop 16, by decide +kernel⟩,
   ⟨wNet.setNet { wNet.net with reqs := [{ link := 0, kind := 3, frame := zeros 64 }], echo := [(0, (0, 999))] }, 0,
       { link := 0, kind := 3, frame := zeros 64 }, wSection.drop 16, 0, 999, by decide +kernel⟩,
   ⟨wNet.setNet { wNet.net with reqs := [{ link := 0, kind := 3, frame := zeros 64 }], echo := [(0, (0, 1000))] }, 0,
       { link := 0, kind := 3, frame := zeros 64 }, wSection.drop 16, 0, 1000, by decide +kernel⟩,
   ⟨wNet.setNet { solving := [{ link := 0, ip := [], ends := -1 }] }, 0, { link := 0, ip := [], ends := -1 },
       by decide +kernel⟩,
   ⟨wNet.setNet { neigh := [{ link := 0, ip := [], ends := 0 }] }, 0, { link := 0, ip := [], ends := 0 },
       by decide +kernel⟩,
   ⟨wNet.setNet { wNet.net with tx := [{ peer := { link := 0 }, raw := zeros 64 }] }, 0,
       { peer := { link := 0 }, raw := zeros 64 }, by decide +kernel⟩,
   ⟨(wNet.setSes {}).setNet { wNet.net with tx := [{ peer := wPeer, kind := 0x11, body := zeros 4 }] }, 0,
       { peer := wPeer, kind := 0x11, body := zeros 4 }, wSection.drop 16, by decide +kernel⟩,
   ⟨wNet.setNet { wNet.net with tx := [wSm] }, 0, wSm, wSection.drop 16, 0, { ms := zeros 48 }, by decide +kernel⟩⟩

/-- A state and operands for every clause of SessionDatagrams. -/
theorem met_SessionDatagrams :
    (∃ (s : State) (m : RxMsg) (i : Nat) (p : RxPart), s.spiresRun = true ∧ s.ses.parts.find? (fun p => s.past (p.firstAt +
        1000000)) = some p)
    ∧ (∃ (s : State) (m : RxMsg) (i : Nat) (p : Peer) (b : List Byte) (arr : Rat) (rest : List (Peer × List Byte × Rat)),
        s.spiresRun = true ∧ s.ses.missQ = (p, b, arr) :: rest ∧ fld b 1 1 ≠ 2 ∧ fld b 1 1 ≠ 0x11 ∧ s.findCtx (fld b 4 4)
        p.link = some i ∧ s.cacheFull = false)
    ∧ (∃ (s : State) (m : RxMsg) (i : Nat), s.spiresRun = true ∧ s.hasMsg 0x09 m i)
    ∧ (∃ (s : State) (m : RxMsg) (i : Nat) (x : SesEp), s.spiresRun = true ∧ s.hasMsg 0x0A m i ∧ (s.ctx i).ep (s.ctx
        i).cur.epoch = some x ∧ s.ses.cache.contains i = true)
    ∧ (∃ (s : State) (m : RxMsg) (i : Nat), s.spiresRun = true ∧ s.hasMsg 0x0B m i)
    ∧ (∃ (s : State) (m : RxMsg) (i : Nat), s.spiresRun = true ∧ s.hasMsg 0x0C m i)
    ∧ (∃ (s : State) (m : RxMsg) (i : Nat), s.spiresRun = true ∧ s.hasMsg 0x10 m i ∧ (s.ctx i).dome = 0 ∧ s.fedMsg m = false
        ∧ (s.get R.SES_KRX_RING_ENTRIES = 0 ∨ (s.get R.SES_KRX_IDX_TAIL + 1) % s.get R.SES_KRX_RING_ENTRIES = s.get
        R.SES_KRX_IDX_HEAD))
    ∧ (∃ (s : State) (m : RxMsg) (i : Nat), s.spiresRun = true ∧ s.hasMsg 0x10 m i ∧ (s.ctx i).dome = 0 ∧ s.fedMsg m = false
        ∧ 1 < s.get R.SES_KRX_RING_ENTRIES ∧ (s.get R.SES_KRX_IDX_TAIL + 1) % s.get R.SES_KRX_RING_ENTRIES ≠ s.get
        R.SES_KRX_IDX_HEAD)
    ∧ (∃ (s : State) (m : RxMsg) (i : Nat), s.spiresRun = true ∧ (s.ctx i).st = 2 ∧ (s.ctx i).idleMs ≠ 0 ∧ s.past ((s.ctx
        i).lastRx + ((s.ctx i).idleMs : Rat) * 1000000) = true)
    ∧ (∃ (s : State) (m : RxMsg) (i : Nat), s.spiresRun = true ∧ (s.ctx i).st ≠ 0 ∧ (s.ctx i).eps ≠ [] ∧ s.net.tx = [] ∧
        s.ses.cache.contains i = true)
    ∧ (∃ (s : State) (m : RxMsg) (i : Nat) (tail : Nat), s.spiresRun = true ∧ s.get R.SES_KTX_RING_ENTRIES = 0 ∧
        s.keepHalted = false)
    ∧ (∃ (s : State) (m : RxMsg) (i : Nat) (tail : Nat), s.spiresRun = true ∧ s.get R.SES_KTX_IDX_HEAD = 0 ∧ s.get
        R.SES_KTX_RING_ENTRIES = 2 ∧ tail = 1 ∧ s.ses.ctxs.all (fun e => e.2.st != 2) = true ∧ (s.rd s.sesX (s.get
        R.SES_KTX_RING_ADDR * 16) 16).2 = s ∧ s.keepHalted = false)
    ∧ (∃ (s : State) (m : RxMsg) (i : Nat) (tail h0 sid len n : Nat) (e : Nat × Ses), s.spiresRun = true ∧ tail = (h0 + 1) %
        n ∧ 1 < n ∧ n < 65536 ∧ h0 < n ∧ s.get R.SES_KTX_IDX_HEAD = h0 ∧ s.get R.SES_KTX_RING_ENTRIES = n ∧ s.flc.op = none
        ∧ sid = fld ((s.set R.SES_KTX_IDX_TAIL tail).rd s.sesX (s.get R.SES_KTX_RING_ADDR * 16 + 16 * h0) 16).1 0 4 ∧ len =
        fld ((s.set R.SES_KTX_IDX_TAIL tail).rd s.sesX (s.get R.SES_KTX_RING_ADDR * 16 + 16 * h0) 16).1 4 4 ∧
        s.ses.ctxs.find? (fun e => e.2.st == 2 && e.2.dome == 0 && e.2.sid == sid && !s.fedSes e.1) = some e ∧ len ≤ 2 ^ 20
        ∧ s.keepHalted = false)
    ∧ (∃ (s : State) (m : RxMsg) (i : Nat) (tail h0 n : Nat), s.spiresRun = true ∧ tail = (h0 + 1) % n ∧ 1 < n ∧ n < 65536 ∧
        h0 < n ∧ s.get R.SES_KTX_IDX_HEAD = h0 ∧ s.get R.SES_KTX_RING_ENTRIES = n ∧ s.flc.op = none ∧ (s.ses.ctxs.all (fun e
        => e.2.st != 2 || e.2.dome != 0 || e.2.sid != fld ((s.set R.SES_KTX_IDX_TAIL tail).rd s.sesX (s.get
        R.SES_KTX_RING_ADDR * 16 + 16 * h0) 16).1 0 4 || s.fedSes e.1) = true ∨ 2 ^ 20 < fld ((s.set R.SES_KTX_IDX_TAIL
        tail).rd s.sesX (s.get R.SES_KTX_RING_ADDR * 16 + 16 * h0) 16).1 4 4) ∧ s.keepHalted = false) :=
  ⟨⟨(wNet.set R.TIME_DTIME_NS 1000001).setSes { parts := [{ msg := wMsg, first := 0, total := 64, parts := [] }] }, wMsg, 0,
      { msg := wMsg, first := 0, total := 64, parts := [] }, by decide +kernel⟩,
   ⟨wNet.setSes { ctxs := [(0, wSes 2)], missQ := [(wPeer, zeros 40, 0)] }, wMsg, 0, wPeer, zeros 40, 0, [],
       by decide +kernel⟩,
   ⟨wInbox 9 2, wIn 9, 0, by decide +kernel⟩,
   ⟨wInbox 10 2, wIn 10, 0, { ms := zeros 48 }, by decide +kernel⟩,
   ⟨wInbox 11 2, wIn 11, 0, by decide +kernel⟩,
   ⟨wInbox 12 2, wIn 12, 0, by decide +kernel⟩,
   ⟨wInbox 16 0, wIn 16, 0, by decide +kernel⟩,
   ⟨(wInbox 16 0).set R.SES_KRX_RING_ENTRIES 4, wIn 16, 0, by decide +kernel⟩,
   ⟨(wNet.set R.TIME_DTIME_NS 5000001).setSes { ctxs := [(0, { wSes 2 with idleMs := 5 })], cache := [0] }, wMsg, 0,
       by decide +kernel⟩,
   ⟨(wNet.set R.TIME_DTIME_NS 5000001).setSes { ctxs := [(0, { wSes 2 with idleMs := 5 })], cache := [0] }, wMsg, 0,
       by decide +kernel⟩,
   ⟨wOn, wMsg, 0, 3, by decide +kernel⟩,
   ⟨wKtx, wMsg, 0, 1, by decide +kernel⟩,
   ⟨wKsend, wMsg, 0, 1, 0, 5, 4, 2, (0, { wSes 0 with sid := 5 }), by decide +kernel⟩,
   ⟨wKtx, wMsg, 0, 1, 0, 2, by decide +kernel⟩⟩

/-- A state and operands for every clause of SessionKeys. -/
theorem met_SessionKeys :
    (∃ (s : State) (m : RxMsg) (i : Nat), s.spiresRun = true ∧ s.hasMsg 0x07 m i ∧ (s.ctx i).st = 2 ∧ (s.ctx i).client =
        false ∧ (s.ctx i).rekeySent = false ∧ (s.ctx i).drained = true ∧ (s.ctx i).want = .none)
    ∧ (∃ (s : State) (m : RxMsg) (i : Nat), s.spiresRun = true ∧ s.hasMsg 0x06 m i ∧ (s.ctx i).client = false ∧ (s.ctx
        i).rekeySent = true ∧ m.epoch = (s.ctx i).cur.epoch)
    ∧ (∃ (s : State) (m : RxMsg) (i : Nat), s.spiresRun = true ∧ s.hasMsg 0x05 m i ∧ (s.ctx i).st = 2 ∧ (s.ctx i).client =
        true ∧ (s.ctx i).want = .none ∧ (s.ctx i).drained = true)
    ∧ (∃ (s : State) (m : RxMsg) (i : Nat), s.spiresRun = true ∧ s.hasMsg 0x08 m i ∧ (s.ctx i).client = true)
    ∧ (∃ (s : State) (m : RxMsg) (i : Nat), s.spiresRun = true ∧ (s.ctx i).rekeySent = true ∧ s.past ((s.ctx i).began +
        1000000000) = true)
    ∧ (∃ (s : State) (m : RxMsg) (i : Nat), s.spiresRun = true ∧ (s.ctx i).st = 2 ∧ (s.ctx i).client = false ∧ (s.ctx
        i).drained = false ∧ (s.ctx i).rekeyAsked = false ∧ s.sesOldFree i = true)
    ∧ (∃ (s : State) (m : RxMsg) (i : Nat), s.spiresRun = true ∧ (s.ctx i).st = 1 ∧ (s.ctx i).want = .none ∧ (s.ctx
        i).client = false ∧ s.past ((s.ctx i).began + 1000000000) = true)
    ∧ (∃ (s : State) (m : RxMsg) (i : Nat), s.spiresRun = true ∧ (s.ctx i).st = 1 ∧ (s.ctx i).want ≠ .helloC ∧ (s.ctx
        i).client = true ∧ s.past ((s.ctx i).began + 1000000000) = true) :=
  ⟨⟨wInbox 7 2, wIn 7, 0, by decide +kernel⟩,
   ⟨(wInbox 6 2).setSes { (wInbox 6 2).ses with ctxs := [(0, { wSes 2 with rekeySent := true })] }, wIn 6, 0,
       by decide +kernel⟩,
   ⟨(wInbox 5 2).setSes { (wInbox 5 2).ses with ctxs := [(0, { wSes 2 with client := true })] }, wIn 5, 0,
       by decide +kernel⟩,
   ⟨(wInbox 8 2).setSes { (wInbox 8 2).ses with ctxs := [(0, { wSes 2 with client := true })] }, wIn 8, 0,
       by decide +kernel⟩,
   ⟨(wNet.set R.TIME_DTIME_NS 1000000001).setSes { ctxs := [(0, { wSes 2 with rekeySent := true })] }, wMsg, 0,
       by decide +kernel⟩,
   ⟨wNet.setSes
       { ctxs := [(0, { wSes 2 with drained := false, eps := [{ epoch := 1, ms := zeros 48 }, { ms := zeros 48 }] })] },
       wMsg, 0, by decide +kernel⟩,
   ⟨(wNet.set R.TIME_DTIME_NS 1000000001).setSes { ctxs := [(0, { wSes 2 with st := 1 })] }, wMsg, 0, by decide +kernel⟩,
   ⟨(wNet.set R.TIME_DTIME_NS 1000000001).setSes { ctxs := [(0, { wSes 2 with st := 1, client := true })] }, wMsg, 0,
       by decide +kernel⟩⟩

/-- A state and operands for every clause of SessionHandshakes. -/
theorem met_SessionHandshakes :
    (∃ (s : State) (m : RxMsg) (i : Nat), s.spiresRun = true ∧ s.ses.inbox.find? (fun x => x.kind == 1) = some m ∧ s.get
        R.SES_CTX_VALID = 0)
    ∧ (∃ (s : State) (m : RxMsg) (i : Nat), s.spiresRun = true ∧ s.ses.inbox.find? (fun x => x.kind == 1) = some m ∧ s.get
        R.SES_CTX_VALID = 1 ∧ 256 ≤ s.get R.SES_STATUS_HS)
    ∧ (∃ (s : State) (m : RxMsg) (i : Nat) (code : Nat), s.spiresRun = true ∧ s.ses.inbox.find? (fun x => x.kind == 1) =
        some m ∧ s.get R.SES_CTX_VALID = 1 ∧ s.get R.SES_STATUS_HS < 256 ∧ 40 ≤ m.body.length ∧ (s.took m).helloCheck m =
        .inl code)
    ∧ (∃ (s : State) (m : RxMsg) (i : Nat) (en : List Byte) (k : Nat), s.spiresRun = true ∧ s.ses.inbox.find? (fun x =>
        x.kind == 1) = some m ∧ s.get R.SES_CTX_VALID = 1 ∧ s.get R.SES_STATUS_HS < 256 ∧ 40 ≤ m.body.length ∧ (s.took
        m).helloCheck m = .inr en ∧ m.body.length = 41 + 2 * (groupCurve (fld m.body 0 1)).f ∧ (s.took m).freeCtx = some k ∧
        (s.took m).cacheFull = false)
    ∧ (∃ (s : State) (m : RxMsg) (i : Nat), s.spiresRun = true ∧ s.hasMsg 0x02 m i ∧ (s.ctx i).st = 1 ∧ (s.ctx i).client =
        true ∧ (s.ctx i).sid = 0 ∧ (s.ctx i).want = .none)
    ∧ (∃ (s : State) (m : RxMsg) (i : Nat), s.spiresRun = true ∧ s.hasMsg 0x03 m i ∧ (s.ctx i).st = 1 ∧ (s.ctx i).client =
        false ∧ (s.ctx i).hs ≠ [] ∧ (s.ctx i).want = .none)
    ∧ (∃ (s : State) (m : RxMsg) (i : Nat) (k : Cmd) (e code : Nat) (p : Peer) (root t1 fin : List Byte), s.spiresRun = true
        ∧ s.pkUnit i e k code ∧ s.ses.pk = [] ∧ s.cer.ended = none ∧ (s.ctx i).want = .sigC p root t1 fin)
    ∧ (∃ (s : State) (m : RxMsg) (i : Nat) (k : Cmd) (e code : Nat) (p : Peer) (sid : Nat) (root t1 fin : List Byte),
        s.spiresRun = true ∧ s.pkUnit i e k code ∧ s.ses.pk = [] ∧ s.cer.ended = none ∧ (s.ctx i).want = .sigD p sid root t1
        fin ∧ (code ≠ 0 ∨ hmac 2 (finKey (s.ctx i).hs "d") (sha 2 t1) ≠ fin))
    ∧ (∃ (s : State) (m : RxMsg) (i : Nat) (k : Cmd) (e : Nat) (p : Peer) (sid : Nat) (root t1 fin : List Byte), s.spiresRun
        = true ∧ s.pkUnit i e k 0 ∧ s.ses.pk = [] ∧ s.cer.ended = none ∧ (s.ctx i).want = .sigD p sid root t1 fin ∧ hmac 2
        (finKey (s.ctx i).hs "d") (sha 2 t1) = fin)
    ∧ (∃ (s : State) (m : RxMsg) (i : Nat), s.spiresRun = true ∧ s.hasMsg 0x04 m i ∧ (s.ctx i).st = 1 ∧ (s.ctx i).client =
        true ∧ s.ses.kopen = some i ∧ s.fed.tower = none)
    ∧ (∃ (s : State) (m : RxMsg) (i : Nat), s.spiresRun = true ∧ s.hasMsg 0x11 m i ∧ (s.ctx i).st = 1 ∧ (s.ctx i).client =
        true ∧ s.ses.kopen = some i)
    ∧ (∃ (s : State) (m : RxMsg) (i : Nat) (addr : Nat), s.spiresRun = true ∧ s.get R.SES_KOPEN_STATUS_BUSY = 1)
    ∧ (∃ (s : State) (m : RxMsg) (i : Nat) (addr : Nat), s.spiresRun = true ∧ s.get R.SES_KOPEN_STATUS_BUSY = 0 ∧ addr % 64
        = 0 ∧ addr < 2 ^ 40 ∧ fld (s.rd s.sesX addr 64).1 20 1 ≠ 1 ∧ fld (s.rd s.sesX addr 64).1 20 1 ≠ 2 ∧ s.keepHalted =
        false)
    ∧ (∃ (s : State) (m : RxMsg) (i : Nat) (addr : Nat), s.spiresRun = true ∧ s.get R.SES_KOPEN_STATUS_BUSY = 0 ∧ addr % 64
        = 0 ∧ addr < 2 ^ 40 ∧ (fld (s.rd s.sesX addr 64).1 20 1 = 1 ∨ fld (s.rd s.sesX addr 64).1 20 1 = 2) ∧ s.keepHalted =
        false) :=
  ⟨⟨wInbox 1 2, { wIn 1 with ctx := none }, 0, by decide +kernel⟩,
   ⟨((wInbox 1 2).set R.SES_CTX_VALID 1).set R.SES_STATUS_HS 256, { wIn 1 with ctx := none }, 0, by decide +kernel⟩,
   ⟨(wInbox 1 2).set R.SES_CTX_VALID 1, { wIn 1 with ctx := none }, 0, 0x020C, by decide +kernel⟩,
   ⟨wHello, wHi, 0, wCls, 1, by decide +kernel⟩,
   ⟨(wInbox 2 0).setSes { (wInbox 2 0).ses with ctxs := [(0, { wSes 0 with st := 1, client := true })] }, wIn 2, 0,
       by decide +kernel⟩,
   ⟨(wInbox 3 2).setSes { (wInbox 3 2).ses with ctxs := [(0, { wSes 2 with st := 1, hs := zeros 48 })] }, wIn 3, 0,
       by decide +kernel⟩,
   ⟨wSig, wIn 3, 0, wSigCmd, 4, 0, wPeer, zeros 48, zeros 8, [], by decide +kernel⟩,
   ⟨wSigD, wIn 3, 0, wSigCmd, 4, 0, wPeer, 7, zeros 48, zeros 8, [], by decide +kernel⟩,
   ⟨wSigF, wIn 3, 0, wSigCmd, 4, wPeer, 7, zeros 48, zeros 8, hmac 2 (finKey [] "d") (sha 2 (zeros 8)), by decide +kernel⟩,
   ⟨(wInbox 4 0).setSes { (wInbox 4 0).ses with ctxs := [(0, { wSes 0 with st := 1, client := true })], kopen := some 0 },
       wIn 4, 0, by decide +kernel⟩,
   ⟨(wInbox 0x11 0).setSes
       { (wInbox 0x11 0).ses with ctxs := [(0, { wSes 0 with st := 1, client := true })], kopen := some 0 }, wIn 0x11, 0,
       by decide +kernel⟩,
   ⟨wOn.set R.SES_KOPEN_STATUS_BUSY 1, wMsg, 0, 64, by decide +kernel⟩,
   ⟨wOn, wMsg, 0, 64, by decide +kernel⟩,
   ⟨wAsked, wMsg, 0, 4096, by decide +kernel⟩⟩

/-- A state and operands for every clause of FederationMembers. -/
theorem met_FederationMembers :
    (∃ (s : State) (m : RxMsg) (i : Nat), s.spiresRun = true ∧ s.hasFed 0x40 m i ∧ s.fedServes = true ∧ fld m.body 24 4 ≤
        s.get R.FED_TERM_TERM ∧ (s.ctx i).root = s.fedAnchor ∧ fld m.body 4 4 = s.fedId ∧ tabFind s.fed.members i = none ∧
        s.fedCount = 0 ∧ s.fed.next = none)
    ∧ (∃ (s : State) (m : RxMsg) (i : Nat), s.spiresRun = true ∧ s.hasFed 0x40 m i ∧ s.fedServes = true ∧ ((s.ctx i).root ≠
        s.fedAnchor ∨ fld m.body 4 4 ≠ s.fedId))
    ∧ (∃ (s : State) (m : RxMsg) (i : Nat), s.spiresRun = true ∧ s.hasFed 0x41 m i ∧ s.fed.tower = some i ∧ s.get
        R.FED_TERM_TERM ≤ fld m.body 4 4 ∧ s.fedServes = false)
    ∧ (∃ (s : State) (m : RxMsg) (i : Nat), s.spiresRun = true ∧ s.hasFed 0x41 m i ∧ s.fedServes = true ∧ s.get
        R.FED_TERM_TERM < fld m.body 4 4)
    ∧ (∃ (s : State) (m : RxMsg) (i : Nat), s.spiresRun = true ∧ s.hasFed 0x42 m i ∧ s.fed.tower = some i ∧ s.get
        R.FED_TERM_TERM = fld m.body 4 4 ∧ s.get R.FED_EPOCH_CURRENT = fld m.body 8 4 ∧ fld m.body 12 4 = 0 ∧ fld m.body 16
        8 = 0 ∧ s.get R.FED_STATUS_STATE = 3)
    ∧ (∃ (s : State) (m : RxMsg) (i : Nat), s.spiresRun = true ∧ s.hasFed 0x42 m i ∧ s.fed.tower = some i ∧ fld m.body 4 4 <
        s.get R.FED_TERM_TERM)
    ∧ (∃ (s : State) (m : RxMsg) (i : Nat), s.spiresRun = true ∧ s.hasFed 0x43 m i ∧ s.fedServes = true)
    ∧ (∃ (s : State) (m : RxMsg) (i : Nat), s.spiresRun = true ∧ s.hasFed 0x44 m i ∧ s.fed.tower = some i)
    ∧ (∃ (s : State) (m : RxMsg) (i : Nat) (k e : Nat), s.spiresRun = true ∧ s.hasFed 0x46 m i ∧ tabFind s.fed.members i =
        some (k, e) ∧ s.fed.next = some (fld m.body 4 4) ∧ e ≠ fld m.body 4 4 + 1)
    ∧ (∃ (s : State) (m : RxMsg) (i : Nat), s.spiresRun = true ∧ s.hasFed 0x47 m i)
    ∧ (∃ (s : State) (m : RxMsg) (i : Nat) (k : Nat), s.spiresRun = true ∧ s.fedServes = true ∧ s.fed.members = [(i, (k,
        0))])
    ∧ (∃ (s : State) (m : RxMsg) (i : Nat), s.spiresRun = true ∧ (s.get R.FED_STATUS_STATE = 2 ∨ s.get R.FED_STATUS_STATE =
        3) ∧ s.fed.beaten = false ∧ s.fed.tower = some i)
    ∧ (∃ (s : State) (m : RxMsg) (i : Nat), s.spiresRun = true ∧ s.get R.FED_STATUS_STATE = 2 ∧ s.past (s.fed.lastBeat +
        s.lossNs) = true)
    ∧ (∃ (s : State) (m : RxMsg) (i : Nat), s.spiresRun = true ∧ s.get R.FED_STATUS_STATE = 3 ∧ s.fed.tower = none)
    ∧ (∃ (s : State) (m : RxMsg) (i : Nat), s.spiresRun = true ∧ s.get R.FED_STATUS_ROLE = 3 ∧ 1 ≤ s.get R.FED_STATUS_STATE
        ∧ s.get R.FED_STATUS_STATE ≤ 3 ∧ s.past (s.fed.lastBeat + 2 * s.lossNs) = true ∧ s.get R.FED_TERM_TERM < 2 ^ 32 - 1)
    ∧ (∃ (s : State) (m : RxMsg) (i : Nat), s.spiresRun = true ∧ s.get R.FED_STATUS_ROLE = 2 ∧ s.fedServes = false ∧
        s.fed.tower = none ∧ s.get R.FED_TERM_TERM < 2 ^ 32 - 1 ∧ s.keepHalted = false) :=
  ⟨⟨wTower 0x40, wFm 0x40, 0, by decide +kernel⟩,
   ⟨(wTower 0x40).setFed { section_ := [2, 3, 1, 0, 7, 0, 0, 0] }, wFm 0x40, 0, by decide +kernel⟩,
   ⟨wMember 0x41 1, wFm 0x41, 0, by decide +kernel⟩,
   ⟨((wTower 0x41).setSes { (wTower 0x41).ses with inbox := [wTm] }), wTm, 0, by decide +kernel⟩,
   ⟨wMember 0x42 3, wFm 0x42, 0, by decide +kernel⟩,
   ⟨(wMember 0x42 2).set R.FED_TERM_TERM 5, wFm 0x42, 0, by decide +kernel⟩,
   ⟨wTower 0x43, wFm 0x43, 0, by decide +kernel⟩,
   ⟨wMember 0x44 2, wFm 0x44, 0, by decide +kernel⟩,
   ⟨(wTower 0x46).setFed { (wTower 0x46).fed with members := [(0, (0, 0))], next := some 0 }, wFm 0x46, 0, 0, 0,
       by decide +kernel⟩,
   ⟨wMember 0x47 2, wFm 0x47, 0, by decide +kernel⟩,
   ⟨(wTower 0x46).setFed { (wTower 0x46).fed with members := [(0, (0, 0))] }, wMsg, 0, 0, by decide +kernel⟩,
   ⟨wMember 0x42 2, wMsg, 0, by decide +kernel⟩,
   ⟨(wMember 0x42 2).set R.TIME_DTIME_NS 10000000, wMsg, 0, by decide +kernel⟩,
   ⟨(wMember 0x42 3).setFed {}, wMsg, 0, by decide +kernel⟩,
   ⟨((wMember 0x42 2).set R.TIME_DTIME_NS 10000000).set R.FED_STATUS_ROLE 3, wMsg, 0, by decide +kernel⟩,
   ⟨((wMember 0x42 2).setFed {}).set R.FED_STATUS_ROLE 2, wMsg, 0, by decide +kernel⟩⟩

/-- A state and operands for every clause of FederationKeys. -/
theorem met_FederationKeys :
    (∃ (s : State) (m : RxMsg) (i : Nat), s.spiresRun = true ∧ s.hasFed 0x45 m i ∧ s.fed.tower = some i ∧ s.fedServes =
        false ∧ s.fed.next = some (fld m.body 4 4) ∧ s.get R.FED_FENCE_DRAINED = 1 ∧ (ksParse m.body).all s.ksOk = false)
    ∧ (∃ (s : State) (m : RxMsg) (i : Nat), s.spiresRun = true ∧ s.get R.FED_FENCE_DRAINED = 0)
    ∧ (∃ (s : State) (m : RxMsg) (i : Nat) (e : Nat), s.spiresRun = true ∧ s.get R.FED_FENCE_DRAINED = 1 ∧ s.hasFed 0x45 m i
        ∧ s.fed.next = some e ∧ e ≠ fld m.body 4 4)
    ∧ (∃ (s : State) (m : RxMsg) (i : Nat), s.spiresRun = true ∧ s.hasFed 0x45 m i ∧ s.fed.tower = some i ∧ s.fedServes =
        false ∧ s.fed.next = some (fld m.body 4 4) ∧ s.get R.FED_FENCE_DRAINED = 1 ∧ s.get R.FED_STATUS_STAGED = 1 ∧
        s.fed.stage = some (fld m.body 4 4) ∧ (ksParse m.body).all s.ksOk = true)
    ∧ (∃ (s : State) (m : RxMsg) (i : Nat), s.spiresRun = true ∧ s.fedServes = true ∧ s.get R.FED_FENCE_DRAINED = 0 ∧
        s.keepHalted = false)
    ∧ (∃ (s : State) (m : RxMsg) (i : Nat), s.spiresRun = true ∧ s.fedServes = true ∧ s.get R.FED_FENCE_DRAINED = 1 ∧ s.get
        R.FED_STATUS_STAGED = 0 ∧ s.fedCount ≠ 0 ∧ s.keepHalted = false)
    ∧ (∃ (s : State) (m : RxMsg) (i : Nat), s.spiresRun = true ∧ s.fedServes = true ∧ s.get R.FED_FENCE_DRAINED = 1 ∧ s.get
        R.FED_STATUS_STAGED = 1 ∧ (s.get R.FED_NEXT_T_A : Rat) < s.now + 4 * s.hbNs ∧ s.keepHalted = false)
    ∧ (∃ (s : State) (m : RxMsg) (i : Nat), s.spiresRun = true ∧ s.fedServes = true ∧ s.get R.FED_FENCE_DRAINED = 1 ∧ s.get
        R.FED_STATUS_STAGED = 1 ∧ s.now + 4 * s.hbNs ≤ (s.get R.FED_NEXT_T_A : Rat) ∧ s.fed.members = [] ∧ s.get
        R.FED_EPOCH_CURRENT < 2 ^ 32 - 1 ∧ s.keepHalted = false)
    ∧ (∃ (s : State) (m : RxMsg) (i : Nat) (e : Nat), s.spiresRun = true ∧ s.fed.next = some e ∧ (s.get R.FED_NEXT_T_A :
        Rat) ≤ s.now ∧ s.get R.FED_FENCE_DRAINED = 1 ∧ s.get R.FED_STATUS_STAGED = 1 ∧ e < 2 ^ 32)
    ∧ (∃ (s : State) (m : RxMsg) (i : Nat) (e : Nat), s.spiresRun = true ∧ s.fed.next = some e ∧ (s.get R.FED_NEXT_T_A :
        Rat) ≤ s.now ∧ (s.get R.FED_STATUS_STAGED = 0 ∨ s.get R.FED_FENCE_DRAINED = 0) ∧ s.get R.FED_STATUS_BEHIND = 0)
    ∧ (∃ (s : State) (m : RxMsg) (i : Nat), s.spiresRun = true ∧ s.get R.FED_FENCE_DRAINED = 0 ∧ s.fed.next = none ∧
        s.jsc.jobs.all (fun j => !(j.live && j.fepoch == s.fed.old)) = true ∧ s.fedCount = 1) :=
  ⟨⟨wStaging.setSes { wStaging.ses with inbox := [wKs] }, wKs, 0, by decide +kernel⟩,
   ⟨(wTower 0x45).set R.FED_FENCE_DRAINED 0, wMsg, 0, by decide +kernel⟩,
   ⟨wStaging.setFed { wStaging.fed with next := some 3 }, wFm 0x45, 0, 3, by decide +kernel⟩,
   ⟨wStaging.setFed { wStaging.fed with stage := some 0 }, wFm 0x45, 0, by decide +kernel⟩,
   ⟨(wTower 0x46).set R.FED_FENCE_DRAINED 0, wMsg, 0, by decide +kernel⟩,
   ⟨wDrain.set R.FED_FENCE_DRAINED 1, wMsg, 0, by decide +kernel⟩,
   ⟨((wTower 0x46).set R.FED_FENCE_DRAINED 1).set R.FED_STATUS_STAGED 1, wMsg, 0, by decide +kernel⟩,
   ⟨((((wTower 0x40).set R.FED_FENCE_DRAINED 1).set R.FED_STATUS_STAGED 1).set R.FED_NEXT_T_A 10000000), wMsg, 0,
       by decide +kernel⟩,
   ⟨(((wTower 0x46).set R.FED_FENCE_DRAINED 1).set R.FED_STATUS_STAGED 1).setFed { next := some 4 }, wMsg, 0, 4,
       by decide +kernel⟩,
   ⟨((wTower 0x46).set R.FED_FENCE_DRAINED 1).setFed { next := some 4 }, wMsg, 0, 4, by decide +kernel⟩,
   ⟨wDrain, wMsg, 0, by decide +kernel⟩⟩

/-- A state and operands for every clause of FlashCommands. -/
theorem met_FlashCommands :
    (∃ (s : State) (half : Nat), s.spiresRun = true ∧ s.flcBusy = true ∧ s.keepHalted = false)
    ∧ (∃ (s : State) (half : Nat), s.spiresRun = true ∧ s.flcBusy = false ∧ s.get R.FLC_ADDR_OFFSET % 512 ≠ 0 ∧ s.keepHalted
        = false)
    ∧ (∃ (s : State) (half : Nat), s.spiresRun = true ∧ s.flcBusy = false ∧ s.get R.FLC_ADDR_OFFSET % 512 = 0 ∧ isDdr (s.get
        R.FLC_SRC_ADDR * 64) = true ∧ s.inTwin (s.get R.FLC_ADDR_OFFSET) = false ∧ (s.sector (s.get R.FLC_ADDR_OFFSET /
        0x10000)).1 ≠ 2 ∧ s.blank (s.get R.FLC_ADDR_OFFSET) 512 = false ∧ s.keepHalted = false)
    ∧ (∃ (s : State) (half : Nat), s.spiresRun = true ∧ s.flcBusy = false ∧ s.get R.FLC_ADDR_OFFSET % 512 = 0 ∧ isDdr (s.get
        R.FLC_SRC_ADDR * 64) = true ∧ s.inTwin (s.get R.FLC_ADDR_OFFSET) = false ∧ (s.sector (s.get R.FLC_ADDR_OFFSET /
        0x10000)).1 ≠ 2 ∧ s.blank (s.get R.FLC_ADDR_OFFSET) 512 = true ∧ s.keepHalted = false)
    ∧ (∃ (s : State) (half : Nat), s.spiresRun = true ∧ s.flcBusy = false ∧ (half = 1 ∨ half = 2) ∧ s.get R.FLC_ADDR_OFFSET
        % 256 = 0 ∧ isDdr (s.get R.FLC_SRC_ADDR * 64) = true ∧ s.inTwin (s.get R.FLC_ADDR_OFFSET / 512 * 512 + (half - 1) *
        256) = false ∧ (s.sector ((s.get R.FLC_ADDR_OFFSET / 512 * 512 + (half - 1) * 256) / 0x10000)).1 ≠ 2 ∧ s.blank
        (s.get R.FLC_ADDR_OFFSET / 512 * 512 + (half - 1) * 256) 256 = true ∧ s.keepHalted = false)
    ∧ (∃ (s : State) (half : Nat), s.spiresRun = true ∧ s.flcBusy = false ∧ s.get R.FLC_ADDR_OFFSET % 0x10000 = 0 ∧ s.inTwin
        (s.get R.FLC_ADDR_OFFSET) = true ∧ s.keepHalted = false)
    ∧ (∃ (s : State) (half : Nat), s.spiresRun = true ∧ s.flcBusy = false ∧ s.get R.FLC_ADDR_OFFSET % 0x10000 = 0 ∧ s.inTwin
        (s.get R.FLC_ADDR_OFFSET) = false ∧ s.keepHalted = false)
    ∧ (∃ (s : State) (half : Nat), s.spiresRun = true ∧ s.flcBusy = false ∧ s.get R.FLC_ADDR_OFFSET % 0x10000 = 0 ∧
        s.keepHalted = false)
    ∧ (∃ (s : State) (half : Nat), s.spiresRun = true ∧ s.flc.op ≠ none ∧ s.get R.FLC_STATUS_SCANNED = 1 ∧ s.get
        R.FLC_STATUS_SUSPENDED = 0 ∧ s.get R.FLC_STATUS_AUTOSUSPENDED = 0 ∧ s.keepHalted = false)
    ∧ (∃ (s : State) (half : Nat), s.spiresRun = true ∧ s.flc.op = none ∧ s.get R.FLC_STATUS_SCANNED = 1 ∧ s.keepHalted =
        false)
    ∧ (∃ (s : State) (half : Nat), s.spiresRun = true ∧ s.get R.FLC_STATUS_SCANNED = 1 ∧ s.get R.FLC_STATUS_SUSPENDED = 1 ∧
        s.flc.int = none ∧ s.keepHalted = false)
    ∧ (∃ (s : State) (half : Nat), s.spiresRun = true ∧ s.get R.FLC_STATUS_SCANNED = 1 ∧ s.get R.FLC_STATUS_SUSPENDED = 0 ∧
        s.flc.int = none ∧ s.keepHalted = false)
    ∧ (∃ (s : State) (half : Nat), s.spiresRun = true ∧ s.flcBusy = false ∧ s.keepHalted = false) :=
  ⟨⟨wOn, 0, by decide +kernel⟩,
   ⟨wFlash.set R.FLC_ADDR_OFFSET 0x1000100, 0, by decide +kernel⟩,
   ⟨(wFlash.putByte 0xF001000000 0), 0, by decide +kernel⟩,
   ⟨wFlash, 0, by decide +kernel⟩,
   ⟨wFlash, 2, by decide +kernel⟩,
   ⟨wFlash.set R.FLC_ADDR_OFFSET 0, 0, by decide +kernel⟩,
   ⟨wFlash, 0, by decide +kernel⟩,
   ⟨wFlash, 0, by decide +kernel⟩,
   ⟨wFlop 1, 0, by decide +kernel⟩,
   ⟨wFlash, 0, by decide +kernel⟩,
   ⟨(wFlop 1).set R.FLC_STATUS_SUSPENDED 1, 0, by decide +kernel⟩,
   ⟨wFlash, 0, by decide +kernel⟩,
   ⟨wFlash, 1, by decide +kernel⟩⟩

/-- A state and operands for every clause of FlashProgress. -/
theorem met_FlashProgress :
    (∃ (s : State) (o : FlOp), s.spiresRun = true ∧ s.flc.op = some o ∧ o.op = 1 ∧ o.phase = 1 ∧ s.flcStill = false)
    ∧ (∃ (s : State) (o : FlOp), s.spiresRun = true ∧ s.flc.op = some o ∧ o.op = 2 ∧ o.phase = 0 ∧ s.flcStill = false)
    ∧ (∃ (s : State) (o : FlOp), s.spiresRun = true ∧ s.flc.op = some o ∧ o.op = 2 ∧ o.phase = 1 ∧ s.flcStill = false)
    ∧ (∃ (s : State) (o : FlOp), s.spiresRun = true ∧ s.flc.op = some o ∧ o.op = 2 ∧ o.phase = 2 ∧ s.flcStill = false ∧
        (s.sector (o.addr / 0x10000)).2 < 99999)
    ∧ (∃ (s : State) (o : FlOp), s.spiresRun = true ∧ s.flc.op = some o ∧ o.op = 6 ∧ o.phase = 0 ∧ s.flcStill = false)
    ∧ (∃ (s : State) (o : FlOp), s.spiresRun = true ∧ s.flc.op = some o ∧ o.op = 6 ∧ o.phase = 1 ∧ s.flcStill = false)
    ∧ (∃ (s : State) (o : FlOp), s.spiresRun = true ∧ s.flc.op = some o ∧ o.op = 1 ∧ o.phase = 1 ∧ s.flcStill = false ∧ 39 ≤
        o.pulses)
    ∧ (∃ (s : State) (o : FlOp), s.spiresRun = true ∧ s.flc.op = some o ∧ o.op = 2 ∧ o.phase = 1 ∧ s.flcStill = false ∧ 199
        ≤ o.pulses)
    ∧ (∃ (s : State) (o : FlOp) (b : Bool), s.spiresRun = true ∧ s.flc.op = some o ∧ s.flcStill = true)
    ∧ (∃ (s : State) (o : FlOp), s.spiresRun = true ∧ s.flc.op = some o ∧ o.op = 3 ∧ s.flcStill = false)
    ∧ (∃ (s : State) (o : FlOp), s.spiresRun = true ∧ s.get R.FLC_STATUS_AUTOSUSPENDED = 1 ∧ s.flc.lastRead + (1000 * max 1
        (s.get R.FLC_CTRL_HOLDOFF_US) : Nat) ≤ s.tnow)
    ∧ (∃ (s : State) (o : FlOp) (v : InfoW) (vs : List InfoW), s.spiresRun = true ∧ s.flc.info = v :: vs ∧ s.flc.op = none)
    ∧ (∃ (s : State) (o : FlOp), s.spiresRun = true ∧ s.flc.op ≠ none)
    ∧ (∃ (s : State) (o : FlOp), s.spiresRun = true ∧ s.flc.op = none ∧ s.flc.ledgerFull = true)
    ∧ (∃ (s : State) (o : FlOp), s.spiresRun = true ∧ s.flc.ledgerFull = false) :=
  ⟨⟨wFlop 1, wPage, by decide +kernel⟩,
   ⟨wFlash.setFlc { op := some { wPage with op := 2, phase := 0 } }, { wPage with op := 2, phase := 0 }, by decide +kernel⟩,
   ⟨wFlop 2, { wPage with op := 2 }, by decide +kernel⟩,
   ⟨wFlash.setFlc { op := some { wPage with op := 2, phase := 2 } }, { wPage with op := 2, phase := 2 }, by decide +kernel⟩,
   ⟨wFlash.setFlc { op := some { wPage with op := 6, phase := 0 } }, { wPage with op := 6, phase := 0 }, by decide +kernel⟩,
   ⟨wFlop 6, { wPage with op := 6 }, by decide +kernel⟩,
   ⟨wFlash.setFlc { op := some { wPage with pulses := 39 } }, { wPage with pulses := 39 }, by decide +kernel⟩,
   ⟨wFlash.setFlc { op := some { wPage with op := 2, size := 32, pulses := 199 } },
       { wPage with op := 2, size := 32, pulses := 199 }, by decide +kernel⟩,
   ⟨(wFlop 2).setFlc { (wFlop 2).flc with halted := true }, { wPage with op := 2 }, true, by decide +kernel⟩,
   ⟨wFlop 3, { wPage with op := 3 }, by decide +kernel⟩,
   ⟨((wFlop 1).set R.FLC_STATUS_AUTOSUSPENDED 1).set R.TIME_DTIME_NS 1000000, wPage, by decide +kernel⟩,
   ⟨wFlash.setFlc { info := [.twin 1] }, wPage, .twin 1, [], by decide +kernel⟩,
   ⟨wFlop 1, wPage, by decide +kernel⟩,
   ⟨wFull, wPage, by decide +kernel⟩,
   ⟨wFlash, wPage, by decide +kernel⟩⟩

/-- A state and operands for every clause of ContactCards. -/
theorem met_ContactCards :
    (∃ (s : State) (n : Nat), n < 2 ∧ s.mainOn = true ∧ s.spiresRun = true ∧ s.get (R.ICC_STATUS_PRESENT n) = 0 ∧
        s.keepHalted = false)
    ∧ (∃ (s : State) (n : Nat), n < 2 ∧ s.mainOn = true ∧ s.spiresRun = true ∧ s.get (R.ICC_STATUS_PRESENT n) = 1 ∧ s.get
        (R.ICC_STATUS_BUSY n) = 1 ∧ s.keepHalted = false)
    ∧ (∃ (s : State) (n : Nat), n < 2 ∧ s.mainOn = true ∧ s.spiresRun = true ∧ s.get (R.ICC_STATUS_PRESENT n) = 1 ∧ s.get
        (R.ICC_STATUS_BUSY n) = 0 ∧ s.keepHalted = false)
    ∧ (∃ (s : State) (n : Nat) (len : Nat), n < 2 ∧ s.mainOn = true ∧ s.spiresRun = true ∧ s.get (R.ICC_STATUS_PRESENT n) =
        0 ∧ s.keepHalted = false)
    ∧ (∃ (s : State) (n : Nat) (len : Nat), n < 2 ∧ s.mainOn = true ∧ s.spiresRun = true ∧ s.get (R.ICC_STATUS_PRESENT n) =
        1 ∧ s.get (R.ICC_STATUS_BUSY n) = 0 ∧ 4 ≤ len ∧ len ≤ 261 ∧ s.keepHalted = false)
    ∧ (∃ (s : State) (n : Nat), n < 2 ∧ s.mainOn = true ∧ s.spiresRun = true ∧ s.get (R.ICC_STATUS_PRESENT n) = 1 ∧ s.get
        (R.ICC_STATUS_BUSY n) = 0 ∧ s.keepHalted = false)
    ∧ (∃ (s : State) (n : Nat), n < 2 ∧ s.mainOn = true ∧ s.spiresRun = true ∧ s.get (R.ICC_STATUS_PRESENT n) = 1 ∧ s.get
        (R.ICC_STATUS_BUSY n) = 1 ∧ (s.iccSlot n).cmd = 2 ∧ s.keepHalted = false)
    ∧ (∃ (s : State) (n : Nat), n < 2 ∧ s.mainOn = true ∧ s.spiresRun = true ∧ s.get (R.ICC_STATUS_ACTIVE n) = 1 ∧
        (s.iccSlot n).clkStop = true ∧ s.get (R.ICC_STATUS_BUSY n) = 0)
    ∧ (∃ (s : State) (n : Nat), n < 2 ∧ s.mainOn = true ∧ s.get (R.ICC_STATUS_PRESENT n) = 0)
    ∧ (∃ (s : State) (n : Nat), n < 2 ∧ s.mainOn = true ∧ s.get (R.ICC_STATUS_PRESENT n) = 1 ∧ s.get (R.ICC_STATUS_BUSY n) =
        1 ∧ (s.iccSlot n).cmd = 2)
    ∧ (∃ (s : State) (n : Nat), n < 2 ∧ s.mainOn = true ∧ s.get (R.ICC_STATUS_PRESENT n) = 1 ∧ s.get (R.ICC_STATUS_BUSY n) =
        0)
    ∧ (∃ (s : State) (n : Nat), n < 2 ∧ s.mainOn = true ∧ s.spiresRun = true ∧ (s.iccSlot n).phase = .retry)
    ∧ (∃ (s : State) (n : Nat), n < 2 ∧ s.mainOn = true ∧ s.spiresRun = true ∧ ((s.iccSlot n).phase = .t0 ∨ (s.iccSlot
        n).phase = .t1 ∨ (s.iccSlot n).phase = .pps ∨ (s.iccSlot n).phase = .ifs) ∧ (s.iccSlot n).cmd = 2)
    ∧ (∃ (s : State) (n : Nat), n < 2 ∧ s.mainOn = true ∧ s.spiresRun = true ∧ (s.iccSlot n).phase = .atr ∧ (s.iccSlot
        n).one = true ∧ s.get (R.ICC_STATUS_CLASS n) = 0)
    ∧ (∃ (s : State) (n : Nat) (b : Byte), n < 2 ∧ s.spiresRun = true ∧ (s.iccSlot n).phase = .atr ∧ atrParse ((s.iccSlot
        n).rx ++ [b]) = none ∧ (s.iccSlot n).rx.length < 33)
    ∧ (∃ (s : State) (n : Nat) (b : Byte), n < 2 ∧ s.spiresRun = true ∧ ((s.iccSlot n).phase = .t0 ∨ (s.iccSlot n).phase =
        .atr) ∧ (s.iccSlot n).repAt = none ∧ (s.iccSlot n).reps < s.get (R.ICC_CFG_RETRY n))
    ∧ (∃ (s : State) (n : Nat) (b : Byte), n < 2 ∧ s.spiresRun = true ∧ (s.iccSlot n).phase = .t0 ∧ (s.iccSlot n).cmd = 2 ∧
        b.toNat < (s.iccSlot n).tx.length ∧ (s.iccSlot n).repAt = some b.toNat ∧ s.get (R.ICC_CFG_RETRY n) ≤ (s.iccSlot
        n).reps)
    ∧ (∃ (s : State) (n : Nat) (b : Byte), n < 2 ∧ s.spiresRun = true ∧ (s.iccSlot n).phase = .t0 ∧ (s.iccSlot n).wait =
        .proc ∧ b = 0x60)
    ∧ (∃ (s : State) (n : Nat) (b : Byte), n < 2 ∧ s.spiresRun = true ∧ (s.iccSlot n).phase = .t0 ∧ (s.iccSlot n).wait =
        .proc ∧ fld (s.iccSlot n).hdr 1 1 = b.toNat ∧ b.toNat / 16 ≠ 6 ∧ b.toNat / 16 ≠ 9 ∧ (s.iccSlot n).left ≠ [])
    ∧ (∃ (s : State) (n : Nat) (b : Byte) (m : Nat), n < 2 ∧ s.spiresRun = true ∧ (s.iccSlot n).phase = .t0 ∧ (s.iccSlot
        n).wait = .data m ∧ 1 < m)
    ∧ (∃ (s : State) (n : Nat) (b : Byte), n < 2 ∧ s.spiresRun = true ∧ (s.iccSlot n).phase = .t0 ∧ (s.iccSlot n).wait =
        .sw2 0x90 ∧ (s.iccSlot n).cmd = 2)
    ∧ (∃ (s : State) (n : Nat) (b : Byte), n < 2 ∧ s.spiresRun = true ∧ (s.iccSlot n).phase = .t1 ∧ (s.iccSlot n).rx.length
        < 2) :=
  ⟨⟨wOn, 1, by decide +kernel⟩,
   ⟨(wCard 0).set (R.ICC_STATUS_BUSY 1) 1, 1, by decide +kernel⟩,
   ⟨wCard 0, 1, by decide +kernel⟩,
   ⟨wOn, 1, 5, by decide +kernel⟩,
   ⟨wCard 2, 1, 5, by decide +kernel⟩,
   ⟨wCard 0, 1, by decide +kernel⟩,
   ⟨(wCard 2).set (R.ICC_STATUS_BUSY 1) 1, 1, by decide +kernel⟩,
   ⟨((wCard 0).setIcc 1 { clkStop := true }).set (R.ICC_STATUS_ACTIVE 1) 1, 1, by decide +kernel⟩,
   ⟨wOn, 1, by decide +kernel⟩,
   ⟨(wCard 2).set (R.ICC_STATUS_BUSY 1) 1, 1, by decide +kernel⟩,
   ⟨wCard 0, 1, by decide +kernel⟩,
   ⟨(wCard 1).setIcc 1 { phase := .retry }, 1, by decide +kernel⟩,
   ⟨(wCard 2).setIcc 1 { phase := .t1, cmd := 2 }, 1, by decide +kernel⟩,
   ⟨(wCard 1).setIcc 1 { phase := .atr, one := true }, 1, by decide +kernel⟩,
   ⟨(wCard 1).setIcc 1 { phase := .atr }, 1, 0x3B, by decide +kernel⟩,
   ⟨((wCard 2).setIcc 1 { phase := .t0 }).set (R.ICC_CFG_RETRY 1) 3, 1, 0, by decide +kernel⟩,
   ⟨(wCard 2).setIcc 1 { phase := .t0, cmd := 2, tx := [0, 0xA4], reps := 3, repAt := some 1 }, 1, 1, by decide +kernel⟩,
   ⟨(wCard 2).setIcc 1 { phase := .t0 }, 1, 0x60, by decide +kernel⟩,
   ⟨(wCard 2).setIcc 1 { phase := .t0, hdr := [0, 0xA4, 4, 0, 2], left := [1, 2] }, 1, 0xA4, by decide +kernel⟩,
   ⟨(wCard 2).setIcc 1 { phase := .t0, wait := .data 2 }, 1, 7, 2, by decide +kernel⟩,
   ⟨(wCard 2).setIcc 1 { phase := .t0, wait := .sw2 0x90, cmd := 2 }, 1, 0, by decide +kernel⟩,
   ⟨(wCard 2).setIcc 1 { phase := .t1, rx := [0] }, 1, 0, by decide +kernel⟩⟩

/-- A state and operands for every clause of Ceremony. -/
theorem met_Ceremony :
    (∃ (s : State) (n : Nat), s.mainOn = true ∧ s.spiresRun = true ∧ s.get R.ICC_CER_STATUS_STATE = 0 ∧ 2 ≤ n ∧ n ≤ 8 ∧
        s.get R.RST_ROOT_SRK_VALID = 0 ∧ (s.get R.RST_LC_STATE = 1 ∨ s.get R.RST_LC_STATE = 2) ∧ s.keepHalted = false)
    ∧ (∃ (s : State) (n d : Nat), s.mainOn = true ∧ s.spiresRun = true ∧ s.get R.ICC_CER_STATUS_STATE = 0 ∧ 2 ≤ n ∧ n ≤ 8 ∧
        1 ≤ d ∧ d ≤ 63 ∧ s.get R.RST_LC_STATE ≠ 3 ∧ s.keepHalted = false)
    ∧ (∃ (s : State) (target n d : Nat), s.mainOn = true ∧ s.spiresRun = true ∧ (s.get R.ICC_CER_STATUS_STATE ≠ 0 ∨ n = 1 ∨
        n = 9 ∨ s.get R.RST_LC_STATE = 3) ∧ n < 16 ∧ s.keepHalted = false)
    ∧ (∃ (s : State) (n i : Nat), s.mainOn = true ∧ s.spiresRun = true ∧ n < 2 ∧ i ≤ 7 ∧ s.get (R.ICC_STATUS_PRESENT n) = 1
        ∧ s.get (R.ICC_STATUS_BUSY n) = 0 ∧ (s.iccSlot (1 - n)).cmd ≠ 4 ∧ s.get R.ICC_CER_STATUS_STATE = 1 ∧ (s.get
        R.ICC_CER_STATUS_GOT).testBit i = false ∧ s.keepHalted = false)
    ∧ (∃ (s : State) (n i : Nat), s.mainOn = true ∧ s.spiresRun = true ∧ n < 2 ∧ i < 16 ∧ s.get (R.ICC_STATUS_PRESENT n) = 1
        ∧ s.get (R.ICC_STATUS_BUSY n) = 0 ∧ (s.iccSlot (1 - n)).cmd ≠ 4 ∧ s.get R.ICC_CER_STATUS_STATE = 1 ∧ (7 < i ∨ (s.get
        R.ICC_CER_STATUS_GOT).testBit i = true) ∧ s.keepHalted = false)
    ∧ (∃ (s : State), s.mainOn = true ∧ s.spiresRun = true ∧ (s.get R.ICC_CER_STATUS_STATE ≠ 1 ∨ (setBits 8 (s.get
        R.ICC_CER_STATUS_GOT)).length ≠ s.cer.n) ∧ s.keepHalted = false)
    ∧ (∃ (s : State), s.mainOn = true ∧ s.spiresRun = true ∧ s.get R.ICC_CER_STATUS_STATE = 1 ∧ (setBits 8 (s.get
        R.ICC_CER_STATUS_GOT)).length = s.cer.n ∧ s.cer.target = 2 ∧ s.keepHalted = false)
    ∧ (∃ (s : State), s.mainOn = true ∧ s.spiresRun = true ∧ s.get R.ICC_CER_STATUS_STATE = 1 ∧ (setBits 8 (s.get
        R.ICC_CER_STATUS_GOT)).length = s.cer.n ∧ s.cer.target = 1 ∧ s.flc.srk = none ∧ s.keepHalted = false)
    ∧ (∃ (s : State) (v : Nat), s.mainOn = true ∧ s.spiresRun = true ∧ s.get R.ICC_CER_STATUS_STATE = 1 ∧ (setBits 8 (s.get
        R.ICC_CER_STATUS_GOT)).length = s.cer.n ∧ s.cer.target = 1 ∧ s.flc.srk = some v ∧ s.keepHalted = false)
    ∧ (∃ (s : State), s.mainOn = true ∧ s.spiresRun = true ∧ s.keepHalted = false)
    ∧ (∃ (s : State), s.mainOn = true ∧ s.get R.ICC_CER_STATUS_STATE ≠ 0 ∧ s.cer.last + 600000000000 + 5 / 8 ≤ s.tbase)
    ∧ (∃ (s : State), s.mainOn = true ∧ s.spiresRun = true ∧ (s.get R.ICC_CER_STATUS_STATE ≠ 2 ∨ s.cmds.any (fun (c : Cmd)
        => c.job == cerJob) = true) ∧ s.keepHalted = false)
    ∧ (∃ (s : State), s.mainOn = true ∧ s.spiresRun = true ∧ s.get R.ICC_CER_STATUS_STATE = 2 ∧ s.cmds.any (fun (c : Cmd) =>
        c.job == cerJob) = false ∧ s.flashWaits (s.get R.ICC_CER_KB_ADDR * 64) = false ∧ isPrivateBlock
        (({ s with cer := { s.cer with last := s.tbase } }).rd
        ({ agent := 0x2B1, dom := s.get (R.ICC_CFG_DOME (s.cer.slot % 2)), epoch := s.get R.ART_EPOCH_CURRENT }) (s.get
        R.ICC_CER_KB_ADDR * 64) (s.get R.ICC_CER_KB_LEN)).1 = false ∧ s.keepHalted = false)
    ∧ (∃ (s : State), s.mainOn = true ∧ s.spiresRun = true ∧ s.get R.ICC_CER_STATUS_STATE = 2 ∧ s.cmds.any (fun (c : Cmd) =>
        c.job == cerJob) = false ∧ s.flashWaits (s.get R.ICC_CER_KB_ADDR * 64) = false ∧ isPrivateBlock
        (({ s with cer := { s.cer with last := s.tbase } }).rd
        ({ agent := 0x2B1, dom := s.get (R.ICC_CFG_DOME (s.cer.slot % 2)), epoch := s.get R.ART_EPOCH_CURRENT }) (s.get
        R.ICC_CER_KB_ADDR * 64) (s.get R.ICC_CER_KB_LEN)).1 = true ∧ s.keepHalted = false) :=
  ⟨⟨wOn, 8, by decide +kernel⟩,
   ⟨wOn, 2, 63, by decide +kernel⟩,
   ⟨wOn, 1, 9, 0, by decide +kernel⟩,
   ⟨(wCard 0).set R.ICC_CER_STATUS_STATE 1, 1, 7, by decide +kernel⟩,
   ⟨(wCard 0).set R.ICC_CER_STATUS_STATE 1, 1, 8, by decide +kernel⟩,
   ⟨wOn, by decide +kernel⟩,
   ⟨wCer 2, by decide +kernel⟩,
   ⟨wCer 1, by decide +kernel⟩,
   ⟨(wCer 1).setFlc { srk := some 5 }, 5, by decide +kernel⟩,
   ⟨wOn, by decide +kernel⟩,
   ⟨wLater (wCer 1) 600000000001, by decide +kernel⟩,
   ⟨wOn, by decide +kernel⟩,
   ⟨(wCer 2).set R.ICC_CER_STATUS_STATE 2, by decide +kernel⟩,
   ⟨wKb, by decide +kernel⟩⟩

/-- A state and operands for every clause of RemovableCard. -/
theorem met_RemovableCard :
    (∃ (s : State), s.mainOn = true ∧ s.get R.SDH_STATUS_PRESENT = 0)
    ∧ (∃ (s : State), s.mainOn = true ∧ s.get R.SDH_STATUS_PRESENT = 1 ∧ s.sdh.phase = .idle)
    ∧ (∃ (s : State), s.mainOn = true ∧ s.get R.SDH_STATUS_PRESENT = 1 ∧ s.sdh.phase ≠ .idle ∧ s.sdh.phase ≠ .commit)
    ∧ (∃ (s : State) (c : Instr), s.mainOn = true ∧ s.spiresRun = true ∧ c ∈ [.sdhInit, .sdhRead, .sdhWrite, .sleep, .awake,
        .rpmbCounter, .rpmbWrite, .rpmbRead, .rpmbKey, .csaWrite 1, .csaRead 1, .settle, .powerOff] ∧ s.get
        R.SDH_STATUS_BUSY = 1 ∧ s.keepHalted = false)
    ∧ (∃ (s : State) (c : Instr), s.mainOn = true ∧ s.spiresRun = true ∧ c ∈ [.sdhInit, .sdhRead, .sdhWrite, .sleep, .awake,
        .rpmbCounter, .rpmbWrite, .rpmbRead, .rpmbKey, .csaWrite 1, .csaRead 1, .settle, .powerOff] ∧ s.get
        R.SDH_STATUS_BUSY = 0 ∧ s.get R.SDH_STATUS_PRESENT = 0 ∧ s.keepHalted = false)
    ∧ (∃ (s : State) (c : Instr), s.mainOn = true ∧ s.spiresRun = true ∧ c ∈ [.sdhRead, .sdhWrite, .sleep, .awake,
        .rpmbCounter, .rpmbWrite, .rpmbRead, .rpmbKey, .csaWrite 1, .csaRead 1, .settle] ∧ s.get R.SDH_STATUS_BUSY = 0 ∧
        s.get R.SDH_STATUS_READY = 0 ∧ s.keepHalted = false)
    ∧ (∃ (s : State), s.mainOn = true ∧ s.spiresRun = true ∧ s.get R.SDH_STATUS_BUSY = 0 ∧ s.get R.SDH_STATUS_PRESENT = 1 ∧
        s.keepHalted = false)
    ∧ (∃ (s : State) (data : List Byte), s.mainOn = true ∧ s.spiresRun = true ∧ s.sdh.phase = .identify ∧ fld data 0 1 = 1 ∧
        fld data 1 1 = 1 ∧ s.sdh.s18r = true)
    ∧ (∃ (s : State) (data : List Byte) (crc : Nat), s.mainOn = true ∧ s.spiresRun = true ∧ s.sdh.phase = .identify ∧ (fld
        data 0 1 = 2 ∨ fld data 0 1 = 1 ∧ crc = sdCrc7 data ∧ (fld data 1 1 ≠ 1 ∨ s.sdh.s18r = false)))
    ∧ (∃ (s : State) (data : List Byte) (crc : Nat), s.mainOn = true ∧ s.spiresRun = true ∧ s.sdh.phase = .identify)
    ∧ (∃ (s : State) (data : List Byte), s.mainOn = true ∧ s.spiresRun = true ∧ s.sdh.phase = .switch)
    ∧ (∃ (s : State) (kind crc : Nat) (data : List Byte), s.mainOn = true ∧ s.spiresRun = true ∧ s.sdh.phase = .switch ∧
        (kind ≠ 0 ∨ crc ≠ sdCrc7 data))
    ∧ (∃ (s : State) (data : List Byte), s.mainOn = true ∧ s.spiresRun = true ∧ s.sdh.phase = .select)
    ∧ (∃ (s : State) (data : List Byte), s.mainOn = true ∧ s.spiresRun = true ∧ s.sdh.phase = .mode)
    ∧ (∃ (s : State) (data : List Byte) (crc : Nat), s.mainOn = true ∧ s.spiresRun = true ∧ (s.sdh.phase = .select ∨
        s.sdh.phase = .mode ∨ s.sdh.phase = .command ∨ s.sdh.phase = .sleep ∨ s.sdh.phase = .identify ∧ fld data 0 1 = 1) ∧
        crc ≠ sdCrc7 data)
    ∧ (∃ (s : State), s.mainOn = true ∧ s.spiresRun = true ∧ s.get R.SDH_STATUS_BUSY = 0 ∧ s.get R.SDH_STATUS_PRESENT = 1 ∧
        s.get R.SDH_STATUS_READY = 1 ∧ s.get R.SDH_STATUS_TYPE = 1 ∧ s.keepHalted = false)
    ∧ (∃ (s : State), s.mainOn = true ∧ s.spiresRun = true ∧ s.get R.SDH_STATUS_BUSY = 0 ∧ s.get R.SDH_STATUS_PRESENT = 1 ∧
        s.get R.SDH_STATUS_READY = 1 ∧ s.get R.SDH_STATUS_TYPE ≠ 1 ∧ s.keepHalted = false)
    ∧ (∃ (s : State), s.mainOn = true ∧ s.spiresRun = true ∧ s.get R.SDH_STATUS_BUSY = 0 ∧ s.get R.SDH_STATUS_PRESENT = 1 ∧
        s.get R.SDH_STATUS_READY = 1 ∧ s.keepHalted = false)
    ∧ (∃ (s : State) (data : List Byte), s.mainOn = true ∧ s.spiresRun = true ∧ s.sdh.phase = .sleep)
    ∧ (∃ (s : State), s.mainOn = true ∧ s.spiresRun = true ∧ s.get R.SDH_STATUS_BUSY = 0 ∧ s.get R.SDH_STATUS_PRESENT = 1 ∧
        s.keepHalted = false)
    ∧ (∃ (s : State) (c : Instr) (op : Nat), s.spiresRun = true ∧ (c, op) ∈ [(.sdhRead, 2), (.sdhWrite, 3)] ∧ s.get
        R.SDH_STATUS_BUSY = 0 ∧ s.get R.SDH_STATUS_PRESENT = 1 ∧ s.get R.SDH_STATUS_READY = 1 ∧ (s.get R.SDH_COUNT_BLOCKS =
        0 ∨ s.sdh.cap < s.get R.SDH_ARG_BLOCK + s.get R.SDH_COUNT_BLOCKS) ∧ s.keepHalted = false)
    ∧ (∃ (s : State), s.spiresRun = true ∧ s.get R.SDH_STATUS_BUSY = 0 ∧ s.get R.SDH_STATUS_PRESENT = 1 ∧ s.get
        R.SDH_STATUS_READY = 1 ∧ 0 < s.get R.SDH_COUNT_BLOCKS ∧ s.get R.SDH_ARG_BLOCK + s.get R.SDH_COUNT_BLOCKS ≤ s.sdh.cap
        ∧ s.keepHalted = false)
    ∧ (∃ (s : State), s.spiresRun = true ∧ s.get R.SDH_STATUS_BUSY = 0 ∧ s.get R.SDH_STATUS_PRESENT = 1 ∧ s.get
        R.SDH_STATUS_READY = 1 ∧ 0 < s.get R.SDH_COUNT_BLOCKS ∧ s.get R.SDH_ARG_BLOCK + s.get R.SDH_COUNT_BLOCKS ≤ s.sdh.cap
        ∧ s.keepHalted = false)
    ∧ (∃ (s : State) (data : List Byte), s.spiresRun = true ∧ s.sdh.phase = .command ∧ s.sdh.op = 2)
    ∧ (∃ (s : State) (data : List Byte), s.spiresRun = true ∧ s.sdh.phase = .command ∧ s.sdh.op = 3 ∧ s.flashWaits (s.get
        R.SDH_ADDR_ADDR * 512) = false)
    ∧ (∃ (s : State) (data : List Byte), s.spiresRun = true ∧ s.sdh.phase = .block ∧ s.sdh.op = 2)
    ∧ (∃ (s : State) (data : List Byte) (crc : Nat), s.spiresRun = true ∧ s.sdh.phase = .block ∧ s.sdh.op = 3 ∧ s.get
        R.SDH_RESULT_DONE + 1 = s.get R.SDH_COUNT_BLOCKS ∧ s.flashWaits (s.get R.SDH_ADDR_ADDR * 512) = false)
    ∧ (∃ (s : State) (data : List Byte) (crc : Nat), s.spiresRun = true ∧ s.sdh.phase = .block ∧ s.sdh.op = 3 ∧ s.get
        R.SDH_RESULT_DONE + 1 ≠ s.get R.SDH_COUNT_BLOCKS ∧ s.flashWaits (s.get R.SDH_ADDR_ADDR * 512) = false)
    ∧ (∃ (s : State) (data : List Byte) (crc : Nat), s.spiresRun = true ∧ s.sdh.phase = .block ∧ s.sdh.op = 2 ∧ crc ≠
        s.sdCheck data ∧ s.sdh.tries < s.get R.SDH_CFG_RETRIES)
    ∧ (∃ (s : State) (data : List Byte) (crc : Nat), s.spiresRun = true ∧ s.sdh.phase = .block ∧ s.sdh.op = 3 ∧ s.sdh.tries
        < s.get R.SDH_CFG_RETRIES)
    ∧ (∃ (s : State) (data : List Byte) (crc : Nat), s.spiresRun = true ∧ s.sdIn data = .blocks ∧ crc ≠ s.sdCheck data ∧
        s.get R.SDH_CFG_RETRIES ≤ s.sdh.tries)
    ∧ (∃ (s : State) (data : List Byte), s.spiresRun = true ∧ s.sdh.phase ≠ .idle ∧ s.sdh.phase ≠ .off ∧ s.sdh.phase ≠
        .switch ∧ s.sdh.phase ≠ .commit)
    ∧ (∃ (s : State), s.spiresRun = true ∧ s.sdh.phase ≠ .idle ∧ s.sdh.phase ≠ .off ∧ s.sdh.phase ≠ .switch ∧ s.sdh.phase ≠
        .commit)
    ∧ (∃ (s : State), s.spiresRun = true ∧ s.sdh.phase = .switch) :=
  ⟨⟨wOn, by decide +kernel⟩,
   ⟨wSd 0 .idle, by decide +kernel⟩,
   ⟨(wSd 7 .result).set R.SDH_RPMB_PEND_VALID 1, by decide +kernel⟩,
   ⟨(wSd 0 .idle).set R.SDH_STATUS_BUSY 1, .sdhInit, by decide +kernel⟩,
   ⟨wOn, .settle, by decide +kernel⟩,
   ⟨(wSd 0 .idle).set R.SDH_STATUS_READY 0, .sleep, by decide +kernel⟩,
   ⟨wSd 0 .idle, by decide +kernel⟩,
   ⟨(wSd 1 .identify).setSdh { (wSd 1 .identify).sdh with s18r := true }, [1, 1], by decide +kernel⟩,
   ⟨wSd 1 .identify, [2, 1], 9, by decide +kernel⟩,
   ⟨wSd 1 .identify, [], 0, by decide +kernel⟩,
   ⟨wSd 1 .switch, [1, 2], by decide +kernel⟩,
   ⟨wSd 1 .switch, 0, 1, [], by decide +kernel⟩,
   ⟨(wSd 1 .select).set R.SDH_STATUS_TYPE 2, List.replicate 22 9, by decide +kernel⟩,
   ⟨(wSd 1 .mode).setSdh { op := 1, phase := .mode, ven := true, cap := 100, fell := true }, [], by decide +kernel⟩,
   ⟨wSd 1 .mode, [], 1, by decide +kernel⟩,
   ⟨(wSd 0 .idle).set R.SDH_STATUS_TYPE 1, by decide +kernel⟩,
   ⟨(wSd 0 .idle).set R.SDH_STATUS_TYPE 2, by decide +kernel⟩,
   ⟨wSd 0 .idle, by decide +kernel⟩,
   ⟨wSd 4 .sleep, [], by decide +kernel⟩,
   ⟨wSd 0 .idle, by decide +kernel⟩,
   ⟨wSd 0 .idle, .sdhRead, 2, by decide +kernel⟩,
   ⟨((wSd 0 .idle).set R.SDH_COUNT_BLOCKS 1).set R.SDH_ARG_BLOCK 99, by decide +kernel⟩,
   ⟨((wSd 0 .idle).set R.SDH_COUNT_BLOCKS 1).set R.SDH_ARG_BLOCK 99, by decide +kernel⟩,
   ⟨wSd 2 .command, [], by decide +kernel⟩,
   ⟨wSd 3 .command, [], by decide +kernel⟩,
   ⟨(wSd 2 .block).set R.SDH_COUNT_BLOCKS 2, zeros 512, by decide +kernel⟩,
   ⟨(wSd 3 .block).set R.SDH_COUNT_BLOCKS 1, [], 5, by decide +kernel⟩,
   ⟨(wSd 3 .block).set R.SDH_COUNT_BLOCKS 2, [], 5, by decide +kernel⟩,
   ⟨wSd 2 .block, [], 1, by decide +kernel⟩,
   ⟨wSd 3 .block, [], 0, by decide +kernel⟩,
   ⟨(wSd 2 .block).set R.SDH_CFG_RETRIES 0, [], 1, by decide +kernel⟩,
   ⟨wSd 3 .block, [0, 8], by decide +kernel⟩,
   ⟨wSd 3 .block, by decide +kernel⟩,
   ⟨wSd 1 .switch, by decide +kernel⟩⟩

/-- A state and operands for every clause of CardSealed. -/
theorem met_CardSealed :
    (∃ (s : State) (c : Instr) (op : Nat), s.spiresRun = true ∧ (c, op) ∈ [(.rpmbCounter, 6), (.rpmbWrite, 7), (.rpmbRead,
        8), (.rpmbKey, 9), (.settle, 12)] ∧ s.get R.SDH_STATUS_BUSY = 0 ∧ s.get R.SDH_STATUS_PRESENT = 1 ∧ s.get
        R.SDH_STATUS_READY = 1 ∧ s.get R.SDH_STATUS_RPMB ≠ 1 ∧ ((op = 12 → s.get R.SDH_RPMB_PEND_VALID = 0 ∨ (s.get
        R.SDH_CID_HI_CID * 2 ^ 64 + s.get R.SDH_CID_LO_CID) = s.sdh.pendCid)) ∧ s.keepHalted = false)
    ∧ (∃ (s : State) (c : Instr) (op : Nat), s.spiresRun = true ∧ (c, op) ∈ [(.rpmbCounter, 6), (.rpmbWrite, 7), (.rpmbRead,
        8), (.rpmbKey, 9)] ∧ s.get R.SDH_STATUS_BUSY = 0 ∧ s.get R.SDH_STATUS_PRESENT = 1 ∧ s.get R.SDH_STATUS_READY = 1 ∧
        s.get R.SDH_STATUS_RPMB = 1 ∧ s.get R.SDH_RPMB_PEND_VALID = 1 ∧ s.keepHalted = false)
    ∧ (∃ (s : State), s.spiresRun = true ∧ s.get R.SDH_STATUS_BUSY = 0 ∧ s.get R.SDH_STATUS_PRESENT = 1 ∧ s.get
        R.SDH_STATUS_READY = 1 ∧ s.get R.SDH_STATUS_RPMB = 1 ∧ s.get R.SDH_RPMB_PEND_VALID = 0 ∧ s.keepHalted = false)
    ∧ (∃ (s : State), s.spiresRun = true ∧ s.get R.SDH_STATUS_BUSY = 0 ∧ s.get R.SDH_STATUS_PRESENT = 1 ∧ s.get
        R.SDH_STATUS_READY = 1 ∧ s.get R.SDH_STATUS_RPMB = 1 ∧ s.get R.SDH_RPMB_PEND_VALID = 0 ∧ 0 < s.get
        R.SDH_COUNT_BLOCKS ∧ s.get R.SDH_ARG_BLOCK + s.get R.SDH_COUNT_BLOCKS ≤ 65536 ∧ s.keepHalted = false)
    ∧ (∃ (s : State), s.spiresRun = true ∧ s.get R.SDH_STATUS_BUSY = 0 ∧ s.get R.SDH_STATUS_PRESENT = 1 ∧ s.get
        R.SDH_STATUS_READY = 1 ∧ s.get R.SDH_STATUS_RPMB = 1 ∧ s.get R.SDH_RPMB_PEND_VALID = 0 ∧ 0 < s.get
        R.SDH_COUNT_BLOCKS ∧ s.get R.SDH_ARG_BLOCK + s.get R.SDH_COUNT_BLOCKS ≤ 65536 ∧ s.keepHalted = false)
    ∧ (∃ (s : State), s.spiresRun = true ∧ s.get R.SDH_STATUS_BUSY = 0 ∧ s.get R.SDH_STATUS_PRESENT = 1 ∧ s.get
        R.SDH_STATUS_READY = 1 ∧ s.get R.SDH_STATUS_RPMB = 1 ∧ s.get R.SDH_RPMB_PEND_VALID = 0 ∧ s.keepHalted = false)
    ∧ (∃ (s : State), s.spiresRun = true ∧ s.get R.SDH_STATUS_BUSY = 0 ∧ s.get R.SDH_STATUS_PRESENT = 1 ∧ s.get
        R.SDH_STATUS_READY = 1 ∧ s.get R.SDH_RPMB_PEND_VALID = 1 ∧ s.sdh.pendCid ≠ s.get R.SDH_CID_HI_CID * 2 ^ 64 + s.get
        R.SDH_CID_LO_CID ∧ s.keepHalted = false)
    ∧ (∃ (s : State), s.spiresRun = true ∧ s.get R.SDH_STATUS_BUSY = 0 ∧ s.get R.SDH_STATUS_PRESENT = 1 ∧ s.get
        R.SDH_STATUS_READY = 1 ∧ s.get R.SDH_STATUS_RPMB = 1 ∧ s.get R.SDH_RPMB_PEND_VALID = 1 ∧ s.sdh.pendCid = s.get
        R.SDH_CID_HI_CID * 2 ^ 64 + s.get R.SDH_CID_LO_CID ∧ 0 < s.get R.SDH_COUNT_BLOCKS ∧ s.get R.SDH_ARG_BLOCK + s.get
        R.SDH_COUNT_BLOCKS ≤ 65536 ∧ s.keepHalted = false)
    ∧ (∃ (s : State) (data : List Byte), s.spiresRun = true ∧ s.sdh.phase = .counter ∧ s.sdh.op = 6)
    ∧ (∃ (s : State) (data : List Byte), s.spiresRun = true ∧ s.sdh.phase = .counter ∧ s.sdh.op = 7)
    ∧ (∃ (s : State) (data : List Byte), s.spiresRun = true ∧ s.sdh.phase = .counter ∧ s.sdh.op = 12)
    ∧ (∃ (s : State) (data : List Byte), s.spiresRun = true ∧ s.sdh.phase = .frames ∧ s.sdh.op = 8)
    ∧ (∃ (s : State) (data : List Byte), s.spiresRun = true ∧ s.sdh.phase = .frames ∧ s.sdh.op = 12)
    ∧ (∃ (s : State) (data : List Byte), s.spiresRun = true ∧ s.sdh.phase = .result ∧ s.sdh.op = 7)
    ∧ (∃ (s : State) (data : List Byte), s.spiresRun = true ∧ s.sdh.phase = .result ∧ s.sdh.op = 9)
    ∧ (∃ (s : State) (c : Instr) (op a : Nat), s.spiresRun = true ∧ a < 16 ∧ (c, op) ∈ [(.csaWrite a, 10), (.csaRead a, 11)]
        ∧ s.get R.SDH_STATUS_BUSY = 0 ∧ s.get R.SDH_STATUS_PRESENT = 1 ∧ s.get R.SDH_STATUS_READY = 1 ∧ (s.get
        R.SDH_COUNT_BLOCKS = 0 ∨ 2048 < s.get R.SDH_COUNT_BLOCKS ∨ s.sdh.cap < s.get R.SDH_ARG_BLOCK + 2 * (s.get
        R.SDH_COUNT_BLOCKS + 1)) ∧ s.keepHalted = false)
    ∧ (∃ (s : State) (a : Nat), s.spiresRun = true ∧ a < 16 ∧ s.get R.SDH_STATUS_BUSY = 0 ∧ s.get R.SDH_STATUS_PRESENT = 1 ∧
        s.get R.SDH_STATUS_READY = 1 ∧ 0 < s.get R.SDH_COUNT_BLOCKS ∧ s.get R.SDH_COUNT_BLOCKS ≤ 2048 ∧ s.get
        R.SDH_ARG_BLOCK + 2 * (s.get R.SDH_COUNT_BLOCKS + 1) ≤ s.sdh.cap ∧ s.keepHalted = false)
    ∧ (∃ (s : State) (a : Nat), s.spiresRun = true ∧ a < 16 ∧ s.get R.SDH_STATUS_BUSY = 0 ∧ s.get R.SDH_STATUS_PRESENT = 1 ∧
        s.get R.SDH_STATUS_READY = 1 ∧ 0 < s.get R.SDH_COUNT_BLOCKS ∧ s.get R.SDH_COUNT_BLOCKS ≤ 2048 ∧ s.get
        R.SDH_ARG_BLOCK + 2 * (s.get R.SDH_COUNT_BLOCKS + 1) ≤ s.sdh.cap ∧ s.keepHalted = false)
    ∧ (∃ (s : State) (data : List Byte), s.spiresRun = true ∧ s.sdh.phase = .header 0)
    ∧ (∃ (s : State) (data head : List Byte), s.spiresRun = true ∧ s.sdh.phase = .header 1 ∧ s.sdh.op = 11 ∧ s.sdh.heads =
        [head])
    ∧ (∃ (s : State) (data head : List Byte), s.spiresRun = true ∧ s.sdh.phase = .header 1 ∧ s.sdh.op = 10 ∧ s.sdh.heads =
        [head])
    ∧ (∃ (s : State) (data : List Byte) (crc : Nat), s.spiresRun = true ∧ s.sdh.phase = .csaWrite ∧ 512 < s.sdh.todo.length)
    ∧ (∃ (s : State) (data : List Byte) (crc : Nat), s.spiresRun = true ∧ s.sdh.phase = .csaWrite ∧ s.sdh.todo.length ≤ 512)
    ∧ (∃ (s : State) (data : List Byte), s.spiresRun = true ∧ s.sdh.phase = .verify ∧ s.sdh.buf.length + 512 = 512 * (s.get
        R.SDH_COUNT_BLOCKS + 1))
    ∧ (∃ (s : State), s.spiresRun = true ∧ s.sdh.phase = .commit ∧ s.flc.op = none ∧ s.flc.info.contains (.csa s.sdh.area
        s.sdh.counter) = true)
    ∧ (∃ (s : State), s.spiresRun = true ∧ s.sdh.phase = .commit ∧ s.flc.info.contains (.csa s.sdh.area s.sdh.counter) =
        false)
    ∧ (∃ (s : State), s.spiresRun = true ∧ s.sdh.phase = .commit ∧ s.flc.op ≠ none ∧ s.flc.info.contains (.csa s.sdh.area
        s.sdh.counter) = true)
    ∧ (∃ (s : State) (p : Nat) (data : List Byte), s.spiresRun = true ∧ s.sdh.phase = .data p ∧ s.sdh.buf.length + 512 = 512
        * s.get R.SDH_COUNT_BLOCKS) :=
  ⟨⟨wSd 0 .idle, .settle, 12, by decide +kernel⟩,
   ⟨(wRpmb 0 .idle).set R.SDH_RPMB_PEND_VALID 1, .rpmbWrite, 7, by decide +kernel⟩,
   ⟨wRpmb 0 .idle, by decide +kernel⟩,
   ⟨(wRpmb 0 .idle).set R.SDH_COUNT_BLOCKS 1, by decide +kernel⟩,
   ⟨(wRpmb 0 .idle).set R.SDH_COUNT_BLOCKS 1, by decide +kernel⟩,
   ⟨wRpmb 0 .idle, by decide +kernel⟩,
   ⟨((wRpmb 0 .idle).set R.SDH_RPMB_PEND_VALID 1).set R.SDH_CID_LO_CID 7, by decide +kernel⟩,
   ⟨((wRpmb 0 .idle).set R.SDH_RPMB_PEND_VALID 1).set R.SDH_COUNT_BLOCKS 1, by decide +kernel⟩,
   ⟨wRpmb 6 .counter, zeros 512, by decide +kernel⟩,
   ⟨wRpmb 7 .counter, zeros 512, by decide +kernel⟩,
   ⟨wRpmb 12 .counter, zeros 512, by decide +kernel⟩,
   ⟨wRpmb 8 .frames, zeros 512, by decide +kernel⟩,
   ⟨wRpmb 12 .frames, zeros 512, by decide +kernel⟩,
   ⟨wRpmb 7 .result, zeros 512, by decide +kernel⟩,
   ⟨wRpmb 9 .result, zeros 510 ++ [1, 0], by decide +kernel⟩,
   ⟨wSd 0 .idle, .csaRead 3, 11, 3, by decide +kernel⟩,
   ⟨(wSd 0 .idle).set R.SDH_COUNT_BLOCKS 1, 15, by decide +kernel⟩,
   ⟨(wSd 0 .idle).set R.SDH_COUNT_BLOCKS 1, 15, by decide +kernel⟩,
   ⟨wSd 10 (.header 0), zeros 512, by decide +kernel⟩,
   ⟨(wSd 11 (.header 1)).setSdh { (wSd 11 (.header 1)).sdh with heads := [zeros 512] }, zeros 512, zeros 512,
       by decide +kernel⟩,
   ⟨(wSd 10 (.header 1)).setSdh { (wSd 10 (.header 1)).sdh with heads := [zeros 512], key := zeros 32 }, zeros 512, zeros
       512, by decide +kernel⟩,
   ⟨(wSd 10 .csaWrite).setSdh { (wSd 10 .csaWrite).sdh with todo := zeros 1024 }, [], 5, by decide +kernel⟩,
   ⟨(wSd 10 .csaWrite).setSdh { (wSd 10 .csaWrite).sdh with todo := zeros 512 }, [], 5, by decide +kernel⟩,
   ⟨((wSd 10 .verify).set R.SDH_COUNT_BLOCKS 1).setSdh { (wSd 10 .verify).sdh with buf := zeros 512 }, zeros 512,
       by decide +kernel⟩,
   ⟨(wSd 10 .commit).setFlc { info := [.csa 0 0] }, by decide +kernel⟩,
   ⟨wSd 10 .commit, by decide +kernel⟩,
   ⟨(wSd 10 .commit).setFlc { op := some wPage, info := [.csa 0 0] }, by decide +kernel⟩,
   ⟨((wSd 11 (.data 1)).set R.SDH_COUNT_BLOCKS 1).setSdh { (wSd 11 (.data 1)).sdh with key := zeros 32 }, 1, zeros 512,
       by decide +kernel⟩⟩

/-- A state and operands for every clause of BadgeReader. -/
theorem met_BadgeReader :
    (∃ (s : State) (c : Instr), s.spiresRun = true ∧ c ∈ [.fieldOn, .clfActivate, .clfExchange 5, .clfAuth, .secureExchange
        5, .clfDeactivate, .fieldOff] ∧ s.reader.cmd ≠ 0 ∧ s.keepHalted = false)
    ∧ (∃ (s : State) (c : Instr) (f : Fld) (v : Nat), s.spiresRun = true ∧ (c, f, v) ∈ [(.fieldOn, R.CLF_STATUS_CARRIER, 1),
        (.clfActivate, R.CLF_STATUS_CARRIER, 0), (.clfActivate, R.CLF_STATUS_RCARD, 1), (.clfExchange 5, R.CLF_STATUS_RCARD,
        0), (.clfAuth, R.CLF_STATUS_RCARD, 0), (.secureExchange 5, R.CLF_STATUS_RSESSION, 0), (.clfDeactivate,
        R.CLF_STATUS_RCARD, 0)] ∧ s.reader.cmd = 0 ∧ s.get f = v ∧ s.keepHalted = false)
    ∧ (∃ (s : State), s.spiresRun = true ∧ s.reader.cmd = 0 ∧ s.get R.CLF_STATUS_CARRIER = 0 ∧ s.get R.CLF_STATUS_FIELD = 1
        ∧ s.keepHalted = false)
    ∧ (∃ (s : State), s.spiresRun = true ∧ s.reader.cmd = 0 ∧ s.get R.CLF_STATUS_CARRIER = 0 ∧ s.get R.CLF_STATUS_FIELD = 0
        ∧ s.keepHalted = false)
    ∧ (∃ (s : State), s.spiresRun = true ∧ s.reader.phase = .guard ∧ s.reader.at_ + 5100000 + 5 / 8 ≤ s.tbase)
    ∧ (∃ (s : State), s.spiresRun = true ∧ s.reader.cmd = 0 ∧ s.keepHalted = false)
    ∧ (∃ (s : State), s.spiresRun = true ∧ s.reader.phase = .reset ∧ s.reader.at_ + 6000000 + 5 / 8 ≤ s.tbase ∧ s.get
        R.CLF_STATUS_FIELD = 0)
    ∧ (∃ (s : State), s.spiresRun = true ∧ s.reader.phase = .reset ∧ s.reader.at_ + 6000000 + 5 / 8 ≤ s.tbase ∧ s.get
        R.CLF_STATUS_FIELD = 1)
    ∧ (∃ (s : State), s.spiresRun = true ∧ s.reader.cmd = 0 ∧ s.get R.CLF_STATUS_RCARD = 1 ∧ s.keepHalted = false)
    ∧ (∃ (s : State) (coll : Option Nat), s.spiresRun = true ∧ s.reader.phase = .deselect)
    ∧ (∃ (s : State) (bs : List Byte) (coll : Option Nat) (crc : Nat), s.spiresRun = true ∧ s.reader.phase = .deselect ∧
        s.reader.tries < 2 ∧ (crc ≠ crcA bs ∨ bs ≠ [0xC2]))
    ∧ (∃ (s : State), s.spiresRun = true ∧ s.reader.cmd = 0 ∧ s.get R.CLF_STATUS_CARRIER = 1 ∧ s.get R.CLF_STATUS_RCARD = 0
        ∧ s.keepHalted = false)
    ∧ (∃ (s : State), s.spiresRun = true ∧ s.reader.phase = .atqa ∧ s.reader.at_ + s.rdWait + 5 / 8 ≤ s.tbase)
    ∧ (∃ (s : State), s.spiresRun = true ∧ s.reader.phase ∈ [.anticoll, .select, .ats, .pps] ∧ s.reader.at_ + s.rdWait + 5 /
        8 ≤ s.tbase)
    ∧ (∃ (s : State) (bs : List Byte) (crc : Nat) (coll : Option Nat), s.spiresRun = true ∧ s.reader.phase = .atqa)
    ∧ (∃ (s : State) (bs : List Byte) (crc : Nat) (c : Nat), s.spiresRun = true ∧ s.reader.phase = .anticoll ∧ c < 32)
    ∧ (∃ (s : State) (bs : List Byte) (crc : Nat), s.spiresRun = true ∧ s.reader.phase = .anticoll ∧ bs.length = 5 ∧
        bs.foldl (· ^^^ ·) 0 = (0 : Byte))
    ∧ (∃ (s : State) (bs : List Byte) (crc : Nat), s.spiresRun = true ∧ s.reader.phase = .anticoll ∧ ¬ (bs.length = 5 ∧
        bs.foldl (· ^^^ ·) 0 = (0 : Byte)))
    ∧ (∃ (s : State) (sak : Byte) (coll : Option Nat), s.spiresRun = true ∧ s.reader.phase = .select ∧ sak.getLsbD 2 = true
        ∧ s.reader.level < 3 ∧ s.reader.part.head? = some 0x88)
    ∧ (∃ (s : State) (sak : Byte) (coll : Option Nat), s.spiresRun = true ∧ s.reader.phase = .select ∧ sak.getLsbD 2 = false
        ∧ sak.getLsbD 5 = true)
    ∧ (∃ (s : State) (sak : Byte) (coll : Option Nat), s.spiresRun = true ∧ s.reader.phase = .select ∧ sak.getLsbD 2 = false
        ∧ sak.getLsbD 5 = false)
    ∧ (∃ (s : State) (bs : List Byte) (coll : Option Nat), s.spiresRun = true ∧ s.reader.phase = .ats ∧ bs = [0x01])
    ∧ (∃ (s : State) (t0 ta tb : Byte) (coll : Option Nat), s.spiresRun = true ∧ s.reader.phase = .ats ∧ t0.toNat / 16 = 3 ∧
        tb.toNat % 16 = 0)
    ∧ (∃ (s : State) (t0 ta tb : Byte) (coll : Option Nat), s.spiresRun = true ∧ s.reader.phase = .ats ∧ t0.toNat / 16 = 3 ∧
        1 ≤ tb.toNat % 16 ∧ tb.toNat % 16 ≤ 14)
    ∧ (∃ (s : State) (coll : Option Nat), s.spiresRun = true ∧ s.reader.phase = .pps)
    ∧ (∃ (s : State) (bs : List Byte) (coll : Option Nat) (crc : Nat), s.spiresRun = true ∧ s.reader.phase ∈ [.select, .ats,
        .pps] ∧ crc ≠ crcA bs) :=
  ⟨⟨wRd 2 .atqa, .fieldOff, by decide +kernel⟩,
   ⟨wOn, .clfDeactivate, R.CLF_STATUS_RCARD, 0, by decide +kernel⟩,
   ⟨wOn.set R.CLF_STATUS_FIELD 1, by decide +kernel⟩,
   ⟨wOn, by decide +kernel⟩,
   ⟨late (wRd 1 .guard), by decide +kernel⟩,
   ⟨wOn, by decide +kernel⟩,
   ⟨late (wRd 0 .reset), by decide +kernel⟩,
   ⟨(late (wRd 0 .reset)).set R.CLF_STATUS_FIELD 1, by decide +kernel⟩,
   ⟨(wRd 0 .idle).set R.CLF_STATUS_RCARD 1, by decide +kernel⟩,
   ⟨wRd 6 .deselect, none, by decide +kernel⟩,
   ⟨wRd 6 .deselect, [0xC1], none, 0, by decide +kernel⟩,
   ⟨wRd 0 .idle, by decide +kernel⟩,
   ⟨late (wRd 2 .atqa), by decide +kernel⟩,
   ⟨late (wRd 2 .ats), by decide +kernel⟩,
   ⟨wRd 2 .atqa, [4, 0], 0, none, by decide +kernel⟩,
   ⟨wRd 2 .anticoll, [1, 2, 3, 4, 5], 0, 31, by decide +kernel⟩,
   ⟨wRd 2 .anticoll, [8, 1, 2, 3, 8], 0, by decide +kernel⟩,
   ⟨wRd 2 .anticoll, [8, 1, 2, 3, 9], 0, by decide +kernel⟩,
   ⟨(wRd 2 .select).setReader { cmd := 2, phase := .select, part := [0x88, 1, 2, 3, 0x88] }, 4, none, by decide +kernel⟩,
   ⟨(wRd 2 .select).setReader { cmd := 2, phase := .select, part := [8, 1, 2, 3, 8] }, 0x20, none, by decide +kernel⟩,
   ⟨(wRd 2 .select).setReader { cmd := 2, phase := .select, part := [8, 1, 2, 3, 8] }, 0x00, none, by decide +kernel⟩,
   ⟨wRd 2 .ats, [1], none, by decide +kernel⟩,
   ⟨wRd 2 .ats, 0x38, 0x77, 0x40, none, by decide +kernel⟩,
   ⟨wRd 2 .ats, 0x38, 0x77, 0x4E, none, by decide +kernel⟩,
   ⟨wRd 2 .pps, none, by decide +kernel⟩,
   ⟨wRd 2 .ats, [1], none, 0, by decide +kernel⟩⟩

/-- A state and operands for every clause of BadgeExchanges. -/
theorem met_BadgeExchanges :
    (∃ (s : State) (clen : Nat), s.spiresRun = true ∧ s.reader.cmd = 0 ∧ s.get R.CLF_STATUS_RCARD = 1 ∧ 4 ≤ clen ∧ clen ≤
        512 ∧ s.flashWaits (s.get R.CLF_RBUF_ADDR * 1024) = false ∧ s.keepHalted = false)
    ∧ (∃ (s : State), s.spiresRun = true ∧ s.reader.cmd = 0 ∧ s.get R.CLF_STATUS_RCARD = 1 ∧ s.keepHalted = false)
    ∧ (∃ (s : State) (clen : Nat) (b : Badge), s.spiresRun = true ∧ s.reader.cmd = 0 ∧ s.get R.CLF_STATUS_RSESSION = 1 ∧
        s.reader.session = some b ∧ 4 ≤ clen ∧ clen ≤ 512 ∧ s.flashWaits (s.get R.CLF_RBUF_ADDR * 1024) = false ∧
        s.keepHalted = false)
    ∧ (∃ (s : State) (pcb : Byte) (inf : List Byte) (coll : Option Nat), s.spiresRun = true ∧ s.reader.phase = .block ∧
        s.reader.use = .plain ∧ pcb &&& 0xFE = 0x02 ∧ pcb.toNat % 2 = s.reader.bn ∧ s.reader.left = [])
    ∧ (∃ (s : State) (pcb : Byte) (inf : List Byte) (coll : Option Nat), s.spiresRun = true ∧ s.reader.phase = .block ∧ pcb
        &&& 0xFE = 0x12 ∧ pcb.toNat % 2 = s.reader.bn ∧ s.reader.left = [])
    ∧ (∃ (s : State) (pcb : Byte) (coll : Option Nat), s.spiresRun = true ∧ s.reader.phase = .block ∧ pcb &&& 0xFE = 0xA2 ∧
        pcb.toNat % 2 = s.reader.bn ∧ s.reader.left ≠ [])
    ∧ (∃ (s : State) (m : Byte) (coll : Option Nat), s.spiresRun = true ∧ s.reader.phase = .block ∧ 1 ≤ m.toNat % 64 ∧
        m.toNat % 64 ≤ 59)
    ∧ (∃ (s : State) (bs : List Byte) (coll : Option Nat) (crc : Nat), s.spiresRun = true ∧ s.reader.phase = .block ∧
        s.reader.tries < 2 ∧ crc ≠ crcA bs)
    ∧ (∃ (s : State), s.spiresRun = true ∧ s.reader.phase = .block ∧ s.reader.tries < 2 ∧ s.reader.at_ + s.rdWait + 5 / 8 ≤
        s.tbase)
    ∧ (∃ (s : State), s.spiresRun = true ∧ s.reader.phase = .block ∧ 2 ≤ s.reader.tries ∧ s.reader.at_ + s.rdWait + 5 / 8 ≤
        s.tbase)
    ∧ (∃ (s : State) (pcb : Byte) (inf : List Byte) (coll : Option Nat), s.spiresRun = true ∧ s.reader.phase = .block ∧
        s.reader.use = .begin ∧ pcb &&& 0xFE = 0x02 ∧ pcb.toNat % 2 = s.reader.bn ∧ s.reader.left = [] ∧ (s.reader.resp ++
        inf).length = 42)
    ∧ (∃ (s : State) (pcb : Byte) (inf : List Byte) (coll : Option Nat), s.spiresRun = true ∧ s.reader.phase = .block ∧
        s.reader.use = .finish ∧ pcb &&& 0xFE = 0x02 ∧ pcb.toNat % 2 = s.reader.bn ∧ s.reader.left = [] ∧ s.reader.resp ++
        inf = [0x90, 0x00])
    ∧ (∃ (s : State) (pcb : Byte) (inf : List Byte) (coll : Option Nat) (b : Badge), s.spiresRun = true ∧ s.reader.phase =
        .block ∧ s.reader.use = .secure ∧ s.reader.session = some b ∧ pcb &&& 0xFE = 0x02 ∧ pcb.toNat % 2 = s.reader.bn ∧
        s.reader.left = [] ∧ b.ci < 0xFFFFFFFF ∧ b.cr < 0xFFFFFFFE ∧ s.reader.head.getD 1 0 ≠ 0xA3) :=
  ⟨⟨(wRd 0 .idle).set R.CLF_STATUS_RCARD 1, 512, by decide +kernel⟩,
   ⟨(wRd 0 .idle).set R.CLF_STATUS_RCARD 1, by decide +kernel⟩,
   ⟨wSess, 5, wBadge, by decide +kernel⟩,
   ⟨wRd 3 .block, 0x02, [0x90, 0x00], none, by decide +kernel⟩,
   ⟨wRd 3 .block, 0x12, [1, 2], none, by decide +kernel⟩,
   ⟨(wRd 3 .block).setReader { cmd := 3, phase := .block, left := zeros 40 }, 0xA2, none, by decide +kernel⟩,
   ⟨wRd 3 .block, 59, none, by decide +kernel⟩,
   ⟨wRd 3 .block, [2], none, 0, by decide +kernel⟩,
   ⟨late (wRd 3 .block), by decide +kernel⟩,
   ⟨late ((wRd 3 .block).setReader { cmd := 3, phase := .block, tries := 2 }), by decide +kernel⟩,
   ⟨(wRd 4 .block).setReader { cmd := 4, phase := .block, use := .begin, k := zeros 16, rndI := zeros 16 }, 0x02, zeros 40
       ++ [0x90, 0x00], none, by decide +kernel⟩,
   ⟨(wRd 4 .block).setReader
       { cmd := 4, phase := .block, use := .finish, k := zeros 16, rndI := zeros 16, head := zeros 24 }, 0x02, [0x90, 0x00],
       none, by decide +kernel⟩,
   ⟨wSess.setReader { wSess.reader with cmd := 5, phase := .block, use := .secure }, 0x02, zeros 20, none, wBadge,
       by decide +kernel⟩⟩

/-- A state and operands for every clause of BadgeTag. -/
theorem met_BadgeTag :
    (∃ (s : State), s.pwr.bedrock = true ∧ (s.get R.PWR_WAKE_EN_EN).testBit 2 = false ∧ s.get R.CLF_STATUS_FIELD = 0 ∧ s.get
        R.CLF_STATUS_CARRIER = 0)
    ∧ (∃ (s : State), s.get R.CLF_STATUS_FIELD = 1)
    ∧ (∃ (s : State) (bs : List Byte), s.tagOn = true ∧ s.tag.phase = .idle ∧ (bs = [0x26] ∨ bs = [0x52]))
    ∧ (∃ (s : State), s.tagOn = true ∧ s.tag.phase = .halt)
    ∧ (∃ (s : State), s.tagOn = true ∧ s.tag.phase = .halt)
    ∧ (∃ (s : State), s.tagOn = true ∧ s.tag.phase = .ready)
    ∧ (∃ (s : State) (bs : List Byte), s.tagOn = true ∧ s.tag.phase = .ready ∧ bs.length = 5)
    ∧ (∃ (s : State) (p : Byte), s.tagOn = true ∧ s.tag.phase = .active ∧ p.toNat % 16 = 0)
    ∧ (∃ (s : State), s.tagOn = true ∧ s.tag.phase = .active)
    ∧ (∃ (s : State), s.tagOn = true ∧ s.tag.phase = .iso)
    ∧ (∃ (s : State) (pcb : Byte) (inf : List Byte), s.tagOn = true ∧ s.tag.phase = .iso ∧ pcb &&& 0xFE = 0x12 ∧ inf.length
        ≤ 253)
    ∧ (∃ (s : State) (pcb : Byte), s.tagOn = true ∧ s.tag.phase = .iso ∧ pcb &&& 0xEE = 0xA2 ∧ pcb.toNat % 2 = s.tag.iso.bn)
    ∧ (∃ (s : State) (pcb : Byte), s.tagOn = true ∧ s.tag.phase = .iso ∧ pcb &&& 0xFE = 0xB2 ∧ pcb.toNat % 2 ≠ s.tag.iso.bn)
    ∧ (∃ (s : State) (pcb : Byte), s.tagOn = true ∧ s.tag.phase = .iso ∧ pcb &&& 0xFE = 0xA2 ∧ pcb.toNat % 2 ≠ s.tag.iso.bn
        ∧ s.tag.iso.left ≠ [])
    ∧ (∃ (s : State) (pcb p : Byte), s.tagOn = true ∧ s.tag.phase = .iso ∧ s.tag.iso.rx = [] ∧ s.tag.iso.fsd = 256 ∧ pcb &&&
        0xFE = 0x02 ∧ p.toNat < 16)
    ∧ (∃ (s : State) (bs : List Byte), s.tagOn = false)
    ∧ (∃ (s : State) (data jitter : List Byte), s.tagOn = true ∧ s.tag.phase = .iso ∧ data.length = 16 ∧ s.tag.key ≠ [] ∧
        (s.get R.TMP_PENDING_RESP).testBit 5 = false ∧ s.get R.CLF_STATUS_BACKOFF = 0)
    ∧ (∃ (s : State) (data jitter : List Byte), s.tagOn = true ∧ s.tag.phase = .iso ∧ data.length = 16 ∧ (s.tag.key = [] ∨
        (s.get R.TMP_PENDING_RESP).testBit 5 = true ∨ (s.get R.CLF_STATUS_BACKOFF = 1 ∧ s.get R.TIME_TSTAMP_TICKS <
        s.tag.backoff + 32768)))
    ∧ (∃ (s : State) (data ri rr : List Byte), s.tagOn = true ∧ s.tag.phase = .iso ∧ data.length = 16 ∧ s.tag.key ≠ [] ∧
        s.tag.hand = some (ri, rr))
    ∧ (∃ (s : State), s.tag.backoff + 32768 ≤ s.get R.TIME_TSTAMP_TICKS)
    ∧ (∃ (s : State) (i : Nat), s.spiresRun = true ∧ i < 2 ^ 24 ∧ s.keepHalted = false)
    ∧ (∃ (s : State) (i : Nat), s.spiresRun = true ∧ s.tag.load = some i)
    ∧ (∃ (s : State), s.spiresRun = true ∧ s.keepHalted = false) :=
  ⟨⟨wField, by decide +kernel⟩,
   ⟨wTag .active, by decide +kernel⟩,
   ⟨wTag .idle, [0x26], by decide +kernel⟩,
   ⟨wTag .halt, by decide +kernel⟩,
   ⟨wTag .halt, by decide +kernel⟩,
   ⟨wTag .ready, by decide +kernel⟩,
   ⟨wTag .ready, zeros 5, by decide +kernel⟩,
   ⟨wTag .active, 0x80, by decide +kernel⟩,
   ⟨wTag .active, by decide +kernel⟩,
   ⟨wTag .iso, by decide +kernel⟩,
   ⟨wTag .iso, 0x12, [0x80, 0xB0], by decide +kernel⟩,
   ⟨wTag .iso, 0xB3, by decide +kernel⟩,
   ⟨wTag .iso, 0xB2, by decide +kernel⟩,
   ⟨(wTag .iso).setTag { phase := .iso, iso := { left := zeros 300 } }, 0xA2, by decide +kernel⟩,
   ⟨wTag .iso, 0x02, 15, by decide +kernel⟩,
   ⟨wOn, [0x26], by decide +kernel⟩,
   ⟨(wTag .iso).setTag { phase := .iso, key := zeros 16 }, zeros 16, zeros 16, by decide +kernel⟩,
   ⟨wTag .iso, zeros 16, zeros 16, by decide +kernel⟩,
   ⟨(wTag .iso).setTag { phase := .iso, key := zeros 16, hand := some (zeros 16, zeros 16) }, zeros 16, zeros 16, zeros 16,
       by decide +kernel⟩,
   ⟨wOn.set R.TIME_TSTAMP_TICKS 32768, by decide +kernel⟩,
   ⟨wOn, 5, by decide +kernel⟩,
   ⟨wOn.setTag { load := some 5 }, 5, by decide +kernel⟩,
   ⟨wOn, by decide +kernel⟩⟩

/-- A state and operands for every clause of TagMailbox. -/
theorem met_TagMailbox :
    (∃ (s : State) (p1 : Nat), s.tagOn = true ∧ s.tag.phase = .iso ∧ p1 < 16)
    ∧ (∃ (s : State) (c : Instr), s.tagOn = true ∧ s.tag.phase = .iso ∧ c ∈ [.tagRead 0x80 16 0 [] (some 0x80), .status 0x80
        0 0 [], .tagWrite 0x80 0 16 [1], .commit 0x80 0 0 [0, 0], .ack 0x80 0 0 [], .endSession 0x80 0 0 []])
    ∧ (∃ (s : State) (p1 : Nat) (data : List Byte) (b : Badge) (le : Option Nat), s.tagOn = true ∧ s.tag.phase = .iso ∧
        s.tag.session = some b ∧ p1 < 32 ∧ b.ci < 0xFFFFFFFE ∧ b.cr < 0xFFFFFFFE)
    ∧ (∃ (s : State) (data : List Byte) (b : Badge), s.tagOn = true ∧ s.tag.phase = .iso ∧ s.tag.session = some b ∧ b.ci <
        0xFFFFFFFE ∧ b.cr < 0xFFFFFFFE)
    ∧ (∃ (s : State) (p1 p2 : Nat) (data : List Byte) (b : Badge), s.tagOn = true ∧ s.tag.phase = .iso ∧ s.tag.session =
        some b ∧ b.ci < 0xFFFFFFFE ∧ b.cr < 0xFFFFFFFE ∧ p2 < 256 ∧ 16 ≤ p1 * 256 + p2 ∧ p1 * 256 + p2 ≤ 511 ∧ (s.get
        R.CLF_MBOX_IN_OWN).testBit (s.get R.CLF_MBOX_FILL) = false ∧ s.tag.asked = [])
    ∧ (∃ (s : State) (data : List Byte) (b : Badge), s.tagOn = true ∧ s.tag.phase = .iso ∧ s.tag.session = some b ∧
        s.tag.asked = [] ∧ b.ci < 0xFFFFFFFE ∧ b.cr < 0xFFFFFFFE ∧ s.get R.CLF_MBOX_FILL = 0 ∧ s.get R.CLF_MBOX_IN_OWN = 0)
    ∧ (∃ (s : State) (p1 : Nat) (data : List Byte) (b : Badge), s.tagOn = true ∧ s.tag.phase = .iso ∧ s.tag.session = some b
        ∧ b.ci < 0xFFFFFFFE ∧ b.cr < 0xFFFFFFFE ∧ p1 < 2 ∧ (s.get R.CLF_MBOX_OUT_OWN).testBit p1 = true ∧ s.tag.asked = [])
    ∧ (∃ (s : State) (data : List Byte) (b : Badge), s.tagOn = true ∧ s.tag.phase = .iso ∧ s.tag.session = some b)
    ∧ (∃ (s : State) (m : Nat), s.spiresRun = true ∧ m < 4 ∧ s.keepHalted = false)
    ∧ (∃ (s : State) (m len : Nat), s.spiresRun = true ∧ m < 4 ∧ len < 512 ∧ s.keepHalted = false)
    ∧ (∃ (s : State) (len : Nat), s.pending = [] ∧ s.mainOn = false ∧ s.pwr.bedrock = true ∧ s.pwr.main = .off ∧ s.tag.asked
        = [.commit 0 len] ∧ s.get R.CLF_MBOX_IN_OWN = 0 ∧ s.get R.TIME_TSTAMP_TICKS < 2 ^ 48 - 1)
    ∧ (∃ (s : State), s.pending = [] ∧ s.mainOn = false ∧ s.pwr.bedrock = true ∧ s.tag.asked = [.ack 0, .release 2] ∧ s.get
        R.CLF_MBOX_IN_OWN = 3 ∧ s.get R.CLF_MBOX_FILL < 2 ∧ s.get R.CLF_MBOX_OUT_OWN = 1)
    ∧ (∃ (s : State) (len : Nat), s.pending = [] ∧ s.mainOn = false ∧ s.pwr.bedrock = true ∧ s.tag.asked = [.publish 2 len]
        ∧ s.get R.CLF_MBOX_OUT_OWN = 0 ∧ len ≤ 496 ∧ s.get R.TIME_TSTAMP_TICKS < 2 ^ 48 - 1) :=
  ⟨⟨wTag .iso, 15, by decide +kernel⟩,
   ⟨wTag .iso, .status 0x80 0 0 [], by decide +kernel⟩,
   ⟨wTagS, 31, zeros 8, wBadge, none, by decide +kernel⟩,
   ⟨wTagS, zeros 8, wBadge, by decide +kernel⟩,
   ⟨wTagS, 1, 255, zeros 9, wBadge, by decide +kernel⟩,
   ⟨wTagS, zeros 10, wBadge, by decide +kernel⟩,
   ⟨wTagS.set R.CLF_MBOX_OUT_OWN 2, 1, zeros 8, wBadge, by decide +kernel⟩,
   ⟨wTagS, zeros 8, wBadge, by decide +kernel⟩,
   ⟨wOn, 3, by decide +kernel⟩,
   ⟨wOn, 2, 496, by decide +kernel⟩,
   ⟨wAskedOff [.commit 0 496], 496, by decide +kernel⟩,
   ⟨((wAskedOff [.ack 0, .release 2]).set R.CLF_MBOX_IN_OWN 3).set R.CLF_MBOX_OUT_OWN 1, by decide +kernel⟩,
   ⟨wAskedOff [.publish 2 496], 496, by decide +kernel⟩⟩

end Sys2Proof.Tests
end

section
/-!
PROOFS. The queue, reset, and the canonical form of memory.
-/

namespace Sys2Proof.Machine

/-- Settles O1: both clauses are the two arms of `step`. -/
theorem stepRunsFront : Obligations.StepRunsFront := by
  refine ⟨fun c rest s h => ?_, fun s h => ?_⟩
  · unfold step
    rw [h]
  · unfold step
    rw [h]

/-- A field that reset does not list reads as its reset value. -/
theorem reset_get {f : Fld} (h : f.key ≠ R.RST_LC_STATE.key) : State.reset.get f = f.rst := by
  simp [State.get, State.reset, tabFind, h.symm]

/-- Settles O2: RST_LC.STATE is the one entry that reset lists (R13, R37, R125). -/
theorem resetState : Obligations.ResetState :=
  ⟨fun _ h => reset_get h, rfl, rfl, fun _ => rfl, rfl, rfl, rfl, rfl, rfl, rfl, rfl⟩

end Sys2Proof.Machine
end

section
/-!
PROOFS. O3: every step keeps memory in its canonical form (R37). A state whose memory is canonical is `State.Canonical`, and
each operation of the machine, from the writes of bytes up to the step, has one lemma under its own name in the namespace
`State.Canonical`: it gives a canonical state where it is given one. Memory is changed by `putByte`, `dropBytes` and the
filters of a reset alone, so the lemma of an operation composes those of the operations it is made of, case by case of its
own definition. The headings are the model's files.
-/

-- The lemmas are many and short: checked in order, they do not hold one thread each.
set_option Elab.async false

namespace Sys2Proof.Machine

/-- Memory is in its canonical form (R37). -/
def State.Canonical (s : State) : Prop := Memory.wf s.mem = true

namespace State.Canonical

variable {s t : State}

/-- An update of any part of the state but memory. -/
theorem of_mem (h : s.Canonical) (e : t.mem = s.mem := by rfl) : t.Canonical := by
  rw [State.Canonical, e]
  exact h

/-- The branches of a definition, of a state and of what answers one beside a result. -/
theorem ite {c : Prop} [Decidable c] (hs : s.Canonical) (ht : t.Canonical) : (if c then s else t).Canonical := by
  split
  · exact hs
  · exact ht

theorem iteSnd {α : Type} {c : Prop} [Decidable c] {p q : α × State} (hp : p.2.Canonical) (hq : q.2.Canonical) :
    (if c then p else q).2.Canonical := by
  split
  · exact hp
  · exact hq

theorem iteSt {c : Prop} [Decidable c] {p q : TagRes} (hp : p.st.Canonical) (hq : q.st.Canonical) :
    (if c then p else q).st.Canonical := by
  split
  · exact hp
  · exact hq

theorem iteSnd₂ {α β : Type} {c : Prop} [Decidable c] {p q : α × β × State} (hp : p.2.2.Canonical)
    (hq : q.2.2.Canonical) : (if c then p else q).2.2.Canonical := by
  split
  · exact hp
  · exact hq

/-- A write that may command a unit answers a state or none. -/
theorem ofSome (h : s.Canonical) : ∀ t ∈ some s, t.Canonical := by
  rintro _ ⟨⟩
  exact h

theorem ofNone : ∀ t ∈ (none : Option State), t.Canonical := by
  rintro _ ⟨⟩

theorem iteOption {c : Prop} [Decidable c] {o q : Option State} (ho : ∀ t ∈ o, t.Canonical)
    (hq : ∀ t ∈ q, t.Canonical) :
    ∀ t ∈ (if c then o else q), t.Canonical := by
  split
  · exact ho
  · exact hq

/-- An operation repeated over a list. -/
theorem foldl {α : Type} {f : State → α → State} {l : List α} (h : s.Canonical)
    (hf : ∀ {t a}, t.Canonical → (f t a).Canonical) : (l.foldl f s).Canonical := by
  induction l generalizing s with
  | nil => exact h
  | cons a l ih => exact ih (hf h)

/-- The same of a fold that carries a result beside the state. -/
theorem foldlSnd {α β : Type} {f : β × State → α → β × State} {l : List α} {p : β × State} (h : p.2.Canonical)
    (hf : ∀ {q a}, q.2.Canonical → (f q a).2.Canonical) : (l.foldl f p).2.Canonical := by
  induction l generalizing p with
  | nil => exact h
  | cons a l ih => exact ih (hf h)

/-- Entries of memory may be dropped, as a reset does. -/
theorem filter {p : Host.Cell → Bool} (h : s.Canonical) (e : t.mem = s.mem.filter p := by rfl) : t.Canonical := by
  rw [State.Canonical, e]
  exact wf_filter _ _ h

theorem withArtCur {rules : List (Nat × Rule)} (h : s.Canonical) : ({ s with artCur := rules } : State).Canonical := h

theorem withDomes {ds : List (Nat × Dome)} (h : s.Canonical) : ({ s with domes := ds } : State).Canonical := h

theorem withFlc {k : Flc} (h : s.Canonical) : ({ s with flc := k } : State).Canonical := h


/-! ### Ops -/

theorem set {f : Fld} {v : Nat} (h : s.Canonical) : (s.set f v).Canonical := h.of_mem

theorem setB {f : Fld} {b : Bool} (h : s.Canonical) : (s.setB f b).Canonical := h.set

theorem count {f : Fld} (h : s.Canonical) : (s.count f).Canonical := h.set

theorem next {f : Fld} (h : s.Canonical) : (s.next f).Canonical := h.set

theorem raise {v : Nat} (h : s.Canonical) : (s.raise v).Canonical := h.of_mem

theorem cause {f : Fld} {base v : Nat} (h : s.Canonical) : (s.cause f base v).Canonical := h.set.raise

theorem phaseSet {p : Nat} (h : s.Canonical) : (s.phaseSet p).Canonical := h.set

theorem bootStop {p : Nat} (h : s.Canonical) : (s.bootStop p).Canonical := h.phaseSet.set

theorem bootFail {step : Nat} (h : s.Canonical) : (s.bootFail step).Canonical := h.set.bootStop

theorem idleMark (h : s.Canonical) : s.idleMark.Canonical := h.of_mem

theorem putByte {a : Nat} {b : Byte} (h : s.Canonical) : (s.putByte a b).Canonical := putByte_wf s a b h

theorem putBytes {a : Nat} {bs : List Byte} (h : s.Canonical) : (s.putBytes a bs).Canonical := putBytes_wf s a bs h

theorem dropBytes {a n : Nat} (h : s.Canonical) : (s.dropBytes a n).Canonical := dropBytes_wf s a n h

theorem draw {bits : Nat} (h : s.Canonical) : (s.draw bits).2.Canonical := h.of_mem

theorem setCore {c : Nat} {k : Core} (h : s.Canonical) : (s.setCore c k).Canonical := h.of_mem

theorem setSpire {p : Nat} {k : Spire} (h : s.Canonical) : (s.setSpire p k).Canonical := h.of_mem

theorem setDome {d : Nat} {k : Dome} (h : s.Canonical) : (s.setDome d k).Canonical := h.of_mem

theorem setJsc {j : Jsc} (h : s.Canonical) : (s.setJsc j).Canonical := h.of_mem

theorem updJob {id : Nat} {f : Job → Job} (h : s.Canonical) : (s.updJob id f).Canonical := h.of_mem

theorem report {m : FaultMsg} (h : s.Canonical) : (s.report m).Canonical := h.of_mem

/-! ### Art -/

theorem violation {x : Xfer} {type addr : Nat} (h : s.Canonical) : (s.violation x type addr).Canonical := h.report

theorem artRefuse (h : s.Canonical) : s.artRefuse.Canonical := h.set.raise

theorem artCopy (h : s.Canonical) : s.artCopy.Canonical := .ite h.artRefuse h.set.set

theorem artCopyEnd (h : s.Canonical) : s.artCopyEnd.Canonical := .ite h.of_mem.set.set h

theorem artRuleWrite {which value : Nat} (h : s.Canonical) : (s.artRuleWrite which value).Canonical := .ite h.of_mem h

theorem artSwitchEdge (h : s.Canonical) : s.artSwitchEdge.Canonical := h.of_mem.set.set.set.set.set.raise

theorem artSwitch (h : s.Canonical) : s.artSwitch.Canonical := .ite h.artSwitchEdge h.artRefuse

theorem artDrained (h : s.Canonical) : s.artDrained.Canonical := .ite h.set.set.raise h

/-! ### Flags -/

theorem tamper {n detail : Nat} (h : s.Canonical) : (s.tamper n detail).Canonical :=
  .ite (.of_mem (.ite h h.set)) (.set (.of_mem (.ite h h.set)))

theorem completeTicket {id ticket : Nat} {err : Bool} (h : s.Canonical) :
    (s.completeTicket id ticket err).Canonical := by
  unfold State.completeTicket
  split
  · exact h
  · refine .ite h ?_
    split
    · exact h
    · exact h.setCore.updJob

/-! ### Ddr -/

theorem setLine {line v : Nat} (h : s.Canonical) : (s.setLine line v).Canonical := h.of_mem

theorem lineUe {line agent dom : Nat} (h : s.Canonical) : (s.lineUe line agent dom).Canonical :=
  .report (.ite h.count h.count.set.set.raise)

theorem lineTag {line : Nat} (h : s.Canonical) : (s.lineTag line).Canonical := h.count.tamper

theorem readLine {line agent dom : Nat} (h : s.Canonical) : (s.readLine line agent dom).2.2.Canonical := by
  unfold State.readLine
  split
  · exact h
  · exact h.count.setLine
  · exact h.lineUe
  · exact h.lineTag

theorem memAgent (h : s.Canonical) : s.memAgent.2.Canonical := h.of_mem

theorem readOwn {line : Nat} (h : s.Canonical) : (s.readOwn line).2.2.Canonical := h.memAgent.readLine

theorem readDdr {agent dom a n k : Nat} (h : s.Canonical) : (s.readDdr agent dom a n k).2.2.Canonical := by
  induction k generalizing s a n with
  | zero => exact h
  | succ k ih => exact .iteSnd₂ h (ih h.readLine)

theorem writeLine {a : Nat} {bs : List Byte} {agent dom : Nat} (h : s.Canonical) :
    (s.writeLine a bs agent dom).Canonical :=
  .ite h.putBytes.setLine (.ite h.readLine h.readLine.putBytes)

theorem writeDdr {agent dom a k : Nat} {bs : List Byte} (h : s.Canonical) :
    (s.writeDdr agent dom a bs k).Canonical := by
  induction k generalizing s a bs with
  | zero => exact h
  | succ k ih => exact .ite h (ih h.writeLine)

theorem patrolScrub (h : s.Canonical) : s.patrolScrub.Canonical :=
  .ite h (.ite h.readOwn.of_mem.count.raise h.readOwn.of_mem)

theorem sweepEnd {c : Nat} (h : s.Canonical) : (s.sweepEnd c).Canonical := h.of_mem.set.set.set.raise

/-! ### Net -/

theorem setNet {n : Net} (h : s.Canonical) : (s.setNet n).Canonical := h.of_mem

theorem send {m : TxMsg} (h : s.Canonical) : (s.send m).Canonical := h.setNet

theorem sendRaw {link : Nat} {f : List Byte} (h : s.Canonical) : (s.sendRaw link f).Canonical := h.send

theorem linkDown {k : Nat} (h : s.Canonical) : (s.linkDown k).Canonical := .ite h.set.count.cause h

theorem linkUp {k : Nat} (h : s.Canonical) : (s.linkUp k).Canonical := .ite h.set.cause h

theorem netDrop {k : Nat} (h : s.Canonical) : (s.netDrop k).Canonical := h.count

theorem sendVia {m : TxMsg} (h : s.Canonical) : (s.sendVia m).Canonical := by
  unfold State.sendVia
  split
  · exact h
  · dsimp only
    split
    · exact h.send
    · split
      · exact h.setNet
      · exact h.setNet.sendRaw

theorem neighbour {k : Nat} {ip mac : List Byte} (h : s.Canonical) : (s.neighbour k ip mac).Canonical := by
  unfold State.neighbour
  split
  · exact h
  · exact .foldl h.setNet fun h' => h'.send

theorem neighTimeout (h : s.Canonical) : s.neighTimeout.Canonical := by
  unfold State.neighTimeout
  split
  · exact h
  · exact h.setNet.cause

theorem neighExpiry (h : s.Canonical) : s.neighExpiry.Canonical := by
  unfold State.neighExpiry
  split
  · exact h
  · exact h.setNet

theorem takeReq {kind : Nat} {r : NetReq × List Byte × State} (h : s.Canonical) (e : s.takeReq kind = some r) :
    r.2.2.Canonical := by
  unfold State.takeReq at e
  split at e
  · cases e
  · obtain ⟨_, _, rfl⟩ := Option.map_eq_some_iff.1 e
    exact h.setNet

theorem arpRequest (h : s.Canonical) : s.arpRequest.Canonical := by
  unfold State.arpRequest
  split
  next e => exact (h.takeReq e).sendRaw
  next => exact h

theorem ndRequest (h : s.Canonical) : s.ndRequest.Canonical := by
  unfold State.ndRequest
  split
  next e =>
    split
    · exact (h.takeReq e).sendRaw
    · exact h.takeReq e
  next => exact h

theorem echoRequest (h : s.Canonical) : s.echoRequest.Canonical := by
  unfold State.echoRequest
  split
  next => exact h
  next e =>
    refine .ite (h.takeReq e).netDrop ?_
    dsimp only
    split
    · exact (h.takeReq e).setNet.sendRaw
    · exact (h.takeReq e).setNet

/-! ### Spire -/

theorem devState (h : s.Canonical) : s.devState.Canonical := .ite h h.set

theorem settle {p : Nat} (h : s.Canonical) : (s.settle p).Canonical :=
  .ite h (.ite h.setSpire.devState (.ite h.setSpire.set.devState h.devState))

theorem settleAll (h : s.Canonical) : s.settleAll.Canonical := .foldl h .settle

theorem spireAssigned {p : Nat} (h : s.Canonical) : (s.spireAssigned p).Canonical := h.setSpire.settle

theorem spireTransitionEnd {p : Nat} (h : s.Canonical) : (s.spireTransitionEnd p).Canonical := by
  unfold State.spireTransitionEnd
  refine .ite h ?_
  split
  · exact h
  · exact h.idleMark.setSpire.set.settle
  · exact h.setSpire.set.count.settle

theorem dozeIdle {p : Nat} (h : s.Canonical) : (s.dozeIdle p).Canonical := .ite h h.setSpire.settle

theorem napIdle {p : Nat} (h : s.Canonical) : (s.napIdle p).Canonical := .ite h h.setSpire.settle

theorem budgetWrite {us : Nat} (h : s.Canonical) : (s.budgetWrite us).Canonical := h.set.settleAll

/-! ### RegView -/

theorem setSes {u : SesU} (h : s.Canonical) : (s.setSes u).Canonical := h.of_mem

theorem reqStatus (h : s.Canonical) : s.reqStatus.Canonical := h.set.setB

theorem reqPop (h : s.Canonical) : s.reqPop.Canonical := h.of_mem.reqStatus

theorem setKey {k : KeyU} (h : s.Canonical) : (s.setKey k).Canonical := h.of_mem

theorem setTag {k : Tag} (h : s.Canonical) : (s.setTag k).Canonical := h.of_mem

theorem readEffect {a : Nat} {low high : Bool} (h : s.Canonical) : (s.readEffect a low high).Canonical :=
  .ite h.of_mem (.ite h.reqPop h)

theorem regRead {agent a n : Nat} {r : Nat × State} (h : s.Canonical) (e : s.regRead agent a n = some r) :
    r.2.Canonical := by
  unfold State.regRead at e
  split at e
  · cases e; exact h
  · cases e; exact h.readEffect
  · cases e; exact h.of_mem.readEffect
  · cases e; exact h.of_mem.readEffect
  · cases e

/-! ### Xfer -/

theorem flcEvent {v : Nat} (h : s.Canonical) : (s.flcEvent v).Canonical := h.cause

theorem flashLine {line : Nat} (h : s.Canonical) : (s.flashLine line).2.Canonical := by
  unfold State.flashLine
  dsimp only
  split
  · exact h
  · exact .flcEvent (.ite h.count h.count.set.set)
  · exact .iteSnd h.next (.flcEvent (.ite h.next.count h.next.count.set.set))

theorem flashTouch {a : Nat} (h : s.Canonical) : (s.flashTouch a).Canonical := by
  unfold State.flashTouch
  split
  · exact h
  · exact .ite h (.ite h.of_mem h.of_mem.set.next)

theorem flashLines {a n k : Nat} (h : s.Canonical) : (s.flashLines a n k).2.Canonical := by
  induction k generalizing s a n with
  | zero => exact h
  | succ k ih => exact .iteSnd h (ih h.flashLine)

theorem readFlash {a n : Nat} (h : s.Canonical) : (s.readFlash a n).2.Canonical := h.flashTouch.flashLines

theorem fetchMiss {line : Nat} (h : s.Canonical) : (s.fetchMiss line).2.Canonical := by
  unfold State.fetchMiss
  exact withFlc (foldlSnd h.flashTouch.flashLine fun h' => h'.flashLine)

theorem fetchLine {line : Nat} (h : s.Canonical) : (s.fetchLine line).2.Canonical := by
  have hr : (match s.fetchHit line with | some b => (b, s) | none => s.fetchMiss line).2.Canonical := by
    split
    · exact h
    · exact h.fetchMiss
  exact hr.of_mem

theorem fetchFlash {a n k : Nat} (h : s.Canonical) : (s.fetchFlash a n k).2.Canonical := by
  induction k generalizing s a n with
  | zero => exact h
  | succ k ih => exact .iteSnd h (ih h.fetchLine)

theorem busFail {side : Nat} (h : s.Canonical) : (s.busFail side).Canonical := h.tamper

theorem crossed {x : Xfer} {type a n : Nat} {data : List Byte} {e : Option BusErr}
    {serve : State → Nat → Nat → Nat → List Byte → List Byte × Nat × State} (h : s.Canonical)
    (hf : ∀ {t a1 a2 a3 a4}, t.Canonical → (serve t a1 a2 a3 a4).2.2.Canonical) :
    (s.crossed x type a n data e serve).2.2.Canonical := by
  unfold State.crossed
  split
  · exact hf h
  · refine .iteSnd₂ ?_ (.iteSnd₂ (.iteSnd₂ ?_ (.ite (hf h) (hf h).busFail)) ?_)
    · split
      · exact h.busFail
      · exact hf h
    · split
      · exact h.busFail
      · exact hf h
    · dsimp only
      split
      · exact (hf h).busFail
      · exact hf h

theorem busTake {agent : Nat} (h : s.Canonical) : (s.busTake agent).2.Canonical := by
  unfold State.busTake
  split
  · exact h
  · exact h.of_mem

theorem regServe {x : Xfer} {type a n : Nat} {data : List Byte} (h : s.Canonical) :
    (s.regServe x type a n data).2.Canonical := by
  unfold State.regServe
  refine .iteSnd ?_ (.iteSnd (.ite h h.violation) ?_)
  · split
    · exact h.of_mem
    · exact h.of_mem
    · exact h.violation
  · split
    next e => exact h.regRead e
    next => exact h.violation

theorem unitServe {x : Xfer} {type a n : Nat} {data : List Byte} (h : s.Canonical) :
    (s.unitServe x type a n data).2.2.Canonical :=
  .iteSnd₂ h.regServe (.iteSnd₂ (.ite h.writeDdr (.ite h.count h.putBytes))
    (.iteSnd₂ h.readDdr (.iteSnd₂ (.iteSnd h.fetchFlash h.readFlash) h)))

theorem answer {agent : Nat} {data : List Byte} (h : s.Canonical) : (s.answer agent data).Canonical := h.of_mem

theorem issue {x : Xfer} {type a n : Nat} {data : List Byte} (h : s.Canonical) :
    (s.issue x type a n data).2.2.Canonical := by
  unfold State.issue
  refine .iteSnd₂ h ?_
  split
  · exact h.violation
  · exact h.busTake.crossed fun h' => h'.unitServe

theorem rdO {x : Xfer} {a n : Nat} (h : s.Canonical) : (s.rdO x a n).2.2.Canonical := h.issue

theorem rd {x : Xfer} {a n : Nat} (h : s.Canonical) : (s.rd x a n).2.Canonical := h.rdO

theorem wr {x : Xfer} {a : Nat} {bs : List Byte} (h : s.Canonical) : (s.wr x a bs).Canonical := h.issue

theorem afterBank {x : Xfer} {a n : Nat} {c : FlUnit} {f : State → State} (h : s.Canonical)
    (hf : ∀ {t}, t.Canonical → (f t).Canonical) : (s.afterBank x a n c f).Canonical :=
  .ite h.of_mem (hf h)

theorem heldNext {r : FlUnit × State} (h : s.Canonical) (e : s.heldNext = some r) : r.2.Canonical := by
  unfold State.heldNext at e
  split at e
  · cases e
  · split at e
    · cases e
    · cases e; exact h.of_mem

/-! ### Flash -/

theorem setFlc {f : Flc} (h : s.Canonical) : (s.setFlc f).Canonical := h.of_mem

theorem ledgerAdd {e : LedgerE} (h : s.Canonical) : (s.ledgerAdd e).Canonical := h.setFlc

theorem eraseBegins {n : Nat} {ok : Bool} (h : s.Canonical) : (s.eraseBegins n ok).Canonical := h.ledgerAdd

theorem eraseEnds {n : Nat} {ok : Bool} (h : s.Canonical) : (s.eraseEnds n ok).Canonical :=
  .ite h.ledgerAdd.flcEvent h.ledgerAdd

theorem ledgerScan (h : s.Canonical) : s.ledgerScan.Canonical := h.setFlc.set

theorem infoDone {w : InfoW} (h : s.Canonical) : (s.infoDone w).Canonical := h.setFlc

theorem infoCut {w : InfoW} {commit : Bool} (h : s.Canonical) : (s.infoCut w commit).Canonical :=
  .ite h.draw.setFlc h.draw.setFlc

theorem infoAsk {w : InfoW} (h : s.Canonical) : (s.infoAsk w).Canonical := h.setFlc

theorem intEnd (h : s.Canonical) : s.intEnd.Canonical := h.setFlc.set

theorem infoFinish {w : InfoW} (h : s.Canonical) : (s.infoFinish w).Canonical := .ite h h.infoDone.setFlc.intEnd

theorem infoWrite (h : s.Canonical) : s.infoWrite.Canonical := by
  unfold State.infoWrite
  split
  · exact h
  · exact h.infoFinish

theorem ledgerTurn (h : s.Canonical) : s.ledgerTurn.Canonical := h.setFlc

theorem ledgerCompact (h : s.Canonical) : s.ledgerCompact.Canonical := .ite h.ledgerTurn.intEnd h

theorem infoPowerUp (h : s.Canonical) : s.infoPowerUp.Canonical := by
  unfold State.infoPowerUp
  refine .foldl h.setFlc fun h' => ?_
  split
  · exact h'
  · exact .ite h'.setFlc (.ite h'.setFlc h')

theorem cleanLines {off n : Nat} (h : s.Canonical) : (s.cleanLines off n).Canonical := h.setFlc

theorem eraseCells {off n : Nat} (h : s.Canonical) : (s.eraseCells off n).Canonical := h.dropBytes.cleanLines

theorem freeLines {line k : Nat} (h : s.Canonical) : (s.freeLines line k).Canonical := by
  induction k generalizing s line with
  | zero => exact h
  | succ k ih => exact ih h.draw.setFlc

theorem freeBytes {a k : Nat} (h : s.Canonical) : (s.freeBytes a k).Canonical := by
  induction k generalizing s a with
  | zero => exact h
  | succ k ih => exact ih h.draw.putByte

theorem indeterminate {off n : Nat} (h : s.Canonical) : (s.indeterminate off n).Canonical := h.freeBytes.freeLines

theorem flashWait {w : FlWait} (h : s.Canonical) : (s.flashWait w).Canonical := h.setFlc

theorem flashServe {w : FlWait} (h : s.Canonical) : (s.flashServe w).Canonical :=
  (h.crossed fun h' => h'.unitServe).answer

theorem flashServeAll (h : s.Canonical) : s.flashServeAll.Canonical := .foldl h.setFlc .flashServe

theorem flcRefuse {code : Nat} (h : s.Canonical) : (s.flcRefuse code).Canonical := h.set.flcEvent

theorem flcEndV {code v : Nat} (h : s.Canonical) : (s.flcEndV code v).Canonical :=
  h.setFlc.set.set.set.set.flcEvent.flashServeAll

theorem flcEnd {code : Nat} (h : s.Canonical) : (s.flcEnd code).Canonical := h.flcEndV

theorem flcBegin {o : FlOp} (h : s.Canonical) : (s.flcBegin o).Canonical := h.setFlc.set.set.set

theorem fetchDrop {off n : Nat} (h : s.Canonical) : (s.fetchDrop off n).Canonical := h.setFlc

theorem erased {off : Nat} (h : s.Canonical) : (s.erased off).Canonical :=
  .fetchDrop (.eraseEnds (.eraseCells (.eraseBegins (.ite h.ledgerTurn h))))

theorem flcProgram {half : Nat} (h : s.Canonical) : (s.flcProgram half).Canonical :=
  .ite h.flcRefuse (.ite h.flcRefuse (.ite h.flcRefuse (.ite h.flcRefuse (.ite h.flcRefuse h.rd.fetchDrop.flcBegin))))

theorem flcErase (h : s.Canonical) : s.flcErase.Canonical :=
  .ite h.flcRefuse (.ite h.flcRefuse (.ite h.flcRefuse h.fetchDrop.flcBegin))

theorem flcBlankCheck (h : s.Canonical) : s.flcBlankCheck.Canonical := .ite h.flcRefuse (.ite h.flcRefuse h.flcBegin)

theorem flcSuspend (h : s.Canonical) : s.flcSuspend.Canonical :=
  .ite h.flcRefuse (.ite h.flcRefuse h.set.next.set.flashServeAll)

theorem flcResume (h : s.Canonical) : s.flcResume.Canonical := .ite h.flcRefuse (.ite h.set.set h.flcRefuse)

theorem flcSwap {twin : Nat} (h : s.Canonical) : (s.flcSwap twin).Canonical := .ite h.flcRefuse h.flcBegin

theorem flcEntry {o : FlOp} (h : s.Canonical) : (s.flcEntry o).Canonical :=
  .ite h.setFlc (.ite h.setFlc.eraseBegins h.eraseEnds.flcEnd)

theorem flcPulse {verified : Bool} (h : s.Canonical) : (s.flcPulse verified).Canonical := by
  unfold State.flcPulse
  split
  · exact h
  · exact .ite h (.ite (.ite h.flcEntry h) (.ite (.ite h.setFlc.set.putBytes.cleanLines.flcEnd
      (.ite h.setFlc.set.eraseCells.setFlc h.setFlc.set.infoDone.flcEnd))
      (.ite h.setFlc.set (.ite h.setFlc.set.indeterminate.flcEnd (.ite h.setFlc.set.indeterminate.flcEnd
      h.setFlc.set.indeterminate)))))

theorem flcBlankEnd (h : s.Canonical) : s.flcBlankEnd.Canonical := by
  unfold State.flcBlankEnd
  split
  · exact .ite h.flcEnd h
  · exact h

theorem flcHoldoff (h : s.Canonical) : s.flcHoldoff.Canonical := .ite h.set h

theorem flcTick (h : s.Canonical) : s.flcTick.Canonical := by
  unfold State.flcTick
  refine .ite h.flashServeAll ?_
  split
  · exact .ite h.flashServeAll.flcEntry h.flashServeAll
  · exact h.flashServeAll.setFlc.set
  · exact h.flashServeAll
  · exact .ite h.flashServeAll.setFlc.set (.ite h.flashServeAll h.flashServeAll.setFlc.set)

theorem flcCut {o : FlOp} (h : s.Canonical) : (s.flcCut o).Canonical :=
  .ite h.indeterminate (.ite (.ite h.eraseBegins (.ite h.indeterminate h.eraseEnds)) (.ite h.infoCut h))

theorem flcStop {halt : Bool} (h : s.Canonical) : (s.flcStop halt).Canonical := by
  unfold State.flcStop
  extract_lets +onlyGivenNames s1
  have hs1 : State.Canonical s1 := by
    unfold s1
    split
    · exact h.infoCut.intEnd
    · exact h.intEnd
    · exact h
  dsimp only
  split
  · exact hs1.setFlc
  · exact .flcEndV (.draw (.ite hs1.setFlc.flcCut (.ite hs1.setFlc.infoCut hs1.setFlc)))

theorem twinRead {t : Nat} (h : s.Canonical) : (s.twinRead t).Canonical := .foldl h fun h' => h'.flashLine

theorem recoverHalf {off : Nat} {data : List Byte} (h : s.Canonical) (e : s.recoverHalf off data = some t) :
    t.Canonical := by
  unfold State.recoverHalf at e
  dsimp only at e
  rw [Option.ite_none_right_eq_some, Option.some.injEq] at e
  rw [← e.2]
  exact .putBytes (.ite h.erased h)

theorem recoverCut {off : Nat} (h : s.Canonical) : (s.recoverCut off).Canonical :=
  .ite h.eraseBegins.indeterminate h.indeterminate

theorem recoverErase (h : s.Canonical) : s.recoverErase.Canonical := .foldl h fun h' => h'.erased

theorem pointTwin {t : Nat} (h : s.Canonical) : (s.pointTwin t).Canonical := h.infoDone

/-! ### Jrn -/

theorem setJrn {j : Jrn} (h : s.Canonical) : (s.setJrn j).Canonical := h.of_mem

theorem jrnFree (h : s.Canonical) : s.jrnFree.Canonical :=
  .ite (.raise (.ite h.set.setB.raise h.set.setB)) (.ite h.set.setB.raise h.set.setB)

theorem jrnWrite {rec_ : List Byte} (h : s.Canonical) : (s.jrnWrite rec_).Canonical := h.wr.next.setJrn

theorem setWords8 {f : Nat → Fld} {bs : List Byte} (h : s.Canonical) : (s.setWords8 f bs).Canonical :=
  .foldl h fun h' => h'.set

theorem jrnClose (h : s.Canonical) : s.jrnClose.Canonical := .ite h h.jrnWrite.setWords8.setJrn.jrnFree

theorem jrnAdd {rec_ : List Byte} {isJob : Bool} (h : s.Canonical) : (s.jrnAdd rec_ isJob).Canonical :=
  .ite h.jrnWrite.setJrn.jrnClose h.jrnWrite.setJrn.jrnFree

theorem blockClose (h : s.Canonical) : s.blockClose.Canonical := .ite h.jrnClose h

theorem jrnOpen (h : s.Canonical) : s.jrnOpen.Canonical := .ite h h.set.set.set.setJrn.jrnFree.jrnAdd.set

theorem jrnExport {seq : Nat} (h : s.Canonical) : (s.jrnExport seq).Canonical := .ite h.set.jrnFree h.set.raise

theorem jrnSeal {cause : Nat} (h : s.Canonical) : (s.jrnSeal cause).Canonical :=
  .ite h h.set.jrnAdd.jrnClose.set.set.setWords8.set.set.set.raise

/-! ### Keys -/

theorem setSlot {i : Nat} {k : KSlot} (h : s.Canonical) : (s.setSlot i k).Canonical := h.setKey

theorem setDir {b i v : Nat} (h : s.Canonical) : (s.setDir b i v).Canonical := .ite h.setKey h.of_mem

theorem miss {d b i k refs : Nat} {pin : Bool} {art : Option Nat} (h : s.Canonical) :
    (s.miss d b i k refs pin art).2.Canonical :=
  h.setSlot.setKey

theorem acquire {d art fe i : Nat} {a : Acq} (h : s.Canonical) (e : s.acquire d art fe i = some a) :
    a.st.Canonical := by
  unfold State.acquire at e
  split at e
  · cases e; exact h.setSlot.next
  · split at e
    · cases e
    · cases e; exact h.miss

theorem acquireAll {d art fe : Nat} {seen : List (Nat × Nat)} {hs : List Nat} {r : List Nat × Bool × State}
    (h : s.Canonical) (e : s.acquireAll d art fe seen hs = some r) : r.2.2.Canonical := by
  induction hs generalizing s seen r with
  | nil => cases e; exact h
  | cons i hs ih =>
    unfold State.acquireAll at e
    split at e
    · obtain ⟨r', hr, rfl⟩ := Option.map_eq_some_iff.1 e
      exact ih (r := r') h hr
    · split at e
      · cases e
      next a ha =>
        obtain ⟨r', hr, rfl⟩ := Option.map_eq_some_iff.1 e
        exact ih (r := r') (h.acquire ha) hr

theorem releaseSlot {k : Nat} (h : s.Canonical) : (s.releaseSlot k).Canonical :=
  .ite h (.ite h.setSlot h.setSlot.setKey)

theorem releaseAll {slots : List Nat} (h : s.Canonical) : (s.releaseAll slots).Canonical := .foldl h .releaseSlot

theorem keyInst {op i : Nat} (h : s.Canonical) : (s.keyInst op i).Canonical := .ite h h.setKey.set

theorem dirUpdate {b i v : Nat} (h : s.Canonical) : (s.dirUpdate b i v).Canonical :=
  .setDir (.foldl h fun h' => .ite h'.setSlot (.ite h'.setSlot h'.setSlot))

theorem stagedCheck (h : s.Canonical) : s.stagedCheck.Canonical := .ite h.set.cause h

theorem instEnd {code : Nat} (h : s.Canonical) : (s.instEnd code).Canonical := h.setKey.set.set.cause

theorem instDone (h : s.Canonical) : s.instDone.Canonical := by
  unfold State.instDone
  split
  · exact h
  · refine .ite h.instEnd (.ite h.instEnd (.ite h.instEnd (.ite h.wr.dirUpdate.instEnd (h.afterBank fun h' => ?_))))
    dsimp only
    split
    · exact h'.rd.instEnd
    · exact .ite h'.rd.wr.dirUpdate.instEnd.stagedCheck h'.rd.wr.dirUpdate.instEnd

theorem pinEnd {code : Nat} (h : s.Canonical) : (s.pinEnd code).Canonical := h.setKey.set.set.cause

theorem pin {i : Nat} (h : s.Canonical) : (s.pin i).Canonical := by
  unfold State.pin
  refine .ite h (.ite h.pinEnd (.ite h.pinEnd ?_))
  dsimp only
  split
  · exact .ite h.setSlot.pinEnd h.setSlot.setKey.set
  · split
    · exact h.pinEnd
    · exact h.miss.setKey.set

theorem unpin {i : Nat} (h : s.Canonical) : (s.unpin i).Canonical := by
  unfold State.unpin
  refine .ite h (.ite h.pinEnd ?_)
  split
  · exact h.setSlot.pinEnd
  · exact h.pinEnd

theorem keyFetch {k : Nat} (h : s.Canonical) : (s.keyFetch k).Canonical := .ite h.rd.setSlot.next h

theorem pinAwaits {k code : Nat} (h : s.Canonical) : (s.pinAwaits k code).Canonical := .ite h.pinEnd h

theorem fetchFail {k : Nat} {t : KSlot} (h : s.Canonical) : (s.fetchFail k t).Canonical :=
  .pinAwaits (.cause (.count (.ite h.setSlot h.setSlot)))

theorem keyFetchEnd {k : Nat} (h : s.Canonical) : (s.keyFetchEnd k).Canonical := by
  unfold State.keyFetchEnd
  dsimp only
  split
  · split
    · exact .ite (.pinAwaits (.ite h.setSlot h.setSlot)) h.fetchFail
    · exact h.fetchFail
  · exact h

theorem clearSlots {p : Nat → Bool} (h : s.Canonical) : (s.clearSlots p).Canonical := .ite h.setKey.pinEnd h.setKey

theorem clearCache (h : s.Canonical) : s.clearCache.Canonical := h.clearSlots

theorem clearPartition {d : Nat} (h : s.Canonical) : (s.clearPartition d).Canonical := h.clearSlots

theorem clearTable (h : s.Canonical) : s.clearTable.Canonical := h.of_mem.setKey.set

theorem keepPinned {d : Nat} {hs : List Nat} (h : s.Canonical) : (s.keepPinned d hs).2.Canonical :=
  .foldl h fun h' => h'.setSlot

/-! ### SesSend -/

theorem setCtx {i : Nat} {c : Ses} (h : s.Canonical) : (s.setCtx i c).Canonical := h.setSes

theorem ctxEvict {i : Nat} (h : s.Canonical) : (s.ctxEvict i).Canonical := h.wr.setSes

theorem ctxRoom (h : s.Canonical) : s.ctxRoom.Canonical := by
  unfold State.ctxRoom
  refine .ite h ?_
  split
  · exact h.ctxEvict
  · exact h

theorem ctxFetch {i : Nat} (h : s.Canonical) : (s.ctxFetch i).Canonical :=
  .ite h.ctxRoom.rd.setSes h.ctxRoom.rd.setSes.setCtx

theorem ctxUse {i : Nat} (h : s.Canonical) : (s.ctxUse i).Canonical := .ite h.setSes h.ctxFetch

theorem ctxNew {i : Nat} {c : Ses} (h : s.Canonical) : (s.ctxNew i c).Canonical := h.ctxRoom.setCtx.setSes

theorem sesSend {i epoch kind prio : Nat} {body : List Byte} {job : Option Nat} {promise stamp : Nat}
    (h : s.Canonical) : (s.sesSend i epoch kind prio body job promise stamp).Canonical := by
  unfold State.sesSend
  dsimp only
  split
  · exact h.ctxUse
  · exact h.ctxUse.send

theorem sesSendCur {i kind prio : Nat} {body : List Byte} (h : s.Canonical) :
    (s.sesSendCur i kind prio body).Canonical :=
  h.sesSend

theorem sesSendLast {i kind prio : Nat} {body : List Byte} (h : s.Canonical) :
    (s.sesSendLast i kind prio body).Canonical := by
  unfold State.sesSendLast
  dsimp only
  split
  · exact h.ctxUse
  · exact h.ctxUse.send

theorem txReady {m : TxMsg} (h : s.Canonical) : (s.txReady m).2.Canonical := by
  unfold State.txReady
  dsimp only
  split
  · exact h
  · refine .iteSnd h (.iteSnd h ?_)
    split
    · exact h
    · exact h.setCtx

/-! ### JobOps -/

theorem leaveCore {j : Job} (h : s.Canonical) : (s.leaveCore j).Canonical := by
  unfold State.leaveCore
  split
  · exact h
  · exact h.setCore

theorem leaveFlight {j : Job} {tTx : Nat} (h : s.Canonical) : (s.leaveFlight j tTx).Canonical := by
  unfold State.leaveFlight
  refine .idleMark (.jrnAdd ?_)
  split
  · exact h.of_mem.setCtx
  · exact h.of_mem

theorem completion {id : Nat} (h : s.Canonical) : (s.completion id).Canonical := by
  unfold State.completion
  split
  · exact h
  · split
    · exact h.sesSend
    · exact h.leaveFlight

theorem endJob {j : Job} {st : JobSt} {status detail : Nat} {result : List Byte} (h : s.Canonical) :
    (s.endJob j st status detail result).Canonical := by
  unfold State.endJob
  dsimp only
  split
  · exact h.leaveCore.of_mem.releaseAll.updJob.completion.settle
  · exact h.leaveCore.of_mem.releaseAll.updJob.completion

theorem handlerFault {id detail : Nat} (h : s.Canonical) : (s.handlerFault id detail).Canonical := by
  unfold State.handlerFault
  split
  · exact h
  · exact .ite h h.endJob.count.cause.report

theorem breakJob {id k : Nat} (h : s.Canonical) : (s.breakJob id k).Canonical := by
  unfold State.breakJob
  split
  · exact h
  · refine .ite h ?_
    dsimp only
    split
    · exact .ite h.endJob.of_mem h.endJob.count.cause
    · exact h.endJob.count.cause

theorem breakJobs {p : Job → Bool} {k : Nat} (h : s.Canonical) : (s.breakJobs p k).Canonical :=
  .foldl h fun h' => h'.breakJob

/-! ### Recolour -/

theorem recolourRefuse {err : Nat} (h : s.Canonical) : (s.recolourRefuse err).Canonical := h.set.raise

theorem recolour {c : Nat} {reencrypt : Bool} (h : s.Canonical) : (s.recolour c reencrypt).Canonical :=
  .ite h.recolourRefuse (.ite h.recolourRefuse h.of_mem.set.set.set.set)

theorem recolourKeys {c : Nat} {keys : List Byte} (h : s.Canonical) : (s.recolourKeys c keys).Canonical := by
  unfold State.recolourKeys
  dsimp only
  split
  · exact h.of_mem.next.set.set
  · exact h.of_mem.next.set.sweepEnd

theorem sweepLine (h : s.Canonical) : s.sweepLine.Canonical := by
  unfold State.sweepLine
  split
  · exact h
  · refine .ite h ?_
    dsimp only
    split
    · exact .set (.ite h.readOwn.putBytes.setLine h.dropBytes.setLine)
    · exact .sweepEnd (.ite h.readOwn.putBytes.setLine h.dropBytes.setLine)

/-! ### Entropy -/

theorem setEnt {e : Ent} (h : s.Canonical) : (s.setEnt e).Canonical := h.of_mem

theorem setPair {p : Nat} {k : Pair} (h : s.Canonical) : (s.setPair p k).Canonical := h.setEnt

theorem storeBlock {bs : List Byte} (h : s.Canonical) : (s.storeBlock bs).Canonical := .ite h.setEnt h

theorem reseedDue (h : s.Canonical) : s.reseedDue.Canonical := h.setEnt

theorem reseedTimer (h : s.Canonical) : s.reseedTimer.Canonical := .ite h.reseedDue h

theorem takeSeed {r : List Byte × State} (h : s.Canonical) (e : s.takeSeed = some r) : r.2.Canonical := by
  unfold State.takeSeed at e
  split at e
  · cases e; exact h.setEnt
  · cases e

theorem starve (h : s.Canonical) : s.starve.Canonical := .ite h h.set.cause

theorem unstarve (h : s.Canonical) : s.unstarve.Canonical := .ite h.set.cause h

theorem reseed (h : s.Canonical) : s.reseed.Canonical := by
  unfold State.reseed
  refine .ite (.ite h ?_) (.ite ?_ h)
  · split
    next => exact h.starve
    next e => exact (h.takeSeed e).setEnt.next.unstarve
  · split
    next => exact h
    next e => exact (h.takeSeed e).setEnt.next.set.unstarve

theorem windowEnd {p : Nat} {bs : List Byte} (h : s.Canonical) : (s.windowEnd p bs).Canonical := by
  unfold State.windowEnd
  extract_lets k c rct apt est full bad good k' s1 _ s2
  have h2 : State.Canonical s2 := .ite h.setPair.setEnt h.setPair
  refine .ite ?_ (.ite (.ite h2.set.storeBlock.reseed h2.set.storeBlock) (.ite h2.set.set h2.set))
  exact .ite (.cause (.set (.set (.cause (.ite (.count (.ite h2.count h2)) (.ite h2.count h2))))))
    (.set (.cause (.ite (.count (.ite h2.count h2)) (.ite h2.count h2))))

theorem estimateEnd {p : Nat} (h : s.Canonical) : (s.estimateEnd p).Canonical := by
  unfold State.estimateEnd
  split
  · exact h
  · exact h.setPair.set.set

theorem gen {n : Nat} (h : s.Canonical) : (s.gen n).2.Canonical := h.setEnt.set

theorem dropReq {r : EntReq} (h : s.Canonical) : (s.dropReq r).Canonical := h.setEnt

theorem sesRandom {ctx : Nat} {bs : List Byte} (h : s.Canonical) : (s.sesRandom ctx bs).Canonical := h.setEnt

theorem cardRandom {unit : Nat} {bs : List Byte} (h : s.Canonical) : (s.cardRandom unit bs).Canonical := h.setEnt

theorem keepLines {a : Nat} {ls : List (List Byte)} (h : s.Canonical) : (s.keepLines a ls).Canonical := by
  induction ls generalizing s a with
  | nil => exact h
  | cons l ls ih => exact ih h.wr

theorem keptUnits {a left : Nat} (h : s.Canonical) : (s.keptUnits a left).Canonical := h.setEnt

theorem serveKeep (h : s.Canonical) : s.serveKeep.Canonical := by
  unfold State.serveKeep
  split
  · exact h
  · exact .ite (.ite h h.setEnt.keptUnits.keepLines) h.gen.keptUnits.keepLines

theorem serveReq {r : EntReq} (h : s.Canonical) : (s.serveReq r).Canonical := by
  unfold State.serveReq
  dsimp only
  split
  · exact h.serveKeep
  · split
    · exact h.dropReq.gen.recolourKeys
    · exact h.of_mem
  · exact h.of_mem
  · exact .set h.of_mem
  · exact h.of_mem
  · exact h.dropReq.gen.sesRandom
  · exact h.dropReq.gen.cardRandom
  · exact h.dropReq.gen.cardRandom

theorem askKey {r : EntReq} (h : s.Canonical) : (s.askKey r).Canonical := .ite h h.setEnt

theorem keyServe (h : s.Canonical) : s.keyServe.Canonical := by
  unfold State.keyServe
  split
  · exact h
  · exact .ite h (.ite (.ite h.reseed h) (.serveReq (.ite h.reseed h)))

theorem keyServeAll (h : s.Canonical) : s.keyServeAll.Canonical := .foldl h fun h' => h'.keyServe

theorem serveFirst (h : s.Canonical) : s.serveFirst.Canonical := by
  have keep : (match firstReq 5 s.ent.reqs with | some r => s.serveReq r | none => s).Canonical := by
    split
    · exact h.serveReq
    · exact h
  refine .ite keep ?_
  split
  · exact h.serveReq
  · split
    · exact h.serveReq
    · refine .ite (.of_mem (s := (s.gen 512).2) h.gen) ?_
      split
      · exact .of_mem (s := (s.gen 64).2) h.gen
      · exact keep

theorem drbgServe (h : s.Canonical) : s.drbgServe.Canonical :=
  .ite h (.ite h.serveFirst (.ite h.starve (.ite h.reseed.serveFirst h)))

theorem entReqEnd {code : Nat} (h : s.Canonical) : (s.entReqEnd code).Canonical := h.setEnt.set.set.cause

theorem entReq {units : Nat} (h : s.Canonical) : (s.entReq units).Canonical :=
  .ite h (.ite h.entReqEnd (.ite h.entReqEnd h.setEnt.set))

theorem entReqDone (h : s.Canonical) : s.entReqDone.Canonical := by
  unfold State.entReqDone
  split
  · exact h.entReqEnd
  · exact h

theorem entTest {mode pair : Nat} (h : s.Canonical) : (s.entTest mode pair).Canonical :=
  .ite h (.ite h.set.set.set.setEnt h.set.set.set)

theorem entTestOff {pair : Nat} (h : s.Canonical) : (s.entTestOff pair).Canonical := .ite h h.set.set.set.set

theorem entRestart (h : s.Canonical) : s.entRestart.Canonical := .foldl h fun h' => .ite h' h'.set.set.setPair

/-! ### Icc -/

theorem setIcc {n : Nat} {k : Icc} (h : s.Canonical) : (s.setIcc n k).Canonical := h.of_mem

theorem iccEvent {v : Nat} (h : s.Canonical) : (s.iccEvent v).Canonical := h.cause

theorem iccOff {n : Nat} (h : s.Canonical) : (s.iccOff n).Canonical := h.setIcc.set.set.set.set

theorem iccCode {n op code rlen : Nat} (h : s.Canonical) : (s.iccCode n op code rlen).Canonical := h.set.set.iccEvent

theorem iccEnd {n code rlen : Nat} (h : s.Canonical) : (s.iccEnd n code rlen).Canonical := h.setIcc.set.iccCode

theorem iccFail {n code : Nat} (h : s.Canonical) : (s.iccFail n code).Canonical := h.iccEnd.iccOff

theorem iccSend {n : Nat} {bs : List Byte} (h : s.Canonical) : (s.iccSend n bs).Canonical := h.setIcc

theorem updIcc {n : Nat} {f : Icc → Icc} (h : s.Canonical) : (s.updIcc n f).Canonical := h.setIcc

theorem t1Send {n pcb : Nat} {inf : List Byte} (h : s.Canonical) : (s.t1Send n pcb inf).Canonical := h.iccSend

theorem t1Next {n : Nat} (h : s.Canonical) : (s.t1Next n).Canonical := h.setIcc.t1Send

theorem t1Bad {n err : Nat} (h : s.Canonical) : (s.t1Bad n err).Canonical :=
  .ite h.setIcc.t1Send (.ite h.setIcc.t1Send h.iccFail)

theorem t0Header {n : Nat} {hdr data : List Byte} (h : s.Canonical) : (s.t0Header n hdr data).Canonical :=
  h.updIcc.iccSend

theorem iccApdu {n : Nat} {apdu : List Byte} (h : s.Canonical) : (s.iccApdu n apdu).Canonical :=
  .ite h.updIcc.set.updIcc.t1Next h.updIcc.set.updIcc.t0Header

theorem iccReset {n cls : Nat} (h : s.Canonical) : (s.iccReset n cls).Canonical := h.setIcc.set.set.set.set.set

theorem iccActive {n : Nat} (h : s.Canonical) : (s.iccActive n).Canonical := h.set.iccEnd

theorem iccIfs {n : Nat} (h : s.Canonical) : (s.iccIfs n).Canonical := .ite h.updIcc.t1Send h.iccActive

theorem iccNoAtr {n : Nat} (h : s.Canonical) : (s.iccNoAtr n).Canonical := .ite h.iccOff.updIcc h.iccFail

theorem iccAtrDone {n : Nat} {a : Atr} (h : s.Canonical) : (s.iccAtrDone n a).Canonical :=
  .ite h.iccFail (.ite h.iccNoAtr (.ite h.wr.set.setIcc.updIcc.iccSend h.wr.set.setIcc.iccIfs))

theorem iccBusy {n op : Nat} (h : s.Canonical) : (s.iccBusy n op).Canonical := h.updIcc.set

theorem iccActivate {n : Nat} (h : s.Canonical) : (s.iccActivate n).Canonical := by
  unfold State.iccActivate
  split
  · exact h.iccCode
  · exact h.set.iccBusy.updIcc.iccReset

theorem clen {clen lo hi : Nat} (h : s.Canonical) : (s.clen clen lo hi).2.Canonical := .iteSnd h h.of_mem

theorem iccExchange {n clen : Nat} (h : s.Canonical) : (s.iccExchange n clen).Canonical := by
  unfold State.iccExchange
  split
  · exact h.iccCode
  · exact h.afterBank fun h' => h'.clen.rd.iccBusy.iccApdu

theorem iccDeactivate {n : Nat} (h : s.Canonical) : (s.iccDeactivate n).Canonical :=
  .ite h.set.set (.ite h.iccFail h.set.set.iccOff)

theorem iccStop {n : Nat} (h : s.Canonical) : (s.iccStop n).Canonical := .ite h.iccFail h.iccOff

theorem iccPresent {n : Nat} (h : s.Canonical) : (s.iccPresent n).Canonical := .ite h h.set.iccEvent

theorem iccRemoved {n : Nat} (h : s.Canonical) : (s.iccRemoved n).Canonical := .ite h.iccStop.set.iccEvent h

theorem iccClockStop {n : Nat} (h : s.Canonical) : (s.iccClockStop n).Canonical := .ite h.updIcc.set h

theorem iccDeep {n : Nat} (h : s.Canonical) : (s.iccDeep n).Canonical := .ite h.iccStop (.ite h.iccClockStop.updIcc h)

theorem iccWake {n : Nat} (h : s.Canonical) : (s.iccWake n).Canonical := .ite h.updIcc.set h

theorem iccRetryB {n : Nat} (h : s.Canonical) : (s.iccRetryB n).Canonical := .ite h.iccReset h

theorem iccTimeout {n : Nat} (h : s.Canonical) : (s.iccTimeout n).Canonical := by
  unfold State.iccTimeout
  split
  · exact h.iccNoAtr
  · exact h.iccFail
  · exact h.iccFail
  · exact h.iccFail
  · exact h.iccFail
  · exact h

theorem t0Proc {n b : Nat} (h : s.Canonical) : (s.t0Proc n b).Canonical :=
  .ite h (.ite h.setIcc (.ite (.ite (.ite h h.setIcc) h.setIcc.iccSend)
    (.ite (.ite (.ite h h.setIcc) h.setIcc.iccSend) h)))

theorem iccResp {n : Nat} {resp : List Byte} (h : s.Canonical) : (s.iccResp n resp).Canonical := h.wr.iccEnd

theorem iccDone {n : Nat} {f : State → Nat → List Byte → State} {resp : List Byte} (h : s.Canonical)
    (hf : ∀ {t a1 a2}, t.Canonical → (f t a1 a2).Canonical) : (s.iccDone n f resp).Canonical :=
  .ite (hf h) h.iccResp

theorem t0Status {n : Nat} {f : State → Nat → List Byte → State} {sw1 sw2 : Nat} (h : s.Canonical)
    (hf : ∀ {t a1 a2}, t.Canonical → (f t a1 a2).Canonical) : (s.t0Status n f sw1 sw2).Canonical :=
  .ite h.t0Header.updIcc (.ite h.t0Header.updIcc (h.iccDone hf))

theorem t0Char {n : Nat} {f : State → Nat → List Byte → State} {b : Byte} (h : s.Canonical)
    (hf : ∀ {t a1 a2}, t.Canonical → (f t a1 a2).Canonical) : (s.t0Char n f b).Canonical := by
  unfold State.t0Char
  dsimp only
  split
  · exact h.t0Proc
  · exact h.setIcc
  · exact h.t0Status hf

theorem t1Good {n : Nat} {f : State → Nat → List Byte → State} {pcb : Nat} {inf : List Byte} (h : s.Canonical)
    (hf : ∀ {t a1 a2}, t.Canonical → (f t a1 a2).Canonical) : (s.t1Good n f pcb inf).Canonical := by
  unfold State.t1Good
  refine .ite (.ite h.setIcc.t1Bad (.ite h.setIcc.setIcc.t1Send (h.setIcc.setIcc.iccDone hf)))
    (.ite (.ite h.setIcc.t1Bad (.ite h.setIcc.setIcc.t1Next h.setIcc.iccSend)) ?_)
  split
  · exact h.setIcc.setIcc.t1Send
  · exact h.setIcc.t1Send
  · exact h.setIcc.t1Send
  · exact .ite h.setIcc.setIcc.t1Next h.setIcc.t1Bad
  · exact h.setIcc.t1Bad

theorem t1Block {n : Nat} {f : State → Nat → List Byte → State} (h : s.Canonical)
    (hf : ∀ {t a1 a2}, t.Canonical → (f t a1 a2).Canonical) : (s.t1Block n f).Canonical :=
  .ite h.setIcc.t1Bad (.ite h.setIcc.t1Bad (.ite (.ite h.setIcc.iccActive
    (.ite h.setIcc.t1Send (.ite h.iccSend h.setIcc.t1Bad))) (h.t1Good hf)))

theorem t1Char {n : Nat} {f : State → Nat → List Byte → State} {b : Byte} {bad : Bool} (h : s.Canonical)
    (hf : ∀ {t a1 a2}, t.Canonical → (f t a1 a2).Canonical) : (s.t1Char n f b bad).Canonical :=
  .ite (h.setIcc.t1Block hf) h.setIcc

theorem atrChar {n : Nat} {b : Byte} (h : s.Canonical) : (s.atrChar n b).Canonical := by
  unfold State.atrChar
  refine .ite h.setIcc.iccFail ?_
  split
  · exact h.setIcc.iccAtrDone
  · exact h.setIcc

theorem ppsChar {n : Nat} {b : Byte} (h : s.Canonical) : (s.ppsChar n b).Canonical :=
  .ite h.setIcc.set.set.iccIfs (.ite h.setIcc h.iccFail)

theorem iccParity {n : Nat} {at_ : Option Nat} (h : s.Canonical) : (s.iccParity n at_).Canonical :=
  .ite h.setIcc.count (.ite h.iccEnd h.iccFail)

theorem iccChar {n : Nat} {f : State → Nat → List Byte → State} {b : Byte} {kind : Nat} (h : s.Canonical)
    (hf : ∀ {t a1 a2}, t.Canonical → (f t a1 a2).Canonical) : (s.iccChar n f b kind).Canonical := by
  unfold State.iccChar
  dsimp only
  split
  · exact .ite h.setIcc.atrChar (.ite (.ite h.iccParity (.ite h.iccParity h)) h)
  · exact .ite h.setIcc.ppsChar (.ite h.iccParity (.ite h.iccParity h))
  · exact .ite (h.setIcc.t0Char hf) (.ite h.iccParity (.ite h.iccParity h))
  · exact .ite h (h.t1Char hf)
  · exact .ite h (h.t1Char hf)
  · exact h

/-! ### Engine -/

theorem putCmd {c : Cmd} (h : s.Canonical) : (s.putCmd c).Canonical := h.of_mem

theorem dropCmd {c : Cmd} (h : s.Canonical) : (s.dropCmd c).Canonical := h.of_mem

theorem opnd {c : Cmd} {e a n : Nat} (h : s.Canonical) : (s.opnd c e a n).2.Canonical := by
  unfold State.opnd
  refine .iteSnd h ?_
  split
  · exact h.rd
  · exact h

theorem cmdWrites {c : Cmd} {e : Nat} {ws : List (Nat × List Byte)} (h : s.Canonical) :
    (s.cmdWrites c e ws).Canonical := by
  induction ws generalizing s with
  | nil => exact h
  | cons w ws ih => exact ih (.ite h h.wr)

theorem poolEvent {pool k : Nat} (h : s.Canonical) : (s.poolEvent pool k).Canonical :=
  .ite h.cause (.ite h.cause h.cause)

theorem engineFault {c : Cmd} {e addr : Nat} (h : s.Canonical) : (s.engineFault c e addr).Canonical := h.report

theorem refuse {c : Cmd} {e code addr : Nat} (h : s.Canonical) : (s.refuse c e code addr).Canonical :=
  h.putCmd.count.engineFault.poolEvent

theorem unitEnd {c : Cmd} {code : Nat} (h : s.Canonical) : (s.unitEnd c code).Canonical := .ite h.of_mem h.of_mem

theorem endCmd {c : Cmd} {e code : Nat} (h : s.Canonical) : (s.endCmd c e code).Canonical :=
  .ite h.unitEnd (.ite h.dropCmd.cmdWrites.wr.next.completeTicket h.dropCmd.cmdWrites.completeTicket)

theorem doneCmd {c : Cmd} {code outLen : Nat} {writes : List (Nat × List Byte)} (h : s.Canonical) :
    (s.doneCmd c code outLen writes).Canonical :=
  h.putCmd

/-! ### Dig -/

theorem digDone {r : DigRun} {code outLen : Nat} {ws : List (Nat × List Byte)} (h : s.Canonical) :
    (s.digDone r code outLen ws).Canonical :=
  h.doneCmd

theorem digOut {r : DigRun} {out : List Byte} (h : s.Canonical) : (s.digOut r out).Canonical := h.digDone

theorem digHash {r : DigRun} (h : s.Canonical) : (s.digHash r).Canonical := h.opnd.digOut

theorem digHmac {r : DigRun} (h : s.Canonical) : (s.digHmac r).Canonical := h.opnd.digOut

theorem digHmacVerify {r : DigRun} (h : s.Canonical) : (s.digHmacVerify r).Canonical := h.opnd.opnd.digDone

theorem digSeal {r : DigRun} {head body : List Byte} (h : s.Canonical) : (s.digSeal r head body).2.Canonical :=
  .iteSnd h.of_mem h

theorem digBad {r : DigRun} (h : s.Canonical) : (s.digBad r).Canonical := h.digDone.engineFault.poolEvent

theorem digInit {r : DigRun} (h : s.Canonical) : (s.digInit r).Canonical := .ite h.digBad h.digSeal.digDone

theorem digMore {r : DigRun} {final : Bool} (h : s.Canonical) : (s.digMore r final).Canonical := by
  unfold State.digMore
  refine .ite h.opnd.opnd.digBad ?_
  split
  · exact h.opnd.opnd.digBad
  · exact .ite h.opnd.opnd.digSeal.digDone h.opnd.opnd.digSeal.digDone

theorem digDo {e op : Nat} {f : State → DigRun → State} (h : s.Canonical)
    (hf : ∀ {t a1}, t.Canonical → (f t a1).Canonical) : (s.digDo e op f).Canonical := by
  unfold State.digDo
  split
  · exact h
  · exact .ite (hf h) h

theorem digEnd {e : Nat} (h : s.Canonical) : (s.digEnd e).Canonical := by
  unfold State.digEnd
  split
  · exact h
  · split
    · exact h
    · exact .ite h.endCmd.next h.endCmd

/-! ### Sym -/

theorem symOut {r : SymRun} {out : List Byte} (h : s.Canonical) : (s.symOut r out).Canonical := h.doneCmd

theorem symFail {r : SymRun} {code : Nat} (h : s.Canonical) : (s.symFail r code).Canonical := h.doneCmd

theorem symVerdict {r : SymRun} {ok : Bool} (h : s.Canonical) : (s.symVerdict r ok).Canonical := h.symFail

theorem symIn {r : SymRun} (h : s.Canonical) : (s.symIn r).2.Canonical := h.opnd

theorem symAux {r : SymRun} (h : s.Canonical) : (s.symAux r).2.Canonical := h.opnd

theorem symStream {r : SymRun} {out iv : List Byte} (h : s.Canonical) : (s.symStream r out iv).Canonical :=
  h.cmdWrites.doneCmd

theorem symEcb {r : SymRun} {dec : Bool} (h : s.Canonical) : (s.symEcb r dec).Canonical := h.symIn.symStream

theorem symCbc {r : SymRun} {dec : Bool} (h : s.Canonical) : (s.symCbc r dec).Canonical := h.symIn.symStream

theorem symCtr {r : SymRun} (h : s.Canonical) : (s.symCtr r).Canonical := h.symIn.symStream

theorem symGcmEnc {r : SymRun} (h : s.Canonical) : (s.symGcmEnc r).Canonical := h.symIn.symAux.symStream

theorem symGcmDec {r : SymRun} (h : s.Canonical) : (s.symGcmDec r).Canonical := h.symIn.symAux.doneCmd

theorem symCmac {r : SymRun} {ver : Bool} (h : s.Canonical) : (s.symCmac r ver).Canonical :=
  .ite h.symIn.symAux.symVerdict h.symIn.symOut

theorem symTmac {r : SymRun} {ver : Bool} (h : s.Canonical) : (s.symTmac r ver).Canonical :=
  .ite h.symIn.symAux.symVerdict h.symIn.symOut

theorem symFf1 {r : SymRun} {dec : Bool} (h : s.Canonical) : (s.symFf1 r dec).Canonical :=
  .ite h.symIn.symAux.symOut h.symIn.symAux.draw.symOut

theorem symRandom {e n : Nat} {r : List Byte × State} (h : s.Canonical) (he : s.symRandom e n = some r) :
    r.2.Canonical := by
  unfold State.symRandom at he
  dsimp only at he
  split at he
  · cases he
  · cases he; exact h.of_mem

theorem symShortEnd {r : SymRun} (h : s.Canonical) : (s.symShortEnd r).Canonical := h.symFail.poolEvent

theorem symPinOut {r : SymRun} {fmt : Nat} {k : KeyMat} {pan pin : List Nat} (h : s.Canonical) :
    (s.symPinOut r fmt k pan pin).Canonical := by
  unfold State.symPinOut
  split
  next => exact h.symShortEnd
  next e => exact (h.symRandom e).symOut

theorem symPinTranslate {r : SymRun} (h : s.Canonical) : (s.symPinTranslate r).Canonical := by
  unfold State.symPinTranslate
  dsimp only
  split
  · exact h.symIn.symFail
  · exact h.symIn.symPinOut

theorem symPvf {r : SymRun} {ver : Bool} (h : s.Canonical) : (s.symPvf r ver).Canonical := by
  unfold State.symPvf
  dsimp only
  split
  · exact h.symIn.symFail
  · exact .ite h.symIn.symVerdict h.symIn.symOut

theorem symArqc {r : SymRun} (h : s.Canonical) : (s.symArqc r).Canonical :=
  .ite (.ite h.symIn.symAux.symOut h.symIn.symAux.symFail) h.symIn.symAux.symFail

theorem symArpc {r : SymRun} (h : s.Canonical) : (s.symArpc r).Canonical := h.symAux.symOut

theorem symDukptPin {r : SymRun} (h : s.Canonical) : (s.symDukptPin r).Canonical := by
  unfold State.symDukptPin
  refine .ite h.symIn.symFail ?_
  dsimp only
  split
  · exact h.symIn.symFail
  · exact h.symIn.symPinOut

theorem symDukptMac {r : SymRun} (h : s.Canonical) : (s.symDukptMac r).Canonical :=
  .ite h.symIn.symAux.symFail h.symIn.symAux.symVerdict

theorem symDukptDec {r : SymRun} (h : s.Canonical) : (s.symDukptDec r).Canonical :=
  .ite h.symIn.symAux.symFail h.symIn.symAux.symOut

theorem symCer {r : SymRun} (h : s.Canonical) : (s.symCer r).Canonical := by
  unfold State.symCer
  split
  · exact h.symFail
  · exact h.draw.symOut

theorem symKbImport {r : SymRun} (h : s.Canonical) : (s.symKbImport r).Canonical := by
  unfold State.symKbImport
  refine .ite h.symCer ?_
  dsimp only
  split
  · exact h.symIn.symFail
  · exact h.symIn.symOut

theorem symKbExport {r : SymRun} (h : s.Canonical) : (s.symKbExport r).Canonical := by
  unfold State.symKbExport
  split
  · exact h.symFail
  · split
    next => exact h.symShortEnd
    next e => exact (h.symRandom e).symOut

theorem symDo {e : Nat} {op : SymOp} {f : State → SymRun → State} (h : s.Canonical)
    (hf : ∀ {t a1}, t.Canonical → (f t a1).Canonical) : (s.symDo e op f).Canonical := by
  unfold State.symDo
  split
  · exact h
  · split
    · exact h
    · exact .ite (hf h) h

theorem symEnd {e : Nat} (h : s.Canonical) : (s.symEnd e).Canonical := by
  unfold State.symEnd
  split
  · exact h
  · split
    · exact h
    · exact .ite h.endCmd.next h.endCmd

/-! ### Pool -/

theorem reach {c : Cmd} {e : Nat} (h : s.Canonical) : (s.reach c e).Canonical := by
  unfold State.reach
  dsimp only
  split
  · exact h.putCmd.refuse
  · exact h.putCmd

theorem dispatch {pool e : Nat} (h : s.Canonical) : (s.dispatch pool e).Canonical := by
  unfold State.dispatch
  refine .ite h ?_
  split
  · refine .ite ?_ h.putCmd
    split
    · exact h.reach
    · exact h
  · split
    · exact h.reach
    · exact h

theorem yield {pool e : Nat} (h : s.Canonical) : (s.yield pool e).Canonical := by
  unfold State.yield
  refine .ite ?_ h
  split
  · exact h.putCmd.reach
  · exact h

/-! ### Pke -/

theorem pkeEvict (h : s.Canonical) : s.pkeEvict.Canonical := by
  unfold State.pkeEvict
  refine .ite h ?_
  split
  · exact h
  · exact h.putCmd.count.poolEvent

theorem opnds {c : Cmd} {e : Nat} {os : List (Nat × Nat)} (h : s.Canonical) : (s.opnds c e os).2.Canonical := by
  induction os generalizing s with
  | nil => exact h
  | cons o os ih => exact ih h.opnd

theorem pkeSeed {c : Cmd} (h : s.Canonical) : (s.pkeSeed c).Canonical := .ite h.putCmd (.ite h.putCmd h.of_mem.putCmd)

theorem pkeReachUnit {c : Cmd} {e : Nat} (h : s.Canonical) : (s.pkeReachUnit c e).Canonical :=
  .ite h.pkeSeed (.ite h.refuse (.ite h.refuse h.pkeSeed))

theorem pkeReach {c : Cmd} {e : Nat} (h : s.Canonical) : (s.pkeReach c e).Canonical := by
  unfold State.pkeReach
  refine .ite h.pkeReachUnit (.ite h.refuse (.ite (.refuse (.iteSnd h.opnd h)) ?_))
  split
  · exact h.refuse
  · exact .ite h.opnds.refuse h.opnds.pkeSeed

theorem pkeAssign {e : Nat} {cs : List Cmd} (h : s.Canonical) : (s.pkeAssign e cs).Canonical := by
  induction cs generalizing s e with
  | nil => exact h
  | cons c cs ih => exact ih (.ite h.putCmd h.putCmd.pkeReach)

theorem pkeSchedule (h : s.Canonical) : s.pkeSchedule.Canonical := h.of_mem.pkeAssign

theorem pkeDo {job ticket op : Nat} {f : PkRun → PkRes} (h : s.Canonical) : (s.pkeDo job ticket op f).Canonical := by
  unfold State.pkeDo
  split
  · exact h
  · exact .ite h.doneCmd h

theorem pkeEnd {job ticket : Nat} {failed : Bool} (h : s.Canonical) : (s.pkeEnd job ticket failed).Canonical := by
  unfold State.pkeEnd
  split
  · exact h
  · split
    · exact .ite h (.ite h.endCmd.tamper.count.poolEvent (.ite h.endCmd.next
        (.ite h.endCmd.next (.ite h.endCmd.poolEvent h.endCmd))))
    · exact h

/-! ### Mmu -/

theorem warmEvent {was : Bool} {d r : Nat} (h : s.Canonical) : (s.warmEvent was d r).Canonical := .ite h.raise h

theorem putEntry {i v : Nat} (h : s.Canonical) : (s.putEntry i v).Canonical := .ite h.of_mem.warmEvent h.of_mem

theorem tdataWrite {v : Nat} (h : s.Canonical) : (s.tdataWrite v).Canonical := h.putEntry

theorem postReq {d va : Nat} {l : Leaf} (h : s.Canonical) : (s.postReq d va l).Canonical :=
  .ite h (.ite (.reqStatus (.ite h.of_mem.raise h.of_mem)) h.of_mem.reqStatus)

theorem reqAppend (h : s.Canonical) : s.reqAppend.Canonical := by
  unfold State.reqAppend
  split
  · exact h
  · exact .ite (.reqStatus (.ite h.of_mem.raise h.of_mem)) h

theorem regionArm (h : s.Canonical) : s.regionArm.Canonical := .ite h.of_mem.warmEvent h

theorem rearm {d : Nat} {old new : Option Content} (h : s.Canonical) : (s.rearm d old new).Canonical := h.of_mem

/-! ### Restore -/

theorem restoreCode {code : Nat} (h : s.Canonical) : (s.restoreCode code).Canonical := h.set.raise

theorem restoreBusy (h : s.Canonical) : s.restoreBusy.Canonical := h.setB.setB

theorem restoreGo {d r : Nat} (h : s.Canonical) : (s.restoreGo d r).Canonical :=
  .ite h.restoreCode (.ite h.of_mem.restoreBusy (.ite h.of_mem.restoreBusy h.restoreCode))

theorem keyRead {d i : Nat} (h : s.Canonical) : (s.keyRead d i).2.Canonical := by
  unfold State.keyRead
  refine .iteSnd h ?_
  dsimp only
  split
  · exact h.rd
  · exact h.rd

theorem imageKey {d i : Nat} (h : s.Canonical) : (s.imageKey d i).2.Canonical := h.keyRead

theorem restoreChunk {x : Restore} (h : s.Canonical) : (s.restoreChunk x).2.Canonical := h.memAgent.readDdr

theorem restoreRun {x : Restore} (h : s.Canonical) : (s.restoreRun x).Canonical := by
  unfold State.restoreRun
  refine .ite h.restoreCode ?_
  split
  · exact h.restoreCode
  · refine .ite h.restoreCode (.ite h.restoreChunk.restoreCode ?_)
    dsimp only
    split
    · exact h.restoreChunk.imageKey.restoreCode
    · split
      · exact h.restoreChunk.imageKey.restoreCode
      · exact .ite h.restoreChunk.imageKey.restoreCode h.restoreChunk.imageKey.writeDdr.putEntry.next.restoreCode

theorem restoreFree {lane : Nat} (h : s.Canonical) : (s.restoreFree lane).Canonical := h.of_mem.restoreBusy

theorem restoreEnd {lane : Nat} (h : s.Canonical) : (s.restoreEnd lane).Canonical := by
  unfold State.restoreEnd
  split
  · exact h
  · exact h.restoreFree.restoreRun

theorem restoreStop {x : Restore} (h : s.Canonical) : (s.restoreStop x).Canonical :=
  .ite h.draw.restoreRun h.draw.restoreCode

theorem restoreKill (h : s.Canonical) : s.restoreKill.Canonical :=
  .restoreBusy (.foldl h.of_mem fun h' => h'.restoreStop)

/-! ### Ses -/

theorem kopenEnd {i code sid : Nat} (h : s.Canonical) : (s.kopenEnd i code sid).Canonical :=
  .ite h.setSes.set.set.set.cause h

theorem sesFree {i code : Nat} (h : s.Canonical) : (s.sesFree i code).Canonical :=
  .set (.of_mem (.ite (.set (.ite h.kopenEnd.set.cause (.ite h.kopenEnd.set h.kopenEnd)))
    (.ite h.kopenEnd.set.cause (.ite h.kopenEnd.set h.kopenEnd))))

theorem dropQueued {c : Ses} (h : s.Canonical) : (s.dropQueued c).Canonical := by
  unfold State.dropQueued
  refine .foldl h.setNet fun h' => ?_
  split
  · exact h'.leaveFlight
  · exact h'

theorem sesClose {i : Nat} {code : Option Nat} (h : s.Canonical) : (s.sesClose i code).Canonical := by
  unfold State.sesClose
  refine .ite h (.sesFree ?_)
  split
  · exact .ite h.dropQueued.sesSendLast h.dropQueued
  · exact h.dropQueued

theorem sesCloseAll {p : Ses → Bool} {code : Option Nat} (h : s.Canonical) : (s.sesCloseAll p code).Canonical :=
  .foldl h fun h' => h'.sesClose

theorem sesAsk {i group rnd : Nat} (h : s.Canonical) : (s.sesAsk i group rnd).Canonical := h.of_mem

theorem rekeyStart {i : Nat} (h : s.Canonical) : (s.rekeyStart i).Canonical := .ite h.setCtx.sesAsk h

theorem seqCheck {i : Nat} (h : s.Canonical) : (s.seqCheck i).Canonical :=
  .ite h (.ite h.sesClose (.ite h.setCtx.rekeyStart h))

theorem sesDrained {i : Nat} (h : s.Canonical) : (s.sesDrained i).Canonical :=
  .ite h.ctxUse.setCtx.sesSendCur.rekeyStart h

theorem dgDrop {p : Peer} (h : s.Canonical) : (s.dgDrop p).Canonical := h.netDrop

theorem deliver {m : RxMsg} (h : s.Canonical) : (s.deliver m).Canonical := h.setSes

theorem reassemble {m : RxMsg} {first frag total : Nat} (h : s.Canonical) :
    (s.reassemble m first frag total).Canonical := by
  unfold State.reassemble
  refine .ite h.deliver ?_
  dsimp only
  split
  · refine .ite h.setSes.count ?_
    split
    · exact h.setSes.deliver
    · exact h.setSes
  · exact .ite h.count h.setSes

theorem reassemblyTimeout (h : s.Canonical) : s.reassemblyTimeout.Canonical := by
  unfold State.reassemblyTimeout
  split
  · exact h
  · exact h.setSes.count

theorem rxCtx {i : Nat} {p : Peer} {b : List Byte} {arr : Rat} (h : s.Canonical) : (s.rxCtx i p b arr).Canonical := by
  unfold State.rxCtx
  refine .ite (.ite h.ctxUse.reassemble h.ctxUse.dgDrop) ?_
  split
  · exact h.ctxUse.dgDrop
  · exact .ite h.ctxUse.next (.ite h.ctxUse.next h.ctxUse.setCtx.reassemble.seqCheck)

theorem rxDatagram {p : Peer} {b : List Byte} (h : s.Canonical) : (s.rxDatagram p b).Canonical := by
  unfold State.rxDatagram
  refine .ite h.dgDrop (.ite (.ite h.dgDrop h.reassemble) ?_)
  split
  · exact h.dgDrop
  · exact .ite h.rxCtx (.ite h.next.count.netDrop h.next.setSes)

theorem contextFetch (h : s.Canonical) : s.contextFetch.Canonical := by
  unfold State.contextFetch
  split
  · exact h
  · dsimp only
    split
    · exact h.setSes.dgDrop
    · exact .ite h.setSes.count.netDrop h.setSes.rxCtx

theorem frameReceive {k corr : Nat} {bad : Bool} {f : List Byte} (h : s.Canonical) :
    (s.frameReceive k corr bad f).Canonical := by
  unfold State.frameReceive
  refine .ite h (.ite h.idleMark.set.count (.ite h.idleMark.set.netDrop ?_))
  split
  · exact h.idleMark.set.netDrop
  · dsimp only
    split
    · exact h.idleMark.set.netDrop
    · exact h.idleMark.set.next.rxDatagram
    · exact h.idleMark.set.next.setNet
    · exact h.idleMark.set.next.neighbour
    · exact h.idleMark.set.next

theorem txFrame {k : Nat} {m : TxMsg} (h : s.Canonical) : (s.txFrame k m).Canonical := by
  unfold State.txFrame
  split
  · exact h.setNet
  · exact h.txReady.setNet.next

theorem messageTx {k : Nat} (h : s.Canonical) : (s.messageTx k).Canonical := by
  unfold State.messageTx
  refine .ite h ?_
  split
  · refine .ite h ?_
    dsimp only
    split
    · exact h.txFrame.seqCheck
    · exact h.txFrame
  · exact h

theorem takeMsg {p : RxMsg → Bool} {r : RxMsg × State} (h : s.Canonical) (e : s.takeMsg p = some r) :
    r.2.Canonical := by
  unfold State.takeMsg at e
  split at e
  · cases e
  · cases e; exact h.setSes

theorem onMsg {kind : Nat} {f : State → RxMsg → Nat → State} (h : s.Canonical)
    (hf : ∀ {t m i}, t.Canonical → (f t m i).Canonical) : (s.onMsg kind f).Canonical := by
  unfold State.onMsg
  split
  next e =>
    split
    · exact hf (h.takeMsg e)
    · exact h.takeMsg e
  next => exact h

theorem rxClose (h : s.Canonical) : s.rxClose.Canonical := h.onMsg fun h' => h'.sesClose

theorem rxPing (h : s.Canonical) : s.rxPing.Canonical := h.onMsg fun h' => h'.sesSendCur

theorem rxPong (h : s.Canonical) : s.rxPong.Canonical := h.onMsg fun h' => h'

theorem rxQuery (h : s.Canonical) : s.rxQuery.Canonical := h.onMsg fun h' => h'.sesSendCur

theorem rxRekeyReq (h : s.Canonical) : s.rxRekeyReq.Canonical := h.onMsg fun h' => .ite h' h'.setCtx.rekeyStart

theorem rxEpochDone (h : s.Canonical) : s.rxEpochDone.Canonical := h.onMsg fun h' => .ite h'.setCtx h'

theorem sessionIdle {i : Nat} (h : s.Canonical) : (s.sessionIdle i).Canonical := .ite h.sesClose h

theorem rxApp (h : s.Canonical) : s.rxApp.Canonical := by
  unfold State.rxApp
  split
  next => exact h
  next e =>
    have h' := h.takeMsg e
    exact .ite h' (.ite h'.count h'.rd.wr.wr.set.cause)

theorem keepSend {k : Nat} (h : s.Canonical) : (s.keepSend k).Canonical := by
  induction k generalizing s with
  | zero => exact h
  | succ k ih =>
    refine .ite h (h.afterBank fun h' => h'.afterBank fun h'' => ih ?_)
    split
    · exact .ite h'.rd.set.rd.sesSendCur.seqCheck h'.rd.set
    · exact h'.rd.set

theorem keepTx {tail : Nat} (h : s.Canonical) : (s.keepTx tail).Canonical := h.set.keepSend

/-! ### SesHs -/

theorem sesPk {i op curve : Nat} {ins : List (List Byte)} (h : s.Canonical) : (s.sesPk i op curve ins).Canonical :=
  h.of_mem

theorem sesAgree {i g d : Nat} {epk : List Byte} (h : s.Canonical) : (s.sesAgree i g d epk).Canonical := h.sesPk

theorem sesVerify {i : Nat} {k : CertKey} {dig sig : List Byte} (h : s.Canonical) :
    (s.sesVerify i k dig sig).Canonical :=
  h.sesPk

theorem sendClear {p : Peer} {sid kind : Nat} {body : List Byte} (h : s.Canonical) :
    (s.sendClear p sid kind body).Canonical :=
  h.send

theorem reject {p : Peer} {code : Nat} (h : s.Canonical) : (s.reject p code).Canonical := h.sendClear.cause

theorem helloC (h : s.Canonical) : s.helloC.Canonical := by
  unfold State.helloC
  split
  next => exact h
  next e =>
    have h' := h.takeMsg e
    refine .ite h' (.ite h'.count (.ite h' ?_))
    split
    · exact h'.reject
    · refine .ite h' ?_
      split
      · exact h'
      · exact .ite h'.count h'.ctxNew.set.sesAsk

theorem hsEnd {i code : Nat} (h : s.Canonical) : (s.hsEnd i code).Canonical := h.sesFree.reject

theorem beginHelloD {i : Nat} {bs : List Byte} (h : s.Canonical) : (s.beginHelloD i bs).Canonical := h.setCtx.sesAgree

theorem sendHelloD {i : Nat} {rnd : List Byte} {r : Nat × List Byte} (h : s.Canonical) :
    (s.sendHelloD i rnd r).Canonical :=
  .ite h.sesFree (.ite h.hsEnd h.setCtx.set.sendClear)

theorem sesOpened {i : Nat} {c : Ses} (h : s.Canonical) : (s.sesOpened i c).Canonical := h.setCtx.set.set.next.cause

theorem finishC (h : s.Canonical) : s.finishC.Canonical := by
  unfold State.finishC
  refine h.onMsg fun h' => .ite h' ?_
  split
  · exact h'.next
  · dsimp only
    split
    · exact h'.hsEnd
    · exact h'.setCtx.sesVerify

theorem endFinishC {i : Nat} {p : Peer} {root t fin : List Byte} {r : Nat × List Byte} (h : s.Canonical) :
    (s.endFinishC i p root t fin r).Canonical :=
  .ite h.hsEnd h.sesOpened.sesSendCur

theorem openFail {i code : Nat} (h : s.Canonical) : (s.openFail i code).Canonical := h.sesFree

theorem hsTimeout {i : Nat} (h : s.Canonical) : (s.hsTimeout i).Canonical := .ite (.ite h.openFail h.hsEnd) h

theorem openTo {p : Peer} {group : Nat} {anchor : List Byte} {fed : Bool} {r : Nat × State} (h : s.Canonical)
    (e : s.openTo p group anchor fed = some r) : r.2.Canonical := by
  unfold State.openTo at e
  split at e
  · cases e
  · split at e
    · cases e
    · cases e; exact h.ctxNew.set.sesAsk

theorem keepOpen {addr : Nat} (h : s.Canonical) : (s.keepOpen addr).Canonical := by
  unfold State.keepOpen
  refine .ite h (h.afterBank fun h' => .ite h'.rd.set.set.set.set.set.cause ?_)
  split
  next => exact h'.rd.set.set.set.set.set.cause
  next e => exact (h'.rd.set.set.set.openTo e).setSes

theorem sendHelloC {i : Nat} {bs : List Byte} (h : s.Canonical) : (s.sendHelloC i bs).Canonical := h.setCtx.sendVia

theorem helloD (h : s.Canonical) : s.helloD.Canonical := h.onMsg fun h' => .ite h' h'.setCtx.sesAgree

theorem openHelloD {i : Nat} {p : Peer} {sid : Nat} {body : List Byte} {r : Nat × List Byte} (h : s.Canonical) :
    (s.openHelloD i p sid body r).Canonical := by
  unfold State.openHelloD
  refine .ite h.openFail ?_
  split
  · exact h.openFail
  · dsimp only
    split
    · exact h.openFail
    · exact h.setCtx.sesVerify

theorem sendFinishC {i : Nat} {p : Peer} {sid : Nat} {root t fin : List Byte} {r : Nat × List Byte}
    (h : s.Canonical) : (s.sendFinishC i p sid root t fin r).Canonical :=
  .ite h.openFail h.setCtx.sendClear

theorem ready (h : s.Canonical) : s.ready.Canonical := h.onMsg fun h' => .ite h' h'.sesOpened.set.kopenEnd

theorem rxReject (h : s.Canonical) : s.rxReject.Canonical := h.onMsg fun h' => .ite h'.openFail h'

theorem sendRekey {i : Nat} {bs : List Byte} (h : s.Canonical) : (s.sendRekey i bs).Canonical := h.setCtx.sesSendCur

theorem rekeyAck (h : s.Canonical) : s.rekeyAck.Canonical := by
  unfold State.rekeyAck
  refine h.onMsg fun h' => .ite h' ?_
  split
  · exact h'
  · exact h'.setCtx

theorem rekeyTimeout {i : Nat} (h : s.Canonical) : (s.rekeyTimeout i).Canonical := .ite h.sesClose h

theorem rxRekey (h : s.Canonical) : s.rxRekey.Canonical := h.onMsg fun h' => .ite h' h'.setCtx.sesAsk

theorem sendRekeyAck {i : Nat} {peer bs : List Byte} (h : s.Canonical) : (s.sendRekeyAck i peer bs).Canonical := by
  unfold State.sendRekeyAck
  dsimp only
  split
  · exact h.setCtx
  · exact h.sesSendCur.setCtx

theorem sesStep {i : Nat} (h : s.Canonical) : (s.sesStep i).Canonical := by
  unfold State.sesStep
  split
  · exact h
  · dsimp only
    split
    · exact h.of_mem.beginHelloD
    · exact h.of_mem.sendHelloC
    · exact h.of_mem.sendRekey
    · exact h.of_mem.sendRekeyAck
    · exact h.of_mem

theorem sesPkStep {i : Nat} (h : s.Canonical) : (s.sesPkStep i).Canonical := by
  unfold State.sesPkStep
  split
  · exact h
  · dsimp only
    split
    · exact h.setSes.sendHelloD
    · exact h.setSes.endFinishC
    · exact h.setSes.openHelloD
    · exact h.setSes.sendFinishC
    · exact h.setSes

theorem sesServed (h : s.Canonical) : s.sesServed.Canonical := .foldl h .sesStep

theorem sesPkServed (h : s.Canonical) : s.sesPkServed.Canonical := .foldl h .sesPkStep

theorem sesKill (h : s.Canonical) : s.sesKill.Canonical := h.sesCloseAll.setSes.askKey.keyServeAll

theorem sesClassGone {d : Nat} (h : s.Canonical) : (s.sesClassGone d).Canonical := h.sesCloseAll

/-! ### Cer -/

theorem rootValid {share : List Byte} (h : s.Canonical) : (s.rootValid share).Canonical := h.setKey.set.set

theorem cerCode {code : Nat} (h : s.Canonical) : (s.cerCode code).Canonical := h.set.iccEvent

theorem cerClear (h : s.Canonical) : s.cerClear.Canonical := h.of_mem.set.set

theorem cerTouch (h : s.Canonical) : s.cerTouch.Canonical := h.of_mem

theorem cerOpen {target n dome : Nat} (h : s.Canonical) : (s.cerOpen target n dome).Canonical :=
  .ite h.of_mem.set.set.cerCode h.cerCode

theorem cerClose (h : s.Canonical) : s.cerClose.Canonical := h.cerClear.cerCode

theorem cerTimeout (h : s.Canonical) : s.cerTimeout.Canonical := .ite h.cerClear h

theorem iccComponent {n i : Nat} (h : s.Canonical) : (s.iccComponent n i).Canonical := by
  unfold State.iccComponent
  dsimp only
  split
  · exact h.cerTouch.iccCode
  · exact h.of_mem.iccBusy.updIcc

theorem iccRandom {n : Nat} (h : s.Canonical) : (s.iccRandom n).Canonical := by
  unfold State.iccRandom
  dsimp only
  split
  · exact h.of_mem.setIcc.iccApdu
  · exact h

theorem componentResp {n : Nat} {resp : List Byte} (h : s.Canonical) : (s.componentResp n resp).Canonical := by
  unfold State.componentResp
  dsimp only
  split
  · exact h.wr.iccEnd
  · exact .ite h.wr.iccEnd h.wr.of_mem.set.iccEnd

theorem iccCharacter {n : Nat} {b : Byte} {kind : Nat} (h : s.Canonical) : (s.iccCharacter n b kind).Canonical :=
  h.iccChar .componentResp

theorem cerFinish (h : s.Canonical) : s.cerFinish.Canonical := by
  unfold State.cerFinish
  refine .ite h.cerCode (.ite h.cerClear.cerCode (.ite h.of_mem.set.cerCode ?_))
  dsimp only
  split
  · exact .ite h.of_mem.rootValid.cerCode h.cerClear.cerCode
  · exact h.of_mem.infoAsk.rootValid.cerCode

theorem cerWrap (h : s.Canonical) : s.cerWrap.2.2.Canonical := by
  unfold State.cerWrap
  dsimp only
  split
  · exact h.keyRead
  · exact h.keyRead

theorem cerSubmit {pool op : Nat} {ins : List (List Byte)} (h : s.Canonical) : (s.cerSubmit pool op ins).Canonical :=
  h.of_mem

theorem cerImport (h : s.Canonical) : s.cerImport.Canonical :=
  .ite h.cerTouch.cerCode (h.cerTouch.afterBank fun h' => .ite h'.rd.of_mem.cerWrap.cerSubmit h'.rd.of_mem.cerSubmit)

theorem cerProgress (h : s.Canonical) : s.cerProgress.Canonical := by
  unfold State.cerProgress
  split
  · exact h
  · exact .cerCode (.ite h.of_mem.wr h.of_mem)

/-! ### Fed -/

theorem setFed {f : Fed} (h : s.Canonical) : (s.setFed f).Canonical := h.of_mem

theorem fedSend {i ty : Nat} {b : List Byte} (h : s.Canonical) : (s.fedSend i ty b).Canonical := h.sesSendCur

theorem setTerm {t : Nat} (h : s.Canonical) : (s.setTerm t).Canonical := .ite h h.set.cause

theorem fedOpen {alt : Bool} (h : s.Canonical) : (s.fedOpen alt).Canonical := by
  unfold State.fedOpen
  refine .ite h.setFed ?_
  split
  next => exact h.setFed
  next e => exact (h.openTo e).setFed

theorem fedStart (h : s.Canonical) : s.fedStart.Canonical :=
  .ite h.set.setFed.set (.ite h.set.setFed.set.fedOpen h.set.setFed)

theorem fedJoin (h : s.Canonical) : s.fedJoin.Canonical := by
  unfold State.fedJoin
  split
  · exact h
  · exact .ite h h.setFed.fedSend

theorem fedReady (h : s.Canonical) : s.fedReady.Canonical := .ite h h.fedJoin

theorem fedRejoin (h : s.Canonical) : s.fedRejoin.Canonical := .ite h h.fedJoin

theorem fedYield {term : Nat} (h : s.Canonical) : (s.fedYield term).Canonical := h.setTerm.set.setFed.set.fedOpen

theorem ksEntries {b i n : Nat} (h : s.Canonical) : (s.ksEntries b i n).2.Canonical := by
  induction n generalizing s i with
  | zero => exact h
  | succ n ih => exact ih h.rd

theorem sendBank {i b epoch : Nat} (h : s.Canonical) : (s.sendBank i b epoch).Canonical :=
  .foldl h fun h' => h'.ksEntries.fedSend

theorem stageBegin {e : Nat} (h : s.Canonical) : (s.stageBegin e).Canonical :=
  .ite h (.set (.setFed (.foldl h fun h' => h'.setDir)))

theorem stageReady (h : s.Canonical) : s.stageReady.Canonical := by
  unfold State.stageReady
  split
  · exact .ite h.stagedCheck.fedSend h
  · exact h

theorem stageNext (h : s.Canonical) : s.stageNext.Canonical := by
  unfold State.stageNext
  split
  · exact .ite h.stageBegin.stageReady h
  · exact h

theorem stageFor {e ta : Nat} (h : s.Canonical) : (s.stageFor e ta).Canonical := h.setFed.set.stageNext

theorem takeAnnounce {epoch next ta : Nat} (h : s.Canonical) : (s.takeAnnounce epoch next ta).Canonical :=
  .ite h (.ite h.stageFor (.ite h h.stageFor))

theorem onFed {ty : Nat} {f : State → RxMsg → Nat → State} (h : s.Canonical)
    (hf : ∀ {t m i}, t.Canonical → (f t m i).Canonical) : (s.onFed ty f).Canonical := by
  unfold State.onFed
  split
  next e =>
    split
    · exact hf (h.takeMsg e)
    · exact h.takeMsg e
  next => exact h

theorem rxJoin (h : s.Canonical) : s.rxJoin.Canonical := by
  unfold State.rxJoin
  refine h.onFed fun h' => .ite h' (.ite h'.fedSend (.ite h'.fedYield ?_))
  dsimp only
  split
  · exact h'.setFed.set.fedSend.sendBank.sendBank
  · exact h'.setFed.set.fedSend.sendBank

theorem rxWelcome (h : s.Canonical) : s.rxWelcome.Canonical :=
  h.onFed fun h' => .ite (.ite h'.fedYield h') (.ite h' h'.setTerm.set.cause.setFed.takeAnnounce)

theorem rxBeat (h : s.Canonical) : s.rxBeat.Canonical :=
  h.onFed fun h' => .ite h' (.takeAnnounce (.setFed (.ite h'.setTerm.set.cause h'.setTerm)))

theorem rxTimeQ (h : s.Canonical) : s.rxTimeQ.Canonical := h.onFed fun h' => .ite h' h'.sesSend

theorem rxTimeR (h : s.Canonical) : s.rxTimeR.Canonical := h.onFed fun h' => .ite h' h'.set.set.setB

theorem stageDirect {e : Nat} (h : s.Canonical) : (s.stageDirect e).Canonical := .ite h.stageFor h

theorem rxKeyset (h : s.Canonical) : s.rxKeyset.Canonical :=
  .ite h (h.onFed fun h' => .ite h' (.ite h'.set (.stageReady (.stageDirect
    (.foldl h'.stageBegin fun h'' => h''.wr.dirUpdate)))))

theorem rxReadyE (h : s.Canonical) : s.rxReadyE.Canonical := by
  unfold State.rxReadyE
  refine h.onFed fun h' => ?_
  split
  · exact h'
  · exact .ite h' h'.setFed.set

theorem rxLeave (h : s.Canonical) : s.rxLeave.Canonical := h.onFed fun h' => .sesClose (.ite h'.set.setFed h')

theorem beatTimer (h : s.Canonical) : s.beatTimer.Canonical := .ite h (.foldl h fun h' => h'.fedSend)

theorem timeQTimer (h : s.Canonical) : s.timeQTimer.Canonical := by
  unfold State.timeQTimer
  refine .ite h ?_
  dsimp only
  split
  · exact .sesSend (.setFed (.ite h h.count))
  · exact .setFed (.ite h h.count)

theorem memberLoss (h : s.Canonical) : s.memberLoss.Canonical := .ite h.set.setFed.cause h

theorem fedRetry (h : s.Canonical) : s.fedRetry.Canonical := by
  unfold State.fedRetry
  refine .ite h (.fedOpen ?_)
  split
  · exact h.sesClose
  · exact h

theorem takeover (h : s.Canonical) : s.takeover.Canonical := .ite h.set.setTerm h

theorem announce (h : s.Canonical) : s.announce.Canonical :=
  .ite h (.ite h.set (.ite h.set (.ite h.set (.foldl h.stagedCheck.setFed.set.set fun h' => h'.sendBank))))

theorem reclaim (h : s.Canonical) : s.reclaim.Canonical := by
  unfold State.reclaim
  refine .ite (.setTerm (.set ?_)) h
  split
  · exact h.sesClose
  · exact h

theorem fedSwitch (h : s.Canonical) : s.fedSwitch.Canonical := by
  unfold State.fedSwitch
  split
  · exact h
  · exact .ite h (.ite h.setFed.set.set.set.set.cause (.ite h h.set.cause))

theorem fedDrained (h : s.Canonical) : s.fedDrained.Canonical :=
  .ite h (.stageNext (.cause (.set (.foldl h fun h' => h'.wr.dirUpdate))))

/-! ### Stb -/

theorem setStb {k : Stb} (h : s.Canonical) : (s.setStb k).Canonical := h.of_mem

theorem stbBusy (h : s.Canonical) : s.stbBusy.Canonical := h.setB

theorem setDomeSt {d v : Nat} (h : s.Canonical) : (s.setDomeSt d v).Canonical := h.set

theorem stbBusyErr (h : s.Canonical) : s.stbBusyErr.Canonical := h.set.set

theorem stbStart {abrupt : Bool} {dome : Nat} (h : s.Canonical) : (s.stbStart abrupt dome).Canonical := by
  unfold State.stbStart
  dsimp only
  split
  · exact .ite h.set.set.setStb.set h.stbBusyErr
  · exact .ite h.stbBusyErr (.stbBusy (.set (.setStb (.foldl h.set.set fun h' => h'.set))))

theorem stbEnd {beside : Bool} {phase code detail : Nat} (h : s.Canonical) :
    (s.stbEnd beside phase code detail).Canonical :=
  .ite (.raise (.set (.setStb (.ite h h.set.set)))) (.raise (.stbBusy
    (.set (.set (.setStb (.ite (.set (.ite h h.set.set)) (.ite h h.set.set)))))))

theorem stbFail {beside : Bool} {e : Nat × Nat} (h : s.Canonical) : (s.stbFail beside e).Canonical := h.stbEnd

theorem stbAbort (h : s.Canonical) : s.stbAbort.Canonical := by
  unfold State.stbAbort
  split
  · exact .ite h h.stbEnd
  · exact h

theorem putApp {beside : Bool} {a : StbApp} (h : s.Canonical) : (s.putApp beside a).Canonical :=
  .ite h.setStb h.setStb.set

theorem stbCopy {x : Xfer} {src dst n k : Nat} {acc : List Byte} (h : s.Canonical) :
    (s.stbCopy x src dst n acc k).2.Canonical := by
  induction k generalizing s src dst n acc with
  | zero => cases n <;> exact h
  | succ k ih =>
    cases n with
    | zero => exact h
    | succ n => exact ih h.rd.wr

theorem staged {x : Xfer} {a n k : Nat} {acc : List Byte} (h : s.Canonical) :
    (s.staged x a n acc k).2.Canonical := by
  induction k generalizing s a n acc with
  | zero => cases n <;> exact h
  | succ k ih =>
    cases n with
    | zero => exact h
    | succ n => exact ih h.rd

theorem stagedOf {a : StbApp} (h : s.Canonical) : (s.stagedOf a).2.Canonical := h.staged

theorem stbCopyStep {beside : Bool} {a : StbApp} (h : s.Canonical) : (s.stbCopyStep beside a).Canonical :=
  .ite h (.ite h.stbCopy.stbFail (.ite h.stbCopy.putApp.set h.stbCopy.putApp))

theorem stbSignStep {beside : Bool} {a : StbApp} (h : s.Canonical) : (s.stbSignStep beside a).Canonical := by
  unfold State.stbSignStep
  dsimp only
  split
  · exact h.stagedOf.stbFail
  · exact h.stagedOf.putApp

theorem stageRules {a : Allot} {rules : List (Nat × Rule)} (h : s.Canonical) : (s.stageRules a rules).Canonical :=
  .of_mem (.ite h.set.set.set.set.raise h.set.set.set)

theorem stbCheckStep {beside : Bool} {a : StbApp} (h : s.Canonical) : (s.stbCheckStep beside a).Canonical := by
  unfold State.stbCheckStep
  dsimp only
  split
  · exact h.stagedOf.stbFail
  · refine .ite h.stagedOf.putApp ?_
    split
    · refine .ite h.stagedOf.stbFail (.ite h.stagedOf.stbFail ?_)
      split
      · refine .stbFail (.putApp ?_)
        split
        · exact h.stagedOf.stageRules
        · exact h.stagedOf
      · refine .putApp (.setStb ?_)
        split
        · exact h.stagedOf.stageRules
        · exact h.stagedOf
    · exact h.stagedOf.stbFail

theorem loadMasks {b : List Byte} (h : s.Canonical) : (s.loadMasks b).Canonical := .setB (.foldl h fun h' => h'.set)

theorem stbAmendStep {beside : Bool} {a : StbApp} (h : s.Canonical) : (s.stbAmendStep beside a).Canonical :=
  h.stagedOf.loadMasks.putApp.stbEnd

theorem loadDecode {p : Nat} {b : List Byte} (h : s.Canonical) : (s.loadDecode p b).Canonical :=
  .foldl (.foldl h.of_mem fun h' => .ite h' h'.set.set.set) fun h' => .foldl h' fun h'' => h''.set

theorem loadCore {c : Nat} {i : Image} (h : s.Canonical) : (s.loadCore c i).Canonical := h.dropBytes.putBytes.putBytes

theorem loadSpire {p : Nat} {i : Image} (h : s.Canonical) : (s.loadSpire p i).Canonical :=
  .set (.dropBytes (.setSpire (.loadDecode (.foldl h fun h' => h'.loadCore))))

theorem domeCheck {d : Nat} (h : s.Canonical) : (s.domeCheck d).Canonical := by
  unfold State.domeCheck
  refine .ite h ?_
  split
  · exact h.setDomeSt.stbEnd
  · exact h.setDomeSt

theorem markReloads {d : Nat} {c : Content} (h : s.Canonical) : (s.markReloads d c).Canonical :=
  .settleAll (.foldl h fun h' => .ite h' (.ite h'.setSpire (.ite h'.setSpire h')))

theorem installNext {d : Nat} {keepOld : Bool} (h : s.Canonical) : (s.installNext d keepOld).Canonical := by
  unfold State.installNext
  split
  · exact h
  · exact h.rearm.setDome.setStb.set.markReloads

theorem rulesEdge {rules : Bool} (h : s.Canonical) : (s.rulesEdge rules).Canonical := .ite h.artSwitchEdge.set h

theorem domeReset {d : Nat} (h : s.Canonical) : (s.domeReset d).Canonical := h.clearPartition.sesCloseAll

theorem appEdge {phase : Nat} (h : s.Canonical) : (s.appEdge phase).Canonical := by
  unfold State.appEdge
  split
  · exact h.putApp
  · exact h

theorem loadEdge {a : StbApp} (h : s.Canonical) : (s.loadEdge a).Canonical := by
  unfold State.loadEdge
  extract_lets +onlyGivenNames _ s1
  have hs1 : State.Canonical s1 := .rulesEdge (.setDomeSt (.ite (.ite h h.next) (.set (.ite h h.next))))
  exact .domeCheck (.appEdge (.installNext (.ite hs1.domeReset hs1)))

theorem drainEdge {a : StbApp} (h : s.Canonical) : (s.drainEdge a).Canonical :=
  h.next.setDomeSt.set.rulesEdge.installNext.appEdge.raise

theorem stopMovers {p : MvDesc → Bool} (h : s.Canonical) : (s.stopMovers p).Canonical := h.of_mem

theorem haltDome {d : Nat} (h : s.Canonical) : (s.haltDome d).Canonical := h.breakJobs.of_mem

theorem stopEdge {a : StbApp} (h : s.Canonical) :
    (s.stopEdge a).Canonical := h.haltDome.setDomeSt.setDome.appEdge.raise

theorem stbEdge {a : StbApp} (h : s.Canonical) : (s.stbEdge a).Canonical :=
  .ite h.putApp.raise.setDome.loadEdge (.ite h.drainEdge h.stopEdge)

theorem resetEdge {d : Nat} (h : s.Canonical) : (s.resetEdge d).Canonical := by
  unfold State.resetEdge
  refine .domeCheck ?_
  split
  · exact h.next.setDomeSt.domeReset.markReloads
  · exact h.next.setDomeSt.domeReset

theorem fenceDrained {d : Nat} (h : s.Canonical) : (s.fenceDrained d).Canonical :=
  .ite (.ite h.set.raise.setDome.sesClassGone.appEdge h.set.raise.setDome.sesClassGone) h.set.raise.setDome

theorem domeAfter {d : Nat} (h : s.Canonical) : (s.domeAfter d).Canonical := by
  unfold State.domeAfter
  refine .ite ?_ (.ite h.setDome.resetEdge (.ite h.setDome.domeReset.setDomeSt h.setDome))
  split
  · exact h.setDome.loadEdge
  · exact h.setDome

theorem domeDrained {d : Nat} (h : s.Canonical) : (s.domeDrained d).Canonical :=
  .domeCheck (.ite (.domeAfter (.ite h.fenceDrained h)) (.ite h.fenceDrained h))

theorem spireReload {p : Nat} (h : s.Canonical) : (s.spireReload p).Canonical := .ite h.setSpire.settle h

theorem spireReloadEnd {p : Nat} (h : s.Canonical) : (s.spireReloadEnd p).Canonical := by
  unfold State.spireReloadEnd
  refine .ite h ?_
  split
  · exact h
  · exact h.loadSpire.setSpire.settle.domeCheck

theorem loadFaults {b : List Byte} (h : s.Canonical) : (s.loadFaults b).Canonical :=
  .foldl (.foldl h fun h' => h'.set.set.set) fun h' => h'.set

theorem loadPower {b : List Byte} (h : s.Canonical) : (s.loadPower b).Canonical := h.of_mem

theorem loadNetwork {net fed : List Byte} (h : s.Canonical) : (s.loadNetwork net fed).Canonical :=
  .of_mem (.foldl h fun h' => h'.set)

theorem loadShares {as : List (Nat × Allot)} (h : s.Canonical) : (s.loadShares as).Canonical :=
  .foldl h fun h' => h'.set.set.set.set.set

theorem recolourMap {m : List (Nat × Nat)} (h : s.Canonical) : (s.recolourMap m).Canonical :=
  .of_mem (.foldl h fun h' => h'.dropBytes)

theorem infoAskUnless {c : Prop} [Decidable c] {w : InfoW} (h : s.Canonical) :
    (if c then s else s.infoAsk w).Canonical :=
  .ite h h.infoAsk

theorem wholeLoad {a : StbApp} (h : s.Canonical) : (s.wholeLoad a).Canonical := by
  refine .putApp (.infoAskUnless (.recolourMap (.set (.loadNetwork (.foldl ?_ fun h' => .foldl h' ?_)))))
  · refine .setStb (.loadShares (.foldl (.withDomes (.loadPower (.set (.set (.withArtCur ?_))))) fun h' =>
      h'.setDome))
    exact h.stagedOf.loadMasks.loadFaults
  · exact fun h' => h'.loadSpire.setSpire

theorem step8Done (h : s.Canonical) : s.step8Done.Canonical := h.set

theorem wholeCommit (h : s.Canonical) : s.wholeCommit.Canonical :=
  .ite h (.step8Done (.stbEnd (.settleAll (.foldl h fun h' => h'.setDomeSt.setB.set.set))))

theorem stbNone (h : s.Canonical) : s.stbNone.Canonical := .ite h.set.step8Done h

theorem stbStep {beside : Bool} {a : StbApp} (h : s.Canonical) : (s.stbStep beside a).Canonical :=
  .ite h.stbCopyStep (.ite h.stbSignStep (.ite (.ite h (.ite h.stbCheckStep h.stbEdge))
    (.ite h.stbCheckStep (.ite h.stbAmendStep (.ite h.wholeCommit h.wholeLoad)))))

theorem stbTick (h : s.Canonical) : s.stbTick.Canonical := by
  unfold State.stbTick
  extract_lets +onlyGivenNames s1
  have hs1 : State.Canonical s1 := by
    unfold s1
    split
    · exact h.stbStep
    · exact h
  split
  · exact hs1.stbStep
  · exact hs1

theorem stbRaise {asks : List (Option Nat × Nat)} (h : s.Canonical) : (s.stbRaise asks).Canonical :=
  .ite h.stbBusyErr (.stbBusy (.setStb (.foldl h fun h' => h'.infoAsk)))

theorem raiseWhole (h : s.Canonical) : s.raiseWhole.Canonical := h.stbRaise

theorem raiseDome {d : Nat} (h : s.Canonical) : (s.raiseDome d).Canonical := h.stbRaise

theorem raiseBoth {d : Nat} (h : s.Canonical) : (s.raiseBoth d).Canonical := h.stbRaise

theorem raiseDone (h : s.Canonical) : s.raiseDone.Canonical := by
  unfold State.raiseDone
  split
  · exact h
  · refine .ite h.infoFinish (.stbBusy (.setStb ?_))
    split
    · exact h.infoFinish.set
    · exact h.infoFinish.set

/-! ### Sdh -/

theorem setSdh {k : Sdh} (h : s.Canonical) : (s.setSdh k).Canonical := h.of_mem

theorem sdhEvent {v : Nat} (h : s.Canonical) : (s.sdhEvent v).Canonical := h.cause

theorem sdhCode {code : Nat} (h : s.Canonical) : (s.sdhCode code).Canonical := h.set.sdhEvent

theorem sdSend {ws : List (Nat × Nat)} (h : s.Canonical) : (s.sdSend ws).Canonical := h.setSdh

theorem sdMoves {read : Bool} {b n : Nat} (h : s.Canonical) : (s.sdMoves read b n).Canonical := h.sdSend

theorem sdRpmbMoves {reliable : Bool} {w r : Nat} (h : s.Canonical) :
    (s.sdRpmbMoves reliable w r).Canonical := h.sdSend

theorem sdIdentify (h : s.Canonical) : s.sdIdentify.Canonical := h.sdSend

theorem sdhEnd {code : Nat} (h : s.Canonical) : (s.sdhEnd code).Canonical :=
  .ite h.setSdh.set.sdhCode.sdhEvent h.setSdh.set.sdhCode

theorem sdhBegin {op : Nat} {ph : SdPhase} (h : s.Canonical) : (s.sdhBegin op ph).Canonical := h.setSdh.set.set

theorem sdhOff (h : s.Canonical) : s.sdhOff.Canonical := h.setSdh.set.set.set.set.set.set

theorem sdhInit (h : s.Canonical) : s.sdhInit.Canonical := by
  unfold State.sdhInit
  split
  · exact h.sdhCode
  · exact h.sdhOff.sdhBegin.setSdh.sdIdentify

theorem sdAddress (h : s.Canonical) : s.sdAddress.Canonical := h.setSdh.sdSend

theorem sdIdentified {type : Nat} {s18a : Bool} (h : s.Canonical) : (s.sdIdentified type s18a).Canonical :=
  .ite h.sdhEnd (.ite h.set.setSdh.sdSend h.set.sdAddress)

theorem sdSwitchFail (h : s.Canonical) : s.sdSwitchFail.Canonical := h.sdhOff.setSdh

theorem sdAgain (h : s.Canonical) : s.sdAgain.Canonical := .ite h.setSdh.sdIdentify h

theorem sdSelected {data : List Byte} (h : s.Canonical) :
    (s.sdSelected data).Canonical := h.set.set.setB.setSdh.sdSend

theorem sdReady (h : s.Canonical) : s.sdReady.Canonical := .sdhEnd (.set (.set (.ite h.set h)))

theorem sdFetch (h : s.Canonical) : s.sdFetch.Canonical := h.rd.setSdh

theorem sdhMove {op : Nat} (h : s.Canonical) : (s.sdhMove op).Canonical := by
  unfold State.sdhMove
  split
  · exact h.sdhCode
  · exact .ite h.sdhBegin.sdhEnd h.sdhBegin.setSdh.sdMoves

theorem sdBlock {data : List Byte} (h : s.Canonical) : (s.sdBlock data).Canonical :=
  .ite (.sdhEnd (.set (.setSdh (.ite h.wr h)))) (.ite (.sdFetch (.set (.setSdh (.ite h.wr h))))
    (.set (.setSdh (.ite h.wr h))))

theorem sdSleepCmd {sleep : Bool} (h : s.Canonical) : (s.sdSleepCmd sleep).Canonical := h.sdSend

theorem sdRest (h : s.Canonical) : s.sdRest.Canonical := h.sdSleepCmd.setSdh.set

theorem sdhSleep {op : Nat} (h : s.Canonical) : (s.sdhSleep op).Canonical := by
  unfold State.sdhSleep
  split
  · exact h.sdhCode
  · exact .ite h.sdhBegin.sdhEnd.sdRest h.sdhBegin.sdSleepCmd

theorem sdhPowerOff (h : s.Canonical) : s.sdhPowerOff.Canonical := by
  unfold State.sdhPowerOff
  split
  · exact h.sdhCode
  · exact h.sdhOff.set.sdhCode

theorem rpmbKey (h : s.Canonical) : s.rpmbKey.2.Canonical := h.keyRead

theorem rpmbNonce (h : s.Canonical) : s.rpmbNonce.Canonical := h.setSdh

theorem rpmbAskCounter (h : s.Canonical) : s.rpmbAskCounter.Canonical := h.rpmbNonce.setSdh.sdRpmbMoves

theorem rpmbAskData (h : s.Canonical) : s.rpmbAskData.Canonical := h.rpmbNonce.setSdh.sdRpmbMoves

theorem sdhRpmb {op : Nat} (h : s.Canonical) : (s.sdhRpmb op).Canonical := by
  unfold State.sdhRpmb
  split
  · exact h.sdhCode
  · refine .ite h.sdhBegin.sdhEnd (.ite h.sdhBegin.sdhEnd (.ite h.sdhBegin.sdhEnd
      (.ite h.sdhBegin.draw.sdhEnd (.ite h.sdhBegin.sdhEnd ?_))))
    dsimp only
    split
    · exact h.sdhBegin.rpmbKey.sdhEnd
    · exact .ite h.sdhBegin.rpmbKey.setSdh.rpmbAskData (.ite h.sdhBegin.rpmbKey.setSdh.setSdh.sdRpmbMoves
        h.sdhBegin.rpmbKey.setSdh.rpmbAskCounter)

theorem rpmbCounter {data : List Byte} (h : s.Canonical) : (s.rpmbCounter data).Canonical :=
  .ite h.sdhEnd (.ite h.setSdh.sdhEnd (.ite h.setSdh.rd.set.set.setSdh.sdRpmbMoves
    (.ite h.setSdh.rpmbAskData (.ite h.setSdh.set.sdhEnd h.setSdh.draw.sdhEnd))))

theorem rpmbFrames {data : List Byte} (h : s.Canonical) : (s.rpmbFrames data).Canonical :=
  .ite h.sdhEnd (.ite h.wr.set.sdhEnd (.ite h.rd.set.sdhEnd h.rd.draw.sdhEnd))

theorem rpmbResult {data : List Byte} (h : s.Canonical) : (s.rpmbResult data).Canonical :=
  .ite h.sdhEnd (.ite h.set.set.sdhEnd h.sdhEnd)

theorem csaKey (h : s.Canonical) : s.csaKey.2.Canonical := h.keyRead

theorem sdhCsa {op area : Nat} (h : s.Canonical) : (s.sdhCsa op area).Canonical := by
  unfold State.sdhCsa
  split
  · exact h.sdhCode
  · refine .ite h.sdhBegin.sdhEnd ?_
    dsimp only
    split
    · exact h.sdhBegin.csaKey.sdhEnd
    · exact h.sdhBegin.csaKey.setSdh.sdMoves

theorem csaSend {p : Nat} (h : s.Canonical) : (s.csaSend p).Canonical := h.rd.setSdh.sdMoves

theorem csaFetch {p : Nat} (h : s.Canonical) : (s.csaFetch p).Canonical := h.setSdh.sdMoves

theorem csaLocated (h : s.Canonical) : s.csaLocated.Canonical :=
  .ite (.ite h.csaFetch (.ite h.csaFetch h.sdhEnd)) h.csaSend

theorem csaHeader {p : Nat} {data : List Byte} (h : s.Canonical) : (s.csaHeader p data).Canonical :=
  .ite h.setSdh.setSdh.sdMoves h.setSdh.csaLocated

theorem csaData {p : Nat} {data : List Byte} (h : s.Canonical) : (s.csaData p data).Canonical := by
  unfold State.csaData
  refine .ite h.setSdh.set ?_
  split
  · exact h.setSdh.set.wr.sdhEnd
  · exact .ite h.setSdh.set.csaFetch.set h.setSdh.set.sdhEnd

theorem csaWrote (h : s.Canonical) : s.csaWrote.Canonical :=
  .ite h.set.setSdh.sdMoves (.ite h.set.setSdh.sdMoves h.set.setSdh)

theorem csaVerify {data : List Byte} (h : s.Canonical) : (s.csaVerify data).Canonical :=
  .ite h.setSdh (.ite h.setSdh.setSdh.infoAsk h.setSdh.sdhEnd)

theorem csaCommit (h : s.Canonical) : s.csaCommit.Canonical := .ite h.infoFinish.sdhEnd h

theorem sdGood {data : List Byte} (h : s.Canonical) : (s.sdGood data).Canonical := by
  unfold State.sdGood
  split
  · exact h
  · exact h.sdIdentified
  · exact h
  · exact h.set.sdAddress
  · exact h.sdSelected
  · exact h.sdReady
  · exact .ite h.setSdh.sdFetch h.setSdh
  · exact h.sdBlock
  · exact h.setB.sdhEnd
  · exact h.rpmbCounter
  · exact h.rpmbFrames
  · exact h.rpmbResult
  · exact h.csaHeader
  · exact h.csaData
  · exact h.csaWrote
  · exact h.csaVerify
  · exact h

theorem sdCrc (h : s.Canonical) : s.sdCrc.Canonical := .ite (.ite h.setSdh.count.sdMoves h.setSdh.count) h.sdhEnd

theorem sdResponse {kind crc : Nat} {data : List Byte} (h : s.Canonical) :
    (s.sdResponse kind crc data).Canonical := by
  unfold State.sdResponse
  split
  · exact h
  · exact h
  · exact h
  · exact .ite h.sdGood h.sdSwitchFail
  · exact .ite (.ite h.sdCrc h) (.ite (.ite h.sdhEnd h.sdhEnd) (.ite (.ite h.sdhEnd h)
      (.ite h.sdCrc (.ite (h.afterBank fun h' => h'.sdGood) h.sdGood))))

theorem sdTimeout (h : s.Canonical) : s.sdTimeout.Canonical := by
  unfold State.sdTimeout
  split
  · exact h
  · exact h
  · exact h
  · exact h.sdSwitchFail
  · exact h.sdhEnd

theorem sdPresent (h : s.Canonical) : s.sdPresent.Canonical := .ite h h.set.sdhEvent

theorem sdRemoved (h : s.Canonical) : s.sdRemoved.Canonical :=
  .ite (.sdhEvent (.set (.set (.sdhOff (.ite h h.sdhEnd))))) h

theorem sdStop (h : s.Canonical) : s.sdStop.Canonical := by
  unfold State.sdStop
  split
  · exact h.sdhOff
  · exact h.setFlc.sdhEnd.sdhOff
  · exact h.sdhEnd.sdhOff

theorem sdDeep (h : s.Canonical) : s.sdDeep.Canonical := .ite h.setSdh.sdRest h

theorem sdWake (h : s.Canonical) : s.sdWake.Canonical := .ite h.setSdh.sdSleepCmd.set h

/-! ### Clf -/

theorem setReader {k : Reader} (h : s.Canonical) : (s.setReader k).Canonical := h.of_mem

theorem clfEvent {v : Nat} (h : s.Canonical) : (s.clfEvent v).Canonical := .ite h.cause h

theorem rdCode {code rlen : Nat} (h : s.Canonical) : (s.rdCode code rlen).Canonical := h.set.set.clfEvent

theorem rdEnd {code rlen : Nat} (h : s.Canonical) : (s.rdEnd code rlen).Canonical := h.setReader.set.rdCode

theorem rdNoSession (h : s.Canonical) : s.rdNoSession.Canonical := h.setReader.set

theorem rdNoCard (h : s.Canonical) : s.rdNoCard.Canonical := h.rdNoSession.set

theorem rdForget (h : s.Canonical) : s.rdForget.Canonical := h.set.set.set.set.set

theorem carrierOff (h : s.Canonical) : s.carrierOff.Canonical := h.of_mem.rdNoCard.rdForget.set.set.set

theorem rdFail {code : Nat} (h : s.Canonical) : (s.rdFail code).Canonical := h.rdEnd.carrierOff.setReader

theorem rdStamp (h : s.Canonical) : s.rdStamp.Canonical := h.setReader

theorem rdRun {cmd : Nat} {ph : RdPhase} {tx : List Byte} (h : s.Canonical) : (s.rdRun cmd ph tx).Canonical :=
  h.setReader.set

theorem rdSend {ph : RdPhase} {tx : List Byte} (h : s.Canonical) : (s.rdSend ph tx).Canonical := h.setReader

theorem fieldOn (h : s.Canonical) : s.fieldOn.Canonical := by
  unfold State.fieldOn
  split
  · exact h.rdCode
  · exact .ite h.rdCode h.of_mem.set.rdRun

theorem guardEnd (h : s.Canonical) : s.guardEnd.Canonical := .ite h.rdEnd h

theorem fieldOff (h : s.Canonical) : s.fieldOff.Canonical := by
  unfold State.fieldOff
  split
  · exact h.rdCode
  · exact h.carrierOff.rdCode

theorem tagLost (h : s.Canonical) : s.tagLost.Canonical := h.of_mem.set

theorem fdetFall (h : s.Canonical) : s.fdetFall.Canonical := .ite h.tagLost.set.clfEvent h

theorem carrierReset (h : s.Canonical) : s.carrierReset.Canonical := .ite h.setReader.fdetFall.set h

theorem clfActivate (h : s.Canonical) : s.clfActivate.Canonical := by
  unfold State.clfActivate
  split
  · exact h.rdCode
  · exact h.set.rdRun.setReader

theorem rdAnticoll {part : List Byte} {bits : Nat} (h : s.Canonical) : (s.rdAnticoll part bits).Canonical :=
  h.setReader.rdSend

theorem rdUid {bs : List Byte} {coll : Option Nat} (h : s.Canonical) : (s.rdUid bs coll).Canonical := by
  unfold State.rdUid
  split
  · exact .ite h.rdFail h.set.rdAnticoll
  · exact .ite h.setReader.rdSend h.rdFail

theorem rdSak {bs : List Byte} (h : s.Canonical) : (s.rdSak bs).Canonical :=
  .ite h.rdFail (.ite (.ite h.rdFail h.setReader.rdAnticoll) (.ite h.set.set.set.set.setReader.rdSend
    h.set.set.set.set.setReader.setReader.rdEnd))

theorem rdActive (h : s.Canonical) : s.rdActive.Canonical := h.setReader.set.rdEnd

theorem rdRated (h : s.Canonical) : s.rdRated.Canonical := .ite h.rdActive h.rdSend.rdStamp

theorem rdSfgt (h : s.Canonical) : s.rdSfgt.Canonical := .ite h.rdRated h

theorem rdAts {bs : List Byte} (h : s.Canonical) : (s.rdAts bs).Canonical :=
  .ite h.rdFail (.ite h.setReader.rdRated h.setReader.setReader.rdStamp)

theorem rdPps {bs : List Byte} (h : s.Canonical) : (s.rdPps bs).Canonical := .ite h.rdActive h.rdFail

theorem rdBlock (h : s.Canonical) : s.rdBlock.Canonical := h.setReader

theorem rdApdu {use : RdUse} {apdu : List Byte} (h : s.Canonical) :
    (s.rdApdu use apdu).Canonical := h.setReader.rdBlock

theorem clfExchange {clen : Nat} (h : s.Canonical) : (s.clfExchange clen).Canonical := by
  unfold State.clfExchange
  split
  · exact h.rdCode
  · exact h.afterBank fun h' => h'.clen.rd.rdRun.rdApdu

theorem clfSecure {clen : Nat} (h : s.Canonical) : (s.clfSecure clen).Canonical := by
  unfold State.clfSecure
  split
  · exact h.rdCode
  · exact h.rdCode
  · exact h.afterBank fun h' => h'.clen.rd.rdRun.setReader.rdApdu

theorem clfAuth (h : s.Canonical) : s.clfAuth.Canonical := by
  unfold State.clfAuth
  split
  · exact h.rdCode
  · dsimp only
    split
    · exact h.keyRead.rdCode
    · exact .ite h.keyRead.of_mem.rdRun.setReader h.keyRead.rdCode

theorem clfRandom (h : s.Canonical) : s.clfRandom.Canonical := by
  unfold State.clfRandom
  split
  · exact h.of_mem.setReader.rdApdu
  · exact h

theorem clfDeactivate (h : s.Canonical) : s.clfDeactivate.Canonical := by
  unfold State.clfDeactivate
  split
  · exact h.rdCode
  · exact h.rdNoSession.rdRun

theorem rdResp {resp : List Byte} (h : s.Canonical) : (s.rdResp resp).Canonical := h.wr.rdEnd

theorem rdBegin {resp : List Byte} (h : s.Canonical) : (s.rdBegin resp).Canonical :=
  .ite h.setReader.rdApdu h.setReader.rdNoCard.rdEnd

theorem rdFinish {resp : List Byte} (h : s.Canonical) : (s.rdFinish resp).Canonical :=
  .ite h.setReader.set.set.rdEnd h.rdEnd

theorem rdSecure {resp : List Byte} (h : s.Canonical) : (s.rdSecure resp).Canonical := by
  unfold State.rdSecure
  dsimp only
  split
  · exact h.rdEnd
  · split
    · exact h.rdNoSession.rdEnd
    · exact .rdResp (.ite h.setReader.rdNoSession h.setReader)

theorem rdWhole {resp : List Byte} (h : s.Canonical) : (s.rdWhole resp).Canonical := by
  unfold State.rdWhole
  split
  · exact h.rdResp
  · exact h.rdBegin
  · exact h.rdFinish
  · exact h.rdSecure

theorem rdBad {code : Nat} (h : s.Canonical) : (s.rdBad code).Canonical := .ite h.setReader h.rdFail

theorem rdGood {bs : List Byte} (h : s.Canonical) : (s.rdGood bs).Canonical :=
  .ite (.ite h.rdBad (.ite h.setReader h.setReader.rdWhole)) (.ite (.ite h.setReader.rdBlock h.setReader)
    (.ite h.setReader h.rdBad))

theorem rdFrame {bs : List Byte} {ok : Bool} {coll : Option Nat} (h : s.Canonical) :
    (s.rdFrame bs ok coll).Canonical := by
  unfold State.rdFrame
  split
  · exact h.rdAnticoll
  · exact h.rdUid
  · exact .ite h.rdSak h.rdFail
  · exact .ite h.rdAts h.rdFail
  · exact .ite h.rdPps h.rdFail
  · exact .ite h.rdGood h.rdBad
  · exact .ite h.rdNoCard.rdEnd h.rdBad
  · exact h

theorem clfFrame {bs : List Byte} {crc : Nat} {coll : Option Nat} (h : s.Canonical) :
    (s.clfFrame bs crc coll).Canonical :=
  .ite h.setReader.rdFrame.rdStamp h

theorem rdSilence (h : s.Canonical) : s.rdSilence.Canonical := by
  unfold State.rdSilence
  split
  · exact h.rdEnd
  · exact h.rdBad
  · exact h.rdBad
  · exact h.rdFail

theorem clfExpiry (h : s.Canonical) : s.clfExpiry.Canonical := .ite h.setReader.rdSilence.rdStamp h

/-! ### Tag -/

theorem tagPut {off : Nat} {bs : List Byte} (h : s.Canonical) : (s.tagPut off bs).Canonical := h.setTag

theorem tagWordWrite {i v : Nat} (h : s.Canonical) : (s.tagWordWrite i v).Canonical := .ite h.tagPut h

theorem mboxHead {buf seq len : Nat} (h : s.Canonical) : (s.mboxHead buf seq len).Canonical := h.tagPut

theorem mboxCommit {buf len : Nat} (h : s.Canonical) : (s.mboxCommit buf len).Canonical :=
  .ite (.clfEvent (.ite h.mboxHead.set.set h.mboxHead.set.set.set))
    (.setTag (.ite h.mboxHead.set.set h.mboxHead.set.set.set))

theorem mboxRelease1 {n : Nat} (h : s.Canonical) : (s.mboxRelease1 n).Canonical := .ite (.ite h.set.set h.set) h

theorem mboxReleaseAll {mask : Nat} (h : s.Canonical) : (s.mboxReleaseAll mask).Canonical :=
  .ite (.mboxRelease1 (.ite h.mboxRelease1 h)) (.ite h.mboxRelease1 h)

theorem mboxPublish1 {n len : Nat} (h : s.Canonical) :
    (s.mboxPublish1 n len).Canonical := .ite h h.mboxHead.set.set.set

theorem mboxPublishAll {mask len : Nat} (h : s.Canonical) : (s.mboxPublishAll mask len).Canonical :=
  .ite (.mboxPublish1 (.ite h.mboxPublish1 h)) (.ite h.mboxPublish1 h)

theorem mboxAck {n : Nat} (h : s.Canonical) : (s.mboxAck n).Canonical := .ite h.set.clfEvent h

theorem mboxRun {x : MboxAsk} (h : s.Canonical) : (s.mboxRun x).Canonical := by
  unfold State.mboxRun
  split
  · exact h.mboxCommit
  · exact h.mboxReleaseAll
  · exact h.mboxPublishAll
  · exact h.mboxAck

theorem mboxAsk {a : MboxAsk} (h : s.Canonical) : (s.mboxAsk a).Canonical := h.setTag

theorem mboxEdge (h : s.Canonical) : s.mboxEdge.Canonical := .foldl h.setTag .mboxRun

theorem mboxRelease {mask : Nat} (h : s.Canonical) : (s.mboxRelease mask).Canonical := h.mboxAsk

theorem mboxPublish {mask len : Nat} (h : s.Canonical) : (s.mboxPublish mask len).Canonical := h.mboxAsk

theorem tagSession {b : Option Badge} (h : s.Canonical) : (s.tagSession b).Canonical := h.setTag.setB

theorem fieldRise (h : s.Canonical) : s.fieldRise.Canonical := .ite h h.setTag.set.count.clfEvent

theorem fieldCollapse (h : s.Canonical) : s.fieldCollapse.Canonical := h.tagLost

theorem fieldLoss (h : s.Canonical) : s.fieldLoss.Canonical := h.fdetFall

theorem tagSay {ph : TagPhase} {out : List Byte} (h : s.Canonical) : (s.tagSay ph out).Canonical := h.setTag

theorem tagAnswer {data : List Byte} {sw : Nat} (h : s.Canonical) : (s.tagAnswer data sw).Canonical := h.setTag

theorem tagSelect {nvb : Nat} {bs : List Byte} (h : s.Canonical) : (s.tagSelect nvb bs).Canonical :=
  .ite h.tagSay (.ite h.tagSay h.tagSay)

theorem tagApdu {ins cla p1 p2 : Nat} {data : List Byte} {needs : Bool} {f : State → Bool → List Byte → TagRes}
    (h : s.Canonical) (hf : ∀ {t a1 a2}, t.Canonical → (f t a1 a2).st.Canonical) :
    (s.tagApdu ins cla p1 p2 data needs f).Canonical := by
  unfold State.tagApdu
  refine .ite h (.ite (.ite h.tagAnswer (hf h).tagAnswer) (.ite ?_ h.tagAnswer))
  split
  · exact h.tagAnswer
  · dsimp only
    split
    · exact h.tagSession.tagAnswer
    · exact .tagAnswer (.ite (hf h).tagSession (hf h).tagSession)

theorem tagAuthBegin {cla p1 p2 : Nat} {data : List Byte} {le : Option Nat} {jitter : List Byte} (h : s.Canonical) :
    (s.tagAuthBegin cla p1 p2 data le jitter).Canonical :=
  .ite h (.ite h.tagAnswer (.ite h.tagAnswer (.ite h.tagAnswer (.ite h.tagAnswer h.setTag.tagAnswer))))

theorem tagAuthFinish {cla p1 p2 : Nat} {data : List Byte} (h : s.Canonical) :
    (s.tagAuthFinish cla p1 p2 data).Canonical := by
  unfold State.tagAuthFinish
  refine .ite h (.ite h.tagAnswer (.ite h.tagAnswer (.ite h.tagAnswer ?_)))
  split
  · exact h.tagAnswer
  · exact .ite h.setTag.tagSession.tagAnswer h.setTag.setTag.set.count.clfEvent.tagAnswer

theorem tagNo {sw : Nat} (h : s.Canonical) : (tagNo s sw).st.Canonical := h

theorem tagEnd {cla p1 p2 : Nat} {data : List Byte} (h : s.Canonical) : (s.tagEnd cla p1 p2 data).Canonical :=
  h.tagApdu fun h' => .iteSt h'.tagNo (.iteSt h'.tagNo h'.tagSession.tagNo)

theorem tagRead {cla p1 p2 : Nat} {data : List Byte} {le : Option Nat} (h : s.Canonical) :
    (s.tagRead cla p1 p2 data le).Canonical :=
  h.tagApdu fun h' => .iteSt h'.tagNo (.iteSt h'.tagNo (.iteSt h'.tagNo h'))

theorem tagStatus {cla p1 p2 : Nat} {data : List Byte} (h : s.Canonical) : (s.tagStatus cla p1 p2 data).Canonical :=
  h.tagApdu fun h' => .iteSt h'.tagNo (.iteSt h'.tagNo h')

theorem tagWrite {cla p1 p2 : Nat} {data : List Byte} (h : s.Canonical) : (s.tagWrite cla p1 p2 data).Canonical := by
  unfold State.tagWrite
  refine h.tagApdu fun h' => .iteSt h'.tagNo (.iteSt h'.tagNo ?_)
  split
  · exact h'.tagNo
  · exact .iteSt h'.tagNo h'.tagPut.tagNo

theorem tagCommit {cla p1 p2 : Nat} {data : List Byte} (h : s.Canonical) :
    (s.tagCommit cla p1 p2 data).Canonical := by
  unfold State.tagCommit
  refine h.tagApdu fun h' => .iteSt h'.tagNo (.iteSt h'.tagNo ?_)
  split
  · exact h'.tagNo
  · exact .iteSt h'.tagNo h'.mboxAsk.tagNo

theorem tagAck {cla p1 p2 : Nat} {data : List Byte} (h : s.Canonical) : (s.tagAck cla p1 p2 data).Canonical :=
  h.tagApdu fun h' => .iteSt h'.tagNo (.iteSt h'.tagNo (.iteSt h'.mboxAsk.tagNo h'.tagNo))

theorem tagBackoffEnd (h : s.Canonical) : s.tagBackoffEnd.Canonical := .ite h h.set

theorem tagRun {apdu : List Byte} (h : s.Canonical) : (s.tagRun apdu).Canonical := by
  unfold State.tagRun
  refine .ite h.tagAnswer (.ite h.tagAnswer ?_)
  split
  · exact h.tagAnswer
  · exact .ite h.draw.tagAuthBegin (.ite h.tagAuthFinish (.ite h.tagEnd
      (.ite h.tagRead (.ite h.tagStatus (.ite h.tagWrite (.ite h.tagCommit h.tagAck))))))

theorem isoSay {k : IsoDep} {block : List Byte} (h : s.Canonical) : (s.isoSay k block).Canonical := h.setTag

theorem isoBlock {k : IsoDep} (h : s.Canonical) : (s.isoBlock k).Canonical := h.isoSay

theorem isoFrame {bs : List Byte} (h : s.Canonical) : (s.isoFrame bs).Canonical :=
  .ite h.tagSession.tagSay (.ite (.ite h.isoSay h.tagRun.isoBlock)
    (.ite (.ite h.setTag (.ite h.isoSay (.ite h.setTag h.isoBlock))) h.setTag))

theorem tagFrame {bs : List Byte} (h : s.Canonical) : (s.tagFrame bs).Canonical := by
  unfold State.tagFrame
  refine .ite h ?_
  split
  · exact .ite h.setTag h.tagSay
  · exact .ite h.setTag h.tagSay
  · exact .ite h.tagSelect h.tagSay
  · exact .ite h.setTag (.ite h.tagSay h.tagSay)
  · exact h.isoFrame

theorem tagKeyLoad {i : Nat} (h : s.Canonical) : (s.tagKeyLoad i).Canonical := h.setTag

theorem tagKeyLoadEnd (h : s.Canonical) : s.tagKeyLoadEnd.Canonical := by
  unfold State.tagKeyLoadEnd
  split
  · exact h
  · dsimp only
    split
    · exact h.setTag.keyRead.set.clfEvent
    · exact .ite h.setTag.keyRead.setTag.set.set.clfEvent h.setTag.keyRead.set.clfEvent

theorem tagKeyClear (h : s.Canonical) : s.tagKeyClear.Canonical := h.setTag.set

/-! ### Tmp -/

theorem setTmp {k : Tmp} (h : s.Canonical) : (s.setTmp k).Canonical := h.of_mem

theorem tmpEvent {v : Nat} (h : s.Canonical) : (s.tmpEvent v).Canonical := h.cause

theorem logPut {k : Nat} {r : List Byte} (h : s.Canonical) : (s.logPut k r).Canonical := .foldl h fun h' => h'.set

theorem logWrite {kind source mask state ts count dt detail : Nat} (h : s.Canonical) :
    (s.logWrite kind source mask state ts count dt detail).2.Canonical :=
  .ite h.logPut.setTmp.count.tmpEvent.tmpEvent h.logPut.setTmp.count.tmpEvent

theorem logEvent {e : TEvt} {kind mask count dt : Nat} (h : s.Canonical) :
    (s.logEvent e kind mask count dt).Canonical :=
  h.logWrite.setTmp

theorem logLive {e : TEvt} {mask : Nat} (h : s.Canonical) : (s.logLive e mask).Canonical := by
  unfold State.logLive
  dsimp only
  split
  · exact .ite h.logPut (.ite h.logEvent h.logEvent)
  · exact .ite h.logEvent h.logEvent

theorem respKeycache (h : s.Canonical) : s.respKeycache.Canonical := h.restoreKill.clearCache.of_mem.askKey

theorem clearKeys (h : s.Canonical) : s.clearKeys.Canonical := h.clearTable.respKeycache

theorem respKeystore (h : s.Canonical) : s.respKeystore.Canonical := h.restoreKill.of_mem.set.tagKeyClear.clearKeys

theorem stopCards (h : s.Canonical) : s.stopCards.Canonical := h.iccStop.iccStop.sdStop

theorem recoverStop (h : s.Canonical) : s.recoverStop.Canonical := by
  unfold State.recoverStop
  split
  · exact h.of_mem.set.recoverCut
  · exact h

theorem stopCause {halt : Bool} (h : s.Canonical) : (s.stopCause halt).Canonical := h.recoverStop.flcStop.stopCards

theorem respHold (h : s.Canonical) : s.respHold.Canonical := h.set.set.stopCause

theorem respFcu {n : Nat} (h : s.Canonical) : (s.respFcu n).Canonical := h.report

theorem respAlert (h : s.Canonical) : s.respAlert.Canonical := h.set

theorem response {b : Nat} {srcs : List Nat} (h : s.Canonical) : (s.response b srcs).Canonical :=
  .ite h.respKeystore (.ite h.respKeycache (.ite h.sesKill (.ite h.respHold
    (.ite (.foldl h .respFcu) (.ite h.respAlert h)))))

theorem responses {u : Nat} {srcs : List Nat} (h : s.Canonical) : (s.responses u srcs).Canonical :=
  .foldl h fun h' => .ite h'.response h'

theorem jscOpen (h : s.Canonical) : s.jscOpen.Canonical := .ite h.set h

theorem firingStep {f : Firing} {i : Nat} (h : s.Canonical) : (s.firingStep f i).Canonical :=
  .ite (.ite h.set.breakJobs h) (.ite (.ite (.foldl h fun h' => h'.logLive) h)
    (.ite (.set (.ite h.response h)) (.ite h.response h)))

theorem firingSteps {f : Firing} {i k : Nat} (h : s.Canonical) : (s.firingSteps f i k).Canonical :=
  .foldl h fun h' => h'.firingStep

theorem liveEnd (h : s.Canonical) : s.liveEnd.Canonical := by
  unfold State.liveEnd
  refine .set (.setTmp ?_)
  split
  · exact h.firingStep
  · exact h

theorem isolate (h : s.Canonical) : s.isolate.Canonical := by
  have h' := h.carrierOff.stopCards.liveEnd
  unfold State.isolate
  generalize s.carrierOff.stopCards.liveEnd = t at *
  exact .set (.set (.set h'.of_mem))

theorem firingTo {f : Firing} {k : Nat} (h : s.Canonical) : (s.firingTo f k).Canonical :=
  .ite h.firingSteps.setTmp (.ite h.firingSteps.setTmp.isolate h.firingSteps.setTmp)

theorem tamperFiring {n k : Nat} (h : s.Canonical) :
    (s.tamperFiring n k).Canonical := .ite h h.setTmp.tmpEvent.firingTo

theorem firingGo (h : s.Canonical) : s.firingGo.Canonical := by
  unfold State.firingGo
  split
  · exact h.firingTo
  · exact h

theorem deferredResponses (h : s.Canonical) : s.deferredResponses.Canonical :=
  .set (.set (.setTmp (.ite (.foldl (.ite h.responses.set h.responses) fun h' => h'.logEvent)
    (.ite h.responses.set h.responses))))

theorem pinLevel {n : Nat} {fault : Bool} (h : s.Canonical) : (s.pinLevel n fault).Canonical := h.setTmp

theorem tamperIf {c : Bool} {n detail : Nat} (h : s.Canonical) : (s.tamperIf c n detail).Canonical := .ite h.tamper h

theorem meshFires {mism : Nat} (h : s.Canonical) : (s.meshFires mism).Canonical :=
  h.setTmp.pinLevel.pinLevel.pinLevel.tamperIf.tamperIf.tamperIf

theorem meshCompare {levels : Nat} (h : s.Canonical) : (s.meshCompare levels).Canonical := .ite h h.meshFires

theorem meshTick (h : s.Canonical) : s.meshTick.Canonical :=
  .ite (.ite h.setTmp h.setTmp.meshFires) (.ite h.setTmp.setTmp h.setTmp)

theorem caseTick (h : s.Canonical) : s.caseTick.Canonical := .foldl h fun h' => h'.tamperIf

theorem casePulse {n : Nat} {pin : CasePin} (h : s.Canonical) : (s.casePulse n pin).Canonical :=
  .ite h h.pinLevel.tamperIf

theorem lightDetect {diode : Nat} (h : s.Canonical) : (s.lightDetect diode).Canonical := h.tamperIf

theorem railEvent {n rail : Nat} {high : Bool} (h : s.Canonical) : (s.railEvent n rail high).Canonical :=
  .ite h.tamper.stopCause h

theorem clockFail {which : Nat} (h : s.Canonical) : (s.clockFail which).Canonical := h.tamperIf

theorem tempReading {tj : Nat} (h : s.Canonical) : (s.tempReading tj).Canonical := by
  unfold State.tempReading
  refine .ite h (.tamperIf ?_)
  split
  · exact .ite h.set.setTmp.set h.set.setTmp
  · exact h.set.setTmp

theorem tmpUnlock {key seq : Nat} (h : s.Canonical) :
    (s.tmpUnlock key seq).Canonical := .ite h.setTmp h.setTmp.tmpEvent

theorem logClear {detail : Nat} (h : s.Canonical) : (s.logClear detail).Canonical := h.logWrite

theorem flagsClear {v : Nat} (h : s.Canonical) : (s.flagsClear v).Canonical :=
  .ite h.tmpEvent (.logClear (.set (.foldl h.setTmp fun h' => h'.set.set)))

theorem evidenceClear (h : s.Canonical) : s.evidenceClear.Canonical :=
  .ite h.tmpEvent (.logClear (.setTmp (.foldl h fun h' => h'.set)))

/-! ### Power -/

theorem setPwr {p : Pwr} (h : s.Canonical) : (s.setPwr p).Canonical := h.of_mem

theorem mainReset (h : s.Canonical) : s.mainReset.Canonical :=
  State.Canonical.set (.set (h.filter (p := fun c => isFlash c.1)))

theorem fuseCut (h : s.Canonical) : s.fuseCut.Canonical := by
  unfold State.fuseCut
  split
  · exact h
  · exact h.draw.setPwr

theorem powerOff (h : s.Canonical) : s.powerOff.Canonical := h.fuseCut.liveEnd.mainReset.setPwr

theorem bedrockReset (h : s.Canonical) : s.bedrockReset.Canonical := h.of_mem

theorem lostEdge (h : s.Canonical) : s.lostEdge.Canonical := .ite h.of_mem.tamper h

theorem wakeSrc {k : Nat} (h : s.Canonical) : (s.wakeSrc k).Canonical :=
  .ite h.set (.ite h.set (.ite h.set (.ite h.set h.set)))

theorem setSeq {q : PwrSeq} {target : Nat} (h : s.Canonical) : (s.setSeq q target).Canonical := h.setPwr.setB.set

theorem pllLocks {on : Bool} (h : s.Canonical) : (s.pllLocks on).Canonical := h.setB.setB.setB.setB.setB

theorem deepExit (h : s.Canonical) : s.deepExit.Canonical :=
  .settleAll (.setPwr (.reseedDue (.entRestart (.set (.foldl h fun h' => h'.dropBytes.set.setSpire)))))

theorem exitEnd {done : Nat} (h : s.Canonical) : (s.exitEnd done).Canonical :=
  .ite h.setPwr.setSeq.jscOpen.fedRejoin h.setPwr.setSeq.jscOpen

theorem exitStep {step done : Nat} (h : s.Canonical) : (s.exitStep step done).Canonical :=
  .ite (.ite h.pllLocks.setSeq h.pllLocks.setSeq.setTmp.tamperFiring)
    (.ite h.setSeq (.ite (.ite (.setSeq (.iccWake (.iccWake (.sdWake (.ite h.deepExit h)))))
    (.exitEnd (.iccWake (.iccWake (.sdWake (.ite h.deepExit h)))))) (.ite h.exitEnd h)))

theorem exitBegin {done : Nat} (h : s.Canonical) : (s.exitBegin done).Canonical :=
  .ite h.setSeq (.ite h.setSeq (.ite h.setSeq (.ite h.setSeq h.exitEnd)))

theorem wake {k : Nat} (h : s.Canonical) : (s.wake k).Canonical := by
  unfold State.wake
  refine .ite h ?_
  split
  · exact h.wakeSrc.setPwr
  · exact .ite h.wakeSrc.exitBegin h
  · exact h

theorem deepCards (h : s.Canonical) : s.deepCards.Canonical := h.iccDeep.iccDeep.sdDeep.carrierOff

theorem deepEnter (h : s.Canonical) : s.deepEnter.Canonical :=
  .setSeq (.setPwr (.set (.foldl h.pllLocks fun h' => h'.setSpire)))

theorem deepDone {step : Nat} (h : s.Canonical) : (s.deepDone step).Canonical := .ite h.set (.ite h.deepEnter h)

theorem deepStep {step : Nat} (h : s.Canonical) : (s.deepStep step).Canonical :=
  .ite h (.ite h.deepDone.exitBegin (.ite h.deepDone (.setSeq (.ite h.deepDone.deepCards h.deepDone))))

theorem deepBegin (h : s.Canonical) : s.deepBegin.Canonical := h.set.setPwr.setSeq

theorem deepIdle (h : s.Canonical) : s.deepIdle.Canonical := .ite h.deepBegin h

theorem stbKill (h : s.Canonical) : s.stbKill.Canonical :=
  .foldl (.set (.set (.stbBusy (.setStb (.ite h.set.raise h))))) fun h' => h'.setSpire

theorem forceStop (h : s.Canonical) : s.forceStop.Canonical := h.set.breakJobs.carrierOff.stopMovers.stbKill

theorem discardAll (h : s.Canonical) : s.discardAll.Canonical := .foldl h.setNet fun h' => h'.leaveFlight

theorem zeroise (h : s.Canonical) : s.zeroise.Canonical := h.clearTable.clearCache.cerClear.sesCloseAll.of_mem

theorem setCause {f : Fld} (h : s.Canonical) : (s.setCause f).Canonical := h.set

theorem changeover {vbat : Bool} (h : s.Canonical) : (s.changeover vbat).Canonical := h.setPwr

theorem bedrockTrip (h : s.Canonical) : s.bedrockTrip.Canonical := h.setPwr

theorem bedrockRestart (h : s.Canonical) : s.bedrockRestart.Canonical := .ite h h.bedrockReset.tamper

theorem crystalFail (h : s.Canonical) : s.crystalFail.Canonical := .ite h.set.set.tamper h

theorem crystalRecover (h : s.Canonical) : s.crystalRecover.Canonical := .ite h.set h

theorem pairLatch (h : s.Canonical) : s.pairLatch.Canonical := .ite (.setPwr (.ite h.set.set h.set.set.set)) h

theorem reconstruct (h : s.Canonical) : s.reconstruct.Canonical := .ite h.set.set.set h.set.set.set

theorem timeSet {v : Nat} (h : s.Canonical) : (s.timeSet v).Canonical := .ite h (.ite h.setPwr h.set)

theorem alarmMatch (h : s.Canonical) : s.alarmMatch.Canonical := .ite h.wake h

theorem bedrockTick (h : s.Canonical) : s.bedrockTick.Canonical :=
  .ite h (.ite h.lostEdge.meshTick.caseTick.set.mboxEdge.set h.lostEdge.meshTick.caseTick.set.mboxEdge)

theorem timeEdge (h : s.Canonical) : s.timeEdge.Canonical := by
  unfold State.timeEdge
  dsimp only
  split
  · exact h.setPwr.set.set
  · exact h.setPwr.set.set.setPwr.set

theorem clockEdge (h : s.Canonical) : s.clockEdge.Canonical := .ite h.timeEdge.setPwr.bedrockTick h.timeEdge.setPwr

/-! ### Boot -/

theorem bootFirmware (h : s.Canonical) : s.bootFirmware.Canonical :=
  .ite h.bootFail (.phaseSet (.settleAll (.foldl (.set (.ite h.ledgerScan.setPwr.setTag.clfEvent
    h.ledgerScan.setPwr)) fun h' => h'.set)))

theorem bootAsk (h : s.Canonical) : s.bootAsk.Canonical := .foldl h .askKey

theorem bootKeys (h : s.Canonical) : s.bootKeys.Canonical := .ite h.keyServeAll.bootFirmware h.keyServeAll

theorem bootDdr (h : s.Canonical) : s.bootDdr.Canonical := .ite h.bootFail h.filter.bootAsk.bootKeys

theorem bootTick (h : s.Canonical) : s.bootTick.Canonical :=
  .ite (.ite h.bootFail (.ite h.bootDdr h)) (.ite h.bootKeys h)

theorem twinPasses {t : Nat} (h : s.Canonical) : (s.twinPasses t).2.Canonical := h.twinRead

theorem bootRun {t v : Nat} {fb : Bool} (h : s.Canonical) : (s.bootRun t v fb).Canonical :=
  h.set.setB.set.phaseSet.bootTick

theorem bootTwin (h : s.Canonical) : s.bootTwin.Canonical := by
  unfold State.bootTwin
  refine .ite h.set.set.bootFail ?_
  split
  · exact h.set.set.bootStop
  · dsimp only
    split
    · exact h.set.set.twinPasses.bootRun
    · split
      · exact h.set.set.twinPasses.twinPasses.bootRun
      · exact h.set.set.twinPasses.twinPasses.bootStop

theorem eraseKeyStore (h : s.Canonical) : s.eraseKeyStore.Canonical := .foldl h fun h' => h'.erased

theorem decommission (h : s.Canonical) : s.decommission.Canonical := h.setPwr.set.set.eraseKeyStore

theorem lcRead (h : s.Canonical) : s.lcRead.Canonical := .ite h (.ite h.setPwr.decommission h.setPwr)

theorem bootRoots (h : s.Canonical) : s.bootRoots.Canonical :=
  .ite h.phaseSet.lcRead.set.bootFail (.ite h.phaseSet.lcRead.set
    (.bootTwin (.setPwr (.phaseSet (.ite h.phaseSet.lcRead.set.set.rootValid h.phaseSet.lcRead.set.set)))))

theorem bootStart (h : s.Canonical) : s.bootStart.Canonical :=
  have h1 := h.setPwr.setB.phaseSet
  have h2 := h1.set.set.set.reconstruct.phaseSet
  .ite h1.bootFail (.ite h2.bootFail (.ite h2.deferredResponses.bootStop h2.deferredResponses.bootRoots))

theorem seedTimeout (h : s.Canonical) : s.seedTimeout.Canonical := .ite h.bootFail h

theorem holdEnd {off : Bool} (h : s.Canonical) : (s.holdEnd off).Canonical :=
  .ite h.zeroise.isolate.powerOff h.zeroise.isolate

theorem seqEnd (h : s.Canonical) : s.seqEnd.Canonical := by
  unfold State.seqEnd
  split
  · exact h.mainReset.bootStart
  · exact h.holdEnd
  · exact h.holdEnd
  · exact h.setPwr.setSeq
  · exact h

theorem seqGo (h : s.Canonical) : s.seqGo.Canonical := .ite h (.ite h.discardAll h.discardAll.seqEnd)

theorem journalSeal (h : s.Canonical) : s.journalSeal.Canonical := by
  unfold State.journalSeal
  split
  · exact h.discardAll.jrnSeal.seqEnd
  · exact h.discardAll.jrnSeal.seqEnd
  · exact h.discardAll.jrnSeal.seqEnd
  · exact .ite h.jrnSeal h

theorem forceEdge {q : PwrSeq} (h : s.Canonical) : (s.forceEdge q).Canonical := .ite h.liveEnd.stopCause h.stopCards

theorem force {q : PwrSeq} (h : s.Canonical) : (s.force q).Canonical := by
  unfold State.force
  extract_lets +onlyGivenNames _ _ s2
  have hs2 : State.Canonical s2 := .ite (.ite h.forceEdge.count h.forceEdge)
    (.forceStop (.ite h.forceEdge.count h.forceEdge))
  exact .ite hs2.setSeq hs2.setSeq.seqGo

theorem release (h : s.Canonical) : s.release.Canonical := h.lostEdge.mainReset.infoPowerUp.setPwr.set.bootStart

theorem powerUp {rails : Bool} {defects : Nat} (h : s.Canonical) : (s.powerUp rails defects).Canonical :=
  .ite h (.ite h.setPwr.release h.setPwr.setPwr)

theorem railsIn (h : s.Canonical) : s.railsIn.Canonical := .ite h.release h

theorem pwrOkLow (h : s.Canonical) : s.pwrOkLow.Canonical := by
  unfold State.pwrOkLow
  dsimp only
  split
  · exact h
  · exact h.setPwr.setPwr
  · exact h.setPwr.stopCause.powerOff
  · exact .ite h.setPwr.forceEdge.forceStop.discardAll.holdEnd h.setPwr.force

theorem ceilWrite {v : Nat} (h : s.Canonical) : (s.ceilWrite v).Canonical :=
  .ite h (.settleAll (.ite h.set.setPwr.set (.ite h.set.setPwr.set.jscOpen h.set.setPwr)))

theorem ceilForce {v : Nat} (h : s.Canonical) : (s.ceilForce v).Canonical :=
  .ite h (.ite h.ceilWrite (.ite (.count (.setPwr (.settleAll (.ite h.set.setPwr.set h.set.setPwr))))
    (.force (.settleAll (.ite h.set.setPwr.set h.set.setPwr)))))

theorem holdReady (h : s.Canonical) : s.holdReady.Canonical := .ite h.sesCloseAll.set.set h

theorem resetSource {f : Fld} (h : s.Canonical) : (s.resetSource f).Canonical :=
  .ite h (.ite h.setCause.setPwr.stopCause h.setCause.setPwr.force)

theorem watchdog (h : s.Canonical) : s.watchdog.Canonical := by
  unfold State.watchdog
  split
  · exact .ite h.resetSource h
  · exact h

theorem confirm {raise_ : Bool} (h : s.Canonical) : (s.confirm raise_).Canonical :=
  .ite h (.ite (.phaseSet (.ite h.set.setPwr.set.setPwr h.set.setPwr)) (.ite h.set.setPwr.set.setPwr h.set.setPwr))

theorem bootReady (h : s.Canonical) : s.bootReady.Canonical :=
  .ite h.bootFail (.ite h.set.set.phaseSet.jscOpen.set.fedStart h)

theorem lcAdvance {key target : Nat} (h : s.Canonical) : (s.lcAdvance key target).Canonical :=
  .ite h (.ite h.set.setPwr h.set)

theorem leaveFactory (h : s.Canonical) : s.leaveFactory.Canonical := .set (.set (.ite h h.entTestOff))

theorem fuseEnd (h : s.Canonical) : s.fuseEnd.Canonical := by
  unfold State.fuseEnd
  split
  · exact h
  · exact .ite (.set (.decommission (.set (.set (.setPwr (.ite h.leaveFactory h))))))
      (.set (.set (.setPwr (.ite h.leaveFactory h))))

theorem afterFiring (h : t.Canonical) : (s.afterFiring t).Canonical := .ite h.stbKill h

theorem firing {n k : Nat} (h : s.Canonical) : (s.firing n k).Canonical :=
  have h' : (if s.inDeep ∨ s.deepEntry then s.wake 4 else s).Canonical := .ite h.wake h
  .ite h (.ite h'.setTmp h'.tamperFiring.afterFiring)

theorem firingTick (h : s.Canonical) : s.firingTick.Canonical := h.firingGo.afterFiring

theorem haltAck (h : s.Canonical) : s.haltAck.Canonical := h.set.set.bootRoots

theorem seqTick (h : s.Canonical) : s.seqTick.Canonical := by
  unfold State.seqTick
  split
  · exact h.bootTick
  · exact h.deepStep
  · exact h.exitStep
  · exact h.seqGo

/-! ### Fcu -/

theorem fcuEvent {v : Nat} (h : s.Canonical) : (s.fcuEvent v).Canonical := h.cause

theorem pairTimer {d c : Nat} (h : s.Canonical) : (s.pairTimer d c).Canonical := h.of_mem

theorem firstRecord {c : Nat} {m : FaultMsg} (h : s.Canonical) : (s.firstRecord c m).Canonical :=
  h.set.set.set.set.set.set.set.set.fcuEvent

theorem lastRecord {c : Nat} {m : FaultMsg} (h : s.Canonical) : (s.lastRecord c m).Canonical :=
  h.set.set.set.set.set.set.set.set

theorem recordFault {c : Nat} {m : FaultMsg} (h : s.Canonical) : (s.recordFault c m).Canonical :=
  .lastRecord (.ite h.count h.firstRecord)

theorem pairFault {d c spire : Nat} (h : s.Canonical) : (s.pairFault d c spire).Canonical :=
  .ite h.count (.fcuEvent (.pairTimer (.set (.set (.ite h.count.set h.count)))))

theorem faultRegister (h : s.Canonical) : s.faultRegister.Canonical := by
  unfold State.faultRegister
  split
  · exact h
  · exact .ite h.of_mem.recordFault h.of_mem.recordFault.pairFault

theorem stopAct {d : Nat} {reset : Bool} (h : s.Canonical) : (s.stopAct d reset).Canonical := by
  unfold State.stopAct
  dsimp only
  split
  · exact .ite (.domeDrained (.ite h.haltDome.setDome.setStb.setDome h.haltDome.setDome.setStb))
      (.ite h.haltDome.setDome.setStb.setDome h.haltDome.setDome.setStb)
  · exact .ite h.haltDome.setDome.setDomeSt.setDome.domeDrained h.haltDome.setDome.setDomeSt

theorem stopDome {d : Nat} {reset : Bool} (h : s.Canonical) : (s.stopDome d reset).Canonical :=
  .ite h (.ite h.stopAct h)

theorem zeroSpire {p : Nat} (h : s.Canonical) : (s.zeroSpire p).Canonical := .foldl h.dropBytes fun h' => h'.dropBytes

theorem retireSpire {p : Nat} (h : s.Canonical) : (s.retireSpire p).Canonical := by
  unfold State.retireSpire
  refine .ite h ?_
  dsimp only
  split
  · exact .settle (.setSpire (.zeroSpire (.fcuEvent (.set (.set (.stopMovers h.breakJobs))))))
  · refine .domeCheck (.ite ?_ (.stopDome ?_))
    · exact .settle (.setSpire (.zeroSpire (.fcuEvent (.set (.set (.stopMovers h.breakJobs))))))
    · exact .settle (.setSpire (.zeroSpire (.fcuEvent (.set (.set (.stopMovers h.breakJobs))))))

theorem ladderRetire {p : Nat} (h : s.Canonical) : (s.ladderRetire p).Canonical :=
  .ite h.retireSpire h.retireSpire.setSpire

theorem unretire (h : s.Canonical) : s.unretire.Canonical := .foldl h fun h' => .ite h'.set h'

theorem ladderStep {d c code : Nat} (h : s.Canonical) : (s.ladderStep d c code).Canonical :=
  .ite h (.ite h.stopDome (.ite h.stopDome (.ite (.ite h h.ladderRetire)
    (.ite h.unretire.resetSource (.ite h.tamper h)))))

theorem pairHeld {d c : Nat} (h : s.Canonical) : (s.pairHeld d c).Canonical := h.set.pairTimer

theorem graceExpiry {d c : Nat} (h : s.Canonical) : (s.graceExpiry d c).Canonical :=
  .ite (.ite h.pairHeld.fcuEvent h.pairHeld.set.fcuEvent.ladderStep) h

theorem quietExpiry {d c : Nat} (h : s.Canonical) :
    (s.quietExpiry d c).Canonical := .ite h.set.set.set.count.fcuEvent h

theorem fcuAck {d c : Nat} (h : s.Canonical) : (s.fcuAck d c).Canonical := .ite h.pairHeld h

/-! ### Gate -/

theorem whenRuns {f : State → State} (h : s.Canonical) (hf : ∀ {t}, t.Canonical → (f t).Canonical) :
    (s.whenRuns f).Canonical :=
  .ite (hf h) h

theorem whenKeep {f : State → State} (h : s.Canonical) (hf : ∀ {t}, t.Canonical → (f t).Canonical) :
    (s.whenKeep f).Canonical :=
  .ite (hf h) h

theorem whenOn {f : State → State} (h : s.Canonical) (hf : ∀ {t}, t.Canonical → (f t).Canonical) :
    (s.whenOn f).Canonical :=
  .ite (hf h) h

/-! ### Mgt -/

theorem mgtErr {f : Fld} (h : s.Canonical) : (s.mgtErr f).Canonical := h.count

theorem mgtBusy {code arg status : Nat} (h : s.Canonical) : (s.mgtBusy code arg status).Canonical := h.setPwr.set.set

theorem mgtEnd {status : Nat} (h : s.Canonical) : (s.mgtEnd status).Canonical := h.setPwr.set

theorem alertClear {m : Nat} (h : s.Canonical) : (s.alertClear m).Canonical := .foldl h fun h' => .ite h'.set h'

theorem bootSelect {arg : Nat} (h : s.Canonical) : (s.bootSelect arg).Canonical := h.set

theorem errClear (h : s.Canonical) : s.errClear.Canonical := h.set.set.set

theorem mgtCommand {code : Nat} (h : s.Canonical) : (s.mgtCommand code).Canonical :=
  .ite h (.ite h.mgtErr (.ite h.mgtBusy.wake (.ite h.mgtEnd.set.resetSource
    (.ite (.ite h.mgtBusy.bootSelect h.mgtBusy) (.ite (.ite h.mgtBusy.haltAck h.mgtBusy)
    (.ite h.mgtBusy.alertClear (.ite (.ite h.mgtBusy h.mgtBusy) (.ite (.ite h.mgtBusy h.mgtBusy)
    (.ite (.ite h.mgtBusy h.mgtBusy) (.ite h.mgtBusy.errClear h.mgtBusy))))))))))

theorem mgtOrder {code arg : Nat} (h : s.Canonical) : (s.mgtOrder code arg).Canonical := .ite h.set.mgtCommand h

theorem recoverCommit (h : s.Canonical) : s.recoverCommit.Canonical :=
  .ite h.twinPasses.mgtEnd.pointTwin.set.force h.twinPasses.recoverErase.mgtEnd

theorem mgtDone (h : s.Canonical) : s.mgtDone.Canonical := by
  unfold State.mgtDone
  split
  · exact h
  · refine .ite h (.ite h.mgtEnd (.ite h.setPwr.mgtEnd (.ite ?_ (.ite h.recoverCommit h.mgtEnd))))
    split
    next e => exact (h.recoverHalf e).mgtEnd
    next => exact h.mgtEnd

theorem windowWrite {a v : Nat} (h : s.Canonical) : (s.windowWrite a v).Canonical :=
  .ite h.mgtCommand (.ite h.set (.ite h.alertClear (.ite h.set (.ite (.ite h.ceilForce h.ceilWrite)
    (.ite h.budgetWrite (.ite h.setPwr (.ite h h.mgtErr)))))))

theorem mgtDrive {bs : List Byte} (h : s.Canonical) : (s.mgtDrive bs).Canonical := h.setPwr

theorem mgtRead {addr words : Nat} {complete : Bool} (h : s.Canonical) : (s.mgtRead addr words complete).Canonical :=
  .ite h (.ite h.mgtErr.mgtDrive (.mgtDrive (.ite (.foldl h fun h' => h'.mgtErr) h.mgtErr)))

theorem mgtWrite {addr : Nat} {words : List Nat} {crc : Nat} {complete : Bool} (h : s.Canonical) :
    (s.mgtWrite addr words crc complete).Canonical :=
  .ite h (.ite h.mgtErr (.ite h.mgtErr (.foldl h fun h' => .ite h'.windowWrite h')))

theorem mgtQstat (h : s.Canonical) : s.mgtQstat.Canonical := .ite h.mgtDrive h

theorem nwake (h : s.Canonical) : s.nwake.Canonical := h.wake

/-! ### Mover -/

theorem dropMv {d : MvDesc} (h : s.Canonical) : (s.dropMv d).Canonical := h.of_mem

theorem putMv {d : MvDesc} (h : s.Canonical) : (s.putMv d).Canonical := h.of_mem

theorem endMv {d : MvDesc} {code : Nat} (h : s.Canonical) : (s.endMv d code).Canonical :=
  .completeTicket (.ite (.raise (.ite h.dropMv.wr h.dropMv)) (.ite h.dropMv.wr h.dropMv))

theorem submitMv {j : Job} {c ticket : Nat} {desc : List Byte} (h : s.Canonical) :
    (s.submitMv j c ticket desc).Canonical :=
  .ite h.of_mem h.of_mem.endMv

theorem mvCopy {d : MvDesc} {pa : Nat} (h : s.Canonical) : (s.mvCopy d pa).1.Canonical := by
  unfold State.mvCopy
  dsimp only
  split
  · exact .wr (.iteSnd₂ h.rdO h.violation)
  · exact .ite (.wr (.iteSnd h.rd h)) (.violation (.iteSnd h.rd h))

theorem mvGranule {d : MvDesc} (h : s.Canonical) : (s.mvGranule d).Canonical := by
  unfold State.mvGranule
  refine .ite h.dropMv ?_
  dsimp only
  split
  · exact h.report.endMv
  · refine .ite h.report.endMv (.ite ?_ (.ite h.mvCopy.putMv.count.endMv h.mvCopy.putMv.count))
    split
    · exact .ite h.postReq.handlerFault h.postReq.putMv.raise
    · exact h.postReq

theorem moverGranule {p ch : Nat} (h : s.Canonical) : (s.moverGranule p ch).Canonical := by
  unfold State.moverGranule
  refine .ite ?_ h
  split
  · exact h.mvGranule
  · exact h

theorem mvResume {p n : Nat} (h : s.Canonical) : (s.mvResume p n).Canonical := by
  unfold State.mvResume
  split
  · exact h
  · split
    · exact .ite h.putMv h
    · exact h

/-! ### RegAccess -/

theorem fieldWrite {v : Nat} {f : Fld} (h : s.Canonical) : (s.fieldWrite v f).Canonical := by
  unfold State.fieldWrite
  dsimp only
  split
  · exact h.set
  · exact h.set
  · exact h

theorem plainWrite {a v : Nat} (h : s.Canonical) : (s.plainWrite a v).Canonical := by
  unfold State.plainWrite
  split
  · exact .foldl h fun h' => h'.fieldWrite
  · exact h

theorem storeWrite {agent a v : Nat} (h : s.Canonical) : (s.storeWrite agent a v).Canonical :=
  .ite h (.ite h.set (.ite (.ite h.set h) (.ite h.set (.ite h.set
    (.ite h.set (.ite h.set (.ite (.ite h h.set.set) (.ite (.ite h (.ite h.plainWrite h.plainWrite.set))
    (.ite (.ite h.plainWrite h.plainWrite.set) (.ite h.set (.ite (.ite h h.set)
    (.ite (.ite h h.set) h.plainWrite))))))))))))

theorem flcCmd {v : Nat} (h : s.Canonical) : (s.flcCmd v).Canonical :=
  .ite h (.ite h.flcProgram (.ite h.flcErase (.ite h.flcBlankCheck
    (.ite h.flcSuspend (.ite h.flcResume (.ite h.flcSwap h.flcRefuse))))))

theorem iccCmd {n v : Nat} (h : s.Canonical) : (s.iccCmd n v).Canonical :=
  .ite h (.ite h.iccActivate (.ite h.iccExchange (.ite h.iccDeactivate (.ite h.iccComponent h))))

theorem cerCmd {v : Nat} (h : s.Canonical) : (s.cerCmd v).Canonical :=
  .ite h (.ite h.cerOpen (.ite h.cerFinish (.ite h.cerClose (.ite h.cerImport h))))

theorem sdhCmd {v : Nat} (h : s.Canonical) : (s.sdhCmd v).Canonical :=
  .ite h (.ite h.sdhInit (.ite h.sdhMove (.ite h.sdhSleep (.ite h.sdhCsa (.ite h.sdhPowerOff (.ite h h.sdhRpmb))))))

theorem clfCmd {v : Nat} (h : s.Canonical) : (s.clfCmd v).Canonical :=
  .ite h (.ite h.fieldOn (.ite h.clfActivate (.ite h.clfExchange (.ite h.clfAuth
    (.ite h.clfSecure (.ite h.clfDeactivate (.ite h.fieldOff h)))))))

theorem stbCtrl {v : Nat} (h : s.Canonical) : (s.stbCtrl v).Canonical :=
  .ite (.stbNone (.ite (.stbAbort (.ite h.stbStart h)) (.ite h.stbStart h)))
    (.ite (.stbAbort (.ite h.stbStart h)) (.ite h.stbStart h))

theorem stbRaiseWrite {v : Nat} (h : s.Canonical) : (s.stbRaiseWrite v).Canonical :=
  .ite h.raiseBoth (.ite h.raiseWhole (.ite h.raiseDome h))

theorem artCtrl {v : Nat} (h : s.Canonical) : (s.artCtrl v).Canonical :=
  .ite (.artSwitch (.ite h.artCopy h)) (.ite h.artCopy h)

theorem keyInstCmd {v : Nat} (h : s.Canonical) : (s.keyInstCmd v).Canonical := .ite h.keyInst h

theorem keyPinCmd {v : Nat} (h : s.Canonical) : (s.keyPinCmd v).Canonical := .ite h (.ite h.unpin h.pin)

theorem entTestWrite {v : Nat} (h : s.Canonical) : (s.entTestWrite v).Canonical := .ite h.entTest h.entTestOff

theorem fedCmd {v : Nat} (h : s.Canonical) : (s.fedCmd v).Canonical :=
  .ite (.reclaim (.ite h.announce h)) (.ite h.announce h)

theorem tagKeyCmd {v : Nat} (h : s.Canonical) : (s.tagKeyCmd v).Canonical :=
  .ite (.tagKeyLoad (.ite h.tagKeyClear h)) (.ite h.tagKeyClear h)

theorem mboxWrite {v : Nat} (h : s.Canonical) : (s.mboxWrite v).Canonical := h.mboxRelease.mboxPublish

theorem commandWrite {agent a v : Nat} (h : s.Canonical) : ∀ t ∈ s.commandWrite agent a v, t.Canonical :=
  iteOption (ofSome (.ite h.resetSource h)) <|
  iteOption (ofSome (.ite h.confirm h)) <|
  iteOption (ofSome h.lcAdvance) <|
  iteOption (ofSome h.mgtCommand) <|
  iteOption (ofSome h.stbCtrl) <|
  iteOption (ofSome h.stbRaiseWrite) <|
  iteOption (ofSome h.artCtrl) <|
  iteOption (ofSome h.artRuleWrite) <|
  iteOption (ofSome h.artRuleWrite) <|
  iteOption (ofSome h.artRuleWrite) <|
  iteOption (ofSome h.artRuleWrite) <|
  iteOption (ofSome h.artRuleWrite) <|
  iteOption (ofSome h.artRuleWrite) <|
  iteOption (ofSome (.ite h.fcuAck h)) <|
  iteOption (ofSome (.ite h.retireSpire h)) <|
  iteOption (ofSome (.ite h.flagsClear h)) <|
  iteOption (ofSome (.ite h.tmpUnlock h)) <|
  iteOption (ofSome (.ite h (.ite h.evidenceClear h.setTmp))) <|
  iteOption (ofSome (.ite h.reseedDue h)) <|
  iteOption (ofSome (.ite h.entReq h)) <|
  iteOption (ofSome h.entTestWrite) <|
  iteOption (ofSome h.keyInstCmd) <|
  iteOption (ofSome h.keyPinCmd) <|
  iteOption (ofSome (.ite h.recolour h)) <|
  iteOption (ofSome h.tdataWrite) <|
  iteOption (ofSome (.ite h.regionArm h)) <|
  iteOption (ofSome (.ite h.restoreGo h)) <|
  iteOption (ofSome (.ite h.keepOpen h)) <|
  iteOption (ofSome h.keepTx) <|
  iteOption (ofSome h.fedCmd) <|
  iteOption (ofSome h.flcCmd) <|
  iteOption (ofSome h.iccCmd) <|
  iteOption (ofSome h.iccCmd) <|
  iteOption (ofSome h.cerCmd) <|
  iteOption (ofSome h.sdhCmd) <|
  iteOption (ofSome h.clfCmd) <|
  iteOption (ofSome h.tagKeyCmd) <|
  iteOption (ofSome h.mboxWrite) <|
  iteOption (ofSome h.tagWordWrite) <|
  iteOption (ofSome h.timeSet) <|
  iteOption (ofSome (.ite h.jrnOpen h)) <|
  iteOption (ofSome h.jrnExport) <|
  ofNone

theorem unlockSpent {agent a : Nat} (h : s.Canonical) : (s.unlockSpent agent a).Canonical := .ite h.setTmp h

theorem regWrite {agent a v : Nat} (h : s.Canonical) : (s.regWrite agent a v).Canonical := by
  unfold State.regWrite
  dsimp only
  split
  next e => exact h.unlockSpent.commandWrite _ e
  next => exact h.unlockSpent.storeWrite

theorem regDrain (h : s.Canonical) : s.regDrain.Canonical := .foldl h.of_mem fun h' => h'.regWrite

theorem lineFound {a cond : Nat} (h : s.Canonical) : (s.lineFound a cond).Canonical :=
  .ite h (.ite h.setLine (.ite h.setFlc h))

theorem served {x : Xfer} {type a n : Nat} {data : List Byte} (h : s.Canonical) :
    (s.served x type a n data).2.2.Canonical :=
  .iteSnd₂ h.regWrite h.unitServe

theorem transfer {agent who job type a n : Nat} {data : List Byte} {cond : Nat} {e : Option BusErr}
    (h : s.Canonical) : (s.transfer agent who job type a n data cond e).Canonical := by
  unfold State.transfer
  refine .ite h ?_
  split
  · exact h.violation.answer
  · exact .ite h.lineFound.flashWait (h.lineFound.crossed fun h' => h'.served).answer

theorem registerWrite {a v : Nat} (h : s.Canonical) : (s.registerWrite a v).Canonical :=
  .ite h.unlockSpent.regWrite (.ite h.unlockSpent h.unlockSpent.storeWrite)

/-! ### Events -/

theorem afterCmd {c : Option Cmd} (h : s.Canonical) : (s.afterCmd c).Canonical := by
  unfold State.afterCmd
  split
  · exact .ite h.sesPkServed.cerProgress h
  · exact h

theorem serveRandom (h : s.Canonical) : s.serveRandom.Canonical := h.drbgServe.sesServed.iccRandom.iccRandom.clfRandom

theorem scrubStep {cond : Nat} (h : s.Canonical) : (s.scrubStep cond).Canonical := h.lineFound.patrolScrub

theorem sweepStep {cond : Nat} (h : s.Canonical) : (s.sweepStep cond).Canonical :=
  .ite h (.foldl h.lineFound.sweepLine .domeCheck)

theorem fieldDetect (h : s.Canonical) : s.fieldDetect.Canonical := .ite h.fieldRise h.fieldRise.wake

/-! ### Skenar -/

theorem retire {c : Nat} {k : Core} {j : Job} {i : Issue} (h : s.Canonical) : (s.retire c k j i).Canonical :=
  h.setCore.updJob

theorem setShared {c b : Nat} {v : Bool} (h : s.Canonical) : (s.setShared c b v).Canonical := h.setSpire

theorem coreViolation {c : Nat} {j : Job} {type a : Nat} (h : s.Canonical) : (s.coreViolation c j type a).Canonical :=
  h.report

theorem coreBus {c : Nat} {j : Job} {type a n : Nat} {data : List Byte} (h : s.Canonical) :
    (s.coreBus c j type a n data).2.2.Canonical :=
  h.busTake.crossed fun h' => h'.unitServe

theorem coreLoad {c : Nat} {k : Core} {j : Job} {a n : Nat} (h : s.Canonical) :
    (s.coreLoad c k j a n).2.Canonical := by
  unfold State.coreLoad
  split
  · dsimp only
    split
    · exact h.coreViolation
    · exact h.coreBus
  · exact h.coreViolation
  · exact h

theorem coreStore {c : Nat} {k : Core} {j : Job} {a : Nat} {bs : List Byte} (h : s.Canonical) :
    (s.coreStore c k j a bs).Canonical := by
  unfold State.coreStore
  split
  · dsimp only
    split
    · exact h.coreViolation
    · exact h.coreBus
  · exact h.coreViolation
  · exact h.putBytes

theorem except {j : Job} {code trap : Nat} (h : s.Canonical) : (s.except j code trap).Canonical := h.handlerFault

theorem doCx {c : Nat} {k : Core} {j : Job} {n rd ra rb imm7 : Nat} (h : s.Canonical) :
    (s.doCx c k j n rd ra rb imm7).Canonical :=
  h.retire

theorem doLoad {c : Nat} {k : Core} {j : Job} {f : LdF} {rd ra imm : Nat} (h : s.Canonical) :
    (s.doLoad c k j f rd ra imm).Canonical :=
  h.coreLoad.retire

theorem doStore {c : Nat} {k : Core} {j : Job} {f : StF} {rd ra imm : Nat} (h : s.Canonical) :
    (s.doStore c k j f rd ra imm).Canonical :=
  h.coreStore.retire

theorem doBit {c : Nat} {k : Core} {j : Job} {f : BitF} {b : Nat} (h : s.Canonical) : (s.doBit c k j f b).Canonical :=
  .ite h.retire h.setShared.retire

theorem doAtom {c : Nat} {k : Core} {j : Job} {set : Bool} {rd off : Nat} (h : s.Canonical) :
    (s.doAtom c k j set rd off).Canonical :=
  h.setShared.retire

theorem doLut {c : Nat} {k : Core} {j : Job} {luti : Bool} {rd ra rb : Nat} (h : s.Canonical) :
    (s.doLut c k j luti rd ra rb).Canonical :=
  h.retire

theorem doCtlut {c : Nat} {k : Core} {j : Job} {rd ra rb n w : Nat} {sign : Bool} (h : s.Canonical) :
    (s.doCtlut c k j rd ra rb n w sign).Canonical :=
  h.retire

theorem doSubmit {c : Nat} {k : Core} {j : Job} {pool ticket ra : Nat} (h : s.Canonical) :
    (s.doSubmit c k j pool ticket ra).Canonical :=
  .ite h.handlerFault (.ite h.handlerFault (.ite h.retire.updJob.submitMv h.of_mem))

theorem doWaitb {c : Nat} {k : Core} {j : Job} {b : Nat} (h : s.Canonical) : (s.doWaitb c k j b).Canonical :=
  .ite h.retire h.retire.updJob

theorem doExit {c : Nat} {k : Core} {j : Job} {ra rb : Nat} (h : s.Canonical) : (s.doExit c k j ra rb).Canonical :=
  .ite h.handlerFault (.ite h.handlerFault h.rd.endJob)

theorem perform {c : Nat} {k : Core} {j : Job} {op : Op} (h : s.Canonical) : (s.perform c k j op).Canonical := by
  unfold State.perform
  split
  · exact h.doBit
  · exact h.retire
  · exact h.doAtom
  · exact h.doLoad
  · exact h.doStore
  · exact h.doLut
  · exact h.doLut
  · exact h.doCtlut
  · exact h.doSubmit
  · exact h.doWaitb
  · exact h.doExit
  · exact h.except
  · exact h.doCx
  · exact h.retire

theorem issueOp {c : Nat} {op : Op} (h : s.Canonical) : (s.issueOp c op).Canonical := by
  unfold State.issueOp
  split
  · exact h
  · refine .ite ?_ h
    dsimp only
    split
    · exact h.perform
    · exact h.except

theorem issueCmp {c cond : Nat} {f : Cond → Op} (h : s.Canonical) : (s.issueCmp c cond f).Canonical := by
  unfold State.issueCmp
  split
  · exact h.issueOp
  · exact h

theorem illegal {c : Nat} (h : s.Canonical) : (s.illegal c).Canonical := by
  unfold State.illegal
  split
  · exact h
  · exact .ite h.except h

theorem scrubFreeze {p : Nat} (h : s.Canonical) : (s.scrubFreeze p).Canonical := h.of_mem

theorem enter {c : Nat} {j : Job} {va : Nat} (h : s.Canonical) : (s.enter c j va).Canonical :=
  .updJob (.ite h.setCore h.setCore.putBytes)

/-! ### Jobs -/

theorem jobRefuse {i code jobnum detail k : Nat} (h : s.Canonical) : (s.jobRefuse i code jobnum detail k).Canonical :=
  .ite (.ite h.sesSendCur.next h.sesSendCur.next.setJsc.cause) h.sesSendCur.next.setJsc

theorem jobAdmit {i : Nat} {c : Ses} {r : JobReq} {h' : Handler} {body : List Byte} {slots : List Nat}
    {kept : List (Nat × Nat)} {core : Option Nat} {promise : Nat} {commit : Rat} (h : s.Canonical) :
    (s.jobAdmit i c r h' body slots kept core promise commit).Canonical := by
  unfold State.jobAdmit
  refine .sesSendCur ?_
  split
  · exact h.setJsc.set.next.setJrn.jrnFree.spireAssigned
  · exact h.setJsc.set.next.setJrn.jrnFree

theorem admitPromised {i : Nat} {c : Ses} {r : JobReq} {hd : Handler} {body : List Byte} (h : s.Canonical) :
    (s.admitPromised i c r hd body).Canonical := by
  unfold State.admitPromised
  dsimp only
  split
  next e => exact .ite h.jobRefuse (h.acquireAll e).jobAdmit.pkeEvict
  next => exact h.jobRefuse

theorem jobDecide {i : Nat} {body : List Byte} (h : s.Canonical) : (s.jobDecide i body).Canonical := by
  unfold State.jobDecide
  dsimp only
  split
  · exact h.jobRefuse
  · refine .ite h.jobRefuse ?_
    split
    · exact h.jobRefuse
    · split
      · exact h.jobRefuse
      · exact .ite h.jobRefuse (.ite h.jobRefuse (.ite h.jobRefuse
          (.ite (.ite h.jobRefuse h.keepPinned.jobAdmit) h.admitPromised)))

theorem jobRequest (h : s.Canonical) : s.jobRequest.Canonical := by
  unfold State.jobRequest
  split
  next => exact h
  next e =>
    split
    · exact (h.takeMsg e).jobDecide
    · exact h.takeMsg e

theorem payloadPlaced (h : s.Canonical) : s.payloadPlaced.Canonical := by
  unfold State.payloadPlaced
  split
  · exact h
  · exact h.wr.updJob

theorem beginJob {c : Nat} {j : Job} (h : s.Canonical) : (s.beginJob c j).Canonical := h.enter

theorem preempt {c id : Nat} (h : s.Canonical) : (s.preempt c id).Canonical := h.setCore.updJob

theorem jobStart {c : Nat} (h : s.Canonical) : (s.jobStart c).Canonical := by
  unfold State.jobStart
  refine .ite h ?_
  split
  · exact h
  · dsimp only
    split
    · exact .ite h.preempt h
    · exact .ite h.beginJob (.ite h.setCore h)

theorem preemptionEnd {c : Nat} (h : s.Canonical) : (s.preemptionEnd c).Canonical := by
  unfold State.preemptionEnd
  refine .ite h ?_
  split
  · exact h.beginJob
  · exact h.setCore

theorem bestResume {c : Nat} (h : s.Canonical) : (s.bestResume c).Canonical := .ite h.setCore h

theorem bestResumeEnd {c : Nat} (h : s.Canonical) : (s.bestResumeEnd c).Canonical := by
  unfold State.bestResumeEnd
  dsimp only
  split
  · exact h.setCore.updJob
  · exact h

theorem bestStart {c : Nat} (h : s.Canonical) : (s.bestStart c).Canonical := by
  unfold State.bestStart
  split
  · exact h
  · exact .ite h.beginJob h

theorem headFor {c d : Nat} {r : Job × List Nat × State} (h : s.Canonical) (e : s.headFor c d = some r) :
    r.2.2.Canonical := by
  unfold State.headFor at e
  split at e
  · cases e
  · split at e
    · obtain ⟨r', hr, rfl⟩ := Option.map_eq_some_iff.1 e
      exact h.acquireAll hr
    · cases e

theorem bestAssign {c : Nat} (h : s.Canonical) : (s.bestAssign c).Canonical := by
  unfold State.bestAssign
  refine .ite h.bestStart ?_
  split
  next => exact h
  next e =>
    obtain ⟨d, _, hd⟩ := List.exists_of_findSome?_eq_some e
    exact (h.headFor hd).setJsc.updJob.spireAssigned.bestStart

theorem spireEnd {p : Nat} (h : s.Canonical) : (s.spireEnd p).Canonical := .foldl h.spireTransitionEnd .bestStart

theorem budgetExpiry {c : Nat} (h : s.Canonical) : (s.budgetExpiry c).Canonical := by
  unfold State.budgetExpiry
  split
  · exact .ite h.handlerFault h
  · exact h

theorem sent {j : Job} {t : Rat} (h : s.Canonical) : (s.sent j t).Canonical :=
  .leaveFlight (.ite h.count.cause.report h)

theorem completionTx {k : Nat} (h : s.Canonical) : (s.completionTx k).Canonical := by
  unfold State.completionTx
  refine .ite h ?_
  split
  · exact h
  · split
    · refine .ite h ?_
      dsimp only
      split
      · exact h.txFrame.sent.seqCheck
      · exact h.txFrame.sent
    · exact h

/-! ### Tick -/

theorem settleTick (h : s.Canonical) : s.settleTick.Canonical := .ite h.settleAll h

theorem heldRun {c : FlUnit} (h : s.Canonical) : (s.heldRun c).Canonical := by
  unfold State.heldRun
  split
  · exact h.instDone
  · exact h.cerImport
  · exact h.iccExchange
  · exact h.clfExchange
  · exact h.clfSecure
  · exact h.keepTx
  · exact h.keepOpen
  · exact h.sdResponse

theorem heldGo (h : s.Canonical) : s.heldGo.Canonical := by
  unfold State.heldGo
  split
  next e => exact (h.heldNext e).heldRun
  next => exact h

theorem tick (h : s.Canonical) : s.tick.Canonical :=
  .ite ((((h.clockEdge.whenRuns fun h' => h'.regDrain.stbTick).flcTick.whenRuns
    .heldGo).firingTick.seqTick).whenRuns fun h' => h'.sdAgain.rdSfgt).settleTick h.bedrockTick

/-! ### Dispatch and the step -/

theorem ofNext {u : State} (e : Host.Outcome.next u = (.next t : Host.Outcome State Fault Refusal))
    (h : u.Canonical) :
    t.Canonical := by
  cases e
  exact h

theorem exec {i : Instr} (h : s.Canonical) (e : Machine.exec i s = .next t) : t.Canonical := by
  cases i with
  | registerWrite => exact ofNext e (h.whenKeep fun h' => h'.registerWrite)
  | transfer =>
    refine ofNext e (h.whenRuns fun h' => ?_)
    split
    · exact h'.of_mem
    · exact h'
    · exact h'.transfer
  | mainPowerUp => exact ofNext e h.powerUp
  | pwrOkLow => exact ofNext e h.pwrOkLow
  | bedrockChangeover => exact ofNext e h.changeover
  | bedrockTrip => exact ofNext e h.bedrockTrip
  | crystalFail => exact ofNext e h.crystalFail
  | crystalRecover => exact ofNext e h.crystalRecover
  | timePairLatch => exact ofNext e h.pairLatch
  | timeSet => exact ofNext e (h.whenKeep fun h' => h'.timeSet)
  | timeAlarmMatch => exact ofNext e h.alarmMatch
  | dozeIdleExpiry => exact ofNext e (h.whenRuns fun h' => h'.dozeIdle)
  | napIdleExpiry => exact ofNext e (h.whenRuns fun h' => h'.napIdle)
  | spireTransitionEnd => exact ofNext e (h.whenRuns fun h' => h'.spireEnd)
  | pwrCeilWrite => exact ofNext e (h.whenOn fun h' => h'.ceilWrite)
  | pwrCeilForce => exact ofNext e (h.whenOn fun h' => h'.ceilForce)
  | pwrBudgetWrite => exact ofNext e (h.whenOn fun h' => h'.budgetWrite)
  | deepIdleExpiry => exact ofNext e (h.whenRuns fun h' => h'.deepIdle)
  | holdReady => exact ofNext e (h.whenOn fun h' => h'.holdReady)
  | railsInRange => exact ofNext e h.railsIn
  | nresetLow => exact ofNext e (h.whenOn fun h' => h'.resetSource)
  | swreset => exact ofNext e (h.whenKeep fun h' => h'.resetSource)
  | bootReady => exact ofNext e (h.whenOn fun h' => h'.bootReady)
  | bootWatchdogExpiry => exact ofNext e (h.whenOn fun h' => h'.watchdog)
  | rstConfirm | rstConfirmRaise => exact ofNext e (h.whenKeep fun h' => h'.confirm)
  | lifecycleAdvance => exact ofNext e (h.whenKeep fun h' => h'.lcAdvance)
  | fuseProgramEnd => exact ofNext e (h.whenOn fun h' => h'.fuseEnd)
  | mgtRead => exact ofNext e (h.whenOn fun h' => h'.mgtRead)
  | mgtWrite => exact ofNext e (h.whenOn fun h' => h'.mgtWrite)
  | mgtQstat => exact ofNext e (h.whenOn fun h' => h'.mgtQstat)
  | wake | resetDevice | clearErr | tamperAck => exact ofNext e (h.whenOn fun h' => h'.mgtCommand)
  | bootSelect | clearAlert | readEvidence | recoverCommit | recoverData =>
    exact ofNext e (h.whenOn fun h' => h'.mgtOrder)
  | mgtCommandDone => exact ofNext e (h.whenOn fun h' => h'.mgtDone)
  | nwakeLow => exact ofNext e (h.whenOn fun h' => h'.nwake)
  | stbStart => exact ofNext e (h.whenKeep fun h' => h'.stbStart)
  | stbAbort => exact ofNext e (h.whenKeep fun h' => h'.stbAbort)
  | stbNone => exact ofNext e (h.whenKeep fun h' => h'.stbNone)
  | spireReload => exact ofNext e (h.whenRuns fun h' => h'.spireReload)
  | spireReloadEnd => exact ofNext e (h.whenRuns fun h' => h'.spireReloadEnd)
  | domeDrained => exact ofNext e (h.whenRuns fun h' => h'.domeDrained)
  | stbRaiseWhole => exact ofNext e (h.whenKeep fun h' => h'.raiseWhole)
  | stbRaiseDomv => exact ofNext e (h.whenKeep fun h' => h'.raiseDome)
  | stbRaiseDone => exact ofNext e (h.whenRuns fun h' => h'.raiseDone)
  | jobRequest => exact ofNext e (h.whenRuns fun h' => h'.jobRequest)
  | payloadPlaced => exact ofNext e (h.whenRuns fun h' => h'.payloadPlaced)
  | jobStart => exact ofNext e (h.whenRuns fun h' => h'.jobStart)
  | preemptionEnd => exact ofNext e (h.whenRuns fun h' => h'.preemptionEnd)
  | bestAssign => exact ofNext e (h.whenRuns fun h' => h'.bestAssign)
  | bestResume => exact ofNext e (h.whenRuns fun h' => h'.bestResume)
  | bestResumeEnd => exact ofNext e (h.whenRuns fun h' => h'.bestResumeEnd)
  | cycleBudgetExpiry => exact ofNext e (h.whenRuns fun h' => h'.budgetExpiry)
  | completionTx => exact ofNext e (h.whenRuns fun h' => h'.completionTx)
  | journalOpen => exact ofNext e (h.whenKeep fun h' => h'.jrnOpen)
  | blockClose => exact ofNext e (h.whenRuns fun h' => h'.blockClose)
  | journalExport => exact ofNext e (h.whenKeep fun h' => h'.jrnExport)
  | journalSeal => exact ofNext e (h.whenOn fun h' => h'.journalSeal)
  | scrubFreeze => exact ofNext e (h.whenRuns fun h' => h'.scrubFreeze)
  | waitb | exit | add | sub | and | or | xor | andn | orn | nor | min | max | minu | maxu | clz | popc | bswap
  | shl | shr | sha | ror | shli | shri | shai | rori | addi | andi | ori | xori | movhi | ext | ins | sel
  | mul | mulh | mulhu | div | divu | rem | remu | bset | bclr | binv | band | bor | bxor | bandn | bfr | tas
  | tac | ldB | ldBu | ldH | ldHu | ldW | ldD | stB | stH | stW | stD | lut | luti | ctlut | j | jal | jr
  | jalr | bt | bf | bz | bnz | loop | loopr | mflb | mfle | mflc | mtlc | submit | nop | trap | cx =>
    exact ofNext e (h.whenRuns fun h' => h'.issueOp)
  | cmp | cmpi => exact ofNext e (h.whenRuns fun h' => h'.issueCmp)
  | illegal => exact ofNext e (h.whenRuns fun h' => h'.illegal)
  | patrolScrub => exact ofNext e (h.whenRuns fun h' => h'.scrubStep)
  | recolourClear | recolourReencrypt => exact ofNext e (h.whenKeep fun h' => h'.recolour)
  | sweepLine => exact ofNext e (h.whenRuns fun h' => h'.sweepStep)
  | mmuTdataWrite => exact ofNext e (h.whenKeep fun h' => h'.tdataWrite)
  | moverGranule => exact ofNext e (h.whenRuns fun h' => h'.moverGranule)
  | mmuReqAppend => exact ofNext e (h.whenRuns fun h' => h'.reqAppend)
  | mmuReqPop => exact ofNext e (h.whenKeep fun h' => h'.reqPop)
  | descriptorResume => exact ofNext e (h.whenRuns fun h' => h'.mvResume)
  | regionArm => exact ofNext e (h.whenKeep fun h' => h'.regionArm)
  | restoreGo => exact ofNext e (h.whenKeep fun h' => h'.restoreGo)
  | restoreEnd => exact ofNext e (h.whenRuns fun h' => h'.restoreEnd)
  | artCopy => exact ofNext e (h.whenKeep fun h' => h'.artCopy)
  | artCopyEnd => exact ofNext e (h.whenRuns fun h' => h'.artCopyEnd)
  | artRuleWrite => exact ofNext e (h.whenKeep fun h' => h'.artRuleWrite)
  | artSwitch => exact ofNext e (h.whenKeep fun h' => h'.artSwitch)
  | artDrained => exact ofNext e (h.whenRuns fun h' => h'.artDrained)
  | faultRegister => exact ofNext e (h.whenRuns fun h' => h'.faultRegister)
  | graceExpiry => exact ofNext e (h.whenRuns fun h' => h'.graceExpiry)
  | quietExpiry => exact ofNext e (h.whenRuns fun h' => h'.quietExpiry)
  | fcuAck => exact ofNext e (h.whenKeep fun h' => h'.fcuAck)
  | fcuRetire => exact ofNext e (h.whenKeep fun h' => h'.retireSpire)
  | engineDispatch => exact ofNext e (h.whenRuns fun h' => h'.dispatch)
  | symYield => exact ofNext e (h.whenRuns fun h' => h'.yield)
  | symCommandEnd => exact ofNext e (h.whenRuns fun h' => h'.symEnd.afterCmd)
  | digCommandEnd => exact ofNext e (h.whenRuns fun h' => h'.digEnd)
  | aesEcbEnc | aesEcbDec | tdesEcbEnc | tdesEcbDec =>
    exact ofNext e (h.whenRuns fun h' => h'.symDo fun h'' => h''.symEcb)
  | aesCbcEnc | aesCbcDec | tdesCbcEnc | tdesCbcDec =>
    exact ofNext e (h.whenRuns fun h' => h'.symDo fun h'' => h''.symCbc)
  | aesCtr => exact ofNext e (h.whenRuns fun h' => h'.symDo fun h'' => h''.symCtr)
  | aesGcmEnc => exact ofNext e (h.whenRuns fun h' => h'.symDo fun h'' => h''.symGcmEnc)
  | aesGcmDec => exact ofNext e (h.whenRuns fun h' => h'.symDo fun h'' => h''.symGcmDec)
  | aesCmacGen | aesCmacVer => exact ofNext e (h.whenRuns fun h' => h'.symDo fun h'' => h''.symCmac)
  | tdesMacGen | tdesMacVer => exact ofNext e (h.whenRuns fun h' => h'.symDo fun h'' => h''.symTmac)
  | ff1Enc | ff1Dec => exact ofNext e (h.whenRuns fun h' => h'.symDo fun h'' => h''.symFf1)
  | pinTranslate => exact ofNext e (h.whenRuns fun h' => h'.symDo fun h'' => h''.symPinTranslate)
  | pvfVerify | pvfGenerate => exact ofNext e (h.whenRuns fun h' => h'.symDo fun h'' => h''.symPvf)
  | arqcVerify => exact ofNext e (h.whenRuns fun h' => h'.symDo fun h'' => h''.symArqc)
  | arpcGenerate => exact ofNext e (h.whenRuns fun h' => h'.symDo fun h'' => h''.symArpc)
  | dukptPin => exact ofNext e (h.whenRuns fun h' => h'.symDo fun h'' => h''.symDukptPin)
  | dukptMacVer => exact ofNext e (h.whenRuns fun h' => h'.symDo fun h'' => h''.symDukptMac)
  | dukptDec => exact ofNext e (h.whenRuns fun h' => h'.symDo fun h'' => h''.symDukptDec)
  | kbImport => exact ofNext e (h.whenRuns fun h' => h'.symDo fun h'' => h''.symKbImport)
  | kbExport => exact ofNext e (h.whenRuns fun h' => h'.symDo fun h'' => h''.symKbExport)
  | hash => exact ofNext e (h.whenRuns fun h' => h'.digDo fun h'' => h''.digHash)
  | hmac => exact ofNext e (h.whenRuns fun h' => h'.digDo fun h'' => h''.digHmac)
  | hmacVerify => exact ofNext e (h.whenRuns fun h' => h'.digDo fun h'' => h''.digHmacVerify)
  | digInit => exact ofNext e (h.whenRuns fun h' => h'.digDo fun h'' => h''.digInit)
  | digUpdate | digFinal => exact ofNext e (h.whenRuns fun h' => h'.digDo fun h'' => h''.digMore)
  | install | replace | remove => exact ofNext e (h.whenKeep fun h' => h'.keyInst)
  | keyInstDone => exact ofNext e (h.whenRuns fun h' => h'.instDone)
  | pin => exact ofNext e (h.whenKeep fun h' => h'.pin)
  | unpin => exact ofNext e (h.whenKeep fun h' => h'.unpin)
  | keyFetch => exact ofNext e (h.whenRuns fun h' => h'.keyFetch)
  | keyFetchEnd => exact ofNext e (h.whenRuns fun h' => h'.keyFetchEnd)
  | pkeEtuSchedule => exact ofNext e (h.whenRuns fun h' => h'.pkeSchedule)
  | pkeCommandEnd => exact ofNext e (h.whenRuns fun h' => h'.pkeEnd.afterCmd)
  | modprog | keygen | sign | verify | agree | publicKey | curveCheck | rsaSign | rsaVerify | rsaDecrypt
  | rsaEncrypt | pkImport => exact ofNext e (h.whenRuns fun h' => h'.pkeDo)
  | entWindowEnd => exact ofNext e (h.whenRuns fun h' => h'.windowEnd)
  | entEstimateBlock => exact ofNext e (h.whenRuns fun h' => h'.estimateEnd)
  | reseedDueTimer => exact ofNext e (h.whenRuns fun h' => h'.reseedTimer)
  | drbgReseed => exact ofNext e (h.whenRuns fun h' => h'.reseed)
  | drbgServe => exact ofNext e (h.whenRuns fun h' => h'.serveRandom)
  | entReseed => exact ofNext e (h.whenKeep fun h' => h'.reseedDue)
  | entReq => exact ofNext e (h.whenKeep fun h' => h'.entReq)
  | entReqDone => exact ofNext e (h.whenRuns fun h' => h'.entReqDone)
  | entSeedTimeout => exact ofNext e (h.whenOn fun h' => h'.seedTimeout)
  | entTestRaw | entTestPattern => exact ofNext e (h.whenKeep fun h' => h'.entTest)
  | entTestOff => exact ofNext e (h.whenKeep fun h' => h'.entTestOff)
  | bedrockRestart => exact ofNext e h.bedrockRestart
  | meshCompare => exact ofNext e h.meshCompare
  | casePulse => exact ofNext e h.casePulse
  | lightDetect => exact ofNext e (h.whenOn fun h' => h'.lightDetect)
  | vglitchDetect | vrangeDetect => exact ofNext e (h.whenOn fun h' => h'.railEvent)
  | refclkFail | pllUnlock => exact ofNext e (h.whenOn fun h' => h'.clockFail)
  | tempReading => exact ofNext e (h.whenOn fun h' => h'.tempReading)
  | tamperFiring => exact ofNext e (h.whenOn fun h' => h'.firing)
  | tmpUnlock => exact ofNext e (h.whenKeep fun h' => h'.tmpUnlock)
  | tmpFlagsClear => exact ofNext e (h.whenKeep fun h' => h'.flagsClear)
  | evidenceClear => exact ofNext e (h.whenKeep fun h' => h'.evidenceClear)
  | linkDown => exact ofNext e (h.whenRuns fun h' => h'.linkDown)
  | linkUp => exact ofNext e (h.whenRuns fun h' => h'.linkUp)
  | frameReceive => exact ofNext e (h.whenRuns fun h' => h'.frameReceive)
  | arpRequest => exact ofNext e (h.whenRuns fun h' => h'.arpRequest)
  | neighbourSolicitation => exact ofNext e (h.whenRuns fun h' => h'.ndRequest)
  | echoRequest => exact ofNext e (h.whenRuns fun h' => h'.echoRequest)
  | neighbourTimeout => exact ofNext e (h.whenRuns fun h' => h'.neighTimeout)
  | neighbourExpiry => exact ofNext e (h.whenRuns fun h' => h'.neighExpiry)
  | reassemblyTimeout => exact ofNext e (h.whenRuns fun h' => h'.reassemblyTimeout)
  | contextFetch => exact ofNext e (h.whenRuns fun h' => h'.contextFetch)
  | messageTx => exact ofNext e (h.whenRuns fun h' => h'.messageTx)
  | helloC => exact ofNext e (h.whenRuns fun h' => h'.helloC)
  | helloD => exact ofNext e (h.whenRuns fun h' => h'.helloD)
  | finishC => exact ofNext e (h.whenRuns fun h' => h'.finishC)
  | ready => exact ofNext e (h.whenRuns fun h' => h'.ready.fedReady)
  | reject => exact ofNext e (h.whenRuns fun h' => h'.rxReject)
  | rekeyAck => exact ofNext e (h.whenRuns fun h' => h'.rekeyAck)
  | rekeyReq => exact ofNext e (h.whenRuns fun h' => h'.rxRekeyReq)
  | close => exact ofNext e (h.whenRuns fun h' => h'.rxClose)
  | ping => exact ofNext e (h.whenRuns fun h' => h'.rxPing)
  | pong => exact ofNext e (h.whenRuns fun h' => h'.rxPong)
  | query => exact ofNext e (h.whenRuns fun h' => h'.rxQuery)
  | app => exact ofNext e (h.whenRuns fun h' => h'.rxApp)
  | handshakeTimeout => exact ofNext e (h.whenRuns fun h' => h'.hsTimeout)
  | rekeyTimeout => exact ofNext e (h.whenRuns fun h' => h'.rekeyTimeout)
  | sessionIdle => exact ofNext e (h.whenRuns fun h' => h'.sessionIdle)
  | sessionEpochDrained => exact ofNext e (h.whenRuns fun h' => h'.sesDrained)
  | keepOpen => exact ofNext e (h.whenKeep fun h' => h'.keepOpen)
  | keepTx => exact ofNext e (h.whenKeep fun h' => h'.keepTx)
  | join => exact ofNext e (h.whenRuns fun h' => h'.rxJoin)
  | welcome => exact ofNext e (h.whenRuns fun h' => h'.rxWelcome)
  | beat => exact ofNext e (h.whenRuns fun h' => h'.rxBeat)
  | timeQ => exact ofNext e (h.whenRuns fun h' => h'.rxTimeQ)
  | timeR => exact ofNext e (h.whenRuns fun h' => h'.rxTimeR)
  | keyset => exact ofNext e (h.whenRuns fun h' => h'.rxKeyset)
  | readyE => exact ofNext e (h.whenRuns fun h' => h'.rxReadyE)
  | leave => exact ofNext e (h.whenRuns fun h' => h'.rxLeave)
  | beatTimer => exact ofNext e (h.whenRuns fun h' => h'.beatTimer)
  | timeQTimer => exact ofNext e (h.whenRuns fun h' => h'.timeQTimer)
  | memberLossTimeout => exact ofNext e (h.whenRuns fun h' => h'.memberLoss)
  | fedRetry => exact ofNext e (h.whenRuns fun h' => h'.fedRetry)
  | standbyTakeover => exact ofNext e (h.whenRuns fun h' => h'.takeover)
  | announce => exact ofNext e (h.whenKeep fun h' => h'.announce)
  | reclaim => exact ofNext e (h.whenKeep fun h' => h'.reclaim)
  | fedSwitch => exact ofNext e (h.whenRuns fun h' => h'.fedSwitch)
  | fedEpochDrained => exact ofNext e (h.whenRuns fun h' => h'.fedDrained)
  | rekey => exact ofNext e (h.whenRuns fun h' => h'.rxRekey)
  | epochDone => exact ofNext e (h.whenRuns fun h' => h'.rxEpochDone)
  | program => exact ofNext e (h.whenKeep fun h' => h'.flcProgram)
  | erase => exact ofNext e (h.whenKeep fun h' => h'.flcErase)
  | blankCheck => exact ofNext e (h.whenKeep fun h' => h'.flcBlankCheck)
  | suspend => exact ofNext e (h.whenKeep fun h' => h'.flcSuspend)
  | resume => exact ofNext e (h.whenKeep fun h' => h'.flcResume)
  | swap => exact ofNext e (h.whenKeep fun h' => h'.flcSwap)
  | flashPulseEnd => exact ofNext e (h.whenRuns fun h' => h'.flcPulse)
  | blankCheckEnd => exact ofNext e (h.whenRuns fun h' => h'.flcBlankEnd)
  | holdoffExpiry => exact ofNext e (h.whenRuns fun h' => h'.flcHoldoff)
  | infoRecordWrite => exact ofNext e (h.whenRuns fun h' => h'.infoWrite)
  | ledgerCompaction => exact ofNext e (h.whenRuns fun h' => h'.ledgerCompact)
  | iccActivate => exact ofNext e (h.whenKeep fun h' => h'.iccActivate)
  | iccExchange => exact ofNext e (h.whenKeep fun h' => h'.iccExchange)
  | iccDeactivate => exact ofNext e (h.whenKeep fun h' => h'.iccDeactivate)
  | iccComponent => exact ofNext e (h.whenKeep fun h' => h'.iccComponent)
  | iccCharacterReceive => exact ofNext e (h.whenRuns fun h' => h'.iccCharacter)
  | iccWaitTimeout => exact ofNext e (h.whenRuns fun h' => h'.iccTimeout)
  | iccClassRetry => exact ofNext e (h.whenRuns fun h' => h'.iccRetryB)
  | iccClockStop => exact ofNext e (h.whenRuns fun h' => h'.iccClockStop)
  | iccCardPresent => exact ofNext e (h.whenOn fun h' => h'.iccPresent)
  | iccCardRemoved => exact ofNext e (h.whenOn fun h' => h'.iccRemoved)
  | cerOpen => exact ofNext e (h.whenKeep fun h' => h'.cerOpen)
  | cerFinish => exact ofNext e (h.whenKeep fun h' => h'.cerFinish)
  | cerClose => exact ofNext e (h.whenKeep fun h' => h'.cerClose)
  | cerImport => exact ofNext e (h.whenKeep fun h' => h'.cerImport)
  | ceremonyTimeout => exact ofNext e (h.whenOn fun h' => h'.cerTimeout)
  | sdhInit => exact ofNext e (h.whenKeep fun h' => h'.sdhInit)
  | sdhRead | sdhWrite => exact ofNext e (h.whenKeep fun h' => h'.sdhMove)
  | sleep | awake => exact ofNext e (h.whenKeep fun h' => h'.sdhSleep)
  | rpmbCounter | rpmbWrite | rpmbRead | rpmbKey | settle => exact ofNext e (h.whenKeep fun h' => h'.sdhRpmb)
  | csaWrite | csaRead => exact ofNext e (h.whenKeep fun h' => h'.sdhCsa)
  | powerOff => exact ofNext e (h.whenKeep fun h' => h'.sdhPowerOff)
  | sdResponse => exact ofNext e (h.whenRuns fun h' => h'.sdResponse)
  | sdWaitTimeout => exact ofNext e (h.whenRuns fun h' => h'.sdTimeout)
  | sdCardPresent => exact ofNext e (h.whenOn fun h' => h'.sdPresent)
  | sdCardRemoved => exact ofNext e (h.whenOn fun h' => h'.sdRemoved)
  | csaCommit => exact ofNext e (h.whenRuns fun h' => h'.csaCommit)
  | fieldDetect => exact ofNext e h.fieldDetect
  | fieldLoss => exact ofNext e h.fieldLoss
  | fieldCollapse => exact ofNext e h.fieldCollapse
  | fieldOn => exact ofNext e (h.whenKeep fun h' => h'.fieldOn)
  | carrierGuardEnd => exact ofNext e (h.whenRuns fun h' => h'.guardEnd)
  | clfActivate => exact ofNext e (h.whenKeep fun h' => h'.clfActivate)
  | clfExchange => exact ofNext e (h.whenKeep fun h' => h'.clfExchange)
  | clfAuth => exact ofNext e (h.whenKeep fun h' => h'.clfAuth)
  | secureExchange => exact ofNext e (h.whenKeep fun h' => h'.clfSecure)
  | clfDeactivate => exact ofNext e (h.whenKeep fun h' => h'.clfDeactivate)
  | fieldOff => exact ofNext e (h.whenKeep fun h' => h'.fieldOff)
  | clfFrameReceive => exact ofNext e (h.whenRuns fun h' => h'.clfFrame)
  | clfFwtExpiry => exact ofNext e (h.whenRuns fun h' => h'.clfExpiry)
  | carrierResetEnd => exact ofNext e (h.whenRuns fun h' => h'.carrierReset)
  | tagFrameReceive => exact ofNext e h.tagFrame
  | authBegin => exact ofNext e h.tagAuthBegin
  | authFinish => exact ofNext e h.tagAuthFinish
  | endSession => exact ofNext e h.tagEnd
  | tagRead => exact ofNext e h.tagRead
  | status => exact ofNext e h.tagStatus
  | tagWrite => exact ofNext e h.tagWrite
  | commit => exact ofNext e h.tagCommit
  | ack => exact ofNext e h.tagAck
  | tagBackoffExpiry => exact ofNext e h.tagBackoffEnd
  | tagKeyLoad => exact ofNext e (h.whenKeep fun h' => h'.tagKeyLoad)
  | tagKeyLoadEnd => exact ofNext e (h.whenRuns fun h' => h'.tagKeyLoadEnd)
  | tagKeyClear => exact ofNext e (h.whenKeep fun h' => h'.tagKeyClear)
  | mailboxRelease => exact ofNext e (h.whenKeep fun h' => h'.mboxRelease)
  | mailboxPublish => exact ofNext e (h.whenKeep fun h' => h'.mboxPublish)

theorem step (h : s.Canonical) (e : Machine.step s = .next t) : t.Canonical := by
  unfold Machine.step at e
  split at e
  · exact ofNext e h.tick
  · exact exec h.of_mem e

end State.Canonical

/-- Settles O3: the step keeps `State.Canonical`, since every operation of the machine does. -/
theorem memoryStaysCanonical : Obligations.MemoryStaysCanonical := fun _ _ h e => State.Canonical.step h e

end Sys2Proof.Machine
end

section
/-!
PROOFS. O27 fails: it takes any list of register values for a state, and a field listed with a value wider than itself does
not keep its value under a write that should leave it.
-/

namespace Sys2Proof.Machine

/-- Main power on, and RST_CAUSE.POWER, a field of one bit, listed with the value 2, which no operation stores (R11): `State.set`
cuts to the width. -/
def overwideCause : State := { State.reset with regs := [(R.RST_CAUSE_POWER.key, 2)], pwr := { main := .on } }

/-- A write of 0 to RST_CAUSE (0xFF00000000) clears no bit (W1C, R12), yet stores the field cut to its width. -/
theorem overwideCause_registerWrite :
    ∃ t, exec (.registerWrite 0xFF00000000 0) overwideCause = .next t ∧ t.get R.RST_CAUSE_POWER = 0 :=
  ⟨_, rfl, by decide⟩

/-- Refutes O27: its first clause has a W1C field keep, under a write of 0, whatever value the state lists for it, 2 for the
one bit of RST_CAUSE.POWER in `overwideCause` too, where the write leaves 0. -/
theorem not_registersAndTransfers : ¬ Obligations.RegistersAndTransfers := by
  intro h
  obtain ⟨hplain, -⟩ := h overwideCause (by decide)
  obtain ⟨t, ht, hfields, -⟩ := hplain 0xFF00000000 0 false _ rfl rfl (by decide) (by decide)
  have hkept : t.get R.RST_CAUSE_POWER = 2 := hfields R.RST_CAUSE_POWER (.head _)
  obtain ⟨u, hu, hcut⟩ := overwideCause_registerWrite
  cases ht.symm.trans hu
  simp [hcut] at hkept

end Sys2Proof.Machine
end

section
/-!
PROOFS. O20 fails: PWR_OK falling ends an isolation with a reset of the main domain (R112), which drops a load of the tag key
(R553) under way. The statement has the tag left as it was.
-/

namespace Sys2Proof.Machine

/-- A loss of main power drops a load of the tag key: the KEY unit that carries it is of the main domain. -/
theorem powerOff_tag_load (s : State) : s.powerOff.tag.load = none := rfl

/-- PWR_OK low ends an isolation with a stop cause and the loss of main power (R111). -/
theorem exec_pwrOkLow_isolated {s : State} (h : s.pwr.main = .isolated) :
    exec .pwrOkLow s = .next (((s.setPwr { s.pwr with armed := false }).stopCause true).powerOff) := by
  simp only [exec, execPwrOkLow, State.pwrOkLow, h]

/-- Main power on, and a load of the tag key from table index 5 under way. -/
def tagKeyLoading : State := { State.reset with pwr := { main := .on }, tag := { load := some 5 } }

/-- PWR_CEIL written with FORCE = 1 and HOLD isolates the device (R108, R109) with the load still under way. -/
theorem tagKeyLoading_pwrCeilForce :
    ∃ s, exec (.pwrCeilForce 4) tagKeyLoading = .next s ∧ s.pwr.main = .isolated ∧ s.tag.load = some 5 :=
  ⟨_, rfl, by decide +kernel, by decide +kernel⟩

/-- Refutes O20: its clause on an isolated device has the tag unchanged when PWR_OK falls, yet in the state that a forced HOLD
makes of `tagKeyLoading` the loss of power ends the load under way. -/
theorem not_suppliesAndClocks : ¬ Obligations.SuppliesAndClocks := by
  intro h
  obtain ⟨s, -, hisolated, hload⟩ := tagKeyLoading_pwrCeilForce
  obtain ⟨-, -, -, -, hclause, -⟩ := h s
  obtain ⟨t, ht, -, -, htag, -⟩ := hclause hisolated
  cases (exec_pwrOkLow_isolated hisolated).symm.trans ht
  have hdropped : s.tag.load = none := htag ▸ powerOff_tag_load _
  simp [hload] at hdropped

end Sys2Proof.Machine
end

section
/-!
PROOFS. O21 fails: PWR_FORCED_CNT.COUNT has 16 bits and saturates at 65,535. The statement has a forced HOLD add 1 to any count
below 2^32 - 1.
-/

namespace Sys2Proof.Machine

/-- Main power on, no sequence under way, no job in flight, and 65,535 forced transitions counted: what that many leave, since
PWR_FORCED_CNT is kept by bedrock (AO). -/
def forcedCountFull : State := { State.reset with pwr := { main := .on } }.set R.PWR_FORCED_CNT_COUNT 65535

/-- PWR_CEIL written with FORCE = 1 and HOLD isolates the device (R108, R109), and the count stays at its highest value. -/
theorem forcedCountFull_pwrCeilForce :
    ∃ t, exec (.pwrCeilForce 4) forcedCountFull = .next t ∧ t.pwr.main = .isolated ∧ t.get R.PWR_FORCED_CNT_COUNT = 65535 :=
  ⟨_, rfl, by decide +kernel, by decide +kernel⟩

/-- Refutes O21: its clause on a forced HOLD with nothing left to send or seal has PWR_FORCED_CNT rise by 1 from any count below
2^32 - 1, yet from the 65,535 of `forcedCountFull` it does not rise. -/
theorem not_powerStates : ¬ Obligations.PowerStates := by
  intro h
  obtain ⟨-, -, -, -, -, -, -, hforceHold, -⟩ := h forcedCountFull
  obtain ⟨t, ht, -, -, -, -, -, hrises⟩ := hforceHold 4 (by decide) (by decide) (by decide) (by decide) (by decide) (by decide)
    (by decide) (by decide)
  obtain ⟨u, hu, -, hstays⟩ := forcedCountFull_pwrCeilForce
  cases ht.symm.trans hu
  have hcounted : forcedCountFull.get R.PWR_FORCED_CNT_COUNT = 65535 := get_set_same _ _ _
  simp [hstays, hcounted] at hrises

end Sys2Proof.Machine
end

section
/-!
PROOFS. When the gate of a command is open (R5, R95), and how a flag of one bit reads.
-/

namespace Sys2Proof.Machine

variable {s : State} {f : State → State}

theorem whenOn_of_mainOn (hmain : s.mainOn = true) : s.whenOn f = f s := if_pos hmain

theorem whenKeep_of_runs (hruns : s.spiresRun = true) (hkeep : s.keepHalted = false) : s.whenKeep f = f s := by
  simp [State.whenKeep, hruns, hkeep]

theorem is_of_get_zero {r : Fld} (h : s.get r = 0) : s.is r = false := by simp [State.is, h]

theorem is_of_get_one {r : Fld} (h : s.get r = 1) : s.is r = true := by simp [State.is, h]

/-- A write of one field, made or not, leaves every other. -/
theorem get_ite_set_ne {c : Prop} [Decidable c] {r g : Fld} {v : Nat} (h : r.key ≠ g.key) :
    (if c then s.set r v else s).get g = s.get g := by
  split
  · exact get_set_ne s r g v h
  · rfl

/-- A field that is cleared under a condition that holds reads 0. -/
theorem get_ite_clear_same {c : Prop} [Decidable c] {r : Fld} (h : c) : (if c then s.set r 0 else s).get r = 0 := by
  simp [h]

/-- Such a write changes the registers alone. -/
theorem ite_set_frame {c : Prop} [Decidable c] {r : Fld} {v : Nat} {regs : List (Nat × Nat)} :
    ({ (if c then s.set r v else s) with regs := regs } : State) = { s with regs := regs } := by
  split <;> rfl

end Sys2Proof.Machine
end

section
/-!
PROOFS. O23: the management port, its commands (R130, R132, R576) and its frames (R128, R129).
-/

namespace Sys2Proof.Machine

section
variable {s : State}

/-! ### Commands (R130, R576) -/

/-- MGT_ARG keeps every bit of an argument of 32 bits. -/
theorem get_mgtArg {arg : Nat} (h : arg < 2 ^ 32) : (s.set R.MGT_ARG_ARG arg).get R.MGT_ARG_ARG = arg := by
  rw [get_set_same]
  exact Nat.mod_eq_of_lt h

theorem mgtOrder_of_on (hmain : s.pwr.main = .on) (code arg : Nat) :
    s.mgtOrder code arg = (s.set R.MGT_ARG_ARG arg).mgtCommand code := by
  simp [State.mgtOrder, State.mainOn, hmain]

section
variable (hmain : s.pwr.main = .on) (hfree : s.pwr.mgt = none)
include hmain hfree

theorem mgtCommand_wake : s.mgtCommand 1 = (s.mgtBusy 1 (s.get R.MGT_ARG_ARG) 0).wake 1 := by
  simp [State.mgtCommand, State.mainOn, hmain, hfree]

theorem mgtCommand_bootSelect (h : s.get R.MGT_ARG_ARG ≤ 3) :
    s.mgtCommand 3 = (s.mgtBusy 3 (s.get R.MGT_ARG_ARG) 0).bootSelect (s.get R.MGT_ARG_ARG) := by
  simp [State.mgtCommand, State.mainOn, hmain, hfree, h]

theorem mgtCommand_tamperAck (h : s.get R.RST_BOOT_PHASE = 13) :
    s.mgtCommand 4 = (s.mgtBusy 4 (s.get R.MGT_ARG_ARG) 0).haltAck := by
  simp [State.mgtCommand, State.mainOn, hmain, hfree, h]

theorem mgtCommand_clearAlert :
    s.mgtCommand 5 = (s.mgtBusy 5 (s.get R.MGT_ARG_ARG) 0).alertClear (s.get R.MGT_ARG_ARG) := by
  simp [State.mgtCommand, State.mainOn, hmain, hfree]

theorem mgtCommand_readEvidence :
    s.mgtCommand 6 = s.mgtBusy 6 (s.get R.MGT_ARG_ARG) (if s.get R.MGT_ARG_ARG ≤ 15 then 0 else 2) := by
  simp [State.mgtCommand, State.mainOn, hmain, hfree, apply_ite (s.mgtBusy _ _)]

theorem mgtCommand_recoverData : s.mgtCommand 7 = s.mgtBusy 7 (s.get R.MGT_ARG_ARG)
    (if s.get R.RST_BOOT_PHASE = 15 ∧ s.get R.MGT_ARG_ARG < 0x4000 then 0 else 2) := by
  simp [State.mgtCommand, State.mainOn, hmain, hfree, apply_ite (s.mgtBusy _ _)]

theorem mgtCommand_recoverCommit : s.mgtCommand 8 = s.mgtBusy 8 (s.get R.MGT_ARG_ARG)
    (if s.get R.RST_BOOT_PHASE = 15 ∧ s.get R.MGT_ARG_ARG ≤ 0x400000 then 0 else 2) := by
  simp [State.mgtCommand, State.mainOn, hmain, hfree, apply_ite (s.mgtBusy _ _)]

theorem mgtCommand_clearErr : s.mgtCommand 9 = (s.mgtBusy 9 (s.get R.MGT_ARG_ARG) 0).errClear := by
  simp [State.mgtCommand, State.mainOn, hmain, hfree]

end

/-- A command under way shows BUSY. -/
theorem mgtBusy_status (code arg st : Nat) : (s.mgtBusy code arg st).get R.MGT_RESULT_STATUS = 1 := by
  rw [State.mgtBusy, get_set_ne _ _ _ _ (by decide), get_set_same]
  rfl

/-- What of the registers is not MGT_RESULT is as it was when a command begins. -/
theorem mgtBusy_get_ne {code arg st : Nat} {f : Fld} (hstatus : R.MGT_RESULT_STATUS.key ≠ f.key)
    (hcode : R.MGT_RESULT_CODE.key ≠ f.key) : (s.mgtBusy code arg st).get f = s.get f := by
  rw [State.mgtBusy, get_set_ne _ _ _ _ hcode, get_set_ne _ _ _ _ hstatus, setPwr_get]

/-! ### Clearing alerts -/

/-- CLEAR_ALERT writes fields of MGT_ALERT alone. -/
theorem alertClear_pwr (m : Nat) : (s.alertClear m).pwr = s.pwr := by
  simp only [State.alertClear, List.foldl, apply_ite State.pwr, set_pwr, ite_self]

theorem alertClear_frame (m : Nat) : ({ s.alertClear m with regs := s.regs } : State) = s := by
  simp only [State.alertClear, List.foldl, ite_set_frame]

/-- A field outside MGT_ALERT is as it was. -/
theorem alertClear_status (m : Nat) : (s.alertClear m).get R.MGT_RESULT_STATUS = s.get R.MGT_RESULT_STATUS := by
  simp (disch := decide) only [State.alertClear, List.foldl, get_ite_set_ne]

theorem alertClear_tamper {m : Nat} (h : m.testBit R.MGT_ALERT_TAMPER.lo = true) :
    (s.alertClear m).get R.MGT_ALERT_TAMPER = 0 := by
  simp (disch := decide) only [State.alertClear, List.foldl, get_ite_set_ne]
  exact get_ite_clear_same h

theorem alertClear_ready {m : Nat} (h : m.testBit R.MGT_ALERT_READY.lo = false) :
    (s.alertClear m).get R.MGT_ALERT_READY = s.get R.MGT_ALERT_READY := by
  simp (disch := decide) only [State.alertClear, List.foldl, get_ite_set_ne]
  simp only [h, Bool.false_eq_true, if_false]
  simp (disch := decide) only [get_ite_set_ne]

/-! ### Wake sources (R103, R132) -/

/-- Recording a wake source writes PWR_WAKE_SRC alone. -/
theorem wakeSrc_dev (k : Nat) : (s.wakeSrc k).get R.PWR_STATE_DEV = s.get R.PWR_STATE_DEV := by
  unfold State.wakeSrc
  repeat' split
  all_goals exact get_set_ne _ _ _ _ (by decide)

/-- During an entry into DEEP an enabled source is recorded, and stops the entry (R106). -/
theorem wake_in_entry {j k : Nat} (hmain : s.pwr.main = .on) (hen : (s.get R.PWR_WAKE_EN_EN).testBit k = true)
    (hseq : s.pwr.seq = .deep j) :
    s.wake k = (s.wakeSrc k).setPwr { (s.wakeSrc k).pwr with woken := true } := by
  simp [State.wake, State.mainOn, hmain, hen, hseq]

/-- In DEEP an enabled source is recorded, and begins the exit at its first step (R105). -/
theorem wake_in_deep {k : Nat} (hmain : s.pwr.main = .on) (hen : (s.get R.PWR_WAKE_EN_EN).testBit k = true)
    (hseq : s.pwr.seq = .none) (hdeep : s.get R.PWR_STATE_DEV = 3) :
    s.wake k = (s.wakeSrc k).setSeq (.exit 1 5) 0 := by
  simp [State.wake, State.mainOn, State.inDeep, State.exitBegin, hmain, hen, hseq, hdeep, wakeSrc_dev]

/-! ### The halted boot (R443) -/

/-- Step 3 of the boot of a device in DECOMMISSION, whose fuses are as the fuses say, goes no further (R126). -/
theorem bootRoots_of_decommission (hlc : s.pwr.lc = 3) (hdef : s.defect 3 = false) (hblown : s.pwr.blown < 2) :
    s.bootRoots = (s.phaseSet 3).set R.RST_LC_STATE 3 := by
  have hread : (s.phaseSet 3).lcRead = s.phaseSet 3 := if_pos hblown
  simp only [State.bootRoots, hread]
  simp [State.phaseSet, hlc, hdef]

/-- TAMPER_ACK clears HALT and what is pending, and such a device stops again at step 3. -/
theorem haltAck_of_decommission (hlc : s.pwr.lc = 3) (hdef : s.defect 3 = false) (hblown : s.pwr.blown < 2) :
    s.haltAck = (((s.set R.TMP_PENDING_HALT 0).set R.TMP_PENDING_RESP 0).phaseSet 3).set R.RST_LC_STATE 3 :=
  bootRoots_of_decommission hlc hdef hblown

/-! ### Frames (R128, R129) -/

/-- A READ of one word of the window. -/
theorem mgtRead_word {a : Nat} (hmain : s.pwr.main = .on) (hal : a % 4 = 0) (hin : inWindow a = true) (ha : a < 2 ^ 16) :
    s.mgtRead a 1 true
      = s.mgtDrive (toLE 4 (s.windowWord a) ++ toLE 2 (mgtCrc (frameHead 0x0B a 1 ++ toLE 4 (s.windowWord a)))) := by
  have hwrap : a % 65536 = a := Nat.mod_eq_of_lt ha
  simp [State.mgtRead, State.mainOn, hmain, hal, hin, hwrap]

/-- A WRITE of MGT_ARG with its checksum. -/
theorem mgtWrite_arg {v crc : Nat} (hmain : s.pwr.main = .on) (hv : v < 2 ^ 32) (hcrc : crc < 2 ^ 16)
    (hsum : mgtCrc (frameHead 0x02 4 1 ++ toLE 4 v) = crc) : s.mgtWrite 4 [v] crc true = s.set R.MGT_ARG_ARG v := by
  have hwrap : crc % 65536 = crc := Nat.mod_eq_of_lt hcrc
  have hword : v % 4294967296 = v := Nat.mod_eq_of_lt hv
  simp [State.mgtWrite, State.mainOn, State.windowWrite, hmain, hsum, hwrap, hword]

/-- A WRITE whose checksum is wrong. -/
theorem mgtWrite_of_badCrc {a crc : Nat} {ws : List Nat} (hmain : s.pwr.main = .on) (hal : a % 4 = 0)
    (hsum : mgtCrc (frameHead 0x02 a ws.length ++ ws.flatMap (toLE 4)) ≠ crc % 65536) :
    s.mgtWrite a ws crc true = s.count R.MGT_ERR_CRC := by
  simp [State.mgtWrite, State.mainOn, State.mgtErr, hmain, hal, hsum]

/-! ### Ends (R576) -/

theorem mgtDone_readEvidence {page : Nat} (hmain : s.pwr.main = .on) (h : s.pwr.mgt = some (6, page, 0)) :
    s.mgtDone = (s.setPwr { s.pwr with mgtData := s.evidencePage page }).mgtEnd 0 := by
  simp [State.mgtDone, State.mainOn, h, hmain]

theorem mgtDone_of_failed {code arg st : Nat} (hmain : s.pwr.main = .on) (h : s.pwr.mgt = some (code, arg, st)) (hst : st ≠ 0) :
    s.mgtDone = s.mgtEnd st := by
  simp [State.mgtDone, State.mainOn, h, hmain, hst]

end

/-- Settles O23: each command and frame by the equation of its case above. -/
theorem managementPort : Obligations.ManagementPort := by
  intro s hmain
  have hon {f : State → State} : s.whenOn f = f s := whenOn_of_mainOn (beq_iff_eq.2 hmain)
  refine ⟨fun arg hfree harg => ?_, fun m hfree hm => ?_, fun page hfree hpage => ?_, fun off hfree hoff => ?_,
    fun len hfree hlen => ?_, fun hfree => ?_, fun hfree hphase _ hlc hdef hblown => ?_, fun k hfree hseq hen => ?_,
    fun hfree hseq hdev hen => ?_, fun k _ hseq hen => ?_, fun _ hseq hdev hen => ?_, fun a hal hin ha => ?_,
    fun v crc hv hcrc hsum => ?_, fun a ws crc hal hsum => ?_, ?_, fun page h => ?_, fun code arg st h hst _ => ?_⟩
  · have harg' := get_mgtArg (s := s) (arg := arg) (by omega)
    have := mgtCommand_bootSelect (s := s.set R.MGT_ARG_ARG arg) hmain hfree (harg'.symm ▸ harg)
    rw [harg'] at this
    simp only [exec, execBootSelect, hon, mgtOrder_of_on hmain, this, State.bootSelect]
  · have hexec : exec (.clearAlert m) s = .next (((s.set R.MGT_ARG_ARG m).mgtBusy 5 m 0).alertClear m) := by
      simp only [exec, execClearAlert, hon, mgtOrder_of_on hmain, mgtCommand_clearAlert (s := s.set _ _) hmain hfree,
        get_mgtArg hm]
    refine ⟨_, hexec, ?_, ?_, alertClear_tamper, fun hbit => ?_, ?_⟩
    · rw [alertClear_pwr]
      rfl
    · rw [alertClear_status, mgtBusy_status]
    · rw [alertClear_ready hbit, mgtBusy_get_ne (by decide) (by decide), get_set_ne _ _ _ _ (by decide)]
    · exact congrArg (fun t : State => { t with pwr := s.pwr, regs := s.regs }) (alertClear_frame m)
  · simp only [exec, execReadEvidence, hon, mgtOrder_of_on hmain,
      mgtCommand_readEvidence (s := s.set _ _) hmain hfree, get_mgtArg hpage]
  · simp only [exec, execRecoverData, hon, mgtOrder_of_on hmain,
      mgtCommand_recoverData (s := s.set _ _) hmain hfree, get_mgtArg hoff, get_set_ne s R.MGT_ARG_ARG R.RST_BOOT_PHASE off (by decide)]
  · simp only [exec, execRecoverCommit, hon, mgtOrder_of_on hmain,
      mgtCommand_recoverCommit (s := s.set _ _) hmain hfree, get_mgtArg hlen, get_set_ne s R.MGT_ARG_ARG R.RST_BOOT_PHASE len (by decide)]
  · simp only [exec, execClearErr, hon, mgtCommand_clearErr hmain hfree, State.errClear]
  · have hexec : exec .tamperAck s = .next (s.mgtBusy 4 (s.get R.MGT_ARG_ARG) 0).haltAck := by
      simp only [exec, execTamperAck, hon, mgtCommand_tamperAck hmain hfree hphase]
    rw [haltAck_of_decommission (s := s.mgtBusy _ _ _) hlc hdef hblown] at hexec
    refine ⟨_, hexec, ?_, ?_, ?_, rfl, rfl, rfl⟩
    · simp (disch := decide) [State.phaseSet, get_set_ne]
    · simp (disch := decide) [State.phaseSet, get_set_ne]
    · simp (disch := decide) [State.phaseSet, get_set_ne, R.RST_BOOT_PHASE]
  · have hen' : ((s.mgtBusy 1 (s.get R.MGT_ARG_ARG) 0).get R.PWR_WAKE_EN_EN).testBit 1 = true := by
      rwa [mgtBusy_get_ne (by decide) (by decide)]
    simp only [exec, execWake, hon, mgtCommand_wake hmain hfree, wake_in_entry (s := s.mgtBusy _ _ _) hmain hen' hseq]
    rfl
  · have hen' : ((s.mgtBusy 1 (s.get R.MGT_ARG_ARG) 0).get R.PWR_WAKE_EN_EN).testBit 1 = true := by
      rwa [mgtBusy_get_ne (by decide) (by decide)]
    have hdev' : (s.mgtBusy 1 (s.get R.MGT_ARG_ARG) 0).get R.PWR_STATE_DEV = 3 := by
      rwa [mgtBusy_get_ne (by decide) (by decide)]
    simp only [exec, execWake, hon, mgtCommand_wake hmain hfree, wake_in_deep (s := s.mgtBusy _ _ _) hmain hen' hseq hdev']
    rfl
  · simp only [exec, execNwakeLow, hon, State.nwake, wake_in_entry hmain hen hseq]
    rfl
  · simp only [exec, execNwakeLow, hon, State.nwake, wake_in_deep hmain hen hseq hdev]
    rfl
  · simp only [exec, execMgtRead, hon, mgtRead_word hmain hal hin ha, State.mgtDrive]
  · simp only [exec, execMgtWrite, hon, mgtWrite_arg hmain hv hcrc hsum]
  · simp only [exec, execMgtWrite, hon, mgtWrite_of_badCrc hmain hal hsum]
  · simp only [exec, execMgtQstat, hon, State.mgtQstat, State.mgtDrive, State.mainOn, hmain, beq_self_eq_true, if_true]
  · simp only [exec, execMgtCommandDone, hon, mgtDone_readEvidence hmain h]
    rfl
  · simp only [exec, execMgtCommandDone, hon, mgtDone_of_failed hmain h hst]
    rfl

end Sys2Proof.Machine
end

section
/-!
PROOFS. O54: the ceremony (R522 to R526). Each command has one equation for each of its outcomes.
-/

namespace Sys2Proof.Machine

section
variable {s : State}

/-! ### OPEN and CLOSE (R522, R526) -/

theorem cerOpen_share {n d : Nat} (hidle : s.get R.ICC_CER_STATUS_STATE = 0) (hn : 2 ≤ n ∧ n ≤ 8)
    (hsrk : s.get R.RST_ROOT_SRK_VALID = 0) (hlc : s.get R.RST_LC_STATE = 1 ∨ s.get R.RST_LC_STATE = 2) :
    s.cerOpen 1 n d = ((({ s with cer := { acc := zeros 32, target := 1, n := n, dome := d, last := s.tbase } }.set
      R.ICC_CER_STATUS_STATE 1).set R.ICC_CER_STATUS_GOT 0).cerCode 0) := by
  simp [State.cerOpen, State.cerState, hidle, hn, is_of_get_zero hsrk, hlc]

theorem cerOpen_import {n d : Nat} (hidle : s.get R.ICC_CER_STATUS_STATE = 0) (hn : 2 ≤ n ∧ n ≤ 8) (hd : 1 ≤ d ∧ d ≤ 63)
    (hlc : s.get R.RST_LC_STATE ≠ 3) :
    s.cerOpen 2 n d = ((({ s with cer := { acc := zeros 32, target := 2, n := n, dome := d, last := s.tbase } }.set
      R.ICC_CER_STATUS_STATE 1).set R.ICC_CER_STATUS_GOT 0).cerCode 0) := by
  simp [State.cerOpen, State.cerState, hidle, hn, hd, hlc]

/-- OPEN is refused outside IDLE, for another count than 2 to 8, and in DECOMMISSION (R567). -/
theorem cerOpen_refused {target n d : Nat}
    (h : s.get R.ICC_CER_STATUS_STATE ≠ 0 ∨ n < 2 ∨ 8 < n ∨ s.get R.RST_LC_STATE = 3) :
    s.cerOpen target n d = s.cerCode 0x0710 := by
  refine if_neg fun hok => ?_
  simp only [State.cerState, Bool.and_eq_true, Bool.or_eq_true, beq_iff_eq, bne_iff_ne, decide_eq_true_eq] at hok
  omega

/-- A ceremony that 600 s have passed over is cleared (R526). -/
theorem cerTimeout_expired (hstate : s.get R.ICC_CER_STATUS_STATE ≠ 0)
    (hlate : s.cer.last + 600000000000 + 5 / 8 ≤ s.tbase) : s.cerTimeout = s.cerClear :=
  if_pos ⟨hstate, decide_eq_true hlate⟩

/-! ### COMPONENT (R523) -/

/-- What a COMPONENT command needs of its slot and of the ceremony. -/
structure ComponentReady (s : State) (n : Nat) : Prop where
  present : s.get (R.ICC_STATUS_PRESENT n) = 1
  free : s.get (R.ICC_STATUS_BUSY n) = 0
  alone : (s.iccSlot (1 - n)).cmd ≠ 4
  opened : s.get R.ICC_CER_STATUS_STATE = 1

/-- The combiner asks for its random bytes, and the slot's command runs. -/
theorem iccComponent_asks {n i : Nat} (h : ComponentReady s n) (hi : i ≤ 7)
    (hnew : (s.get R.ICC_CER_STATUS_GOT).testBit i = false) :
    s.iccComponent n i = (({ s with
        ent := { s.ent with reqs := s.ent.reqs ++ [EntReq.comb n] }
        cer := { s.cer with last := s.tbase, slot := n } } : State).iccBusy n 4).updIcc n
      (fun k => { k with phase := .random, comp := i }) := by
  obtain ⟨hpresent, hfree, halone, hopened⟩ := h
  simp [State.iccComponent, State.cerTouch, State.cerRuns, State.cerState, State.cerGot, is_of_get_one hpresent,
    is_of_get_zero hfree, halone, hopened, hnew, Nat.not_lt.2 hi]

/-- A slot reads as it was changed. -/
theorem iccSlot_updIcc (n : Nat) (f : Icc → Icc) : (s.updIcc n f).iccSlot n = f (s.iccSlot n) :=
  tabGet_tabSet_same ({} : Icc) s.icc n (f (s.iccSlot n))

/-- A command that begins is its slot's, which is otherwise as it was. -/
theorem iccSlot_iccBusy (n op : Nat) : (s.iccBusy n op).iccSlot n = { s.iccSlot n with cmd := op } :=
  iccSlot_updIcc n fun k => { k with cmd := op }

/-- A command that begins makes its slot BUSY, and no other field changes. -/
theorem iccBusy_busy (n op : Nat) : (s.iccBusy n op).get (R.ICC_STATUS_BUSY n) = 1 :=
  get_set_same (s.updIcc n fun k => { k with cmd := op }) _ 1

theorem iccBusy_get_ne {n op : Nat} {f : Fld} (h : (R.ICC_STATUS_BUSY n).key ≠ f.key) : (s.iccBusy n op).get f = s.get f :=
  get_set_ne (s.updIcc n fun k => { k with cmd := op }) _ f 1 h

theorem iccComponent_taken {n i : Nat} (h : ComponentReady s n)
    (htaken : 7 < i ∨ (s.get R.ICC_CER_STATUS_GOT).testBit i = true) :
    s.iccComponent n i = s.cerTouch.iccCode n 4 0x0711 0 := by
  obtain ⟨hpresent, hfree, halone, hopened⟩ := h
  simp [State.iccComponent, State.cerRuns, State.cerState, State.cerGot, is_of_get_one hpresent, is_of_get_zero hfree,
    halone, hopened, htaken]

/-! ### FINISH (R524) -/

theorem cerFinish_early
    (h : s.get R.ICC_CER_STATUS_STATE ≠ 1 ∨ (setBits 8 (s.get R.ICC_CER_STATUS_GOT)).length ≠ s.cer.n) :
    s.cerFinish = s.cerCode 0x0710 := if_pos h

section
variable (hopened : s.get R.ICC_CER_STATUS_STATE = 1)
  (hcount : (setBits 8 (s.get R.ICC_CER_STATUS_GOT)).length = s.cer.n)
include hopened hcount

theorem cerFinish_badKcv (hkcv : ofLE (kcv 3 s.cer.acc) ≠ s.get R.ICC_CER_KCV_KCV) :
    s.cerFinish = s.cerClear.cerCode 0x0712 := by
  simp only [State.cerFinish, State.cerState, hopened, hcount, ne_eq, not_true, or_self, if_false, hkcv, not_false_eq_true,
    if_true]

variable (hkcv : ofLE (kcv 3 s.cer.acc) = s.get R.ICC_CER_KCV_KCV)
include hkcv

theorem cerFinish_import (htarget : s.cer.target = 2) :
    s.cerFinish = ({ s with cer := { s.cer with acc := [], importKey := s.cer.acc } }.set
      R.ICC_CER_STATUS_STATE 2).cerCode 0 := by
  simp only [State.cerFinish, State.cerState, hopened, hcount, hkcv, htarget, ne_eq, not_true, or_self, if_false, if_true]

/-- The first share of a device: its check value is written too. -/
theorem cerFinish_firstShare (htarget : s.cer.target = 1) (hsrk : s.flc.srk = none) :
    s.cerFinish = (({ s.cerClear with pwr := { s.pwr with share := s.cer.acc } }.infoAsk
      (.srk (rootCheck s.cer.acc))).rootValid s.cer.acc).cerCode 0 := by
  simp only [State.cerFinish, State.cerState, hopened, hcount, hkcv, htarget, hsrk, ne_eq, not_true, or_self, if_false,
    OfNat.one_ne_ofNat]

/-- A further share must give the check value. -/
theorem cerFinish_share {v : Nat} (htarget : s.cer.target = 1) (hsrk : s.flc.srk = some v) :
    s.cerFinish = if rootCheck s.cer.acc = v then
        (({ s.cerClear with pwr := { s.pwr with share := s.cer.acc } } : State).rootValid s.cer.acc).cerCode 0
      else s.cerClear.cerCode 0x0713 := by
  simp only [State.cerFinish, State.cerState, hopened, hcount, hkcv, htarget, hsrk, ne_eq, not_true, or_self, if_false,
    OfNat.one_ne_ofNat]

end

/-! ### IMPORT (R525) -/

/-- A read that the flash can serve is not held back (R503). -/
theorem afterBank_of_ready {x : Xfer} {a n : Nat} {c : FlUnit} {f : State → State} (h : s.flashWaits a = false) :
    s.afterBank x a n c f = f s := by
  simp [State.afterBank, h]

theorem cerImport_refused
    (h : s.get R.ICC_CER_STATUS_STATE ≠ 2 ∨ s.cmds.any (fun (c : Cmd) => c.job == cerJob) = true) :
    s.cerImport = s.cerTouch.cerCode 0x0710 := if_pos h

/-- The key block of an IMPORT and the state that has read it. -/
def State.keyBlock (s : State) : List Byte × State :=
  s.cerTouch.rd s.cerX (s.get R.ICC_CER_KB_ADDR * 64) (s.get R.ICC_CER_KB_LEN)

/-- The state that has read the key block, and where its result goes. -/
def State.keyBlockRead (s : State) : State :=
  { s.keyBlock.2 with cer := { s.keyBlock.2.cer with out := s.get R.ICC_CER_KB_ADDR * 64 + 0x1000 } }

/-- In COMBINED with no command under way, and once the flash serves the read, the key block goes to the pool of its kind. -/
theorem cerImport_submits (hcombined : s.get R.ICC_CER_STATUS_STATE = 2)
    (hnone : s.cmds.any (fun (c : Cmd) => c.job == cerJob) = false)
    (hready : s.flashWaits (s.get R.ICC_CER_KB_ADDR * 64) = false) :
    s.cerImport = if isPrivateBlock s.keyBlock.1 then
        s.keyBlockRead.cerWrap.2.2.cerSubmit 2 0x30
          [s.keyBlock.1, toLE 2 s.keyBlockRead.cerWrap.1, [], s.keyBlockRead.cerWrap.2.1]
      else s.keyBlockRead.cerSubmit 0 0x38 [s.keyBlock.1] := by
  have hgo : ¬ (s.cerState ≠ 2 ∨ s.cmds.any (fun (c : Cmd) => c.job == cerJob) = true) := by
    simp [State.cerState, hcombined, hnone]
  have hserved : s.cerTouch.flashWaits (s.get R.ICC_CER_KB_ADDR * 64) = false := hready
  rw [State.cerImport, if_neg hgo]
  exact afterBank_of_ready hserved

end

/-- Settles O54: each command by the equation of its outcome above. -/
theorem ceremony : Obligations.Ceremony := by
  intro s hmain coded idle touched x line read
  refine ⟨fun n hruns hidle hn hsrk hlc hkeep => ?_, fun n d hruns hidle hn hd hlc hkeep => ?_,
    fun target n d hruns h hn hkeep => ?_, fun n i hruns hni hpresent hfree halone hopened hnew hkeep => ?_,
    fun n i hruns hni hpresent hfree halone hopened htaken hkeep => ?_, fun hruns h hkeep => ?_,
    fun hruns hopened hcount htarget hkeep => ?_, fun hruns hopened hcount htarget hsrk hkeep => ?_,
    fun v hruns hopened hcount htarget hsrk hkeep => ?_, fun hruns hkeep => ?_, fun hstate hlate => ?_,
    fun hruns h hkeep => ?_, fun hruns hcomb hnone hready hpriv hkeep => ?_,
    fun hruns hcomb hnone hready hpriv hkeep => ?_⟩
  · have hn' : n % 16 = n := Nat.mod_eq_of_lt (by omega)
    simp only [exec, execCerOpen, whenKeep_of_runs hruns hkeep, hn']
    exact congrArg _ (cerOpen_share hidle hn hsrk hlc)
  · have hn' : n % 16 = n := Nat.mod_eq_of_lt (by omega)
    have hd' : d % 64 = d := Nat.mod_eq_of_lt (by omega)
    simp only [exec, execCerOpen, whenKeep_of_runs hruns hkeep, hn', hd']
    exact congrArg _ (cerOpen_import hidle hn hd hlc)
  · simp only [exec, execCerOpen, whenKeep_of_runs hruns hkeep, Nat.mod_eq_of_lt hn]
    exact congrArg _ (cerOpen_refused (by omega))
  · have hn : n % 2 = n := Nat.mod_eq_of_lt hni.1
    have hi : i % 16 = i := Nat.mod_eq_of_lt (by omega)
    simp only [exec, execIccComponent, whenKeep_of_runs hruns hkeep, hn, hi]
    refine ⟨_, congrArg _ (iccComponent_asks ⟨hpresent, hfree, halone, hopened⟩ hni.2 hnew), rfl, ?_, iccBusy_busy n 4, rfl,
      rfl, fun f hf => ?_⟩
    · rw [iccSlot_updIcc, iccSlot_iccBusy]
      rfl
    · exact iccBusy_get_ne fun hkey => hf (hkey ▸ List.mem_singleton_self _)
  · have hn : n % 2 = n := Nat.mod_eq_of_lt hni.1
    simp only [exec, execIccComponent, whenKeep_of_runs hruns hkeep, hn, Nat.mod_eq_of_lt hni.2]
    exact congrArg _ (iccComponent_taken ⟨hpresent, hfree, halone, hopened⟩ htaken)
  · simp only [exec, execCerFinish, whenKeep_of_runs hruns hkeep]
    exact congrArg _ (cerFinish_early h)
  · simp only [exec, execCerFinish, whenKeep_of_runs hruns hkeep]
    split
    · exact congrArg _ (cerFinish_import hopened hcount ‹_› htarget)
    · exact congrArg _ (cerFinish_badKcv hopened hcount ‹_›)
  · simp only [exec, execCerFinish, whenKeep_of_runs hruns hkeep]
    split
    · exact congrArg _ (cerFinish_firstShare hopened hcount ‹_› htarget hsrk)
    · exact congrArg _ (cerFinish_badKcv hopened hcount ‹_›)
  · simp only [exec, execCerFinish, whenKeep_of_runs hruns hkeep]
    by_cases hkcv : ofLE (kcv 3 s.cer.acc) = s.get R.ICC_CER_KCV_KCV
    · rw [if_neg (not_not_intro hkcv)]
      exact congrArg _ (cerFinish_share hopened hcount hkcv htarget hsrk)
    · rw [if_pos hkcv]
      exact congrArg _ (cerFinish_badKcv hopened hcount hkcv)
  · simp only [exec, execCerClose, whenKeep_of_runs hruns hkeep]
    rfl
  · simp only [exec, execCeremonyTimeout, whenOn_of_mainOn hmain]
    exact congrArg _ (cerTimeout_expired hstate hlate)
  · simp only [exec, execCerImport, whenKeep_of_runs hruns hkeep]
    exact congrArg _ (cerImport_refused h)
  · simp only [exec, execCerImport, whenKeep_of_runs hruns hkeep, cerImport_submits hcomb hnone hready]
    have hpriv' : isPrivateBlock s.keyBlock.1 = false := hpriv
    rw [hpriv']
    rfl
  · simp only [exec, execCerImport, whenKeep_of_runs hruns hkeep, cerImport_submits hcomb hnone hready]
    have hpriv' : isPrivateBlock s.keyBlock.1 = true := hpriv
    rw [hpriv']
    rfl

end Sys2Proof.Machine
end

section
/-!
PROOFS. O22 fails: a firing under way keeps admission closed past BOOT_READY (R438), until its step 4 has ended. The statement has
READY open admission without a word of a firing.
-/

namespace Sys2Proof.Machine

section
variable {s : State}

/-- While a firing holds admission closed, nothing opens it. -/
theorem jscOpen_of_closes {f : Firing} (hrun : s.tmp.run = some f) (hcloses : f.closes = true) : s.jscOpen = s :=
  if_neg fun h => by simpa [hrun, hcloses] using h.2

/-- BOOT_READY under such a firing, on a device without a role in a federation, leaves admission as it is. -/
theorem bootReady_of_closes {f : Firing} (hphase : s.get R.RST_BOOT_PHASE = 10) (hseq : s.pwr.seq = .none)
    (hlinks : s.linksUp = true) (hrole : fld s.fed.section_ 0 1 = 0) (hdef : s.defect 10 = false)
    (hrun : s.tmp.run = some f) (hcloses : f.closes = true) :
    s.bootReady.get R.JSC_STATUS_OPEN = s.get R.JSC_STATUS_OPEN := by
  have hshut : (((s.set R.CLK_LOCK_SER0 1).set R.CLK_LOCK_SER1 1).phaseSet 12).jscOpen
      = ((s.set R.CLK_LOCK_SER0 1).set R.CLK_LOCK_SER1 1).phaseSet 12 := jscOpen_of_closes hrun hcloses
  have hready : s.bootReady
      = ((((s.set R.CLK_LOCK_SER0 1).set R.CLK_LOCK_SER1 1).phaseSet 12).set R.MGT_ALERT_READY 1).fedStart := by
    simp only [State.bootReady, hphase, hdef, hseq, hlinks, Bool.false_eq_true, and_false, if_false, and_self, if_true,
      hshut]
  simp (disch := decide) [hready, State.fedStart, State.phaseSet, hrole, get_set_ne]

end

/-- Boot step 10 of a device in lifecycle state 2, its tamper handling live: LIGHT waits for its firing, with KEYCACHE, ALERT and LOG
in its mask. -/
def tamperAtStepTen : State :=
  (({ State.reset with pwr := { main := .on }, tmp := { live := true, queue := [{ src := 7 }] } }.set R.RST_BOOT_PHASE 10).set
    R.RST_LC_STATE 2).set (R.TMP_MASK_MASK 7) 0x13

/-- The firing begins with its break (step 1 of R438), and steps 2 to 8 are still to come. -/
theorem tamperAtStepTen_fires :
    ∃ s, exec (.tamperFiring { events := 1, steps := 1 }) tamperAtStepTen = .next s
      ∧ (s.spiresRun = true ∧ s.get R.RST_BOOT_PHASE = 10 ∧ s.pwr.seq = .none ∧ s.linksUp = true ∧ fld s.fed.section_ 0 1 = 0
        ∧ s.pwr.hold = false ∧ s.get R.RST_LC_STATE = 2 ∧ s.defect 10 = false)
      ∧ s.get R.JSC_STATUS_OPEN = 0
      ∧ ∃ f, s.tmp.run = some f ∧ f.closes = true :=
  ⟨_, rfl, by decide +kernel, by decide +kernel, _, rfl, by decide +kernel⟩

/-- Refutes O22: its clause on BOOT_READY has admission open in the end, yet it stays closed in the state that the firing of
`tamperAtStepTen` has begun, which meets every premise of the clause. -/
theorem not_resetAndBoot : ¬ Obligations.ResetAndBoot := by
  intro h
  obtain ⟨s, -, ⟨hruns, hphase, hseq, hlinks, hrole, hhold, hlc, hdef⟩, hclosed, f, hrun, hcloses⟩ := tamperAtStepTen_fires
  obtain ⟨-, -, -, -, hready, -⟩ := h s hruns
  have hmain : s.mainOn = true := by
    simp only [State.spiresRun, Bool.and_eq_true] at hruns
    exact hruns.1.1
  have hexec : exec .bootReady s = .next s.bootReady := by
    simp only [exec, execBootReady, whenOn_of_mainOn hmain]
  have hstays := bootReady_of_closes hphase hseq hlinks hrole hdef hrun hcloses
  have hopens := Host.Outcome.next.inj (hexec.symm.trans (hready hphase hseq hlinks hrole hhold hlc hdef))
  rw [hopens, hclosed, setFed_get, get_set_ne _ _ _ _ (by decide), get_set_ne _ _ _ _ (by decide), get_set_same] at hstays
  exact absurd hstays (by decide)

end Sys2Proof.Machine
end

section
/-!
PROOFS. O24 fails: STB_RAISE_DONE writes the record of a raise if it still waits, and only such a record waits for the keep
operation of the flash (R502). One that INFO_RECORD_WRITE has written already ends the raise (R154) under a keep operation begun
since. The statement has the command change nothing under any.
-/

namespace Sys2Proof.Machine

section
variable {s : State} {w : InfoW}

/-- A record that does not wait is not written again. -/
theorem infoFinish_of_written (hwritten : w ∉ s.flc.info) : s.infoFinish w = s :=
  if_pos (.inr (by simpa using hwritten))

/-- A raise of the whole minimum whose record is written ends, whatever the flash does. -/
theorem raiseDone_of_written {v : Nat} {rs : List (Option Nat × Nat)} (hraise : s.stb.raise = (none, v) :: rs)
    (hwritten : .minWhole v ∉ s.flc.info) :
    s.raiseDone = ((s.set R.STB_MINVER_MIN v).setStb { s.stb with raise := rs }).stbBusy := by
  simp [State.raiseDone, hraise, infoFinish_of_written hwritten, hwritten]

/-- The minimum is then the version raised to. -/
theorem raiseDone_of_written_minimum {v : Nat} {rs : List (Option Nat × Nat)} (hraise : s.stb.raise = (none, v) :: rs)
    (hwritten : .minWhole v ∉ s.flc.info) :
    s.raiseDone.get R.STB_MINVER_MIN = v % 2 ^ R.STB_MINVER_MIN.wd := by
  rw [raiseDone_of_written hraise hwritten, State.stbBusy, State.setB, get_set_ne _ _ _ _ (by decide), setStb_get, get_set_same]

end

/-- Main power on, the flash's ledger scanned (R507), and a structure of version 9 in effect over a minimum of 0. -/
def versionNine : State :=
  ({ State.reset with pwr := { main := .on } }.set R.FLC_STATUS_SCANNED 1).set R.STB_VERSION_VERSION 9

/-- The raise of its minimum is asked for, its record is written, and the keep begins a BLANK_CHECK before the raise ends. -/
theorem versionNine_raise_record_blankCheck :
    ∃ s₁ s₂ s, exec .stbRaiseWhole versionNine = .next s₁ ∧ exec .infoRecordWrite s₁ = .next s₂ ∧ exec .blankCheck s₂ = .next s
      ∧ s.spiresRun = true ∧ s.stb.app = none ∧ s.flc.op.isSome = true
      ∧ s.stb.raise = [(none, 9)] ∧ s.flc.info = [] ∧ s.get R.STB_MINVER_MIN = 0 :=
  ⟨_, _, _, rfl, rfl, rfl, by decide +kernel⟩

/-- Refutes O24: its clause on STB_RAISE_DONE under a keep operation of the flash has nothing change, yet at the end of the run
of `versionNine` the minimum rises from 0 to 9. -/
theorem not_structureCommands : ¬ Obligations.StructureCommands := by
  intro h
  obtain ⟨-, -, s, -, -, -, hruns, happ, hop, hraise, hinfo, hmin⟩ := versionNine_raise_record_blankCheck
  obtain ⟨-, -, -, -, -, -, -, -, -, hunchanged, -⟩ := h s hruns
  have hexec : exec .stbRaiseDone s = .next s.raiseDone := by
    simp only [exec, execStbRaiseDone, State.whenRuns, hruns, if_true]
  have hsame : s.raiseDone = s := Host.Outcome.next.inj (hexec.symm.trans (hunchanged happ hop))
  have hraised := raiseDone_of_written_minimum hraise (by simp [hinfo])
  rw [hsame, hmin] at hraised
  exact absurd hraised (by decide)

end Sys2Proof.Machine
end

section
/-!
PROOFS. O18 fails: it takes any job for one that core c runs, and the core that the job names need not be c, nor one of the 512 of
the device. When the job ends, the spire of the core that it names settles, and for a spire number that no device has the field
PWR_SPIRE_STATE.S lies where JSC_HFAULT.COUNT is. The statement does not ask that a run from reset
lead to the state.
-/

namespace Sys2Proof.Machine

/-- A job that names a core of spire 8,391,680, whose PWR_SPIRE_STATE.S has the key of JSC_HFAULT.COUNT. -/
def strayJob : Job :=
  { id := 1, cls := 0, handler := 3, jobnum := 9, session := 1, dome := 2, epoch := 1, core := some (16 * 8391680), st := .running
    h := { wcet := 1000 } }

/-- Core 0 runs the job and is about to issue EXIT with the status 0x100, which no handler may exit with; the ceiling lets idle
spires enter DOZE. -/
def strayExit : State :=
  (({ State.reset with
      pwr := { main := .on }
      cores := [(0, { phase := .running, job := some 1, regs := [(1, 0x100#32)] })]
      jsc := { jobs := [strayJob] } } : State).set R.PWR_CEIL_CEIL 1).putBytes
    (coreAddr 0 0x20000) (toLE 4 (encodeCore (.exit 1 2)))

theorem strayExit_issues : strayExit.issues 0 strayJob (.exit 1 2) := by
  unfold State.issues
  decide +kernel

/-- The first HANDLER_FAULT is counted on top of the 3 that the entry of the spire into DOZE has written. -/
theorem strayExit_exit : ∃ t, exec (.exit 0 1 2) strayExit = .next t ∧ t.get R.JSC_HFAULT_COUNT = 4 :=
  ⟨_, rfl, by decide +kernel⟩

/-- Refutes O18: its clause on an EXIT with a forbidden status has JSC_HFAULT count one more, 1 after the 0 of `strayExit`, yet it
reads 4 there. -/
theorem not_systemInstructions : ¬ Obligations.SystemInstructions := by
  intro h
  obtain ⟨-, -, -, -, -, -, -, -, -, hforbidden⟩ := h strayExit 0 1 2 0 0 0 strayJob (by decide) (by decide)
  obtain ⟨t, ht, -, -, -, -, -, hclosed, -⟩ := hforbidden strayExit_issues (by decide +kernel) (by decide +kernel)
  obtain ⟨-, hcount, -⟩ := hclosed (by decide +kernel)
  obtain ⟨u, hu, hfour⟩ := strayExit_exit
  cases ht.symm.trans hu
  have hone : satInc 32 (strayExit.get R.JSC_HFAULT_COUNT) = 1 := by decide +kernel
  rw [hfour, hone] at hcount
  exact absurd hcount (by decide)

end Sys2Proof.Machine
end

section
/-!
PROOFS. What a transfer that a unit issues leaves as it was (R33 to R36): the scheduler, the journal unit, and every register of
the JRN block. Whatever target serves it, it counts and reports in registers below that block.
-/

namespace Sys2Proof.Machine

/-- From `s` to `t` the scheduler and the journal unit are as they were, and so is every register from the JRN block on. -/
structure State.SparesJournal (s t : State) : Prop where
  jsc : t.jsc = s.jsc
  jrn : t.jrn = s.jrn
  get : ∀ f : Fld, R.JRN_CTRL_OPEN.key ≤ f.key → t.get f = s.get f

namespace State.SparesJournal

variable {s t u : State}

theorem refl (s : State) : s.SparesJournal s := ⟨rfl, rfl, fun _ _ => rfl⟩

/-- An update of another part of the state than the scheduler, the journal unit and the registers. -/
theorem of_parts (h : s.SparesJournal t) (ejsc : u.jsc = t.jsc := by rfl) (ejrn : u.jrn = t.jrn := by rfl)
    (eregs : u.regs = t.regs := by rfl) : s.SparesJournal u :=
  ⟨ejsc.trans h.jsc, ejrn.trans h.jrn, fun f hf => (by simp only [State.get, eregs] : u.get f = t.get f).trans (h.get f hf)⟩

/-- A write of a register below the JRN block. -/
theorem set {f : Fld} {v : Nat} (h : s.SparesJournal t) (hf : f.key < R.JRN_CTRL_OPEN.key := by decide) :
    s.SparesJournal (t.set f v) :=
  ⟨h.jsc, h.jrn, fun g hg => (get_set_ne t f g v (Nat.ne_of_lt (Nat.lt_of_lt_of_le hf hg))).trans (h.get g hg)⟩

/-! ### The branches of a definition -/

theorem ite {c : Prop} [Decidable c] (ht : s.SparesJournal t) (hu : s.SparesJournal u) :
    s.SparesJournal (if c then t else u) := by
  split
  · exact ht
  · exact hu

theorem iteSnd {α : Type} {c : Prop} [Decidable c] {p q : α × State} (hp : s.SparesJournal p.2) (hq : s.SparesJournal q.2) :
    s.SparesJournal (if c then p else q).2 := by
  split
  · exact hp
  · exact hq

theorem iteSnd₂ {α β : Type} {c : Prop} [Decidable c] {p q : α × β × State} (hp : s.SparesJournal p.2.2)
    (hq : s.SparesJournal q.2.2) : s.SparesJournal (if c then p else q).2.2 := by
  split
  · exact hp
  · exact hq

theorem foldlSnd {α β : Type} {f : β × State → α → β × State} {l : List α} {p : β × State} (h : s.SparesJournal p.2)
    (hf : ∀ {q a}, s.SparesJournal q.2 → s.SparesJournal (f q a).2) : s.SparesJournal (l.foldl f p).2 := by
  induction l generalizing p with
  | nil => exact h
  | cons a l ih => exact ih (hf h)

/-! ### Named updates -/

theorem count {f : Fld} (h : s.SparesJournal t) (hf : f.key < R.JRN_CTRL_OPEN.key := by decide) :
    s.SparesJournal (t.count f) := h.set hf

theorem next {f : Fld} (h : s.SparesJournal t) (hf : f.key < R.JRN_CTRL_OPEN.key := by decide) :
    s.SparesJournal (t.next f) := h.set hf

theorem raise {v : Nat} (h : s.SparesJournal t) : s.SparesJournal (t.raise v) := h.of_parts

theorem report {m : FaultMsg} (h : s.SparesJournal t) : s.SparesJournal (t.report m) := h.of_parts

theorem putBytes {a : Nat} {bs : List Byte} (h : s.SparesJournal t) : s.SparesJournal (t.putBytes a bs) := by
  rw [putBytes_eq_mem]
  exact h.of_parts

/-- A tamper source's registers are of the TMP block. -/
theorem tamper {n detail : Nat} (h : s.SparesJournal t) (hn : n ≤ 16 := by decide) : s.SparesJournal (t.tamper n detail) := by
  have hfirst : (R.TMP_FIRST_TS_TICKS n).key < R.JRN_CTRL_OPEN.key := by
    simp only [Fld.key, R.TMP_FIRST_TS_TICKS, R.JRN_CTRL_OPEN]
    omega
  have hcount : (R.TMP_COUNT_COUNT n).key < R.JRN_CTRL_OPEN.key := by
    simp only [Fld.key, R.TMP_COUNT_COUNT, R.JRN_CTRL_OPEN]
    omega
  have hmarked (v w : Nat) : s.SparesJournal
      (((if (t.get R.TMP_FLAGS_FLAG).testBit n then t else t.set (R.TMP_FIRST_TS_TICKS n) v).set R.TMP_FLAGS_FLAG w).count
        (R.TMP_COUNT_COUNT n)) := (ite h (h.set hfirst)).set.count hcount
  exact .ite (hmarked _ _).of_parts (hmarked _ _).of_parts.set

/-! ### DDR lines (R285, R286) -/

theorem setLine {line v : Nat} (h : s.SparesJournal t) : s.SparesJournal (t.setLine line v) := h.of_parts

theorem lineUe {line agent dom : Nat} (h : s.SparesJournal t) : s.SparesJournal (t.lineUe line agent dom) :=
  .report (.ite h.count h.count.set.set.raise)

theorem lineTag {line : Nat} (h : s.SparesJournal t) : s.SparesJournal (t.lineTag line) := h.count.tamper

theorem readLine {line agent dom : Nat} (h : s.SparesJournal t) : s.SparesJournal (t.readLine line agent dom).2.2 := by
  unfold State.readLine
  split
  · exact h
  · exact h.count.setLine
  · exact h.lineUe
  · exact h.lineTag

theorem readDdr {agent dom a n k : Nat} (h : s.SparesJournal t) : s.SparesJournal (t.readDdr agent dom a n k).2.2 := by
  induction k generalizing t a n with
  | zero => exact h
  | succ k ih => exact .iteSnd₂ h (ih h.readLine)

theorem writeLine {a agent dom : Nat} {bs : List Byte} (h : s.SparesJournal t) :
    s.SparesJournal (t.writeLine a bs agent dom) :=
  .ite h.putBytes.setLine (.ite h.readLine h.readLine.putBytes)

theorem writeDdr {agent dom a k : Nat} {bs : List Byte} (h : s.SparesJournal t) :
    s.SparesJournal (t.writeDdr agent dom a bs k) := by
  induction k generalizing t a bs with
  | zero => exact h
  | succ k ih => exact .ite h (ih h.writeLine)

/-! ### Register blocks (R15, R16) -/

theorem readEffect {a : Nat} {low high : Bool} (h : s.SparesJournal t) : s.SparesJournal (t.readEffect a low high) :=
  .ite h.of_parts (.ite h.of_parts.set.set h)

theorem regRead {agent a n : Nat} {r : Nat × State} (h : s.SparesJournal t) (e : t.regRead agent a n = some r) :
    s.SparesJournal r.2 := by
  unfold State.regRead at e
  split at e
  · cases e; exact h
  · cases e; exact h.readEffect
  · cases e; exact h.of_parts.readEffect
  · cases e; exact h.of_parts.readEffect
  · cases e

theorem violation {x : Xfer} {type a : Nat} (h : s.SparesJournal t) : s.SparesJournal (t.violation x type a) := h.report

theorem regServe {x : Xfer} {type a n : Nat} {data : List Byte} (h : s.SparesJournal t) :
    s.SparesJournal (t.regServe x type a n data).2 := by
  unfold State.regServe
  refine .iteSnd ?_ (.iteSnd (.ite h h.violation) ?_)
  · split
    · exact h.of_parts
    · exact h.of_parts
    · exact h.violation
  · split
    next e => exact h.regRead e
    next => exact h.violation

/-! ### Flash (R495 to R497, R503) -/

theorem withFlc {k : Flc} (h : s.SparesJournal t) : s.SparesJournal { t with flc := k } := h.of_parts

theorem flcEvent {v : Nat} (h : s.SparesJournal t) : s.SparesJournal (t.flcEvent v) := h.set.raise

theorem flashLine {line : Nat} (h : s.SparesJournal t) : s.SparesJournal (t.flashLine line).2 := by
  unfold State.flashLine
  dsimp only
  split
  · exact h
  · exact .flcEvent (.ite h.count h.count.set.set)
  · exact .iteSnd h.next (.flcEvent (.ite h.next.count h.next.count.set.set))

theorem flashTouch {a : Nat} (h : s.SparesJournal t) : s.SparesJournal (t.flashTouch a) := by
  unfold State.flashTouch
  split
  · exact h
  · exact .ite h (.ite h.of_parts h.of_parts.set.next)

theorem flashLines {a n k : Nat} (h : s.SparesJournal t) : s.SparesJournal (t.flashLines a n k).2 := by
  induction k generalizing t a n with
  | zero => exact h
  | succ k ih => exact .iteSnd h (ih h.flashLine)

theorem fetchMiss {line : Nat} (h : s.SparesJournal t) : s.SparesJournal (t.fetchMiss line).2 := by
  unfold State.fetchMiss
  exact withFlc (foldlSnd h.flashTouch.flashLine fun h' => h'.flashLine)

theorem fetchLine {line : Nat} (h : s.SparesJournal t) : s.SparesJournal (t.fetchLine line).2 := by
  have hread : s.SparesJournal (match t.fetchHit line with | some b => (b, t) | none => t.fetchMiss line).2 := by
    split
    · exact h
    · exact h.fetchMiss
  exact hread.of_parts

theorem fetchFlash {a n k : Nat} (h : s.SparesJournal t) : s.SparesJournal (t.fetchFlash a n k).2 := by
  induction k generalizing t a n with
  | zero => exact h
  | succ k ih => exact .iteSnd h (ih h.fetchLine)

/-! ### A transfer on the bus (R33 to R36) -/

theorem unitServe {x : Xfer} {type a n : Nat} {data : List Byte} (h : s.SparesJournal t) :
    s.SparesJournal (t.unitServe x type a n data).2.2 :=
  .iteSnd₂ h.regServe (.iteSnd₂ (.ite h.writeDdr (.ite h.count h.putBytes))
    (.iteSnd₂ h.readDdr (.iteSnd₂ (.iteSnd h.fetchFlash h.flashTouch.flashLines) h)))

theorem busFail {side : Nat} (h : s.SparesJournal t) : s.SparesJournal (t.busFail side) := h.tamper

theorem busTake {agent : Nat} (h : s.SparesJournal t) : s.SparesJournal (t.busTake agent).2 := by
  unfold State.busTake
  split
  · exact h
  · exact h.of_parts

/-- A target serves the transfer, a disturbed one with what arrives, or the check that fails is a tamper. -/
theorem crossed {x : Xfer} {type a n : Nat} {data : List Byte} {e : Option BusErr}
    {serve : State → Nat → Nat → Nat → List Byte → List Byte × Nat × State} (h : s.SparesJournal t)
    (hserve : ∀ {type a n data}, s.SparesJournal (serve t type a n data).2.2) :
    s.SparesJournal (t.crossed x type a n data e serve).2.2 := by
  unfold State.crossed
  split
  · exact hserve
  · refine .iteSnd₂ ?_ (.iteSnd₂ (.iteSnd₂ ?_ (.ite hserve hserve.busFail)) ?_)
    · split
      · exact h.busFail
      · exact hserve
    · split
      · exact h.busFail
      · exact hserve
    · dsimp only
      split
      · exact hserve.busFail
      · exact hserve

theorem issue {x : Xfer} {type a n : Nat} {data : List Byte} (h : s.SparesJournal t) :
    s.SparesJournal (t.issue x type a n data).2.2 := by
  unfold State.issue
  refine .iteSnd₂ h ?_
  split
  · exact h.violation
  · exact h.busTake.crossed h.busTake.unitServe

end State.SparesJournal

/-- A unit's WRITE. -/
theorem State.wr_sparesJournal (s : State) (x : Xfer) (a : Nat) (bs : List Byte) : s.SparesJournal (s.wr x a bs) :=
  (State.SparesJournal.refl s).issue

end Sys2Proof.Machine
end

section
/-!
PROOFS. O26: the journal (R196 to R202). Each of its operations by what it does to the journal unit and to the registers of its
block; what a record's writing leaves to other units is `State.SparesJournal`.
-/

namespace Sys2Proof.Machine

variable {s : State} {rec_ : List Byte}

/-! ### JRN_FREE (R196, R206) -/

theorem ite_raise_twice {c d : Prop} [Decidable c] [Decidable d] (v w : Nat) :
    ∃ irq, (if c then (if d then s.raise v else s).raise w else if d then s.raise v else s) = { s with irq := irq } := by
  split <;> split <;> exact ⟨_, rfl⟩

/-- Two fields and vectors change. -/
theorem jrnFree_eq : ∃ n b irq,
    s.jrnFree = { (s.set R.JRN_FREE_POSITIONS n).setB R.JRN_STATUS_FULL b with irq := irq } :=
  ⟨_, _, ite_raise_twice _ _⟩

@[simp] theorem jrnFree_jsc : s.jrnFree.jsc = s.jsc := by
  obtain ⟨n, b, irq, h⟩ := jrnFree_eq (s := s)
  rw [h]
  rfl

@[simp] theorem jrnFree_jrn : s.jrnFree.jrn = s.jrn := by
  obtain ⟨n, b, irq, h⟩ := jrnFree_eq (s := s)
  rw [h]
  rfl

theorem jrnFree_get {f : Fld} (hfree : R.JRN_FREE_POSITIONS.key ≠ f.key) (hfull : R.JRN_STATUS_FULL.key ≠ f.key) :
    s.jrnFree.get f = s.get f := by
  obtain ⟨n, b, irq, h⟩ := jrnFree_eq (s := s)
  rw [h]
  exact (get_set_ne _ _ _ _ hfull).trans (get_set_ne _ _ _ _ hfree)

/-! ### Records (R197) -/

@[simp] theorem jrnWrite_jsc : (s.jrnWrite rec_).jsc = s.jsc := (s.wr_sparesJournal _ _ _).jsc

/-- A record's writing moves the position. -/
theorem jrnWrite_jrn : (s.jrnWrite rec_).jrn = { s.jrn with pos := (s.jrn.pos + 1) % max 1 s.jrnSize } := by
  have hwr := (s.wr_sparesJournal s.jrnX (s.get R.JRN_BASE_ADDR + 128 * s.jrn.pos) rec_).jrn
  simp only [State.jrnWrite, State.next, setJrn_jrn, set_jrn, hwr]

theorem jrnWrite_nextSeq : (s.jrnWrite rec_).get R.JRN_NEXT_SEQ_SEQ = (s.get R.JRN_NEXT_SEQ_SEQ + 1) % 2 ^ 64 := by
  have hwr := (s.wr_sparesJournal s.jrnX (s.get R.JRN_BASE_ADDR + 128 * s.jrn.pos) rec_).get R.JRN_NEXT_SEQ_SEQ (by decide)
  rw [State.jrnWrite, setJrn_get, State.next, get_set_same, hwr]
  rfl

theorem jrnWrite_get {f : Fld} (hf : R.JRN_CTRL_OPEN.key ≤ f.key) (hseq : R.JRN_NEXT_SEQ_SEQ.key ≠ f.key) :
    (s.jrnWrite rec_).get f = s.get f := by
  rw [State.jrnWrite, setJrn_get, State.next, get_set_ne _ _ _ _ hseq]
  exact (s.wr_sparesJournal _ _ _).get f hf

/-! ### Eight words -/

/-- Eight words written one after the other change registers alone, and none but theirs. -/
theorem setWords8_spares {w : Nat → Fld} {bs : List Byte} :
    (s.setWords8 w bs).jsc = s.jsc ∧ (s.setWords8 w bs).jrn = s.jrn
      ∧ ∀ f : Fld, (∀ i, i < 8 → (w i).key ≠ f.key) → (s.setWords8 w bs).get f = s.get f := by
  have hfold (l : List Nat) (t : State) : (∀ i ∈ l, i < 8) →
      let u := l.foldl (fun t i => t.set (w i) (fld bs (4 * i) 4)) t
      u.jsc = t.jsc ∧ u.jrn = t.jrn ∧ ∀ f : Fld, (∀ i, i < 8 → (w i).key ≠ f.key) → u.get f = t.get f := by
    induction l generalizing t with
    | nil => exact fun _ => ⟨rfl, rfl, fun _ _ => rfl⟩
    | cons i l ih =>
      intro hl
      obtain ⟨hjsc, hjrn, hget⟩ := ih (t.set (w i) (fld bs (4 * i) 4)) fun k hk => hl k (.tail _ hk)
      exact ⟨hjsc, hjrn, fun f hf => (hget f hf).trans (get_set_ne _ _ _ _ (hf i (hl i (.head _))))⟩
  exact hfold (List.range 8) s fun i hi => List.mem_range.1 hi

/-! ### Blocks (R199) -/

/-- A register of the JRN block that neither a record nor a block's end changes. -/
abbrev Fld.offRecord (f : Fld) : Prop :=
  R.JRN_CTRL_OPEN.key ≤ f.key ∧ R.JRN_NEXT_SEQ_SEQ.key ≠ f.key ∧ R.JRN_FREE_POSITIONS.key ≠ f.key
    ∧ R.JRN_STATUS_FULL.key ≠ f.key ∧ ∀ i, i < 8 → (R.JRN_CHAIN_WORD i).key ≠ f.key

/-- A block that holds records closes by a BLOCK record, and none is open then. -/
theorem jrnClose_eq (hopen : s.jrn.block ≠ []) : ∃ b chain j, j.block = [] ∧ j.lastBlk = s.get R.JRN_NEXT_SEQ_SEQ + 1
    ∧ s.jrnClose = (((s.jrnWrite b).setWords8 R.JRN_CHAIN_WORD chain).setJrn j).jrnFree :=
  ⟨_, _, _, rfl, rfl, if_neg (by simpa using hopen)⟩

theorem jrnClose_of_empty (hempty : s.jrn.block = []) : s.jrnClose = s := if_pos (by simp [hempty])

@[simp] theorem jrnClose_jsc : s.jrnClose.jsc = s.jsc := by
  by_cases hempty : s.jrn.block = []
  · rw [jrnClose_of_empty hempty]
  · obtain ⟨b, chain, j, -, -, h⟩ := jrnClose_eq hempty
    rw [h, jrnFree_jsc, setJrn_jsc, setWords8_spares.1, jrnWrite_jsc]

theorem jrnClose_get {f : Fld} (hf : f.offRecord) : s.jrnClose.get f = s.get f := by
  obtain ⟨hblock, hseq, hfree, hfull, hchain⟩ := hf
  by_cases hempty : s.jrn.block = []
  · rw [jrnClose_of_empty hempty]
  · obtain ⟨b, chain, j, -, -, h⟩ := jrnClose_eq hempty
    rw [h, jrnFree_get hfree hfull, setJrn_get, setWords8_spares.2.2 f hchain, jrnWrite_get hblock hseq]

theorem jrnClose_nextSeq (hopen : s.jrn.block ≠ []) :
    s.jrnClose.get R.JRN_NEXT_SEQ_SEQ = (s.get R.JRN_NEXT_SEQ_SEQ + 1) % 2 ^ 64 := by
  obtain ⟨b, chain, j, -, -, h⟩ := jrnClose_eq hopen
  rw [h, jrnFree_get (by decide) (by decide), setJrn_get, setWords8_spares.2.2 _ (by decide), jrnWrite_nextSeq]

/-- A record joins the open block, which closes if that fills it. -/
theorem jrnAdd_eq (isJob : Bool) : ∃ j : Jrn, j.block = s.jrn.block ++ [rec_]
    ∧ j.jobRecs = s.jrn.jobRecs + (if isJob then 1 else 0)
    ∧ s.jrnAdd rec_ isJob = if j.block.length = 64 then ((s.jrnWrite rec_).setJrn j).jrnClose
        else ((s.jrnWrite rec_).setJrn j).jrnFree := by
  refine ⟨_, ?_, ?_, rfl⟩ <;> simp only [setJrn_jrn, jrnWrite_jrn]

@[simp] theorem jrnAdd_jsc {isJob : Bool} : (s.jrnAdd rec_ isJob).jsc = s.jsc := by
  obtain ⟨j, -, -, h⟩ := jrnAdd_eq (s := s) (rec_ := rec_) isJob
  rw [h]
  split <;> simp

theorem jrnAdd_get {isJob : Bool} {f : Fld} (hf : f.offRecord) : (s.jrnAdd rec_ isJob).get f = s.get f := by
  obtain ⟨j, -, -, h⟩ := jrnAdd_eq (s := s) (rec_ := rec_) isJob
  obtain ⟨hblock, hseq, hfree, hfull, -⟩ := id hf
  rw [h]
  split
  · rw [jrnClose_get hf, setJrn_get, jrnWrite_get hblock hseq]
  · rw [jrnFree_get hfree hfull, setJrn_get, jrnWrite_get hblock hseq]

/-- The first record of a block is alone in it. -/
theorem jrnAdd_of_empty (hempty : s.jrn.block = []) : (s.jrnAdd rec_ false).jrn.block = [rec_]
    ∧ (s.jrnAdd rec_ false).jrn.jobRecs = s.jrn.jobRecs
    ∧ (s.jrnAdd rec_ false).get R.JRN_NEXT_SEQ_SEQ = (s.get R.JRN_NEXT_SEQ_SEQ + 1) % 2 ^ 64 := by
  obtain ⟨j, hblock, hrecs, h⟩ := jrnAdd_eq (s := s) (rec_ := rec_) false
  rw [hempty, List.nil_append] at hblock
  rw [h, if_neg (by simp [hblock]), jrnFree_jrn, setJrn_jrn, jrnFree_get (by decide) (by decide), setJrn_get, jrnWrite_nextSeq]
  exact ⟨hblock, hrecs, rfl⟩

/-! ### Opening (R196, R200) -/

/-- The journal as it opens without a seal to go on from, before its GENESIS record. -/
def State.jrnBegun (s : State) : State :=
  (((s.set R.JRN_STATUS_OPEN 1).set R.JRN_NEXT_SEQ_SEQ 0).set R.JRN_EXPORT_SEQ (2 ^ 64 - 1)).setJrn { prev := zeros 32 }

@[simp] theorem jrnBegun_jsc : s.jrnBegun.jsc = s.jsc := rfl

theorem jrnBegun_jrn : s.jrnBegun.jrn = { prev := zeros 32 } := rfl

theorem jrnBegun_open : s.jrnBegun.get R.JRN_STATUS_OPEN = 1 := by
  rw [State.jrnBegun, setJrn_get, get_set_ne _ _ _ _ (by decide), get_set_ne _ _ _ _ (by decide), get_set_same]
  rfl

theorem jrnBegun_nextSeq : s.jrnBegun.get R.JRN_NEXT_SEQ_SEQ = 0 := by
  rw [State.jrnBegun, setJrn_get, get_set_ne _ _ _ _ (by decide), get_set_same]
  rfl

theorem jrnBegun_export : s.jrnBegun.get R.JRN_EXPORT_SEQ = 2 ^ 64 - 1 := by
  rw [State.jrnBegun, setJrn_get, get_set_same]
  rfl

section
variable (hopen : s.get R.JRN_STATUS_OPEN = 0) (hsealed : s.get R.JRN_STATUS_SEALED = 0)
  (hmin : 1 ≤ s.get R.JRN_SIZE_UNITS) (hmax : s.get R.JRN_SIZE_UNITS ≤ 32768) (hvalid : s.get R.JRN_SEAL_INFO_VALID = 0)
include hopen hsealed hmin hmax hvalid

theorem jrnOpen_eq : ∃ g, s.jrnOpen = (s.jrnBegun.jrnFree.jrnAdd g false).set R.JRN_SEAL_INFO_VALID 0 := by
  have hgo : ¬ (s.is R.JRN_STATUS_OPEN = true ∨ s.is R.JRN_STATUS_SEALED = true ∨ s.get R.JRN_SIZE_UNITS < 1
      ∨ 32768 < s.get R.JRN_SIZE_UNITS) := by
    simp only [is_of_get_zero hopen, is_of_get_zero hsealed, Bool.false_eq_true, false_or]
    omega
  unfold State.jrnOpen
  simp only [if_neg hgo, is_of_get_zero hvalid, Bool.false_eq_true, if_false, if_true]
  exact ⟨_, rfl⟩

/-- The journal is open with its GENESIS record, of SEQ 0, written and nothing exported. -/
theorem jrnOpen_genesis : s.jrnOpen.get R.JRN_STATUS_OPEN = 1 ∧ s.jrnOpen.get R.JRN_NEXT_SEQ_SEQ = 1
    ∧ s.jrnOpen.get R.JRN_EXPORT_SEQ = 2 ^ 64 - 1 ∧ s.jrnOpen.jrn.block.length = 1 ∧ s.jrnOpen.jrn.jobRecs = 0
    ∧ s.jrnOpen.jsc = s.jsc := by
  obtain ⟨g, hg⟩ := jrnOpen_eq hopen hsealed hmin hmax hvalid
  obtain ⟨hblock, hrecs, hnext⟩ := jrnAdd_of_empty (rec_ := g) (s := s.jrnBegun.jrnFree) (by rw [jrnFree_jrn, jrnBegun_jrn])
  rw [hg]
  refine ⟨?_, ?_, ?_, ?_, ?_, ?_⟩
  · rw [get_set_ne _ _ _ _ (by decide), jrnAdd_get (by decide), jrnFree_get (by decide) (by decide), jrnBegun_open]
  · rw [get_set_ne _ _ _ _ (by decide), hnext, jrnFree_get (by decide) (by decide), jrnBegun_nextSeq]
    rfl
  · rw [get_set_ne _ _ _ _ (by decide), jrnAdd_get (by decide), jrnFree_get (by decide) (by decide), jrnBegun_export]
  · rw [set_jrn, hblock, List.length_singleton]
  · rw [set_jrn, hrecs, jrnFree_jrn, jrnBegun_jrn]
  · rw [set_jsc, jrnAdd_jsc, jrnFree_jsc, jrnBegun_jsc]

end

/-! ### JRN_EXPORT (R202) -/

/-- JRN_EXPORT takes the SEQ of a record of a closed block, not behind the one it holds. -/
theorem jrnExport_moves {seq : Nat} (hwritten : seq < s.jrn.lastBlk)
    (hforward : s.get R.JRN_EXPORT_SEQ = 2 ^ 64 - 1 ∨ s.get R.JRN_EXPORT_SEQ ≤ seq) :
    s.jrnExport seq = (s.set R.JRN_EXPORT_SEQ seq).jrnFree := if_pos ⟨hwritten, hforward⟩

theorem jrnExport_refused {seq : Nat} (hunwritten : s.jrn.lastBlk ≤ seq) :
    s.jrnExport seq = (s.set R.JRN_STATUS_BADEXP 1).raise 387 := if_neg fun h => Nat.not_lt.2 hunwritten h.1

/-! ### The seal (R201) -/

theorem mem_insNat (l : List Nat) (v : Nat) : v ∈ insNat l v := by
  induction l with
  | nil => simp [insNat]
  | cons k l ih =>
    unfold insNat
    split
    · simp
    · split
      · simp [*]
      · simp [ih]

/-- A journal that is open writes its SEAL record and closes the block, and the seal goes to bedrock. -/
theorem jrnSeal_eq {cause : Nat} (hopen : s.get R.JRN_STATUS_OPEN = 1) : ∃ r seq exp chain, s.jrnSeal cause =
    ((((((((s.set R.JRN_STATUS_SEALED 1).jrnAdd r false).jrnClose.set R.JRN_SEAL_SEQ_SEQ seq).set R.JRN_SEAL_EXP_SEQ exp).setWords8
      R.JRN_SEAL_CHAIN_WORD chain).set R.JRN_SEAL_INFO_VALID 1).set R.JRN_SEAL_INFO_CAUSE cause).set R.JRN_STATUS_OPEN 0).raise
      386 :=
  ⟨_, _, _, _, if_neg (not_not_intro (is_of_get_one hopen))⟩

theorem jrnSeal_sealed {cause : Nat} (hopen : s.get R.JRN_STATUS_OPEN = 1) : (s.jrnSeal cause).get R.JRN_STATUS_SEALED = 1 := by
  obtain ⟨r, seq, exp, chain, h⟩ := jrnSeal_eq (cause := cause) hopen
  rw [h, raise_get, get_set_ne _ _ _ _ (by decide), get_set_ne _ _ _ _ (by decide), get_set_ne _ _ _ _ (by decide),
    setWords8_spares.2.2 _ (by decide), get_set_ne _ _ _ _ (by decide), get_set_ne _ _ _ _ (by decide), jrnClose_get (by decide),
    jrnAdd_get (by decide), get_set_same]
  rfl

/-- The seal as its owner reads it: the journal no longer open, a seal kept for the next one with its cause, vector 386. -/
theorem jrnSeal_kept {cause : Nat} (hopen : s.get R.JRN_STATUS_OPEN = 1) (hcause : cause < 16) :
    (s.jrnSeal cause).get R.JRN_STATUS_OPEN = 0 ∧ (s.jrnSeal cause).get R.JRN_SEAL_INFO_VALID = 1
      ∧ (s.jrnSeal cause).get R.JRN_SEAL_INFO_CAUSE = cause ∧ 386 ∈ (s.jrnSeal cause).irq := by
  obtain ⟨r, seq, exp, chain, h⟩ := jrnSeal_eq (cause := cause) hopen
  rw [h]
  refine ⟨?_, ?_, ?_, mem_insNat _ _⟩
  · rw [raise_get, get_set_same]
    rfl
  · rw [raise_get, get_set_ne _ _ _ _ (by decide), get_set_ne _ _ _ _ (by decide), get_set_same]
    rfl
  · rw [raise_get, get_set_ne _ _ _ _ (by decide), get_set_same]
    exact Nat.mod_eq_of_lt hcause

theorem jrnSeal_jsc {cause : Nat} (hopen : s.get R.JRN_STATUS_OPEN = 1) : (s.jrnSeal cause).jsc = s.jsc := by
  obtain ⟨r, seq, exp, chain, h⟩ := jrnSeal_eq (cause := cause) hopen
  rw [h]
  simp [setWords8_spares.1]

/-! ### The commands -/

theorem whenRuns_of_runs {f : State → State} (hruns : s.spiresRun = true) : s.whenRuns f = f s := if_pos hruns

theorem mainOn_of_runs (hruns : s.spiresRun = true) : s.mainOn = true := by
  simp only [State.spiresRun, Bool.and_eq_true] at hruns
  exact hruns.1.1

/-- The block closes 1 µs after its first record (R199). -/
theorem blockClose_due (hopen : s.jrn.block ≠ []) (hdue : s.jrn.start + 1000 ≤ s.tnow) : s.blockClose = s.jrnClose :=
  if_pos ⟨by simpa using hopen, hdue⟩

/-- An ordered HOLD with no job in flight seals (R201). -/
theorem journalSeal_hold (hseq : s.pwr.seq = .none) (hhold : s.pwr.hold = true) (hjobs : s.jsc.jobs = []) :
    s.journalSeal = s.jrnSeal 1 := by
  simp [State.journalSeal, hseq, hhold, hjobs]

/-- Settles O26: each command by the equations of its operation above. -/
theorem journalCommands : Obligations.JournalCommands := by
  intro s hruns
  refine ⟨fun hopen hsealed hmin hmax hvalid hkeep => ?_, fun hblock hdue hseq => ?_, fun seq hlt hwritten hforward hkeep => ?_,
    fun seq hlt hunwritten hkeep => ?_, fun hseq hhold hjobs hopen => ?_⟩
  · exact ⟨s.jrnOpen, by simp only [exec, execJournalOpen, whenKeep_of_runs hruns hkeep],
      jrnOpen_genesis hopen hsealed hmin hmax hvalid⟩
  · obtain ⟨b, chain, j, hempty, hlast, h⟩ := jrnClose_eq hblock
    refine ⟨s.jrnClose, by simp only [exec, execBlockClose, whenRuns_of_runs hruns, blockClose_due hblock hdue], ?_, ?_, ?_,
      jrnClose_jsc⟩
    · rw [h, jrnFree_jrn]; exact hempty
    · rw [h, jrnFree_jrn]; exact hlast
    · rw [jrnClose_nextSeq hblock]
      exact Nat.mod_eq_of_lt (by omega)
  · refine ⟨s.jrnExport seq, by simp only [exec, execJournalExport, whenKeep_of_runs hruns hkeep, Nat.mod_eq_of_lt hlt], ?_⟩
    rw [jrnExport_moves hwritten hforward]
    refine ⟨?_, ?_⟩
    · rw [jrnFree_get (by decide) (by decide), get_set_same]
      exact Nat.mod_eq_of_lt hlt
    · obtain ⟨n, b, irq, h⟩ := jrnFree_eq (s := s.set R.JRN_EXPORT_SEQ seq)
      rw [h]
      rfl
  · simp only [exec, execJournalExport, whenKeep_of_runs hruns hkeep, Nat.mod_eq_of_lt hlt, jrnExport_refused hunwritten]
  · obtain ⟨hclosed, hvalid, hcause, hirq⟩ := jrnSeal_kept (cause := 1) hopen (by decide)
    exact ⟨s.jrnSeal 1,
      by simp only [exec, execJournalSeal, whenOn_of_mainOn (mainOn_of_runs hruns), journalSeal_hold hseq hhold hjobs],
      jrnSeal_sealed hopen, hclosed, hvalid, hcause, hirq, jrnSeal_jsc hopen⟩

end Sys2Proof.Machine
end

section
/-!
PROOFS. The issue of an instruction (R214 to R218, R242): the performance that an issue without an exception leads to, and the
parts of a core that its distances, its loop-end decisions and its retirement leave as they were.
-/

namespace Sys2Proof.Machine

variable {s : State} {c l n : Nat} {j : Job} {k : Core} {op : Op}

/-! ### Issue and retirement -/

theorem issueOp_of_issues (h : s.issues c j op) : s.issueOp c op = s.perform c (s.core c).age j op := by
  obtain ⟨-, hissuer, hword, hexc⟩ := h
  unfold State.issueOp
  rw [hissuer]
  dsimp only
  rw [if_pos hword, hexc]

/-- The command of an instruction performs it, where its core issues it for a job without an exception. -/
theorem exec_of_issues {i : Instr} (h : s.issues c j op)
    (hi : exec i s = .next (s.whenRuns fun s => s.issueOp c op) := by rfl) : exec i s = .next (s.perform c (s.core c).age j op) :=
  hi.trans (congrArg Host.Outcome.next ((if_pos h.1).trans (issueOp_of_issues h)))

/-- A core that issues is one of the 512 (R189). -/
theorem lt_of_issuer (h : s.issuer c = some j) : c < 512 := by
  unfold State.issuer at h
  split at h
  · next hc => exact hc.1
  · cases h

theorem core_setCore_same : (s.setCore c k).core c = k := tabGet_tabSet_same ..

theorem core_setCore_ne {d : Nat} (h : d ≠ c) : (s.setCore c k).core d = s.core d := tabGet_tabSet_ne _ _ _ h.symm

theorem retire_core_same {i : Issue} : (s.retire c k j i).core c = k.retire i := core_setCore_same

theorem retire_core_ne {i : Issue} {d : Nat} (h : d ≠ c) : (s.retire c k j i).core d = s.core d := core_setCore_ne h

/-! ### Loop registers and loop-end decisions -/

/-- A loop-end decision changes nothing of a core but the loop registers and the writes that wait for them. -/
def Core.SameButLoops (k q : Core) : Prop := ∃ r p, q = { k with regs := r, pend := p }

namespace Core.SameButLoops

theorem refl : k.SameButLoops k := ⟨k.regs, k.pend, rfl⟩

theorem trans {q r : Core} (h : k.SameButLoops q) (h' : q.SameButLoops r) : k.SameButLoops r := by
  obtain ⟨_, _, rfl⟩ := h
  obtain ⟨a, b, rfl⟩ := h'
  exact ⟨a, b, rfl⟩

theorem setLc {v : Nat} : k.SameButLoops (k.setLc l v) := by
  unfold Core.setLc
  split
  · exact ⟨k.regs, _, rfl⟩
  · exact ⟨_, k.pend, rfl⟩

theorem loopEnd {ls : List Nat} {q : Core} (h : k.SameButLoops q) : k.SameButLoops (q.loopEnd ls).1 := by
  induction ls generalizing q with
  | nil => exact h
  | cons l ls ih =>
    rw [Core.loopEnd]
    split
    · dsimp only
      split
      · exact ih (h.trans setLc)
      · exact h.trans setLc
    · exact ih h

theorem foldl {f : Core → Nat → Core} {ls : List Nat} {q : Core} (h : k.SameButLoops q)
    (hf : ∀ q m, k.SameButLoops q → k.SameButLoops (f q m)) : k.SameButLoops (ls.foldl f q) := by
  induction ls generalizing q with
  | nil => exact h
  | cons m ms ih => exact ih (hf q m h)

theorem leave {t : Nat} {q : Core} (h : k.SameButLoops q) : k.SameButLoops (q.leave t) := by
  unfold Core.leave
  dsimp only
  split
  · exact h
  · refine h.foldl fun q m hq => ?_
    split
    · exact hq.trans setLc
    · exact hq

end Core.SameButLoops

/-- The level ends its pass with the instruction at the pc (R226). -/
def Core.ends (k : Core) (l : Nat) : Prop := k.active l = true ∧ k.lval l 1 = k.pc

theorem loopEnd_append_of_not_ends {ls ms : List Nat} (h : ∀ l ∈ ls, ¬ k.ends l) : k.loopEnd (ls ++ ms) = k.loopEnd ms := by
  induction ls with
  | nil => rfl
  | cons l ls ih =>
    have hl : ¬ (k.active l = true ∧ k.lval l 1 = k.pc) := h l List.mem_cons_self
    rw [List.cons_append, Core.loopEnd, if_neg hl, ih fun m hm => h m (List.mem_cons_of_mem l hm)]

/-- Where no level ends its pass, the index that follows is the next one. -/
theorem loopEnd_of_not_ends {ls : List Nat} (h : ∀ l ∈ ls, ¬ k.ends l) : k.loopEnd ls = (k, none) := by
  rw [← List.append_nil ls, loopEnd_append_of_not_ends h]
  rfl

theorem not_ends_of_inactive (h : ∀ l, l < 3 → k.active l = false) : ∀ l ∈ [2, 1, 0], ¬ k.ends l := by
  intro l hl hends
  have hlt : l < 3 := by simp only [List.mem_cons, List.not_mem_nil, or_false] at hl; omega
  exact absurd hends.1 (by simp [h l hlt])

theorem loopEnd_of_inactive (h : ∀ l, l < 3 → k.active l = false) : k.loopEnd [2, 1, 0] = (k, none) :=
  loopEnd_of_not_ends (not_ends_of_inactive h)

/-- A branch leaves no level where none is active. -/
theorem leave_of_inactive {t : Nat} (h : ∀ l, l < 3 → k.active l = false) : k.leave t = k := by
  have hout : (List.range 3).find? (fun l => k.active l && (decide (t < k.lval l 0) || decide (k.lval l 1 < t))) = none := by
    simp only [List.find?_eq_none, List.mem_range]
    intro l hl
    simp [h l hl]
  unfold Core.leave
  rw [hout]

/-! ### The core after an issue -/

/-- The core's levels after an issue: those after the loop-end decisions, and after a taken branch those it does not leave. -/
def Core.levels (k : Core) (i : Issue) : Core :=
  if i.taken then (k.loopEnd [2, 1, 0]).1.leave (i.br.getD 0) else (k.loopEnd [2, 1, 0]).1

theorem sameButLoops_levels (i : Issue) : k.SameButLoops (k.levels i) := by
  unfold Core.levels
  split
  · exact Core.SameButLoops.refl.loopEnd.leave
  · exact Core.SameButLoops.refl.loopEnd

theorem levels_of_inactive {i : Issue} (h : ∀ l, l < 3 → k.active l = false) : k.levels i = k := by
  unfold Core.levels
  rw [loopEnd_of_inactive h]
  split
  · exact leave_of_inactive h
  · rfl

/-- The writes of an issue are made pending, and its units are busy, whichever instruction follows. -/
theorem retire_eq (i : Issue) : ∃ pc slots target, k.retire i = { k.levels i with
    pend := (k.levels i).pend ++ i.ws, pbits := (k.levels i).pbits ++ i.bs, ownSh := (k.levels i).ownSh ++ i.own
    divBusy := busyNext k.divBusy i.div, cxBusy := busyNext k.cxBusy i.cx, tblBusy := busyNext k.tblBusy i.tbl
    spacing := busyNext k.spacing i.sp, pc := pc, slots := slots, target := target } := by
  unfold Core.retire Core.levels
  dsimp only
  split
  · exact ⟨_, _, _, rfl⟩
  · split
    · exact ⟨_, _, _, rfl⟩
    · split <;> exact ⟨_, _, _, rfl⟩

theorem retire_regs (i : Issue) : (k.retire i).regs = (k.levels i).regs := by
  obtain ⟨_, _, _, h⟩ := retire_eq (k := k) i
  rw [h]

/-- Where no loop is active an issue makes its writes pending and changes no register (R217). -/
theorem retire_of_inactive {i : Issue} (h : ∀ l, l < 3 → k.active l = false) :
    (k.retire i).regs = k.regs ∧ (k.retire i).pend = k.pend ++ i.ws := by
  obtain ⟨_, _, _, hr⟩ := retire_eq (k := k) i
  rw [hr, levels_of_inactive h]
  exact ⟨rfl, rfl⟩

end Sys2Proof.Machine
end

section
/-!
PROOFS. O17: distances (R214, R217, R218). A write waits with its remaining distance, and every issue takes 1 off it.
-/

namespace Sys2Proof.Machine

variable {k : Core} {d e D n : Nat} {v w : W32}

theorem putReg_pos (h : 0 < d) : putReg d v D = [{ dst := d, val := v, rem := D }] := if_neg h.ne'

/-- Before their distance the writes of one issue wait, and no register has changed. -/
theorem iterate_age_of_lt {ws : List PendW} (hrem : ∀ w ∈ ws, w.rem = D) (hpend : k.pend = ws) (h : n < D) :
    (Core.age^[n] k).regs = k.regs ∧ (Core.age^[n] k).pend = ws.map fun w => { w with rem := D - n } := by
  induction n with
  | zero =>
    refine ⟨rfl, hpend.trans (Eq.trans (List.map_id _).symm (List.map_congr_left fun w hw => ?_))⟩
    rw [Nat.sub_zero, ← hrem w hw]
    rfl
  | succ n ih =>
    obtain ⟨hregs, hp⟩ := ih (by omega)
    have hleft : D - (n + 1) ≠ 0 := by omega
    rw [Function.iterate_succ_apply']
    simp only [Core.age, hp, hregs, List.map_map, List.filter_map]
    simp [Function.comp_def, Nat.sub_sub, beq_false_of_ne hleft, bne]

/-- At their distance the writes of one issue reach the registers together, in order of issue. -/
theorem iterate_age_regs {ws : List PendW} (hrem : ∀ w ∈ ws, w.rem = D) (hpend : k.pend = ws) (h : 0 < D) :
    (Core.age^[D] k).regs = ws.foldl commitW k.regs := by
  obtain ⟨m, rfl⟩ := Nat.exists_eq_succ_of_ne_zero h.ne'
  obtain ⟨hregs, hp⟩ := iterate_age_of_lt hrem hpend m.lt_succ_self
  rw [Function.iterate_succ_apply']
  simp only [Core.age, hp, hregs, List.map_map, List.filter_map]
  simp [Function.comp_def, List.foldl_map]
  rfl

theorem reg_congr {q : Core} (h : q.regs = k.regs) : q.reg e = k.reg e := by
  unfold Core.reg
  rw [h]

/-- A register write at distance D shows to the D-th issue after it and to none before (R214). -/
theorem reg_iterate_age_putReg (hd : 0 < d) (hn : n ≤ D) (hpos : 0 < n) :
    (Core.age^[n] { k with pend := putReg d v D }).reg e = if n = D ∧ e = d then v else k.reg e := by
  have hrem : ∀ w ∈ putReg d v D, w.rem = D := by rw [putReg_pos hd]; simp
  rcases hn.lt_or_eq with hlt | rfl
  · rw [if_neg (by omega)]
    exact reg_congr (iterate_age_of_lt hrem rfl hlt).1
  · have hregs := iterate_age_regs (k := { k with pend := putReg d v n }) hrem rfl hpos
    simp only [putReg_pos hd, List.foldl_cons, List.foldl_nil, commitW] at hregs
    unfold Core.reg
    rw [putReg_pos hd, hregs]
    by_cases he : e = d
    · subst he
      simp [hd.ne']
    · rw [tabGet_tabSet_ne 0 k.regs v (Ne.symm he), if_neg fun h : n = n ∧ e = d => he h.2]

/-- Of two writes of one register that become visible together the later stands (R217). -/
theorem reg_iterate_age_twice (hd : 0 < d) (hD : 0 < D) :
    (Core.age^[D] { k with pend := putReg d v D ++ putReg d w D }).reg d = w := by
  have hrem : ∀ x ∈ putReg d v D ++ putReg d w D, x.rem = D := by rw [putReg_pos hd, putReg_pos hd]; simp
  have hregs := iterate_age_regs (k := { k with pend := putReg d v D ++ putReg d w D }) hrem rfl hD
  unfold Core.reg
  rw [hregs, if_neg hd.ne', List.foldl_append, putReg_pos hd, putReg_pos hd]
  exact tabGet_tabSet_same ..

/-- Settles O17: a write's remaining distance falls with each issue, and it is made where none remains. -/
theorem distanceRule : Obligations.DistanceRule := by
  refine ⟨fun k d D v n hd _ _ _ _ hn hpos => ⟨?_, fun e he => ?_⟩, fun k d D v w hd _ hD _ => reg_iterate_age_twice hd hD,
    fun v D => rfl⟩
  · exact (reg_iterate_age_putReg hd hn hpos).trans (by simp)
  · exact (reg_iterate_age_putReg hd hn hpos).trans (by simp [he])

end Sys2Proof.Machine
end

section
/-!
PROOFS. O7: compares, the bit space and the atomics (R221 to R223, R253 to R258).
-/

namespace Sys2Proof.Machine

variable {s : State} {c b : Nat} {j : Job} {k : Core} {f : BitF}

/-- The sign-extended 9-bit immediate (R254). -/
theorem signExtend_imm9 {n : Nat} (h : n < 512) :
    (BitVec.ofNat 9 n).signExtend 32 = BitVec.ofInt 32 (if n < 256 then (n : Int) else (n : Int) - 512) := by
  rw [BitVec.signExtend, BitVec.toInt_eq_toNat_cond, BitVec.toNat_ofNat, Nat.mod_eq_of_lt h]
  congr 1
  split <;> split <;> omega

/-- LTU and GEU, whose immediate is zero-extended, are the conditions 4 and 5 (R253, R254). -/
theorem unsigned_iff_code {g : Cond} {m : Nat} (hg : decCond m = some g) (hm : m < 8) : g = .ltu ∨ g = .geu ↔ m = 4 ∨ m = 5 := by
  interval_cases m <;> cases hg <;> decide

theorem cmpiImm_of_code {g : Cond} {m n : Nat} (hg : decCond m = some g) (hm : m < 8) (h : n < 512) :
    cmpiImm g n = BitVec.ofInt 32 (if m = 4 ∨ m = 5 ∨ n < 256 then (n : Int) else (n : Int) - 512) := by
  by_cases hzero : m = 4 ∨ m = 5
  · rw [cmpiImm, if_pos ((unsigned_iff_code hg hm).2 hzero), if_pos (by omega), BitVec.ofInt_natCast]
  · rw [cmpiImm, if_neg (mt (unsigned_iff_code hg hm).1 hzero), signExtend_imm9 h]
    simp only [← or_assoc, hzero, false_or]

/-- A compare that names its condition by code performs the instruction of that condition. -/
theorem exec_of_issues_cmp {i : Instr} {g : Cond} {m : Nat} {op : Cond → Op} (hg : decCond m = some g) (h : s.issues c j (op g))
    (hi : exec i s = .next (s.whenRuns fun s => s.issueCmp c m op) := by rfl) :
    exec i s = .next (s.perform c (s.core c).age j (op g)) := by
  refine exec_of_issues h (hi.trans (congrArg (fun f => Host.Outcome.next (s.whenRuns f)) (funext fun s => ?_)))
  rw [State.issueCmp, hg]

theorem doBit_private (h : b < 4096) :
    s.doBit c k j f b = s.retire c k j { bs := [{ bit := b, val := bitOp f (k.bit b), rem := 2 }] } := if_pos h

theorem doBit_shared (h : 4096 ≤ b) : s.doBit c k j f b =
    (s.setShared c b (bitOp f (s.shared c b))).retire c k j { own := [{ bit := b, val := s.shared c b, rem := 4 }] } :=
  if_neg (by omega)

theorem bitField_lt (w : Nat) : s.bitField c k j b w < 2 ^ w := by
  induction w generalizing b with
  | zero => exact Nat.one_pos
  | succ w ih =>
    have hrest := ih (b := b + 1)
    have hbit : b2n (s.bitAt c k j b) ≤ 1 := by unfold b2n; split <;> omega
    rw [State.bitField]
    omega

/-- Bit i of a field of the bit space is the bit i places up (R257). -/
theorem testBit_bitField {w i : Nat} (h : i < w) : (s.bitField c k j b w).testBit i = s.bitAt c k j (b + i) := by
  induction w generalizing b i with
  | zero => omega
  | succ w ih =>
    rw [State.bitField]
    cases i with
    | zero =>
      rw [Nat.testBit_zero]
      cases s.bitAt c k j b <;> simp [b2n]
    | succ i =>
      have hhalf : (b2n (s.bitAt c k j b) + 2 * s.bitField c k j (b + 1) w) / 2 = s.bitField c k j (b + 1) w := by
        unfold b2n
        split <;> omega
      rw [Nat.testBit_succ, hhalf, ih (by omega), Nat.add_assoc, Nat.add_comm 1 i]

/-- Settles O7: each command performs its instruction, whose condition, bit or field is the one named. -/
theorem bitInstructions : Obligations.BitInstructions := by
  intro s c rd ra rb bd bs bit len off imm cond j himm hcond _ k a b p sh holds simm
  have hholds : ∀ f, decCond cond = some f → ∀ x y, condHolds f x y = holds x y cond := by
    intro f hf x y
    interval_cases cond <;> cases hf <;> rfl
  refine ⟨fun f hf h => ?_, fun f hf hlt h => ?_, fun h hb => ?_, fun h hb => ?_, fun h hb => ?_, fun h hb => ?_, fun h hb => ?_,
    fun h hb => ?_, fun h => exec_of_issues h, fun h => exec_of_issues h, fun h => exec_of_issues h, fun h => exec_of_issues h,
    fun h => ⟨_, exec_of_issues h, fun i hi => testBit_bitField hi, bitField_lt len⟩, fun h => exec_of_issues h,
    fun h => exec_of_issues h⟩
  · exact (exec_of_issues_cmp (op := fun f => .cmp f bd ra rb) hf h).trans (congrArg (p bd) (hholds f hf a b))
  · refine (exec_of_issues_cmp (op := fun f => .cmpi f bd ra imm) hf h).trans (congrArg (p bd) ?_)
    rw [cmpiImm_of_code hf hlt himm, hholds f hf]
  · exact (exec_of_issues h).trans (congrArg _ (doBit_private hb))
  · exact (exec_of_issues h).trans (congrArg _ (doBit_private hb))
  · exact (exec_of_issues h).trans (congrArg _ (doBit_private hb))
  · exact (exec_of_issues h).trans (congrArg _ (doBit_shared hb))
  · exact (exec_of_issues h).trans (congrArg _ (doBit_shared hb))
  · exact (exec_of_issues h).trans (congrArg _ (doBit_shared hb))

end Sys2Proof.Machine
end

section
/-!
PROOFS. O10 and O11: loads and stores (R207 to R212, R259, R260). A core's access reaches its own memory or its spire's SRAM, or
it is a violation; the two statements share what its target is and what decides between them.
-/

namespace Sys2Proof.Machine

variable {s : State} {c a n at_ type rd ra imm : Nat} {j : Job} {k : Core} {bs : List Byte}

/-! ### Bytes and numbers (R8) -/

theorem length_toLE (n v : Nat) : (toLE n v).length = n := by
  induction n generalizing v with
  | zero => rfl
  | succ n ih => simp [toLE, ih]

theorem toNat_getElem_toLE {n v i : Nat} (h : i < (toLE n v).length) : ((toLE n v)[i]).toNat = v / 256 ^ i % 256 := by
  induction n generalizing v i with
  | zero => simp [toLE] at h
  | succ n ih =>
    cases i with
    | zero => simp [toLE]
    | succ i => simp [toLE, ih, Nat.div_div_eq_div_mul, Nat.pow_succ']

theorem toLE_append (m n v w : Nat) (h : v < 256 ^ m) : toLE m v ++ toLE n w = toLE (m + n) (v + 256 ^ m * w) := by
  induction m generalizing v with
  | zero => simp [toLE, show v = 0 by simpa using h]
  | succ m ih =>
    have hlow : BitVec.ofNat 8 (v + 256 ^ (m + 1) * w) = BitVec.ofNat 8 v := by
      apply BitVec.eq_of_toNat_eq
      rw [BitVec.toNat_ofNat, BitVec.toNat_ofNat, Nat.pow_succ', Nat.mul_assoc]
      exact Nat.add_mul_mod_self_left ..
    have hhigh : (v + 256 ^ (m + 1) * w) / 256 = v / 256 + 256 ^ m * w := by
      rw [Nat.pow_succ', Nat.mul_assoc, Nat.add_mul_div_left _ _ (by decide)]
    rw [Nat.add_right_comm, toLE, toLE, List.cons_append, hlow, hhigh, ih]
    exact Nat.div_lt_of_lt_mul (by rwa [Nat.pow_succ'] at h)

theorem ofLE_append (as bs : List Byte) : ofLE (as ++ bs) = ofLE as + 256 ^ as.length * ofLE bs := by
  induction as with
  | nil => simp [ofLE]
  | cons x as ih => simp only [List.cons_append, ofLE, ih, List.length_cons, Nat.pow_succ', Nat.mul_add, Nat.mul_assoc, Nat.add_assoc]

/-- A number in memory is that of its low bytes, and above them that of the rest. -/
theorem ofLE_bytes_add (a m n : Nat) : ofLE (s.bytes a (m + n)) = ofLE (s.bytes a m) + 256 ^ m * ofLE (s.bytes (a + m) n) := by
  have hsplit : s.bytes a (m + n) = s.bytes a m ++ s.bytes (a + m) n := by
    simp [State.bytes, List.range_add, Function.comp_def, Nat.add_assoc]
  rw [hsplit, ofLE_append]
  simp [State.bytes]

theorem ofLE_bytes_one (a : Nat) : ofLE (s.bytes a 1) = (s.byte a).toNat := rfl

theorem ofLE_bytes_lt (a n : Nat) : ofLE (s.bytes a n) < 256 ^ n := by
  induction n with
  | zero => exact Nat.one_pos
  | succ n ih =>
    have hlast : (s.byte (a + n)).toNat < 256 := (s.byte (a + n)).isLt
    rw [ofLE_bytes_add, ofLE_bytes_one, Nat.pow_succ]
    nlinarith

theorem fld_bytes {o m n : Nat} (h : o + m ≤ n) : fld (s.bytes a n) o m = ofLE (s.bytes (a + o) m) := by
  obtain ⟨r, rfl⟩ := Nat.exists_eq_add_of_le h
  simp [fld, sliceB, State.bytes, List.range_add, Function.comp_def, Nat.add_assoc]

theorem ldExt_b {v : Nat} (h : v < 256) : ldExt .b v = BitVec.ofInt 32 (if v < 2 ^ (8 - 1) then (v : Int) else (v : Int) - 2 ^ 8) := by
  simp [ldExt, asSigned, Nat.mod_eq_of_lt h]

theorem ldExt_h {v : Nat} (h : v < 65536) :
    ldExt .h v = BitVec.ofInt 32 (if v < 2 ^ (16 - 1) then (v : Int) else (v : Int) - 2 ^ 16) := by
  simp [ldExt, asSigned, Nat.mod_eq_of_lt h]

/-! ### What a core address reaches (R207, R230) -/

/-- An access of `n` bytes that is no violation: its address is one of the core's own memory, or of spire SRAM that the rules allow,
and nothing disturbs its transfer. -/
def State.mayAccess (s : State) (c : Nat) (j : Job) (type a n : Nat) : Prop :=
  coreRegion a ≠ 5 ∧ (coreRegion a = 4 → s.judge (coreX c j) type (sramAddr (c / 16) (a - 0x10000000)) n = none ∧
    s.bus.find? (fun e => e.1 == c) = none)

/-- An access of `n` bytes that is a violation, recorded with the core address `at_`. -/
def State.violates (s : State) (c : Nat) (j : Job) (type a n at_ : Nat) : Prop :=
  coreRegion a = 5 ∧ at_ = a
  ∨ coreRegion a = 4 ∧ ∃ b, s.judge (coreX c j) type (sramAddr (c / 16) (a - 0x10000000)) n = some b
    ∧ at_ = a + (b - sramAddr (c / 16) (a - 0x10000000))

/-- The physical address of a core address that has one. -/
def corePlace (c : Nat) (k : Core) (a : Nat) : Nat :=
  if coreRegion a = 4 then sramAddr (c / 16) (a - 0x10000000) else (corePhys c k.tier a).getD 0

theorem sram_of_coreRegion (h : coreRegion a = 4) : 0x10000000 ≤ a ∧ a < 0x10400000 := by
  unfold coreRegion at h
  repeat' split at h
  all_goals omega

/-- The SRAM of a spire is neither DDR nor flash nor a register block (R37). -/
theorem sramAddr_backed (hc : c < 512) (h : coreRegion a = 4) : isReg (sramAddr (c / 16) (a - 0x10000000)) = false
    ∧ isDdr (sramAddr (c / 16) (a - 0x10000000)) = false ∧ isFlash (sramAddr (c / 16) (a - 0x10000000)) = false := by
  have hsram := sram_of_coreRegion h
  unfold isReg isDdr isFlash sramAddr
  simp only [Bool.or_eq_false_iff, Bool.and_eq_false_iff, decide_eq_false_iff_not]
  omega

theorem busTake_of_none (h : s.bus.find? (fun e => e.1 == c) = none) : s.busTake c = (none, s) := by
  unfold State.busTake
  rw [h]

theorem coreBus_read (hc : c < 512) (h : coreRegion a = 4) (hbus : s.bus.find? (fun e => e.1 == c) = none) :
    s.coreBus c j 0 (sramAddr (c / 16) (a - 0x10000000)) n [] = (s.bytes (sramAddr (c / 16) (a - 0x10000000)) n, 0, s) := by
  obtain ⟨hreg, hddr, hflash⟩ := sramAddr_backed hc h
  simp [State.coreBus, busTake_of_none hbus, State.crossed, State.unitServe, hreg, hddr, hflash]

theorem coreBus_write (hc : c < 512) (h : coreRegion a = 4) (hbus : s.bus.find? (fun e => e.1 == c) = none) :
    s.coreBus c j 1 (sramAddr (c / 16) (a - 0x10000000)) n bs = ([], 0, s.putBytes (sramAddr (c / 16) (a - 0x10000000)) bs) := by
  obtain ⟨hreg, hddr, hflash⟩ := sramAddr_backed hc h
  simp [State.coreBus, busTake_of_none hbus, State.crossed, State.unitServe, hreg, hddr, hflash]

theorem coreLoad_of_may (hc : c < 512) (h : s.mayAccess c j 0 a n) : s.coreLoad c k j a n = (s.bytes (corePlace c k a) n, s) := by
  obtain ⟨hregion, hsram⟩ := h
  unfold State.coreLoad corePlace
  split
  · next h4 =>
    obtain ⟨hjudge, hbus⟩ := hsram h4
    simp [h4, hjudge, coreBus_read hc h4 hbus]
  · next h5 => exact absurd h5 hregion
  · next h4 _ => rw [if_neg h4]

theorem coreLoad_of_violates (h : s.violates c j 0 a n at_) : s.coreLoad c k j a n = (zeros n, s.coreViolation c j 0 at_) := by
  unfold State.coreLoad
  obtain ⟨hregion, hat⟩ | ⟨hregion, b, hjudge, hat⟩ := h
  · simp [hregion, hat]
  · simp [hregion, hjudge, hat]

theorem coreStore_of_may (hlen : bs.length = n) (hc : c < 512) (h : s.mayAccess c j 1 a n) :
    s.coreStore c k j a bs = s.putBytes (corePlace c k a) bs := by
  subst hlen
  obtain ⟨hregion, hsram⟩ := h
  unfold State.coreStore corePlace
  split
  · next h4 =>
    obtain ⟨hjudge, hbus⟩ := hsram h4
    simp [h4, hjudge, coreBus_write hc h4 hbus]
  · next h5 => exact absurd h5 hregion
  · next h4 _ => rw [if_neg h4]

theorem coreStore_of_violates (hlen : bs.length = n) (h : s.violates c j 1 a n at_) :
    s.coreStore c k j a bs = s.coreViolation c j 1 at_ := by
  subst hlen
  unfold State.coreStore
  obtain ⟨hregion, hat⟩ | ⟨hregion, b, hjudge, hat⟩ := h
  · simp [hregion, hat]
  · simp [hregion, hjudge, hat]

theorem sramTimed_of_may (h : s.mayAccess c j type a n) : sramTimed a = decide (coreRegion a = 4) := by
  unfold sramTimed
  rw [beq_false_of_ne h.1, Bool.or_false]
  rfl

theorem sramTimed_of_violates (h : s.violates c j type a n at_) : sramTimed a = true := by
  unfold sramTimed
  obtain ⟨hregion, -⟩ | ⟨hregion, -⟩ := h <;> rw [hregion] <;> rfl

/-! ### Loads -/

theorem ofLE_zeros (n : Nat) : ofLE (zeros n) = 0 := by
  induction n with
  | zero => rfl
  | succ n ih => simpa [zeros, List.replicate_succ, ofLE] using ih

theorem fld_zeros (n o m : Nat) : fld (zeros n) o m = 0 := by
  rw [fld, sliceB, zeros, List.drop_replicate, List.take_replicate]
  exact ofLE_zeros _

/-- A load of one register has the value of the bytes it is given (R259). -/
theorem doLoad_eq {f : LdF} (hf : f ≠ .d) {t : State} (h : s.coreLoad c k j (effAddr k ra imm) (ldSize f) = (bs, t)) :
    s.doLoad c k j f rd ra imm = t.retire c k j
      { ws := putReg rd (ldExt f (ofLE bs)) (if sramTimed (effAddr k ra imm) then 26 else 4)
        sp := if sramTimed (effAddr k ra imm) then 15 else 0 } := by
  unfold State.doLoad
  dsimp only
  rw [h]
  cases f with
  | d => exact absurd rfl hf
  | _ => rfl

/-- LD_D gives the low word to its register and the high word to the next (R259). -/
theorem doLoad_d {t : State} (h : s.coreLoad c k j (effAddr k ra imm) 8 = (bs, t)) :
    s.doLoad c k j .d rd ra imm = t.retire c k j
      { ws := putReg rd (BitVec.ofNat 32 (fld bs 0 4)) (if sramTimed (effAddr k ra imm) then 26 else 4)
          ++ putReg (rd + 1) (BitVec.ofNat 32 (fld bs 4 4)) (if sramTimed (effAddr k ra imm) then 26 else 4)
        sp := if sramTimed (effAddr k ra imm) then 15 else 0 } := by
  unfold State.doLoad
  dsimp only [ldSize]
  rw [h]

theorem exec_load_of_may {i : Instr} {f : LdF} (hf : f ≠ .d) (h : s.issues c j (.load f rd ra imm))
    (hmay : s.mayAccess c j 0 (effAddr (s.core c).age ra imm) (ldSize f))
    (hi : exec i s = .next (s.whenRuns fun s => s.issueOp c (.load f rd ra imm)) := by rfl) :
    let k := (s.core c).age
    let a := effAddr k ra imm
    exec i s = .next (s.retire c k j
      { ws := putReg rd (ldExt f (ofLE (s.bytes (corePlace c k a) (ldSize f)))) (if coreRegion a = 4 then 26 else 4)
        sp := if coreRegion a = 4 then 15 else 0 }) := by
  intro k a
  refine (exec_of_issues h hi).trans (congrArg _ ((doLoad_eq hf (coreLoad_of_may (lt_of_issuer h.2.1) hmay)).trans ?_))
  simp only [sramTimed_of_may hmay, decide_eq_true_eq]
  rfl

theorem exec_load_of_violates {i : Instr} {f : LdF} (hf : f ≠ .d) (h : s.issues c j (.load f rd ra imm))
    (hno : s.violates c j 0 (effAddr (s.core c).age ra imm) (ldSize f) at_)
    (hi : exec i s = .next (s.whenRuns fun s => s.issueOp c (.load f rd ra imm)) := by rfl) :
    exec i s = .next ((s.coreViolation c j 0 at_).retire c (s.core c).age j { ws := putReg rd 0 26, sp := 15 }) := by
  refine (exec_of_issues h hi).trans (congrArg _ ((doLoad_eq hf (coreLoad_of_violates hno)).trans ?_))
  have hzero : ldExt f 0 = 0 := by cases f <;> rfl
  rw [sramTimed_of_violates hno, ofLE_zeros, hzero]
  rfl

/-- Settles O10: a load gives the bytes at its place, extended as its form says, and where it is a violation 0. -/
theorem loadInstructions : Obligations.LoadInstructions := by
  intro s c rd ra imm j _ k a sram pa dist byte half word high sx w may no zero
  have hone : ofLE (s.bytes pa 1) = byte 0 := ofLE_bytes_one pa
  have htwo (o : Nat) : ofLE (s.bytes (pa + o) 2) = byte o + 256 * byte (o + 1) := ofLE_bytes_add (pa + o) 1 1
  have hhalf : ofLE (s.bytes pa 2) = half := htwo 0
  have hword : ofLE (s.bytes pa 4) = word := by rw [ofLE_bytes_add pa 2 2, hhalf, htwo 2]; rfl
  have hhigh : ofLE (s.bytes (pa + 4) 4) = high := by rw [ofLE_bytes_add (pa + 4) 2 2, htwo 4, Nat.add_assoc pa, htwo 6]; rfl
  have hb : byte 0 < 256 := (s.byte (pa + 0)).isLt
  have hh : half < 65536 := hhalf ▸ ofLE_bytes_lt pa 2
  refine ⟨fun h hmay => ?_, fun h hmay => ?_, fun h hmay => ?_, fun h hmay => ?_, fun h hmay => ?_, fun h hmay => ?_, fun at_ =>
    ⟨fun h hno => ?_, fun h hno => ?_, fun h hno => ?_, fun h hno => ?_, fun h hno => ?_, fun h hno => ?_⟩⟩
  · exact (exec_load_of_may (f := .b) (by decide) h hmay).trans (congrArg w ((congrArg _ hone).trans (ldExt_b hb)))
  · exact (exec_load_of_may (f := .bu) (by decide) h hmay).trans
      (congrArg w ((congrArg (ldExt .bu) hone).trans (congrArg (BitVec.ofNat 32) (Nat.mod_eq_of_lt hb))))
  · exact (exec_load_of_may (f := .h) (by decide) h hmay).trans (congrArg w ((congrArg _ hhalf).trans (ldExt_h hh)))
  · exact (exec_load_of_may (f := .hu) (by decide) h hmay).trans
      (congrArg w ((congrArg (ldExt .hu) hhalf).trans (congrArg (BitVec.ofNat 32) (Nat.mod_eq_of_lt hh))))
  · exact (exec_load_of_may (f := .w) (by decide) h hmay).trans (congrArg w (congrArg (ldExt .w) hword))
  · refine (exec_of_issues h).trans (congrArg _ ((doLoad_d (coreLoad_of_may (lt_of_issuer h.2.1) hmay)).trans ?_))
    rw [fld_bytes (by decide), fld_bytes (by decide), sramTimed_of_may hmay]
    simp only [decide_eq_true_eq]
    rw [← hword, ← hhigh]
    rfl
  · exact exec_load_of_violates (f := .b) (by decide) h hno
  · exact exec_load_of_violates (f := .bu) (by decide) h hno
  · exact exec_load_of_violates (f := .h) (by decide) h hno
  · exact exec_load_of_violates (f := .hu) (by decide) h hno
  · exact exec_load_of_violates (f := .w) (by decide) h hno
  · refine (exec_of_issues h).trans (congrArg _ ((doLoad_d (coreLoad_of_violates hno)).trans ?_))
    rw [fld_zeros, fld_zeros, sramTimed_of_violates hno]
    rfl

/-! ### Stores -/

/-- The number whose low bytes a store writes: that of its register, and for ST_D of the pair (R259). -/
def storeValue (k : Core) (rd : Nat) : StF → Nat
  | .d => (k.reg rd).toNat + 2 ^ 32 * (k.reg (rd + 1)).toNat
  | _ => (k.reg rd).toNat

theorem doStore_eq (f : StF) : s.doStore c k j f rd ra imm =
    (s.coreStore c k j (effAddr k ra imm) (toLE (stSize f) (storeValue k rd f))).retire c k j
      { sp := if sramTimed (effAddr k ra imm) then 15 else 0 } := by
  cases f with
  | d =>
    have hpair := toLE_append 4 4 (k.reg rd).toNat (k.reg (rd + 1)).toNat (k.reg rd).isLt
    unfold State.doStore
    dsimp only
    rw [hpair]
    rfl
  | _ => rfl

/-- From `s` to `t` the `n` low bytes of `v` are written at `pa`, and no other byte, register or fault record of the device nor
register of the core has changed. -/
def State.stored (s t : State) (c : Nat) (k : Core) (pa n v : Nat) : Prop :=
  (∀ i, i < n → (t.byte (pa + i)).toNat = v / 256 ^ i % 256) ∧ (∀ x, x < pa ∨ pa + n ≤ x → t.byte x = s.byte x)
    ∧ (t.core c).regs = k.regs ∧ t.regs = s.regs ∧ t.faultQ = s.faultQ

theorem stored_putBytes_retire {pa v : Nat} {i : Issue} (hinactive : ∀ l, l < 3 → k.active l = false) :
    s.stored ((s.putBytes pa (toLE n v)).retire c k j i) c k pa n v := by
  have hbyte (x : Nat) : ((s.putBytes pa (toLE n v)).retire c k j i).byte x = (s.putBytes pa (toLE n v)).byte x := rfl
  refine ⟨fun m hm => ?_, fun x hx => ?_, ?_, ?_, ?_⟩
  · have hlen : m < (toLE n v).length := by rwa [length_toLE]
    rw [hbyte, byte_putBytes_inside s pa m _ hlen, toNat_getElem_toLE]
  · rw [hbyte, byte_putBytes_outside s pa x _ (by rwa [length_toLE])]
  · rw [retire_core_same, (retire_of_inactive hinactive).1]
  · rw [putBytes_eq_mem]; rfl
  · rw [putBytes_eq_mem]; rfl

theorem exec_store_of_may {i : Instr} {f : StF} (hinactive : ∀ l, l < 3 → (s.core c).age.active l = false)
    (h : s.issues c j (.store f rd ra imm)) (hmay : s.mayAccess c j 1 (effAddr (s.core c).age ra imm) (stSize f))
    (hi : exec i s = .next (s.whenRuns fun s => s.issueOp c (.store f rd ra imm)) := by rfl) :
    let k := (s.core c).age
    ∃ t, exec i s = .next t ∧ s.stored t c k (corePlace c k (effAddr k ra imm)) (stSize f) (storeValue k rd f) := by
  intro k
  have hstore := doStore_eq (s := s) (c := c) (j := j) (k := k) (rd := rd) (ra := ra) (imm := imm) f
  rw [coreStore_of_may (length_toLE _ _) (lt_of_issuer h.2.1) hmay] at hstore
  exact ⟨_, (exec_of_issues h hi).trans (congrArg _ hstore), stored_putBytes_retire hinactive⟩

theorem exec_store_of_violates {i : Instr} {f : StF} (h : s.issues c j (.store f rd ra imm))
    (hno : s.violates c j 1 (effAddr (s.core c).age ra imm) (stSize f) at_)
    (hi : exec i s = .next (s.whenRuns fun s => s.issueOp c (.store f rd ra imm)) := by rfl) :
    exec i s = .next ((s.coreViolation c j 1 at_).retire c (s.core c).age j { sp := 15 }) := by
  refine (exec_of_issues h hi).trans (congrArg _ ((doStore_eq f).trans ?_))
  rw [coreStore_of_violates (length_toLE _ _) hno, sramTimed_of_violates hno]
  rfl

/-- Settles O11: a store writes the low bytes of its number at its place, and where it is a violation none. -/
theorem storeInstructions : Obligations.StoreInstructions := by
  intro s c rd ra imm j _ k a sram pa stored may no none_
  exact ⟨fun _ hinactive => ⟨exec_store_of_may (f := .b) hinactive, exec_store_of_may (f := .h) hinactive,
    exec_store_of_may (f := .w) hinactive, exec_store_of_may (f := .d) hinactive⟩, fun at_ =>
    ⟨exec_store_of_violates (f := .b), exec_store_of_violates (f := .h), exec_store_of_violates (f := .w),
      exec_store_of_violates (f := .d)⟩⟩

end Sys2Proof.Machine
end

section
/-!
PROOFS. O13, O14 and O15: branches, loops, and the instruction that follows (R216, R225 to R227, R261, R262).
-/

namespace Sys2Proof.Machine

variable {s : State} {c l le m n : Nat} {j : Job} {k : Core}

/-! ### Branches -/

/-- The core after a branch where no loop is active: its two delay slots follow, and the indices from its target on (R216). -/
def Core.branched (k : Core) (target : Nat) (ws : List PendW) : Core :=
  { k with
    pc := (k.pc + 1) % 16384, slots := 2, target := target, pend := k.pend ++ ws, divBusy := k.divBusy - 1, cxBusy := k.cxBusy - 1
    tblBusy := k.tblBusy - 1, spacing := k.spacing - 1 }

theorem retire_branchTo {taken : Bool} {t : Nat} {ws : List PendW} (hinactive : ∀ l, l < 3 → k.active l = false) :
    k.retire (branchTo k taken t ws) = k.branched (if taken then t else (k.pc + 3) % 16384) ws := by
  have hlevels := levels_of_inactive (i := branchTo k taken t ws) hinactive
  unfold Core.levels at hlevels
  unfold Core.retire
  dsimp only
  rw [hlevels]
  simp only [branchTo, List.append_nil]
  rfl

/-- The command of a branch, taken or not, where no loop is active. -/
theorem exec_branch {i : Instr} {op : Op} {taken : Bool} {t : Nat} {ws : List PendW}
    (hinactive : ∀ l, l < 3 → (s.core c).age.active l = false) (h : s.issues c j op)
    (hop : s.perform c (s.core c).age j op = s.retire c (s.core c).age j (branchTo (s.core c).age taken t ws) := by rfl)
    (hi : exec i s = .next (s.whenRuns fun s => s.issueOp c op) := by rfl) :
    let k := (s.core c).age
    exec i s = .next ((s.setCore c (k.branched (if taken then t else (k.pc + 3) % 16384) ws)).updJob j.id
      (fun j => { j with cycles := j.cycles + 1 })) := by
  refine (exec_of_issues h hi).trans (congrArg _ (hop.trans ?_))
  unfold State.retire
  rw [retire_branchTo hinactive]
  rfl

/-- Settles O13: each branch goes to its target where it is taken, and else to the index after its slots. -/
theorem branchInstructions : Obligations.BranchInstructions := by
  intro s c rd ra bs target j _ k after go hinactive
  refine ⟨fun h => (exec_branch hinactive h).trans rfl, fun h => (exec_branch hinactive h).trans rfl,
    fun h => (exec_branch hinactive h).trans rfl, fun h => (exec_branch hinactive h).trans rfl,
    fun h => (exec_branch hinactive h).trans rfl, fun h => (exec_branch hinactive h).trans ?_,
    fun h => (exec_branch hinactive h).trans ?_, fun h => (exec_branch hinactive h).trans ?_⟩
  · exact congrArg (go · []) (by cases k.bit bs <;> rfl)
  · exact congrArg (go · []) (by simp only [beq_iff_eq]; rfl)
  · exact congrArg (go · []) (by simp only [bne_iff_ne, ne_eq, ite_not]; rfl)

/-! ### Loop instructions -/

theorem lreg_end : lreg l 1 = 33 + 3 * l := by
  unfold lreg
  omega

theorem lreg_count : lreg l 2 = 34 + 3 * l := by
  unfold lreg
  omega

theorem mtlcNone_iff {ra : Nat} :
    k.mtlcNone l ra = true ↔ tabGet 0 k.regs (34 + 3 * l) = 0 ∧ (k.reg ra).toNat % 65536 ≠ 0 := by
  simp only [Core.mtlcNone, lreg_count, Bool.and_eq_true, beq_iff_eq, bne_iff_ne]

/-- LOOP and LOOPR write lb, le and lc of their level, and one of no pass goes on behind its body (R262). -/
theorem loopTo_eq : loopTo k l le n =
    { ws := [{ dst := 32 + 3 * l, val := BitVec.ofNat 32 ((k.pc + 1) % 16384), rem := 3 },
        { dst := 33 + 3 * l, val := BitVec.ofNat 32 le, rem := 3 }, { dst := 34 + 3 * l, val := BitVec.ofNat 32 n, rem := 3 }]
      skip := if n = 0 then some ((le + 1) % 16384) else none } := by
  unfold loopTo
  rw [lreg_end, lreg_count]
  rfl

theorem regIssue_mtlc {ra : Nat} : regIssue k (.mtlc l ra) =
    if k.mtlcNone l ra then {} else { ws := [{ dst := lreg l 2, val := k.reg ra &&& 0xFFFF, rem := 3 }] } := rfl

theorem next_retire_congr {x y : Issue} (h : x = y) :
    (.next (s.retire c k j x) : Host.Outcome State Fault Refusal) = .next (s.retire c k j y) := by
  rw [h]

/-- Settles O14: each loop instruction by its writes. -/
theorem loopInstructions : Obligations.LoopInstructions := by
  intro s c l le count ra rd j _ _ _ k regs after w
  refine ⟨fun h => (exec_of_issues h).trans ?_, fun h => (exec_of_issues h).trans ?_, fun h => exec_of_issues h,
    fun h => (exec_of_issues h).trans ?_, fun h => (exec_of_issues h).trans ?_, fun h heffect => (exec_of_issues h).trans ?_,
    fun h hlc hra => (exec_of_issues h).trans ?_⟩
  · exact next_retire_congr loopTo_eq
  · exact next_retire_congr loopTo_eq
  · exact congrArg (fun r => w (tabGet 0 k.regs r)) lreg_end
  · exact congrArg (fun r => w (tabGet 0 k.regs r)) lreg_count
  · have hnone : ¬ k.mtlcNone l ra = true := by
      rw [mtlcNone_iff]
      rintro ⟨hlc, hra⟩
      exact heffect.elim (absurd hlc) hra
    exact next_retire_congr (by rw [regIssue_mtlc, if_neg hnone, lreg_count])
  · exact next_retire_congr (by rw [regIssue_mtlc, if_pos (mtlcNone_iff.2 ⟨hlc, hra⟩)])

/-! ### The instruction that follows -/

theorem lval_of_no_pend {which : Nat} (h : k.pend = []) : k.lval l which = (tabGet 0 k.regs (lreg l which)).toNat := by
  unfold Core.lval Core.loopW
  rw [h]
  rfl

theorem setLc_of_no_pend {v : Nat} (h : k.pend = []) :
    k.setLc l v = { k with regs := tabSet 0 k.regs (lreg l 2) (BitVec.ofNat 32 v) } := by
  unfold Core.setLc Core.loopW
  rw [h]
  rfl

/-- With no write pending, a change of lc of a level leaves lb, le and lc of every other. -/
theorem lval_setLc_ne {v which : Nat} (h : k.pend = []) (hm : m ≠ l) (hwhich : which < 3) :
    (k.setLc l v).lval m which = k.lval m which := by
  have hreg : lreg l 2 ≠ lreg m which := by unfold lreg; omega
  have hpend : (k.setLc l v).pend = [] := by rw [setLc_of_no_pend h]; exact h
  rw [lval_of_no_pend hpend, lval_of_no_pend h, setLc_of_no_pend h]
  exact congrArg BitVec.toNat (tabGet_tabSet_ne 0 k.regs _ hreg)

theorem ends_setLc_ne {v : Nat} (h : k.pend = []) (hm : m ≠ l) : (k.setLc l v).ends m ↔ k.ends m := by
  have hpc : (k.setLc l v).pc = k.pc := by rw [setLc_of_no_pend h]
  unfold Core.ends Core.active
  rw [lval_setLc_ne h hm (by decide), lval_setLc_ne h hm (by decide), hpc]

theorem ends_iff (h : k.pend = []) :
    k.ends l ↔ (tabGet 0 k.regs (34 + 3 * l)).toNat ≠ 0 ∧ (tabGet 0 k.regs (33 + 3 * l)).toNat = k.pc := by
  unfold Core.ends Core.active
  rw [lval_of_no_pend h, lval_of_no_pend h, lreg_end, lreg_count, bne_iff_ne]

/-- The levels in the order of their decisions: those inside a level, the level, and those around it. -/
theorem levels_split (h : l < 3) :
    ∃ inner outer, [2, 1, 0] = inner ++ l :: outer ∧ (∀ m ∈ inner, l < m ∧ m < 3) ∧ ∀ m ∈ outer, m < l := by
  interval_cases l
  · exact ⟨[2, 1], [], by decide⟩
  · exact ⟨[2], [0], by decide⟩
  · exact ⟨[], [1, 0], by decide⟩

/-- A level with passes left begins the next one at its lb (R226). -/
theorem loopEnd_again (hl : l < 3) (hinner : ∀ m, l < m → m < 3 → ¬ k.ends m) (hends : k.ends l) (hleft : 1 < k.lval l 2) :
    k.loopEnd [2, 1, 0] = (k.setLc l (k.lval l 2 - 1), some (k.lval l 0)) := by
  obtain ⟨inner, outer, hsplit, hin, -⟩ := levels_split hl
  have hlevel : k.active l = true ∧ k.lval l 1 = k.pc := hends
  rw [hsplit, loopEnd_append_of_not_ends fun m hm => hinner m (hin m hm).1 (hin m hm).2, Core.loopEnd, if_pos hlevel]
  exact if_neg (by omega)

/-- A level in its last pass is left by falling through (R226). -/
theorem loopEnd_last (hl : l < 3) (hpend : k.pend = []) (hother : ∀ m, m < 3 → m ≠ l → ¬ k.ends m) (hends : k.ends l)
    (hlast : k.lval l 2 = 1) : k.loopEnd [2, 1, 0] = (k.setLc l 0, none) := by
  obtain ⟨inner, outer, hsplit, hin, hout⟩ := levels_split hl
  have hlevel : k.active l = true ∧ k.lval l 1 = k.pc := hends
  have houter : ∀ m ∈ outer, ¬ (k.setLc l 0).ends m := by
    intro m hm
    rw [ends_setLc_ne hpend (hout m hm).ne]
    exact hother m ((hout m hm).trans hl) (hout m hm).ne
  rw [hsplit, loopEnd_append_of_not_ends fun m hm => hother m (hin m hm).2 (hin m hm).1.ne', Core.loopEnd, if_pos hlevel]
  exact (if_pos (by omega)).trans (loopEnd_of_not_ends houter)

/-- An issue that is no branch and no LOOP of no pass, in no delay slot: its index is that of the loop-end decision. -/
theorem retire_pc_of_no_slots (h : k.slots = 0) : (k.retire {}).pc = (k.loopEnd [2, 1, 0]).2.getD (idxNext k.pc) := by
  unfold Core.retire
  dsimp only
  rw [if_pos h]
  cases (k.loopEnd [2, 1, 0]).2 <;> rfl

/-- The last delay slot leads to the target of the branch (R216). -/
theorem retire_of_last_slot (h : k.slots = 1) : (k.retire {}).pc = k.target ∧ (k.retire {}).slots = 0 := by
  unfold Core.retire
  dsimp only
  rw [if_neg (by omega), if_pos h]
  exact ⟨rfl, rfl⟩

theorem retire_of_first_slot (h : k.slots = 2) :
    (k.retire {}).pc = (k.loopEnd [2, 1, 0]).2.getD (idxNext k.pc) ∧ (k.retire {}).slots = 1 := by
  unfold Core.retire
  dsimp only
  rw [if_neg (by omega), if_neg (by omega), h]
  cases (k.loopEnd [2, 1, 0]).2 <;> exact ⟨rfl, rfl⟩

theorem retire_regs_plain : (k.retire {}).regs = (k.loopEnd [2, 1, 0]).1.regs := retire_regs {}

/-- lc of a level after a change of it. -/
theorem lc_setLc_same {v : Nat} (h : k.pend = []) (hv : v < 2 ^ 32) : (tabGet 0 (k.setLc l v).regs (34 + 3 * l)).toNat = v := by
  rw [setLc_of_no_pend h, lreg_count, tabGet_tabSet_same, BitVec.toNat_ofNat, Nat.mod_eq_of_lt hv]

theorem lc_setLc_ne {v : Nat} (h : k.pend = []) (hm : m ≠ l) :
    (tabGet 0 (k.setLc l v).regs (34 + 3 * m)).toNat = (tabGet 0 k.regs (34 + 3 * m)).toNat := by
  rw [setLc_of_no_pend h, lreg_count]
  exact congrArg BitVec.toNat (tabGet_tabSet_ne 0 k.regs _ (by omega))

/-- Everything of a core but its registers, its pending writes, its counts and its indices stands through an issue. -/
theorem retire_frame (i : Issue) : (k.retire i).bits = k.bits ∧ (k.retire i).events = k.events ∧ (k.retire i).keysP = k.keysP
    ∧ (k.retire i).keysB = k.keysB ∧ (k.retire i).tier = k.tier ∧ (k.retire i).job = k.job ∧ (k.retire i).phase = k.phase
    ∧ (k.retire i).flight = k.flight := by
  obtain ⟨_, _, _, hretire⟩ := retire_eq (k := k) i
  obtain ⟨_, _, hlevels⟩ := sameButLoops_levels (k := k) i
  rw [hretire, hlevels]
  exact ⟨rfl, rfl, rfl, rfl, rfl, rfl, rfl, rfl⟩

/-- Settles O15: the loop-end decision gives the instruction that follows, and an issue changes its core and its job's cycles. -/
theorem sequencingRule : Obligations.SequencingRule := by
  refine ⟨?_, ?_⟩
  · intro s c l j hl h k lc ends hpend
    have hcore : (s.retire c k j {}).core c = k.retire {} := retire_core_same
    have hiff (m : Nat) : ends m ↔ k.ends m := (ends_iff hpend).symm
    have hlc : lc k l = k.lval l 2 := by rw [lval_of_no_pend hpend, lreg_count]
    have hend (hnone : ∀ m, m < 3 → ¬ ends m) : k.loopEnd [2, 1, 0] = (k, none) := by
      refine loopEnd_of_not_ends fun m hm => (hiff m).not.1 (hnone m ?_)
      simp only [List.mem_cons, List.not_mem_nil, or_false] at hm
      omega
    refine ⟨s.retire c k j {}, exec_of_issues h, ?_, ?_, ?_, ?_, ?_⟩ <;> rw [hcore]
    · intro hnone hslots
      rw [retire_pc_of_no_slots hslots, retire_regs_plain, hend hnone]
      exact ⟨rfl, rfl⟩
    · intro hnone hslots
      obtain ⟨hpc, hleft⟩ := retire_of_first_slot hslots
      rw [hpc, hend hnone]
      exact ⟨rfl, hleft⟩
    · exact retire_of_last_slot
    · intro hslots hends hinner hleft
      have hagain := loopEnd_again hl (fun m hm hm3 => (hiff m).not.1 (hinner m hm hm3)) ((hiff l).1 hends) (hlc ▸ hleft)
      have hv : k.lval l 2 - 1 < 2 ^ 32 := by
        have := (tabGet 0 k.regs (lreg l 2)).isLt
        rw [lval_of_no_pend hpend]
        omega
      refine ⟨?_, ?_, fun m _ hm => ?_⟩
      · rw [retire_pc_of_no_slots hslots, hagain]
        exact lval_of_no_pend hpend
      · rw [hlc]
        simp only [lc, retire_regs_plain, hagain]
        exact lc_setLc_same hpend hv
      · simp only [lc, retire_regs_plain, hagain]
        exact lc_setLc_ne hpend hm
    · intro hslots hends hother hlast
      have hfall := loopEnd_last hl hpend (fun m hm hm' => (hiff m).not.1 (hother m hm hm')) ((hiff l).1 hends) (hlc ▸ hlast)
      refine ⟨?_, ?_⟩
      · rw [retire_pc_of_no_slots hslots, hfall]
        rfl
      · simp only [lc, retire_regs_plain, hfall]
        exact lc_setLc_same hpend (by decide)
  · intro s c k j i t
    obtain ⟨hbits, hevents, hkeysP, hkeysB, htier, hjob, hphase, hflight⟩ := retire_frame (k := k) i
    exact ⟨rfl, retire_core_same, fun d hd => retire_core_ne hd, rfl, hbits, hevents, hkeysP, hkeysB, htier, hjob, hphase, hflight,
      retire_of_inactive⟩

end Sys2Proof.Machine
end

section
/-!
PROOFS. O16 and O19 fail as O18 does: a job that ends with HANDLER_FAULT has the spire of the core that it names settle, and they too
let that core be one that no device has, whose PWR_SPIRE_STATE.S lies where JSC_HFAULT.COUNT is. The statements do not ask that a run
from reset lead to the state.
-/

namespace Sys2Proof.Machine

/-- Core 0 runs `strayJob` and has reached a word of 0, behind the EXIT of `strayExit`. -/
def strayZeroWord : State := strayExit.setCore 0 { phase := .running, job := some 1, pc := 1 }

theorem strayZeroWord_issuer : strayZeroWord.spiresRun = true ∧ strayZeroWord.issuer 0 = some strayJob
    ∧ strayZeroWord.job strayJob.id = some strayJob ∧ strayZeroWord.fetchWord 0 = 0 ∧ strayJob.cycles + 1 < strayJob.h.wcet := by
  decide +kernel

/-- Its session is not open, and no HANDLER_FAULT has been counted yet. -/
theorem strayZeroWord_uncounted : strayZeroWord.jobSession strayJob = none
    ∧ satInc 32 (strayZeroWord.get R.JSC_HFAULT_COUNT) = 1 := by
  decide +kernel

/-- The first HANDLER_FAULT is counted on top of the 3 that the entry of the spire into DOZE has written. -/
theorem strayZeroWord_illegal : ∃ t, exec (.illegal 0) strayZeroWord = .next t ∧ t.get R.JSC_HFAULT_COUNT = 4 :=
  ⟨_, rfl, by decide +kernel⟩

/-- ILLEGAL does not end the job of `strayZeroWord` as `State.faulted` says, for the count of its HANDLER_FAULT reads 4 and not 1. -/
theorem strayZeroWord_not_faulted {detail : Nat} :
    ¬ ∃ t, exec (.illegal 0) strayZeroWord = .next t ∧ strayZeroWord.faulted t strayJob detail := by
  rintro ⟨t, ht, -, -, -, -, -, hclosed, -⟩
  obtain ⟨hsession, hone⟩ := strayZeroWord_uncounted
  obtain ⟨-, hcount, -⟩ := hclosed hsession
  obtain ⟨u, hu, hfour⟩ := strayZeroWord_illegal
  cases ht.symm.trans hu
  rw [hfour, hone] at hcount
  exact absurd hcount (by decide)

/-- Refutes O16: its clause on the word 0 fails in `strayZeroWord`. -/
theorem not_instructionIndices : ¬ Obligations.InstructionIndices := by
  rintro ⟨-, -, -, hzero⟩
  obtain ⟨hruns, hissuer, hjob, hword, hbudget⟩ := strayZeroWord_issuer
  exact strayZeroWord_not_faulted (hzero strayZeroWord 0 strayJob hruns hissuer hjob hword hbudget)

/-- Refutes O19: its clause on an undefined word fails in `strayZeroWord`. -/
theorem not_exceptionEntry : ¬ Obligations.ExceptionEntry := by
  intro h
  obtain ⟨hruns, hissuer, hjob, hword, hbudget⟩ := strayZeroWord_issuer
  obtain ⟨-, -, hundefined, -⟩ := h strayZeroWord 0 0 0 0 0 0 strayJob (by decide) hruns hissuer hjob hbudget
  exact strayZeroWord_not_faulted (hundefined (by rw [hword]; rfl))

end Sys2Proof.Machine
end

section
/-!
PROOFS. O4: core instruction words (R242 to R270). An instruction's layout fills its word with fields, those that are zero included:
a word reads as an instruction where it holds the fields of that layout, and the fields make up the word.
-/

namespace Sys2Proof.Machine

variable {w top lo wd n : Nat} {fs : List (Nat × Nat)}

/-! ### Words and fields -/

/-- The number that fields make, each a value at its lowest bit. -/
def fieldsSum (fs : List (Nat × Nat)) : Nat := (fs.map fun f => f.1 * 2 ^ f.2).sum

/-- Fields that fill a word below bit `top`: each reaches from its lowest bit up to the field before it, and its value fits. -/
def fieldsFit : Nat → List (Nat × Nat) → Prop
  | top, [] => top = 0
  | top, (v, lo) :: fs => lo ≤ top ∧ v < 2 ^ (top - lo) ∧ fieldsFit lo fs

/-- The fields that fill a word below bit `top` have these values in it. -/
def fieldsRead (w : Nat) : Nat → List (Nat × Nat) → Prop
  | top, [] => top = 0
  | top, (v, lo) :: fs => lo ≤ top ∧ bitsOf w lo (top - lo) = v ∧ fieldsRead w lo fs

theorem encFields_eq (op : Nat) (fs : List (Nat × Nat)) : encFields op fs = op * 2 ^ 26 + fieldsSum fs := by
  unfold encFields fieldsSum
  generalize op * 2 ^ 26 = base
  induction fs generalizing base with
  | nil => rfl
  | cons f fs ih => rw [List.foldl_cons, ih, List.map_cons, List.sum_cons, Nat.add_assoc]

theorem fieldsSum_cons (v lo : Nat) : fieldsSum ((v, lo) :: fs) = v * 2 ^ lo + fieldsSum fs := by
  simp [fieldsSum]

theorem fieldsSum_lt (h : fieldsFit top fs) : fieldsSum fs < 2 ^ top := by
  induction fs generalizing top with
  | nil => exact Nat.two_pow_pos top
  | cons f fs ih =>
    obtain ⟨hle, hv, hrest⟩ := h
    calc fieldsSum (f :: fs) = f.1 * 2 ^ f.2 + fieldsSum fs := fieldsSum_cons f.1 f.2
      _ < (f.1 + 1) * 2 ^ f.2 := by rw [Nat.succ_mul]; exact Nat.add_lt_add_left (ih hrest) _
      _ ≤ 2 ^ (top - f.2) * 2 ^ f.2 := Nat.mul_le_mul_right _ hv
      _ = 2 ^ top := by rw [← Nat.pow_add, Nat.sub_add_cancel hle]

/-- Fields that fit read back with their values, whatever stands above them. -/
theorem fieldsRead_of_fit (h : fieldsFit top fs) (hi : Nat) : fieldsRead (hi * 2 ^ top + fieldsSum fs) top fs := by
  induction fs generalizing top hi with
  | nil => exact h
  | cons f fs ih =>
    obtain ⟨hle, hv, hrest⟩ := h
    have hshift : hi * 2 ^ top + fieldsSum (f :: fs) = (hi * 2 ^ (top - f.2) + f.1) * 2 ^ f.2 + fieldsSum fs := by
      rw [fieldsSum_cons f.1 f.2, Nat.add_mul, Nat.mul_assoc, ← Nat.pow_add, Nat.sub_add_cancel hle, Nat.add_assoc]
    rw [hshift]
    refine ⟨hle, ?_, ih hrest _⟩
    rw [bitsOf, Nat.mul_comm _ (2 ^ f.2), Nat.mul_add_div (Nat.two_pow_pos _), Nat.div_eq_of_lt (fieldsSum_lt hrest), Nat.add_zero,
      Nat.mul_add_mod_self_right, Nat.mod_eq_of_lt hv]

/-- A word's low part is the number of the fields read in it. -/
theorem fieldsSum_of_read (h : fieldsRead w top fs) : fieldsSum fs = w % 2 ^ top := by
  induction fs generalizing top with
  | nil => rw [show top = 0 from h]; exact (Nat.mod_one w).symm
  | cons f fs ih =>
    obtain ⟨hle, hv, hrest⟩ := h
    rw [fieldsSum_cons f.1 f.2, ih hrest, ← hv, bitsOf, ← Nat.sub_add_cancel hle, Nat.add_sub_cancel, Nat.pow_add,
      Nat.mul_comm (2 ^ (top - f.2)), Nat.mod_mul, Nat.add_comm, Nat.mul_comm]


/-! ### The layouts of chapter 8 -/

/-- The major opcode and the fields of an instruction, its zero fields included, from bit 31 down (R243 to R270). -/
def Op.layout : Op → List (Nat × Nat)
  | .alu f rd ra rb => [(0x01, 26), (rd, 21), (ra, 16), (rb, 11), (0, 4), (encAlu f, 0)]
  | .shift f rd ra rb => [(0x02, 26), (rd, 21), (ra, 16), (rb, 11), (0, 4), (encShF f, 0)]
  | .muldiv f rd ra rb => [(0x03, 26), (rd, 21), (ra, 16), (rb, 11), (0, 4), (encMulF f, 0)]
  | .aluI f rd ra imm => [(encAluI f, 26), (rd, 21), (ra, 16), (imm, 0)]
  | .movhi rd imm => [(0x08, 26), (rd, 21), (0, 16), (imm, 0)]
  | .shiftI f rd ra n => [(0x09, 26), (rd, 21), (ra, 16), (0, 7), (encShF f, 5), (n, 0)]
  | .ext rd ra pos len sign => [(0x0A, 26), (rd, 21), (ra, 16), (pos, 11), (len - 1, 6), (b2n sign, 5), (0, 0)]
  | .ins rd ra pos len => [(0x0B, 26), (rd, 21), (ra, 16), (pos, 11), (len - 1, 6), (0, 0)]
  | .sel rd ra rb bit => [(0x0C, 26), (rd, 21), (ra, 16), (rb, 11), (bit, 0)]
  | .cmp c bd ra rb => [(0x0D, 26), (encCond c, 22), (bd, 10), (ra, 5), (rb, 0)]
  | .cmpi c bd ra imm => [(0x10 + encCond c, 26), (bd, 14), (ra, 9), (imm, 0)]
  | .bitop f bit => [(0x18, 26), (encBitF f, 24), (0, 16), (bit, 0)]
  | .blog f bd bs => [(0x19, 26), (encBlogF f, 24), (bd, 12), (bs, 0)]
  | .bfr rd w bit => [(0x1A, 26), (rd, 21), (w - 1, 16), (bit, 0)]
  | .atom set rd off => [(0x1B, 26), (rd, 21), (b2n (!set), 20), (0, 15), (off, 0)]
  | .waitb bit => [(0x1C, 26), (0, 16), (bit, 0)]
  | .load f rd ra imm => [(encLd f, 26), (rd, 21), (ra, 16), (imm, 0)]
  | .store f rd ra imm => [(encSt f, 26), (rd, 21), (ra, 16), (imm, 0)]
  | .lut rd ra rb => [(0x2C, 26), (rd, 21), (ra, 16), (rb, 11), (0, 0)]
  | .luti rd ra rb => [(0x2D, 26), (rd, 21), (ra, 16), (rb, 11), (0, 0)]
  | .ctlut rd ra rb n w sign => [(0x2E, 26), (rd, 21), (ra, 16), (rb, 11), (n - 1, 5), (w, 3), (b2n sign, 2), (0, 0)]
  | .j t => [(0x30, 26), (0, 14), (t, 0)]
  | .jal rd t => [(0x31, 26), (rd, 21), (0, 14), (t, 0)]
  | .jr ra => [(0x32, 26), (0, 21), (ra, 16), (0, 0)]
  | .jalr rd ra => [(0x33, 26), (rd, 21), (ra, 16), (0, 0)]
  | .bt b t => [(0x34, 26), (b, 14), (t, 0)]
  | .bf b t => [(0x35, 26), (b, 14), (t, 0)]
  | .bz ra t => [(0x36, 26), (ra, 21), (0, 14), (t, 0)]
  | .bnz ra t => [(0x37, 26), (ra, 21), (0, 14), (t, 0)]
  | .loop l le count => [(0x38, 26), (l, 24), (le, 10), (count, 0)]
  | .loopr l le ra => [(0x39, 26), (l, 24), (le, 10), (0, 5), (ra, 0)]
  | .mflb l rd => [(0x3A, 26), (l, 24), (0, 21), (rd, 16), (0, 0)]
  | .mfle l rd => [(0x3A, 26), (l, 24), (1, 21), (rd, 16), (0, 0)]
  | .mflc l rd => [(0x3A, 26), (l, 24), (2, 21), (rd, 16), (0, 0)]
  | .mtlc l ra => [(0x3A, 26), (l, 24), (3, 21), (ra, 16), (0, 0)]
  | .submit pool ticket ra => [(0x3B, 26), (pool, 24), (ticket, 16), (0, 5), (ra, 0)]
  | .nop => [(0x3C, 26), (0, 22), (0, 0)]
  | .exit ra rb => [(0x3C, 26), (1, 22), (0, 21), (ra, 16), (rb, 11), (0, 0)]
  | .trap n => [(0x3C, 26), (2, 22), (0, 8), (n, 0)]
  | .cx n rd ra rb imm => [(0x3E, 26), (n, 22), (rd, 17), (ra, 12), (rb, 7), (imm, 0)]

theorem encodeCore_eq (op : Op) : encodeCore op = fieldsSum op.layout := by
  cases op <;> simp [encodeCore, Op.layout, encFields_eq, fieldsSum_cons]

theorem encAlu_lt (f : AluF) : encAlu f < 16 := by cases f <;> decide
theorem encShF_lt (f : ShF) : encShF f < 4 := by cases f <;> decide
theorem encMulF_lt (f : MulF) : encMulF f < 16 := by cases f <;> decide
theorem encCond_lt (f : Cond) : encCond f < 16 := by cases f <;> decide
theorem encBitF_lt (f : BitF) : encBitF f < 4 := by cases f <;> decide
theorem encBlogF_lt (f : BlogF) : encBlogF f < 4 := by cases f <;> decide
theorem encAluI_lt (f : AluF) : encAluI f < 64 := by cases f <;> decide
theorem encLd_lt (f : LdF) : encLd f < 64 := by cases f <;> decide
theorem encSt_lt (f : StF) : encSt f < 64 := by cases f <;> decide
theorem b2n_le_one (b : Bool) : b2n b ≤ 1 := by cases b <;> decide

/-- The fields of a well-formed instruction fill a word of 32 bits. -/
theorem layout_fits {op : Op} (h : op.wf = true) : fieldsFit 32 op.layout := by
  cases op <;> simp only [Op.wf, Bool.and_eq_true, decide_eq_true_eq] at h <;>
    simp [Op.layout, fieldsFit, h, encAlu_lt, encShF_lt, lt_trans (encShF_lt _), encMulF_lt, encCond_lt, encBitF_lt, encBlogF_lt,
      encAluI_lt, encLd_lt, encSt_lt, b2n_le_one] <;>
    omega

/-! ### The decoder's fields -/

theorem bitsOf_lt (h : 2 ^ wd ≤ n) : bitsOf w lo wd < n := lt_of_lt_of_le (Nat.mod_lt _ (Nat.two_pow_pos wd)) h

theorem bitsOf_succ_lt (h : 2 ^ wd < n) : bitsOf w lo wd + 1 < n := lt_of_le_of_lt (bitsOf_lt (le_refl _)) h

theorem bitsOf_ne_three : bitsOf w lo 2 ≠ 3 ↔ bitsOf w lo 2 < 3 := by
  have h : bitsOf w lo 2 < 4 := bitsOf_lt (le_refl 4)
  omega

theorem bitOf_eq (w i : Nat) : bitOf w i = (bitsOf w i 1 == 1) := Nat.testBit_eq_decide_div_mod_eq

theorem b2n_beq_one (b : Bool) : (b2n b == 1) = b := by cases b <;> rfl

theorem b2n_bitOf (w i : Nat) : b2n (bitOf w i) = bitsOf w i 1 := by
  have h : bitsOf w i 1 < 2 := bitsOf_lt (le_refl 2)
  rw [bitOf_eq]
  interval_cases bitsOf w i 1 <;> rfl

theorem decShF_encShF (f : ShF) : decShF (encShF f) = some f := by cases f <;> rfl

theorem decShF_eq_some {f : ShF} : decShF n = some f ↔ encShF f = n := by
  refine ⟨fun h => ?_, fun h => h ▸ decShF_encShF f⟩
  unfold decShF at h
  split at h <;> cases h <;> rfl

theorem decMulF_encMulF (f : MulF) : decMulF (encMulF f) = some f := by cases f <;> rfl

theorem decMulF_eq_some {f : MulF} : decMulF n = some f ↔ encMulF f = n := by
  refine ⟨fun h => ?_, fun h => h ▸ decMulF_encMulF f⟩
  unfold decMulF at h
  split at h <;> cases h <;> rfl

theorem decCond_encCond (f : Cond) : decCond (encCond f) = some f := by cases f <;> rfl

theorem decCond_eq_some {f : Cond} : decCond n = some f ↔ encCond f = n := by
  refine ⟨fun h => ?_, fun h => h ▸ decCond_encCond f⟩
  unfold decCond at h
  split at h <;> cases h <;> rfl

theorem decBitF_encBitF (f : BitF) : decBitF (encBitF f) = some f := by cases f <;> rfl

theorem decBitF_eq_some {f : BitF} : decBitF n = some f ↔ encBitF f = n := by
  refine ⟨fun h => ?_, fun h => h ▸ decBitF_encBitF f⟩
  unfold decBitF at h
  split at h <;> cases h <;> rfl

theorem decBlogF_encBlogF (f : BlogF) : decBlogF (encBlogF f) = f := by cases f <;> rfl

theorem encBlogF_decBlogF (w lo : Nat) : encBlogF (decBlogF (bitsOf w lo 2)) = bitsOf w lo 2 := by
  have h : bitsOf w lo 2 < 4 := bitsOf_lt (le_refl 4)
  interval_cases bitsOf w lo 2 <;> rfl

/-! ### What a word reads as -/

/-- The word holds the fields of a well-formed instruction. -/
def holdsOp (w : Nat) (op : Op) : Prop := op.wf = true ∧ fieldsRead w 32 op.layout

theorem decAlu_encAlu {f : AluF} {rd ra rb : Nat} (h : (Op.alu f rd ra rb).wf = true) :
    decAlu (encAlu f) rd ra rb = some (.alu f rd ra rb) := by
  cases f <;> simp_all [Op.wf, decAlu, encAlu]

/-- A word that holds the fields of a well-formed instruction reads as that instruction. -/
theorem decodeCore_of_holdsOp {op : Op} (h : holdsOp w op) : decodeCore w = some op := by
  obtain ⟨hwf, h⟩ := h
  cases op <;> simp only [Op.layout, fieldsRead, Nat.reduceSub, Nat.reduceLeDiff, true_and, and_true] at h
  case alu => simp [decodeCore, h, decAlu_encAlu hwf]
  all_goals simp only [Op.wf, Bool.and_eq_true, decide_eq_true_eq] at hwf
  case aluI f _ _ _ => cases f <;> simp_all [decodeCore, encAluI]
  case cmpi f _ _ _ => cases f <;> simp_all [decodeCore, encCond]
  case load f _ _ _ => cases f <;> simp_all [decodeCore, encLd]
  case store f _ _ _ => cases f <;> simp_all [decodeCore, encSt]
  case ext len _ | ins len | bfr len _ | ctlut len _ _ =>
    have hlen : len - 1 + 1 = len := by omega
    simp [decodeCore, h, hlen, hwf, ne_of_lt, bitOf_eq, b2n_beq_one]
  case loop l _ _ | loopr l _ _ | mflb l _ | mfle l _ | mflc l _ | mtlc l _ =>
    have hl : l ≠ 3 := by omega
    simp [decodeCore, decLreg, h, hl]
  all_goals
    simp [decodeCore, decSys, h, hwf, decShF_encShF, decMulF_encMulF, decCond_encCond, decBitF_encBitF, decBlogF_encBlogF,
      bitOf_eq, b2n_beq_one]

theorem holdsOp_of_decAlu {op : Op} (hop : bitsOf w 26 6 = 0x01) (hzero : bitsOf w 4 7 = 0)
    (h : decAlu (bitsOf w 0 4) (bitsOf w 21 5) (bitsOf w 16 5) (bitsOf w 11 5) = some op) : holdsOp w op := by
  revert op
  unfold decAlu
  split <;> rename_i hfunc <;>
    simp only [Option.ite_none_right_eq_some, Option.some.injEq, reduceCtorEq, and_imp, false_imp_iff, implies_true]
  all_goals
    intros
    subst_vars
    simp [holdsOp, Op.wf, Op.layout, fieldsRead, bitsOf_lt, encAlu, *]

theorem holdsOp_of_decLreg {op : Op} (hop : bitsOf w 26 6 = 0x3A) (hzero : bitsOf w 0 16 = 0)
    (h : decLreg (bitsOf w 24 2) (bitsOf w 21 3) (bitsOf w 16 5) = some op) : holdsOp w op := by
  unfold decLreg at h
  split at h
  · cases h
  · next hl =>
    split at h <;> cases h <;> rename_i hfunc <;>
      simp [holdsOp, Op.wf, Op.layout, fieldsRead, bitsOf_lt, hop, hzero, hfunc, hl, ← bitsOf_ne_three]

theorem holdsOp_of_decSys {op : Op} (hop : bitsOf w 26 6 = 0x3C) (h : decSys w = some op) : holdsOp w op := by
  revert op
  unfold decSys
  split <;> rename_i hfunc <;>
    simp only [Option.ite_none_right_eq_some, Option.some.injEq, reduceCtorEq, and_imp, false_imp_iff, implies_true]
  all_goals
    intros
    subst_vars
    simp [holdsOp, Op.wf, Op.layout, fieldsRead, bitsOf_lt, *]

/-- A word that reads as an instruction holds its fields. -/
theorem holdsOp_of_decodeCore {op : Op} (h : decodeCore w = some op) : holdsOp w op := by
  revert op
  unfold decodeCore
  dsimp only
  split <;> rename_i hop
  -- The opcodes with a decoder of their own are ALU, the loop registers and SYS; the last arm is that of no opcode.
  case h_1 =>
    intro op h
    obtain ⟨hzero, h⟩ := Option.ite_none_right_eq_some.1 h
    exact holdsOp_of_decAlu hop hzero h
  case h_50 =>
    intro op h
    obtain ⟨hzero, h⟩ := Option.ite_none_left_eq_some.1 h
    exact holdsOp_of_decLreg hop (not_not.1 hzero) h
  case h_52 => exact holdsOp_of_decSys hop
  case h_54 => nofun
  all_goals
    simp only [Option.ite_none_right_eq_some, Option.ite_none_left_eq_some, Option.map_eq_some_iff, Option.some.injEq, and_imp,
      forall_exists_index, decShF_eq_some, decMulF_eq_some, decCond_eq_some, decBitF_eq_some, ne_eq, not_or, not_not]
    intros
    subst_vars
  -- The condition of CMP is a field of the word, where each CMPI has an opcode of its own.
  case h_13 => simp [holdsOp, Op.wf, Op.layout, fieldsRead, bitsOf_lt, *]
  all_goals
    simp [holdsOp, Op.wf, Op.layout, fieldsRead, bitsOf_lt, bitsOf_succ_lt, *, encCond, encAluI, encLd, encSt, b2n_bitOf,
      encBlogF_decBlogF, ← bitsOf_ne_three]

theorem encodeCore_lt {op : Op} (h : op.wf = true) : encodeCore op < 2 ^ 32 := by
  rw [encodeCore_eq]
  exact fieldsSum_lt (layout_fits h)

theorem holdsOp_encodeCore {op : Op} (h : op.wf = true) : holdsOp (encodeCore op) op := by
  have hread := fieldsRead_of_fit (layout_fits h) 0
  rw [Nat.zero_mul, Nat.zero_add, ← encodeCore_eq] at hread
  exact ⟨h, hread⟩

theorem decodeCore_encodeCore {op : Op} (h : op.wf = true) : decodeCore (encodeCore op) = some op :=
  decodeCore_of_holdsOp (holdsOp_encodeCore h)

/-- Settles O4: a word reads as an instruction where it holds the fields of its layout, and these make up the word. -/
theorem coreWordsRoundTrip : Obligations.CoreWordsRoundTrip := by
  refine ⟨fun op hwf => ⟨decodeCore_encodeCore hwf, encodeCore_lt hwf⟩, fun w op hw h => ?_⟩
  obtain ⟨hwf, hread⟩ := holdsOp_of_decodeCore h
  rw [encodeCore_eq, fieldsSum_of_read hread, Nat.mod_eq_of_lt hw]
  exact ⟨hwf, rfl⟩

end Sys2Proof.Machine
end

section
/-!
PROOFS. O8 and O9: the words of BLOG and CMPI, and what they do (R254, R256).
-/

namespace Sys2Proof.Machine

variable {s : State} {c : Nat} {j : Job}

/-- Settles O8: the word is that of the BLOG with this FUNC, and each command performs its instruction. -/
theorem bitLogic : Obligations.BitLogic := by
  refine ⟨fun f bd bs hf hbd hbs => ?_, ?_⟩
  · have hcode : encBlogF (if f = 0 then .band else if f = 1 then .bor else if f = 2 then .bxor else .bandn) = f := by
      interval_cases f <;> rfl
    generalize (if f = 0 then BlogF.band else if f = 1 then .bor else if f = 2 then .bxor else .bandn) = g at hcode ⊢
    have hword : 0x19 * 2 ^ 26 + f * 2 ^ 24 + bd * 2 ^ 12 + bs = encodeCore (.blog g bd bs) := by
      simp [encodeCore, encFields, hcode]
    rw [hword]
    exact decodeCore_encodeCore (by simp [Op.wf, hbd, hbs])
  · intro s c bd bs j k set
    exact ⟨(exec_of_issues · rfl), (exec_of_issues · rfl), (exec_of_issues · rfl), (exec_of_issues · rfl)⟩

theorem perform_cmpi {k : Core} {f : Cond} {bd ra imm : Nat} : s.perform c k j (.cmpi f bd ra imm) =
    s.retire c k j { bs := [{ bit := bd, val := condHolds f (k.reg ra) (cmpiImm f imm), rem := 2 }] } := rfl

/-- Settles O9: the word is that of the CMPI of this condition, which compares with its extended immediate. -/
theorem compareImmediate : Obligations.CompareImmediate := by
  refine ⟨fun n bd ra imm f hf hn hbd hra himm => ?_, fun s c bd ra imm n f j hf hn himm h => ?_⟩
  · have hcode := decCond_eq_some.1 hf
    have hword : (0x10 + n) * 2 ^ 26 + bd * 2 ^ 14 + ra * 2 ^ 9 + imm = encodeCore (.cmpi f bd ra imm) := by
      simp [encodeCore, encFields, hcode]
    rw [hword]
    exact decodeCore_encodeCore (by simp [Op.wf, hcode, hn, hbd, hra, himm])
  · dsimp only
    rw [exec_of_issues_cmp (op := fun f => .cmpi f bd ra imm) hf h rfl, perform_cmpi, cmpiImm_of_code hf hn himm]
    interval_cases n <;> cases hf <;> rfl

end Sys2Proof.Machine
end

section
/-!
PROOFS. O5: the ALU and SEL (R247, R249, R251).
-/

namespace Sys2Proof.Machine

variable {n : Nat} {a b : W32}

theorem aluOp_smin : aluOp .smin a b = if a.toInt < b.toInt then a else b := by simp only [aluOp, BitVec.slt, decide_eq_true_eq]

theorem aluOp_smax : aluOp .smax a b = if a.toInt < b.toInt then b else a := by simp only [aluOp, BitVec.slt, decide_eq_true_eq]

theorem aluOp_umin : aluOp .umin a b = if a.toNat < b.toNat then a else b := by simp only [aluOp, BitVec.ult, decide_eq_true_eq]

theorem aluOp_umax : aluOp .umax a b = if a.toNat < b.toNat then b else a := by simp only [aluOp, BitVec.ult, decide_eq_true_eq]

theorem popc32_eq (a : W32) : popc32 a = (List.range 32).countP fun i => a.getLsbD i := List.countP_eq_length_filter.symm

theorem clz32_le (a : W32) : clz32 a ≤ 32 := Nat.sub_le ..

theorem clz32_of_ne (h : a ≠ 0) : clz32 a = 31 - a.toNat.log2 := by
  rw [clz32, if_neg h]
  omega

theorem toNat_lt_of_clz32 (a : W32) : a.toNat < 2 ^ (32 - clz32 a) := by
  by_cases h : a = 0
  · subst h; decide
  · have hlog : a.toNat.log2 < 32 := (Nat.log2_lt (by simpa [BitVec.toNat_eq] using h)).2 a.isLt
    rw [clz32_of_ne h, show 32 - (31 - a.toNat.log2) = a.toNat.log2 + 1 by omega]
    exact Nat.lt_log2_self

theorem le_toNat_of_clz32 (h : clz32 a < 32) : 2 ^ (31 - clz32 a) ≤ a.toNat := by
  have h0 : a ≠ 0 := by rintro rfl; exact absurd h (by decide)
  have hne : a.toNat ≠ 0 := by simpa [BitVec.toNat_eq] using h0
  have hlog : a.toNat.log2 < 32 := (Nat.log2_lt hne).2 a.isLt
  rw [clz32_of_ne h0, show 31 - (31 - a.toNat.log2) = a.toNat.log2 by omega]
  exact Nat.log2_self_le hne

theorem getLsbD_bswap32 (h : n < 32) : (bswap32 a).getLsbD n = a.getLsbD (24 - n / 8 * 8 + n % 8) := by
  interval_cases n <;> simp [bswap32]

/-- A sign-extended field, whose top bit is bit `m`. -/
theorem signExtend_ofNat {m : Nat} (h : n < 2 ^ (m + 1)) : (BitVec.ofNat (m + 1) n).signExtend 32 =
    BitVec.ofInt 32 (if n < 2 ^ m then (n : Int) else (n : Int) - (2 ^ (m + 1) : Nat)) := by
  rw [BitVec.signExtend, BitVec.toInt_eq_toNat_cond, BitVec.toNat_ofNat, Nat.mod_eq_of_lt h, Nat.pow_succ']
  simp only [Nat.mul_lt_mul_left Nat.two_pos]

/-- Settles O5: each command performs its instruction, whose result is the number stated. -/
theorem aluInstructions : Obligations.AluInstructions := by
  intro s c rd ra rb imm bit j himm k a b w
  exact ⟨(exec_of_issues · rfl), (exec_of_issues · rfl), (exec_of_issues · rfl), (exec_of_issues · rfl),
    (exec_of_issues · rfl), (exec_of_issues · rfl), (exec_of_issues · rfl), (exec_of_issues · rfl),
    fun h => (exec_of_issues h rfl).trans (congrArg w aluOp_smin), fun h => (exec_of_issues h rfl).trans (congrArg w aluOp_smax),
    fun h => (exec_of_issues h rfl).trans (congrArg w aluOp_umin), fun h => (exec_of_issues h rfl).trans (congrArg w aluOp_umax),
    fun h => ⟨clz32 a, exec_of_issues h rfl, clz32_le a, toNat_lt_of_clz32 a, le_toNat_of_clz32⟩,
    fun h => (exec_of_issues h rfl).trans (congrArg (fun n => w (BitVec.ofNat 32 n)) (popc32_eq a)),
    fun h => ⟨bswap32 a, exec_of_issues h rfl, fun i hi => getLsbD_bswap32 hi⟩,
    fun h => (exec_of_issues h rfl).trans (congrArg (fun i => w (a + i)) (signExtend_ofNat (m := 15) himm)),
    (exec_of_issues · rfl), (exec_of_issues · rfl), (exec_of_issues · rfl), (exec_of_issues · rfl), (exec_of_issues · rfl)⟩

end Sys2Proof.Machine
end

section
/-!
PROOFS. O6: shifts, bit fields, multiplication and division (R248, R250, R252).
-/

namespace Sys2Proof.Machine

variable {pos len n : Nat} {a d : W32}

theorem sshiftRight_eq (a : W32) (n : Nat) : a.sshiftRight n = BitVec.ofInt 32 (a.toInt / 2 ^ n) := by
  rw [BitVec.sshiftRight, Int.shiftRight_eq_div_pow]
  norm_cast

theorem rotateRight_eq (a : W32) (h : n < 32) : a.rotateRight n = (a >>> n) ||| (a <<< (32 - n)) := by
  rw [BitVec.rotateRight, Nat.mod_eq_of_lt h, BitVec.rotateRightAux]

theorem asSigned_of_lt {wd v : Nat} (h : v < 2 ^ wd) :
    asSigned wd v = if v < 2 ^ (wd - 1) then (v : Int) else (v : Int) - 2 ^ wd := by
  simp [asSigned, Nat.mod_eq_of_lt h]

theorem extOp_signed : extOp a pos len true = BitVec.ofInt 32
    (if a.toNat / 2 ^ pos % 2 ^ len < 2 ^ (len - 1) then (a.toNat / 2 ^ pos % 2 ^ len : Nat)
      else ((a.toNat / 2 ^ pos % 2 ^ len : Nat) : Int) - 2 ^ len) :=
  congrArg (BitVec.ofInt 32) (asSigned_of_lt (Nat.mod_lt _ (Nat.two_pow_pos len)))

/-- A value placed at a bit shows in its field alone. -/
theorem testBit_place (v lo wd i : Nat) :
    (place v lo wd).testBit i = (decide (lo ≤ i ∧ i < lo + wd) && v.testBit (i - lo)) := by
  rw [place, Nat.testBit_mul_two_pow, Nat.testBit_mod_two_pow, ← Bool.and_assoc, ← Bool.decide_and]
  congr 2
  rw [eq_iff_iff]
  omega

theorem testBit_insMask (pos len i : Nat) : ((2 ^ len - 1) * 2 ^ pos).testBit i = decide (pos ≤ i ∧ i < pos + len) := by
  rw [Nat.testBit_mul_two_pow, Nat.testBit_two_pow_sub_one, ← Bool.decide_and]
  congr 1
  rw [eq_iff_iff]
  omega

/-- INS takes the bits of its field from `a` and the others from `d` (R250). -/
theorem getLsbD_insOp {i : Nat} (h : i < 32) :
    (insOp d a pos len).getLsbD i = if pos ≤ i ∧ i < pos + len then a.getLsbD (i - pos) else d.getLsbD i := by
  simp only [insOp, BitVec.getLsbD_or, BitVec.getLsbD_and, BitVec.getLsbD_not, BitVec.getLsbD_ofNat, testBit_insMask, testBit_place,
    BitVec.testBit_toNat, h, decide_true, Bool.true_and]
  split
  · next hin => simp [hin]
  · next hout => simp [hout]

/-- Settles O6: each command performs its instruction, whose result is the number stated. -/
theorem shiftMulDivInstructions : Obligations.ShiftMulDivInstructions := by
  intro s c rd ra rb n pos len j hn _ _ _ k a b w m q
  have hmod : b.toNat % 32 < 32 := Nat.mod_lt _ (by decide)
  exact ⟨(exec_of_issues · rfl), (exec_of_issues · rfl),
    fun h => (exec_of_issues h rfl).trans (congrArg w (sshiftRight_eq a _)),
    fun h => (exec_of_issues h rfl).trans (congrArg w (rotateRight_eq a hmod)),
    (exec_of_issues · rfl), (exec_of_issues · rfl),
    fun h => (exec_of_issues h rfl).trans (congrArg w (sshiftRight_eq a n)),
    fun h => (exec_of_issues h rfl).trans (congrArg w (rotateRight_eq a hn)),
    (exec_of_issues · rfl), fun h => (exec_of_issues h rfl).trans (congrArg w extOp_signed),
    fun h => ⟨insOp (k.reg rd) a pos len, exec_of_issues h rfl, fun i hi => getLsbD_insOp hi⟩,
    (exec_of_issues · rfl), (exec_of_issues · rfl), (exec_of_issues · rfl), (exec_of_issues · rfl),
    (exec_of_issues · rfl), (exec_of_issues · rfl), (exec_of_issues · rfl)⟩

end Sys2Proof.Machine
end

section
/-!
PROOFS. O12: tables and custom instructions (R263 to R265, R270, R271). An instruction without an exception has its table in one
area, in which core addresses and physical ones keep step.
-/

namespace Sys2Proof.Machine

variable {s : State} {c a i m n o p w width : Nat} {signed : Bool} {j : Job} {k : Core} {op : Op} {bs : List Byte} {x : W32}

/-! ### A table in its area (R207, R263, R265) -/

/-- Core addresses of one table have physical addresses in step, for it lies in the image area or in the scratch range. -/
theorem corePhys_add {tier : Nat} (h : tableOk a n = true) (ho : o < n) :
    (corePhys c tier (a + o)).getD 0 = (corePhys c tier a).getD 0 + o := by
  obtain himage | hscratch := (Bool.or_eq_true _ _).mp h
  · have hend : a + n ≤ 0x10000 := of_decide_eq_true himage
    have hregion : ∀ e ≤ a + o, coreRegion e = 0 := fun e he => if_pos (by omega)
    simp only [corePhys, hregion _ le_rfl, hregion a (by omega), Option.getD_some, coreAddr]
    omega
  · obtain ⟨hstart, hend⟩ : 0x10000 ≤ a ∧ a + n ≤ 0x18000 := by simpa [inScratch] using hscratch
    have hregion : ∀ e, a ≤ e → e ≤ a + o → coreRegion e = 1 := fun e hae he => by
      rw [coreRegion, if_neg (by omega), if_pos (by omega)]
    simp only [corePhys, hregion _ (Nat.le_add_right a o) le_rfl, hregion a le_rfl (Nat.le_add_right a o), Option.getD_some,
      coreAddr]
    omega

theorem fld_localBytes (h : tableOk a n = true) (hm : 0 < m) (ho : o + m ≤ n) :
    fld (s.localBytes c k a n) o m = ofLE (s.localBytes c k (a + o) m) := by
  unfold State.localBytes
  rw [fld_bytes ho, corePhys_add h (by omega)]

/-- An issue without an exception meets none of those that its instruction can. -/
theorem not_met_of_issues {code : Nat} {met : Bool} (h : s.issues c j op)
    (hmem : (code, met) ∈ s.exceptions c (s.core c).age j op) : met = false := by
  obtain ⟨-, -, -, hexc⟩ := h
  exact Bool.eq_false_iff.2 (List.find?_eq_none.1 (Option.map_eq_none_iff.1 hexc) _ hmem)

/-- An issue without LOCAL_RANGE has its table wholly in one area (R233, R263, R265). -/
theorem tableOk_of_issues (h : s.issues c j op)
    (hmem : (0x06, !tableOk a (min m n) || !tableOk a n) ∈ s.exceptions c (s.core c).age j op) : tableOk a n = true := by
  simpa using (Bool.or_eq_false_iff.1 (not_met_of_issues h hmem)).2

/-! ### Entries (R263, R264) -/

/-- The entry of a width at a core address, sign-extended where the table is signed. -/
def State.entryAt (s : State) (c : Nat) (k : Core) (width : Nat) (signed : Bool) (a : Nat) : Int :=
  let v := ofLE (s.localBytes c k a width)
  if signed ∧ 2 ^ (8 * width - 1) ≤ v then (v : Int) - 2 ^ (8 * width) else v

theorem lutEntry_eq_entryAt (h : fld bs (i * width) width = ofLE (s.localBytes c k a width)) :
    lutEntry bs width signed i = s.entryAt c k width signed a := by
  have hlt : ofLE (s.localBytes c k a width) < 2 ^ (8 * width) := by
    rw [Nat.pow_mul]
    exact ofLE_bytes_lt _ width
  unfold lutEntry State.entryAt
  dsimp only
  rw [h, asSigned_of_lt hlt]
  cases signed with
  | false => simp
  | true => simp only [if_true, true_and, ← Nat.not_lt, ite_not]

theorem lutWidth_pos (w : Nat) : 0 < lutWidth w := by
  unfold lutWidth
  split_ifs <;> decide

theorem line_div_lutWidth_mul (w : Nat) : 32 / lutWidth w * lutWidth w = 32 := by
  unfold lutWidth
  split_ifs <;> rfl

theorem bitsOf_zero (v wd : Nat) : bitsOf v 0 wd = v % 2 ^ wd := by rw [bitsOf, Nat.pow_zero, Nat.div_one]

/-- The header of the LUT table at a core address (R263). -/
def State.lutHeader (s : State) (c : Nat) (k : Core) (a : Nat) : Nat := ofLE (s.localBytes c k a 4)

/-- The entry of the LUT table at a core address, as its header gives width and sign (R263, R264). -/
def State.lutEntryAt (s : State) (c : Nat) (k : Core) (a i : Nat) : Int :=
  let width := lutWidth (bitsOf (s.lutHeader c k a) 16 2)
  s.entryAt c k width (bitOf (s.lutHeader c k a) 18) (a + 4 + i * width)

theorem fld_lutHeader (h : tableOk a (s.lutBytes c k a) = true) :
    fld (s.localBytes c k a (s.lutBytes c k a)) 0 4 = s.lutHeader c k a :=
  fld_localBytes h (by decide) (Nat.le_add_right 4 _)

/-- The entries behind the header are those at their core addresses. -/
theorem lutEntry_eq_lutEntryAt (h : tableOk a (s.lutBytes c k a) = true) (hi : i < s.lutHeader c k a % 2 ^ 16) :
    lutEntry ((s.localBytes c k a (s.lutBytes c k a)).drop 4) (lutWidth (bitsOf (s.lutHeader c k a) 16 2))
      (bitOf (s.lutHeader c k a) 18) i = s.lutEntryAt c k a i := by
  refine lutEntry_eq_entryAt ?_
  have hend : 4 + (i + 1) * lutWidth (bitsOf (s.lutHeader c k a) 16 2) ≤ s.lutBytes c k a :=
    Nat.add_le_add_left (Nat.mul_le_mul_right _ (bitsOf_zero _ 16 ▸ hi)) 4
  rw [Nat.succ_mul, ← Nat.add_assoc] at hend
  rw [fld, sliceB, List.drop_drop, Nat.add_assoc]
  exact fld_localBytes h (lutWidth_pos _) hend

/-! ### What the table instructions give (R264, R265) -/

/-- The rounded line from entry i on, of segments p wide, at f within the segment. -/
def lutLine (t : Nat → Int) (p i f : Nat) : Int := t i + ((t (i + 1) - t i) * (f : Int) + ((p / 2 : Nat) : Int)) / (p : Int)

section
variable {hdr : Nat} {t : Nat → Int} (hn : bitsOf hdr 0 16 = n)
  (ht : ∀ i < n, lutEntry bs (lutWidth (bitsOf hdr 16 2)) (bitOf hdr 18) i = t i)
include hn ht

/-- LUT gives entry min(x, N - 1), and 0 where there is no entry. -/
theorem lutOp_eq : lutOp hdr bs x = if n = 0 then 0 else BitVec.ofInt 32 (t (min x.toNat (n - 1))) := by
  subst hn
  unfold lutOp
  dsimp only
  split
  · rfl
  · rw [ht _ (by omega)]

/-- LUTI gives the rounded line in the segment of x, and from the last entry on that entry. -/
theorem lutiOp_eq (hp : 2 ^ min (bitsOf hdr 19 5) 24 = p) : lutiOp hdr bs x =
    if n = 0 then 0
    else BitVec.ofInt 32 (if n - 1 ≤ x.toNat / p then t (n - 1) else lutLine t p (x.toNat / p) (x.toNat % p)) := by
  subst hn hp
  unfold lutiOp lutLine
  dsimp only
  split
  · rfl
  · split
    · rw [ht _ (by omega)]
    · rw [ht _ (by omega), ht _ (by omega), Nat.mod_eq_sub_div_mul]

end

/-- CTLUT gives the entry of the index, and 0 where the lines have none. -/
theorem ctlutOp_eq (h : tableOk a (32 * n) = true) : ctlutOp n w signed (s.localBytes c k a (32 * n)) x =
    if x.toNat < n * (32 / lutWidth w) then
      BitVec.ofInt 32 (s.entryAt c k (lutWidth w) signed (a + lutWidth w * x.toNat)) else 0 := by
  unfold ctlutOp
  dsimp only
  split
  · next hx =>
    have hend : (x.toNat + 1) * lutWidth w ≤ 32 * n := by
      calc (x.toNat + 1) * lutWidth w ≤ n * (32 / lutWidth w) * lutWidth w := Nat.mul_le_mul_right _ hx
        _ = 32 * n := by rw [Nat.mul_assoc, line_div_lutWidth_mul, Nat.mul_comm]
    rw [Nat.succ_mul] at hend
    rw [lutEntry_eq_entryAt (fld_localBytes h (lutWidth_pos w) hend), Nat.mul_comm]
  · rfl

theorem next_retire_ws_congr {d dist tbl : Nat} {v v' : W32} (h : v = v') :
    (.next (s.retire c k j { ws := putReg d v dist, tbl := tbl }) : Host.Outcome State Fault Refusal) =
      .next (s.retire c k j { ws := putReg d v' dist, tbl := tbl }) :=
  next_retire_congr (by rw [h])

/-- Settles O12: each command performs its instruction, whose table lies in one area. -/
theorem tableInstructions : Obligations.TableInstructions := by
  intro s c rd ra rb n w num imm sign j _ _ _ _ _ k base x hdr len width entry p line e
  have hlen : bitsOf (s.lutHeader c k base) 0 16 = len := bitsOf_zero hdr 16
  refine ⟨fun h => ?_, fun h => ?_, fun h => ?_, (exec_of_issues · rfl)⟩
  · have htab : tableOk base (s.lutBytes c k base) = true := tableOk_of_issues (m := 4) h (by simp [State.exceptions, base, k])
    refine (exec_of_issues h rfl).trans (next_retire_ws_congr ?_)
    exact (congrArg (fun h => lutOp h _ _) (fld_lutHeader htab)).trans
      (lutOp_eq hlen fun i hi => lutEntry_eq_lutEntryAt htab hi)
  · have htab : tableOk base (s.lutBytes c k base) = true := tableOk_of_issues (m := 4) h (by simp [State.exceptions, base, k])
    refine (exec_of_issues h rfl).trans (next_retire_ws_congr ?_)
    exact (congrArg (fun h => lutiOp h _ _) (fld_lutHeader htab)).trans
      (lutiOp_eq (p := p) hlen (fun i hi => lutEntry_eq_lutEntryAt htab hi) rfl)
  · have htab : tableOk base (32 * n) = true := tableOk_of_issues (m := 32) h (by simp [State.exceptions, base, k])
    exact (exec_of_issues h rfl).trans (next_retire_ws_congr (ctlutOp_eq htab))

end Sys2Proof.Machine
end


section
-- Checked in order, the proofs do not hold one thread each.
set_option Elab.async false
/-!
PROOFS. O39 fails: the refusal of a wrong descriptor (R389) is of a job's command. A unit's command (R403) has a descriptor of the
model's own, which is not checked. The statement has any PROMISED command of the pool refused. That SES and the ceremony submit
BEST commands alone, a premise of the statement does not say.
-/

namespace Sys2Proof.Machine

/-- A PROMISED command under SES's number for context 0, with operation 0x99, which no descriptor may have. -/
def sesCommand : Cmd :=
  { pool := 2, job := 2 ^ 32, ticket := 0, core := 1008, tier := 1, dome := 0, artEpoch := 0, promise := some 9
    desc := 0x99 :: zeros 63 }

/-- Main power on, and that command waits for an engine. -/
def sesCommandWaits : State := { State.reset with pwr := { main := .on }, cmds := [sesCommand] }

/-- It takes an engine and is not refused. -/
theorem sesCommandWaits_etuSchedule :
    ∃ t, exec .pkeEtuSchedule sesCommandWaits = .next t ∧ t.get R.PKE_REFUSED_COUNT = 0 :=
  ⟨_, rfl, by decide +kernel⟩

/-- Refutes O39: its clause on a wrong descriptor counts a refusal of `sesCommand`, which is not refused. -/
theorem not_pkeScheduling : ¬ Obligations.PkeScheduling := by
  intro h
  obtain ⟨-, hrefused, -⟩ := h sesCommandWaits sesCommand (by decide)
  have hcounted := hrefused rfl rfl rfl rfl rfl (by decide +kernel) (by decide +kernel)
  obtain ⟨t, ht, hnone⟩ := sesCommandWaits_etuSchedule
  cases ht.symm.trans hcounted
  exact absurd hnone (by decide +kernel)

end Sys2Proof.Machine
end

section
set_option Elab.async false
/-!
PROOFS. O40 fails: a block stored while the DRBG is starved (R424) is taken at once by the reseed that it completes (R419). The
statement has the store keep it.
-/

namespace Sys2Proof.Machine

/-- Pair 3 ON, the DRBG seeded and starved with a reseed due, and one block in the store. -/
def starvedPair : State :=
  { ((({ State.reset with pwr := { main := .on } }.set (R.ENT_PAIR_STAT_STATE 3) 1).set R.ENT_STATUS_SEEDED 1).set
      R.ENT_STATUS_STARVED 1) with
    ent := { pairs := [(3, { good := 3 })], store := [zeros 32], due := true } }

/-- A window of 512 ones without a run longer than 2. -/
def evenWindow : List Byte := List.replicate 128 0x5A

theorem starvedPair_windowEnd :
    ∃ t, exec (.entWindowEnd 3 evenWindow) starvedPair = .next t ∧ t.ent.store = [] :=
  ⟨_, rfl, by decide +kernel⟩

/-- Refutes O40: its clause on a good window of a pair that is ON has one block more in the store, which is empty after the
window of `starvedPair`. -/
theorem not_entropyHealth : ¬ Obligations.EntropyHealth := by
  intro h
  obtain ⟨hgood, -⟩ := h starvedPair 3 evenWindow (by decide) (by decide)
  obtain ⟨t, ht, hstored, -⟩ := hgood (by decide +kernel) (by decide +kernel) (by decide +kernel) (by decide)
  obtain ⟨u, hu, hempty⟩ := starvedPair_windowEnd
  cases ht.symm.trans hu
  simp [hempty] at hstored

end Sys2Proof.Machine
end

section
set_option Elab.async false
/-!
PROOFS. O43 fails: a firing with SESSIONS in its mask breaks the jobs in flight (R438 step 1), and a job that ends gives back its key
slots (R355). The statement has the key cache as it was.
-/

namespace Sys2Proof.Machine

/-- LIGHT waits for its firing, with SESSIONS alone in its mask, and a job runs that holds key slot 5. -/
def keyHeldAtFiring : State :=
  { { State.reset with pwr := { main := .on }, tmp := { live := true, queue := [{ src := 7 }] } }.set (R.TMP_MASK_MASK 7) 8 with
    key := { slots := [(5, { st := 2, refs := 1 })] }
    jsc := { jobs := [{
      id := 1, cls := 0, handler := 3, jobnum := 9, session := 1, dome := 2, epoch := 1, st := .running, slots := [5] }] } }

/-- The slot is no longer held. -/
theorem keyHeldAtFiring_fires :
    ∃ t, exec (.tamperFiring ⟨1, 9⟩) keyHeldAtFiring = .next t ∧ t.key ≠ keyHeldAtFiring.key :=
  ⟨_, rfl, by decide +kernel⟩

/-- Refutes O43: its clause on SESSIONS keeps the key cache, which changes in the firing of `keyHeldAtFiring`. -/
theorem not_tamperResponses : ¬ Obligations.TamperResponses := by
  intro h
  obtain ⟨-, -, -, -, -, -, hsessions, -⟩ := h keyHeldAtFiring { src := 7 } (by decide) rfl rfl rfl (by decide +kernel)
    (by decide +kernel) (by decide)
  obtain ⟨t, ht, -, -, -, hkept, -⟩ := hsessions (by decide +kernel)
  obtain ⟨u, hu, hchanged⟩ := keyHeldAtFiring_fires
  cases ht.symm.trans hu
  exact hchanged hkept

end Sys2Proof.Machine
end

section
set_option Elab.async false
/-!
PROOFS. O45 fails: a message that names a session context takes the SEQ of that context as its first datagram leaves (R458), one that
is a whole frame too. The statement has a frame leave nothing changed but NET. NET's own frames name no context, which no premise of
the statement says.
-/

namespace Sys2Proof.Machine

/-- A whole frame that names context 0. -/
def frameInSession : TxMsg := { raw := [1], ctx := some 0 }

/-- Link 0 sends, that frame waits for it, and context 0 holds an open session. -/
def frameWaits : State :=
  ({ State.reset with pwr := { main := .on } }.setNet
    { section_ := zeros 8 ++ [1] ++ zeros 87, tx := [frameInSession] }).setSes
    { ctxs := [(0, { st := 2, eps := [{ ms := [] }] })], cache := [0] }

theorem frameWaits_messageTx : ∃ t, exec (.messageTx 0) frameWaits = .next t ∧ t.ses ≠ frameWaits.ses :=
  ⟨_, rfl, by decide +kernel⟩

/-- Refutes O45: its clause on a whole frame has every session as it was, yet the one of `frameWaits` has another SEQ. -/
theorem not_networkLinks : ¬ Obligations.NetworkLinks := by
  intro h
  obtain ⟨-, -, -, -, -, -, -, -, -, -, -, -, hframe, -⟩ := h frameWaits 0 (by decide +kernel) (by decide)
  obtain ⟨t, ht, -, -, -, hrest, -⟩ := hframe frameInSession (by decide +kernel) (by decide +kernel) (by decide) rfl
  have hkept := congrArg State.ses hrest
  obtain ⟨u, hu, hchanged⟩ := frameWaits_messageTx
  cases ht.symm.trans hu
  exact hchanged hkept

end Sys2Proof.Machine
end

section
set_option Elab.async false
/-!
PROOFS. O46 fails: an APP message of a federation session that is none of the federation's types is dropped by itself; what the
keep's ring has no room for is counted (R476). The statement counts both.
-/

namespace Sys2Proof.Machine

/-- An APP message without a body, received in context 0. -/
def emptyApp : RxMsg := { ctx := some 0, kind := 0x10, peer := {}, body := [], at_ := 0 }

/-- It has come in a federation session, and the keep's ring has no entries. -/
def emptyAppWaits : State :=
  { State.reset with pwr := { main := .on } }.setSes
    { ctxs := [(0, { st := 2, fed := true })], cache := [0], inbox := [emptyApp] }

theorem emptyAppWaits_app : ∃ t, exec .app emptyAppWaits = .next t ∧ t.get R.SES_CTX_DROP_COUNT = 0 :=
  ⟨_, rfl, by decide +kernel⟩

/-- Refutes O46: its clause on a full ring counts a drop, and none is counted for the message of `emptyAppWaits`. -/
theorem not_sessionDatagrams : ¬ Obligations.SessionDatagrams := by
  intro h
  obtain ⟨-, -, -, -, -, -, hdrop, -⟩ := h emptyAppWaits emptyApp 0 (by decide +kernel)
  have hcounted := hdrop (by decide +kernel) (by decide +kernel) (by decide +kernel) (by decide +kernel)
  obtain ⟨t, ht, hnone⟩ := emptyAppWaits_app
  cases ht.symm.trans hcounted
  exact absurd hnone (by decide +kernel)

end Sys2Proof.Machine
end

section
set_option Elab.async false
/-!
PROOFS. O48 fails: a hello that opens a context while 4,096 are on die sends the one used earliest back to DDR (R474), which writes
memory, or is a violation. The statement has nothing change but the sessions.
-/

namespace Sys2Proof.Machine

/-- The entry of class 1: link 0 is allowed, and one session. -/
def helloClass : List Byte := [1, 0, 0, 0, 1, 0, 0, 0, 1, 0, 0, 0]

/-- A hello of group 1 for class 1 of dome 2. -/
def hello : RxMsg :=
  { ctx := none, kind := 1, peer := {}, body := [1, 0, 1, 0, 2, 0, 0, 0] ++ zeros 97, at_ := 0 }

/-- Dome 2 is READY, 4,096 contexts are on die and none is held; the boot rule set lets SES reach no memory (R321). -/
def helloWaits : State :=
  ((({ State.reset with pwr := { main := .on } }.set R.SES_CTX_VALID 1).set (R.STB_DOM_STATE_STATE 2) 2).setDome 2
    { allot := some { sessions := 1 }, content := some { classes := [helloClass] } }).setSes
    { ctxs := [(0, { st := 2 })], cache := (List.range 4096).reverse, inbox := [hello] }

/-- The violation is told to the FCU (R36). -/
theorem helloWaits_helloC : ∃ t, exec .helloC helloWaits = .next t ∧ t.faultQ ≠ [] :=
  ⟨_, rfl, by decide +kernel⟩

/-- Refutes O48: its clause on a hello that opens a context reports no fault, yet the one of `helloWaits` does. -/
theorem not_sessionHandshakes : ¬ Obligations.SessionHandshakes := by
  intro h
  obtain ⟨-, -, -, hopens, -⟩ := h helloWaits hello 0 (by decide +kernel)
  obtain ⟨t, ht, -, -, -, -, -, -, -, -, hrest, -⟩ := hopens helloClass 1 (by decide +kernel) (by decide +kernel)
    (by decide +kernel) (by decide +kernel) (by decide +kernel) (by decide +kernel) (by decide +kernel) (by decide +kernel)
  have hkept := congrArg State.faultQ hrest
  obtain ⟨u, hu, htold⟩ := helloWaits_helloC
  cases ht.symm.trans hu
  exact htold hkept

end Sys2Proof.Machine
end

section
set_option Elab.async false
/-!
PROOFS. O51 fails: a PROGRAM takes its page from DDR (R498), all 512 bytes of it. The statement looks at the first byte alone, so
that a page across the end of DDR is refused with another code.
-/

namespace Sys2Proof.Machine

/-- The ledger is scanned; the source is the last line of DDR, and the page at the address is not blank. -/
def sourcePastDdr : State :=
  { ((({ State.reset with pwr := { main := .on } }.set R.FLC_STATUS_SCANNED 1).set R.FLC_SRC_ADDR (2 ^ 31 - 1)).set
      R.FLC_ADDR_OFFSET 0x800000) with
    mem := [(flashAddr 0x800000, 0)] }

theorem sourcePastDdr_program :
    ∃ t, exec (.program 0) sourcePastDdr = .next t ∧ t.get R.FLC_RESULT_CODE = 0x0603 :=
  ⟨_, rfl, by decide +kernel⟩

/-- Refutes O51: its clause on a page that is not blank gives 0x0602, and the range of `sourcePastDdr` is refused before that
with 0x0603. -/
theorem not_flashCommands : ¬ Obligations.FlashCommands := by
  intro h
  obtain ⟨-, -, hnotBlank, -⟩ := h sourcePastDdr 0 (by decide +kernel)
  have hrefused := hnotBlank (by decide +kernel) (by decide +kernel) (by decide +kernel) (by decide +kernel) (by decide +kernel)
    (by decide +kernel) (by decide +kernel)
  obtain ⟨t, ht, hrange⟩ := sourcePastDdr_program
  cases ht.symm.trans hrefused
  exact absurd hrange (by decide +kernel)

end Sys2Proof.Machine
end

section
set_option Elab.async false
/-!
PROOFS. O52 fails: a hold-off expires on the edge after its time is over, since a read of the bank on the expiry edge wins (R23,
R503). The statement has it expire on that edge.
-/

namespace Sys2Proof.Machine

/-- An operation is suspended for a read at 1 µs, and 100 µs, its hold-off, have passed since, at an edge of the time base. -/
def holdoffAtEdge : State :=
  { ({ State.reset with pwr := { main := .on, edge := 5 / 8 } }.set R.FLC_STATUS_AUTOSUSPENDED 1).set R.TIME_DTIME_NS 101000 with
    flc := { lastRead := 1000 } }

theorem holdoffAtEdge_expiry :
    ∃ t, exec .holdoffExpiry holdoffAtEdge = .next t ∧ t.get R.FLC_STATUS_AUTOSUSPENDED = 1 :=
  ⟨_, rfl, by decide +kernel⟩

/-- Refutes O52: its clause on a hold-off clears AUTOSUSPENDED, which stays set in `holdoffAtEdge`. -/
theorem not_flashProgress : ¬ Obligations.FlashProgress := by
  intro h
  obtain ⟨-, -, -, -, -, -, -, -, -, -, hexpires, -⟩ := h holdoffAtEdge { op := 1, addr := 0, size := 0 } (by decide +kernel)
  have hcleared := hexpires (by decide +kernel) (by decide +kernel)
  obtain ⟨t, ht, hstays⟩ := holdoffAtEdge_expiry
  cases ht.symm.trans hcleared
  exact absurd hstays (by decide +kernel)

end Sys2Proof.Machine
end

section
set_option Elab.async false
/-!
PROOFS. O53 fails: a slot remembers that DEEP stopped its CLK, to let it run again (R532), and a card switched off has no CLK to
let run (R521). The statement has a DEACTIVATE leave the slot with what it remembers.
-/

namespace Sys2Proof.Machine

/-- A card in slot 0, whose CLK has been stopped for DEEP. -/
def clockStoppedForDeep : State :=
  { { State.reset with pwr := { main := .on } }.set (R.ICC_STATUS_PRESENT 0) 1 with icc := [(0, { woke := true })] }

theorem clockStoppedForDeep_deactivate :
    ∃ t, exec (.iccDeactivate 0) clockStoppedForDeep = .next t ∧ (t.iccSlot 0).woke = false :=
  ⟨_, rfl, by decide +kernel⟩

/-- Refutes O53: its clause on a DEACTIVATE of an idle slot keeps what the slot of `clockStoppedForDeep` remembers, which is
gone. -/
theorem not_contactCards : ¬ Obligations.ContactCards := by
  intro h
  obtain ⟨-, -, -, -, -, hoff, -⟩ := h clockStoppedForDeep 0 (by decide)
  have hkept := hoff (by decide +kernel) (by decide +kernel) (by decide +kernel) (by decide +kernel) (by decide +kernel)
  obtain ⟨t, ht, hgone⟩ := clockStoppedForDeep_deactivate
  cases ht.symm.trans hkept
  exact absurd hgone (by decide +kernel)

end Sys2Proof.Machine
end

section
set_option Elab.async false
/-!
PROOFS. O55 and O56 fail: an operation of the card that reads its buffer waits while the buffer's flash bank is under an operation
(R503), and the card's answer is taken up when that is over. The statements have it taken up at once.
-/

namespace Sys2Proof.Machine

/-- The buffer of the card host lies in flash, which the host may read, and its bank is under an erase without AUTOSUSP. -/
def bufferInBusyBank (k : Sdh) : State :=
  { ((({ State.reset with pwr := { main := .on } }.set R.ART_STATUS_BOOTSET 0).set R.SDH_ADDR_ADDR 0x78000000).set
      R.FLC_CTRL_AUTOSUSP 0) with
    artCur := [(0, { base := 0xF000000, pages := 16, classes := 0x10, rmask := 1 })]
    flc := { op := some { op := 2, addr := 0, size := 0x10000 } }
    sdh := k }

/-- The answer that would end an identification waits, where the operation is a WRITE. O55 does not say that the operation in
that phase is an INIT. -/
theorem mode_response_waits :
    ∃ t, exec (.sdResponse 0 ⟨[], 0⟩) (bufferInBusyBank { op := 3, phase := .mode }) = .next t ∧ t.get R.SDH_STATUS_READY = 0 :=
  ⟨_, rfl, by decide +kernel⟩

/-- Refutes O55: its clause on the end of the mode's selection sets READY, which stays clear while the answer waits. -/
theorem not_removableCard : ¬ Obligations.RemovableCard := by
  intro h
  obtain ⟨-, -, -, -, -, -, -, -, -, -, -, -, -, hmode, -⟩ := h (bufferInBusyBank { op := 3, phase := .mode })
  have hready := hmode [] (by decide +kernel) (by decide +kernel) rfl
  obtain ⟨t, ht, hclear⟩ := mode_response_waits
  cases ht.symm.trans hready
  exact absurd hclear (by decide +kernel)

/-- The answer that gives an RPMB_WRITE its write counter waits, though it does not verify. -/
theorem counter_response_waits :
    ∃ t, exec (.sdResponse 0 ⟨[], 0⟩) (bufferInBusyBank { op := 7, phase := .counter }) = .next t ∧ t.get R.SDH_RESULT_CODE = 0 :=
  ⟨_, rfl, by decide +kernel⟩

/-- Refutes O56: its clause on the counter of an RPMB_WRITE ends with SD_AUTH (0x0728), where nothing has ended while the answer
waits. -/
theorem not_cardSealed : ¬ Obligations.CardSealed := by
  intro h
  obtain ⟨-, -, -, -, -, -, -, -, -, hcounter, -⟩ := h (bufferInBusyBank { op := 7, phase := .counter }) (by decide +kernel)
  have hends := hcounter [] ⟨rfl, rfl⟩
  rw [if_neg (by decide +kernel)] at hends
  obtain ⟨t, ht, hwaits⟩ := counter_response_waits
  cases ht.symm.trans hends
  exact absurd hwaits (by decide +kernel)

end Sys2Proof.Machine
end

section
-- Checked in order, the proofs do not hold one thread each.
set_option Elab.async false
/-!
PROOFS. O47 fails: SES reads a context that is not on die before it destroys the old epoch's keys (R474), so that the context reads as
SES left it. The statement has it fetched after the change, when it is another than what lies in DDR, and nothing is sent.
-/

namespace Sys2Proof.Machine

/-- Nothing is forbidden in a transfer whose every byte is allowed (R319). -/
theorem judge_eq_none {s : State} {x : Xfer} {type : Nat} :
    ∀ {n a : Nat}, (∀ b, a ≤ b → b < a + n → s.allows x type b = true) → s.judge x type a n = none
  | 0, _, _ => rfl
  | n + 1, a, h => by
    rw [State.judge, if_pos (h a (Nat.le_refl a) (by omega))]
    exact judge_eq_none fun b hab hbn => h b (by omega) (by omega)

/-- An allowed READ of DDR that meets no disturbance gives what the lines hold (R33, R285). -/
theorem rd_ddr_of_judge {s : State} {x : Xfer} {a n : Nat} (hj : s.judge x 0 a n = none) (hbus : s.bus = []) (ha : isDdr a = true) :
    s.rd x a n = ((s.readDdr x.agent x.dom a n (n / 64 + 2)).1, (s.readDdr x.agent x.dom a n (n / 64 + 2)).2.2) := by
  have hreg : isReg a = false := by simp only [isDdr, decide_eq_true_eq] at ha; simp [isReg]; omega
  have htake : s.busTake x.agent = (none, s) := by simp [State.busTake, hbus]
  simp [State.rd, State.rdO, State.issue, State.instrClosed, hitsInstr, hj, htake, State.crossed, State.unitServe, hreg, ha]

/-- What a range of memory holds, memory says. -/
theorem bytes_eq_of_mem {s t : State} (h : s.mem = t.mem) (a n : Nat) : s.bytes a n = t.bytes a n := by
  simp only [State.bytes, State.byte, h]

/-- The bytes of one line, cut from the line. -/
theorem sliceB_bytes (s : State) {a n m : Nat} (h : m ≤ n) : sliceB (s.bytes a n) 0 m = s.bytes a m :=
  List.ext_getElem (by simp [sliceB, State.bytes, h]) fun i _ _ => by simp [sliceB, State.bytes]

theorem bytes_add (s : State) (a m n : Nat) : s.bytes a (m + n) = s.bytes a m ++ s.bytes (a + m) n := by
  simp [State.bytes, List.range_add, Nat.add_assoc, Function.comp_def]

/-- A read of DDR without a bad line, from the start of a line, gives what the lines hold and changes nothing (R285). -/
theorem readDdr_of_noBad {s : State} (h : s.memc.bad = []) {agent dom : Nat} :
    ∀ {k a n : Nat}, a % 64 = 0 → n ≤ 64 * k → s.readDdr agent dom a n k = (s.bytes a n, 0, s)
  | 0, a, n, _, hn => by obtain rfl : n = 0 := by omega
                         rfl
  | k + 1, a, n, ha, hn => by
    have hline : ∀ l, s.readLine l agent dom = (s.bytes l 64, 0, s) := fun l => by
      simp [State.readLine, State.lineState, h, tabGet, tabFind]
    have hstart : lineOf a = a := by simp only [lineOf]; omega
    by_cases h0 : n = 0
    · simp [State.readDdr, h0, State.bytes]
    have hrest := readDdr_of_noBad h (agent := agent) (dom := dom) (k := k) (a := a + min n 64) (n := n - min n 64)
    have hnext : s.readDdr agent dom (a + min n 64) (n - min n 64) k = (s.bytes (a + min n 64) (n - min n 64), 0, s) := by
      rcases Nat.le_total n 64 with hle | hle
      · rw [Nat.min_eq_left hle, Nat.sub_self]
        cases k <;> simp [State.readDdr, State.bytes]
      · exact hrest (by omega) (by omega)
    have hcut : n = min n 64 + (n - min n 64) := by omega
    simp only [State.readDdr, if_neg h0, hstart, hline, Nat.add_sub_cancel_left, Nat.sub_self, hnext]
    rw [sliceB_bytes s (Nat.min_le_right n 64), ← bytes_add, ← hcut]
    rfl

theorem ctxImage_length (s : State) (i : Nat) : (s.ctxImage i).length = 4096 := by
  simp [State.ctxImage, Ses.stateBytes, zeros]
  omega

/-- Bytes that were written are read back. -/
theorem bytes_putBytes (s : State) (a : Nat) (bs : List Byte) : (s.putBytes a bs).bytes a bs.length = bs :=
  List.ext_getElem (by simp [State.bytes]) fun i _ h => by simp [State.bytes, byte_putBytes_inside s a i bs h]

/-- SES may reach the first page of DDR, memory holds `m`, and the sessions are `k`. -/
def sessionsOver (m : List Host.Cell) (k : SesU) : State :=
  { { State.reset with pwr := { main := .on } }.set R.ART_STATUS_BOOTSET 0 with
    artCur := [(0, { base := 0, pages := 1, classes := 0x20, rmask := 1 })]
    mem := m
    ses := k }

/-- What the registers hold does not depend on memory and sessions. -/
theorem sessionsOver_get (m : List Host.Cell) (k : SesU) (f : Fld) : (sessionsOver m k).get f = (sessionsOver [] {}).get f := rfl

theorem sessionsOver_judge (m : List Host.Cell) (k : SesU) :
    (sessionsOver m k).judge { agent := 0x2A2, dom := 0, epoch := 0 } 0 0 4096 = none := by
  have hboot : (sessionsOver m k).is R.ART_STATUS_BOOTSET = false :=
    is_of_get_zero ((sessionsOver_get m k _).trans (by decide +kernel))
  have hcur : (sessionsOver m k).get R.ART_EPOCH_CURRENT = 0 := (sessionsOver_get m k _).trans (by decide +kernel)
  apply judge_eq_none
  intro b _ hb
  simp only [Nat.zero_add] at hb
  have hddr : isDdr b = true := by simp only [isDdr, decide_eq_true_eq]; omega
  have hreg : isReg b = false := by simp [isReg]; omega
  have hgrant : Rule.grants { base := 0, pages := 1, classes := 0x20, rmask := 1 } (agentClass 0x2A2) 0 0 b = true := by
    simp [Rule.grants, Rule.mask, agentClass, hb, Nat.testBit]
  have hbank : (sessionsOver m k).bankOf 0 = [(0, { base := 0, pages := 1, classes := 0x20, rmask := 1 })] := if_pos hcur.symm
  simp [State.allows, unbacked, hddr, hreg, hboot, hbank, hgrant]

theorem sessionsOver_rd (m : List Host.Cell) (k : SesU) : (sessionsOver m k).rd { agent := 0x2A2, dom := 0, epoch := 0 } 0 4096 =
    ((sessionsOver m {}).bytes 0 4096, sessionsOver m k) := by
  rw [rd_ddr_of_judge (sessionsOver_judge m k) rfl rfl, readDdr_of_noBad rfl rfl (by omega),
    bytes_eq_of_mem (s := sessionsOver m k) (t := sessionsOver m {}) rfl]

/-- Bytes written from address 0 are what memory holds there. -/
theorem sessionsOver_bytes_putBytes {bs : List Byte} {n : Nat} (hn : bs.length = n) :
    (sessionsOver ((sessionsOver [] {}).putBytes 0 bs).mem {}).bytes 0 n = bs := by
  subst hn
  exact (bytes_eq_of_mem rfl 0 _).trans (bytes_putBytes (sessionsOver [] {}) 0 bs)

/-- Context 0, which is not on die, is fetched (R474): it keeps its keys where it reads as SES left it. -/
theorem sessionsOver_ctxUse {m : List Host.Cell} {k : SesU} (hcache : k.cache = []) (hdome : (tabGet {} k.ctxs 0).dome = 0) :
    (sessionsOver m k).ctxUse 0 =
    (if (sessionsOver m {}).bytes 0 4096 = (sessionsOver [] k).ctxImage 0 then sessionsOver m { k with cache := [0] }
     else (sessionsOver m { k with cache := [0] }).setCtx 0 { (sessionsOver [] k).ctx 0 with eps := [] }) := by
  have huse : (sessionsOver m k).ctxUse 0 = (sessionsOver m k).ctxFetch 0 := if_neg (by simp [sessionsOver, hcache])
  have hroom : (sessionsOver m k).ctxRoom = sessionsOver m k := if_pos (by simp [sessionsOver, hcache])
  have hx : (sessionsOver m k).ctxX 0 = { agent := 0x2A2, dom := 0, epoch := 0 } := by
    simp only [State.ctxX, sessionsOver_get, State.ctx]
    exact congrArg₂ (Xfer.mk 0x2A2 · · 63) hdome (by decide +kernel)
  have haddr : (sessionsOver m k).ctxAddr 0 = 0 := by simp only [State.ctxAddr, sessionsOver_get]; decide +kernel
  simp only [huse, State.ctxFetch, hroom, hx, haddr, sessionsOver_rd]
  have hlast : (sessionsOver m k).ses.cache ++ [0] = [0] := congrArg (· ++ [0]) hcache
  rw [hlast]
  rfl

/-- A session that a client opened, its old epoch's keys destroyed or not. -/
def openSession (drained : Bool) : SesU := { ctxs := [(0, { st := 2, drained := drained, eps := [{ ms := [] }] })] }

/-- Its context as SES sends it back to DDR (R474), the keys not destroyed. -/
@[irreducible] def evictedContext : List Host.Cell :=
  ((sessionsOver [] {}).putBytes 0 ((sessionsOver [] (openSession false)).ctxImage 0)).mem

theorem evictedContext_bytes :
    (sessionsOver evictedContext {}).bytes 0 4096 = (sessionsOver [] (openSession false)).ctxImage 0 := by
  unfold evictedContext
  exact sessionsOver_bytes_putBytes (n := 4096) (ctxImage_length _ _)

/-- That session, with its old epoch free. -/
def evictedSession : State := sessionsOver evictedContext (openSession false)

/-- It is fetched whole, and EPOCH_DONE is sent. -/
theorem evictedSession_sessionEpochDrained : ∃ t, exec (.sessionEpochDrained 0) evictedSession = .next t ∧ t.net.tx ≠ [] := by
  refine ⟨_, rfl, ?_⟩
  have huse : evictedSession.ctxUse 0 = _ := sessionsOver_ctxUse rfl rfl
  rw [if_pos evictedContext_bytes] at huse
  rw [whenRuns_of_runs (by decide +kernel), State.sesDrained, if_pos (by decide +kernel), huse]
  decide +kernel

theorem evictedSession_setCtx {c : Ses} (hc : c = evictedSession.ctx 0) :
    evictedSession.setCtx 0 { c with eps := c.eps.take 1, drained := true } = sessionsOver evictedContext (openSession true) := by
  subst hc
  rfl

/-- With those keys destroyed it does not read as SES left it, and nothing is sent. -/
theorem openSession_sesSendCur : ((sessionsOver evictedContext (openSession true)).sesSendCur 0 8 2 []).net.tx = [] := by
  have huse : (sessionsOver evictedContext (openSession true)).ctxUse 0 = _ := sessionsOver_ctxUse rfl rfl
  rw [evictedContext_bytes, if_neg (by decide +kernel)] at huse
  rw [State.sesSendCur, State.sesSend, huse]
  decide +kernel

/-- Refutes O47: its clause on an old epoch that drains sends nothing for `evictedSession`, which EPOCH_DONE leaves. -/
theorem not_sessionKeys : ¬ Obligations.SessionKeys := by
  intro h
  obtain ⟨-, -, -, -, -, hdrains, -⟩ :=
    h evictedSession { ctx := none, kind := 0, peer := {}, body := [], at_ := 0 } 0 (by decide +kernel)
  have hsilent := hdrains (by decide +kernel) (by decide +kernel)
  obtain ⟨t, ht, hsends⟩ := evictedSession_sessionEpochDrained
  have hsame := Host.Outcome.next.inj (ht.symm.trans hsilent)
  rw [hsame, evictedSession_setCtx (c := evictedSession.ctx 0) rfl] at hsends
  exact hsends openSession_sesSendCur

end Sys2Proof.Machine
end

section
-- Checked in order, the proofs do not hold one thread each.
set_option Elab.async false
/-!
PROOFS. What a PKE command that has passed its checks leaves (R378, R386 to R399), and what each operation computes.
-/

namespace Sys2Proof.Machine

variable {s : State} {job ticket e op : Nat} {c : Cmd}

/-- A command that is ready performs its operation, and has its result. -/
theorem pkeDo_of_pkReady (h : s.pkReady job ticket e op c) (f : PkRun → PkRes) :
    s.pkeDo job ticket op f = s.pkDone c (f (s.pkRun c)) := by
  obtain ⟨hcmd, hpool, hrunning, hchecked, hcode, hop⟩ := h
  subst hop
  simp only [State.pkeDo, hcmd]
  exact if_pos ⟨hpool, by simp [hrunning], hchecked, hcode, trivial⟩

theorem next_pkeDo_of_pkReady (hruns : s.spiresRun = true) (h : s.pkReady job ticket e op c) (f : PkRun → PkRes) :
    (.next (s.whenRuns fun s => s.pkeDo job ticket op f) : Host.Outcome State Fault Refusal) = .next (s.pkDone c (f (s.pkRun c))) :=
  congrArg _ ((whenRuns_of_runs hruns).trans (pkeDo_of_pkReady h f))

end Sys2Proof.Machine
end

section
set_option Elab.async false
namespace Sys2Proof.Machine

/-- Settles O37: each command performs the operation of its descriptor, once. -/
theorem publicKeyCompletion : Obligations.PublicKeyCompletion := by
  unfold Obligations.PublicKeyCompletion
  intro s job ticket e c hruns
  exact ⟨fun h => next_pkeDo_of_pkReady hruns h pkModprog, fun h => next_pkeDo_of_pkReady hruns h pkKeygen,
    fun h => next_pkeDo_of_pkReady hruns h pkSign, fun h => next_pkeDo_of_pkReady hruns h pkVerify,
    fun h => next_pkeDo_of_pkReady hruns h pkAgree, fun h => next_pkeDo_of_pkReady hruns h pkPublic,
    fun h => next_pkeDo_of_pkReady hruns h pkCurveCheck, fun h => next_pkeDo_of_pkReady hruns h pkRsaSign,
    fun h => next_pkeDo_of_pkReady hruns h pkRsaVerify, fun h => next_pkeDo_of_pkReady hruns h pkRsaDecrypt,
    fun h => next_pkeDo_of_pkReady hruns h pkRsaEncrypt, fun h => next_pkeDo_of_pkReady hruns h pkImport⟩

end Sys2Proof.Machine
end

section
set_option Elab.async false
/-!
PROOFS. The operations of the pool on a job's command, case by case.
-/

namespace Sys2Proof.Machine

variable {r : PkRun} {cv : Curve}

/-- A named curve is one of five (R379). -/
theorem code_of_namedCurve {code : Nat} (h : namedCurve code = some cv) :
    code = 1 ∨ code = 2 ∨ code = 3 ∨ code = 4 ∨ code = 5 := by
  unfold namedCurve at h
  split at h <;> simp at h ⊢

theorem code_ne_of_namedCurve {code : Nat} (h : namedCurve code = some cv) : code ≠ 8 ∧ code ≠ 9 := by
  have := code_of_namedCurve h
  omega

/-- A command on a named curve takes AUX whole. -/
theorem curve_of_namedCurve (h : namedCurve r.d.curve = some cv) : r.curve = some (cv, r.auxB) := by
  have hload : isLoad r.d.curve = false := by
    obtain h | h | h | h | h := code_of_namedCurve h <;> simp [isLoad, h]
  simp [PkRun.curve, hload, h]

/-- A job's command opens its PKO under the key of its descriptor (R384). -/
theorem priv_pkRun_of_job {s : State} {c : Cmd} (h : c.unit = false) (need f : Nat) : (s.pkRun c).priv need f =
    pkoOpen (s.keyAt c (pkDesc c.desc).key).mat.key (pkDesc c.desc).curve c.dome need f (c.ins.getD 1 []) := by
  simp [PkRun.priv, State.pkRun, PkRun.pkoB, h]

/-- A job's command imports under that key too (R388). -/
theorem prot_pkRun_of_job {s : State} {c : Cmd} (h : c.unit = false) :
    (s.pkRun c).prot = (s.keyAt c (pkDesc c.desc).key).mat.key := by
  simp [State.pkRun, h]

theorem pkSign_ed25519 (h : r.d.curve = 8) :
    pkSign r = match r.priv 1 32 with | some (.ed sd _) => (0, edSign sd r.inB) | _ => (0x0301, []) := by
  rw [pkSign, if_pos h]
  rfl

theorem pkSign_named (h : namedCurve r.d.curve = some cv) :
    pkSign r = match r.priv 1 cv.f with
      | some (.wei k _ _) => (match ecdsaSign cv r.d.hash k r.inB (r.rnd 0 32) with
        | some (a, b) => (0, toBE cv.on a ++ toBE cv.on b)
        | none => (0x0301, []))
      | _ => (0x0301, []) := by
  rw [pkSign, if_neg (code_ne_of_namedCurve h).1, curve_of_namedCurve h]
  rfl

theorem pkVerify_named_noPoint (h : namedCurve r.d.curve = some cv) (hpoint : cv.point r.pubB = none) :
    pkVerify r = (0x0301, []) := by
  rw [pkVerify, if_neg (code_ne_of_namedCurve h).1, curve_of_namedCurve h]
  simp [hpoint, pkInput]

theorem pkVerify_named {q : Nat × Nat} (h : namedCurve r.d.curve = some cv) (hpoint : cv.point r.pubB = some q)
    (hlength : r.auxB.length = 2 * cv.on) : pkVerify r =
      (if ecdsaVerify cv (some q) r.inB (ofBE (r.auxB.take cv.on)) (ofBE (r.auxB.drop cv.on)) then 0 else 0x0305, []) := by
  rw [pkVerify, if_neg (code_ne_of_namedCurve h).1, curve_of_namedCurve h]
  simp [hpoint, hlength, pkVerdict]

theorem pkAgree_x25519 (h : r.d.curve = 9) :
    pkAgree r = match r.priv 2 32 with
      | some (.mont k _) => (if allZero (x25519 k r.pubB) then (0x0301, []) else (0, x25519 k r.pubB))
      | _ => (0x0301, []) := by
  rw [pkAgree, if_pos h]
  rfl

theorem pkPublic_25519 (h : r.d.curve = 8 ∨ r.d.curve = 9) :
    pkPublic r = match r.priv 0 32 with | some p => (0, p.pub 32 (rsaK r.d.curve)) | none => (0x0301, []) := by
  have hkind : curveKind r.d.curve ≠ 1 := by obtain h | h := h <;> simp [curveKind, h]
  rw [pkPublic, if_neg hkind]
  rfl

theorem pkRsaSign_pkcs1 (h : fld r.d.param 0 1 = 0) :
    pkRsaSign r = match r.priv 1 0 with
      | some (.rsa k) => (0, toBE (rsaK r.d.curve) (k.priv (ofBE (pkcs1Enc r.d.hash (rsaK r.d.curve) r.inB) % k.n)))
      | _ => (0x0301, []) := by
  simp only [pkRsaSign, PkRun.rsaEm, if_pos h]
  rfl

/-- A program's modulus is odd and above 1, or nothing is computed (R395). -/
theorem pkModprog_badModulus {m : Nat}
    (hm : m = ofBE (sliceB r.inB (32 * fld r.d.param 0 1 * fld r.d.param 4 1) (32 * fld r.d.param 0 1)))
    (hbad : m % 2 = 0 ∨ m = 1) : pkModprog r = (0x0301, []) := by
  have hslot : ((List.range (fld r.d.param 1 1)).map
      fun i => ofBE (sliceB r.inB (32 * fld r.d.param 0 1 * i) (32 * fld r.d.param 0 1))).getD (fld r.d.param 4 1) 0 = m ∨
      ((List.range (fld r.d.param 1 1)).map
      fun i => ofBE (sliceB r.inB (32 * fld r.d.param 0 1 * i) (32 * fld r.d.param 0 1))).getD (fld r.d.param 4 1) 0 = 0 := by
    simp only [List.getD_eq_getElem?_getD, List.getElem?_map]
    rcases Nat.lt_or_ge (fld r.d.param 4 1) (fld r.d.param 1 1) with hlt | hge
    · simp [List.getElem?_range hlt, hm]
    · simp [List.getElem?_eq_none (show (List.range (fld r.d.param 1 1)).length ≤ fld r.d.param 4 1 by simpa using hge)]
  rw [pkModprog]
  simp only []
  rw [if_pos ?_]
  · rfl
  · omega

theorem pkCurveCheck_unsafe (h : curveSafe (recCurve r.auxB) = false) : pkCurveCheck r = (0x0301, []) := by
  simp [pkCurveCheck, h, pkInput]

theorem pkKeygen_x25519 (h : r.d.curve = 9) :
    pkKeygen r = r.make 2 32 (.mont (r.rnd 0 32) (x25519Public (r.rnd 0 32))) := by
  simp [pkKeygen, h]

theorem pkKeygen_ed25519 (h : r.d.curve = 8) : pkKeygen r = r.make 1 32 (.ed (r.rnd 0 32) (edPublic (r.rnd 0 32))) := by
  simp [pkKeygen, h]

theorem pkKeygen_named (h : namedCurve r.d.curve = some cv) :
    pkKeygen r = match ((List.range 128).map fun i => ofBE (r.rnd i ((bitLen cv.n + 7) / 8)) % 2 ^ bitLen cv.n).find?
        (fun k => decide (1 ≤ k) && decide (k < cv.n)) with
      | none => (0x0306, [])
      | some k => (match cv.mul k cv.g with
        | some (a, b) => r.make 3 cv.f (.wei k a b)
        | none => (0x0301, [])) := by
  rw [pkKeygen, if_neg (code_ne_of_namedCurve h).1, if_neg (code_ne_of_namedCurve h).2, curve_of_namedCurve h]
  rfl

/-- A public key that R387 and R390 allow. -/
theorem rsaPub_of_good {n x : Nat} (hn : ofBE (r.pubB.take (rsaK r.d.curve)) = n) (hx : ofBE (r.pubB.drop (rsaK r.d.curve)) = x)
    (hmod : n % 2 = 1 ∧ bitLen n = 8 * rsaK r.d.curve) (hexp : x % 2 = 1 ∧ 65537 ≤ x ∧ x < 2 ^ 256) : r.rsaPub = some (n, x) := by
  subst hn hx
  exact if_pos ⟨hmod.1, hmod.2, hexp⟩

/-- A public key that they refuse. -/
theorem rsaPub_of_bad
    (h : ofBE (r.pubB.take (rsaK r.d.curve)) % 2 = 0 ∨ ofBE (r.pubB.drop (rsaK r.d.curve)) < 65537) : r.rsaPub = none :=
  if_neg fun ⟨hodd, _, _, hleast, _⟩ => by omega

theorem pkRsaVerify_pkcs1 {n x : Nat} (hpub : r.rsaPub = some (n, x)) (hpad : fld r.d.param 0 1 = 0) :
    pkRsaVerify r = (if ofBE r.auxB < n ∧ toBE (rsaK r.d.curve) (powMod (ofBE r.auxB) x n) = pkcs1Enc r.d.hash (rsaK r.d.curve) r.inB
      then 0 else 0x0305, []) := by
  simp only [pkRsaVerify, hpub, hpad, if_true, pkVerdict]
  rcases Nat.lt_or_ge (ofBE r.auxB) n with hlt | hge
  · simp [Nat.not_le.mpr hlt, hlt]
  · simp [hge, Nat.not_lt.mpr hge]

theorem pkRsaEncrypt_of_rsaPub {n x : Nat} (hpub : r.rsaPub = some (n, x)) :
    pkRsaEncrypt r = (0, toBE (rsaK r.d.curve)
      (powMod (ofBE (oaepEnc r.d.hash (rsaK r.d.curve) r.inB (r.rnd 0 (shaLen r.d.hash)))) x n)) := by
  simp [pkRsaEncrypt, hpub]

/-- A job's import is of its descriptor's group alone (R388). -/
theorem pkImport_of_job (h : r.c.unit = false) :
    pkImport r = match importBlock r.prot r.d.curve (ofBE (r.rnd 0 64)) r.inB with
      | some q => r.make q.1 (curveF r.d.curve) q.2
      | none => (0x0301, []) := by
  have hown : pkImport r = ((importBlock r.prot r.d.curve (ofBE (r.rnd 0 64)) r.inB).map
      fun x => r.make x.1 (curveF r.d.curve) x.2).getD pkInput := by
    simp only [pkImport, h, Bool.false_eq_true, if_false, List.findSome?_singleton]
  rw [hown]
  cases importBlock r.prot r.d.curve (ofBE (r.rnd 0 64)) r.inB <;> rfl

end Sys2Proof.Machine
end

section
set_option Elab.async false
namespace Sys2Proof.Machine

/-- Settles O38: each command's operation is O37's, and what it computes its equation says. -/
theorem publicKeyResults : Obligations.PublicKeyResults := by
  unfold Obligations.PublicKeyResults
  intro s job ticket e c hruns hjob i d r pko cand
  obtain ⟨hmodprog, hkeygen, hsign, hverify, hagree, hpublic, hcurveCheck, hrsaSign, hrsaVerify, hrsaDecrypt, hrsaEncrypt,
    himport⟩ := publicKeyCompletion s job ticket e c hruns
  have hpko (need f : Nat) : r.priv need f = pko need f := priv_pkRun_of_job hjob need f
  have hprot : r.prot = (s.keyAt c d.key).mat.key := prot_pkRun_of_job hjob
  have hsame {x y : PkRes} (h : x = y) :
      (.next (s.pkDone c x) : Host.Outcome State Fault Refusal) = .next (s.pkDone c y) := by rw [h]
  refine ⟨?_, ?_, ?_, ?_, ?_, ?_, ?_, ?_, ?_, ?_, ?_, ?_, ?_, ?_, ?_, ?_, ?_, ?_⟩
  · exact fun h hcurve => (hsign h).trans (hsame ((pkSign_ed25519 hcurve).trans (by rw [hpko]; rfl)))
  · exact fun cv h hcurve => (hsign h).trans (hsame ((pkSign_named hcurve).trans (by rw [hpko]; rfl)))
  · exact fun cv h hcurve hpoint => (hverify h).trans (hsame (pkVerify_named_noPoint hcurve hpoint))
  · exact fun cv q h hcurve hpoint hlength => (hverify h).trans (hsame (pkVerify_named hcurve hpoint hlength))
  · exact fun h hcurve => (hagree h).trans (hsame ((pkAgree_x25519 hcurve).trans (by rw [hpko]; rfl)))
  · exact fun h hcurve => (hpublic h).trans (hsame ((pkPublic_25519 hcurve).trans (by rw [hpko]; rfl)))
  · exact fun h hpad => (hrsaSign h).trans (hsame ((pkRsaSign_pkcs1 hpad).trans (by rw [hpko]; rfl)))
  · refine fun h => (hrsaDecrypt h).trans (hsame ?_)
    rw [pkRsaDecrypt, hpko]
    rfl
  · exact fun h hbad => (hmodprog h).trans (hsame (pkModprog_badModulus (r := r) rfl hbad))
  · exact fun h hunsafe => (hcurveCheck h).trans (hsame (pkCurveCheck_unsafe (r := r) hunsafe))
  · exact fun h hcurve => (hkeygen h).trans (hsame (pkKeygen_x25519 hcurve))
  · exact fun h hcurve => (hkeygen h).trans (hsame (pkKeygen_ed25519 hcurve))
  · exact fun cv h hcurve => (hkeygen h).trans (hsame (pkKeygen_named hcurve))
  · exact fun n x h hpad hn hx hmod hexp =>
      (hrsaVerify h).trans (hsame (pkRsaVerify_pkcs1 (rsaPub_of_good hn hx hmod hexp) hpad))
  · exact fun n x h hn hx hmod hexp =>
      (hrsaEncrypt h).trans (hsame (pkRsaEncrypt_of_rsaPub (rsaPub_of_good hn hx hmod hexp)))
  · exact fun h hbad => (hrsaVerify h).trans (hsame (by rw [pkRsaVerify, rsaPub_of_bad (r := r) hbad]; rfl))
  · exact fun h hbad => (hrsaEncrypt h).trans (hsame (by rw [pkRsaEncrypt, rsaPub_of_bad (r := r) hbad]; rfl))
  · refine fun h => (himport h).trans (hsame ?_)
    rw [pkImport_of_job (r := r) hjob, hprot]
    rfl

end Sys2Proof.Machine
end

section
-- Checked in order, the proofs do not hold one thread each.
set_option Elab.async false
/-!
PROOFS. The contactless reader: what refuses a command, how a command ends, and how a frame, or its absence, is taken (R546 to R548).
-/

namespace Sys2Proof.Machine

variable {s : State}

theorem main_of_runs (hruns : s.spiresRun = true) : s.pwr.main = .on := by
  simpa [State.mainOn] using mainOn_of_runs hruns

theorem next_of_runs {f : State → State} {t : State} (hruns : s.spiresRun = true) (h : f s = t) :
    (.next (s.whenRuns f) : Host.Outcome State Fault Refusal) = .next t := by rw [whenRuns_of_runs hruns, h]

theorem next_of_keep {f : State → State} {t : State} (hruns : s.spiresRun = true) (hkeep : s.keepHalted = false) (h : f s = t) :
    (.next (s.whenKeep f) : Host.Outcome State Fault Refusal) = .next t := by rw [whenKeep_of_runs hruns hkeep, h]

theorem is_eq_of_get {f : Fld} {v : Nat} (h : s.get f = v) : s.is f = (v == 1) := by rw [State.is, h]

/-! ### Refusals and ends -/

theorem rdRefusal_of_busy (h : s.reader.cmd ≠ 0) (allowed : Bool) : s.rdRefusal allowed = some 0x0809 := if_pos h

theorem rdRefusal_of_disallowed (h : s.reader.cmd = 0) : s.rdRefusal false = some 0x080A := by simp [State.rdRefusal, h]

theorem rdRefusal_of_allowed (h : s.reader.cmd = 0) : s.rdRefusal true = none := by simp [State.rdRefusal, h]

theorem fieldOn_of_refusal {c : Nat} (h : s.rdRefusal (!s.is R.CLF_STATUS_CARRIER) = some c) : s.fieldOn = s.rdCode c 0 := by
  rw [State.fieldOn, h]

theorem fieldOff_of_refusal {c : Nat} (h : s.rdRefusal true = some c) : s.fieldOff = s.rdCode c 0 := by rw [State.fieldOff, h]

theorem clfActivate_of_refusal {c : Nat}
    (h : s.rdRefusal (s.is R.CLF_STATUS_CARRIER && !s.is R.CLF_STATUS_RCARD) = some c) : s.clfActivate = s.rdCode c 0 := by
  rw [State.clfActivate, h]

theorem clfExchange_of_refusal {c n : Nat} (h : s.rdRefusal (s.is R.CLF_STATUS_RCARD) = some c) :
    s.clfExchange n = s.rdCode c 0 := by
  rw [State.clfExchange, h]

theorem clfAuth_of_refusal {c : Nat} (h : s.rdRefusal (s.is R.CLF_STATUS_RCARD) = some c) : s.clfAuth = s.rdCode c 0 := by
  rw [State.clfAuth, h]

theorem clfSecure_of_refusal {c n : Nat} (h : s.rdRefusal (s.is R.CLF_STATUS_RSESSION) = some c) :
    s.clfSecure n = s.rdCode c 0 := by
  rw [State.clfSecure, h]

theorem clfDeactivate_of_refusal {c : Nat} (h : s.rdRefusal (s.is R.CLF_STATUS_RCARD) = some c) :
    s.clfDeactivate = s.rdCode c 0 := by
  rw [State.clfDeactivate, h]

/-- While main power is on, a code raises vector 352 (R565). -/
theorem rdCode_of_on (hon : s.pwr.main = .on) (code rlen : Nat) : s.rdCode code rlen =
    ((s.set R.CLF_RRESULT_CODE code).set R.CLF_RRESULT_RLEN rlen).cause R.CLF_EVENTS_CAUSE 352 352 := if_pos hon

theorem clfEvent_of_on (hon : s.pwr.main = .on) (v : Nat) : s.clfEvent v = s.cause R.CLF_EVENTS_CAUSE 352 v := if_pos hon

theorem fdetFall_of_none (h : s.get R.CLF_STATUS_FIELD = 0) : s.fdetFall = s := if_neg (by simp [is_of_get_zero h])

theorem fdetFall_of_field (h : s.get R.CLF_STATUS_FIELD = 1) (hon : s.pwr.main = .on) :
    s.fdetFall = (s.tagLost.set R.CLF_STATUS_FIELD 0).cause R.CLF_EVENTS_CAUSE 352 353 := by
  rw [State.fdetFall, if_pos (is_of_get_one h)]
  exact clfEvent_of_on (s := s.tagLost.set R.CLF_STATUS_FIELD 0) hon 353

/-! ### The reader beside the registers -/

theorem set_setReader (f : Fld) (v : Nat) (k : Reader) : (s.set f v).setReader k = (s.setReader k).set f v := rfl
theorem cause_setReader (f : Fld) (b v : Nat) (k : Reader) : (s.cause f b v).setReader k = (s.setReader k).cause f b v := rfl
theorem setReader_setReader (k l : Reader) : (s.setReader k).setReader l = s.setReader l := rfl
theorem setReader_self : s.setReader s.reader = s := rfl
theorem cause_reader (f : Fld) (b v : Nat) : (s.cause f b v).reader = s.reader := rfl
theorem cause_pwr (f : Fld) (b v : Nat) : (s.cause f b v).pwr = s.pwr := rfl
theorem set_tbase (f : Fld) (v : Nat) : (s.set f v).tbase = s.tbase := rfl
theorem cause_tbase (f : Fld) (b v : Nat) : (s.cause f b v).tbase = s.tbase := rfl
theorem setReader_tbase (k : Reader) : (s.setReader k).tbase = s.tbase := rfl

/-- The reader as a command's end leaves it. -/
def Reader.ended (k : Reader) : Reader := { k with cmd := 0, phase := .idle, tries := 0, k := [], rndI := [], resp := [], left := [] }

theorem rdEnd_of_on (hon : s.pwr.main = .on) (code rlen : Nat) : s.rdEnd code rlen =
    ((((s.setReader s.reader.ended).set R.CLF_STATUS_RBUSY 0).set R.CLF_RRESULT_CODE code).set R.CLF_RRESULT_RLEN rlen).cause
      R.CLF_EVENTS_CAUSE 352 352 := if_pos hon

/-- The carrier off leaves nothing of what the reader held. -/
theorem carrierOff_setReader (k : Reader) : (s.setReader k).carrierOff = s.carrierOff := rfl

/-- What a command's end leaves does not say when the wait before it began. -/
theorem rdEnd_rdStamp (hon : s.pwr.main = .on) (code rlen : Nat) : (s.rdEnd code rlen).rdStamp = s.rdStamp.rdEnd code rlen := by
  rw [rdEnd_of_on hon, rdEnd_of_on (s := s.rdStamp) hon]
  simp only [State.rdStamp, cause_setReader, set_setReader, setReader_setReader, cause_tbase, set_tbase, setReader_tbase,
    cause_reader, set_reader, setReader_reader, Reader.ended]

theorem carrierOff_reader : s.carrierOff.reader = {} := rfl
theorem carrierOff_tbase : s.carrierOff.tbase = s.tbase := rfl
theorem rdEnd_tbase (hon : s.pwr.main = .on) (code rlen : Nat) : (s.rdEnd code rlen).tbase = s.tbase := by
  rw [rdEnd_of_on hon]
  rfl

/-- A command fails, with its carrier off for 6 ms (R548). -/
theorem rdFail_rdStamp (hon : s.pwr.main = .on) (code : Nat) : (s.rdFail code).rdStamp = s.rdStamp.rdFail code := by
  have hleft : s.rdFail code = (s.rdEnd code 0).carrierOff.setReader { phase := .reset, at_ := s.tbase } := rfl
  have hright : s.rdStamp.rdFail code = (s.rdStamp.rdEnd code 0).carrierOff.setReader { phase := .reset, at_ := s.tbase } := rfl
  have hsame : (s.rdStamp.rdEnd code 0).carrierOff = (s.rdEnd code 0).carrierOff := by
    rw [← rdEnd_rdStamp hon, State.rdStamp, carrierOff_setReader]
  rw [hright, hsame, hleft, State.rdStamp, setReader_setReader, setReader_tbase, carrierOff_tbase, rdEnd_tbase hon]
  rfl


/-! ### Frames and silence -/

/-- A frame has come, or its time is over: an S(WTX) counts no more (R548). -/
def State.hears (s : State) : State := s.setReader { s.reader with wtx := 1 }

theorem clfFrame_of_awaits (h : s.reader.phase.awaits = true) (bs : List Byte) (crc : Nat) (coll : Option Nat) :
    s.clfFrame bs crc coll = (s.hears.rdFrame bs (crc == crcA bs) coll).rdStamp := if_pos h

theorem clfExpiry_of_awaits (h : s.reader.phase.awaits = true) (hpast : s.reader.at_ + s.rdWait + 5 / 8 ≤ s.tbase) :
    s.clfExpiry = s.hears.rdSilence.rdStamp := if_pos ⟨h, decide_eq_true hpast⟩

section
variable {bs : List Byte} {crc : Nat} {coll : Option Nat}

theorem clfFrame_atqa (h : s.reader.phase = .atqa) : s.clfFrame bs crc coll = (s.hears.rdAnticoll [] 0).rdStamp := by
  rw [clfFrame_of_awaits (by rw [h]; rfl), State.rdFrame, show s.hears.reader.phase = _ from h]

theorem clfFrame_anticoll (h : s.reader.phase = .anticoll) : s.clfFrame bs crc coll = (s.hears.rdUid bs coll).rdStamp := by
  rw [clfFrame_of_awaits (by rw [h]; rfl), State.rdFrame, show s.hears.reader.phase = _ from h]

theorem clfFrame_select (h : s.reader.phase = .select) : s.clfFrame bs (crcA bs) coll = (s.hears.rdSak bs).rdStamp := by
  rw [clfFrame_of_awaits (by rw [h]; rfl), State.rdFrame, show s.hears.reader.phase = _ from h, beq_self_eq_true]
  rfl

theorem clfFrame_ats (h : s.reader.phase = .ats) : s.clfFrame bs (crcA bs) coll = (s.hears.rdAts bs).rdStamp := by
  rw [clfFrame_of_awaits (by rw [h]; rfl), State.rdFrame, show s.hears.reader.phase = _ from h, beq_self_eq_true]
  rfl

theorem clfFrame_pps (h : s.reader.phase = .pps) : s.clfFrame bs (crcA bs) coll = (s.hears.rdPps bs).rdStamp := by
  rw [clfFrame_of_awaits (by rw [h]; rfl), State.rdFrame, show s.hears.reader.phase = _ from h, beq_self_eq_true]
  rfl

theorem clfFrame_block (h : s.reader.phase = .block) : s.clfFrame bs (crcA bs) coll = (s.hears.rdGood bs).rdStamp := by
  rw [clfFrame_of_awaits (by rw [h]; rfl), State.rdFrame, show s.hears.reader.phase = _ from h, beq_self_eq_true]
  rfl

theorem clfFrame_deselect (h : s.reader.phase = .deselect) :
    s.clfFrame [0xC2] (crcA [0xC2]) coll = (s.hears.rdNoCard.rdEnd 0 0).rdStamp := by
  rw [clfFrame_of_awaits (by rw [h]; rfl), State.rdFrame, show s.hears.reader.phase = _ from h, beq_self_eq_true]
  rfl

/-- A frame with a wrong CRC_A fails an activation (R547). -/
theorem clfFrame_badCrc_activation (h : s.reader.phase ∈ [.select, .ats, .pps]) (hcrc : crc ≠ crcA bs) :
    s.clfFrame bs crc coll = (s.hears.rdFail 0x0804).rdStamp := by
  simp only [List.mem_cons, List.not_mem_nil, or_false] at h
  obtain h | h | h := h <;>
  · rw [clfFrame_of_awaits (by rw [h]; rfl), State.rdFrame, show s.hears.reader.phase = _ from h, beq_false_of_ne hcrc]
    rfl

/-- A bad block of an exchange or of DEACTIVATE (R548). -/
theorem clfFrame_badBlock (h : s.reader.phase = .block ∧ crc ≠ crcA bs ∨ s.reader.phase = .deselect ∧ (crc ≠ crcA bs ∨ bs ≠ [0xC2])) :
    s.clfFrame bs crc coll = (s.hears.rdBad 0x0804).rdStamp := by
  obtain ⟨h, hcrc⟩ | ⟨h, hbad⟩ := h
  · rw [clfFrame_of_awaits (by rw [h]; rfl), State.rdFrame, show s.hears.reader.phase = _ from h, beq_false_of_ne hcrc]
    rfl
  · rw [clfFrame_of_awaits (by rw [h]; rfl), State.rdFrame, show s.hears.reader.phase = _ from h]
    exact congrArg State.rdStamp (if_neg fun ⟨hcrc, hbs⟩ => hbad.elim (· (by simpa using hcrc)) (· hbs))

end

/-- A cascade level begins with no bit of its UID known (R547). -/
theorem rdAnticoll_start : s.rdAnticoll [] 0 =
    s.setReader { s.reader with part := [], phase := .anticoll, tx := [selCode s.reader.level, 0x20] } := by
  simp [State.rdAnticoll, State.rdSend, setReader_setReader]

/-- A byte of a frame as a number. -/
theorem fld_one (bs : List Byte) (o : Nat) (h : o < bs.length) : fld bs o 1 = (bs[o]).toNat := by
  have hcut : sliceB bs o 1 = [bs[o]] := by
    rw [sliceB, List.drop_eq_getElem_cons h, List.take_succ_cons, List.take_zero]
  rw [fld, hcut]
  simp [ofLE]

theorem fld_sak (sak : Byte) : fld [sak] 0 1 = sak.toNat := fld_one [sak] 0 (by simp)

/-- A SAK that asks for another cascade level (R547). -/
theorem rdSak_of_more {sak : Byte} (hmore : sak.getLsbD 2 = true) (hlevel : s.reader.level < 3)
    (hcascade : s.reader.part.head? = some 0x88) : s.rdSak [sak] = (s.setReader { s.reader with
      level := s.reader.level + 1, uid := s.reader.uid ++ sliceB s.reader.part 1 3 }).rdAnticoll [] 0 := by
  have hhead : s.reader.part.headD 0 = 0x88 := by rw [List.headD_eq_head?_getD, hcascade]; rfl
  have hbit : (fld [sak] 0 1).testBit 2 = true := by rw [fld_sak]; exact hmore
  rw [State.rdSak, if_neg (by simp), if_pos hbit, if_neg ?_]
  rw [hhead]
  exact not_or.mpr ⟨Nat.not_le.mpr hlevel, fun h => h rfl⟩

/-- The UID of a card, taken from a last SAK (R547). -/
def State.selected (s : State) (uid : List Byte) (sak : Nat) : State :=
  ((((s.set R.CLF_UID_UID (ofLE (uid.take 8))).set R.CLF_UIDX_UID (ofLE (uid.drop 8))).set R.CLF_UIDX_LEN uid.length).set
    R.CLF_UIDX_SAK sak).setReader { s.reader with uid := uid }

section
variable {uid : List Byte} {sak : Byte}

theorem selected_get_uid : (s.selected uid sak.toNat).get R.CLF_UID_UID = ofLE (uid.take 8) % 2 ^ 64 := by
  rw [State.selected, setReader_get, get_set_ne _ _ _ _ (by decide), get_set_ne _ _ _ _ (by decide),
    get_set_ne _ _ _ _ (by decide), get_set_same]
  rfl

theorem selected_get_uidRest : (s.selected uid sak.toNat).get R.CLF_UIDX_UID = ofLE (uid.drop 8) % 2 ^ 16 := by
  rw [State.selected, setReader_get, get_set_ne _ _ _ _ (by decide), get_set_ne _ _ _ _ (by decide), get_set_same]
  rfl

theorem selected_get_length : (s.selected uid sak.toNat).get R.CLF_UIDX_LEN = uid.length % 16 := by
  rw [State.selected, setReader_get, get_set_ne _ _ _ _ (by decide), get_set_same]
  rfl

theorem selected_get_sak : (s.selected uid sak.toNat).get R.CLF_UIDX_SAK = sak.toNat := by
  rw [State.selected, setReader_get, get_set_same]
  exact Nat.mod_eq_of_lt sak.isLt

theorem selected_get_other {f : Fld}
    (h : f.key ∉ [R.CLF_UID_UID.key, R.CLF_UIDX_UID.key, R.CLF_UIDX_LEN.key, R.CLF_UIDX_SAK.key]) :
    (s.selected uid sak.toNat).get f = s.get f := by
  simp only [List.mem_cons, List.not_mem_nil, or_false, not_or] at h
  obtain ⟨huid, hrest, hlength, hsak⟩ := h
  rw [State.selected, setReader_get, get_set_ne _ _ _ _ (Ne.symm hsak), get_set_ne _ _ _ _ (Ne.symm hlength),
    get_set_ne _ _ _ _ (Ne.symm hrest), get_set_ne _ _ _ _ (Ne.symm huid)]

end

/-- The SAK of a card of ISO/IEC 14443-4: RATS follows. -/
theorem rdSak_of_iso {sak : Byte} (hlast : sak.getLsbD 2 = false) (hiso : sak.getLsbD 5 = true) :
    s.rdSak [sak] = (s.selected (s.reader.uid ++ s.reader.part.take 4) sak.toNat).rdSend .ats [0xE0, 0x80] := by
  have hbit2 : sak.toNat.testBit 2 = false := hlast
  have hbit5 : sak.toNat.testBit 5 = true := hiso
  rw [State.rdSak, if_neg (by simp)]
  simp only [fld_sak, hbit2, hbit5, Bool.false_eq_true, if_false, if_true]
  rfl

/-- A card of no such kind is refused (R547). -/
theorem rdSak_of_other {sak : Byte} (hlast : sak.getLsbD 2 = false) (hother : sak.getLsbD 5 = false) :
    s.rdSak [sak] = ((s.selected (s.reader.uid ++ s.reader.part.take 4) sak.toNat).setReader { s.reader with
      uid := s.reader.uid ++ s.reader.part.take 4, tx := [0x50, 0x00] }).rdEnd 0x0805 0 := by
  have hbit2 : sak.toNat.testBit 2 = false := hlast
  have hbit5 : sak.toNat.testBit 5 = false := hother
  rw [State.rdSak, if_neg (by simp)]
  simp only [fld_sak, hbit2, hbit5, Bool.false_eq_true, if_false]
  rfl

theorem rdBad_of_tries (h : s.reader.tries < 2) (code : Nat) : s.rdBad code = s.setReader { s.reader with
    tries := s.reader.tries + 1
    tx := [BitVec.ofNat 8 ((if s.reader.chain then 0xA2 else 0xB2) + s.reader.bn)] } := if_pos h

/-- An ATS of four bytes that carries TA1 and TB1 (R547). -/
theorem rdAts_of_four {bs : List Byte} {t0 ta tb : Nat} (hn : bs.length = 4) (hlen : fld bs 0 1 = 4) (ht0 : fld bs 1 1 = t0)
    (hta : fld bs 2 1 = ta) (htb : fld bs 3 1 = tb) (h : t0 / 16 = 3) : s.rdAts bs =
    (fun s1 : State => if s1.reader.sfgi = 0 then s1.rdRated else (s1.setReader { s1.reader with phase := .sfgt }).rdStamp)
      (s.setReader { s.reader with
        fsc := fscOf (t0 % 16), rate := bestRate ta (s.get R.CLF_RCFG_MAXRATE)
        fwi := if tb / 16 = 15 then 4 else tb / 16, sfgi := if tb % 16 = 15 then 0 else tb % 16 }) := by
  have hbit4 : t0.testBit 4 = true := by simp [Nat.testBit_eq_decide_div_mod_eq, h]
  have hbit5 : t0.testBit 5 = true := by simp [Nat.testBit_eq_decide_div_mod_eq]; omega
  have hbit6 : t0.testBit 6 = false := by simp [Nat.testBit_eq_decide_div_mod_eq]; omega
  have hne : bs.isEmpty = false := by simp [List.isEmpty_eq_false_iff, ← List.length_pos_iff, hn]
  simp [State.rdAts, hn, hne, hlen, ht0, hta, htb, hbit4, hbit5, hbit6, b2n]

/-- An ATS of its length alone (R547). -/
theorem rdAts_of_one : s.rdAts [0x01] = (s.setReader { s.reader with fsc := 32, rate := 0, fwi := 4, sfgi := 0 }).rdActive := by
  rfl

theorem rdActive_rdStamp (hon : s.pwr.main = .on) : s.rdActive.rdStamp = s.rdStamp.rdActive := by
  rw [State.rdActive]
  exact rdEnd_rdStamp (s := (s.setReader { s.reader with bn := 0, session := none }).set R.CLF_STATUS_RCARD 1) hon 0 0

theorem rdStamp_get (f : Fld) : s.rdStamp.get f = s.get f := rfl
theorem rdSend_get (ph : RdPhase) (tx : List Byte) (f : Fld) : (s.rdSend ph tx).get f = s.get f := rfl

/-- The card's rate, once its ATS is in and its SFGT is over, as a frame leaves it. -/
theorem rdRated_rdStamp (hon : s.pwr.main = .on) : s.rdRated.rdStamp = if s.reader.rate = 0 then s.rdStamp.rdActive else
    s.rdStamp.setReader { s.rdStamp.reader with phase := .pps, tx := [0xD0, 0x11, BitVec.ofNat 8 (s.reader.rate * 5)] } := by
  rw [State.rdRated]
  split
  · exact rdActive_rdStamp hon
  · rfl

/-! ### The commands, and what ends a wait -/

theorem fieldOn_of_field (hcmd : s.reader.cmd = 0) (hcarrier : s.get R.CLF_STATUS_CARRIER = 0)
    (hfield : s.get R.CLF_STATUS_FIELD = 1) : s.fieldOn = s.rdCode 0x0801 0 := by
  rw [State.fieldOn, is_of_get_zero hcarrier, Bool.not_false, rdRefusal_of_allowed hcmd]
  exact if_pos (is_of_get_one hfield)

theorem fieldOn_of_clear (hcmd : s.reader.cmd = 0) (hcarrier : s.get R.CLF_STATUS_CARRIER = 0)
    (hfield : s.get R.CLF_STATUS_FIELD = 0) :
    s.fieldOn = ((s.setReader {}).set R.CLF_STATUS_CARRIER 1).rdRun 1 .guard [] := by
  rw [State.fieldOn, is_of_get_zero hcarrier, Bool.not_false, rdRefusal_of_allowed hcmd]
  exact if_neg (by simp [is_of_get_zero hfield])

theorem guardEnd_of_past (hphase : s.reader.phase = .guard) (hpast : s.reader.at_ + 5100000 + 5 / 8 ≤ s.tbase) :
    s.guardEnd = s.rdEnd 0 0 := if_pos ⟨hphase, decide_eq_true hpast⟩

theorem fieldOff_of_idle (hcmd : s.reader.cmd = 0) : s.fieldOff = s.carrierOff.rdCode 0 0 := by
  rw [State.fieldOff, rdRefusal_of_allowed hcmd]

theorem carrierReset_of_past (hphase : s.reader.phase = .reset) (hpast : s.reader.at_ + 6000000 + 5 / 8 ≤ s.tbase) :
    s.carrierReset = (s.setReader { s.reader with phase := .idle }).fdetFall.set R.CLF_STATUS_CARRIER 1 :=
  if_pos ⟨hphase, decide_eq_true hpast⟩

theorem clfDeactivate_of_card (hcmd : s.reader.cmd = 0) (hcard : s.get R.CLF_STATUS_RCARD = 1) :
    s.clfDeactivate = s.rdNoSession.rdRun 6 .deselect [0xC2] := by
  rw [State.clfDeactivate, is_of_get_one hcard, rdRefusal_of_allowed hcmd]

theorem clfActivate_of_carrier (hcmd : s.reader.cmd = 0) (hcarrier : s.get R.CLF_STATUS_CARRIER = 1)
    (hcard : s.get R.CLF_STATUS_RCARD = 0) : s.clfActivate = ((s.setReader { s.reader with
      cmd := 2, phase := .atqa, tx := [0x52], tries := 0, wtx := 1, at_ := s.tbase, level := 1, uid := [], part := [], fwi := 4
      sfgi := 0 }).set R.CLF_STATUS_MULTI 0).set R.CLF_STATUS_RBUSY 1 := by
  rw [State.clfActivate, is_of_get_one hcarrier, is_of_get_zero hcard, Bool.not_false, Bool.and_self, rdRefusal_of_allowed hcmd]
  rfl

theorem clfExpiry_atqa (hon : s.pwr.main = .on) (hphase : s.reader.phase = .atqa)
    (hpast : s.reader.at_ + s.rdWait + 5 / 8 ≤ s.tbase) : s.clfExpiry = s.hears.rdStamp.rdEnd 0x0802 0 := by
  rw [clfExpiry_of_awaits (by rw [hphase]; rfl) hpast, State.rdSilence, show s.hears.reader.phase = _ from hphase]
  exact rdEnd_rdStamp (s := s.hears) hon _ _

theorem clfExpiry_activation (hon : s.pwr.main = .on) (hphase : s.reader.phase ∈ [.anticoll, .select, .ats, .pps])
    (hpast : s.reader.at_ + s.rdWait + 5 / 8 ≤ s.tbase) : s.clfExpiry = s.hears.rdStamp.rdFail 0x0803 := by
  simp only [List.mem_cons, List.not_mem_nil, or_false] at hphase
  obtain hphase | hphase | hphase | hphase := hphase <;>
  · rw [clfExpiry_of_awaits (by rw [hphase]; rfl) hpast, State.rdSilence, show s.hears.reader.phase = _ from hphase]
    exact rdFail_rdStamp (s := s.hears) hon _

/-! ### The frames of an activation -/

theorem clfFrame_wupa {bs : List Byte} {crc : Nat} {coll : Option Nat} (hphase : s.reader.phase = .atqa) :
    s.clfFrame bs crc coll = s.setReader { s.reader with
      wtx := 1, at_ := s.tbase, part := [], phase := .anticoll, tx := [selCode s.reader.level, 0x20] } := by
  rw [clfFrame_atqa hphase, rdAnticoll_start]
  rfl

theorem clfFrame_collision {bs : List Byte} {crc c : Nat} (hphase : s.reader.phase = .anticoll) (hc : c < 32) :
    s.clfFrame bs crc (some c) = (s.set R.CLF_STATUS_MULTI 1).setReader { s.reader with
      wtx := 1, at_ := s.tbase, part := resolve bs c, phase := .anticoll
      tx := [selCode s.reader.level, BitVec.ofNat 8 (0x20 + (c + 1) / 8 * 16 + (c + 1) % 8)] ++
        (resolve bs c).take (roundUp (c + 1) 8 / 8) } := by
  rw [clfFrame_anticoll hphase, State.rdUid, if_neg (Nat.not_le.mpr hc)]
  simp only [State.rdAnticoll, State.rdSend, State.rdStamp, State.hears, set_setReader, setReader_setReader, setReader_tbase,
    setReader_reader, set_reader, set_tbase]

theorem clfFrame_uid {bs : List Byte} {crc : Nat} (hphase : s.reader.phase = .anticoll)
    (hgood : bs.length = 5 ∧ bs.foldl (· ^^^ ·) 0 = (0 : Byte)) : s.clfFrame bs crc none = s.setReader { s.reader with
      wtx := 1, at_ := s.tbase, part := bs, phase := .select, tx := [selCode s.reader.level, 0x70] ++ bs } := by
  rw [clfFrame_anticoll hphase, State.rdUid, if_pos hgood]
  simp only [State.rdSend, State.rdStamp, State.hears, setReader_setReader, setReader_tbase, setReader_reader]

theorem clfFrame_badUid {bs : List Byte} {crc : Nat} (hon : s.pwr.main = .on) (hphase : s.reader.phase = .anticoll)
    (hbad : ¬ (bs.length = 5 ∧ bs.foldl (· ^^^ ·) 0 = (0 : Byte))) :
    s.clfFrame bs crc none = s.hears.rdStamp.rdFail 0x0804 := by
  rw [clfFrame_anticoll hphase, State.rdUid, if_neg hbad]
  exact rdFail_rdStamp (s := s.hears) hon _

section
variable {sak : Byte} {coll : Option Nat}

theorem clfFrame_cascade (hphase : s.reader.phase = .select) (hmore : sak.getLsbD 2 = true) (hlevel : s.reader.level < 3)
    (hcascade : s.reader.part.head? = some 0x88) : s.clfFrame [sak] (crcA [sak]) coll = s.setReader { s.reader with
      wtx := 1, at_ := s.tbase, level := s.reader.level + 1, uid := s.reader.uid ++ sliceB s.reader.part 1 3, part := []
      phase := .anticoll, tx := [selCode (s.reader.level + 1), 0x20] } := by
  rw [clfFrame_select hphase, rdSak_of_more (s := s.hears) hmore hlevel hcascade, rdAnticoll_start]
  simp only [State.rdStamp, State.hears, setReader_setReader, setReader_tbase, setReader_reader]

theorem clfFrame_selected (hphase : s.reader.phase = .select) (hlast : sak.getLsbD 2 = false) (hiso : sak.getLsbD 5 = true) :
    s.clfFrame [sak] (crcA [sak]) coll =
      ((s.hears.selected (s.reader.uid ++ s.reader.part.take 4) sak.toNat).rdSend .ats [0xE0, 0x80]).rdStamp := by
  rw [clfFrame_select hphase, rdSak_of_iso (s := s.hears) hlast hiso]
  rfl

theorem clfFrame_otherCard (hon : s.pwr.main = .on) (hphase : s.reader.phase = .select) (hlast : sak.getLsbD 2 = false)
    (hother : sak.getLsbD 5 = false) : ∃ t : State, s.clfFrame [sak] (crcA [sak]) coll = t.rdEnd 0x0805 0 ∧ t.pwr.main = .on ∧
      t.reader.tx = [0x50, 0x00] := by
  rw [clfFrame_select hphase, rdSak_of_other (s := s.hears) hlast hother]
  exact ⟨_, rdEnd_rdStamp (s := (s.hears.selected _ _).setReader _) hon _ _, hon, rfl⟩

end

section
variable {coll : Option Nat}

theorem clfFrame_shortAts (hon : s.pwr.main = .on) (hphase : s.reader.phase = .ats) :
    s.clfFrame [0x01] (crcA [0x01]) coll = State.rdActive (s.setReader
      { s.reader with wtx := 1, at_ := s.tbase, fsc := 32, rate := 0, fwi := 4, sfgi := 0 }) := by
  rw [clfFrame_ats hphase, rdAts_of_one]
  exact rdActive_rdStamp (s := s.setReader { s.reader with wtx := 1, fsc := 32, rate := 0, fwi := 4, sfgi := 0 }) hon

/-- The reader with what an ATS of four bytes gives it. -/
def Reader.rated (k : Reader) (t0 ta tb maxRate sfgi : Nat) : Reader :=
  { k with fsc := fscOf (t0 % 16), rate := bestRate ta maxRate, fwi := if tb / 16 = 15 then 4 else tb / 16, sfgi := sfgi }

theorem clfFrame_fourByteAts {t0 ta tb : Byte} {k : Reader} (hphase : s.reader.phase = .ats) (hbits : t0.toNat / 16 = 3)
    (hk : k = s.hears.reader.rated t0.toNat ta.toNat tb.toNat (s.get R.CLF_RCFG_MAXRATE)
      (if tb.toNat % 16 = 15 then 0 else tb.toNat % 16)) :
    s.clfFrame [4, t0, ta, tb] (crcA [4, t0, ta, tb]) coll = (if k.sfgi = 0 then (s.setReader k).rdRated
      else ((s.setReader { k with phase := .sfgt })).rdStamp).rdStamp := by
  rw [clfFrame_ats hphase, rdAts_of_four (s := s.hears) (bs := [4, t0, ta, tb]) rfl (fld_one _ 0 (by simp)) (fld_one _ 1 (by simp))
    (fld_one _ 2 (by simp)) (fld_one _ 3 (by simp)) hbits, hk]
  rfl

theorem clfFrame_atsWithoutGuard {t0 ta tb : Byte} {k : Reader} (hon : s.pwr.main = .on) (hphase : s.reader.phase = .ats)
    (hbits : t0.toNat / 16 = 3) (hguard : tb.toNat % 16 = 0)
    (hk : k = s.hears.reader.rated t0.toNat ta.toNat tb.toNat (s.get R.CLF_RCFG_MAXRATE) 0) :
    s.clfFrame [4, t0, ta, tb] (crcA [4, t0, ta, tb]) coll = if k.rate = 0 then (s.setReader k).rdStamp.rdActive else
      (s.setReader k).rdStamp.setReader
        { (s.setReader k).rdStamp.reader with phase := .pps, tx := [0xD0, 0x11, BitVec.ofNat 8 (k.rate * 5)] } := by
  have hsfgi : k.sfgi = 0 := by rw [hk]; rfl
  rw [clfFrame_fourByteAts (k := k) hphase hbits (by rw [hk, hguard]; rfl), if_pos hsfgi]
  exact rdRated_rdStamp (s := s.setReader k) hon

theorem clfFrame_atsWithGuard {t0 ta tb : Byte} {k : Reader} (hphase : s.reader.phase = .ats) (hbits : t0.toNat / 16 = 3)
    (hleast : 1 ≤ tb.toNat % 16) (hmost : tb.toNat % 16 ≤ 14)
    (hk : k = s.hears.reader.rated t0.toNat ta.toNat tb.toNat (s.get R.CLF_RCFG_MAXRATE) (tb.toNat % 16)) :
    s.clfFrame [4, t0, ta, tb] (crcA [4, t0, ta, tb]) coll =
      s.setReader { k with phase := .sfgt, at_ := s.tbase } := by
  have hsfgi : k.sfgi ≠ 0 := by rw [hk]; exact Nat.ne_of_gt hleast
  rw [clfFrame_fourByteAts (k := k) hphase hbits (by rw [hk, if_neg (show ¬ tb.toNat % 16 = 15 by omega)]), if_neg hsfgi]
  rfl

theorem clfFrame_ppsDone (hon : s.pwr.main = .on) (hphase : s.reader.phase = .pps) :
    s.clfFrame [0xD0] (crcA [0xD0]) coll = s.hears.rdStamp.rdActive := by
  rw [clfFrame_pps hphase]
  exact rdActive_rdStamp (s := s.hears) hon

end

end Sys2Proof.Machine
end

section
set_option Elab.async false
namespace Sys2Proof.Machine

/-- Settles O57: each command, frame and expiry by its phase. -/
theorem badgeReader : Obligations.BadgeReader := by
  unfold Obligations.BadgeReader
  intro s hruns coded ended alone off fail run heard active
  have hon := main_of_runs hruns
  have hcoded (t : State) (ht : t.pwr.main = .on) (code rlen : Nat) : t.rdCode code rlen = coded t code rlen :=
    rdCode_of_on ht code rlen
  have hended (t : State) (ht : t.pwr.main = .on) (code rlen : Nat) : t.rdEnd code rlen = ended t code rlen :=
    rdEnd_of_on ht code rlen
  have hfail (t : State) (ht : t.pwr.main = .on) (htb : t.tbase = s.tbase) (code : Nat) : t.rdFail code = fail t code := by
    rw [State.rdFail, hended t ht, htb]
    rfl
  have hactive (t : State) (ht : t.pwr.main = .on) : t.rdActive = active t := by
    rw [State.rdActive]
    exact hended ((t.setReader { t.reader with bn := 0, session := none }).set R.CLF_STATUS_RCARD 1) ht 0 0
  refine ⟨?_, ?_, ?_, ?_, ?_, ?_, ?_, ?_, ?_, ?_, ?_, ?_, ?_, ?_, ?_, ?_, ?_, ?_, ?_, ?_, ?_, ?_, ?_, ?_, ?_, ?_⟩
  · intro c hc hcmd hkeep
    have hbusy (allowed : Bool) := rdRefusal_of_busy hcmd allowed
    have hrun (f : State → State) (hf : f s = s.rdCode 0x0809 0) :
        (.next (s.whenKeep f) : Host.Outcome State Fault Refusal) = .next (coded s 0x0809 0) := by
      rw [whenKeep_of_runs hruns hkeep, hf, hcoded s hon]
    simp only [List.mem_cons, List.not_mem_nil, or_false] at hc
    obtain rfl | rfl | rfl | rfl | rfl | rfl | rfl := hc
    · exact hrun _ (fieldOn_of_refusal (hbusy _))
    · exact hrun _ (clfActivate_of_refusal (hbusy _))
    · exact hrun _ (clfExchange_of_refusal (hbusy _))
    · exact hrun _ (clfAuth_of_refusal (hbusy _))
    · exact hrun _ (clfSecure_of_refusal (hbusy _))
    · exact hrun _ (clfDeactivate_of_refusal (hbusy _))
    · exact hrun _ (fieldOff_of_refusal (hbusy _))
  · intro c f v hc hcmd hget hkeep
    have hrun (f : State → State) (hf : f s = s.rdCode 0x080A 0) :
        (.next (s.whenKeep f) : Host.Outcome State Fault Refusal) = .next (coded s 0x080A 0) := by
      rw [whenKeep_of_runs hruns hkeep, hf, hcoded s hon]
    have hno {allowed : Bool} (h : allowed = false) : s.rdRefusal allowed = some 0x080A := by
      rw [h, rdRefusal_of_disallowed hcmd]
    simp only [List.mem_cons, List.not_mem_nil, or_false, Prod.mk.injEq] at hc
    obtain ⟨rfl, rfl, rfl⟩ | ⟨rfl, rfl, rfl⟩ | ⟨rfl, rfl, rfl⟩ | ⟨rfl, rfl, rfl⟩ | ⟨rfl, rfl, rfl⟩ | ⟨rfl, rfl, rfl⟩ |
      ⟨rfl, rfl, rfl⟩ := hc
    · exact hrun _ (fieldOn_of_refusal (hno (by simp [is_eq_of_get hget])))
    · exact hrun _ (clfActivate_of_refusal (hno (by simp [is_eq_of_get hget])))
    · exact hrun _ (clfActivate_of_refusal (hno (by simp [is_eq_of_get hget])))
    · exact hrun _ (clfExchange_of_refusal (hno (is_eq_of_get hget)))
    · exact hrun _ (clfAuth_of_refusal (hno (is_eq_of_get hget)))
    · exact hrun _ (clfSecure_of_refusal (hno (is_eq_of_get hget)))
    · exact hrun _ (clfDeactivate_of_refusal (hno (is_eq_of_get hget)))
  · exact fun hcmd ⟨hcarrier, hfield⟩ hkeep =>
      next_of_keep hruns hkeep ((fieldOn_of_field hcmd hcarrier hfield).trans (hcoded s hon _ _))
  · exact fun hcmd ⟨hcarrier, hfield⟩ hkeep => next_of_keep hruns hkeep (fieldOn_of_clear hcmd hcarrier hfield)
  · exact fun hphase hpast => next_of_runs hruns ((guardEnd_of_past hphase hpast).trans (hended s hon _ _))
  · exact fun hcmd hkeep => next_of_keep hruns hkeep ((fieldOff_of_idle hcmd).trans (hcoded s.carrierOff hon _ _))
  · refine fun hphase hpast hfield => next_of_runs hruns ((carrierReset_of_past hphase hpast).trans ?_)
    rw [fdetFall_of_none (s := s.setReader { s.reader with phase := .idle }) hfield]
  · refine fun hphase hpast hfield => next_of_runs hruns ((carrierReset_of_past hphase hpast).trans ?_)
    rw [fdetFall_of_field (s := s.setReader { s.reader with phase := .idle }) hfield hon]
    rfl
  · exact fun hcmd hcard hkeep => next_of_keep hruns hkeep (clfDeactivate_of_card hcmd hcard)
  · refine fun coll hphase => next_of_runs hruns ((clfFrame_deselect hphase).trans ?_)
    exact (rdEnd_rdStamp (s := s.hears.rdNoCard) hon 0 0).trans (hended heard.rdNoCard hon _ _)
  · refine fun bs coll crc ⟨hphase, htries⟩ hbad => next_of_runs hruns ((clfFrame_badBlock (.inr ⟨hphase, hbad⟩)).trans ?_)
    exact congrArg State.rdStamp (rdBad_of_tries (s := s.hears) htries _)
  · exact fun hcmd ⟨hcarrier, hcard⟩ hkeep => next_of_keep hruns hkeep (clfActivate_of_carrier hcmd hcarrier hcard)
  · exact fun hphase hpast => next_of_runs hruns ((clfExpiry_atqa hon hphase hpast).trans (hended heard hon _ _))
  · exact fun hphase hpast => next_of_runs hruns ((clfExpiry_activation hon hphase hpast).trans (hfail heard hon rfl _))
  · exact fun bs crc coll hphase => next_of_runs hruns (clfFrame_wupa hphase)
  · exact fun bs crc c hphase hc => next_of_runs hruns (clfFrame_collision hphase hc)
  · exact fun bs crc hphase hgood => next_of_runs hruns (clfFrame_uid hphase hgood)
  · exact fun bs crc hphase hbad => next_of_runs hruns ((clfFrame_badUid hon hphase hbad).trans (hfail heard hon rfl _))
  · exact fun sak coll hphase ⟨hmore, hlevel, hcascade⟩ =>
      next_of_runs hruns (clfFrame_cascade hphase hmore hlevel hcascade)
  · intro sak coll hphase ⟨hlast, hiso⟩
    refine ⟨_, next_of_runs hruns (clfFrame_selected hphase hlast hiso), ?_, ?_, ?_, ?_, rfl, rfl, fun f hf => ?_⟩ <;>
      rw [rdStamp_get, rdSend_get]
    · exact selected_get_uid
    · exact selected_get_uidRest
    · exact selected_get_length
    · exact selected_get_sak
    · exact selected_get_other hf
  · intro sak coll hphase ⟨hlast, hother⟩
    obtain ⟨t, hdo, ht, htx⟩ := clfFrame_otherCard (coll := coll) hon hphase hlast hother
    refine ⟨_, next_of_runs hruns (hdo.trans (rdEnd_of_on ht _ _)), ?_, rfl, htx⟩
    rw [cause_get_other _ _ _ _ _ (by decide), get_set_ne _ _ _ _ (by decide), get_set_same]
    rfl
  · intro bs coll hphase hbs
    subst hbs
    exact next_of_runs hruns ((clfFrame_shortAts hon hphase).trans (hactive _ hon))
  · refine fun t0 ta tb coll hphase ⟨hbits, hguard⟩ =>
      next_of_runs hruns ((clfFrame_atsWithoutGuard hon hphase hbits hguard rfl).trans ?_)
    have hstamped (k : Reader) := hactive (s.setReader k).rdStamp hon
    rw [hstamped]
    rfl
  · exact fun t0 ta tb coll hphase ⟨hbits, hleast, hmost⟩ =>
      next_of_runs hruns (clfFrame_atsWithGuard hphase hbits hleast hmost rfl)
  · exact fun coll hphase => next_of_runs hruns ((clfFrame_ppsDone hon hphase).trans (hactive heard hon))
  · refine fun bs coll crc hphase hbad => next_of_runs hruns ((clfFrame_badCrc_activation hphase hbad).trans ?_)
    exact (rdFail_rdStamp (s := s.hears) hon _).trans (hfail heard hon rfl _)

end Sys2Proof.Machine
end

section
-- Checked in order, the proofs do not hold one thread each.
set_option Elab.async false
/-!
PROOFS. What a transfer that a unit issues changes (R33 to R36): registers of the units that serve and report it, and the parts of the
state that these hold. Every other unit is as it was, and so are the registers of the FED.
-/

namespace Sys2Proof.Machine

/-- A register of the FED. -/
def Fld.ofFed (f : Fld) : Prop := 0xFF00120000 * 64 ≤ f.key ∧ f.key < 0xFF00130000 * 64

/-- From `s` to `t` only what serves, reports and carries transfers has changed. -/
structure State.Transfers (s t : State) : Prop where
  rest : t = { s with
    regs := t.regs, mem := t.mem, irq := t.irq, latch := t.latch, bus := t.bus, regQ := t.regQ, faultQ := t.faultQ
    tmp := t.tmp, memc := t.memc, flc := t.flc, mmu := t.mmu }
  get : ∀ f : Fld, f.ofFed → t.get f = s.get f

namespace State.Transfers

variable {s t u : State}

theorem refl (s : State) : s.Transfers s := ⟨rfl, fun _ _ => rfl⟩

theorem pwr (h : s.Transfers t) : t.pwr = s.pwr := by rw [h.rest]
theorem fed (h : s.Transfers t) : t.fed = s.fed := by rw [h.rest]
theorem reader (h : s.Transfers t) : t.reader = s.reader := by rw [h.rest]

/-- A further update of such parts. -/
theorem update (h : s.Transfers t)
    (e : u = { t with
      regs := u.regs, mem := u.mem, irq := u.irq, latch := u.latch, bus := u.bus, regQ := u.regQ, faultQ := u.faultQ
      tmp := u.tmp, memc := u.memc, flc := u.flc, mmu := u.mmu })
    (eget : ∀ f : Fld, f.ofFed → u.get f = t.get f) : s.Transfers u := by
  refine ⟨?_, fun f hf => (eget f hf).trans (h.get f hf)⟩
  have hrest := congrArg (fun v : State => { v with
    regs := u.regs, mem := u.mem, irq := u.irq, latch := u.latch, bus := u.bus, regQ := u.regQ, faultQ := u.faultQ
    tmp := u.tmp, memc := u.memc, flc := u.flc, mmu := u.mmu }) h.rest
  exact e.trans hrest

/-- An update of such parts, the registers apart. -/
theorem of_parts (h : s.Transfers t)
    (e : u = { t with
      regs := u.regs, mem := u.mem, irq := u.irq, latch := u.latch, bus := u.bus, regQ := u.regQ, faultQ := u.faultQ
      tmp := u.tmp, memc := u.memc, flc := u.flc, mmu := u.mmu } := by rfl)
    (eregs : u.regs = t.regs := by rfl) : s.Transfers u := h.update e fun f _ => by simp only [State.get, eregs]

/-- A write of a register of another unit than the FED. -/
theorem set {f : Fld} {v : Nat} (h : s.Transfers t) (hf : f.key < 0xFF00120000 * 64 ∨ 0xFF00130000 * 64 ≤ f.key := by decide) :
    s.Transfers (t.set f v) :=
  h.update rfl fun g ⟨hlow, hhigh⟩ => get_set_ne t f g v (by omega)

/-! ### The branches of a definition -/

theorem ite {c : Prop} [Decidable c] (ht : s.Transfers t) (hu : s.Transfers u) : s.Transfers (if c then t else u) := by
  split
  · exact ht
  · exact hu

theorem iteSnd {α : Type} {c : Prop} [Decidable c] {p q : α × State} (hp : s.Transfers p.2) (hq : s.Transfers q.2) :
    s.Transfers (if c then p else q).2 := by
  split
  · exact hp
  · exact hq

theorem iteSnd₂ {α β : Type} {c : Prop} [Decidable c] {p q : α × β × State} (hp : s.Transfers p.2.2) (hq : s.Transfers q.2.2) :
    s.Transfers (if c then p else q).2.2 := by
  split
  · exact hp
  · exact hq

theorem foldlSnd {α β : Type} {f : β × State → α → β × State} {l : List α} {p : β × State} (h : s.Transfers p.2)
    (hf : ∀ {q a}, s.Transfers q.2 → s.Transfers (f q a).2) : s.Transfers (l.foldl f p).2 := by
  induction l generalizing p with
  | nil => exact h
  | cons a l ih => exact ih (hf h)

/-! ### Named updates -/

theorem count {f : Fld} (h : s.Transfers t) (hf : f.key < 0xFF00120000 * 64 ∨ 0xFF00130000 * 64 ≤ f.key := by decide) :
    s.Transfers (t.count f) := h.set hf

theorem next {f : Fld} (h : s.Transfers t) (hf : f.key < 0xFF00120000 * 64 ∨ 0xFF00130000 * 64 ≤ f.key := by decide) :
    s.Transfers (t.next f) := h.set hf

theorem raise {v : Nat} (h : s.Transfers t) : s.Transfers (t.raise v) := h.of_parts

theorem report {m : FaultMsg} (h : s.Transfers t) : s.Transfers (t.report m) := h.of_parts

theorem putBytes {a : Nat} {bs : List Byte} (h : s.Transfers t) : s.Transfers (t.putBytes a bs) := by
  rw [putBytes_eq_mem]
  exact h.of_parts

theorem tamper {n detail : Nat} (h : s.Transfers t) (hn : n ≤ 16 := by decide) : s.Transfers (t.tamper n detail) := by
  have hmarked (v w : Nat) : s.Transfers
      (((if (t.get R.TMP_FLAGS_FLAG).testBit n then t else t.set (R.TMP_FIRST_TS_TICKS n) v).set R.TMP_FLAGS_FLAG w).count
        (R.TMP_COUNT_COUNT n)) :=
    (ite h (h.set (.inl (by simp only [Fld.key, R.TMP_FIRST_TS_TICKS]; omega)))).set.count
      (.inl (by simp only [Fld.key, R.TMP_COUNT_COUNT]; omega))
  exact .ite (hmarked _ _).of_parts (hmarked _ _).of_parts.set

/-! ### DDR lines (R285, R286) -/

theorem setLine {line v : Nat} (h : s.Transfers t) : s.Transfers (t.setLine line v) := h.of_parts

theorem readLine {line agent dom : Nat} (h : s.Transfers t) : s.Transfers (t.readLine line agent dom).2.2 := by
  unfold State.readLine
  split
  · exact h
  · exact h.count.setLine
  · exact .report (.ite h.count h.count.set.set.raise)
  · exact h.count.tamper

theorem readDdr {agent dom a n k : Nat} (h : s.Transfers t) : s.Transfers (t.readDdr agent dom a n k).2.2 := by
  induction k generalizing t a n with
  | zero => exact h
  | succ k ih => exact .iteSnd₂ h (ih h.readLine)

theorem writeLine {a agent dom : Nat} {bs : List Byte} (h : s.Transfers t) : s.Transfers (t.writeLine a bs agent dom) :=
  .ite h.putBytes.setLine (.ite h.readLine h.readLine.putBytes)

theorem writeDdr {agent dom a k : Nat} {bs : List Byte} (h : s.Transfers t) : s.Transfers (t.writeDdr agent dom a bs k) := by
  induction k generalizing t a bs with
  | zero => exact h
  | succ k ih => exact .ite h (ih h.writeLine)

/-! ### Register blocks (R15, R16) -/

theorem readEffect {a : Nat} {low high : Bool} (h : s.Transfers t) : s.Transfers (t.readEffect a low high) :=
  .ite h.of_parts (.ite h.of_parts.set.set h)

theorem regRead {agent a n : Nat} {r : Nat × State} (h : s.Transfers t) (e : t.regRead agent a n = some r) :
    s.Transfers r.2 := by
  unfold State.regRead at e
  split at e <;> cases e
  · exact h
  · exact h.readEffect
  · exact h.of_parts.readEffect
  · exact h.of_parts.readEffect

theorem violation {x : Xfer} {type a : Nat} (h : s.Transfers t) : s.Transfers (t.violation x type a) := h.report

theorem regServe {x : Xfer} {type a n : Nat} {data : List Byte} (h : s.Transfers t) :
    s.Transfers (t.regServe x type a n data).2 := by
  unfold State.regServe
  refine .iteSnd ?_ (.iteSnd (.ite h h.violation) ?_)
  · split
    · exact h.of_parts
    · exact h.of_parts
    · exact h.violation
  · split
    next e => exact h.regRead e
    next => exact h.violation

/-! ### Flash (R495 to R497, R503) -/

theorem flcEvent {v : Nat} (h : s.Transfers t) : s.Transfers (t.flcEvent v) := h.set.raise

theorem flashLine {line : Nat} (h : s.Transfers t) : s.Transfers (t.flashLine line).2 := by
  unfold State.flashLine
  dsimp only
  split
  · exact h
  · exact .flcEvent (.ite h.count h.count.set.set)
  · exact .iteSnd h.next (.flcEvent (.ite h.next.count h.next.count.set.set))

theorem flashTouch {a : Nat} (h : s.Transfers t) : s.Transfers (t.flashTouch a) := by
  unfold State.flashTouch
  split
  · exact h
  · exact .ite h (.ite h.of_parts h.of_parts.set.next)

theorem flashLines {a n k : Nat} (h : s.Transfers t) : s.Transfers (t.flashLines a n k).2 := by
  induction k generalizing t a n with
  | zero => exact h
  | succ k ih => exact .iteSnd h (ih h.flashLine)

theorem withFlc {k : Flc} (h : s.Transfers t) : s.Transfers { t with flc := k } := h.of_parts

theorem fetchMiss {line : Nat} (h : s.Transfers t) : s.Transfers (t.fetchMiss line).2 := by
  unfold State.fetchMiss
  exact withFlc (foldlSnd h.flashTouch.flashLine fun h' => h'.flashLine)

theorem fetchLine {line : Nat} (h : s.Transfers t) : s.Transfers (t.fetchLine line).2 := by
  have hread : s.Transfers (match t.fetchHit line with | some b => (b, t) | none => t.fetchMiss line).2 := by
    split
    · exact h
    · exact h.fetchMiss
  exact hread.of_parts

theorem fetchFlash {a n k : Nat} (h : s.Transfers t) : s.Transfers (t.fetchFlash a n k).2 := by
  induction k generalizing t a n with
  | zero => exact h
  | succ k ih => exact .iteSnd h (ih h.fetchLine)

/-! ### A transfer on the bus (R33 to R36) -/

theorem unitServe {x : Xfer} {type a n : Nat} {data : List Byte} (h : s.Transfers t) :
    s.Transfers (t.unitServe x type a n data).2.2 :=
  .iteSnd₂ h.regServe (.iteSnd₂ (.ite h.writeDdr (.ite h.count h.putBytes))
    (.iteSnd₂ h.readDdr (.iteSnd₂ (.iteSnd h.fetchFlash h.flashTouch.flashLines) h)))

theorem busFail {side : Nat} (h : s.Transfers t) : s.Transfers (t.busFail side) := h.tamper

theorem busTake {agent : Nat} (h : s.Transfers t) : s.Transfers (t.busTake agent).2 := by
  unfold State.busTake
  split
  · exact h
  · exact h.of_parts

theorem crossed {x : Xfer} {type a n : Nat} {data : List Byte} {e : Option BusErr}
    {serve : State → Nat → Nat → Nat → List Byte → List Byte × Nat × State} (h : s.Transfers t)
    (hserve : ∀ {type a n data}, s.Transfers (serve t type a n data).2.2) :
    s.Transfers (t.crossed x type a n data e serve).2.2 := by
  unfold State.crossed
  split
  · exact hserve
  · refine .iteSnd₂ ?_ (.iteSnd₂ (.iteSnd₂ ?_ (.ite hserve hserve.busFail)) ?_)
    · split
      · exact h.busFail
      · exact hserve
    · split
      · exact h.busFail
      · exact hserve
    · dsimp only
      split
      · exact hserve.busFail
      · exact hserve

theorem issue {x : Xfer} {type a n : Nat} {data : List Byte} (h : s.Transfers t) :
    s.Transfers (t.issue x type a n data).2.2 := by
  unfold State.issue
  refine .iteSnd₂ h ?_
  split
  · exact h.violation
  · exact h.busTake.crossed h.busTake.unitServe

end State.Transfers

/-- A unit's READ. -/
theorem State.rd_transfers (s : State) (x : Xfer) (a n : Nat) : s.Transfers (s.rd x a n).2 := (State.Transfers.refl s).issue

/-- A unit's WRITE. -/
theorem State.wr_transfers (s : State) (x : Xfer) (a : Nat) (bs : List Byte) : s.Transfers (s.wr x a bs) :=
  (State.Transfers.refl s).issue

/-- A key read from the table (R354). -/
theorem State.keyRead_transfers (s : State) (d i : Nat) : s.Transfers (s.keyRead d i).2 := by
  unfold State.keyRead
  refine .iteSnd (.refl s) ?_
  dsimp only
  split
  · exact s.rd_transfers _ _ _
  · exact s.rd_transfers _ _ _

end Sys2Proof.Machine
end

section
set_option Elab.async false
/-!
PROOFS. A unit's WRITE takes no notice of the contactless reader: it does the same whatever the reader holds.
-/

namespace Sys2Proof.Machine

variable {s : State} {k : Reader}

theorem ite_setReader {c : Prop} [Decidable c] (t u : State) :
    (if c then t else u).setReader k = if c then t.setReader k else u.setReader k := apply_ite (State.setReader · k) c t u

theorem judge_setReader (x : Xfer) (type : Nat) : ∀ n a, (s.setReader k).judge x type a n = s.judge x type a n
  | 0, _ => rfl
  | n + 1, a => by
    have hsame : (s.setReader k).allows x type a = s.allows x type a := rfl
    rw [State.judge, State.judge, hsame, judge_setReader x type n]

theorem putBytes_setReader (bs : List Byte) : ∀ (s : State) (a : Nat), (s.setReader k).putBytes a bs = (s.putBytes a bs).setReader k := by
  induction bs with
  | nil => exact fun _ _ => rfl
  | cons b bs ih => exact fun s a => ih (s.putByte a b) (a + 1)

theorem tamper_setReader (n detail : Nat) : (s.setReader k).tamper n detail = (s.tamper n detail).setReader k := by
  by_cases hflag : (s.get R.TMP_FLAGS_FLAG).testBit n = true <;> by_cases hlive : s.tmp.live = true <;>
  · simp only [State.tamper, setReader_get, setReader_tmp, hflag, hlive, Bool.false_eq_true, if_true, if_false]
    rfl

theorem readLine_setReader (line agent dom : Nat) : (s.setReader k).readLine line agent dom =
    ((s.readLine line agent dom).1, (s.readLine line agent dom).2.1, (s.readLine line agent dom).2.2.setReader k) := by
  unfold State.readLine
  rw [show (s.setReader k).lineState line = s.lineState line from rfl]
  split
  · rfl
  · rfl
  · cases hvalid : (s.count R.MEMC_UE_COUNT_COUNT).is R.MEMC_UE_ADDR_VALID <;>
    · have hsame : ((s.setReader k).count R.MEMC_UE_COUNT_COUNT).is R.MEMC_UE_ADDR_VALID = _ := hvalid
      simp only [State.lineUe, hvalid, hsame, Bool.false_eq_true, if_true, if_false]
      rfl
  · exact congrArg (fun t => (zeros 64, 3, t)) (tamper_setReader (s := s.count R.MEMC_TAG_COUNT_COUNT) _ _)

theorem writeLine_setReader (a agent dom : Nat) (bs : List Byte) :
    (s.setReader k).writeLine a bs agent dom = (s.writeLine a bs agent dom).setReader k := by
  simp only [State.writeLine, readLine_setReader, ite_setReader, putBytes_setReader]
  rfl

theorem writeDdr_setReader (agent dom : Nat) : ∀ (n : Nat) (s : State) (a : Nat) (bs : List Byte),
    (s.setReader k).writeDdr agent dom a bs n = (s.writeDdr agent dom a bs n).setReader k
  | 0, _, _, _ => rfl
  | n + 1, s, a, bs => by
    rw [State.writeDdr, State.writeDdr, ite_setReader]
    simp only [writeLine_setReader, writeDdr_setReader agent dom n]

theorem busFail_setReader (side : Nat) : (s.setReader k).busFail side = (s.busFail side).setReader k := tamper_setReader _ _

theorem readDdr_setReader (agent dom : Nat) : ∀ (m : Nat) (s : State) (a n : Nat), (s.setReader k).readDdr agent dom a n m =
    ((s.readDdr agent dom a n m).1, (s.readDdr agent dom a n m).2.1, (s.readDdr agent dom a n m).2.2.setReader k)
  | 0, _, _, _ => rfl
  | m + 1, s, a, n => by
    rw [State.readDdr, State.readDdr]
    split
    · rfl
    · simp only [readLine_setReader, readDdr_setReader agent dom m]

theorem regValue_setReader (a : Nat) : (s.setReader k).regValue a = s.regValue a := rfl

theorem readEffect_setReader (a : Nat) (low high : Bool) :
    (s.setReader k).readEffect a low high = (s.readEffect a low high).setReader k := by
  unfold State.readEffect
  rw [ite_setReader, ite_setReader]
  rfl

theorem regRead_setReader (agent a n : Nat) :
    (s.setReader k).regRead agent a n = (s.regRead agent a n).map fun r => (r.1, r.2.setReader k) := by
  have hlow := readEffect_setReader (k := k)
    (s := { s with latch := tabIns s.latch (agent * 2 ^ 40 + a) (s.regValue a / 2 ^ 32) }) a true false
  have hhigh := readEffect_setReader (k := k) (s := { s with latch := tabDel s.latch (agent * 2 ^ 40 + (a - 4)) }) (a - 4) false true
  unfold State.regRead
  generalize regShape a n = shape
  match shape with
  | 0 => rfl
  | 1 => exact congrArg (fun t => some (s.regValue a, t)) (readEffect_setReader _ _ _)
  | 2 => exact congrArg (fun t => some (s.regValue a % 2 ^ 32, t)) hlow
  | 3 => exact congrArg (fun t => some (_, t)) hhigh
  | _ + 4 => rfl

theorem regServe_setReader (x : Xfer) (type a n : Nat) (data : List Byte) :
    (s.setReader k).regServe x type a n data = ((s.regServe x type a n data).1, (s.regServe x type a n data).2.setReader k) := by
  unfold State.regServe
  rw [regRead_setReader]
  by_cases hwrite : type = 1
  · simp only [if_pos hwrite]
    split <;> rfl
  by_cases hfetch : type = 2
  · simp only [if_neg hwrite, if_pos hfetch]
    by_cases hnone : regShape a n = 0
    · simp only [if_pos hnone]
    · simp only [if_neg hnone]
      rfl
  · simp only [if_neg hwrite, if_neg hfetch]
    cases s.regRead x.agent a n <;> rfl

theorem flashUe_setReader (off : Nat) : (if (s.setReader k).is R.FLC_UE_ADDR_VALID then s.setReader k else
    ((s.setReader k).set R.FLC_UE_ADDR_LINE off).set R.FLC_UE_ADDR_VALID 1) =
    (if s.is R.FLC_UE_ADDR_VALID then s else (s.set R.FLC_UE_ADDR_LINE off).set R.FLC_UE_ADDR_VALID 1).setReader k := by
  rw [ite_setReader]
  rfl

theorem flashWarn_setReader (off : Nat) : (if (s.setReader k).is R.FLC_WARN_ADDR_VALID then s.setReader k else
    ((s.setReader k).set R.FLC_WARN_ADDR_LINE off).set R.FLC_WARN_ADDR_VALID 1) =
    (if s.is R.FLC_WARN_ADDR_VALID then s else (s.set R.FLC_WARN_ADDR_LINE off).set R.FLC_WARN_ADDR_VALID 1).setReader k := by
  rw [ite_setReader]
  rfl

theorem flashLine_setReader (line : Nat) :
    (s.setReader k).flashLine line = ((s.flashLine line).1, (s.flashLine line).2.setReader k) := by
  have hbytes : (s.setReader k).bytes line 32 = s.bytes line 32 := rfl
  have hue : (s.setReader k).count R.FLC_UE_COUNT_COUNT = (s.count R.FLC_UE_COUNT_COUNT).setReader k := rfl
  have hce : (s.setReader k).next R.FLC_CE_COUNT_COUNT = (s.next R.FLC_CE_COUNT_COUNT).setReader k := rfl
  have hwarn (t : State) : (t.setReader k).count R.FLC_WARN_COUNT_COUNT = (t.count R.FLC_WARN_COUNT_COUNT).setReader k := rfl
  have hevent (t : State) (v : Nat) : (t.setReader k).flcEvent v = (t.flcEvent v).setReader k := rfl
  unfold State.flashLine
  generalize (line - 0xF000000000) / 32 = off
  simp only [setReader_flc, setReader_get, hbytes, hue, hce, hwarn, flashUe_setReader, flashWarn_setReader, hevent]
  split
  · rfl
  · rfl
  · split <;> rfl

theorem flashTouch_setReader (a : Nat) : (s.setReader k).flashTouch a = (s.flashTouch a).setReader k := by
  unfold State.flashTouch
  rw [setReader_flc]
  split
  · rfl
  · rw [ite_setReader]
    simp only [ite_setReader]
    rfl

theorem flashLines_setReader : ∀ (m : Nat) (s : State) (a n : Nat), (s.setReader k).flashLines a n m =
    ((s.flashLines a n m).1, (s.flashLines a n m).2.setReader k)
  | 0, _, _, _ => rfl
  | m + 1, s, a, n => by
    rw [State.flashLines, State.flashLines]
    split
    · rfl
    · simp only [flashLine_setReader, flashLines_setReader m]

/-- One line more is read into the prefetch buffer. -/
theorem prefetch_setReader (ls : List Nat) : ∀ p : List (Nat × List Byte) × State,
    ls.foldl (fun p l => (p.1 ++ [(l, (p.2.flashLine l).1)], (p.2.flashLine l).2)) (p.1, p.2.setReader k) =
      ((ls.foldl (fun p l => (p.1 ++ [(l, (p.2.flashLine l).1)], (p.2.flashLine l).2)) p).1,
        (ls.foldl (fun p l => (p.1 ++ [(l, (p.2.flashLine l).1)], (p.2.flashLine l).2)) p).2.setReader k) := by
  induction ls with
  | nil => exact fun _ => rfl
  | cons l ls ih =>
    intro p
    simp only [List.foldl_cons, flashLine_setReader]
    exact ih (p.1 ++ [(l, (p.2.flashLine l).1)], (p.2.flashLine l).2)

/-- A prefetch that found `p` gives the line `b`. -/
def fetched (b : List Byte) (p : List (Nat × List Byte) × State) : List Byte × State :=
  (b, { p.2 with flc := { p.2.flc with pre := p.1 } })

theorem fetched_setReader (b : List Byte) (p : List (Nat × List Byte) × State) :
    fetched b (p.1, p.2.setReader k) = ((fetched b p).1, (fetched b p).2.setReader k) := rfl

/-- A miss as what it reads of the lines `ls` after its own. -/
def State.fetchRow (s : State) (line : Nat) (ls : List Nat) : List Byte × State :=
  fetched ((s.flashTouch line).flashLine line).1
    (ls.foldl (fun p l => (p.1 ++ [(l, (p.2.flashLine l).1)], (p.2.flashLine l).2))
      ([(line, ((s.flashTouch line).flashLine line).1)], ((s.flashTouch line).flashLine line).2))

theorem fetchMiss_eq (line : Nat) : s.fetchMiss line = s.fetchRow line (nextLines line) := rfl

theorem fetchRow_setReader (line : Nat) (ls : List Nat) :
    (s.setReader k).fetchRow line ls = ((s.fetchRow line ls).1, (s.fetchRow line ls).2.setReader k) := by
  rw [State.fetchRow, flashTouch_setReader, flashLine_setReader]
  dsimp only
  rw [prefetch_setReader ls ([(line, ((s.flashTouch line).flashLine line).1)], ((s.flashTouch line).flashLine line).2),
    fetched_setReader]
  rw [State.fetchRow]

theorem fetchMiss_setReader (line : Nat) :
    (s.setReader k).fetchMiss line = ((s.fetchMiss line).1, (s.fetchMiss line).2.setReader k) := by
  rw [fetchMiss_eq, fetchMiss_eq, fetchRow_setReader]

theorem fetchLine_setReader (line : Nat) :
    (s.setReader k).fetchLine line = ((s.fetchLine line).1, (s.fetchLine line).2.setReader k) := by
  unfold State.fetchLine
  rw [show (s.setReader k).fetchHit line = s.fetchHit line from rfl]
  cases s.fetchHit line with
  | some b => rfl
  | none =>
    simp only [fetchMiss_setReader]
    rfl

theorem fetchFlash_setReader : ∀ (m : Nat) (s : State) (a n : Nat), (s.setReader k).fetchFlash a n m =
    ((s.fetchFlash a n m).1, (s.fetchFlash a n m).2.setReader k)
  | 0, _, _, _ => rfl
  | m + 1, s, a, n => by
    rw [State.fetchFlash, State.fetchFlash]
    split
    · rfl
    · simp only [fetchLine_setReader, fetchFlash_setReader m]

theorem unitServe_setReader (x : Xfer) (type a n : Nat) (data : List Byte) : (s.setReader k).unitServe x type a n data =
    ((s.unitServe x type a n data).1, (s.unitServe x type a n data).2.1, (s.unitServe x type a n data).2.2.setReader k) := by
  simp only [State.unitServe, regServe_setReader, writeDdr_setReader, putBytes_setReader, readDdr_setReader,
    fetchFlash_setReader, State.readFlash, flashTouch_setReader, flashLines_setReader]
  split
  · rfl
  split
  · rw [ite_setReader, ite_setReader]
    rfl
  split
  · rfl
  split
  · split <;> rfl
  · rfl

theorem busTake_setReader (agent : Nat) :
    (s.setReader k).busTake agent = ((s.busTake agent).1, (s.busTake agent).2.setReader k) := by
  unfold State.busTake
  rw [setReader_bus]
  split <;> rfl

theorem crossed_setReader (x : Xfer) (type a n : Nat) (data : List Byte) (e : Option BusErr) :
    (s.setReader k).crossed x type a n data e (fun s => s.unitServe x) =
      ((s.crossed x type a n data e fun s => s.unitServe x).1, (s.crossed x type a n data e fun s => s.unitServe x).2.1,
        (s.crossed x type a n data e fun s => s.unitServe x).2.2.setReader k) := by
  cases e with
  | none => simp only [State.crossed, unitServe_setReader]
  | some e =>
    simp only [State.crossed, unitServe_setReader, busFail_setReader]
    split
    · split <;> rfl
    split
    · split
      · split <;> rfl
      · exact congrArg (fun t => (_, _, t)) (ite_setReader _ _).symm
    · split <;> rfl

/-- A WRITE is the same whatever the reader holds. -/
theorem wr_setReader (x : Xfer) (a : Nat) (bs : List Byte) : (s.setReader k).wr x a bs = (s.wr x a bs).setReader k := by
  have hclosed : (s.setReader k).instrClosed x.agent 1 a bs.length = s.instrClosed x.agent 1 a bs.length := rfl
  simp only [State.wr, State.issue, hclosed, judge_setReader, busTake_setReader, crossed_setReader]
  split
  · rfl
  · split <;> rfl

end Sys2Proof.Machine
end

section
-- Checked in order, the proofs do not hold one thread each.
set_option Elab.async false
/-!
PROOFS. The contactless reader's exchanges: how one begins, what a block does to it and what its whole response does (R546 to R551).
-/

namespace Sys2Proof.Machine

variable {s : State}

/-! ### Beginning an exchange -/

theorem afterBank_of_free {x : Xfer} {a n : Nat} {c : FlUnit} {f : State → State} (h : s.flashWaits a = false) :
    s.afterBank x a n c f = f s := if_neg (by simp [h])

theorem clen_of_between {n lo hi : Nat} (h : lo ≤ n ∧ n ≤ hi) : s.clen n lo hi = (n, s) := if_pos h

/-- A command that runs waits from now on; so does its first block. -/
theorem rdRun_tbase (cmd : Nat) (ph : RdPhase) (tx : List Byte) : (s.rdRun cmd ph tx).tbase = s.tbase := rfl

theorem clfExchange_of_card {n : Nat} (hcmd : s.reader.cmd = 0) (hcard : s.get R.CLF_STATUS_RCARD = 1)
    (hn : 4 ≤ n ∧ n ≤ 512) (hfree : s.flashWaits s.clfBuf = false) :
    s.clfExchange n = ((s.rd s.clfX s.clfBuf n).2.rdRun 3 .block []).rdApdu .plain (s.rd s.clfX s.clfBuf n).1 := by
  rw [State.clfExchange, is_of_get_one hcard, rdRefusal_of_allowed hcmd]
  exact (afterBank_of_free hfree).trans (by rw [clen_of_between hn])

/-- A protected APDU is sent in the session, and counted (R551). -/
def State.rdProtect (s : State) (b : Badge) (a : List Byte) : State :=
  (s.setReader { s.reader with head := 0x84 :: sliceB a 1 3, session := some { b with ci := b.ci + 1 } }).rdApdu .secure
    (secureApdu (0x84 :: sliceB a 1 3) (ccmSeal b.sk (badgeNonce 1 b.ci b.rnd) (0x84 :: sliceB a 1 3) (apduData a)))

theorem clfSecure_of_session {n : Nat} {b : Badge} (hcmd : s.reader.cmd = 0) (hsession : s.get R.CLF_STATUS_RSESSION = 1)
    (hb : s.reader.session = some b) (hn : 4 ≤ n ∧ n ≤ 512) (hfree : s.flashWaits s.clfBuf = false) :
    s.clfSecure n = ((s.rd s.clfX s.clfBuf n).2.rdRun 5 .block []).rdProtect b (s.rd s.clfX s.clfBuf n).1 := by
  rw [State.clfSecure, is_of_get_one hsession, rdRefusal_of_allowed hcmd, hb]
  exact (afterBank_of_free hfree).trans (by rw [clen_of_between hn]; rfl)

theorem clfAuth_of_card (hcmd : s.reader.cmd = 0) (hcard : s.get R.CLF_STATUS_RCARD = 1) :
    s.clfAuth = (match s.keyRead 0 (s.get R.CLF_RKEY_INDEX) with
      | (some m, t) => if m.alg = 1 ∧ m.usage = 3 then
          (fun u : State => u.setReader { u.reader with k := m.key })
            ({ t with ent := { t.ent with reqs := t.ent.reqs ++ [EntReq.badge] } }.rdRun 4 .random [])
        else t.rdCode 0x0807 0
      | (none, t) => t.rdCode 0x0807 0) := by
  rw [State.clfAuth, is_of_get_one hcard, rdRefusal_of_allowed hcmd]
  dsimp only
  rcases s.keyRead 0 (s.get R.CLF_RKEY_INDEX) with ⟨m | m, t⟩ <;> rfl

/-! ### The blocks of an exchange (R548) -/

/-- The kind of a block beside its number: the first byte without its lowest bit. -/
theorem pcb_cases {pcb v : Byte} (h : pcb &&& 0xFE = v) (heven : v.toNat % 2 = 0) : pcb = v ∨ pcb = v + 1 := by
  have hhalf : v.toNat / 2 = pcb.toNat / 2 := by
    have hlow : v.toNat = pcb.toNat &&& 254 := by rw [← h, BitVec.toNat_and]; rfl
    have hmask : pcb.toNat / 2 &&& 127 = pcb.toNat / 2 % 128 := by simpa using Nat.and_two_pow_sub_one_eq_mod (pcb.toNat / 2) 7
    rw [hlow, Nat.and_div_two, hmask]
    omega
  have hcases : pcb.toNat = v.toNat ∨ pcb.toNat = v.toNat + 1 := by omega
  refine hcases.imp BitVec.eq_of_toNat_eq fun hsucc => BitVec.eq_of_toNat_eq ?_
  bv_omega

/-- The reader, once an I-block has brought `inf`. -/
def Reader.taken (k : Reader) (inf : List Byte) (chain : Bool) : Reader :=
  { k with resp := k.resp ++ inf, bn := 1 - k.bn, tries := 0, chain := chain }

section
variable {pcb : Byte} {inf : List Byte}

theorem fld_pcb : fld (pcb :: inf) 0 1 = pcb.toNat := fld_one _ 0 (by simp)

/-- An I-block that is expected, and nothing left to send. -/
theorem not_unexpected (hbn : pcb.toNat % 2 = s.reader.bn) (hleft : s.reader.left = []) :
    ¬ (pcb.toNat % 2 ≠ s.reader.bn ∨ ¬ s.reader.left.isEmpty = true) := by simp [hbn, hleft]

theorem rdGood_of_last (hpcb : pcb &&& 0xFE = 0x02) (hbn : pcb.toNat % 2 = s.reader.bn) (hleft : s.reader.left = []) :
    s.rdGood (pcb :: inf) = (s.setReader (s.reader.taken inf false)).rdWhole (s.reader.resp ++ inf) := by
  have hexpected := not_unexpected hbn hleft
  unfold State.rdGood
  dsimp only
  rw [fld_pcb]
  obtain rfl | rfl := pcb_cases hpcb rfl <;>
    exact (if_pos (by decide)).trans ((if_neg hexpected).trans (if_neg (by decide)))

theorem rdGood_of_chained (hpcb : pcb &&& 0xFE = 0x12) (hbn : pcb.toNat % 2 = s.reader.bn) (hleft : s.reader.left = []) :
    s.rdGood (pcb :: inf) = s.setReader { s.reader.taken inf true with tx := [BitVec.ofNat 8 (0xA2 + (1 - s.reader.bn))] } := by
  have hexpected := not_unexpected hbn hleft
  unfold State.rdGood
  dsimp only
  rw [fld_pcb]
  obtain rfl | rfl := pcb_cases hpcb rfl <;>
    exact (if_pos (by decide)).trans ((if_neg hexpected).trans (if_pos (by decide)))

theorem rdGood_of_ack (hpcb : pcb &&& 0xFE = 0xA2) (hbn : pcb.toNat % 2 = s.reader.bn) (hleft : s.reader.left ≠ []) :
    s.rdGood [pcb] = (s.setReader { s.reader with bn := 1 - s.reader.bn, tries := 0 }).rdBlock := by
  have hmore : ¬ (s.reader.left.isEmpty = true) := by simpa using hleft
  unfold State.rdGood
  dsimp only
  rw [fld_pcb]
  obtain rfl | rfl := pcb_cases hpcb rfl <;>
    exact (if_neg (by decide)).trans ((if_pos (by decide)).trans (if_pos ⟨hbn, hmore⟩))

theorem rdGood_of_wtx {m : Byte} (hleast : 1 ≤ m.toNat % 64) (hmost : m.toNat % 64 ≤ 59) : s.rdGood [0xF2, m] =
    s.setReader { s.reader with tx := [0xF2, BitVec.ofNat 8 (m.toNat % 64)], wtx := m.toNat % 64 } := by
  have hm : fld ([0xF2, m].drop 1) 0 1 = m.toNat := fld_one [m] 0 (by simp)
  unfold State.rdGood
  dsimp only
  rw [fld_pcb, hm]
  exact (if_neg (by decide)).trans ((if_neg (by simp)).trans (if_pos ⟨rfl, rfl, hleast, hmost⟩))

end

/-! ### Whole responses, and the wait that begins with them -/

theorem wr_tbase (x : Xfer) (a : Nat) (bs : List Byte) : (s.wr x a bs).tbase = s.tbase :=
  congrArg (fun p : Pwr => (p.edges : Rat) * (5 / 8)) (s.wr_transfers x a bs).pwr

theorem wr_rdStamp (x : Xfer) (a : Nat) (bs : List Byte) : (s.wr x a bs).rdStamp = s.rdStamp.wr x a bs := by
  rw [State.rdStamp, State.rdStamp, wr_setReader, wr_tbase, (s.wr_transfers x a bs).reader]

theorem rdResp_rdStamp (hon : s.pwr.main = .on) (a : List Byte) : (s.rdResp a).rdStamp = s.rdStamp.rdResp a := by
  rw [State.rdResp, rdEnd_rdStamp (s := s.wr _ _ _) (by rw [(s.wr_transfers _ _ _).pwr, hon]), wr_rdStamp]
  rfl

theorem rdApdu_rdStamp (use : RdUse) (a : List Byte) : (s.rdApdu use a).rdStamp = s.rdStamp.rdApdu use a := by
  simp only [State.rdApdu, State.rdBlock, State.rdStamp, setReader_setReader, setReader_tbase, setReader_reader]

theorem rdApdu_rdStamp_left (use : RdUse) (a : List Byte) : s.rdStamp.rdApdu use a = s.rdApdu use a := by
  simp only [State.rdApdu, State.rdBlock, State.rdStamp, setReader_setReader, setReader_tbase, setReader_reader]

theorem rdBegin_rdStamp (hon : s.pwr.main = .on) (a : List Byte) : (s.rdBegin a).rdStamp = s.rdStamp.rdBegin a := by
  rw [State.rdBegin, State.rdBegin, apply_ite State.rdStamp]
  exact congrArg₂ (ite _) (rdApdu_rdStamp (s := s.setReader { s.reader with head := a.take 16 ++ sliceB a 16 8 }) _ _)
    (rdEnd_rdStamp (s := (s.setReader { s.reader with tx := [0xC2] }).rdNoCard) hon _ _)

/-- The session that the handshake opens. -/
def State.opened (s : State) : State :=
  ((s.setReader { s.reader with
    session := some { sk := badgeMac s.reader.k 3 s.reader.rndI (s.reader.head.take 16) [], rnd := s.reader.rndI.take 8 } }).set
    R.CLF_STATUS_RSESSION 1).set R.CLF_BADGE_ID_ID (ofLE (s.reader.head.drop 16))

theorem rdFinish_eq (a : List Byte) :
    s.rdFinish a = if a = [0x90, 0x00] then s.opened.rdEnd 0 0 else s.rdEnd 0x0806 0 := rfl

theorem rdFinish_rdStamp (hon : s.pwr.main = .on) (a : List Byte) : (s.rdFinish a).rdStamp = s.rdStamp.rdFinish a := by
  rw [rdFinish_eq, rdFinish_eq, apply_ite State.rdStamp]
  exact congrArg₂ (ite _) (rdEnd_rdStamp (s := s.opened) hon _ _) (rdEnd_rdStamp hon _ _)

/-- The session after a protected response: it ends with its counters, or with END (R551). -/
def State.rdCounted (s : State) (b : Badge) : State :=
  if b.over? ∨ s.reader.head.getD 1 0 = 0xA3 then (s.setReader { s.reader with session := some b }).rdNoSession
  else s.setReader { s.reader with session := some b }

theorem rdCounted_pwr (b : Badge) : (s.rdCounted b).pwr = s.pwr := by
  rw [State.rdCounted]
  split <;> rfl

theorem rdCounted_rdStamp (b : Badge) : (s.rdCounted b).rdStamp = s.rdStamp.rdCounted b := apply_ite State.rdStamp _ _ _

/-- The plain text of a protected response, where its status and its tag are right. -/
def Badge.opens (b : Badge) (head a : List Byte) : Option (List Byte) :=
  if a.drop (a.length - 2) = [0x90, 0x00] then ccmOpen b.sk (badgeNonce 2 b.cr b.rnd) head (a.take (a.length - 2)) else none

theorem rdSecure_of_session {b : Badge} (h : s.reader.session = some b) (a : List Byte) : s.rdSecure a =
    (match b.opens s.reader.head a with
    | none => s.rdNoSession.rdEnd 0x0808 0
    | some pt => (s.rdCounted { b with cr := b.cr + 1 }).rdResp pt) := by
  unfold State.rdSecure
  dsimp only
  rw [h]
  rfl

theorem rdSecure_of_none (h : s.reader.session = none) (a : List Byte) : s.rdSecure a = s.rdEnd 0x0808 0 := by
  unfold State.rdSecure
  dsimp only
  rw [h]

theorem rdSecure_rdStamp (hon : s.pwr.main = .on) (a : List Byte) : (s.rdSecure a).rdStamp = s.rdStamp.rdSecure a := by
  cases h : s.reader.session with
  | none =>
    rw [rdSecure_of_none h, rdSecure_of_none (s := s.rdStamp) h]
    exact rdEnd_rdStamp hon _ _
  | some b =>
    rw [rdSecure_of_session h, rdSecure_of_session (s := s.rdStamp) h, show s.rdStamp.reader.head = s.reader.head from rfl]
    cases b.opens s.reader.head a with
    | none => exact rdEnd_rdStamp (s := s.rdNoSession) hon _ _
    | some pt => exact (rdResp_rdStamp (by rw [rdCounted_pwr, hon]) pt).trans (congrArg (State.rdResp · pt) (rdCounted_rdStamp _))

theorem rdWhole_of_plain (h : s.reader.use = .plain) (a : List Byte) : s.rdWhole a = s.rdResp a := by rw [State.rdWhole, h]
theorem rdWhole_of_begin (h : s.reader.use = .begin) (a : List Byte) : s.rdWhole a = s.rdBegin a := by rw [State.rdWhole, h]
theorem rdWhole_of_finish (h : s.reader.use = .finish) (a : List Byte) : s.rdWhole a = s.rdFinish a := by rw [State.rdWhole, h]
theorem rdWhole_of_secure (h : s.reader.use = .secure) (a : List Byte) : s.rdWhole a = s.rdSecure a := by rw [State.rdWhole, h]

theorem rdWhole_rdStamp (hon : s.pwr.main = .on) (a : List Byte) : (s.rdWhole a).rdStamp = s.rdStamp.rdWhole a := by
  cases h : s.reader.use with
  | plain => rw [rdWhole_of_plain h, rdWhole_of_plain (s := s.rdStamp) h, rdResp_rdStamp hon]
  | begin => rw [rdWhole_of_begin h, rdWhole_of_begin (s := s.rdStamp) h, rdBegin_rdStamp hon]
  | finish => rw [rdWhole_of_finish h, rdWhole_of_finish (s := s.rdStamp) h, rdFinish_rdStamp hon]
  | secure => rw [rdWhole_of_secure h, rdWhole_of_secure (s := s.rdStamp) h, rdSecure_rdStamp hon]

/-- The reader, once an I-block has brought `inf` and the wait for the next block begins. -/
def Reader.took (k : Reader) (tb : Rat) (inf : List Byte) : Reader :=
  { k with resp := k.resp ++ inf, bn := 1 - k.bn, tries := 0, chain := false, wtx := 1, at_ := tb }

/-- The last I-block of a response. -/
theorem clfFrame_last {pcb : Byte} {inf : List Byte} {coll : Option Nat} (hon : s.pwr.main = .on)
    (hphase : s.reader.phase = .block) (hpcb : pcb &&& 0xFE = 0x02) (hbn : pcb.toNat % 2 = s.reader.bn)
    (hleft : s.reader.left = []) : s.clfFrame (pcb :: inf) (crcA (pcb :: inf)) coll =
      (s.setReader (s.reader.took s.tbase inf)).rdWhole (s.reader.resp ++ inf) := by
  rw [clfFrame_block hphase, rdGood_of_last (s := s.hears) hpcb hbn hleft,
    rdWhole_rdStamp (s := s.hears.setReader (s.hears.reader.taken inf false)) hon]
  rfl

theorem rdBad_of_enough (h : 2 ≤ s.reader.tries) (code : Nat) : s.rdBad code = s.rdFail code := if_neg (Nat.not_lt.mpr h)

theorem clfExpiry_block (hphase : s.reader.phase = .block) (hpast : s.reader.at_ + s.rdWait + 5 / 8 ≤ s.tbase) :
    s.clfExpiry = (s.hears.rdBad 0x0803).rdStamp := by
  rw [clfExpiry_of_awaits (by rw [hphase]; rfl) hpast, State.rdSilence, show s.hears.reader.phase = _ from hphase]

/-! ### What a failure leaves (R548) -/

theorem rdFail_reader (code : Nat) : (s.rdFail code).reader = { phase := .reset, at_ := s.tbase } := rfl

theorem rdFail_code (hon : s.pwr.main = .on) (code : Nat) : (s.rdFail code).get R.CLF_RRESULT_CODE = code % 2 ^ 16 := by
  have hend : (s.rdEnd code 0).get R.CLF_RRESULT_CODE = code % 2 ^ 16 := by
    rw [rdEnd_of_on hon, cause_get_other _ _ _ _ _ (by decide), get_set_ne _ _ _ _ (by decide), get_set_same]
    rfl
  rw [← hend, State.rdFail, setReader_get]
  simp only [State.carrierOff, State.rdForget, State.rdNoCard, State.rdNoSession]
  iterate 10 rw [get_set_ne _ _ _ _ (by decide)]
  rfl

theorem rdFail_carrier (code : Nat) : (s.rdFail code).get R.CLF_STATUS_CARRIER = 0 := by
  rw [State.rdFail, setReader_get, State.carrierOff]
  iterate 2 rw [get_set_ne _ _ _ _ (by decide)]
  rw [get_set_same]
  rfl

theorem rdFail_card (code : Nat) : (s.rdFail code).get R.CLF_STATUS_RCARD = 0 := by
  rw [State.rdFail, setReader_get, State.carrierOff, State.rdForget, State.rdNoCard]
  iterate 8 rw [get_set_ne _ _ _ _ (by decide)]
  rw [get_set_same]
  rfl

end Sys2Proof.Machine
end

section
set_option Elab.async false
namespace Sys2Proof.Machine

/-- The first byte of an I-block. -/
theorem blockPcb (bn : Nat) (more : Bool) :
    BitVec.ofNat 8 (2 + bn + b2n more * 0x10) = BitVec.ofNat 8 (2 + bn + (if more = true then 16 else 0)) := by
  cases more <;> rfl

/-- The reader after an R(ACK): the next block of the APDU is sent. -/
def Reader.acked (k : Reader) (tb : Rat) : Reader :=
  { k with
    bn := 1 - k.bn, tries := 0, wtx := 1, at_ := tb, phase := .block, left := k.left.drop (k.fsc - 3)
    tx := BitVec.ofNat 8 (2 + (1 - k.bn) + b2n (!(k.left.drop (k.fsc - 3)).isEmpty) * 0x10) :: k.left.take (k.fsc - 3)
    lastI := BitVec.ofNat 8 (2 + (1 - k.bn) + b2n (!(k.left.drop (k.fsc - 3)).isEmpty) * 0x10) :: k.left.take (k.fsc - 3) }

section
variable {s : State} {pcb : Byte} {inf : List Byte} {coll : Option Nat}

theorem clfFrame_ack (hphase : s.reader.phase = .block) (hpcb : pcb &&& 0xFE = 0xA2) (hbn : pcb.toNat % 2 = s.reader.bn)
    (hleft : s.reader.left ≠ []) : s.clfFrame [pcb] (crcA [pcb]) coll = s.setReader (s.reader.acked s.tbase) := by
  rw [clfFrame_block hphase, rdGood_of_ack (s := s.hears) hpcb hbn hleft]
  simp only [State.rdBlock, State.hears, State.rdStamp, setReader_setReader, setReader_reader, setReader_tbase, Reader.acked]

theorem clfFrame_plain (hon : s.pwr.main = .on) (hphase : s.reader.phase = .block) (huse : s.reader.use = .plain)
    (hpcb : pcb &&& 0xFE = 0x02) (hbn : pcb.toNat % 2 = s.reader.bn) (hleft : s.reader.left = []) :
    s.clfFrame (pcb :: inf) (crcA (pcb :: inf)) coll =
      (s.setReader (s.reader.took s.tbase inf)).rdResp (s.reader.resp ++ inf) := by
  rw [clfFrame_last hon hphase hpcb hbn hleft, rdWhole_of_plain (s := s.setReader (s.reader.took s.tbase inf)) huse]

/-- The response to AUTH_BEGIN is right: its status and MAC_R (R550). -/
def Reader.begun (k : Reader) (a : List Byte) : Prop :=
  a.drop 40 = [0x90, 0x00] ∧ sliceB a 24 16 = badgeMac k.k 1 k.rndI (a.take 16) (sliceB a 16 8)

theorem rdBegin_of_begun {a : List Byte} (hlength : a.length = 42) (hgood : s.reader.begun a) : s.rdBegin a =
    (s.setReader { s.reader with head := a.take 16 ++ sliceB a 16 8 }).rdApdu .finish
      ([0x80, 0xA2, 0, 0, 0x10] ++ badgeMac s.reader.k 2 (a.take 16) s.reader.rndI (sliceB a 16 8)) :=
  if_pos ⟨hlength, hgood⟩

theorem rdBegin_of_not_begun {a : List Byte} (hbad : ¬ s.reader.begun a) :
    s.rdBegin a = (s.setReader { s.reader with tx := [0xC2] }).rdNoCard.rdEnd 0x0806 0 :=
  if_neg fun hgood => hbad hgood.2

theorem clfFrame_begin (hon : s.pwr.main = .on) (hphase : s.reader.phase = .block) (huse : s.reader.use = .begin)
    (hpcb : pcb &&& 0xFE = 0x02) (hbn : pcb.toNat % 2 = s.reader.bn) (hleft : s.reader.left = []) :
    s.clfFrame (pcb :: inf) (crcA (pcb :: inf)) coll =
      (s.setReader (s.reader.took s.tbase inf)).rdBegin (s.reader.resp ++ inf) := by
  rw [clfFrame_last hon hphase hpcb hbn hleft, rdWhole_of_begin (s := s.setReader (s.reader.took s.tbase inf)) huse]

theorem clfFrame_finish (hon : s.pwr.main = .on) (hphase : s.reader.phase = .block) (huse : s.reader.use = .finish)
    (hpcb : pcb &&& 0xFE = 0x02) (hbn : pcb.toNat % 2 = s.reader.bn) (hleft : s.reader.left = [])
    (hok : s.reader.resp ++ inf = [0x90, 0x00]) : s.clfFrame (pcb :: inf) (crcA (pcb :: inf)) coll =
      (s.setReader (s.reader.took s.tbase inf)).opened.rdEnd 0 0 := by
  rw [clfFrame_last hon hphase hpcb hbn hleft, rdWhole_of_finish (s := s.setReader (s.reader.took s.tbase inf)) huse,
    rdFinish_eq, if_pos hok]

theorem clfFrame_secure {b : Badge} {k : Reader} (hon : s.pwr.main = .on) (hphase : s.reader.phase = .block) (huse : s.reader.use = .secure)
    (hb : s.reader.session = some b) (hpcb : pcb &&& 0xFE = 0x02) (hbn : pcb.toNat % 2 = s.reader.bn)
    (hleft : s.reader.left = []) (hcr : b.over? = false ∧ b.cr < 0xFFFFFFFE) (hhead : s.reader.head.getD 1 0 ≠ 0xA3)
    (hk : k = { s.reader.took s.tbase inf with session := some { b with cr := b.cr + 1 } }) :
    s.clfFrame (pcb :: inf) (crcA (pcb :: inf)) coll = (match b.opens s.reader.head (s.reader.resp ++ inf) with
      | none => (s.setReader (s.reader.took s.tbase inf)).rdNoSession.rdEnd 0x0808 0
      | some pt => (s.setReader k).rdResp pt) := by
  have hrest : ¬ (({ b with cr := b.cr + 1 } : Badge).over? = true ∨
      (s.setReader (s.reader.took s.tbase inf)).reader.head.getD 1 0 = 0xA3) := by
    rintro (hover | hend)
    · obtain ⟨hci, hcr⟩ := hcr
      simp only [Badge.over?, Bool.or_eq_true, Bool.or_eq_false_iff, beq_eq_false_iff_ne, beq_iff_eq] at hover hci
      omega
    · exact hhead hend
  rw [clfFrame_last hon hphase hpcb hbn hleft, rdWhole_of_secure (s := s.setReader (s.reader.took s.tbase inf)) huse,
    rdSecure_of_session (s := s.setReader (s.reader.took s.tbase inf)) hb, hk, State.rdCounted, if_neg hrest]
  rfl

end

/-- Settles O58: each command of the reader, each block and each whole response by what it finds. -/
theorem badgeExchanges : Obligations.BadgeExchanges := by
  unfold Obligations.BadgeExchanges
  intro s hruns coded ended alone run block first x buf resp all took
  have hon := main_of_runs hruns
  have hended (t : State) (ht : t.pwr.main = .on) (code rlen : Nat) : t.rdEnd code rlen = ended t code rlen :=
    rdEnd_of_on ht code rlen
  have hfirst (t : State) (ht : t.pwr = s.pwr) (use : RdUse) (a : List Byte) : t.rdApdu use a = first t use a := by
    have hnow : t.tbase = s.tbase := congrArg (fun p : Pwr => (p.edges : Rat) * (5 / 8)) ht
    rw [State.rdApdu, State.rdBlock, setReader_tbase, hnow, setReader_setReader]
    have hpcb := blockPcb t.reader.bn (!(a.drop (t.reader.fsc - 3)).isEmpty)
    simp only [setReader_reader, first, block, hpcb]
  have hrun (t : State) (ht : t.pwr = s.pwr) (cmd : Nat) (ph : RdPhase) : t.rdRun cmd ph [] = run t cmd ph := by
    have hnow : t.tbase = s.tbase := congrArg (fun p : Pwr => (p.edges : Rat) * (5 / 8)) ht
    rw [State.rdRun, hnow]
  have hresp (k : Reader) (a : List Byte) : (s.setReader k).rdResp a = resp (s.setReader k) a := by
    have hpwr := ((s.setReader k).wr_transfers x (buf + 0x200) (a.take 512)).pwr
    rw [State.rdResp, show (s.setReader k).clfX = x from rfl, show (s.setReader k).clfBuf = buf from rfl]
    exact hended _ (by rw [hpwr, setReader_pwr, hon]) _ _
  refine ⟨?_, ?_, ?_, ?_, ?_, ?_, ?_, ?_, ?_, ?_, ?_, ?_, ?_⟩
  · intro clen hcmd hcard hlen hfree hkeep
    have hmod : clen % 1024 = clen := Nat.mod_eq_of_lt (by omega)
    refine next_of_keep hruns hkeep ?_
    rw [hmod, clfExchange_of_card hcmd hcard hlen hfree]
    have hpwr := (s.rd_transfers x buf clen).pwr
    exact (congrArg (State.rdApdu · .plain _) (hrun _ hpwr 3 .block)).trans (hfirst (run _ _ _) hpwr _ _)
  · intro hcmd hcard hkeep
    refine next_of_keep hruns hkeep ((clfAuth_of_card hcmd hcard).trans ?_)
    have hpwr := (s.keyRead_transfers 0 (s.get R.CLF_RKEY_INDEX)).pwr
    revert hpwr
    rcases s.keyRead 0 (s.get R.CLF_RKEY_INDEX) with ⟨m | m, t⟩ <;> intro hpwr
    · exact rdCode_of_on (by rw [hpwr, hon]) _ _
    · dsimp only
      split
      · rw [hrun { t with ent := { t.ent with reqs := t.ent.reqs ++ [EntReq.badge] } } hpwr]
        rfl
      · exact rdCode_of_on (by rw [hpwr, hon]) _ _
  · intro clen b hcmd ⟨hsession, hb⟩ hlen hfree hkeep
    have hmod : clen % 1024 = clen := Nat.mod_eq_of_lt (by omega)
    refine next_of_keep hruns hkeep ?_
    rw [hmod, clfSecure_of_session hcmd hsession hb hlen hfree]
    have hpwr := (s.rd_transfers x buf clen).pwr
    exact (congrArg (State.rdProtect · b _) (hrun _ hpwr 5 .block)).trans (hfirst ((run _ _ _).setReader _) hpwr _ _)
  · intro pcb inf coll ⟨hphase, huse⟩ ⟨hpcb, hbn, hleft⟩
    exact next_of_runs hruns ((clfFrame_plain hon hphase huse hpcb hbn hleft).trans (hresp (took inf) (all inf)))
  · intro pcb inf coll hphase ⟨hpcb, hbn, hleft⟩
    refine next_of_runs hruns ?_
    rw [clfFrame_block hphase, rdGood_of_chained (s := s.hears) hpcb hbn hleft]
    rfl
  · intro pcb coll hphase ⟨hpcb, hbn, hleft⟩
    refine ⟨_, next_of_runs hruns (clfFrame_ack hphase hpcb hbn hleft), rfl, rfl, rfl, rfl, ?_, rfl⟩
    exact congrArg (· :: s.reader.left.take (s.reader.fsc - 3)) (blockPcb _ _)
  · intro m coll hphase ⟨hleast, hmost⟩
    refine next_of_runs hruns ?_
    rw [clfFrame_block hphase, rdGood_of_wtx (s := s.hears) hleast hmost]
    rfl
  · intro bs coll crc ⟨hphase, htries⟩ hcrc
    refine next_of_runs hruns ((clfFrame_badBlock (.inl ⟨hphase, hcrc⟩)).trans ?_)
    exact congrArg State.rdStamp (rdBad_of_tries (s := s.hears) htries _)
  · intro ⟨hphase, htries⟩ hpast
    refine next_of_runs hruns ((clfExpiry_block hphase hpast).trans ?_)
    exact congrArg State.rdStamp (rdBad_of_tries (s := s.hears) htries _)
  · intro ⟨hphase, htries⟩ hpast
    refine ⟨s.hears.rdStamp.rdFail 0x0803, next_of_runs hruns ((clfExpiry_block hphase hpast).trans ?_),
      rdFail_code (s := s.hears.rdStamp) hon _, rdFail_carrier _, rdFail_card _, rdFail_reader _⟩
    rw [rdBad_of_enough (s := s.hears) htries, rdFail_rdStamp (s := s.hears) hon]
  · intro pcb inf coll ⟨hphase, huse⟩ ⟨hpcb, hbn, hleft, hlength⟩
    refine ⟨_, next_of_runs hruns (clfFrame_begin hon hphase huse hpcb hbn hleft), fun hgood => ?_, fun hbad => ?_⟩
    · exact (rdBegin_of_begun (s := s.setReader (took inf)) hlength hgood).trans (hfirst
        (s.setReader { took inf with head := (all inf).take 16 ++ sliceB (all inf) 16 8 }) rfl _ _)
    · exact (rdBegin_of_not_begun (s := s.setReader (took inf)) hbad).trans
        (hended (s.setReader { took inf with tx := [0xC2] }).rdNoCard hon _ _)
  · intro pcb inf coll ⟨hphase, huse⟩ ⟨hpcb, hbn, hleft, hok⟩
    exact next_of_runs hruns ((clfFrame_finish hon hphase huse hpcb hbn hleft hok).trans
      (hended (s.setReader (took inf)).opened hon _ _))
  · intro pcb inf coll b ⟨hphase, huse, hb⟩ ⟨hpcb, hbn, hleft⟩ ⟨hci, hcr, hhead⟩
    have hover : b.over? = false := by
      simp only [Badge.over?, Bool.or_eq_false_iff, beq_eq_false_iff_ne]
      omega
    refine (next_of_runs hruns (clfFrame_secure hon hphase huse hb hpcb hbn hleft ⟨hover, hcr⟩ hhead
      (show { took inf with session := some { b with cr := b.cr + 1 } } = _ from rfl))).trans ?_
    have hopens : b.opens s.reader.head (all inf) = if (all inf).drop ((all inf).length - 2) = [0x90, 0x00]
      then ccmOpen b.sk (badgeNonce 2 b.cr b.rnd) s.reader.head ((all inf).take ((all inf).length - 2)) else none := rfl
    rw [← hopens]
    cases b.opens s.reader.head (all inf) with
    | none => exact congrArg _ (hended (s.setReader (took inf)).rdNoSession hon _ _)
    | some pt =>
      dsimp only
      rw [hresp]

end Sys2Proof.Machine
end

section
-- Checked in order, the proofs do not hold one thread each.
set_option Elab.async false
/-!
PROOFS. The federation unit: how a message is taken, and what its banks and its own parts keep beside what a key's transfer changes
(R478 to R485).
-/

namespace Sys2Proof.Machine

variable {s : State}

/-- A message of the federation in its turn, with what is done with it. -/
theorem onFed_of_hasFed {ty i : Nat} {m : RxMsg} (h : s.hasFed ty m i) (f : State → RxMsg → Nat → State) :
    s.onFed ty f = f (s.took m) m i := by
  obtain ⟨hfind, hctx⟩ := h
  rw [State.onFed, State.takeMsg, hfind]
  dsimp only
  rw [hctx]

/-- The vector of an event is pending. -/
theorem cause_mem_irq (f : Fld) (b v : Nat) : v ∈ (s.cause f b v).irq := by
  have hin (l : List Nat) : v ∈ insNat l v := by
    induction l with
    | nil => simp [insNat]
    | cons a l ih =>
      rw [insNat]
      split_ifs with hlt heq
      · exact List.mem_cons_self
      · simp [heq]
      · exact List.mem_cons_of_mem _ ih
  exact hin _

theorem cause_fed (f : Fld) (b v : Nat) : (s.cause f b v).fed = s.fed := rfl

/-! ### TERM (R481) -/

theorem setTerm_same {t : Nat} (h : t = s.get R.FED_TERM_TERM) : s.setTerm t = s := if_pos h

theorem setTerm_fed (t : Nat) : (s.setTerm t).fed = s.fed := by
  rw [State.setTerm]
  split <;> rfl

theorem setTerm_new {t : Nat} (h : t ≠ s.get R.FED_TERM_TERM) :
    s.setTerm t = (s.set R.FED_TERM_TERM t).cause R.FED_EVENTS_CAUSE 288 294 := if_neg h

/-- A device that takes the next TERM with a state of its own. -/
theorem setTerm_succ_get {t : State} {st : Nat} (h : t = (s.set R.FED_STATUS_STATE st).setTerm (s.get R.FED_TERM_TERM + 1))
    (hst : st < 8) (hterm : s.get R.FED_TERM_TERM < 2 ^ 32 - 1) :
    t.get R.FED_STATUS_STATE = st ∧ t.get R.FED_TERM_TERM = s.get R.FED_TERM_TERM + 1 ∧ 294 ∈ t.irq ∧
      ({ t with irq := s.irq, regs := s.regs } : State) = s ∧
      (∀ f : Fld, f.key ∉ [R.FED_STATUS_STATE.key, R.FED_TERM_TERM.key, R.FED_EVENTS_CAUSE.key] → t.get f = s.get f) := by
  rw [setTerm_new (by rw [get_set_ne _ _ _ _ (by decide)]; omega)] at h
  subst h
  refine ⟨?_, ?_, cause_mem_irq _ _ _, rfl, fun f hf => ?_⟩
  · rw [cause_get_other _ _ _ _ _ (by decide), get_set_ne _ _ _ _ (by decide), get_set_same]
    exact Nat.mod_eq_of_lt hst
  · rw [cause_get_other _ _ _ _ _ (by decide), get_set_same]
    exact Nat.mod_eq_of_lt (show _ < 2 ^ 32 by omega)
  · simp only [List.mem_cons, List.not_mem_nil, or_false, not_or] at hf
    obtain ⟨hstate, hterm, hcause⟩ := hf
    rw [cause_get_other _ _ _ _ _ (Ne.symm hcause), get_set_ne _ _ _ _ (Ne.symm hterm), get_set_ne _ _ _ _ (Ne.symm hstate)]

/-! ### The two banks (R483) -/

/-- A directory's change as it makes the slots in `l` STALE (R354). -/
def State.staleSlots (s : State) (l : List Nat) : State :=
  l.foldl (fun s k =>
    let t := s.slot k
    if t.st = 1 then s.setSlot k { t with st := 4, stale := true }
    else if t.refs = 0 then s.setSlot k {} else s.setSlot k { t with st := 4 }) s

theorem dirUpdate_eq (b i v : Nat) : s.dirUpdate b i v = (s.staleSlots ((s.key.slots.filter (fun e =>
    e.2.index == i && e.2.bank == b && (e.2.st == 1 || e.2.st == 2))).map (·.1))).setDir b i v := rfl

theorem staleSlots_keeps (l : List Nat) : (s.staleSlots l).regs = s.regs ∧ (s.staleSlots l).fed = s.fed := by
  refine List.foldlRecOn (motive := fun t : State => t.regs = s.regs ∧ t.fed = s.fed) l _ ⟨rfl, rfl⟩ fun t ht k _ => ?_
  dsimp only
  split_ifs <;> exact ht

theorem setDir_regs (b i v : Nat) : (s.setDir b i v).regs = s.regs := by
  rw [State.setDir]
  split <;> rfl

theorem setDir_fedNext (b i v : Nat) : (s.setDir b i v).fed.next = s.fed.next := by
  rw [State.setDir]
  split <;> rfl

/-- What the writes of keys and of directories leave of the FED. -/
structure State.KeepsFed (s t : State) : Prop where
  get : ∀ f : Fld, f.ofFed → t.get f = s.get f
  next : t.fed.next = s.fed.next

theorem State.KeepsFed.refl (s : State) : s.KeepsFed s := ⟨fun _ _ => rfl, rfl⟩

/-- The write of a key and of its directory byte. -/
theorem State.KeepsFed.entry {s t : State} (h : s.KeepsFed t) (x : Xfer) (a : Nat) (bs : List Byte) (b i v : Nat) :
    s.KeepsFed ((t.wr x a bs).dirUpdate b i v) := by
  have hwr := t.wr_transfers x a bs
  have hslots (l : List Nat) := staleSlots_keeps (s := t.wr x a bs) l
  rw [dirUpdate_eq]
  refine ⟨fun f hf => ?_, ?_⟩
  · rw [State.get, setDir_regs, (hslots _).1]
    exact (hwr.get f hf).trans (h.get f hf)
  · rw [setDir_fedNext, (hslots _).2, hwr.fed, h.next]

theorem stageBegin_same {e : Nat} (h : s.fed.stage = some e) : s.stageBegin e = s := if_pos h

theorem stageDirect_of_next {e n : Nat} (h : s.fed.next = some n) : s.stageDirect e = s := if_neg (by simp [h])

theorem stageReady_of_staged (h : s.get R.FED_STATUS_STAGED = 1) : s.stageReady = s := by
  unfold State.stageReady
  split
  · exact if_neg fun hall => hall.2.1 (is_of_get_one h)
  · rfl

theorem stageNext_of_none (h : s.fed.next = none) : s.stageNext = s := by rw [State.stageNext, h]

theorem stagedCheck_of_staged (h : s.get R.FED_STATUS_STAGED = 1) : s.stagedCheck = s :=
  if_neg fun hall => hall.1 (is_of_get_one h)

/-! ### KEYSET (R483, R487) -/

theorem rxKeyset_waits (h : s.get R.FED_FENCE_DRAINED = 0) : s.rxKeyset = s := if_pos (by simp [is_of_get_zero h])

section
variable {m : RxMsg} {i : Nat}

theorem rxKeyset_of_has (hdrained : s.get R.FED_FENCE_DRAINED = 1) (h : s.hasFed 0x45 m i) : s.rxKeyset =
    if s.fed.tower ≠ some i ∨ s.fedServes ∨ ¬ s.ksWanted (fld m.body 4 4) then s.took m
    else if ¬ (ksParse m.body).all s.ksOk then (s.took m).set R.FED_CMD_CODE 0x0A05
    else
      ((((ksParse m.body).foldl (fun (u : State) e => (u.wr u.keyX (u.entryAddr (1 - s.fed.bank) e.1)
        (entryMake u.key.tkey e.2.1 e.2.2.1 [])).dirUpdate (1 - s.fed.bank) e.1 (128 + e.2.1))
        ((s.took m).stageBegin (fld m.body 4 4))).stageDirect (fld m.body 4 4)).stageReady) := by
  rw [State.rxKeyset, if_neg (by simp [is_of_get_one hdrained]), onFed_of_hasFed h]
  rfl

theorem rxKeyset_unwanted {e : Nat} (hdrained : s.get R.FED_FENCE_DRAINED = 1) (h : s.hasFed 0x45 m i) (hnext : s.fed.next = some e)
    (he : e ≠ fld m.body 4 4) : s.rxKeyset = s.took m := by
  have hunwanted : s.ksWanted (fld m.body 4 4) = false := by rw [State.ksWanted, hnext]; exact beq_false_of_ne he
  rw [rxKeyset_of_has hdrained h, if_pos (.inr (.inr (by simp [hunwanted])))]

/-- A KEYSET for the announced epoch is judged by its entries. -/
theorem wanted_of_next (htower : s.fed.tower = some i) (hserves : s.fedServes = false) (hnext : s.fed.next = some (fld m.body 4 4)) :
    ¬ (s.fed.tower ≠ some i ∨ s.fedServes = true ∨ ¬ s.ksWanted (fld m.body 4 4) = true) := by
  have hwanted : s.ksWanted (fld m.body 4 4) = true := by rw [State.ksWanted, hnext]; exact beq_self_eq_true _
  simp [htower, hserves, hwanted]

theorem rxKeyset_wrong (hdrained : s.get R.FED_FENCE_DRAINED = 1) (h : s.hasFed 0x45 m i) (htower : s.fed.tower = some i)
    (hserves : s.fedServes = false) (hnext : s.fed.next = some (fld m.body 4 4)) (hbad : (ksParse m.body).all s.ksOk = false) :
    s.rxKeyset = (s.took m).set R.FED_CMD_CODE 0x0A05 := by
  rw [rxKeyset_of_has hdrained h, if_neg (wanted_of_next htower hserves hnext), if_pos (by simp [hbad])]

theorem rxKeyset_staged (hdrained : s.get R.FED_FENCE_DRAINED = 1) (h : s.hasFed 0x45 m i) (htower : s.fed.tower = some i)
    (hserves : s.fedServes = false) (hnext : s.fed.next = some (fld m.body 4 4)) (hok : (ksParse m.body).all s.ksOk = true)
    (hstaged : s.get R.FED_STATUS_STAGED = 1) (hstage : s.fed.stage = some (fld m.body 4 4)) :
    s.rxKeyset = (ksParse m.body).foldl (fun (u : State) e => (u.wr u.keyX (u.entryAddr (1 - s.fed.bank) e.1)
      (entryMake u.key.tkey e.2.1 e.2.2.1 [])).dirUpdate (1 - s.fed.bank) e.1 (128 + e.2.1)) (s.took m) := by
  rw [rxKeyset_of_has hdrained h, if_neg (wanted_of_next htower hserves hnext), if_neg (by simp [hok]),
    stageBegin_same (s := s.took m) hstage]
  have hkeeps := List.foldlRecOn (motive := fun t : State => s.KeepsFed t) (ksParse m.body)
    (fun (u : State) e => (u.wr u.keyX (u.entryAddr (1 - s.fed.bank) e.1)
      (entryMake u.key.tkey e.2.1 e.2.2.1 [])).dirUpdate (1 - s.fed.bank) e.1 (128 + e.2.1))
    (b := s.took m) ⟨fun _ _ => rfl, rfl⟩ fun u hu e _ => hu.entry _ _ _ _ _ _
  rw [stageDirect_of_next (hkeeps.next.trans hnext), stageReady_of_staged ((hkeeps.get _ ⟨by decide, by decide⟩).trans hstaged)]

end

/-! ### ANNOUNCE, the switch and the drain (R484, R485) -/

section
variable (hserves : s.fedServes = true)
include hserves

theorem announce_undrained (hdrained : s.get R.FED_FENCE_DRAINED = 0) : s.announce = s.set R.FED_CMD_CODE 0x0A02 := by
  rw [State.announce, if_neg (by simp [hserves]), if_pos (by simp [is_of_get_zero hdrained])]

theorem announce_unstaged (hdrained : s.get R.FED_FENCE_DRAINED = 1) (hstaged : s.get R.FED_STATUS_STAGED = 0)
    (hcount : s.fedCount ≠ 0) : s.announce = s.set R.FED_CMD_CODE 0x0A03 := by
  rw [State.announce, if_neg (by simp [hserves]), if_neg (by simp [is_of_get_one hdrained]),
    if_pos ⟨by simp [is_of_get_zero hstaged], hcount⟩]

theorem announce_late (hdrained : s.get R.FED_FENCE_DRAINED = 1) (hstaged : s.get R.FED_STATUS_STAGED = 1)
    (hlate : (s.get R.FED_NEXT_T_A : Rat) < s.now + 4 * s.hbNs) : s.announce = s.set R.FED_CMD_CODE 0x0A04 := by
  rw [State.announce, if_neg (by simp [hserves]), if_neg (by simp [is_of_get_one hdrained]),
    if_neg fun h => h.1 (is_of_get_one hstaged), if_pos hlate]

theorem announce_alone (hdrained : s.get R.FED_FENCE_DRAINED = 1) (hstaged : s.get R.FED_STATUS_STAGED = 1)
    (hahead : s.now + 4 * s.hbNs ≤ (s.get R.FED_NEXT_T_A : Rat)) (hmembers : s.fed.members = []) :
    s.announce = ((s.setFed { s.fed with next := some ((s.get R.FED_EPOCH_CURRENT + 1) % 2 ^ 32) }).set R.FED_CMD_CODE 0).set
      R.FED_READY_COUNT 0 := by
  rw [State.announce, if_neg (by simp [hserves]), if_neg (by simp [is_of_get_one hdrained]),
    if_neg fun h => h.1 (is_of_get_one hstaged), if_neg (not_lt.mpr hahead), stagedCheck_of_staged hstaged]
  have hready (e : Nat) : s.fedReadyFor e = 0 := by rw [State.fedReadyFor, hmembers]; rfl
  simp only [hready, set_fed, State.setFed, hmembers, List.foldl_nil]

end

section
variable {e : Nat} (hnext : s.fed.next = some e) (hpast : (s.get R.FED_NEXT_T_A : Rat) ≤ s.now)
include hnext hpast

theorem fedSwitch_staged (hdrained : s.get R.FED_FENCE_DRAINED = 1) (hstaged : s.get R.FED_STATUS_STAGED = 1) :
    s.fedSwitch = (((((s.setFed { s.fed with
      bank := 1 - s.fed.bank, old := s.get R.FED_EPOCH_CURRENT, next := none, stage := none }).set R.FED_EPOCH_CURRENT e).set
      R.FED_FENCE_DRAINED 0).set R.FED_STATUS_STAGED 0).set R.FED_STATUS_BEHIND 0).cause R.FED_EVENTS_CAUSE 288 290 := by
  rw [State.fedSwitch, hnext]
  dsimp only
  rw [if_neg (not_lt.mpr hpast), if_pos ⟨is_of_get_one hstaged, is_of_get_one hdrained⟩]

theorem fedSwitch_behind (hmissing : s.get R.FED_STATUS_STAGED = 0 ∨ s.get R.FED_FENCE_DRAINED = 0)
    (hbehind : s.get R.FED_STATUS_BEHIND = 0) :
    s.fedSwitch = (s.set R.FED_STATUS_BEHIND 1).cause R.FED_EVENTS_CAUSE 288 293 := by
  have hnot : ¬ (s.is R.FED_STATUS_STAGED = true ∧ s.is R.FED_FENCE_DRAINED = true) := by
    obtain h | h := hmissing <;> simp [is_of_get_zero h]
  rw [State.fedSwitch, hnext]
  dsimp only
  rw [if_neg (not_lt.mpr hpast), if_neg hnot, if_neg (by simp [is_of_get_zero hbehind])]

end

theorem fedDrained_one (hdrained : s.get R.FED_FENCE_DRAINED = 0) (hnext : s.fed.next = none)
    (hidle : s.jsc.jobs.all (fun j => !(j.live && j.fepoch == s.fed.old)) = true) (hcount : s.fedCount = 1) :
    s.fedDrained = (((s.wr s.keyX (s.entryAddr (1 - s.fed.bank) s.fedFirst) (zeros 64)).dirUpdate (1 - s.fed.bank) s.fedFirst
      0).set R.FED_FENCE_DRAINED 1).cause R.FED_EVENTS_CAUSE 288 291 := by
  have hnone : ¬ (s.jsc.jobs.any (fun j => j.live && j.fepoch == s.fed.old) = true) := by
    simpa [List.all_eq_not_any_not] using hidle
  rw [State.fedDrained, if_neg (by simp [is_of_get_zero hdrained, hnone]), hcount]
  refine stageNext_of_none ?_
  exact ((State.KeepsFed.refl s).entry _ _ _ _ _ _).next.trans hnext

end Sys2Proof.Machine
end

section
set_option Elab.async false
namespace Sys2Proof.Machine

/-- Settles O50: each event of the key epochs by the FED's registers. -/
theorem federationKeys : Obligations.FederationKeys := by
  unfold Obligations.FederationKeys
  intro s m i hruns
  refine ⟨?_, ?_, ?_, ?_, ?_, ?_, ?_, ?_, ?_, ?_, ?_⟩
  · exact fun h htower hserves hnext hdrained hbad => next_of_runs hruns (rxKeyset_wrong hdrained h htower hserves hnext hbad)
  · exact fun hdrained => next_of_runs hruns (rxKeyset_waits hdrained)
  · exact fun e hdrained h hnext he => next_of_runs hruns (rxKeyset_unwanted hdrained h hnext he)
  · exact fun h htower hserves hnext hdrained hstaged hstage hok =>
      next_of_runs hruns (rxKeyset_staged hdrained h htower hserves hnext hok hstaged hstage)
  · exact fun hserves hdrained hkeep => next_of_keep hruns hkeep (announce_undrained hserves hdrained)
  · exact fun hserves hdrained hstaged hcount hkeep =>
      next_of_keep hruns hkeep (announce_unstaged hserves hdrained hstaged hcount)
  · exact fun hserves hdrained hstaged hlate hkeep => next_of_keep hruns hkeep (announce_late hserves hdrained hstaged hlate)
  · intro hserves hdrained hstaged hahead hmembers hepoch hkeep
    have hmod : (s.get R.FED_EPOCH_CURRENT + 1) % 2 ^ 32 = s.get R.FED_EPOCH_CURRENT + 1 := Nat.mod_eq_of_lt (by omega)
    refine ⟨_, next_of_keep hruns hkeep (announce_alone hserves hdrained hstaged hahead hmembers), by rw [hmod]; rfl, ?_, ?_, rfl,
      fun f hf => ?_⟩
    · rw [get_set_ne _ _ _ _ (by decide), get_set_same]
      rfl
    · rw [get_set_same]
      rfl
    · simp only [List.mem_cons, List.not_mem_nil, or_false, not_or] at hf
      obtain ⟨hcode, hready⟩ := hf
      rw [get_set_ne _ _ _ _ (Ne.symm hready), get_set_ne _ _ _ _ (Ne.symm hcode)]
      rfl
  · intro e hnext hpast hdrained hstaged he
    refine ⟨_, next_of_runs hruns (fedSwitch_staged hnext hpast hdrained hstaged), rfl, ?_, ?_, ?_, ?_, cause_mem_irq _ _ _, rfl,
      fun f hf => ?_⟩
    · rw [cause_get_other _ _ _ _ _ (by decide), get_set_ne _ _ _ _ (by decide), get_set_ne _ _ _ _ (by decide),
        get_set_ne _ _ _ _ (by decide), get_set_same]
      exact Nat.mod_eq_of_lt he
    · rw [cause_get_other _ _ _ _ _ (by decide), get_set_ne _ _ _ _ (by decide), get_set_ne _ _ _ _ (by decide), get_set_same]
      rfl
    · rw [cause_get_other _ _ _ _ _ (by decide), get_set_ne _ _ _ _ (by decide), get_set_same]
      rfl
    · rw [cause_get_other _ _ _ _ _ (by decide), get_set_same]
      rfl
    · simp only [List.mem_cons, List.not_mem_nil, or_false, not_or] at hf
      obtain ⟨hepoch, hfence, hstaged', hbehind, hcause⟩ := hf
      rw [cause_get_other _ _ _ _ _ (Ne.symm hcause), get_set_ne _ _ _ _ (Ne.symm hbehind),
        get_set_ne _ _ _ _ (Ne.symm hstaged'), get_set_ne _ _ _ _ (Ne.symm hfence), get_set_ne _ _ _ _ (Ne.symm hepoch)]
      rfl
  · exact fun e hnext hpast hmissing hbehind => next_of_runs hruns (fedSwitch_behind hnext hpast hmissing hbehind)
  · exact fun hdrained hnext hidle hcount => next_of_runs hruns (fedDrained_one hdrained hnext hidle hcount)

end Sys2Proof.Machine
end

section
set_option Elab.async false
/-!
PROOFS. The federation's members: what the FED sends changes nothing of the FED, and what each message and each timer does
(R478 to R484).
-/

namespace Sys2Proof.Machine

variable {s : State}

/-! ### Sending in a session -/

theorem ctxEvict_fed (k : Nat) : (s.ctxEvict k).fed = s.fed := by
  rw [State.ctxEvict, setSes_fed, (s.wr_transfers _ _ _).fed]

theorem ctxRoom_fed : s.ctxRoom.fed = s.fed := by
  rw [State.ctxRoom]
  split
  · rfl
  · split
    · exact ctxEvict_fed _
    · rfl

theorem setCtx_fed (i : Nat) (c : Ses) : (s.setCtx i c).fed = s.fed := rfl

theorem ctxFetch_fed (i : Nat) : (s.ctxFetch i).fed = s.fed := by
  have hread := (s.ctxRoom.rd_transfers (s.ctxRoom.ctxX i) (s.ctxRoom.ctxAddr i) 4096).fed.trans ctxRoom_fed
  rw [State.ctxFetch]
  dsimp only
  split
  · rw [setSes_fed, hread]
  · rw [setCtx_fed, setSes_fed, hread]

theorem ctxUse_fed (i : Nat) : (s.ctxUse i).fed = s.fed := by
  rw [State.ctxUse]
  split
  · rfl
  · exact ctxFetch_fed i

theorem sesSend_fed (i epoch kind prio : Nat) (body : List Byte) : (s.sesSend i epoch kind prio body).fed = s.fed := by
  rw [State.sesSend]
  dsimp only
  split
  · exact ctxUse_fed i
  · exact ctxUse_fed i

theorem fedSend_fed (i ty : Nat) (b : List Byte) : (s.fedSend i ty b).fed = s.fed := sesSend_fed _ _ _ _ _

/-- A bank without keys is sent in no KEYSET. -/
theorem sendBank_of_empty (h : s.fedCount = 0) (i b e : Nat) : s.sendBank i b e = s := by
  rw [State.sendBank, h, Nat.zero_div]
  rfl

/-! ### JOIN, WELCOME and BEAT (R479, R480) -/

section
variable {m : RxMsg} {i : Nat}

theorem rxJoin_of_other (h : s.hasFed 0x40 m i) (hserves : s.fedServes = true)
    (hother : (s.ctx i).root ≠ s.fedAnchor ∨ fld m.body 4 4 ≠ s.fedId) : s.rxJoin = (s.took m).fedSend i 0x47 [1, 10, 0, 0] := by
  rw [State.rxJoin, onFed_of_hasFed h]
  exact (if_neg (not_not.mpr hserves)).trans ((if_pos hother).trans rfl)

theorem rxJoin_of_new {idx : Nat} {members : List (Nat × Nat × Nat)} (h : s.hasFed 0x40 m i) (hserves : s.fedServes = true)
    (hown : (s.ctx i).root = s.fedAnchor ∧ fld m.body 4 4 = s.fedId) (hterm : fld m.body 24 4 ≤ s.get R.FED_TERM_TERM)
    (hnew : tabFind s.fed.members i = none) (hempty : s.fedCount = 0) (hnext : s.fed.next = none)
    (hidx : idx = lowestFree ((s.fed.members.filter (fun e => e.1 != i)).map (fun e => e.2.1)) 0
      (s.fed.members.filter (fun e => e.1 != i)).length)
    (hmembers : members = tabIns (s.fed.members.filter (fun e => e.1 != i)) i (idx, 0)) :
    s.rxJoin = (((s.took m).setFed { s.fed with members := members }).set R.FED_MEMBERS_PRESENT members.length).fedSend i 0x41
      (toLE 4 (s.get R.FED_TERM_TERM) ++ toLE 4 (s.get R.FED_EPOCH_CURRENT) ++ zeros 12 ++ toLE 4 idx) := by
  have hentry : (tabFind s.fed.members i).getD (lowestFree ((s.fed.members.filter (fun e => e.1 != i)).map (fun e => e.2.1)) 0
      (s.fed.members.filter (fun e => e.1 != i)).length, 0) = (idx, 0) := by rw [hnew, hidx]; rfl
  have hannounced : (s.took m).announced = zeros 12 := by rw [State.announced, show (s.took m).fed.next = none from hnext]
  have hours : ¬ (((s.took m).ctx i).root ≠ (s.took m).fedAnchor ∨ fld m.body 4 4 ≠ (s.took m).fedId) :=
    not_or.mpr ⟨not_not.mpr hown.1, not_not.mpr hown.2⟩
  have hcurrent : ¬ (s.took m).get R.FED_TERM_TERM < fld m.body 24 4 := Nat.not_lt.mpr hterm
  rw [State.rxJoin, onFed_of_hasFed h]
  dsimp only
  rw [if_neg (show ¬ ¬ (s.took m).fedServes = true from not_not.mpr hserves), if_neg hours, if_neg hcurrent]
  simp only [setSes_fed, hnext, hentry, hannounced, ← hmembers]
  refine sendBank_of_empty ?_ _ _ _
  rw [State.fedCount, fedSend_fed]
  exact hempty

theorem fromTower_of_le {t : State} {term : Nat} (htower : t.fed.tower = some i) (hterm : t.get R.FED_TERM_TERM ≤ term) :
    t.fromTower i term = true := by
  rw [State.fromTower, htower, beq_self_eq_true, decide_eq_true hterm]
  rfl

theorem rxWelcome_of_tower (h : s.hasFed 0x41 m i) (htower : s.fed.tower = some i) (hterm : s.get R.FED_TERM_TERM ≤ fld m.body 4 4)
    (hserves : s.fedServes = false) : s.rxWelcome =
      (((((s.took m).setTerm (fld m.body 4 4)).set R.FED_STATUS_STATE 2).cause R.FED_EVENTS_CAUSE 288 289).setFed
        { s.fed with lastBeat := s.tnow, beaten := true, acting := s.fed.here }).takeAnnounce (fld m.body 8 4) (fld m.body 12 4)
        (fld m.body 16 8) := by
  have hfrom : (s.took m).fromTower i (fld m.body 4 4) = true := fromTower_of_le htower hterm
  rw [State.rxWelcome, onFed_of_hasFed h]
  dsimp only
  have hmember : ¬ (s.took m).fedServes = true := by rw [show (s.took m).fedServes = false from hserves]; decide
  rw [if_neg hmember, if_neg (not_not.mpr hfrom)]
  simp only [cause_fed, set_fed, setTerm_fed, setSes_fed]
  rfl

theorem rxWelcome_of_serving (h : s.hasFed 0x41 m i) (hserves : s.fedServes = true) (hterm : s.get R.FED_TERM_TERM < fld m.body 4 4) :
    s.rxWelcome = (s.took m).fedYield (fld m.body 4 4) := by
  rw [State.rxWelcome, onFed_of_hasFed h]
  exact (if_pos hserves).trans (if_pos hterm)

theorem rxBeat_of_old (h : s.hasFed 0x42 m i) (hterm : fld m.body 4 4 < s.get R.FED_TERM_TERM) : s.rxBeat = s.took m := by
  rw [State.rxBeat, onFed_of_hasFed h]
  refine if_pos (.inr ?_)
  have hlate : decide ((s.took m).get R.FED_TERM_TERM ≤ fld m.body 4 4) = false := decide_eq_false (Nat.not_le.mpr hterm)
  rw [State.fromTower, hlate, Bool.and_false]
  exact Bool.false_ne_true

theorem takeAnnounce_of_nothing {epoch : Nat} (h : s.get R.FED_EPOCH_CURRENT = epoch) : s.takeAnnounce epoch 0 0 = s := by
  rw [State.takeAnnounce, if_neg (by simp), if_neg (by simp [h]), if_pos ⟨rfl, rfl⟩]

theorem rxBeat_of_lost (h : s.hasFed 0x42 m i) (htower : s.fed.tower = some i) (hterm : s.get R.FED_TERM_TERM = fld m.body 4 4)
    (hepoch : s.get R.FED_EPOCH_CURRENT = fld m.body 8 4) (hquiet : fld m.body 12 4 = 0 ∧ fld m.body 16 8 = 0)
    (hlost : s.get R.FED_STATUS_STATE = 3) : s.rxBeat =
      (((s.took m).set R.FED_STATUS_STATE 2).cause R.FED_EVENTS_CAUSE 288 289).setFed
        { s.fed with lastBeat := s.tnow, beaten := true } := by
  have hfrom : (s.took m).fromTower i (fld m.body 4 4) = true := fromTower_of_le htower (Nat.le_of_eq hterm)
  have hserves : (s.took m).fedServes = false := by
    simp [State.fedServes, show (s.took m).get R.FED_STATUS_STATE = 3 from hlost]
  have hsame : (s.took m).setTerm (fld m.body 4 4) = s.took m := setTerm_same (Eq.symm hterm)
  rw [State.rxBeat, onFed_of_hasFed h]
  dsimp only
  rw [if_neg (by simp [hserves, hfrom]), hsame, if_pos (show (s.took m).get R.FED_STATUS_STATE = 3 from hlost), hquiet.1, hquiet.2]
  refine takeAnnounce_of_nothing ?_
  have hkept : (((s.took m).set R.FED_STATUS_STATE 2).cause R.FED_EVENTS_CAUSE 288 289).get R.FED_EPOCH_CURRENT =
      s.get R.FED_EPOCH_CURRENT := by
    rw [cause_get_other _ _ _ _ _ (by decide), get_set_ne _ _ _ _ (by decide)]
    rfl
  exact hkept.trans hepoch

/-! ### Time, READY_E and LEAVE (R478, R482, R484) -/

theorem rxTimeQ_of_serving (h : s.hasFed 0x43 m i) (hserves : s.fedServes = true) : s.rxTimeQ =
    (s.took m).sesSend i (s.ctx i).cur.epoch 0x10 2
      ([0x44, 0, 0, 0] ++ (sliceB m.body 4 8 ++ toLE 8 m.at_.floor.toNat ++ zeros 8)) none 0 20 := by
  rw [State.rxTimeQ, onFed_of_hasFed h]
  exact if_neg (not_not.mpr hserves)

theorem setB_eq (f : Fld) (b : Bool) : s.setB f b = s.set f (if b = true then 1 else 0) := by cases b <;> rfl

theorem rxTimeR_of_tower (h : s.hasFed 0x44 m i) (htower : s.fed.tower = some i) {twice trip : Int}
    (htwice : twice = ((fld m.body 4 8 : Int) - fld m.body 12 8) + ((m.at_.floor.toNat : Int) - fld m.body 20 8))
    (htrip : trip = ((m.at_.floor.toNat : Int) - fld m.body 4 8) - ((fld m.body 20 8 : Int) - fld m.body 12 8)) :
    s.rxTimeR = (((s.took m).set R.FED_OFFSET_OFFSET ((twice * 32768) % (2 ^ 64 : Int)).toNat).set R.FED_DELAY_NS
      (trip % (2 ^ 32 : Int)).toNat).set R.FED_STATUS_SYNC (if twice.natAbs ≤ 20000 then 1 else 0) := by
  rw [State.rxTimeR, onFed_of_hasFed h]
  dsimp only
  rw [if_neg (show ¬ (s.took m).fed.tower ≠ some i from not_not.mpr htower), ← htwice, ← htrip, setB_eq]
  simp only [decide_eq_true_eq]

theorem rxReadyE_of_member {k e : Nat} (h : s.hasFed 0x46 m i) (hmember : tabFind s.fed.members i = some (k, e))
    (hnext : s.fed.next = some (fld m.body 4 4)) (he : e ≠ fld m.body 4 4 + 1) : s.rxReadyE =
      ((s.took m).setFed { s.fed with members := tabIns s.fed.members i (k, fld m.body 4 4 + 1) }).set R.FED_READY_COUNT
        (s.get R.FED_READY_COUNT + 1) := by
  rw [State.rxReadyE, onFed_of_hasFed h]
  dsimp only
  rw [show (s.took m).fed.members = s.fed.members from rfl, hmember]
  exact if_neg (by simp [hnext, he])

theorem rxLeave_of_has (h : s.hasFed 0x47 m i) : s.rxLeave = (if s.fed.tower = some i then
    ((s.took m).set R.FED_STATUS_STATE 3).setFed { s.fed with alt := s.fed.acting } else s.took m).sesClose i none := by
  rw [State.rxLeave, onFed_of_hasFed h]
  rfl

end

/-! ### Timers and terms (R480 to R482) -/

theorem beatTimer_of_member {i k : Nat} (hserves : s.fedServes = true) (hmembers : s.fed.members = [(i, (k, 0))]) :
    s.beatTimer = s.fedSend i 0x42 (toLE 4 (s.get R.FED_TERM_TERM) ++ toLE 4 (s.get R.FED_EPOCH_CURRENT) ++ s.announced ++
      toLE 8 s.nowNs) := by
  rw [State.beatTimer, if_neg (by simp [hserves]), hmembers]
  rfl

theorem timeQTimer_of_unbeaten {i : Nat} (hstate : s.get R.FED_STATUS_STATE = 2 ∨ s.get R.FED_STATUS_STATE = 3)
    (hbeaten : s.fed.beaten = false) (htower : s.fed.tower = some i) : s.timeQTimer =
      ((s.count R.FED_MISSED_COUNT).setFed { s.fed with beaten := false }).sesSend i (s.ctx i).cur.epoch 0x10 2
        ([0x43, 0, 0, 0] ++ zeros 8) none 0 4 := by
  have hmember : ¬ (s.get R.FED_STATUS_STATE ≠ 2 ∧ s.get R.FED_STATUS_STATE ≠ 3) := by omega
  rw [State.timeQTimer]
  have hmissed : (if s.fed.beaten = true then s else s.count R.FED_MISSED_COUNT) = s.count R.FED_MISSED_COUNT :=
    if_neg (by simp [hbeaten])
  have hbody : fedBody 0x43 (zeros 8) = [0x43, 0, 0, 0] ++ zeros 8 := rfl
  have hcount : (s.count R.FED_MISSED_COUNT).fed = s.fed := rfl
  dsimp only
  rw [if_neg hmember, hmissed, hcount, hbody]
  simp only [htower]

theorem memberLoss_of_past (hstate : s.get R.FED_STATUS_STATE = 2) (hpast : s.past (s.fed.lastBeat + s.lossNs) = true) :
    s.memberLoss = ((s.set R.FED_STATUS_STATE 3).setFed { s.fed with alt := s.fed.acting }).cause R.FED_EVENTS_CAUSE 288 288 :=
  if_pos ⟨hstate, hpast⟩

theorem fedRetry_of_lost (hstate : s.get R.FED_STATUS_STATE = 3) (htower : s.fed.tower = none) :
    s.fedRetry = s.fedOpen s.fed.alt := by
  rw [State.fedRetry, htower]
  exact if_neg (by simp [hstate])

theorem takeover_of_past (hrole : s.get R.FED_STATUS_ROLE = 3) (hleast : 1 ≤ s.get R.FED_STATUS_STATE)
    (hmost : s.get R.FED_STATUS_STATE ≤ 3) (hpast : s.past (s.fed.lastBeat + 2 * s.lossNs) = true) :
    s.takeover = (s.set R.FED_STATUS_STATE 4).setTerm (s.get R.FED_TERM_TERM + 1) :=
  if_pos ⟨hrole, by omega, hpast⟩

theorem reclaim_of_tower (hrole : s.get R.FED_STATUS_ROLE = 2) (hserves : s.fedServes = false) (htower : s.fed.tower = none) :
    s.reclaim = (s.set R.FED_STATUS_STATE 5).setTerm (s.get R.FED_TERM_TERM + 1) := by
  rw [State.reclaim, if_pos ⟨hrole, by simp [hserves]⟩, htower]

end Sys2Proof.Machine
end

section
set_option Elab.async false
namespace Sys2Proof.Machine

/-- Settles O49: each message and each timer of the federation by the device's part in it. -/
theorem federationMembers : Obligations.FederationMembers := by
  unfold Obligations.FederationMembers
  intro s m i hruns z c idx when twice trip
  refine ⟨?_, ?_, ?_, ?_, ?_, ?_, ?_, ?_, ?_, ?_, ?_, ?_, ?_, ?_, ?_, ?_⟩
  · exact fun h hserves hterm hroot hid hnew ⟨hempty, hnext⟩ =>
      next_of_runs hruns (rxJoin_of_new h hserves ⟨hroot, hid⟩ hterm hnew hempty hnext rfl rfl)
  · exact fun h hserves hother => next_of_runs hruns (rxJoin_of_other h hserves hother)
  · exact fun h htower hterm hserves => next_of_runs hruns (rxWelcome_of_tower h htower hterm hserves)
  · exact fun h hserves hterm => next_of_runs hruns (rxWelcome_of_serving h hserves hterm)
  · intro h htower hterm hepoch hquiet hlost
    refine ⟨_, next_of_runs hruns (rxBeat_of_lost h htower hterm hepoch hquiet hlost), ?_, rfl, cause_mem_irq _ _ _, rfl, rfl,
      fun f hf => ?_⟩
    · rw [setFed_get, cause_get_other _ _ _ _ _ (by decide), get_set_same]
      rfl
    · simp only [List.mem_cons, List.not_mem_nil, or_false, not_or] at hf
      obtain ⟨hstate, hcause⟩ := hf
      rw [setFed_get, cause_get_other _ _ _ _ _ (Ne.symm hcause), get_set_ne _ _ _ _ (Ne.symm hstate)]
      rfl
  · exact fun h _ hterm => next_of_runs hruns (rxBeat_of_old h hterm)
  · exact fun h hserves => next_of_runs hruns (rxTimeQ_of_serving h hserves)
  · exact fun h htower => next_of_runs hruns (rxTimeR_of_tower h htower rfl rfl)
  · exact fun k e h hmember hnext he => next_of_runs hruns (rxReadyE_of_member h hmember hnext he)
  · exact fun h => next_of_runs hruns (rxLeave_of_has h)
  · exact fun k hserves hmembers => next_of_runs hruns (beatTimer_of_member hserves hmembers)
  · exact fun hstate hbeaten htower => next_of_runs hruns (timeQTimer_of_unbeaten hstate hbeaten htower)
  · exact fun hstate hpast => next_of_runs hruns (memberLoss_of_past hstate hpast)
  · exact fun hstate htower => next_of_runs hruns (fedRetry_of_lost hstate htower)
  · exact fun hrole ⟨hleast, hmost⟩ hpast hterm =>
      ⟨_, next_of_runs hruns (takeover_of_past hrole hleast hmost hpast), setTerm_succ_get rfl (by decide) hterm⟩
  · exact fun hrole hserves htower hterm hkeep =>
      ⟨_, next_of_keep hruns hkeep (reclaim_of_tower hrole hserves htower), setTerm_succ_get rfl (by decide) hterm⟩

end Sys2Proof.Machine
end

section
set_option Elab.async false
/-!
PROOFS. Random bytes: seeding and reseeding the DRBG, what it serves, and the keep's requests (R419 to R425).
-/

namespace Sys2Proof.Machine

variable {s : State}

/-! ### A starvation (R424) -/

theorem unstarve_of_fed (h : s.get R.ENT_STATUS_STARVED = 0) : s.unstarve = s := if_neg (by simp [is_of_get_zero h])

theorem unstarve_of_starved (h : s.get R.ENT_STATUS_STARVED = 1) :
    s.unstarve = (s.set R.ENT_STATUS_STARVED 0).cause R.ENT_EVENTS_CAUSE 144 148 := if_pos (is_of_get_one h)

/-- After a starvation's end there is none, and nothing else has changed but its event. -/
theorem unstarve_get (h : s.get R.ENT_STATUS_STARVED < 2) {f : Fld} :
    s.unstarve.get R.ENT_STATUS_STARVED = 0 ∧ (s.get R.ENT_STATUS_STARVED = 1 → 148 ∈ s.unstarve.irq) ∧
      s.unstarve.ent = s.ent ∧ ({ s.unstarve with irq := s.irq, regs := s.regs } : State) = s ∧
      (f.key ∉ [R.ENT_STATUS_STARVED.key, R.ENT_EVENTS_CAUSE.key] → s.unstarve.get f = s.get f) := by
  have hcases : s.get R.ENT_STATUS_STARVED = 0 ∨ s.get R.ENT_STATUS_STARVED = 1 := by omega
  obtain h0 | h1 := hcases
  · rw [unstarve_of_fed h0]
    exact ⟨h0, fun h1 => absurd (h0.symm.trans h1) (by decide), rfl, rfl, fun _ => rfl⟩
  · rw [unstarve_of_starved h1]
    refine ⟨?_, fun _ => cause_mem_irq _ _ _, rfl, rfl, fun hf => ?_⟩
    · rw [cause_get_other _ _ _ _ _ (by decide), get_set_same]
      rfl
    · simp only [List.mem_cons, List.not_mem_nil, or_false, not_or] at hf
      obtain ⟨hstarved, hcause⟩ := hf
      rw [cause_get_other _ _ _ _ _ (Ne.symm hcause), get_set_ne _ _ _ _ (Ne.symm hstarved)]

theorem starve_of_fed (h : s.get R.ENT_STATUS_STARVED = 0) :
    s.starve = (s.set R.ENT_STATUS_STARVED 1).cause R.ENT_EVENTS_CAUSE 144 147 := if_neg (by simp [is_of_get_zero h])

/-! ### Seeds (R419, R420) -/

theorem takeSeed_of_store {a b : List Byte} {rest : List (List Byte)} (h : s.ent.store = a :: b :: rest) :
    s.takeSeed = some ((a ++ b).take 48, s.setEnt { s.ent with store := rest }) := by rw [State.takeSeed, h]

/-- The DRBG as a reseed leaves it, with the blocks that are left. -/
def Ent.seeded (e : Ent) (d : Drbg) (rest : List (List Byte)) (now : Rat) : Ent :=
  { e with store := rest, drbg := d, gens := 0, due := false, last := now }

/-- The DRBG has a seed, and the reseed is counted. -/
def State.seeded (s : State) (d : Drbg) (rest : List (List Byte)) : State :=
  (s.setEnt (s.ent.seeded d rest s.tbase)).next R.ENT_RESEEDS_COUNT

theorem seeded_get (d : Drbg) (rest : List (List Byte)) {f : Fld} (hf : f.key ≠ R.ENT_RESEEDS_COUNT.key) :
    (s.seeded d rest).get f = s.get f := by
  rw [State.seeded, State.next, get_set_ne _ _ _ _ (Ne.symm hf)]
  rfl

theorem reseed_of_due {a b : List Byte} {rest : List (List Byte)} (hseeded : s.get R.ENT_STATUS_SEEDED = 1)
    (hdue : s.ent.due = true) (hstore : s.ent.store = a :: b :: rest) : s.reseed =
      (s.seeded (s.ent.drbg.reseed ((a ++ b).take 48)) rest).unstarve := by
  rw [State.reseed, if_pos (is_of_get_one hseeded), if_neg (not_not.mpr hdue), takeSeed_of_store hstore]
  rfl

theorem reseed_of_not_due (hseeded : s.get R.ENT_STATUS_SEEDED = 1) (hdue : s.ent.due = false) : s.reseed = s := by
  rw [State.reseed, if_pos (is_of_get_one hseeded), if_pos (by simp [hdue])]

theorem reseed_of_instantiation {a b : List Byte} {rest : List (List Byte)} (hseeded : s.get R.ENT_STATUS_SEEDED = 0)
    (hhealthy : s.entHealthy = true) (hmay : s.mayInstantiate = true) (hstore : s.ent.store = a :: b :: rest) : s.reseed =
      ((s.seeded (drbgNew ((a ++ b).take 48) s.entPers) rest).set R.ENT_STATUS_SEEDED 1).unstarve := by
  rw [State.reseed, if_neg (by simp [is_of_get_zero hseeded]), if_pos ⟨hhealthy, hmay⟩, takeSeed_of_store hstore]
  rfl

theorem reseed_of_failedTest (hseeded : s.get R.ENT_STATUS_SEEDED = 0) (hfailed : s.katPass = false) : s.reseed = s := by
  rw [State.reseed, if_neg (by simp [is_of_get_zero hseeded]), if_neg (by simp [State.mayInstantiate, hfailed])]

theorem mayInstantiate_of_boot (hphase : 5 ≤ s.get R.RST_BOOT_PHASE ∧ s.get R.RST_BOOT_PHASE ≤ 12) (hpass : s.katPass = true) :
    s.mayInstantiate = true := by simp [State.mayInstantiate, hphase, hpass]

theorem reseedTimer_of_past (hseeded : s.get R.ENT_STATUS_SEEDED = 1) (hpast : s.ent.last + 100000000 ≤ s.tbase) :
    s.reseedTimer = s.setEnt { s.ent with due := true } := if_pos ⟨is_of_get_one hseeded, hpast⟩

/-! ### Serving (R423) -/

theorem sesServed_of_none (h : s.ent.ses = []) : s.sesServed = s := by rw [State.sesServed, h]; rfl

theorem iccRandom_of_none (h : s.ent.cards = []) (n : Nat) : s.iccRandom n = s := by
  rw [State.iccRandom, h]
  dsimp only [tabFind]
  split
  · contradiction
  · rfl

theorem clfRandom_of_none (h : s.ent.cards = []) : s.clfRandom = s := by
  rw [State.clfRandom, h]
  dsimp only [tabFind]
  split
  · contradiction
  · rfl

/-- Where the DRBG has served neither SES nor a card, it has done all there is. -/
theorem serveRandom_of_drbg {t : State} (h : s.drbgServe = t) (hses : t.ent.ses = []) (hcards : t.ent.cards = []) :
    s.serveRandom = t := by
  rw [State.serveRandom, h, sesServed_of_none hses, iccRandom_of_none hcards, iccRandom_of_none hcards, clfRandom_of_none hcards]

theorem drbgServe_of_short (hseeded : s.get R.ENT_STATUS_SEEDED = 1) (hmode : s.get R.ENT_TEST_MODE = 0) (hdue : s.ent.due = true)
    (hshort : s.ent.store.length < 2) : s.drbgServe = s.starve := by
  rw [State.drbgServe, if_neg (not_not.mpr (is_of_get_one hseeded)), if_neg (by simp [hmode]), if_pos ⟨hdue, hshort⟩]

/-- With no reseed due, the first that waits is served, from the DRBG or of the raw bits. -/
theorem drbgServe_of_waits (hseeded : s.get R.ENT_STATUS_SEEDED = 1) (hdue : s.ent.due = false) (hwaits : s.entWaits = true) :
    s.drbgServe = s.serveFirst := by
  rw [State.drbgServe, if_neg (not_not.mpr (is_of_get_one hseeded)), if_neg (c := s.ent.due = true ∧ _) (by simp [hdue]),
    if_pos hwaits, reseed_of_not_due hseeded hdue, ite_self]

section
variable (htest : s.get R.ENT_STATUS_TEST = 0)
include htest

theorem entWaits_of_reqs (h : s.ent.reqs ≠ []) : s.entWaits = true := by
  simp [State.entWaits, is_of_get_zero htest, List.isEmpty_eq_false_iff.mpr h]

theorem entWaits_of_reserve (h : s.pools.pkeRes.length + 512 ≤ 4096) : s.entWaits = true := by
  simp [State.entWaits, is_of_get_zero htest, h]

theorem serveFirst_of_digKey {rs : List EntReq} (h : s.ent.reqs = .digKey :: rs) : s.serveFirst = s.serveReq .digKey := by
  rw [State.serveFirst, is_of_get_zero htest, h]
  rfl

end

/-- `n` random bytes go to the reserve of the PKE pool. -/
def State.reserved (s : State) (n : Nat) : State :=
  { (s.gen n).2 with pools := { s.pools with pkeRes := s.pools.pkeRes ++ (s.ent.drbg.generate n).1 } }

theorem serveFirst_of_reserve (htest : s.get R.ENT_STATUS_TEST = 0) (hreqs : s.ent.reqs = [])
    (hroom : s.pools.pkeRes.length + 512 ≤ 4096) : s.serveFirst = s.reserved 512 := by
  have hnone (row : Nat) : firstReq row s.ent.reqs = none := by rw [hreqs]; rfl
  rw [State.serveFirst]
  simp only [hnone, is_of_get_zero htest, Bool.false_eq_true, if_false, if_pos hroom]
  rfl

/-- Of what a request draws, the count of bytes alone is seen in a register. -/
theorem gen_get (n : Nat) {f : Fld} (hf : f.key ∉ [R.ENT_BYTES_COUNT.key]) : (s.gen n).2.get f = s.get f := by
  rw [List.mem_singleton] at hf
  rw [State.gen, get_set_ne _ _ _ _ (Ne.symm hf)]
  rfl

theorem reserved_keeps (n : Nat) : (s.reserved n).ent.drbg = (s.ent.drbg.generate n).2 ∧ (s.reserved n).ent.ses = s.ent.ses ∧
    (s.reserved n).ent.cards = s.ent.cards ∧
    ({ s.reserved n with ent := s.ent, pools := s.pools, regs := s.regs } : State) = s := ⟨rfl, rfl, rfl, rfl⟩

theorem reserved_get (n : Nat) {f : Fld} (hf : f.key ∉ [R.ENT_BYTES_COUNT.key]) : (s.reserved n).get f = s.get f := gen_get n hf

/-- A new digest key is drawn, of `n` bytes. -/
def State.digKeyed (s : State) (n : Nat) : State :=
  { ((s.dropReq .digKey).gen n).2 with pools := { s.pools with digKey := (s.ent.drbg.generate n).1 } }

theorem serveReq_digKey : s.serveReq .digKey = s.digKeyed 32 := rfl

theorem digKeyed_keeps (n : Nat) : (s.digKeyed n).ent.drbg = (s.ent.drbg.generate n).2 ∧
    (s.digKeyed n).ent.reqs = s.ent.reqs.erase .digKey ∧ (s.digKeyed n).ent.ses = s.ent.ses ∧
    (s.digKeyed n).ent.cards = s.ent.cards ∧
    ({ s.digKeyed n with ent := s.ent, pools := s.pools, regs := s.regs } : State) = s := ⟨rfl, rfl, rfl, rfl, rfl⟩

theorem digKeyed_get (n : Nat) {f : Fld} (hf : f.key ∉ [R.ENT_BYTES_COUNT.key]) : (s.digKeyed n).get f = s.get f :=
  gen_get (s := s.dropReq .digKey) n hf

/-! ### Keep requests (R425) -/

theorem entReqEnd_get {code : Nat} (hcode : code < 4) : ∃ t, s.entReqEnd code = t ∧ t.get R.ENT_REQ_STATUS_CODE = code ∧
    t.get R.ENT_STATUS_REQ_BUSY = 0 ∧ t.ent.keep = none ∧ 144 ∈ t.irq ∧
    ({ t with ent := s.ent, irq := s.irq, regs := s.regs } : State) = s ∧
    (∀ f : Fld, f.key ∉ [R.ENT_STATUS_REQ_BUSY.key, R.ENT_REQ_STATUS_CODE.key, R.ENT_EVENTS_CAUSE.key] → t.get f = s.get f) := by
  refine ⟨_, rfl, ?_, ?_, rfl, cause_mem_irq _ _ _, rfl, fun f hf => ?_⟩ <;> rw [State.entReqEnd]
  · rw [cause_get_other _ _ _ _ _ (by decide), get_set_same]
    exact Nat.mod_eq_of_lt (Nat.lt_of_lt_of_le hcode (by decide))
  · rw [cause_get_other _ _ _ _ _ (by decide), get_set_ne _ _ _ _ (by decide), get_set_same]
    rfl
  · simp only [List.mem_cons, List.not_mem_nil, or_false, not_or] at hf
    obtain ⟨hbusy, hcode, hcause⟩ := hf
    rw [cause_get_other _ _ _ _ _ (Ne.symm hcause), get_set_ne _ _ _ _ (Ne.symm hcode), get_set_ne _ _ _ _ (Ne.symm hbusy)]
    rfl

section
variable {units : Nat} (hidle : s.get R.ENT_STATUS_REQ_BUSY = 0)
include hidle

theorem entReq_of_range (hunits : units = 0 ∨ 1024 < units) : s.entReq units = s.entReqEnd 2 := by
  rw [State.entReq, if_neg (by simp [is_of_get_zero hidle]), if_pos hunits]

theorem entReq_of_unseeded (hunits : 0 < units ∧ units ≤ 1024) (hseeded : s.get R.ENT_STATUS_SEEDED = 0) :
    s.entReq units = s.entReqEnd 1 := by
  rw [State.entReq, if_neg (by simp [is_of_get_zero hidle]), if_neg (by omega), if_pos (by simp [is_of_get_zero hseeded])]

theorem entReq_of_seeded (hunits : 0 < units ∧ units ≤ 1024) (hseeded : s.get R.ENT_STATUS_SEEDED = 1) : s.entReq units =
    (s.setEnt { s.ent with keep := some (s.get R.ENT_REQ_ADDR_ADDR * 64, units), reqs := s.ent.reqs ++ [.keep], raw := [] }).set
      R.ENT_STATUS_REQ_BUSY 1 := by
  rw [State.entReq, if_neg (by simp [is_of_get_zero hidle]), if_neg (by omega), if_neg (not_not.mpr (is_of_get_one hseeded))]

end

theorem entReqDone_of_last {a : Nat} (h : s.ent.keep = some (a, 0)) : s.entReqDone = s.entReqEnd 0 := by
  rw [State.entReqDone, h]
  rfl

end Sys2Proof.Machine
end

section
set_option Elab.async false
namespace Sys2Proof.Machine

/-- Settles O41: each event of the DRBG by what it is seeded with and what waits. -/
theorem randomService : Obligations.RandomService := by
  unfold Obligations.RandomService
  intro s u hruns
  have hunits (h : u ≤ 1024) : u % 2 ^ 11 = u := Nat.mod_eq_of_lt (Nat.lt_of_le_of_lt h (by decide))
  refine ⟨?_, ?_, ?_, ?_, ?_, ?_, ?_, ?_, ?_, ?_, ?_, ?_, ?_⟩
  · exact fun hseeded hpast => next_of_runs hruns (reseedTimer_of_past hseeded hpast)
  · exact fun hkeep => next_of_keep hruns hkeep rfl
  · intro a b rest hseeded hdue hstore hstarved
    have hkept {f : Fld} (hf : f.key ≠ R.ENT_RESEEDS_COUNT.key) :=
      seeded_get (s := s) (s.ent.drbg.reseed ((a ++ b).take 48)) rest hf
    have hbefore := hkept (f := R.ENT_STATUS_STARVED) (by decide)
    obtain ⟨hafter, hevent, hent, hrest, -⟩ := unstarve_get (f := R.ENT_STATUS_STARVED) (hbefore.trans_lt hstarved)
    refine ⟨_, next_of_runs hruns (reseed_of_due hseeded hdue hstore), by rw [hent]; rfl, by rw [hent]; rfl, by rw [hent]; rfl,
      by rw [hent]; rfl, hafter, fun h => hevent (hbefore.trans h), ?_, fun f hf => ?_⟩
    · exact congrArg (fun t : State => { t with ent := s.ent, regs := s.regs }) hrest
    · simp only [List.mem_cons, List.not_mem_nil, or_false, not_or] at hf
      obtain ⟨hcount, hstarved', hcause⟩ := hf
      exact ((unstarve_get (f := f) (hbefore.trans_lt hstarved)).2.2.2.2 (by simp [hstarved', hcause])).trans (hkept hcount)
  · intro a b rest hseeded hstarved hhealthy hphase hpass hstore
    have hfed : ((s.seeded (drbgNew ((a ++ b).take 48) s.entPers) rest).set R.ENT_STATUS_SEEDED 1).get R.ENT_STATUS_STARVED = 0 := by
      rw [get_set_ne _ _ _ _ (by decide), seeded_get _ _ (by decide), hstarved]
    have hdo := reseed_of_instantiation hseeded hhealthy (mayInstantiate_of_boot hphase hpass) hstore
    rw [unstarve_of_fed hfed] at hdo
    refine ⟨_, next_of_runs hruns hdo, rfl, rfl, get_set_same _ _ _, rfl, fun f hf => ?_⟩
    simp only [List.mem_cons, List.not_mem_nil, or_false, not_or] at hf
    obtain ⟨hcount, hseeded'⟩ := hf
    rw [get_set_ne _ _ _ _ (Ne.symm hseeded'), seeded_get _ _ hcount]
  · exact fun hseeded hfailed => next_of_runs hruns (reseed_of_failedTest hseeded hfailed)
  · intro hseeded htest hmode hwaits hdue hshort hstarved hses hcards
    have hstarve := (drbgServe_of_short hseeded hmode hdue hshort).trans (starve_of_fed hstarved)
    exact next_of_runs hruns (serveRandom_of_drbg hstarve hses hcards)
  · intro rs hseeded htest hdue hreqs hses hcards
    have hserve := (drbgServe_of_waits hseeded hdue (entWaits_of_reqs htest (by simp [hreqs]))).trans (serveFirst_of_digKey htest hreqs)
    rw [serveReq_digKey] at hserve
    obtain ⟨hdrbg, hleft, hses', hcards', hrest⟩ := digKeyed_keeps (s := s) 32
    refine ⟨_, next_of_runs hruns (serveRandom_of_drbg hserve (hses'.trans hses) (hcards'.trans hcards)), rfl, hdrbg, ?_, hrest,
      fun f hf => digKeyed_get 32 hf⟩
    rw [hleft, hreqs, List.erase_cons_head]
  · intro hseeded htest hdue hreqs hroom hses hcards
    have hserve := (drbgServe_of_waits hseeded hdue (entWaits_of_reserve htest hroom)).trans (serveFirst_of_reserve htest hreqs hroom)
    obtain ⟨hdrbg, hses', hcards', hrest⟩ := reserved_keeps (s := s) 512
    exact ⟨_, next_of_runs hruns (serveRandom_of_drbg hserve (hses'.trans hses) (hcards'.trans hcards)), rfl, hdrbg, hrest,
      fun f hf => reserved_get 512 hf⟩
  · intro hidle hrange hkeep
    obtain ⟨t, ht, hcode, -, -, hirq, hrest, hget⟩ := entReqEnd_get (s := s) (code := 2) (by decide)
    exact ⟨t, next_of_keep hruns hkeep ((entReq_of_range hidle hrange).trans ht), hcode, hirq, hrest, hget⟩
  · intro hidle hin hseeded hkeep
    obtain ⟨t, ht, hcode, -, -, hirq, hrest, hget⟩ := entReqEnd_get (s := s) (code := 1) (by decide)
    refine ⟨t, next_of_keep hruns hkeep ?_, hcode, hirq, hrest, hget⟩
    rw [hunits hin.2]
    exact (entReq_of_unseeded hidle hin hseeded).trans ht
  · intro hidle hin hseeded hkeep
    refine next_of_keep hruns hkeep ?_
    rw [hunits hin.2]
    exact entReq_of_seeded hidle hin hseeded
  · intro a hlast
    obtain ⟨t, ht, hcode, hbusy, hkeep, hirq, hrest, hget⟩ := entReqEnd_get (s := s) (code := 0) (by decide)
    exact ⟨t, next_of_runs hruns ((entReqDone_of_last hlast).trans ht), hcode, hbusy, hkeep, hirq, hrest, hget⟩
  · intro hphase hseeded hpast
    exact congrArg Host.Outcome.next ((whenOn_of_mainOn (mainOn_of_runs hruns)).trans
      (if_pos ⟨hphase, by simp [is_of_get_zero hseeded], hpast⟩))

end Sys2Proof.Machine
end

section
set_option Elab.async false
/-!
PROOFS. Tamper sources: what an event marks, and which monitor fires which source (R430 to R441).
-/

namespace Sys2Proof.Machine

variable {s : State} {n : Nat}

/-! ### What an event leaves (R435) -/

/-- A source's sticky flag, its count and the tick of its first event. -/
def State.marked (s : State) (n : Nat) : State :=
  let s1 := if (s.get R.TMP_FLAGS_FLAG).testBit n then s else s.set (R.TMP_FIRST_TS_TICKS n) (s.get R.TIME_TSTAMP_TICKS)
  (s1.set R.TMP_FLAGS_FLAG (s1.get R.TMP_FLAGS_FLAG ||| 2 ^ n)).count (R.TMP_COUNT_COUNT n)

theorem flags_ne_count : (R.TMP_COUNT_COUNT n).key ≠ R.TMP_FLAGS_FLAG.key := by
  simp only [Fld.key, R.TMP_COUNT_COUNT, R.TMP_FLAGS_FLAG]; omega

theorem first_ne_flags : (R.TMP_FIRST_TS_TICKS n).key ≠ R.TMP_FLAGS_FLAG.key := by
  simp only [Fld.key, R.TMP_FIRST_TS_TICKS, R.TMP_FLAGS_FLAG]; omega

theorem first_ne_count : (R.TMP_FIRST_TS_TICKS n).key ≠ (R.TMP_COUNT_COUNT n).key := by
  simp only [Fld.key, R.TMP_FIRST_TS_TICKS, R.TMP_COUNT_COUNT]; omega

theorem satInc_lt (wd v : Nat) : satInc wd v < 2 ^ wd := by
  rw [satInc]
  split
  · assumption
  · exact Nat.sub_lt (Nat.two_pow_pos wd) Nat.one_pos

theorem count_get_same (f : Fld) : (s.count f).get f = satInc f.wd (s.get f) := by
  rw [State.count, get_set_same, Nat.mod_eq_of_lt (satInc_lt _ _)]

theorem count_get_ne {f g : Fld} (h : f.key ≠ g.key) : (s.count f).get g = s.get g := get_set_ne _ _ _ _ h

theorem marked_of_set (h : (s.get R.TMP_FLAGS_FLAG).testBit n = true) :
    s.marked n = (s.set R.TMP_FLAGS_FLAG (s.get R.TMP_FLAGS_FLAG ||| 2 ^ n)).count (R.TMP_COUNT_COUNT n) := by
  rw [State.marked, if_pos h]

theorem marked_of_clear (h : (s.get R.TMP_FLAGS_FLAG).testBit n = false) : s.marked n =
    ((s.set (R.TMP_FIRST_TS_TICKS n) (s.get R.TIME_TSTAMP_TICKS)).set R.TMP_FLAGS_FLAG (s.get R.TMP_FLAGS_FLAG ||| 2 ^ n)).count
      (R.TMP_COUNT_COUNT n) := by
  rw [State.marked, if_neg (by simp [h]), get_set_ne _ _ _ _ first_ne_flags]

/-- The first event of a source since its clearing. -/
theorem marked_get_of_clear (h : (s.get R.TMP_FLAGS_FLAG).testBit n = false) :
    (s.marked n).get R.TMP_FLAGS_FLAG = (s.get R.TMP_FLAGS_FLAG ||| 2 ^ n) % 2 ^ 17 ∧
    (s.marked n).get (R.TMP_COUNT_COUNT n) = satInc 16 (s.get (R.TMP_COUNT_COUNT n)) ∧
    (s.marked n).get (R.TMP_FIRST_TS_TICKS n) = s.get R.TIME_TSTAMP_TICKS % 2 ^ 48 ∧
    (∀ f : Fld, f.key ∉ [R.TMP_FLAGS_FLAG.key, (R.TMP_COUNT_COUNT n).key, (R.TMP_FIRST_TS_TICKS n).key] →
      (s.marked n).get f = s.get f) := by
  rw [marked_of_clear h]
  refine ⟨?_, ?_, ?_, fun f hf => ?_⟩
  · rw [count_get_ne flags_ne_count, get_set_same]
    rfl
  · rw [count_get_same, get_set_ne _ _ _ _ flags_ne_count.symm, get_set_ne _ _ _ _ first_ne_count]
    rfl
  · rw [count_get_ne first_ne_count.symm, get_set_ne _ _ _ _ first_ne_flags.symm, get_set_same]
    rfl
  · simp only [List.mem_cons, List.not_mem_nil, or_false, not_or] at hf
    obtain ⟨hflags, hcount, hfirst⟩ := hf
    rw [count_get_ne (Ne.symm hcount), get_set_ne _ _ _ _ (Ne.symm hflags), get_set_ne _ _ _ _ (Ne.symm hfirst)]

/-- A bit that is set is set again. -/
theorem or_two_pow_of_testBit {v : Nat} (h : v.testBit n = true) : v ||| 2 ^ n = v := by
  refine Nat.eq_of_testBit_eq fun i => ?_
  rw [Nat.testBit_or, Nat.testBit_two_pow]
  by_cases hi : n = i
  · rw [← hi, h]; rfl
  · simp [hi]

/-- A further event of a source. -/
theorem marked_get_of_set (h : (s.get R.TMP_FLAGS_FLAG).testBit n = true) :
    (s.marked n).get R.TMP_FLAGS_FLAG = s.get R.TMP_FLAGS_FLAG % 2 ^ 17 ∧
    (s.marked n).get (R.TMP_COUNT_COUNT n) = satInc 16 (s.get (R.TMP_COUNT_COUNT n)) ∧
    (∀ f : Fld, f.key ∉ [R.TMP_FLAGS_FLAG.key, (R.TMP_COUNT_COUNT n).key] → (s.marked n).get f = s.get f) := by
  rw [marked_of_set h, or_two_pow_of_testBit h]
  refine ⟨?_, ?_, fun f hf => ?_⟩
  · rw [count_get_ne flags_ne_count, get_set_same]
    rfl
  · rw [count_get_same, get_set_ne _ _ _ _ flags_ne_count.symm]
    rfl
  · simp only [List.mem_cons, List.not_mem_nil, or_false, not_or] at hf
    obtain ⟨hflags, hcount⟩ := hf
    rw [count_get_ne (Ne.symm hcount), get_set_ne _ _ _ _ (Ne.symm hflags)]

theorem marked_rest : ({ s.marked n with regs := s.regs } : State) = s := by
  cases h : (s.get R.TMP_FLAGS_FLAG).testBit n
  · rw [marked_of_clear h]; rfl
  · rw [marked_of_set h]; rfl

theorem marked_tmp : (s.marked n).tmp = s.tmp := by
  have hrest := congrArg State.tmp (marked_rest (s := s) (n := n))
  exact hrest

/-- The event as it is registered (R447). -/
def State.event (s : State) (n detail : Nat) : TEvt :=
  { src := n, detail := detail, ts := s.get R.TIME_TSTAMP_TICKS, dt := s.nowNs, dev := s.devNow }

/-- What is kept of a source's deferred events (R441): the first of them, and their count. -/
def State.kept (s : State) (n : Nat) (e : TEvt) : TEvt × Nat :=
  match tabFind s.tmp.deferred n with
  | some (f, k) => (f, satInc 16 k)
  | none => (e, 1)

theorem tamper_eq (detail : Nat) : s.tamper n detail =
    if s.tmp.live then
      { s.marked n with tmp := { (s.marked n).tmp with queue := (s.marked n).tmp.queue ++ [s.event n detail] } }
    else
      ({ s.marked n with tmp := { (s.marked n).tmp with
        deferred := tabIns (s.marked n).tmp.deferred n (s.kept n (s.event n detail)) } } : State).set R.TMP_PENDING_RESP
        ((s.marked n).get R.TMP_PENDING_RESP ||| (s.marked n).tmpMask n) := rfl

/-- While handling is live an event waits for its firing (R439). -/
theorem tamper_of_live (h : s.tmp.live = true) (detail : Nat) :
    s.tamper n detail = { s.marked n with tmp := { s.tmp with queue := s.tmp.queue ++ [s.event n detail] } } := by
  rw [tamper_eq, if_pos h, marked_tmp]

/-- Otherwise its mask is pending, and the first event of each source is kept (R441). -/
theorem tamper_of_deferred (h : s.tmp.live = false) (hfirst : tabFind s.tmp.deferred n = none) (detail : Nat) :
    s.tamper n detail = ({ s.marked n with tmp := { s.tmp with
      deferred := tabIns s.tmp.deferred n (s.event n detail, 1) } } : State).set R.TMP_PENDING_RESP
        ((s.marked n).get R.TMP_PENDING_RESP ||| (s.marked n).tmpMask n) := by
  rw [tamper_eq, if_neg (by simp [h]), marked_tmp, State.kept, hfirst]

/-! ### Pins (R450) -/

/-- The pins with the level of one of them. -/
def pinsWith (v n : Nat) (fault : Bool) : Nat := if v.testBit n = fault then v else if fault then v + 2 ^ n else v - 2 ^ n

theorem pinLevel_eq (n : Nat) (fault : Bool) : s.pinLevel n fault = s.setTmp { s.tmp with pins := pinsWith s.tmp.pins n fault } := rfl

theorem pinsWith_testBit (v n : Nat) (fault : Bool) : (pinsWith v n fault).testBit n = fault := by
  rw [pinsWith]
  split
  case isTrue hsame => exact hsame
  case isFalse hother =>
    cases fault with
    | true =>
      have hclear : v.testBit n = false := by simpa using hother
      rw [if_pos rfl, Nat.add_comm, Nat.testBit_two_pow_add_eq, hclear]
      rfl
    | false =>
      have hset : v.testBit n = true := by simpa using hother
      have hsplit : 2 ^ n + (v - 2 ^ n) = v := Nat.add_sub_cancel' (Nat.ge_two_pow_of_testBit hset)
      have hflip : v.testBit n = !(v - 2 ^ n).testBit n := by rw [← Nat.testBit_two_pow_add_eq, hsplit]
      rw [if_neg Bool.false_ne_true, ← Bool.not_inj_iff, ← hflip, hset]
      rfl

/-! ### The monitors (R430 to R433) -/

theorem tamperIf_true (n detail : Nat) : s.tamperIf true n detail = s.tamper n detail := rfl
theorem tamperIf_false (n detail : Nat) : s.tamperIf false n detail = s := rfl

theorem casePulse_fires {pin : CasePin} (hbedrock : s.pwr.bedrock = true) (hn : n ≤ 3) (hpin : pin ≠ .rest) :
    s.casePulse n pin = (s.pinLevel (3 + n) (pin == .high)).tamper (3 + n) 0 := by
  rw [State.casePulse, if_neg (by simp [hbedrock, hn]), bne_iff_ne.mpr hpin, tamperIf_true]

theorem casePulse_rest (hbedrock : s.pwr.bedrock = true) (hn : n ≤ 3) : s.casePulse n .rest = s.pinLevel (3 + n) false := by
  rw [State.casePulse, if_neg (by simp [hbedrock, hn])]
  rfl

theorem meshCompare_of_open (hbedrock : s.pwr.bedrock = true) (hopen : s.tmp.compared = false) (levels : Nat) :
    s.meshCompare levels = s.meshFires (s.meshDiff levels) := if_neg (by simp [hbedrock, hopen])

theorem meshCompare_of_compared (h : s.tmp.compared = true) (levels : Nat) : s.meshCompare levels = s := if_pos (.inr h)

theorem meshFires_of_none : s.meshFires 0 = (((s.setTmp { s.tmp with mesh := 0, compared := true }).pinLevel 0 false).pinLevel
    1 false).pinLevel 2 false := rfl

theorem meshFires_of_lid {m : Nat} (hlid : m % 16 ≠ 0) (h4 : m.testBit 4 = false) (h5 : m.testBit 5 = false) : s.meshFires m =
    ((((s.setTmp { s.tmp with mesh := m, compared := true }).pinLevel 0 true).pinLevel 1 false).pinLevel 2 false).tamper
      0 (m % 16) := by
  rw [State.meshFires]
  simp only [h4, h5, bne_iff_ne.mpr hlid, tamperIf_true, tamperIf_false]

theorem railEvent_fires {src rail : Nat} {high : Bool} (hon : s.pwr.main = .on) (harmed : s.pwr.armed = true) (hrail : rail < 7) :
    s.railEvent src rail high = (s.tamper src (rail + if high then 256 else 0)).stopCause false := by
  rw [State.railEvent, if_pos ⟨by simp [State.mainRuns, hon], harmed, hrail⟩]
  cases high <;> rfl

theorem railEvent_unarmed (h : s.pwr.armed = false) (src rail : Nat) (high : Bool) : s.railEvent src rail high = s :=
  if_neg (by simp [h])

theorem clockFail_of_use {which : Nat} (hon : s.pwr.main = .on)
    (huse : which = 1 ∨ (2 ≤ which ∧ which ≤ 5) ∧ (s.get R.PWR_STATE_DEV ≠ 3 ∨ which = 5)) :
    s.clockFail which = s.tamper 10 which := by
  have hall : (s.mainRuns && (which == 1 || which == 5 || s.get R.PWR_STATE_DEV != 3) && decide (1 ≤ which) &&
      decide (which ≤ 5)) = true := by
    simp only [State.mainRuns, hon, Bool.and_eq_true, Bool.or_eq_true, beq_iff_eq, bne_iff_ne, decide_eq_true_eq, true_and]
    obtain hone | ⟨⟨hleast, hmost⟩, hdev⟩ := huse
    · omega
    · refine ⟨⟨?_, by omega⟩, hmost⟩
      exact hdev.elim .inr (fun h => .inl (.inr h))
  rw [State.clockFail, hall, tamperIf_true]

theorem tempReading_of_on {tj : Nat} (hon : s.pwr.main = .on) (hwarn : s.pwr.tempWarn = none) (htj : tj < 4096) : s.tempReading tj =
    ((s.set R.MGT_TEMP_TJ tj).setTmp { s.tmp with tempBad := tempOut tj }).tamperIf (tempOut tj && s.tmp.tempBad) 11 tj := by
  rw [State.tempReading, if_neg (by simp [State.mainRuns, hon]), hwarn, Nat.mod_eq_of_lt htj]

/-- With main power off nothing happens. -/
theorem whenOn_of_keeps {f : State → State} (h : f s = s) : s.whenOn f = s := by
  rw [State.whenOn]
  split
  · exact h
  · rfl

end Sys2Proof.Machine
end

section
set_option Elab.async false
namespace Sys2Proof.Machine

/-- Settles O42: an event by whether handling is live, and each monitor by what it finds. -/
theorem tamperEvents : Obligations.TamperEvents := by
  unfold Obligations.TamperEvents
  intro s n hbedrock hn
  have hwhenOn (hon : s.pwr.main = .on) {f : State → State} {t : State} (h : f s = t) :
      (.next (s.whenOn f) : Host.Outcome State Fault Refusal) = .next t := by
    rw [whenOn_of_mainOn (by simp [State.mainOn, hon]), h]
  refine ⟨?_, ?_, ?_, ?_, ?_, ?_, ?_, ?_, ?_, ?_, ?_, ?_, ?_, ?_, ?_⟩
  · intro pin hlive hpin hclear
    have hdo := (casePulse_fires hbedrock hn hpin).trans
      (tamper_of_live (s := s.pinLevel (3 + n) (pin == .high)) hlive 0)
    obtain ⟨hflags, hcount, hfirst, hother⟩ := marked_get_of_clear (s := s.pinLevel (3 + n) (pin == .high)) (n := 3 + n) hclear
    have hrest := marked_rest (s := s.pinLevel (3 + n) (pin == .high)) (n := 3 + n)
    refine ⟨_, congrArg Host.Outcome.next hdo, hflags, hcount, hfirst, ?_, rfl, ?_, hother⟩
    · exact (pinsWith_testBit _ _ _).trans (by cases pin <;> rfl)
    · exact congrArg (fun t : State => { t with tmp := s.tmp }) hrest
  · intro pin hlive hpin hset hnone
    have hdo := (casePulse_fires hbedrock hn hpin).trans
      (tamper_of_deferred (s := s.pinLevel (3 + n) (pin == .high)) hlive hnone 0)
    obtain ⟨hflags, hcount, hother⟩ := marked_get_of_set (s := s.pinLevel (3 + n) (pin == .high)) (n := 3 + n) hset
    have hrest := marked_rest (s := s.pinLevel (3 + n) (pin == .high)) (n := 3 + n)
    have hmask : ((s.pinLevel (3 + n) (pin == .high)).marked (3 + n)).tmpMask (3 + n) = s.get (R.TMP_MASK_MASK (3 + n)) := by
      rw [State.tmpMask, if_neg (by omega), hother]
      · rfl
      · simp only [Fld.key, R.TMP_MASK_MASK, R.TMP_COUNT_COUNT, R.TMP_FLAGS_FLAG, List.mem_cons, List.not_mem_nil, or_false]
        omega
    have hpending : ((s.pinLevel (3 + n) (pin == .high)).marked (3 + n)).get R.TMP_PENDING_RESP = s.get R.TMP_PENDING_RESP := by
      rw [hother]
      · rfl
      · simp only [Fld.key, R.TMP_PENDING_RESP, R.TMP_COUNT_COUNT, R.TMP_FLAGS_FLAG, List.mem_cons, List.not_mem_nil, or_false]
        omega
    rw [hmask, hpending] at hdo
    have hcountKey : R.TMP_PENDING_RESP.key ≠ (R.TMP_COUNT_COUNT (3 + n)).key := by
      simp only [Fld.key, R.TMP_PENDING_RESP, R.TMP_COUNT_COUNT]
      omega
    refine ⟨_, congrArg Host.Outcome.next hdo, ?_, ?_, ?_, rfl, ?_, fun f hf => ?_⟩
    · rw [get_set_ne _ _ _ _ (by decide)]
      exact hflags
    · rw [get_set_ne _ _ _ _ hcountKey]
      exact hcount
    · rw [get_set_same]
      rfl
    · exact congrArg (fun t : State => { t with tmp := s.tmp }) hrest
    · simp only [List.mem_cons, List.not_mem_nil, or_false, not_or] at hf
      obtain ⟨hflagKey, hcountKey, hpendingKey⟩ := hf
      rw [get_set_ne _ _ _ _ (Ne.symm hpendingKey)]
      exact hother f (by simp [hflagKey, hcountKey])
  · exact congrArg Host.Outcome.next (casePulse_rest hbedrock hn)
  · intro lv hlv hopen hdiff
    refine congrArg Host.Outcome.next ?_
    rw [Nat.mod_eq_of_lt hlv, meshCompare_of_open hbedrock hopen, hdiff, meshFires_of_none]
  · intro lv m hlv hopen hdiff hlid ⟨h4, h5⟩
    refine congrArg Host.Outcome.next ?_
    rw [Nat.mod_eq_of_lt hlv, meshCompare_of_open hbedrock hopen, hdiff, meshFires_of_lid hlid h4 h5]
  · exact fun lv hcompared => congrArg Host.Outcome.next (meshCompare_of_compared hcompared _)
  · refine fun diode hon => hwhenOn hon ?_
    rw [State.lightDetect, show s.mainRuns = true by simp [State.mainRuns, hon], tamperIf_true]
  · intro rail high hon harmed hrail
    refine hwhenOn hon ?_
    rw [Nat.mod_eq_of_lt (by omega)]
    exact railEvent_fires hon harmed hrail
  · exact fun rail high harmed => congrArg Host.Outcome.next (whenOn_of_keeps (railEvent_unarmed harmed _ _ _))
  · intro rail high hon harmed hrail
    refine hwhenOn hon ?_
    rw [Nat.mod_eq_of_lt (by omega)]
    exact railEvent_fires hon harmed hrail
  · exact fun rail high harmed => congrArg Host.Outcome.next (whenOn_of_keeps (railEvent_unarmed harmed _ _ _))
  · exact fun hon => hwhenOn hon (clockFail_of_use hon (.inl rfl))
  · intro which hon hwhich hdev
    refine hwhenOn hon ?_
    rw [if_pos hwhich]
    exact clockFail_of_use hon (.inr ⟨hwhich, hdev⟩)
  · intro tj hon hwarn htj hin
    refine ⟨_, hwhenOn hon (f := fun s => s.tempReading (tj % 4096)) (t := (s.set R.MGT_TEMP_TJ tj).setTmp { s.tmp with tempBad := false })
      ?_, ?_, rfl, rfl, fun f hf => ?_⟩
    · dsimp only
      rw [Nat.mod_eq_of_lt htj, tempReading_of_on hon hwarn htj, hin, Bool.false_and, tamperIf_false]
    · rw [setTmp_get, get_set_same]
      exact Nat.mod_eq_of_lt htj
    · rw [List.mem_singleton] at hf
      rw [setTmp_get, get_set_ne _ _ _ _ (Ne.symm hf)]
  · intro tj hon hwarn htj hout hbad
    refine hwhenOn hon ?_
    have hsame : ({ s.tmp with tempBad := true } : Tmp) = s.tmp := by rw [← hbad]
    rw [Nat.mod_eq_of_lt htj, tempReading_of_on hon hwarn htj, hout, hbad, hsame, Bool.and_self, tamperIf_true]
    rfl

end Sys2Proof.Machine
end

section
set_option Elab.async false
/-!
PROOFS. The evidence log: what a record's words hold, and what a clear leaves (R446 to R449).
-/

namespace Sys2Proof.Machine

variable {s : State}

/-! ### Fields set one after another -/

section
variable {F : Nat → Fld} {w : Nat → Nat} {g : Fld}

theorem foldSet_get_other {l : List Nat} (h : ∀ i ∈ l, (F i).key ≠ g.key) :
    (l.foldl (fun s i => s.set (F i) (w i)) s).get g = s.get g := by
  induction l generalizing s with
  | nil => rfl
  | cons i l ih =>
    rw [List.foldl_cons, ih fun k hk => h k (List.mem_cons_of_mem _ hk), get_set_ne _ _ _ _ (h i List.mem_cons_self)]

theorem foldSet_get_range {n j : Nat} (hj : j < n) (h : ∀ i < n, i ≠ j → (F i).key ≠ (F j).key) :
    ((List.range n).foldl (fun s i => s.set (F i) (w i)) s).get (F j) = w j % 2 ^ (F j).wd := by
  induction n with
  | zero => exact absurd hj (Nat.not_lt_zero j)
  | succ n ih =>
    rw [List.range_succ, List.foldl_append, List.foldl_cons, List.foldl_nil]
    by_cases hlast : n = j
    · rw [hlast, get_set_same]
    · rw [get_set_ne _ _ _ _ (h n (Nat.lt_succ_self n) hlast)]
      exact ih (by omega) fun i hi => h i (Nat.lt_succ_of_lt hi)

theorem foldSet_rest (l : List Nat) :
    ({ l.foldl (fun s i => s.set (F i) (w i)) s with regs := s.regs } : State) = s ∧
      (l.foldl (fun s i => s.set (F i) (w i)) s).tmp = s.tmp := by
  refine List.foldlRecOn (motive := fun t : State => ({ t with regs := s.regs } : State) = s ∧ t.tmp = s.tmp) l _ ⟨rfl, rfl⟩
    fun t ht i _ => ?_
  exact ht

end

/-! ### Records (R447) -/

/-- The words of different places in the log are different registers. -/
theorem word_key_ne {k i l j : Nat} (hi : i < 8) (hj : j < 8) (h : ¬ (k = l ∧ i = j)) :
    (R.TMP_EVLOG_WORD k i).key ≠ (R.TMP_EVLOG_WORD l j).key := by
  simp only [Fld.key, R.TMP_EVLOG_WORD]
  omega

/-- A register below the log is none of its words. -/
theorem word_key_ne_of_lt {f : Fld} (k i : Nat) (h : f.key < 0xFF00081000 * 64) : (R.TMP_EVLOG_WORD k i).key ≠ f.key := by
  simp only [Fld.key, R.TMP_EVLOG_WORD] at h ⊢
  omega

theorem word_key_ne_seq (k i : Nat) : (R.TMP_EVLOG_WORD k i).key ≠ R.TMP_EVSEQ_SEQ.key := word_key_ne_of_lt k i (by decide)
theorem word_key_ne_cause (k i : Nat) : (R.TMP_EVLOG_WORD k i).key ≠ R.TMP_EVENTS_CAUSE.key := word_key_ne_of_lt k i (by decide)

theorem logPut_rest (k : Nat) (r : List Byte) :
    ({ s.logPut k r with regs := s.regs } : State) = s ∧ (s.logPut k r).tmp = s.tmp := foldSet_rest _

theorem logPut_get_word {k j : Nat} (hj : j < 8) (r : List Byte) :
    (s.logPut k r).get (R.TMP_EVLOG_WORD k j) = fld (r ++ toLE 4 (crc32 r)) (4 * j) 4 % 2 ^ 32 :=
  foldSet_get_range (F := fun i => R.TMP_EVLOG_WORD k i) hj fun _ hi hij => word_key_ne hi hj fun h => hij h.2

theorem logPut_get_other {k : Nat} {f : Fld} (h : ∀ i < 8, (R.TMP_EVLOG_WORD k i).key ≠ f.key) (r : List Byte) :
    (s.logPut k r).get f = s.get f :=
  foldSet_get_other (F := fun i => R.TMP_EVLOG_WORD k i) fun i hi => h i (List.mem_range.mp hi)

/-- The number that four bytes of a number give. -/
theorem ofLE_four (v : Nat) (bs : List Byte) : fld (toLE 4 v ++ bs) 0 4 = v % 2 ^ 32 := by
  have hcut : sliceB (toLE 4 v ++ bs) 0 4 = toLE 4 v := rfl
  rw [fld, hcut]
  simp only [toLE, ofLE, BitVec.toNat_ofNat]
  omega

section
variable {seq kind source mask state ts count dt detail : Nat}

theorem logBytes_seq (cs : List Byte) : fld (logBytes seq kind source mask state ts count dt detail ++ cs) 0 4 = seq % 2 ^ 32 := by
  simp only [logBytes, List.append_assoc]
  exact ofLE_four _ _

theorem logBytes_kind (cs : List Byte) (hkind : kind < 256) (hsource : source < 256) :
    fld (logBytes seq kind source mask state ts count dt detail ++ cs) 4 4 % 65536 = kind + source * 256 := by
  have hcut : sliceB (logBytes seq kind source mask state ts count dt detail ++ cs) 4 4 =
      [BitVec.ofNat 8 kind, BitVec.ofNat 8 source, BitVec.ofNat 8 mask, BitVec.ofNat 8 state] := rfl
  rw [fld, hcut]
  simp only [ofLE, BitVec.toNat_ofNat]
  omega

/-- A record is written at a position, counted and reported. -/
def State.recorded (s : State) (k : Nat) (r : List Byte) : State :=
  (((s.logPut k r).setTmp { s.tmp with logged := s.tmp.logged + 1 }).count R.TMP_EVSEQ_SEQ).tmpEvent 129

/-- A record at one of the first positions. -/
theorem logWrite_of_room (h : s.tmp.logged < 15) : (s.logWrite kind source mask state ts count dt detail).2 =
    s.recorded s.tmp.logged (logBytes (s.get R.TMP_EVSEQ_SEQ) kind source mask state ts count dt detail) := by
  have hplace : (if s.tmp.logged < 16 then s.tmp.logged else 16 + (s.tmp.logged - 16) % 48) = s.tmp.logged := if_pos (by omega)
  have hsecond : s.tmp.logged ≠ 15 := by omega
  simp only [State.logWrite, hplace, (logPut_rest _ _).2, if_neg hsecond, State.recorded]

end

section
variable {k : Nat} {r : List Byte}

theorem recorded_get_word {j : Nat} (hj : j < 8) :
    (s.recorded k r).get (R.TMP_EVLOG_WORD k j) = fld (r ++ toLE 4 (crc32 r)) (4 * j) 4 % 2 ^ 32 := by
  rw [State.recorded, State.tmpEvent, cause_get_other _ _ _ _ _ (word_key_ne_cause k j).symm,
    count_get_ne (word_key_ne_seq k j).symm, setTmp_get, logPut_get_word hj]

theorem recorded_get_seq : (s.recorded k r).get R.TMP_EVSEQ_SEQ = satInc 32 (s.get R.TMP_EVSEQ_SEQ) := by
  rw [State.recorded, State.tmpEvent, cause_get_other _ _ _ _ _ (by decide), count_get_same, setTmp_get,
    logPut_get_other fun i _ => word_key_ne_seq k i]
  rfl

theorem recorded_tmp : (s.recorded k r).tmp = { s.tmp with logged := s.tmp.logged + 1 } := rfl

/-- A record of a state `s` whose registers and tamper unit have changed already. -/
theorem recorded_rest {u : State} (h : ({ u with tmp := s.tmp, regs := s.regs } : State) = s) :
    ({ u.recorded k r with irq := s.irq, tmp := s.tmp, regs := s.regs } : State) = s := by
  have hput := congrArg (fun t : State => { t with irq := s.irq, tmp := s.tmp, regs := s.regs }) (logPut_rest (s := u) k r).1
  exact hput.trans (congrArg (fun t : State => { t with irq := s.irq }) h)

theorem recorded_get_other {f : Fld} (hseq : f.key ≠ R.TMP_EVSEQ_SEQ.key) (hcause : f.key ≠ R.TMP_EVENTS_CAUSE.key)
    (hword : ∀ i < 8, (R.TMP_EVLOG_WORD k i).key ≠ f.key) : (s.recorded k r).get f = s.get f := by
  rw [State.recorded, State.tmpEvent, cause_get_other _ _ _ _ _ (Ne.symm hcause), count_get_ne (Ne.symm hseq), setTmp_get,
    logPut_get_other hword]

end

/-- The record of a clear (R449). -/
def State.clearBytes (s : State) (detail : Nat) : List Byte :=
  logBytes (s.get R.TMP_EVSEQ_SEQ) 4 0xFF 0 (s.logState (s.get R.PWR_STATE_DEV)) (s.get R.TIME_TSTAMP_TICKS) 1 s.nowNs detail

theorem logClear_of_room (h : s.tmp.logged < 15) (detail : Nat) :
    s.logClear detail = s.recorded s.tmp.logged (s.clearBytes detail) := logWrite_of_room h

/-! ### Clears (R449) -/

theorem tmpUnlock_of_match {key seq : Nat} (hkey : key % 65536 = 0x6B1D) (hseq : seq % 65536 = s.get R.TMP_EVSEQ_SEQ % 65536) :
    s.tmpUnlock (key % 65536) (seq % 65536) = s.setTmp { s.tmp with unlocked := true } :=
  if_pos ⟨hkey, by rw [Nat.mod_mod, hseq]⟩

theorem tmpUnlock_of_mismatch {key seq : Nat} (h : key % 65536 ≠ 0x6B1D ∨ seq % 65536 ≠ s.get R.TMP_EVSEQ_SEQ % 65536) :
    s.tmpUnlock (key % 65536) (seq % 65536) = (s.setTmp { s.tmp with unlocked := false }).cause R.TMP_EVENTS_CAUSE 128 130 :=
  if_neg fun ⟨hkey, hseq⟩ => h.elim (· hkey) (· (by rwa [Nat.mod_mod] at hseq))

theorem flagsClear_of_locked (h : s.tmp.unlocked = false) (v : Nat) : s.flagsClear v = s.cause R.TMP_EVENTS_CAUSE 128 130 :=
  if_pos (by simp [h])

theorem evidenceClear_of_locked (h : s.tmp.unlocked = false) : s.evidenceClear = s.cause R.TMP_EVENTS_CAUSE 128 130 :=
  if_pos (by simp [h])

theorem setBits_two_pow : ∀ n ≤ 16, setBits 17 (2 ^ n) = [n] := by decide

/-- A number without one of its bits. -/
theorem sub_and_two_pow (v n : Nat) : v - (v &&& 2 ^ n) = pinsWith v n false := by
  rw [Nat.and_two_pow, pinsWith]
  cases v.testBit n
  · rw [if_pos rfl, Bool.toNat_false, Nat.zero_mul, Nat.sub_zero]
  · rw [if_neg (by decide), if_neg (by decide), Bool.toNat_true, Nat.one_mul]

/-- The state whose flag `n` is cleared, with its count and its tick, before the CLEAR record. -/
def State.unflagged (s : State) (n : Nat) : State :=
  (((s.setTmp { s.tmp with unlocked := false }).set (R.TMP_COUNT_COUNT n) 0).set (R.TMP_FIRST_TS_TICKS n) 0).set R.TMP_FLAGS_FLAG
    (pinsWith (s.get R.TMP_FLAGS_FLAG) n false)

theorem unflagged_get_other {n : Nat} {f : Fld} (hflags : f.key ≠ R.TMP_FLAGS_FLAG.key) (hcount : f.key ≠ (R.TMP_COUNT_COUNT n).key)
    (hfirst : f.key ≠ (R.TMP_FIRST_TS_TICKS n).key) : (s.unflagged n).get f = s.get f := by
  rw [State.unflagged, get_set_ne _ _ _ _ (Ne.symm hflags), get_set_ne _ _ _ _ (Ne.symm hfirst),
    get_set_ne _ _ _ _ (Ne.symm hcount), setTmp_get]

theorem unflagged_get (n : Nat) : ((s.unflagged n).get R.TMP_FLAGS_FLAG).testBit n = false ∧
    (s.unflagged n).get (R.TMP_COUNT_COUNT n) = 0 ∧ (s.unflagged n).get (R.TMP_FIRST_TS_TICKS n) = 0 := by
  refine ⟨?_, ?_, ?_⟩ <;> rw [State.unflagged]
  · rw [get_set_same, Nat.testBit_mod_two_pow, pinsWith_testBit, Bool.and_false]
  · rw [get_set_ne _ _ _ _ flags_ne_count.symm, get_set_ne _ _ _ _ first_ne_count, get_set_same, Nat.zero_mod]
  · rw [get_set_ne _ _ _ _ first_ne_flags.symm, get_set_same, Nat.zero_mod]

theorem flagsClear_of_unlocked {n : Nat} (h : s.tmp.unlocked = true) (hn : n ≤ 16) :
    s.flagsClear (2 ^ n) = (s.unflagged n).logClear (s.get R.TMP_FLAGS_FLAG &&& 2 ^ n) := by
  rw [State.flagsClear, if_neg (by simp [h])]
  dsimp only
  rw [setBits_two_pow n hn, sub_and_two_pow]
  rfl

/-- Every word of the log cleared. -/
def State.emptied (s : State) : State :=
  (List.range 512).foldl (fun s i => s.set (R.TMP_EVLOG_WORD (i / 8) (i % 8)) 0) s

theorem emptied_get_word {k j : Nat} (hk : k < 64) (hj : j < 8) : s.emptied.get (R.TMP_EVLOG_WORD k j) = 0 := by
  have hplace : R.TMP_EVLOG_WORD k j = R.TMP_EVLOG_WORD ((8 * k + j) / 8) ((8 * k + j) % 8) := by congr 1 <;> omega
  rw [hplace]
  refine (foldSet_get_range (F := fun i => R.TMP_EVLOG_WORD (i / 8) (i % 8)) (w := fun _ => 0) (by omega) fun i hi hij => ?_).trans
    (Nat.zero_mod _)
  exact word_key_ne (Nat.mod_lt _ (by decide)) (Nat.mod_lt _ (by decide)) (by omega)

theorem emptied_get_other {f : Fld} (h : f.key < 0xFF00081000 * 64) : s.emptied.get f = s.get f :=
  foldSet_get_other (F := fun i => R.TMP_EVLOG_WORD (i / 8) (i % 8)) fun _ _ => word_key_ne_of_lt _ _ h

theorem emptied_rest : ({ s.emptied with regs := s.regs } : State) = s ∧ s.emptied.tmp = s.tmp :=
  foldSet_rest (F := fun i => R.TMP_EVLOG_WORD (i / 8) (i % 8)) _

/-- The log with nothing in it, before the CLEAR record. -/
def State.cleared (s : State) : State := s.emptied.setTmp { s.tmp with unlocked := false, logged := 0, lastRec := [] }

theorem cleared_rest : ({ s.cleared with tmp := s.tmp, regs := s.regs } : State) = s := by
  have hrest := (emptied_rest (s := s)).1
  rw [State.cleared]
  generalize s.emptied = e at hrest ⊢
  exact congrArg (fun t : State => { t with tmp := s.tmp }) hrest

theorem evidenceClear_of_unlocked (h : s.tmp.unlocked = true) : s.evidenceClear = s.cleared.logClear (2 ^ 31) := by
  rw [State.evidenceClear, if_neg (by simp [h]), ← State.emptied]
  dsimp only
  rw [emptied_rest.2, State.cleared]

end Sys2Proof.Machine
end

section
set_option Elab.async false
namespace Sys2Proof.Machine

/-- Settles O44: each clear by whether it is armed. -/
theorem evidenceClearing : Obligations.EvidenceClearing := by
  unfold Obligations.EvidenceClearing
  intro s hruns
  refine ⟨?_, ?_, ?_, ?_, ?_, ?_⟩
  · exact fun key seq hkey hseq hkeep => next_of_keep hruns hkeep (tmpUnlock_of_match hkey hseq)
  · exact fun key seq h hkeep => next_of_keep hruns hkeep (tmpUnlock_of_mismatch h)
  · exact fun v hlocked hkeep => next_of_keep hruns hkeep (flagsClear_of_locked hlocked _)
  · intro n hn hunlocked hroom hkeep
    have hmod : 2 ^ n % 2 ^ 17 = 2 ^ n := Nat.mod_eq_of_lt (Nat.pow_lt_pow_right (by decide) (by omega))
    have hdo : s.flagsClear (2 ^ n % 2 ^ 17) =
        (s.unflagged n).recorded s.tmp.logged ((s.unflagged n).clearBytes (s.get R.TMP_FLAGS_FLAG &&& 2 ^ n)) := by
      rw [hmod, flagsClear_of_unlocked hunlocked hn]
      exact logClear_of_room (s := s.unflagged n) hroom _
    have hbelow {f : Fld} (hf : f.key < 0xFF00080300 * 64) (i : Nat) : (R.TMP_EVLOG_WORD s.tmp.logged i).key ≠ f.key :=
      word_key_ne_of_lt _ _ (by omega)
    have hcountKey : (R.TMP_COUNT_COUNT n).key < 0xFF00080200 * 64 ∧ 0xFF00080100 * 64 ≤ (R.TMP_COUNT_COUNT n).key := by
      simp only [Fld.key, R.TMP_COUNT_COUNT]
      omega
    have hfirstKey : (R.TMP_FIRST_TS_TICKS n).key < 0xFF00080300 * 64 ∧ 0xFF00080200 * 64 ≤ (R.TMP_FIRST_TS_TICKS n).key := by
      simp only [Fld.key, R.TMP_FIRST_TS_TICKS]
      omega
    have hseqKey : R.TMP_EVSEQ_SEQ.key < 0xFF00080100 * 64 := by decide
    have hcauseKey : R.TMP_EVENTS_CAUSE.key < 0xFF00080100 * 64 := by decide
    have hflagsKey : R.TMP_FLAGS_FLAG.key < 0xFF00080100 * 64 := by decide
    obtain ⟨hflag, hcount, hfirst⟩ := unflagged_get (s := s) n
    refine ⟨_, next_of_keep hruns hkeep hdo, ?_, ?_, ?_, rfl, rfl, ?_, ?_, fun f hf => ?_⟩
    · rwa [recorded_get_other (by decide) (by decide) fun i _ => hbelow (by omega) i]
    · rwa [recorded_get_other (by omega) (by omega) fun i _ => hbelow (by omega) i]
    · rwa [recorded_get_other (by omega) (by omega) fun i _ => hbelow hfirstKey.1 i]
    · rw [recorded_get_seq, unflagged_get_other (by decide) (by omega) (by omega)]
    · exact recorded_rest (u := s.unflagged n) rfl
    · simp only [List.mem_cons, List.not_mem_nil, or_false, not_or] at hf
      obtain ⟨hflags, hcount, hfirst, hseq, hcause, h0, h1, h2, h3, h4, h5, h6, h7⟩ := hf
      have hword (i : Nat) (hi : i < 8) : (R.TMP_EVLOG_WORD s.tmp.logged i).key ≠ f.key := by
        interval_cases i
        exacts [Ne.symm h0, Ne.symm h1, Ne.symm h2, Ne.symm h3, Ne.symm h4, Ne.symm h5, Ne.symm h6, Ne.symm h7]
      rw [recorded_get_other hseq hcause hword, unflagged_get_other hflags hcount hfirst]
  · exact fun hlocked hkeep => next_of_keep hruns hkeep (evidenceClear_of_locked hlocked)
  · intro hunlocked hkeep
    have hdo : s.evidenceClear = s.cleared.recorded 0 (s.cleared.clearBytes (2 ^ 31)) := by
      rw [evidenceClear_of_unlocked hunlocked]
      exact logClear_of_room (s := s.cleared) (show 0 < 15 by decide) _
    have hseq : s.cleared.get R.TMP_EVSEQ_SEQ = s.get R.TMP_EVSEQ_SEQ := by
      rw [State.cleared, setTmp_get, emptied_get_other (by decide)]
    have hempty {k j : Nat} (hk : k < 64) (hj : j < 8) (hne : k ≠ 0) :
        (s.cleared.recorded 0 (s.cleared.clearBytes (2 ^ 31))).get (R.TMP_EVLOG_WORD k j) = 0 := by
      rw [recorded_get_other (word_key_ne_seq k j) (word_key_ne_cause k j)
        fun i hi => word_key_ne hi hj fun h => hne h.1.symm]
      rw [State.cleared, setTmp_get, emptied_get_word hk hj]
    refine ⟨_, next_of_keep hruns hkeep hdo, rfl, ?_, ?_, hempty (by decide) (by decide) (by decide),
      hempty (by decide) (by decide) (by decide), ?_, ?_⟩
    · rw [recorded_get_word (by decide), State.clearBytes, logBytes_seq, hseq, Nat.mod_mod]
    · rw [recorded_get_word (by decide), State.clearBytes, Nat.mod_mod_of_dvd _ (by decide)]
      exact logBytes_kind _ (by decide) (by decide)
    · rw [recorded_get_seq, hseq]
    · exact recorded_rest cleared_rest

end Sys2Proof.Machine
end

section
set_option Elab.async false
/-!
PROOFS. The contactless tag: its field, the frames and blocks it answers, the custodian handshake and the tag key (R544, R550 to
R555, R560).
-/

namespace Sys2Proof.Machine

variable {s : State}

/-! ### The field (R544, R560) -/

theorem clfEvent_get_ne {f : Fld} (h : R.CLF_EVENTS_CAUSE.key ≠ f.key) (v : Nat) : (s.clfEvent v).get f = s.get f := by
  rw [State.clfEvent]
  split
  · exact cause_get_other _ _ _ _ _ h
  · rfl

theorem clfEvent_of_off (h : s.pwr.main ≠ .on) (v : Nat) : s.clfEvent v = s := if_neg h

theorem wake_of_disabled {k : Nat} (h : (s.get R.PWR_WAKE_EN_EN).testBit k = false) : s.wake k = s := if_pos (.inr (by simp [h]))

/-- FDET as a rise of the field leaves it. -/
def State.risen (s : State) : State :=
  (((s.setTag { s.tag with uid := s.tmp.lfsr % 2 ^ 24, phase := .idle }).set R.CLF_STATUS_FIELD 1).set R.CLF_FIELDS_COUNT
    (satInc 32 (s.get R.CLF_FIELDS_COUNT))).clfEvent 353

theorem risen_get_ne {f : Fld} (hfield : R.CLF_STATUS_FIELD.key ≠ f.key) (hcount : R.CLF_FIELDS_COUNT.key ≠ f.key)
    (hcause : R.CLF_EVENTS_CAUSE.key ≠ f.key) : s.risen.get f = s.get f := by
  rw [State.risen, clfEvent_get_ne hcause, get_set_ne _ _ _ _ hcount, get_set_ne _ _ _ _ hfield, setTag_get]

theorem risen_get_field : s.risen.get R.CLF_STATUS_FIELD = 1 := by
  rw [State.risen, clfEvent_get_ne (by decide), get_set_ne _ _ _ _ (by decide), get_set_same]
  rfl

theorem fieldRise_of_clear (hbedrock : s.pwr.bedrock = true) (hfield : s.get R.CLF_STATUS_FIELD = 0)
    (hcarrier : s.get R.CLF_STATUS_CARRIER = 0) : s.fieldRise = s.risen := by
  rw [State.fieldRise, if_neg (by simp [is_of_get_zero hfield, is_of_get_zero hcarrier, hbedrock]), State.count,
    get_set_ne _ _ _ _ (by decide), setTag_get]
  rfl

theorem fieldDetect_of_clear (hbedrock : s.pwr.bedrock = true) (hwake : (s.get R.PWR_WAKE_EN_EN).testBit 2 = false)
    (hfield : s.get R.CLF_STATUS_FIELD = 0) (hcarrier : s.get R.CLF_STATUS_CARRIER = 0) : s.fieldDetect = s.risen := by
  have hasleep : (s.risen.get R.PWR_WAKE_EN_EN).testBit 2 = false := by
    rw [risen_get_ne (by decide) (by decide) (by decide), hwake]
  rw [State.fieldDetect, fieldRise_of_clear hbedrock hfield hcarrier,
    if_neg (by simp [is_of_get_zero hfield, is_of_get_one risen_get_field]), wake_of_disabled hasleep]

theorem fdetFall_eq (h : s.get R.CLF_STATUS_FIELD = 1) : s.fdetFall = (s.tagLost.set R.CLF_STATUS_FIELD 0).clfEvent 353 :=
  if_pos (is_of_get_one h)

theorem tagSession_none : s.tagSession none = (s.setTag { s.tag with session := none }).set R.CLF_STATUS_TSESSION 0 := rfl

/-! ### Frames before the block protocol (R552) -/

section
variable (hon : s.tagOn = true)
include hon

theorem tagFrame_idle (hphase : s.tag.phase = .idle) {bs : List Byte} (hbs : bs = [0x26] ∨ bs = [0x52]) :
    s.tagFrame bs = s.setTag { s.tag with phase := .ready, wasHalted := false, out := [0x04, 0x00] } := by
  rw [State.tagFrame]
  dsimp only
  rw [if_neg (not_not.mpr hon), hphase]
  exact if_pos hbs

theorem tagFrame_halt (hphase : s.tag.phase = .halt) (bs : List Byte) : s.tagFrame bs =
    if bs = [0x52] then s.setTag { s.tag with phase := .ready, wasHalted := true, out := [0x04, 0x00] } else s.tagSay .halt [] := by
  rw [State.tagFrame]
  dsimp only
  rw [if_neg (not_not.mpr hon), hphase]

theorem tagFrame_ready (hphase : s.tag.phase = .ready) (nvb : Byte) (bs : List Byte) :
    s.tagFrame (0x93 :: nvb :: bs) = s.tagSelect nvb.toNat bs := by
  have hnvb : fld (0x93 :: nvb :: bs) 1 1 = nvb.toNat := fld_one _ 1 (by simp)
  rw [State.tagFrame]
  dsimp only
  rw [if_neg (not_not.mpr hon), hphase]
  exact (if_pos fld_pcb).trans (congrArg (s.tagSelect · bs) hnvb)

theorem tagFrame_rats (hphase : s.tag.phase = .active) {p : Byte} (hp : p.toNat % 16 = 0) : s.tagFrame [0xE0, p] =
    s.setTag { s.tag with phase := .iso, iso := { fsd := fsdSize (p.toNat / 16) }, out := [0x05, 0x78, 0x00, 0x80, 0x00] } := by
  have hfsdi : fld [0xE0, p] 1 1 = p.toNat := fld_one _ 1 (by simp)
  rw [State.tagFrame]
  dsimp only
  rw [if_neg (not_not.mpr hon), hphase]
  exact (if_pos ⟨rfl, hfsdi ▸ hp, rfl⟩).trans (by rw [hfsdi])

theorem tagFrame_hlta (hphase : s.tag.phase = .active) :
    s.tagFrame [0x50, 0x00] = s.setTag { s.tag with phase := .halt, out := [] } := by
  rw [State.tagFrame]
  dsimp only
  rw [if_neg (not_not.mpr hon), hphase]
  exact (if_neg (by decide)).trans (if_pos rfl)

theorem tagFrame_iso (hphase : s.tag.phase = .iso) (bs : List Byte) : s.tagFrame bs = s.isoFrame bs := by
  rw [State.tagFrame]
  dsimp only
  rw [if_neg (not_not.mpr hon), hphase]

end

theorem tagFrame_of_off (h : s.tagOn = false) (bs : List Byte) : s.tagFrame bs = s := if_pos (by simp [h])

/-- Bytes are those of their number. -/
theorem toLE_ofLE (bs : List Byte) : toLE bs.length (ofLE bs) = bs := by
  induction bs with
  | nil => rfl
  | cons b bs ih =>
    have hlow : BitVec.ofNat 8 (b.toNat + 256 * ofLE bs) = b := by
      apply BitVec.eq_of_toNat_eq
      rw [BitVec.toNat_ofNat, Nat.add_mul_mod_self_left, Nat.mod_eq_of_lt b.isLt]
    have hhigh : (b.toNat + 256 * ofLE bs) / 256 = ofLE bs := by
      have hb := b.isLt
      omega
    rw [List.length_cons, ofLE, toLE, hlow, hhigh, ih]

/-- ANTICOLLISION with no bit of the UID: it is answered whole. -/
theorem tagSelect_none : s.tagSelect 0x20 [] = s.tagSay .ready s.tagUid := by
  have hlength : s.tagUid.length = 5 := rfl
  have hall : toLE 5 (ofLE s.tagUid / 2 ^ 0 * 2 ^ 0) = s.tagUid := by
    rw [Nat.pow_zero, Nat.div_one, Nat.mul_one, ← hlength, toLE_ofLE]
  rw [State.tagSelect]
  refine (if_neg (by simp)).trans ((if_pos ⟨by decide, by decide, by decide, rfl, ?_⟩).trans ?_)
  · exact congrArg (s.tagSay .ready) hall
  · exact (Nat.mod_one _).trans (Nat.mod_one _).symm

theorem tagSelect_whole (bs : List Byte) : s.tagSelect 0x70 bs =
    if bs = s.tagUid then s.tagSay .active [0x20] else s.tagSay (if s.tag.wasHalted then .halt else .idle) [] := by
  rw [State.tagSelect]
  by_cases h : bs = s.tagUid
  · rw [if_pos ⟨rfl, h⟩, if_pos h]
  · rw [if_neg fun hboth => h hboth.2, if_neg fun hsome => absurd hsome.2.1 (by decide), if_neg h]

/-! ### Blocks (ISO/IEC 14443-4 as the model reads it) -/

section
variable {pcb : Byte} {inf : List Byte}

theorem pcb_and {m v : Byte} (h : pcb &&& m = v) : pcb.toNat &&& m.toNat = v.toNat := by rw [← h, BitVec.toNat_and]

theorem isoFrame_deselect : s.isoFrame [0xC2] = (s.tagSession none).tagSay .halt [0xC2] := by
  rw [State.isoFrame]
  exact if_pos rfl

theorem isoFrame_chained (hpcb : pcb &&& 0xFE = 0x12) (hlength : inf.length ≤ 253) : s.isoFrame (pcb :: inf) =
    s.isoSay { s.tag.iso with bn := 1 - s.tag.iso.bn, rx := s.tag.iso.rx ++ inf, left := [] }
      [BitVec.ofNat 8 (0xA2 + (1 - s.tag.iso.bn))] := by
  have hshort : (pcb :: inf).length ≠ 0 ∧ (pcb :: inf).length ≤ 254 := ⟨by simp, Nat.succ_le_succ hlength⟩
  rw [State.isoFrame]
  dsimp only
  rw [fld_pcb]
  obtain rfl | rfl := pcb_cases hpcb rfl <;>
    exact (if_neg (by simp)).trans ((if_pos ⟨hshort.1, hshort.2, by decide⟩).trans (if_pos (by decide)))

theorem isoFrame_last (hpcb : pcb &&& 0xFE = 0x02) (hlength : inf.length ≤ 253) : s.isoFrame (pcb :: inf) =
    (s.tagRun (s.tag.iso.rx ++ inf)).isoBlock { s.tag.iso with
      bn := 1 - s.tag.iso.bn, rx := [], left := (s.tagRun (s.tag.iso.rx ++ inf)).tag.out } := by
  have hshort : (pcb :: inf).length ≠ 0 ∧ (pcb :: inf).length ≤ 254 := ⟨by simp, Nat.succ_le_succ hlength⟩
  rw [State.isoFrame]
  dsimp only
  rw [fld_pcb]
  obtain rfl | rfl := pcb_cases hpcb rfl <;>
    exact (if_neg (by simp)).trans ((if_pos ⟨hshort.1, hshort.2, by decide⟩).trans (if_neg (by decide)))

/-- R(ACK) and R(NAK): what is sent depends on the block number they carry. -/
theorem isoFrame_of_r (hpcb : pcb &&& 0xEE = 0xA2) : s.isoFrame [pcb] =
    if pcb.toNat % 2 = s.tag.iso.bn then s.setTag { s.tag with out := s.tag.iso.last }
    else if pcb.toNat.testBit 4 then s.isoSay s.tag.iso [BitVec.ofNat 8 (0xA2 + s.tag.iso.bn)]
    else if s.tag.iso.left.isEmpty then s.setTag { s.tag with out := [] }
    else s.isoBlock { s.tag.iso with bn := 1 - s.tag.iso.bn } := by
  have hmask : pcb.toNat &&& 0xEE = 0xA2 := pcb_and hpcb
  have hother : [pcb] ≠ [0xC2] := by
    rintro h
    obtain rfl : pcb = 0xC2 := List.head_eq_of_cons_eq h
    exact absurd hpcb (by decide)
  rw [State.isoFrame]
  dsimp only
  rw [if_neg hother, fld_pcb, if_neg (by simp [hmask]), if_pos ⟨rfl, hmask⟩]

theorem isoFrame_again (hpcb : pcb &&& 0xEE = 0xA2) (hbn : pcb.toNat % 2 = s.tag.iso.bn) :
    s.isoFrame [pcb] = s.setTag { s.tag with out := s.tag.iso.last } := by rw [isoFrame_of_r hpcb, if_pos hbn]

theorem isoFrame_nak (hpcb : pcb &&& 0xFE = 0xB2) (hbn : pcb.toNat % 2 ≠ s.tag.iso.bn) :
    s.isoFrame [pcb] = s.isoSay s.tag.iso [BitVec.ofNat 8 (0xA2 + s.tag.iso.bn)] := by
  obtain rfl | rfl := pcb_cases hpcb rfl <;>
    rw [isoFrame_of_r (by decide), if_neg hbn, if_pos (by decide)]

theorem isoFrame_ack (hpcb : pcb &&& 0xFE = 0xA2) (hbn : pcb.toNat % 2 ≠ s.tag.iso.bn) (hleft : s.tag.iso.left ≠ []) :
    s.isoFrame [pcb] = s.isoBlock { s.tag.iso with bn := 1 - s.tag.iso.bn } := by
  have hmore : ¬ s.tag.iso.left.isEmpty = true := by simpa using hleft
  obtain rfl | rfl := pcb_cases hpcb rfl <;>
    rw [isoFrame_of_r (by decide), if_neg hbn, if_neg (by decide), if_neg hmore]

end

/-- An I-block of a chain, or its last. -/
theorem isoBlock_out (k : IsoDep) : (s.isoBlock k).tag.out =
    BitVec.ofNat 8 (2 + k.bn + (if k.left.drop (k.fsd - 3) = [] then 0 else 16)) :: k.left.take (k.fsd - 3) := by
  have hmore : b2n (!(k.left.drop (k.fsd - 3)).isEmpty) * 0x10 = if k.left.drop (k.fsd - 3) = [] then 0 else 16 := by
    cases k.left.drop (k.fsd - 3) <;> rfl
  rw [← hmore]
  rfl

/-- What fits in a frame is sent whole. -/
theorem isoBlock_out_of_short {k : IsoDep} (h : k.left.length ≤ k.fsd - 3) :
    (s.isoBlock k).tag.out = BitVec.ofNat 8 (2 + k.bn) :: k.left := by
  rw [isoBlock_out, List.drop_eq_nil_of_le h, List.take_of_length_le h]
  rfl

/-! ### Pages in clear (R555 to R557) -/

theorem length_flatMap_range {n m : Nat} {f : Nat → List Byte} (h : ∀ i < n, (f i).length = m) :
    ((List.range n).flatMap f).length = n * m := by
  rw [List.length_flatMap, List.map_congr_left fun i hi => h i (List.mem_range.mp hi)]
  simp

theorem length_logRecord (k : Nat) : (s.logRecord k).length = 32 := length_flatMap_range fun _ _ => length_toLE _ _

theorem length_evidenceHead : s.evidenceHead.length = 128 := by
  have hcounts : ((List.range 17).flatMap fun n => toLE 2 (s.get (R.TMP_COUNT_COUNT n))).length = 34 :=
    length_flatMap_range fun _ _ => length_toLE _ _
  simp only [State.evidenceHead, State.devIdHeld, List.length_append, length_toLE, hcounts, zeros, List.length_replicate,
    List.length_cons, List.length_nil]

theorem length_ringRecord {l : List (List Byte)} (hl : ∀ r ∈ l, r.length = 32) (i : Nat) : (l.getD i (zeros 32)).length = 32 := by
  rw [List.getD_eq_getElem?_getD]
  cases h : l[i]? with
  | none => rfl
  | some r => exact hl r (List.mem_of_getElem? h)

theorem length_ringRecords {r : List Byte} (h : r ∈ s.ringRecords) : r.length = 32 := by
  obtain ⟨hmem, -⟩ := List.mem_filter.mp h
  obtain ⟨i, -, rfl⟩ := List.mem_map.mp hmem
  exact length_logRecord _

/-- A page of the evidence window has 128 bytes. -/
theorem length_tagPage {p : Nat} (h : p < 16) : (s.tagPage p).length = 128 := by
  rw [State.tagPage, if_pos h, State.evidencePage]
  split
  · exact length_evidenceHead
  split
  · exact length_flatMap_range fun _ _ => length_logRecord _
  · exact length_flatMap_range (n := 4) (m := 32) fun i _ =>
      length_ringRecord (fun r hr => length_ringRecords (List.mem_of_mem_drop hr)) _

/-- A tag that answers APDUs. -/
abbrev State.tagTalks (s : State) : Prop := s.tagOn = true ∧ s.tag.phase = .iso

theorem tagRead_clear (h : s.tagTalks) {p : Nat} (hp : p < 16) :
    s.tagRead 0x80 p 0 [] (some 0x80) = s.tagAnswer (s.tagPage p) 0x9000 := by
  rw [State.tagRead, State.tagApdu, if_neg (not_not.mpr h), if_pos rfl, if_neg Bool.false_ne_true]
  dsimp only
  rw [if_neg (by simp), if_neg (by omega), if_neg (by omega)]

theorem tagRun_read (p : Byte) : s.tagRun [0x80, 0xB0, p, 0, 0x80] = s.tagRead 0x80 p.toNat 0 [] (some 0x80) := by
  have hp : fld [0x80, 0xB0, p, 0, 0x80] 2 1 = p.toNat := fld_one _ 2 (by simp)
  rw [State.tagRun]
  dsimp only
  rw [hp]
  rfl

/-! ### The custodian handshake (R550, R554) -/

section
variable {data jitter : List Byte} (htalks : s.tagTalks) (hlength : data.length = 16)
include htalks hlength

theorem tagAuthBegin_eq : s.tagAuthBegin 0x80 0 0 data (some 0x28) jitter =
    if s.tag.key = [] ∨ (s.get R.TMP_PENDING_RESP).testBit 5 ∨ s.tagBackoff then s.tagAnswer [] 0x6983
    else (s.setTag { s.tag with
      c := (s.tag.c + 1) % 2 ^ 64
      hand := some (data, badgeMac s.tag.key 4 (toLE 8 ((s.tag.c + 1) % 2 ^ 64)) (fitBytes 16 jitter) []) }).tagAnswer
        (badgeMac s.tag.key 4 (toLE 8 ((s.tag.c + 1) % 2 ^ 64)) (fitBytes 16 jitter) [] ++ s.devIdHeld ++ badgeMac s.tag.key 1 data
          (badgeMac s.tag.key 4 (toLE 8 ((s.tag.c + 1) % 2 ^ 64)) (fitBytes 16 jitter) []) s.devIdHeld) 0x9000 := by
  rw [State.tagAuthBegin, if_neg (not_not.mpr htalks), if_neg (by simp), if_neg (by simp [hlength]), if_neg (by simp)]

theorem tagAuthFinish_eq {ri rr : List Byte} (hhand : s.tag.hand = some (ri, rr)) : s.tagAuthFinish 0x80 0 0 data =
    if s.tag.key ≠ [] ∧ data = badgeMac s.tag.key 2 rr ri s.devIdHeld then
      ((s.setTag { s.tag with hand := none }).tagSession
        (some { sk := badgeMac s.tag.key 3 ri rr [], rnd := ri.take 8 })).tagAnswer [] 0x9000
    else ((((s.setTag { s.tag with hand := none, backoff := s.get R.TIME_TSTAMP_TICKS }).set R.CLF_STATUS_BACKOFF 1).set
      R.CLF_AUTHFAIL_COUNT (satInc 16 (s.get R.CLF_AUTHFAIL_COUNT))).clfEvent 356).tagAnswer [] 0x6982 := by
  have hcount : (((s.setTag { s.tag with hand := none, backoff := s.get R.TIME_TSTAMP_TICKS }).set R.CLF_STATUS_BACKOFF 1).count
      R.CLF_AUTHFAIL_COUNT) = ((s.setTag { s.tag with hand := none, backoff := s.get R.TIME_TSTAMP_TICKS }).set
        R.CLF_STATUS_BACKOFF 1).set R.CLF_AUTHFAIL_COUNT (satInc 16 (s.get R.CLF_AUTHFAIL_COUNT)) := by
    rw [State.count, get_set_ne _ _ _ _ (by decide), setTag_get]
    rfl
  rw [← hcount, State.tagAuthFinish, if_neg (not_not.mpr htalks), if_neg (by simp), if_neg (by simp [hlength]),
    if_neg (by simp)]
  dsimp only
  rw [hhand]
  rfl

end

theorem tagBackoff_of_clear (h : s.get R.CLF_STATUS_BACKOFF = 0) : s.tagBackoff = false := by
  rw [State.tagBackoff, is_of_get_zero h, Bool.false_and]

theorem tagBackoff_of_running (h : s.get R.CLF_STATUS_BACKOFF = 1) (hrun : s.get R.TIME_TSTAMP_TICKS < s.tag.backoff + 32768) :
    s.tagBackoff = true := by
  rw [State.tagBackoff, is_of_get_one h, decide_eq_true hrun]
  rfl

theorem tagBackoffEnd_of_past (h : s.tag.backoff + 32768 ≤ s.get R.TIME_TSTAMP_TICKS) :
    s.tagBackoffEnd = s.set R.CLF_STATUS_BACKOFF 0 := if_neg (Nat.not_lt.mpr h)

/-! ### The tag key (R553) -/

theorem tagKeyLoadEnd_of_load {i : Nat} (h : s.tag.load = some i) : s.tagKeyLoadEnd =
    (match (s.setTag { s.tag with load := none }).keyRead 0 i with
    | (some m, t) => if m.alg = 1 ∧ m.usage = 3 then
        (((t.setTag { t.tag with key := m.key }).set R.CLF_TKEY_STATUS_LOADED 1).set R.CLF_TKEY_STATUS_CODE 0).clfEvent 357
      else (t.set R.CLF_TKEY_STATUS_CODE 0x0807).clfEvent 357
    | (none, t) => (t.set R.CLF_TKEY_STATUS_CODE 0x0807).clfEvent 357) := by
  rw [State.tagKeyLoadEnd, h]
  dsimp only
  rcases (s.setTag { s.tag with load := none }).keyRead 0 i with ⟨m | m, t⟩ <;> rfl

end Sys2Proof.Machine
end

section
set_option Elab.async false
namespace Sys2Proof.Machine

/-- Settles O59: each frame by the phase of the protocol, each block by its first byte, and each step of the handshake. -/
theorem badgeTag : Obligations.BadgeTag := by
  unfold Obligations.BadgeTag
  intro s none_ sw id uid bcc
  have hphase {p : TagPhase} (h : s.tag.phase = p) (out : List Byte) :
      s.tagSay p out = s.setTag { s.tag with out := out } := by rw [State.tagSay, ← h]
  refine ⟨?_, ?_, ?_, ?_, ?_, ?_, ?_, ?_, ?_, ?_, ?_, ?_, ?_, ?_, ?_, ?_, ?_, ?_, ?_, ?_, ?_, ?_, ?_, ?_⟩
  · exact fun ⟨hbedrock, hwake⟩ ⟨hfield, hcarrier⟩ =>
      congrArg Host.Outcome.next (fieldDetect_of_clear hbedrock hwake hfield hcarrier)
  · exact fun hfield => congrArg Host.Outcome.next (fdetFall_eq hfield)
  · rfl
  · exact fun bs ⟨hon, hidle⟩ hbs => congrArg Host.Outcome.next (tagFrame_idle hon hidle hbs)
  · exact fun ⟨hon, hhalt⟩ => congrArg Host.Outcome.next
      ((tagFrame_halt hon hhalt _).trans ((if_neg (by decide)).trans (hphase hhalt [])))
  · exact fun ⟨hon, hhalt⟩ => congrArg Host.Outcome.next ((tagFrame_halt hon hhalt _).trans (if_pos rfl))
  · exact fun ⟨hon, hready⟩ => congrArg Host.Outcome.next ((tagFrame_ready hon hready _ _).trans tagSelect_none)
  · intro bs ⟨hon, hready⟩ _
    refine congrArg Host.Outcome.next ((tagFrame_ready hon hready _ _).trans ((tagSelect_whole bs).trans ?_))
    rw [show uid ++ [bcc] = s.tagUid from rfl]
    by_cases h : bs = s.tagUid
    · simp only [if_pos h]
      rfl
    · simp only [if_neg h]
      rfl
  · exact fun p ⟨hon, hactive⟩ hp => congrArg Host.Outcome.next (tagFrame_rats hon hactive hp)
  · exact fun ⟨hon, hactive⟩ => congrArg Host.Outcome.next (tagFrame_hlta hon hactive)
  · exact fun ⟨hon, hiso⟩ => congrArg Host.Outcome.next ((tagFrame_iso hon hiso _).trans isoFrame_deselect)
  · exact fun pcb inf ⟨hon, hiso⟩ ⟨hpcb, hlength⟩ =>
      congrArg Host.Outcome.next ((tagFrame_iso hon hiso _).trans (isoFrame_chained hpcb hlength))
  · exact fun pcb ⟨hon, hiso⟩ ⟨hpcb, hbn⟩ => congrArg Host.Outcome.next ((tagFrame_iso hon hiso _).trans (isoFrame_again hpcb hbn))
  · exact fun pcb ⟨hon, hiso⟩ ⟨hpcb, hbn⟩ => congrArg Host.Outcome.next ((tagFrame_iso hon hiso _).trans (isoFrame_nak hpcb hbn))
  · exact fun pcb ⟨hon, hiso⟩ ⟨hpcb, hbn, hleft⟩ =>
      ⟨_, congrArg Host.Outcome.next ((tagFrame_iso hon hiso _).trans (isoFrame_ack hpcb hbn hleft)), rfl, rfl, isoBlock_out _, rfl,
        rfl⟩
  · intro pcb p ⟨hon, hiso, hrx, hfsd⟩ ⟨hpcb, hp⟩
    have hrun : s.tagRun (s.tag.iso.rx ++ [0x80, 0xB0, p, 0, 0x80]) = s.tagAnswer (s.tagPage p.toNat) 0x9000 := by
      rw [hrx, List.nil_append, tagRun_read, tagRead_clear ⟨hon, hiso⟩ hp]
    have hlast := isoFrame_last (s := s) (inf := [0x80, 0xB0, p, 0, 0x80]) hpcb (by simp)
    rw [hrun] at hlast
    refine ⟨_, congrArg Host.Outcome.next ((tagFrame_iso hon hiso _).trans hlast), rfl, ?_, rfl⟩
    refine isoBlock_out_of_short ?_
    rw [show (s.tagAnswer (s.tagPage p.toNat) 0x9000).tag.out = s.tagPage p.toNat ++ [0x90, 0x00] from rfl, List.length_append,
      length_tagPage hp, hfsd]
    decide
  · exact fun bs hoff => congrArg Host.Outcome.next (tagFrame_of_off hoff bs)
  · intro data jitter htalks hlength ⟨hkey, hpending, hbackoff⟩
    have hready : ¬ (s.tag.key = [] ∨ (s.get R.TMP_PENDING_RESP).testBit 5 = true ∨ s.tagBackoff = true) := by
      simp [hkey, hpending, tagBackoff_of_clear hbackoff]
    exact ⟨_, congrArg Host.Outcome.next ((tagAuthBegin_eq htalks hlength).trans (if_neg hready)), rfl, rfl, rfl, rfl⟩
  · intro data jitter htalks hlength h
    refine congrArg Host.Outcome.next ((tagAuthBegin_eq htalks hlength).trans (if_pos ?_))
    exact h.imp_right (Or.imp_right fun hrun => tagBackoff_of_running hrun.1 hrun.2)
  · intro data ri rr htalks ⟨hlength, hkey⟩ hhand
    refine ⟨_, congrArg Host.Outcome.next (tagAuthFinish_eq htalks hlength hhand), fun hmac => ?_, fun hmac => ?_⟩
    · exact if_pos ⟨hkey, hmac⟩
    · exact if_neg fun hboth => hmac hboth.2
  · exact fun hpast => congrArg Host.Outcome.next (tagBackoffEnd_of_past hpast)
  · intro i hruns hi hkeep
    refine next_of_keep hruns hkeep ?_
    rw [Nat.mod_eq_of_lt hi]
    rfl
  · exact fun i hruns hload => next_of_runs hruns (tagKeyLoadEnd_of_load hload)
  · exact fun hruns hkeep => next_of_keep hruns hkeep rfl

end Sys2Proof.Machine
end

section
set_option Elab.async false
/-!
PROOFS. The contactless tag: its APDUs under the session, and the mailbox's hand-overs at the bedrock edge (R551, R555 to R560).
-/

namespace Sys2Proof.Machine

variable {s : State}

/-! ### A command of the tag (R551, R555) -/

section
variable {ins p1 p2 : Nat} {data pt : List Byte} {needs : Bool} {f : State → Bool → List Byte → TagRes} {b : Badge}
  (htalks : s.tagTalks)
include htalks

theorem tagApdu_clear : s.tagApdu ins 0x80 p1 p2 data true f = s.tagAnswer [] 0x6982 := by
  rw [State.tagApdu, if_neg (not_not.mpr htalks), if_pos rfl, if_pos rfl]

theorem tagRead_later : s.tagRead 0x80 16 0 [] (some 0x80) = s.tagAnswer [] 0x6982 := by
  rw [State.tagRead, State.tagApdu, if_neg (not_not.mpr htalks), if_pos rfl, if_neg Bool.false_ne_true]
  rfl

variable (hsession : s.tag.session = some b)
include hsession

/-- A command that fails its tag ends the session. -/
theorem tagApdu_unopened (hopen : ccmOpen b.sk (badgeNonce 1 b.ci b.rnd)
      [0x84, BitVec.ofNat 8 ins, BitVec.ofNat 8 p1, BitVec.ofNat 8 p2] data = none) :
    s.tagApdu ins 0x84 p1 p2 data needs f = (s.tagSession none).tagAnswer [] 0x6988 := by
  rw [State.tagApdu, if_neg (not_not.mpr htalks), if_neg (by decide), if_pos rfl, hsession]
  dsimp only
  rw [hopen]

variable (hopen : ccmOpen b.sk (badgeNonce 1 b.ci b.rnd)
  [0x84, BitVec.ofNat 8 ins, BitVec.ofNat 8 p1, BitVec.ofNat 8 p2] data = some pt) {d : List Byte} {w : Nat} {t : State}
  (hf : f s true pt = { data := d, sw := w, st := t })
include hopen hf

theorem tagApdu_opened : s.tagApdu ins 0x84 p1 p2 data needs f =
    (if t.tag.session.isSome ∧ ¬ Badge.over? { b with ci := b.ci + 1, cr := b.cr + 1 } then
      t.tagSession (some { b with ci := b.ci + 1, cr := b.cr + 1 })
    else t.tagSession none).tagAnswer
      (ccmSeal b.sk (badgeNonce 2 b.cr b.rnd) [0x84, BitVec.ofNat 8 ins, BitVec.ofNat 8 p1, BitVec.ofNat 8 p2]
        (d ++ toBE 2 w)) 0x9000 := by
  rw [State.tagApdu, if_neg (not_not.mpr htalks), if_neg (by decide), if_pos rfl, hsession]
  dsimp only
  rw [hopen]
  dsimp only
  rw [hf]

/-- A command that keeps the session is counted, and its answer is sealed. -/
theorem tagApdu_kept (hkept : t.tag.session = some b) (hci : b.ci < 0xFFFFFFFE) (hcr : b.cr < 0xFFFFFFFE) :
    s.tagApdu ins 0x84 p1 p2 data needs f = (t.tagSession (some { b with ci := b.ci + 1, cr := b.cr + 1 })).tagAnswer
      (ccmSeal b.sk (badgeNonce 2 b.cr b.rnd) [0x84, BitVec.ofNat 8 ins, BitVec.ofNat 8 p1, BitVec.ofNat 8 p2]
        (d ++ toBE 2 w)) 0x9000 := by
  have hgoes : ¬ Badge.over? { b with ci := b.ci + 1, cr := b.cr + 1 } = true := by
    simp only [Badge.over?, Bool.or_eq_true, beq_iff_eq]
    omega
  rw [tagApdu_opened htalks hsession hopen hf, hkept, if_pos ⟨rfl, hgoes⟩]

/-- The answer of the command that ends the session is sealed under it. -/
theorem tagApdu_ended (hended : t.tag.session = none) :
    s.tagApdu ins 0x84 p1 p2 data needs f = (t.tagSession none).tagAnswer
      (ccmSeal b.sk (badgeNonce 2 b.cr b.rnd) [0x84, BitVec.ofNat 8 ins, BitVec.ofNat 8 p1, BitVec.ofNat 8 p2]
        (d ++ toBE 2 w)) 0x9000 := by
  rw [tagApdu_opened htalks hsession hopen hf, hended, if_neg (by simp)]

end

theorem tagSession_none_get : (s.tagSession none).get R.CLF_STATUS_TSESSION = 0 := by
  rw [tagSession_none, get_set_same]
  rfl

theorem fieldSide_of_none (h : s.tag.asked = []) : s.fieldSide = s := by rw [State.fieldSide, h]; rfl

theorem fillBuf_of_free (h : (s.get R.CLF_MBOX_IN_OWN).testBit (s.get R.CLF_MBOX_FILL) = false) :
    s.fillBuf = some (s.get R.CLF_MBOX_FILL) := if_neg (by simp [h])

/-! ### The monitors of a bedrock tick leave the tag as it is (R432, R433, R444) -/

/-- Nothing but the tamper block, the power record's other parts and the free values differ. -/
structure State.Monitored (s t : State) : Prop where
  tag : t.tag = s.tag
  main : t.pwr.main = s.pwr.main
  get : ∀ f : Fld, 0xFF00081000 ≤ f.addr → t.get f = s.get f

namespace State.Monitored

variable {t u : State}

theorem refl (s : State) : s.Monitored s := ⟨rfl, rfl, fun _ _ => rfl⟩

theorem trans (h : s.Monitored t) (h' : t.Monitored u) : s.Monitored u :=
  ⟨h'.tag.trans h.tag, h'.main.trans h.main, fun f hf => (h'.get f hf).trans (h.get f hf)⟩

theorem setTmp (h : s.Monitored t) (k : Tmp) : s.Monitored (t.setTmp k) := ⟨h.tag, h.main, h.get⟩

theorem pinLevel (h : s.Monitored t) (n : Nat) (fault : Bool) : s.Monitored (t.pinLevel n fault) := h.setTmp _

theorem set (h : s.Monitored t) {g : Fld} (hlo : g.lo < 64) (hg : g.addr < 0xFF00081000) (v : Nat) : s.Monitored (t.set g v) := by
  refine ⟨h.tag, h.main, fun f hf => (get_set_ne _ _ _ _ fun hkey => ?_).trans (h.get f hf)⟩
  simp only [Fld.key] at hkey
  omega

theorem marked (h : s.Monitored t) {n : Nat} (hn : n ≤ 16) : s.Monitored (t.marked n) := by
  have hfirst : (R.TMP_FIRST_TS_TICKS n).addr < 0xFF00081000 := by simp only [R.TMP_FIRST_TS_TICKS]; omega
  have hcount : (R.TMP_COUNT_COUNT n).addr < 0xFF00081000 := by simp only [R.TMP_COUNT_COUNT]; omega
  have hlo : ∀ f ∈ [R.TMP_FIRST_TS_TICKS n, R.TMP_COUNT_COUNT n], f.lo < 64 := by
    simp [R.TMP_FIRST_TS_TICKS, R.TMP_COUNT_COUNT]
  rw [State.marked]
  refine set (set ?_ (by decide) (by decide) _) (hlo _ (by simp)) hcount _
  split
  · exact h
  · exact h.set (hlo _ (by simp)) hfirst _

theorem tamper (h : s.Monitored t) {n : Nat} (hn : n ≤ 16) (detail : Nat) : s.Monitored (t.tamper n detail) := by
  rw [tamper_eq]
  split
  · exact (h.marked hn).setTmp _
  · exact ((h.marked hn).setTmp _).set (by decide) (by decide) _

theorem tamperIf (h : s.Monitored t) {n : Nat} (hn : n ≤ 16) (c : Bool) (detail : Nat) : s.Monitored (t.tamperIf c n detail) := by
  rw [State.tamperIf]
  split
  · exact h.tamper hn detail
  · exact h

theorem lostEdge (h : s.Monitored t) : s.Monitored t.lostEdge := by
  rw [State.lostEdge]
  split
  · refine tamper ?_ (Nat.le_refl 16) 0
    exact ⟨h.tag, h.main, h.get⟩
  · exact h

theorem meshFires (h : s.Monitored t) (m : Nat) : s.Monitored (t.meshFires m) :=
  (((((h.setTmp _).pinLevel _ _).pinLevel _ _).pinLevel _ _).tamperIf (by decide) _ _).tamperIf (by decide) _ _
    |>.tamperIf (by decide) _ _

theorem meshTick (h : s.Monitored t) : s.Monitored t.meshTick := by
  rw [State.meshTick]
  dsimp only
  split_ifs
  · exact h.setTmp _
  · exact (h.setTmp _).meshFires _
  · exact (h.setTmp _).setTmp _
  · exact h.setTmp _

theorem caseTick (h : s.Monitored t) : s.Monitored t.caseTick :=
  (((h.tamperIf (n := 3 + 0) (by decide) _ _).tamperIf (n := 3 + 1) (by decide) _ _).tamperIf (n := 3 + 2) (by decide) _ _).tamperIf
    (n := 3 + 3) (by decide) _ _

end State.Monitored

/-- A bedrock tick before the mailbox's hand-overs: the monitors, and TSTAMP. -/
def State.ticked (s : State) : State :=
  s.lostEdge.meshTick.caseTick.set R.TIME_TSTAMP_TICKS (s.lostEdge.meshTick.caseTick.get R.TIME_TSTAMP_TICKS + 1)

theorem monitored : s.Monitored s.lostEdge.meshTick.caseTick := (State.Monitored.refl s).lostEdge.meshTick.caseTick

theorem ticked_tag : s.ticked.tag = s.tag := (monitored (s := s)).tag

theorem ticked_main : s.ticked.pwr.main = s.pwr.main := (monitored (s := s)).main

theorem ticked_get {f : Fld} (hf : 0xFF00081000 ≤ f.addr) (hne : R.TIME_TSTAMP_TICKS.key ≠ f.key) : s.ticked.get f = s.get f :=
  (get_set_ne _ _ _ _ hne).trans ((monitored (s := s)).get f hf)

theorem ticked_tstamp (h : s.get R.TIME_TSTAMP_TICKS < 2 ^ 48 - 1) :
    s.ticked.get R.TIME_TSTAMP_TICKS = s.get R.TIME_TSTAMP_TICKS + 1 := by
  rw [State.ticked, get_set_same, (monitored (s := s)).get _ (by decide)]
  exact Nat.mod_eq_of_lt (show _ < 2 ^ 48 by omega)

theorem bedrockTick_of_bedrock (h : s.pwr.bedrock = true) :
    s.bedrockTick = if s.is R.CLK_XTAL_ONRC then s.ticked.mboxEdge.set R.CLK_XTAL_RCLATCH 1 else s.ticked.mboxEdge :=
  if_neg (by simp [h])

theorem bedrockTick_tag (h : s.pwr.bedrock = true) : s.bedrockTick.tag = s.ticked.mboxEdge.tag := by
  rw [bedrockTick_of_bedrock h]
  split <;> rfl

theorem bedrockTick_get (h : s.pwr.bedrock = true) {f : Fld} (hf : R.CLK_XTAL_RCLATCH.key ≠ f.key) :
    s.bedrockTick.get f = s.ticked.mboxEdge.get f := by
  rw [bedrockTick_of_bedrock h]
  split
  · exact get_set_ne _ _ _ _ hf
  · rfl

/-- With no command waiting and main power off, a step is one bedrock tick. -/
theorem step_of_off (hpending : s.pending = []) (hoff : s.mainOn = false) : step s = .next s.bedrockTick := by
  rw [step, hpending]
  exact congrArg Host.Outcome.next (if_neg (by simp [hoff]))

/-! ### The mailbox's memory and headers (R558, R559) -/

theorem tagPut_append (off : Nat) (bs : List Byte) (b : Byte) :
    (s.tagPut off (bs ++ [b])).tag.mem = tabSet 0 (s.tagPut off bs).tag.mem (off + bs.length) b := by
  have hzip : (List.range (bs ++ [b]).length).zip (bs ++ [b]) = (List.range bs.length).zip bs ++ [(bs.length, b)] := by
    rw [List.length_append, List.length_singleton, List.range_succ, List.zip_append (List.length_range)]
    rfl
  rw [State.tagPut, hzip, setTag_tag, List.foldl_append]
  rfl

/-- Bytes written are read back. -/
theorem tagPut_read (off : Nat) (bs : List Byte) :
    ((List.range bs.length).map fun i => tabGet 0 (s.tagPut off bs).tag.mem (off + i)) = bs := by
  induction bs using List.reverseRecOn with
  | nil => rfl
  | append_singleton bs b ih =>
    rw [List.length_append, List.length_singleton, List.range_succ, List.map_append, tagPut_append]
    congr 1
    · refine (List.map_congr_left fun i hi => ?_).trans ih
      have hlt : i < bs.length := List.mem_range.mp hi
      exact tabGet_tabSet_ne _ _ _ (by omega)
    · simp

/-- The 16 bytes of a buffer's header. -/
def headBytes (seq len ts : Nat) : List Byte := toLE 4 seq ++ toLE 2 len ++ [0, 0] ++ toLE 6 ts ++ [0, 0]

theorem mboxHead_eq (buf seq len : Nat) :
    s.mboxHead buf seq len = s.tagPut (buf * 512) (headBytes seq len (s.get R.TIME_TSTAMP_TICKS)) := rfl

theorem mboxHead_read (buf seq len : Nat) :
    ((List.range 16).map fun i => tabGet 0 (s.mboxHead buf seq len).tag.mem (buf * 512 + i)) =
      headBytes seq len (s.get R.TIME_TSTAMP_TICKS) := by
  have hlength : (headBytes seq len (s.get R.TIME_TSTAMP_TICKS)).length = 16 := by simp [headBytes, length_toLE]
  rw [mboxHead_eq, ← hlength, tagPut_read]

/-! ### Hand-overs (R559) -/

/-- A buffer committed while main power is off: the keep is told of it later. -/
theorem mboxCommit_of_off {len : Nat} (hoff : s.pwr.main ≠ .on) (hown : s.get R.CLF_MBOX_IN_OWN = 0) :
    s.mboxCommit 0 len =
      let seq := (s.get R.CLF_MB_SEQ_IN_SEQ + 1) % 2 ^ 32
      let t := (((s.mboxHead 0 seq len).set R.CLF_MB_SEQ_IN_SEQ seq).set R.CLF_MBOX_IN_OWN 1).set R.CLF_MBOX_FILL 1
      t.setTag { t.tag with committed := true } := by
  rw [State.mboxCommit]
  dsimp only
  rw [hown, if_neg hoff, if_neg (by rw [get_set_same]; decide)]
  rfl

theorem mboxReleaseAll_second (hown : s.get R.CLF_MBOX_IN_OWN = 3) (hfill : s.get R.CLF_MBOX_FILL < 2) :
    s.mboxReleaseAll 2 = (s.set R.CLF_MBOX_IN_OWN 1).set R.CLF_MBOX_FILL 1 := by
  have hnone : s.fillBuf = none := by
    refine if_pos ?_
    rw [hown]
    generalize s.get R.CLF_MBOX_FILL = v at hfill ⊢
    interval_cases v <;> rfl
  rw [State.mboxReleaseAll, if_pos (by decide), if_neg (by decide), State.mboxRelease1]
  dsimp only
  rw [hown, if_pos (by decide), if_pos hnone]
  rfl

theorem mboxAck_first (hoff : s.pwr.main ≠ .on) (hown : s.get R.CLF_MBOX_OUT_OWN = 1) :
    s.mboxAck 0 = s.set R.CLF_MBOX_OUT_OWN 0 := by
  rw [State.mboxAck, hown, if_pos (by decide)]
  exact clfEvent_of_off (s := s.set R.CLF_MBOX_OUT_OWN 0) hoff _

theorem mboxPublishAll_second {len : Nat} (hown : s.get R.CLF_MBOX_OUT_OWN = 0) (hlen : len ≤ 496) :
    s.mboxPublishAll 2 len =
      (((s.mboxHead 3 ((s.get R.CLF_MB_SEQ_OUT_SEQ + 1) % 2 ^ 32) len).set R.CLF_MB_SEQ_OUT_SEQ
        ((s.get R.CLF_MB_SEQ_OUT_SEQ + 1) % 2 ^ 32)).set R.CLF_MBOX_OUT_OWN 2).set R.CLF_MBOX_LATEST 1 := by
  rw [State.mboxPublishAll, if_pos (by decide), if_neg (by decide), State.mboxPublish1]
  dsimp only
  rw [hown, if_neg (by simp; omega)]
  rfl

/-- The state whose hand-overs the edge registers. -/
def State.unasked (s : State) : State := s.setTag { s.tag with asked := [] }

theorem mboxEdge_commit {buf len : Nat} (h : s.tag.asked = [.commit buf len]) : s.mboxEdge = s.unasked.mboxCommit buf len := by
  rw [State.mboxEdge, h]
  rfl

theorem mboxEdge_publish {mask len : Nat} (h : s.tag.asked = [.publish mask len]) :
    s.mboxEdge = s.unasked.mboxPublishAll mask len := by
  rw [State.mboxEdge, h]
  rfl

/-- A release is registered before an ACK, whichever was asked for first. -/
theorem mboxEdge_ack_release {n mask : Nat} (h : s.tag.asked = [.ack n, .release mask]) :
    s.mboxEdge = (s.unasked.mboxReleaseAll mask).mboxAck n := by
  rw [State.mboxEdge, h]
  rfl

/-! ### What the edge makes of the hand-overs that wait (R559, R560) -/

theorem main_of_off (h : s.mainOn = false) : s.pwr.main ≠ .on := by simpa [State.mainOn] using h

section
variable (hbedrock : s.pwr.bedrock = true)
include hbedrock

theorem bedrockTick_commit {len : Nat} (hoff : s.pwr.main ≠ .on) (hasked : s.tag.asked = [.commit 0 len])
    (hown : s.get R.CLF_MBOX_IN_OWN = 0) (htstamp : s.get R.TIME_TSTAMP_TICKS < 2 ^ 48 - 1) :
    s.bedrockTick.get R.CLF_MBOX_IN_OWN = 1 ∧ s.bedrockTick.get R.CLF_MBOX_FILL = 1 ∧
    s.bedrockTick.get R.CLF_MB_SEQ_IN_SEQ = (s.get R.CLF_MB_SEQ_IN_SEQ + 1) % 2 ^ 32 ∧
    ((List.range 16).map fun i => tabGet 0 s.bedrockTick.tag.mem (0 + i)) =
      headBytes (s.bedrockTick.get R.CLF_MB_SEQ_IN_SEQ) len (s.get R.TIME_TSTAMP_TICKS + 1) ∧
    s.bedrockTick.tag.asked = [] ∧ s.bedrockTick.tag.committed = true := by
  have hnoton : s.ticked.pwr.main ≠ .on := by rw [ticked_main]; exact hoff
  have hedge := mboxEdge_commit (s := s.ticked) (ticked_tag ▸ hasked)
  rw [mboxCommit_of_off (s := s.ticked.unasked) hnoton ((ticked_get (by decide) (by decide)).trans hown)] at hedge
  have hseq : s.bedrockTick.get R.CLF_MB_SEQ_IN_SEQ = (s.get R.CLF_MB_SEQ_IN_SEQ + 1) % 2 ^ 32 := by
    rw [bedrockTick_get hbedrock (by decide), hedge]
    dsimp only
    rw [setTag_get, get_set_ne _ _ _ _ (by decide), get_set_ne _ _ _ _ (by decide), get_set_same,
      ← ticked_get (s := s) (f := R.CLF_MB_SEQ_IN_SEQ) (by decide) (by decide)]
    exact Nat.mod_mod _ _
  have hread := mboxHead_read (s := s.ticked.unasked) 0 ((s.ticked.get R.CLF_MB_SEQ_IN_SEQ + 1) % 2 ^ 32) len
  refine ⟨?_, ?_, hseq, ?_, ?_, ?_⟩
  · rw [bedrockTick_get hbedrock (by decide), hedge]
    dsimp only
    rw [setTag_get, get_set_ne _ _ _ _ (by decide), get_set_same]
    rfl
  · rw [bedrockTick_get hbedrock (by decide), hedge]
    dsimp only
    rw [setTag_get, get_set_same]
    rfl
  · rw [hseq, bedrockTick_tag hbedrock, hedge, ← ticked_tstamp htstamp,
      ← ticked_get (s := s) (f := R.CLF_MB_SEQ_IN_SEQ) (by decide) (by decide)]
    rw [Nat.zero_mul] at hread
    exact hread
  · rw [bedrockTick_tag hbedrock, hedge]
    rfl
  · rw [bedrockTick_tag hbedrock, hedge]
    rfl

theorem bedrockTick_ack_release (hoff : s.pwr.main ≠ .on) (hasked : s.tag.asked = [.ack 0, .release 2])
    (hown : s.get R.CLF_MBOX_IN_OWN = 3) (hfill : s.get R.CLF_MBOX_FILL < 2) (hout : s.get R.CLF_MBOX_OUT_OWN = 1) :
    s.bedrockTick.get R.CLF_MBOX_IN_OWN = 1 ∧ s.bedrockTick.get R.CLF_MBOX_FILL = 1 ∧
    s.bedrockTick.get R.CLF_MBOX_OUT_OWN = 0 ∧ s.bedrockTick.tag.asked = [] := by
  have hnoton : s.ticked.pwr.main ≠ .on := by rw [ticked_main]; exact hoff
  have hedge := mboxEdge_ack_release (s := s.ticked) (ticked_tag ▸ hasked)
  have hget {f : Fld} (hf : 0xFF00081000 ≤ f.addr) (hne : R.TIME_TSTAMP_TICKS.key ≠ f.key) : s.ticked.unasked.get f = s.get f :=
    ticked_get hf hne
  rw [mboxReleaseAll_second ((hget (by decide) (by decide)).trans hown)
      (by rw [hget (by decide) (by decide)]; exact hfill),
    mboxAck_first (s := (s.ticked.unasked.set R.CLF_MBOX_IN_OWN 1).set R.CLF_MBOX_FILL 1) hnoton
      (by rw [get_set_ne _ _ _ _ (by decide), get_set_ne _ _ _ _ (by decide), hget (by decide) (by decide), hout])] at hedge
  refine ⟨?_, ?_, ?_, ?_⟩
  · rw [bedrockTick_get hbedrock (by decide), hedge, get_set_ne _ _ _ _ (by decide), get_set_ne _ _ _ _ (by decide), get_set_same]
    rfl
  · rw [bedrockTick_get hbedrock (by decide), hedge, get_set_ne _ _ _ _ (by decide), get_set_same]
    rfl
  · rw [bedrockTick_get hbedrock (by decide), hedge, get_set_same]
    rfl
  · rw [bedrockTick_tag hbedrock, hedge]
    rfl

theorem bedrockTick_publish {len : Nat} (hasked : s.tag.asked = [.publish 2 len]) (hown : s.get R.CLF_MBOX_OUT_OWN = 0)
    (hlen : len ≤ 496) (htstamp : s.get R.TIME_TSTAMP_TICKS < 2 ^ 48 - 1) :
    s.bedrockTick.get R.CLF_MBOX_OUT_OWN = 2 ∧ s.bedrockTick.get R.CLF_MBOX_LATEST = 1 ∧
    s.bedrockTick.get R.CLF_MB_SEQ_OUT_SEQ = (s.get R.CLF_MB_SEQ_OUT_SEQ + 1) % 2 ^ 32 ∧
    ((List.range 16).map fun i => tabGet 0 s.bedrockTick.tag.mem (1536 + i)) =
      headBytes (s.bedrockTick.get R.CLF_MB_SEQ_OUT_SEQ) len (s.get R.TIME_TSTAMP_TICKS + 1) ∧
    s.bedrockTick.tag.asked = [] := by
  have hedge := mboxEdge_publish (s := s.ticked) (ticked_tag ▸ hasked)
  rw [mboxPublishAll_second (s := s.ticked.unasked) ((ticked_get (by decide) (by decide)).trans hown) hlen] at hedge
  have hseq : s.bedrockTick.get R.CLF_MB_SEQ_OUT_SEQ = (s.get R.CLF_MB_SEQ_OUT_SEQ + 1) % 2 ^ 32 := by
    rw [bedrockTick_get hbedrock (by decide), hedge, get_set_ne _ _ _ _ (by decide), get_set_ne _ _ _ _ (by decide), get_set_same,
      ← ticked_get (s := s) (f := R.CLF_MB_SEQ_OUT_SEQ) (by decide) (by decide)]
    exact Nat.mod_mod _ _
  have hread := mboxHead_read (s := s.ticked.unasked) 3 ((s.ticked.get R.CLF_MB_SEQ_OUT_SEQ + 1) % 2 ^ 32) len
  refine ⟨?_, ?_, hseq, ?_, ?_⟩
  · rw [bedrockTick_get hbedrock (by decide), hedge, get_set_ne _ _ _ _ (by decide), get_set_same]
    rfl
  · rw [bedrockTick_get hbedrock (by decide), hedge, get_set_same]
    rfl
  · rw [hseq, bedrockTick_tag hbedrock, hedge, ← ticked_tstamp htstamp,
      ← ticked_get (s := s) (f := R.CLF_MB_SEQ_OUT_SEQ) (by decide) (by decide)]
    rw [show 3 * 512 = 1536 from rfl] at hread
    exact hread
  · rw [bedrockTick_tag hbedrock, hedge]
    rfl

end

end Sys2Proof.Machine
end

section
set_option Elab.async false
namespace Sys2Proof.Machine

/-- Settles O60: a command by whether its protection opens, a hand-over by what the bedrock edge makes of it. -/
theorem tagMailbox : Obligations.TagMailbox := by
  unfold Obligations.TagMailbox
  intro s sw none_ aad answered opened put asked at_
  refine ⟨?_, ?_, ?_, ?_, ?_, ?_, ?_, ?_, ?_, ?_, ?_, ?_, ?_⟩
  · exact fun p htalks hp => congrArg Host.Outcome.next (tagRead_clear htalks hp)
  · intro c htalks hc
    simp only [List.mem_cons, List.not_mem_nil, or_false] at hc
    obtain rfl | rfl | rfl | rfl | rfl | rfl := hc
    · exact congrArg Host.Outcome.next (tagRead_later htalks)
    all_goals exact congrArg Host.Outcome.next (tagApdu_clear htalks)
  · intro p1 data b le ⟨hon, hiso, hsession⟩ ⟨hp1, hci, hcr⟩
    refine ⟨_, rfl, fun hopen => ?_, tagApdu_unopened ⟨hon, hiso⟩ hsession⟩
    refine tagApdu_kept ⟨hon, hiso⟩ hsession hopen ?_ hsession hci hcr
    rw [if_neg (by simp), if_neg (by omega), if_neg (by simp)]
  · intro data b ⟨hon, hiso, hsession⟩ ⟨hci, hcr⟩
    refine ⟨_, rfl, fun hopen => ?_, tagApdu_unopened ⟨hon, hiso⟩ hsession⟩
    exact tagApdu_kept ⟨hon, hiso⟩ hsession hopen rfl hsession hci hcr
  · intro p1 p2 data b ⟨hon, hiso, hsession⟩ ⟨hci, hcr, _, hlow, hhigh⟩ ⟨hfree, hasked⟩
    refine ⟨_, rfl, tagApdu_unopened ⟨hon, hiso⟩ hsession, fun pt hopen hleast hmost hfits => ?_⟩
    refine tagApdu_kept ⟨hon, hiso⟩ hsession hopen ?_ (by exact hsession) hci hcr
    rw [if_neg (by omega), if_neg (by omega), fieldSide_of_none hasked, fillBuf_of_free hfree]
    exact if_neg (by omega)
  · intro data b ⟨hon, hiso, hsession, hasked⟩ ⟨hci, hcr, hfill, hown⟩
    refine ⟨_, rfl, tagApdu_unopened ⟨hon, hiso⟩ hsession, fun pt hopen hlength hlen => ?_⟩
    refine tagApdu_kept ⟨hon, hiso⟩ hsession hopen ?_ (by exact hsession) hci hcr
    rw [if_neg (by omega), if_neg (by simp), fieldSide_of_none hasked, fillBuf_of_free (by rw [hown, Nat.zero_testBit]), hfill]
    exact if_neg (by omega)
  · intro p1 data b ⟨hon, hiso, hsession⟩ ⟨hci, hcr, hp1, hown, hasked⟩
    refine ⟨_, rfl, tagApdu_unopened ⟨hon, hiso⟩ hsession, fun hopen => ?_⟩
    refine tagApdu_kept ⟨hon, hiso⟩ hsession hopen ?_ (by exact hsession) hci hcr
    rw [if_neg (by simp), if_neg (by omega), fieldSide_of_none hasked]
    exact if_pos hown
  · intro data b ⟨hon, hiso, hsession⟩
    refine ⟨_, rfl, tagApdu_unopened ⟨hon, hiso⟩ hsession, fun hopen => ?_⟩
    have hended := tagApdu_ended (needs := true) (d := []) (w := 0x9000) (t := s.tagSession none) ⟨hon, hiso⟩ hsession hopen
      (f := fun s _ pt => if pt ≠ [] then tagNo s 0x6700
        else if 0 ≠ 0 ∨ 0 ≠ 0 then tagNo s 0x6A86 else tagNo (s.tagSession none) 0x9000) rfl rfl
    rw [State.tagEnd, hended]
    exact ⟨rfl, tagSession_none_get, rfl⟩
  · intro m hruns hm hkeep
    exact next_of_keep hruns hkeep (by rw [Nat.mod_eq_of_lt hm]; rfl)
  · intro m len hruns ⟨hm, hlen⟩ hkeep
    exact next_of_keep hruns hkeep (by rw [Nat.mod_eq_of_lt hm, Nat.mod_eq_of_lt hlen]; rfl)
  · intro len ⟨hpending, hmain, hbedrock, hoff⟩ ⟨hasked, hown, htstamp⟩
    have hnoton : s.pwr.main ≠ .on := by simp [hoff]
    exact ⟨_, step_of_off hpending hmain, bedrockTick_commit hbedrock hnoton hasked hown htstamp⟩
  · intro ⟨hpending, hmain, hbedrock⟩ ⟨hasked, hown, hfill, hout⟩
    exact ⟨_, step_of_off hpending hmain, bedrockTick_ack_release hbedrock (main_of_off hmain) hasked hown hfill hout⟩
  · intro len ⟨hpending, hmain, hbedrock⟩ ⟨hasked, hown, hlen, htstamp⟩
    exact ⟨_, step_of_off hpending hmain, bedrockTick_publish hbedrock hasked hown hlen htstamp⟩

end Sys2Proof.Machine
end
